-- ==== Sys2Proof/Syntax.lean ====
section
/-! DEFINITION. The commands of the block: one constructor of `Instr` per row of the spec's table of operations and
events, with the operands that the row's rules give it. What the environment supplies (an analogue result, a pin level,
the data of a host read) is an operand of the command that delivers it. -/

namespace Sys2Proof

/-- A Tussock, by its global number g = 64 × n + t (R19). -/
abbrev Tsk := Fin 256
/-- A physical array of a Tussock (R20). -/
abbrev Arr := Fin 17
/-- A channel (R15). -/
abbrev Chn := Fin 4
/-- A Lea port. -/
abbrev Port := Fin 4
/-- An engine of a channel: 0 compute, 1 load, 2 copy, 3 check (R225). -/
abbrev Eng := Fin 4
/-- An active slot of a Tussock (R136). -/
abbrev Slot := Fin 16
/-- A model context (R264). -/
abbrev Ctx := Fin 64
/-- A field digital input FINi (R362). -/
abbrev FinIx := Fin 24
/-- An encoder (R366). -/
abbrev EncIx := Fin 4
/-- A trigger queue (R369). -/
abbrev TqIx := Fin 8
/-- An analogue input channel (R378). -/
abbrev AinCh := Fin 16
/-- An analogue output (R394). -/
abbrev AoutIx := Fin 4

/-- Who reaches a register (R480, R483): the host over PCIe, or the management core (with its standing programs). -/
inductive Agent where
  | host
  | mgmt
  deriving DecidableEq, Repr

/-- Who pops a trigger queue; each has its own holding register (R372). -/
inductive Popper where
  | host
  | mgmt
  | standing
  deriving DecidableEq, Repr

/-- What an ECC check of a stored word or link found. -/
inductive Ecc where
  /-- no error -/
  | ok
  /-- a single-bit error, corrected -/
  | ce
  /-- an uncorrectable error -/
  | ue
  deriving DecidableEq, Repr

/-- The registers that AIN_CONFIG_WRITE reaches (R392). -/
inductive AinCfgReg where
  | pace
  | inj
  | chcfg (c : AinCh)
  deriving DecidableEq, Repr

/-- The registers of an analogue output that hold staged fields (R397). -/
inductive AoutReg where
  | cfg
  | value
  | ftw
  | shape
  | phase
  deriving DecidableEq, Repr

/-- A task's read of a key-value cache (R126 to R130): first data block of the bank and how many, the bank block of the scale
stream and the entry with which it starts, the form, and the address of the cache's tensor record. -/
structure CacheRead where
  block : Nat
  count : Nat
  scaleBlock : Nat
  entry : Nat
  int4 : Bool
  record : Nat
  deriving DecidableEq, Repr

/-- What the analogue path of a calibration gives at one point of a window (R277, R278, R282). -/
structure CalFinding where
  /-- Calibrate operations of the stage in progress, in order, each by its evaluation cycle and the deviations of its columns' codes from
  the ideal transfer -/
  ops : List (BitVec 8 × List (Fin 260 × Int))
  /-- row tests: a row, and the mean outputs of reference columns A and B with it alone at level 15, in 1/64 dot-product units; a row
  not listed gives 15 × w in both -/
  drivers : List (Fin 512 × Int × Int)
  /-- read-back of the round that begins: data cell pairs sensed at other levels than they hold -/
  sensed : List (Fin 512 × Fin 256 × Fin 16 × Fin 16)
  deriving DecidableEq, Repr

/-- The registers of an engine that ENG_CFG_WRITE reaches (R227, R232). -/
inductive EngReg where
  | ringBase
  | ctrlAddr
  | cplBase
  | cfg
  deriving DecidableEq, Repr

/-- The header of a frame that a Lea port receives with a correct link CRC (R338), and how many symbols its codewords had
corrected (R336). -/
structure LeaHdr where
  fseq : BitVec 8
  ack : BitVec 8
  nak : Bool
  dcred : BitVec 8
  ccred : BitVec 3
  corr : BitVec 12
  deriving DecidableEq, Repr

/-- Where a control message goes and whence it came (R354). -/
structure LeaRoute where
  dest : BitVec 4
  origin : BitVec 4
  hops : BitVec 8
  jobref : BitVec 16
  deriving DecidableEq, Repr

/-- A temperature sensor (R401). -/
abbrev Sens := Fin 164

/-- A pin-function register (R503). -/
inductive PinReg where
  | fin (i : FinIx)
  | enc (e : EncIx)
  | out (k : Fin 24)
  deriving DecidableEq, Repr

/-- The commands: operations, register accesses and events that change the state of the device. -/
inductive Instr where
  /-- `SWATH_BOUNDARY` (R8): device time crosses a multiple of 8,192 ns; `drift` is what the Stile copy of device time has gained on it since the last boundary, in ns. -/
  | swathBoundary (drift : Int) (flips : List (BitVec 48 × Ecc)) (flits : List (Fin 20 × Ecc))
  /-- `STILE_TIME_RELOAD` (R14): the Stile die reloads its copy of device time. -/
  | stileTimeReload
  /-- `TASK_ISSUE` (R222): the scheduler issues the tile tasks of job `job` whose work swath is the next one (R222, R238). -/
  | taskIssue (job : Nat)
  /-- `JOB_TIMEOUT` (R203): a boundary at which the timer of job `job` may have run out (R203, R349). -/
  | jobTimeout (job : Nat)
  /-- `COMPLETION_RECORD_WRITE` (R243): the owning engine writes the record of job `job` if it is due (R202, R203, R243). -/
  | completionRecordWrite (job : Nat)
  /-- `SWATH_MARKER` (R25): a marker with swath number w reaches Tussock g (R25, R156, R160). -/
  | swathMarker (g : Tsk) (w : BitVec 51)
  /-- `MARKER_LATE` (R156): no marker within 12,336 Tussock clocks of the previous one (R156). -/
  | markerLate (g : Tsk)
  /-- `TUSSOCK_LOCK_LOSS` (R156): the PLL of Tussock g reports loss of lock (R156). -/
  | tussockLockLoss (g : Tsk)
  /-- `TILE_TASK_ENQUEUE` (R141): a tile task of eight words arrives at the sequencer of Tussock g (R137 to R142). -/
  | tileTaskEnqueue (g : Tsk) (w0 w1 w2 w3 w4 w5 w6 w7 : Word)
  /-- `EVAL` (R44): cycle c opens in Tussock g and the first queued EVAL task for it latches its inputs; `ecc` holds the findings of the bank reads, block by block (R44, R143, R150). -/
  | eval (g : Tsk) (c : BitVec 8) (ecc : List Ecc)
  /-- `PHASE_B` (R105): cycle c opens in Tussock g and the first two-phase task due for phase B latches its low nibbles (R105). -/
  | phaseB (g : Tsk) (c : BitVec 8) (ecc : List Ecc)
  /-- `SHADOW` (R139): Tussock g runs its first queued SHADOW task; `fails` runs of it fail their digital check (R139, R311). -/
  | shadow (g : Tsk) (ecc : List Ecc) (fails : Fin 3)
  /-- `MATMUL` (R139): Tussock g runs its first queued MATMUL task, reading a key-value cache where `cache` says so (R129, R139, R311). -/
  | matmul (g : Tsk) (ecc : List Ecc) (cache : Option CacheRead) (digFail : Bool)
  /-- `VECTOR` (R147): Tussock g runs its first queued VECTOR task (R128, R129, R147). -/
  | vector (g : Tsk) (ecc : List Ecc) (cache : Option CacheRead) (digFail : Bool)
  /-- `CONVERSION` (R73): the converters of array a convert its oldest sample; `dev` gives the columns whose code differs from the ideal transfer of the exact column value, and by how many codes (R73, R77, R82). -/
  | conversion (g : Tsk) (a : Arr) (dev : List (Fin 260 × Int))
  /-- `LOOKUP` (R74): the codes of array a's oldest conversion are linearised and reach the Tuft and the Gorse lane; `ecc` gives the table words, by their offset in the table SRAM, that were read with an error (R74, R97, R98). -/
  | lookup (g : Tsk) (a : Arr) (ecc : List (BitVec 16 × Ecc))
  /-- `TABLE_ECC_WRITEBACK` (R97): the table sequencer of Tussock g writes back the oldest corrected word that waits (R97). -/
  | tableEccWriteback (g : Tsk)
  /-- `PARTIAL_SUM_DELIVERY` (R148): the oldest complete partial sum of Tussock g reaches its combining Tuft (R148, R504). -/
  | partialSumDelivery (g : Tsk) (digFail : Bool)
  /-- `RECOMPUTE_RERUN` (R123): the far-off production whose output tensor record lies at address r runs again (R123). -/
  | recomputeRerun (r : BitVec 48)
  /-- `RESTORE_SLOT` (R61): cycle c is a restore slot of array a: `marginal` says whether the row that is sensed holds a marginal cell, and `sensed` gives its cells whose nearest levels are not those last written (R56, R61, R63). -/
  | restoreSlot (g : Tsk) (a : Arr) (c : BitVec 8) (marginal : Bool) (sensed : List (Fin 260 × Fin 16 × Fin 16))
  /-- `ROW_WRITE` (R54): cycle c is the fifth write cycle of the next row of array a's write, or of its first placed repair row: the row is written; `fails` gives the cells that end outside their window and the levels they reached (R54, R55). -/
  | rowWrite (g : Tsk) (a : Arr) (c : BitVec 8) (fails : List (Fin 260 × Fin 16 × Fin 16))
  /-- `CHECK_SLOT` (R306): cycle c is a check slot of slot k of Tussock g (R56, R306, R313). -/
  | checkSlot (g : Tsk) (k : Slot) (c : BitVec 8)
  /-- `CHECK_COMPARISON` (R308): the re-run and the shadow of slot k's check are there and are compared with the sample (R308). -/
  | checkComparison (g : Tsk) (k : Slot)
  /-- `ARBITRATION_START` (R313): the oldest queued arbitration of Tussock g starts (R312, R313). -/
  | arbitrationStart (g : Tsk)
  /-- `ARBITRATION_DECIDE` (R315): the arbitration of Tussock g is decided with the opinions gathered so far (R314, R315). -/
  | arbitrationDecide (g : Tsk)
  /-- `CHECKSUM_REFRESH_END` (R317): the restore sweep of a checksum refresh of array a is complete (R317). -/
  | checksumRefreshEnd (g : Tsk) (a : Arr)
  /-- `REPAIR_WRITES_PLACE` (R318): a swath boundary with a repair of Tussock g at its second step (R318, R319). -/
  | repairWritesPlace (g : Tsk)
  /-- `REPAIR_RERUN` (R318): the arbitration vectors of a repair are re-run on the reserve; `dev` gives, vector by vector, the columns whose code differs from the ideal transfer (R318). -/
  | repairRerun (g : Tsk) (dev : List (BitVec 8 × List (Fin 260 × Int)))
  /-- `TILE_REPROGRAMMING` (R318): the rewriting of the array under repair begins (R318). -/
  | tileReprogramming (g : Tsk)
  /-- `TOKEN_DECISION` (R320): a boundary at which the check horizon of a job has passed (R320). -/
  | tokenDecision (job : Nat)
  /-- `PROV_ENTRY_TIMEOUT` (R357): a boundary at which entry e of the provisional table has waited 32 swaths for its upstream token (R357). -/
  | provEntryTimeout (e : Nat)
  /-- `DIGEST_SEND` (R327): a boundary of the replica period: the digest of context c is sent (R327, R358). -/
  | digestSend (c : Ctx)
  /-- `REPLICA_DECISION` (R327): the boundary 16 swaths after a replica period: the digests of context c are counted (R327, R328). -/
  | replicaDecision (c : Ctx)
  /-- `READMIT` (R329): a write of GRS_REP_CTRL with READMIT and CONTEXT = c (R329). -/
  | readmit (c : Ctx)
  /-- `TEST_VECTOR` (R331): cycle c opens for the next vector of command `cmd` of job `job`; `dev` gives the columns whose code differs from the ideal transfer (R331 to R333). -/
  | testVector (job cmd : Nat) (c : BitVec 8) (dev : List (Fin 260 × Int))
  /-- `FRACTION_WRITE` (R309): a write of GRS_CFG.FRACTION (R309). -/
  | fractionWrite (v : BitVec 3)
  /-- `FRACTION_CHANGE_EFFECT` (R309): a boundary after the last work swath of every job admitted before a change of FRACTION (R309). -/
  | fractionChangeEffect
  /-- `HORIZON_WRITE` (R324): a write of GRS_CFG.HORIZON (R324). -/
  | horizonWrite (v : BitVec 5)
  /-- `GRS_CLR_CNT` (R312): a write of GRS_CTRL.CLR_CNT. -/
  | grsClrCnt
  /-- `GRS_CLR_PEAK` (R322): a write of GRS_CTRL.CLR_PEAK. -/
  | grsClrPeak
  /-- `SLOT_EXCHANGE` (R153): an evaluation-cycle boundary of Tussock g at which an exchange is requested (R152, R153). -/
  | slotExchange (g : Tsk)
  /-- `QUARANTINE` (R159): an evaluation-cycle boundary of Tussock g with a quarantine cause waiting (R159). -/
  | quarantine (g : Tsk)
  /-- `TSK_QUARANTINE_WRITE` (R158): a write of 1 to TSK_CTRL.QUARANTINE (R158). -/
  | tskQuarantineWrite (g : Tsk)
  /-- `TSK_REENABLE` (R160): a write of 1 to TSK_CTRL.REENABLE, with TABLE_IDENTITY (R160). -/
  | tskReenable (g : Tsk) (identity : Bool)
  /-- `REENABLE_SERVICE` (R160): a swath boundary finds slots 0 to 15 of a REENABLING Tussock VALID and calibrated (R160, step 6). -/
  | reenableService (g : Tsk)
  /-- `TSK_CLR_SEQ` (R142): a write of TSK_CTRL.CLR_SEQ. -/
  | tskClrSeq (g : Tsk)
  /-- `BANK_CLR_ECC` (R150): a write of TSK_BANK_ECC.CLR_ECC. -/
  | bankClrEcc (g : Tsk)
  /-- `ARR_CLR_CNT` (R63): a write of TSK_ARR_CTRL.CLR_CNT. -/
  | arrClrCnt (g : Tsk) (a : Arr)
  /-- `CONV_CFG_WRITE` (R93): a host write of RANGE and MASK_EN of TSK_CONV_CFG (R93). -/
  | convCfgWrite (g : Tsk) (a : Arr) (range : BitVec 3) (maskEn : Bool)
  /-- `CONV_CLR_SAT` (R93): a write of TSK_CONV_CFG.CLR_SAT. -/
  | convClrSat (g : Tsk) (a : Arr)
  /-- `TABLE_CLR_ECC` (R97): a write of TSK_CONV_STATUS.CLR_ECC. -/
  | tableClrEcc (g : Tsk)
  /-- `PASS_START` (R287): a boundary at which a condition for a calibration pass of Tussock g holds (R287). -/
  | passStart (g : Tsk)
  /-- `WINDOW_STAGE` (R282): the window of Tussock g reaches its next stage; `f` is what the stage that ends has found (R282 to R285). -/
  | windowStage (g : Tsk) (f : CalFinding)
  /-- `WINDOW_END` (R286): the boundary that ends the window of Tussock g (R286). -/
  | windowEnd (g : Tsk)
  /-- `ABANDON_RETURN_VALID` (R291): an evaluation-cycle boundary after a window of Tussock g was abandoned (R291). -/
  | abandonReturnValid (g : Tsk)
  /-- `REFGEN_APPLY` (R293): an evaluation-cycle boundary after a change of TEMP (R293). -/
  | refgenApply (g : Tsk)
  /-- `BRINGUP_CALIBRATION` (R295): the next group of arrays of a re-enable has been calibrated; `fs` gives what was found in each (R295, R296). -/
  | bringupCalibration (g : Tsk) (fs : List (Arr × List CalFinding))
  /-- `BRK_START_PASS` (R287): a write of BRK_CTRL.START_PASS (R287). -/
  | brkStartPass (g : Tsk)
  /-- `BRK_ABORT` (R291): a write of BRK_CTRL.ABORT (R291). -/
  | brkAbort (g : Tsk)
  /-- `BRK_CLR_CNT` (R291): a write of BRK_CTRL.CLR_CNT. -/
  | brkClrCnt (g : Tsk)
  /-- `TRIM_DATA_READ` (R298): a read of BRK_TRIM_DATA (R298). -/
  | trimDataRead (g : Tsk) (r : Agent)
  /-- `TRIM_DATA_WRITE` (R298): a write of BRK_TRIM_DATA (R298). -/
  | trimDataWrite (g : Tsk) (v : Word)
  /-- `BLOCK_ARRIVE` (R174): a block with this payload and tag, sent for command `cmd` of job `job` by an engine or Tussock of channel n, is written at address a after a link finding (R165, R174). -/
  | blockArrive (n : Chn) (job cmd : Nat) (a : BitVec 48) (data : List Byte) (crc : Word) (tid seq : BitVec 16) (link : Ecc) (expect : Option (BitVec 16 × BitVec 16))
  /-- `PCIE_INBOUND_WRITE` (R184): an inbound PCIe write of bytes at an offset of BAR2; `ecc` holds the findings on the stored blocks, block by block, that a merge reads (R180, R184). -/
  | pcieInboundWrite (off : BitVec 38) (bytes : List Byte) (ecc : List Ecc)
  /-- `PCIE_INBOUND_READ` (R183): an inbound PCIe read of `len` bytes at an offset of BAR2, with the findings of the read, word by word in table SRAM and block by block elsewhere (R183, R150, R97). -/
  | pcieInboundRead (off : BitVec 38) (len : BitVec 13) (ecc : List Ecc)
  /-- `T3_READ_COMPLETION` (R189): host memory answers the oldest read outstanding with a payload and its tag (R179, R189). -/
  | t3ReadCompletion (data : List Byte) (crc : Word) (tid seq : BitVec 16) (link : Ecc)
  /-- `RGN_FAULT_CLEAR` (R186): a write of 1 to GLB_RGN_FAULT_INFO.VALID. -/
  | rgnFaultClear
  /-- `BAR2_BASE_WRITE` (R182): an 8-byte write of PCI_BAR2_BASE (R182). -/
  | bar2BaseWrite (v : Word64)
  /-- `T3_LATE_CLR` (R189): a write of PCI_T3_LATE.CLR. -/
  | t3LateClr
  /-- `HDG_ERR_CLR` (R174): a write of CHN_HDG_ERR.CLR. -/
  | hdgErrClr (n : Chn)
  /-- `STK_ERR_CLR` (R177): a write of CHN_STK_ERR.CLR. -/
  | stkErrClr (n : Chn)
  /-- `INGRESS_STALL` (R223): inbound posted writes have been held back for more than 1,024 ns in this swath (R223). -/
  | ingressStall
  /-- `ING_STALL_CLR` (R223): a write of PCI_ING_STALL.CLR. -/
  | ingStallClr
  /-- `ADM_CLR_CNT` (R215): a write of CHN_ADM_CTRL.CLR_CNT. -/
  | admClrCnt (n : Chn)
  /-- `ADM_CLR_PEAK` (R215): a write of CHN_ADM_CTRL.CLR_PEAK. -/
  | admClrPeak (n : Chn)
  /-- `JOB` (R234): while the admission of a boundary runs, the JOB command at the head of the K2 ring of engine e of channel n is taken, checked and decided, if it is that engine's turn (R214, R224, R230, R242). -/
  | job (n : Chn) (e : Eng)
  /-- `NOP` (R233): while admission runs, a NOP at the head of the K2 ring of engine e of channel n is taken; as a body command a NOP does nothing (R230, R233). -/
  | nop (n : Chn) (e : Eng)
  /-- `TASKS` (R237): TASKS command `cmd` of job `job` is carried out in the swath before its work swath (R237, R238). -/
  | tasks (job cmd : Nat)
  /-- `COPY` (R239): COPY command `cmd` of job `job` moves its next block; `ecc` is the finding of the source read, `link` that of the way to the destination (R239, R165). -/
  | copy (job cmd : Nat) (ecc link : Ecc)
  /-- `AWRITE` (R240): AWRITE command `cmd` of job `job` begins in its work swath; `ecc` holds the findings of the source blocks in order (R240, R268). -/
  | awrite (job cmd : Nat) (ecc : List Ecc)
  /-- `LOADPKG` (R260): command `cmd` of job `job` reads and re-lays its package in its work swath; `ecc` gives the package blocks that were read with an error. -/
  | loadpkg (job cmd : Nat) (ecc : List (BitVec 24 × Ecc))
  /-- `CTXPTR` (R265): command `cmd` of job `job` posts its pointer in its work swath (R265, R266). -/
  | ctxptr (job cmd : Nat)
  /-- `TESTPAT` (R331): TESTPAT command `cmd` of job `job` reads its package in its work swath; `ecc` gives the blocks read with an error (R330, R333). -/
  | testpat (job cmd : Nat) (ecc : List (BitVec 24 × Ecc))
  /-- `DIGEST` (R326): DIGEST command `cmd` of job `job` in its work swath. -/
  | digest (job cmd : Nat)
  /-- `ENG_CFG_WRITE` (R232): a write of a register of engine e of channel n (R227, R232). -/
  | engCfgWrite (n : Chn) (e : Eng) (r : EngReg) (v : Word64)
  /-- `ENG_ENABLE` (R232): the latest boundary latches EN of engine e of channel n as 1. -/
  | engEnable (n : Chn) (e : Eng)
  /-- `ENG_DISABLE` (R232): the latest boundary latches EN of engine e of channel n as 0. -/
  | engDisable (n : Chn) (e : Eng)
  /-- `MSIX_MESSAGE` (R248): the coalesced message of vector v is due (R248). -/
  | msixMessage (v : Fin 64)
  /-- `MSIX_UNMASK` (R248): software unmasks vector v (R248). -/
  | msixUnmask (v : Fin 64)
  /-- `K1_RUN` (R250): while admission runs, a RUN at the head of the K1 ring of engine e of channel n is translated and taken (R250, R251). -/
  | k1Run (n : Chn) (e : Eng)
  /-- `K1_COPY` (R250): the same for a COPY (R250, R251). -/
  | k1Copy (n : Chn) (e : Eng)
  /-- `K1_LOAD` (R250): the same for a LOAD (R250). -/
  | k1Load (n : Chn) (e : Eng)
  /-- `K1_FENCE` (R250): a FENCE at the ring head is taken: the front end takes no later command until it is cleared (R250). -/
  | k1Fence (n : Chn) (e : Eng)
  /-- `K1_FENCE_CLEAR` (R250): every earlier job of a fenced ring has reached STATE 2, 3 or 4 (R250). -/
  | k1FenceClear (n : Chn) (e : Eng)
  /-- `K1_INTR` (R250): an INTR at the ring head is taken once FENCE's condition holds (R250). -/
  | k1Intr (n : Chn) (e : Eng)
  /-- `K1_NOP` (R250): a K1 NOP at the ring head is taken (R250). -/
  | k1Nop (n : Chn) (e : Eng)
  /-- `SIGNATURE_VERIFY` (R260): the verification unit serves its oldest request (R260, R333, R471). -/
  | signatureVerify
  /-- `MANIFEST_WRITE` (R260): the manifest of the image that command `cmd` of job `job` has built is due. -/
  | manifestWrite (job cmd : Nat)
  /-- `CONTEXT_CHANGE_EFFECT` (R267): a boundary with a change of context c pending, before any job of the boundary is decided (R267, R269). -/
  | contextChangeEffect (c : Ctx)
  /-- `REPLACING_END` (R272): a boundary after the last replacement write of context c. -/
  | replacingEnd (c : Ctx)
  /-- `OLD_BUSY_CLEAR` (R272): a boundary at which the old image of context c may stop being old-busy. -/
  | oldBusyClear (c : Ctx)
  /-- `UNLOAD_EMPTY` (R271): a boundary in the unload of context c. -/
  | unloadEmpty (c : Ctx)
  /-- `CTX_EVENTS_CLR` (R265): a write of GLB_CTX_EVENTSc.CLR. -/
  | ctxEventsClr (c : Ctx)
  /-- `LD_CLR` (R261): a write of CHN_LD_CTRL.CLR. -/
  | ldClr (n : Chn)
  /-- `DIST_STAT_CLR` (R275): a write of GLB_DIST_STAT.CLR. -/
  | distStatClr
  /-- `LEA_ENABLE` (R341): LEA_PORT_CFG.EN of port p is set. -/
  | leaEnable (p : Port)
  /-- `LEA_DISABLE` (R341): LEA_PORT_CFG.EN of port p is cleared. -/
  | leaDisable (p : Port)
  /-- `LEA_RETRAIN` (R341): LEA_PORT_CFG.RETRAIN of port p is written with 1. -/
  | leaRetrain (p : Port)
  /-- `LEA_TRAIN_DONE` (R341): the lanes of port p are equalised within 40 ms. -/
  | leaTrainDone (p : Port)
  /-- `LEA_ALIGN_DONE` (R341): port p has codeword lock and deskew within 1 ms. -/
  | leaAlignDone (p : Port)
  /-- `LEA_ATTEMPT_FAIL` (R341): a training stage of port p overruns its time. -/
  | leaAttemptFail (p : Port)
  /-- `LEA_TRAIN_FRAME` (R342): port p receives a TRAIN frame with these contents; `agreed` says that the partner has received three from this port (R342). -/
  | leaTrainFrame (p : Port) (kind rate : BitVec 8) (node : BitVec 4) (port dbuf cbuf : BitVec 8) (agreed : Bool)
  /-- `LEA_LOCK_LOSS` (R341): port p has been without codeword lock for 1 µs. -/
  | leaLockLoss (p : Port)
  /-- `LEA_BREAK_END` (R341): the break pattern of port p has lasted 10 µs. -/
  | leaBreakEnd (p : Port)
  /-- `LEA_FRAME_SLOT` (R340): an outbound frame slot of port p, which job `job` holds (0: none). -/
  | leaFrameSlot (p : Port) (job : Nat)
  /-- `LEA_DATA_FRAME` (R352): a DATA frame arrives on port p for bits [47:8] `addr` of a device address, with its block and tag. -/
  | leaDataFrame (p : Port) (h : LeaHdr) (prov : Bool) (addr : BitVec 40) (origin : BitVec 4) (jobref : BitVec 16) (data : List Byte) (crc : Word) (tid seq : BitVec 16)
  /-- `LEA_IDLE_FRAME` (R339): an IDLE frame arrives on port p. -/
  | leaIdleFrame (p : Port) (h : LeaHdr)
  /-- `LEA_BAD_FRAME` (R345): a frame arrives on port p that cannot be accepted: `crcBad` a link CRC failure or a reserved type, else an unexpected FSEQ; `uncorr` codewords were uncorrectable. -/
  | leaBadFrame (p : Port) (crcBad : Bool) (uncorr : BitVec 8)
  /-- `LEA_NAK` (R346): a frame that asks for a replay from ACK + 1 arrives on port p; its header counts as that of an IDLE frame with NAK set. -/
  | leaNak (p : Port) (h : LeaHdr)
  /-- `LEA_REPLAY_TIMEOUT` (R346): ACK has not advanced on port p for 512 ns while frames are buffered. -/
  | leaReplayTimeout (p : Port)
  /-- `RETRY_EXHAUSTED` (R348): the retry episode of port p has stayed open for 10 µs. -/
  | retryExhausted (p : Port)
  /-- `CREDIT_STALL` (R353): the data credits of port p have been exhausted for 1,024 ns. -/
  | creditStall (p : Port)
  /-- `CONFIRM` (R354): a CONFIRM message arrives on port p. -/
  | confirm (p : Port) (h : LeaHdr) (m : LeaRoute)
  /-- `RETRACT` (R354): a RETRACT message arrives on port p. -/
  | retract (p : Port) (h : LeaHdr) (m : LeaRoute)
  /-- `COMMITTED` (R323): a COMMITTED message arrives on port p. -/
  | committed (p : Port) (h : LeaHdr) (m : LeaRoute)
  /-- `DIGEST_MESSAGE` (R327): a DIGEST message with the digest of R326 arrives on port p. -/
  | digestMessage (p : Port) (h : LeaHdr) (m : LeaRoute) (body : List Byte)
  /-- `ADDR_FAULT` (R355): an ADDR_FAULT message for a denied address arrives on port p. -/
  | addrFault (p : Port) (h : LeaHdr) (m : LeaRoute) (addr : BitVec 48)
  /-- `LEA_PORT_STAT_CLR` (R348): LEA_PORT_STAT.CLR of port p is written with 1. -/
  | leaPortStatClr (p : Port)
  /-- `LEA_CTRL_STAT_CLR` (R356): LEA_CTRL_STAT.CLR is written with 1. -/
  | leaCtrlStatClr
  /-- `FIN_EDGE` (R363): FINn has held the raw level `high` for `samples` samples (R360, R362 to R364). -/
  | finEdge (n : FinIx) (high : Bool) (samples : BitVec 16)
  /-- `FIN_STUCK` (R365): FINn has stayed active for STUCK ms (R365). -/
  | finStuck (n : FinIx)
  /-- `FIN_STUCK_END` (R365): FINn, declared stuck, has stayed inactive for 10 ms (R365). -/
  | finStuckEnd (n : FinIx)
  /-- `ENC_TRANSITION` (R366): lines A and B of encoder e have held the levels (a, b) for `samples` samples (R366, R367). -/
  | encTransition (e : EncIx) (a b : Bool) (samples : BitVec 8)
  /-- `ENC_POS_WRITE` (R368): a write of STL_ENC_POSe (R368). -/
  | encPosWrite (e : EncIx) (v : Word)
  /-- `TQ_POP` (R372): a read of word 0 of STL_TQ_POPq by r (R372). -/
  | tqPop (r : Popper) (q : TqIx)
  /-- `TQ_FLUSH` (R373): a write of STL_TQ_CFGq.FLUSH (R373). -/
  | tqFlush (q : TqIx)
  /-- `TQ_WATERMARK_WRITE` (R374): a write of HIGH and LOW of STL_TQ_CFGq (R374). -/
  | tqWatermarkWrite (q : TqIx) (high low : BitVec 7)
  /-- `TQ_COPY_MISMATCH` (R375): queue q's comparison finds these copies of OCC and of the write index (R375). -/
  | tqCopyMismatch (q : TqIx) (occ1 occ2 : BitVec 7) (wr1 wr2 : BitVec 6)
  /-- `FIN_STAT_CLR` (R364): a write of STL_FIN_STATi.CLR. -/
  | finStatClr (n : FinIx)
  /-- `ENC_CLR` (R367): a write of STL_ENC_CFGe.CLR. -/
  | encClr (e : EncIx)
  /-- `TQ_CNT_CLR` (R371): a write of STL_TQ_CNTq.CLR. -/
  | tqCntClr (q : TqIx)
  /-- `AIN_MODE_WRITE` (R392): a write of STL_AIN_CFG (R392). -/
  | ainModeWrite (v : Word)
  /-- `AIN_CONFIG_WRITE` (R392): a write of STL_AIN_PACE, STL_AIN_INJ or STL_AIN_CHCFGc (R392). -/
  | ainConfigWrite (r : AinCfgReg) (v : Word)
  /-- `AIN_START` (R381): a write of STL_AIN_CTRL.START (R381, R383). -/
  | ainStart
  /-- `AIN_INJ_GO` (R389): a write of STL_AIN_CTRL.INJ_GO (R389). -/
  | ainInjGo
  /-- `AIN_CAL_ZERO` (R390): CAL_CMD = ZERO with CAL_CH = c (R390). -/
  | ainCalZero (c : AinCh)
  /-- `AIN_CAL_GAIN` (R390): CAL_CMD = GAIN with CAL_CH = c (R390). -/
  | ainCalGain (c : AinCh)
  /-- `AIN_PACE_TIMER` (R383): the pace timer expires (R383). -/
  | ainPaceTimer
  /-- `ADC_STARTUP_END` (R379): the 2 µs start-up of ADC k ends (R379). -/
  | adcStartupEnd (k : Fin 2)
  /-- `ADC_CONVERSION_END` (R385): the conversion on ADC k ends with raw code `raw` (R385). -/
  | adcConversionEnd (k : Fin 2) (raw : BitVec 16)
  /-- `AIN_RES_READ` (R386): a read of STL_AIN_RESn (R386). -/
  | ainResRead (n : AinCh) (r : Agent)
  /-- `AIN_INJ_RES_READ` (R389): a read of STL_AIN_INJ_RES (R389). -/
  | ainInjResRead (r : Agent)
  /-- `AIN_CNT_CLR` (R389): a write of STL_AIN_CNT.CLR. -/
  | ainCntClr
  /-- `AOUT_STAGED_WRITE` (R397): a write of a register of output k that holds staged fields (R395, R397). -/
  | aoutStagedWrite (k : AoutIx) (r : AoutReg) (v : Word64)
  /-- `AOUT_UPDATE` (R397): a write of UPDATE bit k (R397). -/
  | aoutUpdate (k : AoutIx)
  /-- `AOUT_WRAP_UPDATE` (R397): the accumulator of output k wraps while an update is pending (R397). -/
  | aoutWrapUpdate (k : AoutIx)
  /-- `AOUT_SYNC` (R397): a write of SYNC bit k (R397). -/
  | aoutSync (k : AoutIx)
  /-- `AOUT_FORCE_SAFE` (R399): a write of FORCE_SAFE bit k (R399). -/
  | aoutForceSafe (k : AoutIx)
  /-- `AOUT_RELEASE` (R399): a write of RELEASE bit k (R399). -/
  | aoutRelease (k : AoutIx)
  /-- `AOUT_PHASE_EVENT` (R398): the phase of output k passes TRIG (R398). -/
  | aoutPhaseEvent (k : AoutIx)
  /-- `AOUT_COMPLIANCE` (R400): the pin of output k has been outside compliance for more than 1 µs (R400). -/
  | aoutCompliance (k : AoutIx)
  /-- `DAC_LOCK_LOSS` (R399): the Stile DAC clock loses lock (R399). -/
  | dacLockLoss
  /-- `DAC_RELOCK` (R399): the Stile DAC clock relocks (R399). -/
  | dacRelock
  /-- `STILE_LINK_LOSS` (R399): the Stile data port is lost for more than 1 µs (R399). -/
  | stileLinkLoss
  /-- `STILE_LINK_RESTORE` (R399): the Stile data port is restored (R399). -/
  | stileLinkRestore
  /-- `SENSOR_CONVERSION` (R401): a conversion returns, for each sensor listed, its raw code and its reading in 1/8 °C (R401 to R407). -/
  | sensorConversion (xs : List (Sens × BitVec 16 × Int))
  /-- `SENSOR_TIMEOUT` (R403): the conversion of sensor k is not returned within 100 µs. -/
  | sensorTimeout (k : Sens)
  /-- `POWER_MEASUREMENT` (R406): the 1 ms average package power is p watts. -/
  | powerMeasurement (p : BitVec 10)
  /-- `THM_FORCE_TRIP` (R407): THM_CTRL.FORCE_TRIP is written with 1. -/
  | thmForceTrip
  /-- `RESTART_GATE` (R410): Heather island reads the Stile sensors after a trip; `xs` holds the valid readings in 1/8 °C. -/
  | restartGate (xs : List (Fin 4 × Int))
  /-- `RESTART_RECHECK` (R410): firmware reads the compute-die and stack sensors with the fabric off; `xs` holds the valid readings in 1/8 °C; `hang` and `time` as in START. -/
  | restartRecheck (xs : List (Fin 160 × Int)) (hang : Option (BitVec 4)) (time : BitVec 64)
  /-- `DEEP_SLEEP_SENSOR_READ` (R417): Heather island reads the Stile sensors in Deep sleep, in 1/8 °C. -/
  | deepSleepSensorRead (xs : List (Fin 4 × Int))
  /-- `POWER_REQUEST` (R418): PWR_CTRL is written with TARGET and REQ; `wake` is a wake source that fires in the same cycle (R418, R423). -/
  | powerRequest (target : BitVec 3) (wake : Option (Fin 4))
  /-- `BLOCK_AGREE` (R419): the block with a refuser code of R425, asked by the power controller, agrees; code 0 is the register save. -/
  | blockAgree (code : BitVec 8)
  /-- `BLOCK_REFUSE` (R422): the block with this code, asked, refuses. -/
  | blockRefuse (code : BitVec 8)
  /-- `DELAY_EXPIRED` (R420): the block with this code has delayed longer than DELAY_LIMIT. -/
  | delayExpired (code : BitVec 8)
  /-- `WAKE_N_LOW` (R426): WAKE_N has been low for 1 µs. -/
  | wakeNLow
  /-- `HOST_WAKE` (R426): PWR_CTRL.WAKE is written with 1. -/
  | hostWake
  /-- `WAKE_TIMER` (R426): the wake timer expires. -/
  | wakeTimer
  /-- `QUARTER_BRINGUP` (R429): firmware brings up fabric quarter q after Deep sleep. -/
  | quarterBringup (q : BitVec 4)
  /-- `QUARTER_OFF` (R430): bit q of PWR_QUARTER_OFF is written with 1. -/
  | quarterOff (q : BitVec 4)
  /-- `QUARTER_ON` (R430): bit q of PWR_QUARTER_OFF is written with 0. -/
  | quarterOn (q : BitVec 4)
  /-- `QUARTER_SWITCH_DONE` (R430): the switch of quarter q completes. -/
  | quarterSwitchDone (q : BitVec 4)
  /-- `PWR_CLR_CNT` (R422): PWR_CTRL.CLR_CNT is written with 1. -/
  | pwrClrCnt
  /-- `STANDBY_RAIL_UP` (R431): VDD_STBY reaches 1.62 V. -/
  | standbyRailUp
  /-- `STANDBY_RAIL_LOSS` (R495): VDD_STBY falls below 1.62 V. -/
  | standbyRailLoss
  /-- `MAIN_ENABLE` (R494): Heather island's wait ends and it drives MAIN_EN high. -/
  | mainEnable
  /-- `MAIN_GOOD_TIMEOUT` (R494): MAIN_GOOD is not high within 50 ms of MAIN_EN. -/
  | mainGoodTimeout
  /-- `MAIN_GOOD_FALL` (R495): MAIN_GOOD falls while MAIN_EN is high. -/
  | mainGoodFall
  /-- `RST_N_LOW` (R432): RST_N has been low for 1 µs. -/
  | rstNLow
  /-- `START` (R433): internal release: the flash can be read and is large enough, the identity public key that the PUF and the helper data give, the PCIe link as it trains, the stage in which the start hangs, and device time at its end. -/
  | start (flashOk : Bool) (ident : Option (List Byte)) (link : Option (BitVec 3 × BitVec 5 × Bool)) (hang : Option (BitVec 4)) (time : BitVec 64)
  /-- `START_WATCHDOG` (R448): the start has run for WDOG seconds without reporting ready. -/
  | startWatchdog
  /-- `PERST` (R431): PERST_N is low; `link` is the link as it trains afterwards: SPEED, WIDTH and FLIT of PCI_LINK, none while it is down. -/
  | perst (link : Option (BitVec 3 × BitVec 5 × Bool))
  /-- `STANDING_TRIGGER_EVENT` (R444): the management core pops trigger queue q for the bindings that name it. -/
  | standingTriggerEvent (q : TqIx)
  /-- `STANDING_TIMER` (R442): the period of timer binding b expires. -/
  | standingTimer (b : BitVec 8)
  /-- `STANDING_OUTPUT_ACTION` (R445): the management core finds a watched record in an acting state. -/
  | standingOutputAction
  /-- `PULSE_END` (R445): the pulse of FOUTn ends. -/
  | pulseEnd (n : Fin 16)
  /-- `SP_CLR` (R444): BOOT_SP_STATUS.CLR is written with 1. -/
  | spClr
  /-- `DRAIN` (R455): GLB_CHN_CTRL.DRAIN bit n is written with 1. -/
  | drain (n : Chn)
  /-- `REOPEN` (R455): GLB_CHN_CTRL.DRAIN bit n is written with 0. -/
  | reopen (n : Chn)
  /-- `DRAINED` (R455): the device finds channel n empty. -/
  | drained (n : Chn)
  /-- `REINIT` (R456): GLB_CHN_CTRL.REINIT bit n is written with 1. -/
  | reinit (n : Chn)
  /-- `REINIT_DONE` (R456): the reinitialisation of channel n ends; `ok` says that stack n has trained. -/
  | reinitDone (n : Chn) (ok : Bool)
  /-- `STACK_FAIL` (R457): the stack interface declares stack n failed, at an evaluation-cycle boundary. -/
  | stackFail (n : Chn)
  /-- `FW_SWITCH` (R459): BOOT_CTRL.SWITCH is written with 1. -/
  | fwSwitch
  /-- `FW_SWITCH_DONE` (R459): the new firmware resumes the bindings. -/
  | fwSwitchDone
  /-- `FW_SWITCH_TIMEOUT` (R459): a switch-over has not completed within 1 s; `oldOk` says that the old slot restarts. -/
  | fwSwitchTimeout (oldOk : Bool)
  /-- `BOOT_FALLOW` (R450): BOOT_CTRL.FALLOW is written with 1. -/
  | bootFallow
  /-- `MBOX_READ` (R460): BOOT_MBOX_CMD is written with 0x01; `ok` says that the flash does its part, here and below. -/
  | mboxRead (ok : Bool)
  /-- `ERASE` (R460): BOOT_MBOX_CMD is written with 0x02. -/
  | erase (ok : Bool)
  /-- `PROGRAM` (R460): BOOT_MBOX_CMD is written with 0x03. -/
  | program (ok : Bool)
  /-- `VERIFY_SLOT` (R460): BOOT_MBOX_CMD is written with 0x04. -/
  | verifySlot (ok : Bool)
  /-- `VERIFY_BANK` (R460): BOOT_MBOX_CMD is written with 0x05. -/
  | verifyBank (ok : Bool)
  /-- `REBOOT` (R460): BOOT_MBOX_CMD is written with 0x06. -/
  | reboot
  /-- `MBOX_FALLOW` (R460): BOOT_MBOX_CMD is written with 0x07. -/
  | mboxFallow
  /-- `MBOX_RESERVED` (R460): BOOT_MBOX_CMD is written with a value that R460 reserves. -/
  | mboxReserved (cmd : BitVec 8)
  /-- `BOOT_MBOX_DONE` (R460): the recovery mailbox command that runs completes. -/
  | bootMboxDone
  /-- `GET_ID` (R473): SEC_MBOX_CMD is written with 0x01. -/
  | getId
  /-- `ATTEST` (R475): SEC_MBOX_CMD is written with 0x02. -/
  | attest
  /-- `ATTEST_SNAPSHOT` (R475): the first swath boundary after ATTEST: the snapshot is taken, and the report built and signed. -/
  | attestSnapshot
  /-- `GET_CERT` (R473): SEC_MBOX_CMD is written with 0x03. -/
  | getCert
  /-- `ENROLL` (R470): SEC_MBOX_CMD is written with 0x04; `helper` is the helper data that the engine makes of a fresh PUF state. -/
  | enroll (helper : List Byte)
  /-- `SEC_RESERVED` (R473): SEC_MBOX_CMD is written with a value that R473 reserves. -/
  | secReserved (cmd : BitVec 8)
  /-- `SEC_MBOX_DONE` (R473): the security mailbox command that runs completes. -/
  | secMboxDone
  /-- `SEC_CLR_CNT` (R471): SEC_CTRL.CLR_CNT is written with 1. -/
  | secClrCnt
  /-- `READ_64_LOW` (R483): a 4-byte read of the low word of the 64-bit register at BAR0 offset `off`. -/
  | read64Low (a : Agent) (off : BitVec 24)
  /-- `READ_64_HIGH` (R483): a 4-byte read of the high word that lies at BAR0 offset `off`. -/
  | read64High (a : Agent) (off : BitVec 24)
  /-- `WRITE_64_LOW` (R484): a 4-byte write of the low word of the 64-bit register at BAR0 offset `off`. -/
  | write64Low (a : Agent) (off : BitVec 24) (v : Word)
  /-- `WRITE_64_HIGH` (R484): a 4-byte write of the high word that lies at BAR0 offset `off`. -/
  | write64High (a : Agent) (off : BitVec 24) (v : Word)
  /-- `BAR0_BAD_ACCESS` (R478): a BAR0 access of the wrong size or alignment. -/
  | bar0BadAccess (read : Bool)
  /-- `REGISTER_WRITE` (R480): a write of one or more words from BAR0 offset `off` on: 4 bytes, 8 bytes, or more in a mailbox buffer. -/
  | registerWrite (a : Agent) (off : BitVec 24) (data : List Word)
  /-- `PIN_FUNCTION_WRITE` (R503): a pin-function register is written. -/
  | pinFunctionWrite (r : PinReg) (v : Word)
  /-- `EXTEST` (R501): the instruction with one scan: `good` says that MAIN_GOOD is high, `pins` is what the cells capture, `shifted` what is shifted in and updated. -/
  | extest (good : Bool) (pins shifted : BitVec 1152)
  /-- `IDCODE` (R501): the instruction. -/
  | idcode
  /-- `SAMPLE_PRELOAD` (R501): the instruction with one scan. -/
  | samplePreload (pins shifted : BitVec 1152)
  /-- `CLAMP` (R501): the instruction. -/
  | clamp (good : Bool)
  /-- `HIGHZ` (R501): the instruction. -/
  | highz (good : Bool)
  /-- `EXTEST_PULSE` (R501): the instruction with one scan. -/
  | extestPulse (good : Bool) (pins shifted : BitVec 1152)
  /-- `EXTEST_TRAIN` (R501): the instruction with one scan. -/
  | extestTrain (good : Bool) (pins shifted : BitVec 1152)
  /-- `BYPASS` (R501): the instruction, or a code that R501 does not list. -/
  | bypass (code : BitVec 8)
  /-- `TUSSOCK_PLL_LOCK` (R160): the PLL of Tussock g gains lock (R160). -/
  | tussockPllLock (g : Tsk)
  /-- `TABLE_INIT_DONE` (R92): the table sequencer of Tussock g finishes writing the identity tables (R92). -/
  | tableInitDone (g : Tsk)
  /-- `STATE_RUN_AFTER_WAKE` (R427): the last step of a wake; `ticks` is what Heather island has counted in Deep sleep, in units of 100 ns. -/
  | stateRunAfterWake (ticks : BitVec 64)
  /-- `K1_RESERVED` (R250): a K1 command with a reserved OP at the ring head is taken and rejected (R250). -/
  | k1Reserved (n : Chn) (e : Eng)
  /-- `RESERVED_CTRL_MESSAGE` (R354): a message with a reserved code arrives on port p. -/
  | reservedCtrlMessage (p : Port) (h : LeaHdr) (m : LeaRoute) (msg : BitVec 8) (body : List Byte)
  deriving DecidableEq, Repr

end Sys2Proof
end

