-- ==== Sys2Proof/Decode.lean ====
section
/-! DEFINITION. The commands that words spell. The table of this block's commands gives no row any bits, so no word spells a
command: commands come from outside as they are. -/

namespace Sys2Proof

/-- The command that a word of `nbits` bits spells by the table's bits: none, because the table gives no row bits. -/
def decodeTableWord (nbits w : Nat) : Option Instr :=
  match nbits, w with
  | _, _ => none

end Sys2Proof
end

