-- ==== Sys2Proof/Machine/Flags.lean ====
section
/-! DEFINITION. Rounding, saturation and the other number rules that the meanings share. -/

namespace Sys2Proof.Machine

/-- `x / 2 ^ n` rounded to the nearest integer, ties to even: `rne` of R385. -/
def rne (x : Int) (n : Nat) : Int :=
  let m : Int := (2 ^ n : Nat)
  let q := x / m
  let r := x % m
  if 2 * r < m then q else if m < 2 * r then q + 1 else if q % 2 = 0 then q else q + 1

/-- `a / b` rounded to the nearest integer, ties to even; 0 for `b = 0`. -/
def rneDiv (a b : Int) : Int :=
  if b = 0 then 0
  else
    let a := if b < 0 then -a else a
    let b := if b < 0 then -b else b
    let q := a / b
    let r := a % b
    if 2 * r < b then q else if b < 2 * r then q + 1 else if q % 2 = 0 then q else q + 1

end Sys2Proof.Machine
end

