-- ==== Sys2Proof/Config.lean ====
section
/-! DEFINITION. The values that the spec leaves open. Each is a constant without a body, so that nothing can be
proved of the value it takes; a statement holds whatever they are. Log entries: 3, 20, 29, 37. -/

namespace Sys2Proof.Config

/-- A fresh open value of `w` bits: the argument is the state's count of free values drawn so far. -/
opaque freeValue : (w : Nat) → Nat → BitVec w

/-- Where element (i, j) of a MATMUL operand of `rows` × `cols` elements stands in its blocks, counted in elements: operand
0 A, 1 B, 2 C (R139 gives no order). -/
opaque matIndex : (operand rows cols i j : Nat) → Nat

/-- What an int32 accumulator holds when the exact sum lies outside int32 (R145). -/
opaque accOverflow : Int → BitVec 32

/-- How far element `i` of the result of a table-based vector operation lies from the correctly rounded one: two ulp less than this
modulo 5 (R146); operation, format, parameter words, source bytes and parameter operand bytes determine it. -/
opaque vectorUlp : (op fmt : Nat) → (param : List Nat) → (src operand : List (BitVec 8)) → (i : Nat) → BitVec 8

/-- Element `i` of the result of a vector operation where the exact value does not exist or lies beyond the format (the spec states no
result there). -/
opaque vectorOpen : (op fmt : Nat) → (param : List Nat) → (src operand : List (BitVec 8)) → (i : Nat) → BitVec 32

/-- Whether a step up of HI, and of LO, raises the gain of the converters (R280 gives only its size). -/
opaque refHiUp : Bool
opaque refLoUp : Bool

/-- The code HI, and the code CM, of the codes that bring a median ladder tap to 16 and a median zero-stage offset, in 1/32 LSB, to 0, from
the codes in force: R294 says neither how HI and LO share the step nor what CM does. -/
opaque genDerived : (tap : Nat) → (offset : Int) → (codes : Nat × Nat × Nat) → BitVec 12 × BitVec 8

/-- The constant under the root of LAYERNORM and RMSNORM, in units of 2^-150 (R147 gives none). -/
opaque normEps : Nat

/-- Bank block of the parameter operand of a vector operation that has one (R139). -/
opaque vectorOperand : (op : Nat) → (param : List Nat) → BitVec 12

/-- Whether a VECTOR task of an operation other than ADD and MUL names a parameter operand (R139). -/
opaque vectorWith : (op : Nat) → (param : List Nat) → Bool

/-- The format code that CONVERT converts to (R139 does not say where PARAM holds it). -/
opaque convertTo : (param : List Nat) → BitVec 4

/-- Whether the parameters of KVQUANT ask for the int4 form (R126), and the bank block of its scale stream (R127). -/
opaque kvInt4 : (param : List Nat) → Bool
opaque kvScaleBlock : (param : List Nat) → BitVec 12

/-- Entry of the scale stream, counted from that block, at which KVQUANT starts to write (R127). -/
opaque kvScaleEntry : (param : List Nat) → Nat

/-- TENSOR_ID that the COPY of a translated K1 COPY expects, from its source address and the TENSOR_ID of the first source
block (R250 gives none). Log entry 29 (DESIGN CHOICE). -/
opaque k1CopyTid : (src first : Nat) → BitVec 16

/-- Destination block of the LOADPKG that a K1 LOAD becomes: context and package address (R250 gives none). Log entry 29 (DESIGN CHOICE). -/
opaque k1Dest : (ctx package : Nat) → BitVec 40

/-- Byte `i` of a layer's entry in an image manifest: TIER, WFMT, NPLACE, first block in each stripe, and block offset of the
requantisation image determine it (R262 gives no order). -/
opaque layerEntry : (tier wfmt nplace : Nat) → (first : List Nat) → (rq i : Nat) → BitVec 8

/-- The stack whose channel's pool holds an output group of a streamed layer (R198): image TENSOR_ID, layer and first output
channel. Log entry 29 (DESIGN CHOICE). -/
opaque streamStack : (tid layer out0 : Nat) → BitVec 2

/-- Whether the rows of an AWRITE whose source lies in no layer of an image stand in the int8 form (R240, R263). Log entry 29 (DESIGN CHOICE). -/
opaque awriteInt8 : (src : Nat) → Bool

/-- Byte `i` of ROOT_DIGEST (R461), and of the SHA3-256 digest of the mask ROM (R472). -/
opaque rootByte : (i : Nat) → BitVec 8
opaque romByte : (i : Nat) → BitVec 8

/-- A field of the 64-byte header of a record bank (R437 gives no offsets): 0 MAGIC, 1 FORMAT, 2 SEQ, 3 LEN, 4 WDOG. Log entry 20 (DESIGN CHOICE and DEDUCED). -/
opaque bankField : (field : Nat) → (header : List (BitVec 8)) → BitVec 32

/-- The fields of a START_PKG entry (R438 gives no offsets): flash address, length in blocks, context, LOADPKG destination. Log entry 20 (DESIGN CHOICE and DEDUCED). -/
opaque startPkg : (entry : List (BitVec 8)) → BitVec 32 × BitVec 32 × BitVec 8 × BitVec 48

/-- The frame mailboxes (base, entry count) of the body of a STANDING record, and the 64 bytes of each of its bindings (R442
gives neither the order of the two nor the layout of a mailbox entry). Log entry 20 (DESIGN CHOICE and DEDUCED). -/
opaque standingBoxes : (body : List (BitVec 8)) → List (BitVec 64 × BitVec 32)
opaque standingBindings : (body : List (BitVec 8)) → List (List (BitVec 8))

/-- Size of the configuration flash in bytes; what a device has lies above 512 Mib where this does not (R436). Log entry 20 (DESIGN CHOICE and DEDUCED). -/
opaque flashBytes : Nat

/-- The digest of the identity public key that the helper data holds (R467 gives no layout); none where it is malformed. Log entry 20 (DESIGN CHOICE and DEDUCED). -/
opaque helperDigest : (helper : List (BitVec 8)) → Option (List (BitVec 8))

/-- Byte `i` of the identity-key signature over a digest (R475, FIPS 204), under a public key's private key. -/
opaque identitySign : (key digest : List (BitVec 8)) → (i : Nat) → BitVec 8

end Sys2Proof.Config
end

