-- ==== Sys2Proof/Machine/RegNames.lean ====
section
/-! DEFINITION. The registers of the device, as the register tables of the spec give them: one name per register,
one `Fld` per field with its place and width, the access kind of each field, its reset value, and where the
register stands in BAR0 (R477, R486). Fields are written `F.<register>_<field>`; the arguments of a field name the
one of several like registers (Tussock `i` and array `j`, channel, engine 4n + e, port, queue, context, ...). Log entries: 12, 18. -/

namespace Sys2Proof.Machine

/-- The registers of the spec's register tables, in the order of its chapters. -/
inductive RegName where
  /-- `TSK_ARR_STATE` at `+0x400 + a × 0x20`, 32 bits (02_charge_arrays.md). -/
  | TSK_ARR_STATE
  /-- `TSK_ARR_STATUS` at `+0x404 + a × 0x20`, 32 bits (02_charge_arrays.md). -/
  | TSK_ARR_STATUS
  /-- `TSK_ARR_CTRL` at `+0x408 + a × 0x20`, 32 bits (02_charge_arrays.md). -/
  | TSK_ARR_CTRL
  /-- `TSK_ARR_EVENTS` at `+0x40C + a × 0x20`, 32 bits (02_charge_arrays.md). -/
  | TSK_ARR_EVENTS
  /-- `TSK_ARR_RESTORE` at `+0x410 + a × 0x20`, 32 bits (02_charge_arrays.md). -/
  | TSK_ARR_RESTORE
  /-- `TSK_ARR_WRITE` at `+0x414 + a × 0x20`, 32 bits (02_charge_arrays.md). -/
  | TSK_ARR_WRITE
  /-- `TSK_ARR_RESTORE_CNT` at `+0x418 + a × 0x20`, 64 bits (02_charge_arrays.md). -/
  | TSK_ARR_RESTORE_CNT
  /-- `TSK_ARRAY_ROLE` at `+0x3E0`, 32 bits (02_charge_arrays.md). -/
  | TSK_ARRAY_ROLE
  /-- `TSK_RESTORE_TEMP` at `+0x3E4`, 32 bits (02_charge_arrays.md). -/
  | TSK_RESTORE_TEMP
  /-- `TSK_CONV_CFG` at `+0x700 + a × 0x10`, 32 bits (03_column_conversion.md). -/
  | TSK_CONV_CFG
  /-- `TSK_CONV_SAT` at `+0x704 + a × 0x10`, 32 bits (03_column_conversion.md). -/
  | TSK_CONV_SAT
  /-- `TSK_CONV_STATUS` at `+0x6F0`, 32 bits (03_column_conversion.md). -/
  | TSK_CONV_STATUS
  /-- `TSK_TABLE_ECC` at `+0x6F4`, 32 bits (03_column_conversion.md). -/
  | TSK_TABLE_ECC
  /-- `TSK_ID` at `+0x000`, 32 bits (05_tussock_and_tuft.md). -/
  | TSK_ID
  /-- `TSK_STATE` at `+0x004`, 32 bits (05_tussock_and_tuft.md). -/
  | TSK_STATE
  /-- `TSK_CTRL` at `+0x008`, 32 bits (05_tussock_and_tuft.md). -/
  | TSK_CTRL
  /-- `TSK_CTRL_STATUS` at `+0x00C`, 32 bits (05_tussock_and_tuft.md). -/
  | TSK_CTRL_STATUS
  /-- `TSK_QUAR_CAUSE` at `+0x010`, 32 bits (05_tussock_and_tuft.md). -/
  | TSK_QUAR_CAUSE
  /-- `TSK_SEQ_STATUS` at `+0x014`, 32 bits (05_tussock_and_tuft.md). -/
  | TSK_SEQ_STATUS
  /-- `TSK_SEQ_ERR` at `+0x018`, 32 bits (05_tussock_and_tuft.md). -/
  | TSK_SEQ_ERR
  /-- `TSK_CLK_STATUS` at `+0x020`, 32 bits (05_tussock_and_tuft.md). -/
  | TSK_CLK_STATUS
  /-- `TSK_SWAP` at `+0x028`, 32 bits (05_tussock_and_tuft.md). -/
  | TSK_SWAP
  /-- `TSK_BANK_ECC` at `+0x030`, 32 bits (05_tussock_and_tuft.md). -/
  | TSK_BANK_ECC
  /-- `TSK_ROLE_MAPm` at `+0x3C0 + m × 4, m = 0 to 3`, 32 bits (05_tussock_and_tuft.md). -/
  | TSK_ROLE_MAP
  /-- `GLB_RGN_BASEk` at `0x00_0800 + k × 0x20`, 64 bits (06_hedgerow_and_memory_tiers.md). -/
  | GLB_RGN_BASE
  /-- `GLB_RGN_LIMITk` at `0x00_0808 + k × 0x20`, 64 bits (06_hedgerow_and_memory_tiers.md). -/
  | GLB_RGN_LIMIT
  /-- `GLB_RGN_ATTRk` at `0x00_0810 + k × 0x20`, 32 bits (06_hedgerow_and_memory_tiers.md). -/
  | GLB_RGN_ATTR
  /-- `GLB_RGN_INGRESSk` at `0x00_0814 + k × 0x20`, 32 bits (06_hedgerow_and_memory_tiers.md). -/
  | GLB_RGN_INGRESS
  /-- `GLB_RGN_FAULT_ADDR` at `0x00_0C00`, 64 bits (06_hedgerow_and_memory_tiers.md). -/
  | GLB_RGN_FAULT_ADDR
  /-- `GLB_RGN_FAULT_INFO` at `0x00_0C08`, 32 bits (06_hedgerow_and_memory_tiers.md). -/
  | GLB_RGN_FAULT_INFO
  /-- `PCI_BAR2_BASE` at `0x03_0100`, 64 bits (06_hedgerow_and_memory_tiers.md). -/
  | PCI_BAR2_BASE
  /-- `PCI_T3_BASE` at `0x03_0108`, 64 bits (06_hedgerow_and_memory_tiers.md). -/
  | PCI_T3_BASE
  /-- `PCI_T3_LAT` at `0x03_0110`, 32 bits (06_hedgerow_and_memory_tiers.md). -/
  | PCI_T3_LAT
  /-- `PCI_T3_LATE` at `0x03_0114`, 32 bits (06_hedgerow_and_memory_tiers.md). -/
  | PCI_T3_LATE
  /-- `CHN_HDG_ERR` at `channel base + 0x0_F000`, 32 bits (06_hedgerow_and_memory_tiers.md). -/
  | CHN_HDG_ERR
  /-- `CHN_STK_ERR` at `channel base + 0x0_F004`, 32 bits (06_hedgerow_and_memory_tiers.md). -/
  | CHN_STK_ERR
  /-- `CHN_ADM_CFG` at `channel base + 0x0_E000`, 32 bits (08_swaths_and_admission.md). -/
  | CHN_ADM_CFG
  /-- `CHN_ADM_BUDGET` at `channel base + 0x0_E004`, 32 bits (08_swaths_and_admission.md). -/
  | CHN_ADM_BUDGET
  /-- `CHN_ADM_CTRL` at `channel base + 0x0_E008`, 32 bits (08_swaths_and_admission.md). -/
  | CHN_ADM_CTRL
  /-- `CHN_ADM_ADMITTED` at `channel base + 0x0_E010`, 32 bits (08_swaths_and_admission.md). -/
  | CHN_ADM_ADMITTED
  /-- `CHN_ADM_REFUSED` at `channel base + 0x0_E014`, 32 bits (08_swaths_and_admission.md). -/
  | CHN_ADM_REFUSED
  /-- `CHN_ADM_HELD` at `channel base + 0x0_E018`, 32 bits (08_swaths_and_admission.md). -/
  | CHN_ADM_HELD
  /-- `CHN_JOB_TIMEOUT` at `channel base + 0x0_E01C`, 32 bits (08_swaths_and_admission.md). -/
  | CHN_JOB_TIMEOUT
  /-- `CHN_TAGS` at `channel base + 0x0_E020`, 32 bits (08_swaths_and_admission.md). -/
  | CHN_TAGS
  /-- `CHN_ADM_SATk` at `channel base + 0x0_E040 + k × 4, k = 0 to 15`, 32 bits (08_swaths_and_admission.md). -/
  | CHN_ADM_SAT
  /-- `PCI_ING_STALL` at `0x03_0118`, 32 bits (08_swaths_and_admission.md). -/
  | PCI_ING_STALL
  /-- `CHN_ENG_RING_BASE` at `+0x00`, 64 bits (09_engines_and_command_lists.md). -/
  | CHN_ENG_RING_BASE
  /-- `CHN_ENG_CTRL_ADDR` at `+0x08`, 64 bits (09_engines_and_command_lists.md). -/
  | CHN_ENG_CTRL_ADDR
  /-- `CHN_ENG_CPL_BASE` at `+0x10`, 64 bits (09_engines_and_command_lists.md). -/
  | CHN_ENG_CPL_BASE
  /-- `CHN_ENG_CFG` at `+0x18`, 32 bits (09_engines_and_command_lists.md). -/
  | CHN_ENG_CFG
  /-- `CHN_ENG_STATUS` at `+0x1C`, 32 bits (09_engines_and_command_lists.md). -/
  | CHN_ENG_STATUS
  /-- `CHN_ENG_CONS` at `+0x20`, 32 bits (09_engines_and_command_lists.md). -/
  | CHN_ENG_CONS
  /-- `CHN_ENG_PROD` at `+0x24`, 32 bits (09_engines_and_command_lists.md). -/
  | CHN_ENG_PROD
  /-- `CHN_ENG_JOBS` at `+0x28`, 32 bits (09_engines_and_command_lists.md). -/
  | CHN_ENG_JOBS
  /-- `CHN_K1_TMPL` at `channel base + 0x0_0400`, 64 bits (09_engines_and_command_lists.md). -/
  | CHN_K1_TMPL
  /-- `CHN_K1_CFG` at `channel base + 0x0_0408`, 32 bits (09_engines_and_command_lists.md). -/
  | CHN_K1_CFG
  /-- `GLB_CTX_STATEc` at `0x00_2000 + c × 0x20`, 32 bits (10_weights_and_replacement.md). -/
  | GLB_CTX_STATE
  /-- `GLB_CTX_PTRc` at `0x00_2008 + c × 0x20`, 64 bits (10_weights_and_replacement.md). -/
  | GLB_CTX_PTR
  /-- `GLB_CTX_PENDc` at `0x00_2010 + c × 0x20`, 64 bits (10_weights_and_replacement.md). -/
  | GLB_CTX_PEND
  /-- `GLB_CTX_EVENTSc` at `0x00_2018 + c × 0x20`, 32 bits (10_weights_and_replacement.md). -/
  | GLB_CTX_EVENTS
  /-- `GLB_CTX_TIDc` at `0x00_201C + c × 0x20`, 32 bits (10_weights_and_replacement.md). -/
  | GLB_CTX_TID
  /-- `CHN_LD_STATUS` at `channel base + 0x0_0500`, 32 bits (10_weights_and_replacement.md). -/
  | CHN_LD_STATUS
  /-- `CHN_LD_PKG` at `channel base + 0x0_0504`, 32 bits (10_weights_and_replacement.md). -/
  | CHN_LD_PKG
  /-- `CHN_LD_CLAMP` at `channel base + 0x0_0508`, 32 bits (10_weights_and_replacement.md). -/
  | CHN_LD_CLAMP
  /-- `CHN_LD_CTRL` at `channel base + 0x0_050C`, 32 bits (10_weights_and_replacement.md). -/
  | CHN_LD_CTRL
  /-- `GLB_DIST_CFG` at `0x00_0D00`, 32 bits (10_weights_and_replacement.md). -/
  | GLB_DIST_CFG
  /-- `GLB_DIST_BASE` at `0x00_0D08`, 64 bits (10_weights_and_replacement.md). -/
  | GLB_DIST_BASE
  /-- `GLB_DIST_LIMIT` at `0x00_0D10`, 64 bits (10_weights_and_replacement.md). -/
  | GLB_DIST_LIMIT
  /-- `GLB_DIST_STAT` at `0x00_0D18`, 32 bits (10_weights_and_replacement.md). -/
  | GLB_DIST_STAT
  /-- `BRK_CFG` at `+0x900`, 32 bits (11_calibration.md). -/
  | BRK_CFG
  /-- `BRK_CTRL` at `+0x904`, 32 bits (11_calibration.md). -/
  | BRK_CTRL
  /-- `BRK_STATUS` at `+0x908`, 32 bits (11_calibration.md). -/
  | BRK_STATUS
  /-- `BRK_CAL_CNT` at `+0x90C`, 32 bits (11_calibration.md). -/
  | BRK_CAL_CNT
  /-- `BRK_CAL_TIME` at `+0x910`, 64 bits (11_calibration.md). -/
  | BRK_CAL_TIME
  /-- `BRK_DEFER` at `+0x918`, 32 bits (11_calibration.md). -/
  | BRK_DEFER
  /-- `BRK_SAVED_TEMP` at `+0x91C`, 32 bits (11_calibration.md). -/
  | BRK_SAVED_TEMP
  /-- `BRK_TRIM_SEL` at `+0x920`, 32 bits (11_calibration.md). -/
  | BRK_TRIM_SEL
  /-- `BRK_TRIM_DATA` at `+0x924`, 32 bits (11_calibration.md). -/
  | BRK_TRIM_DATA
  /-- `BRK_LAST_FAIL` at `+0x928`, 32 bits (11_calibration.md). -/
  | BRK_LAST_FAIL
  /-- `BRK_ARR_CALa` at `+0x940 + a × 0x10, a = 0 to 16`, 32 bits (11_calibration.md). -/
  | BRK_ARR_CAL
  /-- `BRK_ARR_TIMEa` at `+0x948 + a × 0x10, a = 0 to 16`, 64 bits (11_calibration.md). -/
  | BRK_ARR_TIME
  /-- `GRS_CFG` at `0x00_4000`, 32 bits (12_checking.md). -/
  | GRS_CFG
  /-- `GRS_TOL` at `0x00_4004`, 32 bits (12_checking.md). -/
  | GRS_TOL
  /-- `GRS_STATUS` at `0x00_4008`, 32 bits (12_checking.md). -/
  | GRS_STATUS
  /-- `GRS_ARB_CNT` at `0x00_400C`, 32 bits (12_checking.md). -/
  | GRS_ARB_CNT
  /-- `GRS_EVT_CNT` at `0x00_4010`, 32 bits (12_checking.md). -/
  | GRS_EVT_CNT
  /-- `GRS_CTRL` at `0x00_4014`, 32 bits (12_checking.md). -/
  | GRS_CTRL
  /-- `GRS_SUSPECT_TIME` at `0x00_4018`, 64 bits (12_checking.md). -/
  | GRS_SUSPECT_TIME
  /-- `GRS_SUSPECT_INFO` at `0x00_4020`, 32 bits (12_checking.md). -/
  | GRS_SUSPECT_INFO
  /-- `GRS_PROV` at `0x00_4024`, 32 bits (12_checking.md). -/
  | GRS_PROV
  /-- `GRS_REP_CFG` at `0x00_4100`, 32 bits (12_checking.md). -/
  | GRS_REP_CFG
  /-- `GRS_REP_CTX` at `0x00_4108`, 64 bits (12_checking.md). -/
  | GRS_REP_CTX
  /-- `GRS_REP_EXPELLED` at `0x00_4110`, 64 bits (12_checking.md). -/
  | GRS_REP_EXPELLED
  /-- `GRS_REP_STATUS` at `0x00_4118`, 32 bits (12_checking.md). -/
  | GRS_REP_STATUS
  /-- `GRS_REP_CTRL` at `0x00_411C`, 32 bits (12_checking.md). -/
  | GRS_REP_CTRL
  /-- `GRS_TP_STATUS` at `0x00_4200`, 32 bits (12_checking.md). -/
  | GRS_TP_STATUS
  /-- `GRS_LANE_STATUS` at `+0xB00`, 32 bits (12_checking.md). -/
  | GRS_LANE_STATUS
  /-- `GRS_LANE_CNT` at `+0xB04`, 32 bits (12_checking.md). -/
  | GRS_LANE_CNT
  /-- `GRS_ARB_LAST` at `+0xB08`, 32 bits (12_checking.md). -/
  | GRS_ARB_LAST
  /-- `GRS_SHADOW_MAPm` at `+0xB10 + m × 4, m = 0 to 4`, 32 bits (12_checking.md). -/
  | GRS_SHADOW_MAP
  /-- `LEA_PORT_CFG` at `0x03_4000 + p × 0x100`, 32 bits (13_lea_links.md). -/
  | LEA_PORT_CFG
  /-- `LEA_PORT_STATUS` at `0x03_4004 + p × 0x100`, 32 bits (13_lea_links.md). -/
  | LEA_PORT_STATUS
  /-- `LEA_PORT_ERR` at `0x03_4008 + p × 0x100`, 32 bits (13_lea_links.md). -/
  | LEA_PORT_ERR
  /-- `LEA_PORT_FEC` at `0x03_400C + p × 0x100`, 32 bits (13_lea_links.md). -/
  | LEA_PORT_FEC
  /-- `LEA_PORT_TX` at `0x03_4010 + p × 0x100`, 64 bits (13_lea_links.md). -/
  | LEA_PORT_TX
  /-- `LEA_PORT_RX` at `0x03_4018 + p × 0x100`, 64 bits (13_lea_links.md). -/
  | LEA_PORT_RX
  /-- `LEA_PORT_STAT` at `0x03_4020 + p × 0x100`, 32 bits (13_lea_links.md). -/
  | LEA_PORT_STAT
  /-- `LEA_NODE` at `0x03_5000`, 32 bits (13_lea_links.md). -/
  | LEA_NODE
  /-- `LEA_ROUTE` at `0x03_5008`, 64 bits (13_lea_links.md). -/
  | LEA_ROUTE
  /-- `LEA_CTRL_STAT` at `0x03_5010`, 32 bits (13_lea_links.md). -/
  | LEA_CTRL_STAT
  /-- `LEA_STATUS` at `0x03_5014`, 32 bits (13_lea_links.md). -/
  | LEA_STATUS
  /-- `STL_FIN_CFGi` at `0x04_0000 + i × 0x10`, 32 bits (14_field_inputs_and_trigger_queues.md). -/
  | STL_FIN_CFG
  /-- `STL_FIN_LIMi` at `0x04_0004 + i × 0x10`, 32 bits (14_field_inputs_and_trigger_queues.md). -/
  | STL_FIN_LIM
  /-- `STL_FIN_STATi` at `0x04_0008 + i × 0x10`, 32 bits (14_field_inputs_and_trigger_queues.md). -/
  | STL_FIN_STAT
  /-- `STL_ENC_CFGe` at `0x04_1000 + e × 0x10`, 32 bits (14_field_inputs_and_trigger_queues.md). -/
  | STL_ENC_CFG
  /-- `STL_ENC_POSe` at `0x04_1004 + e × 0x10`, 32 bits (14_field_inputs_and_trigger_queues.md). -/
  | STL_ENC_POS
  /-- `STL_TQ_CFGq` at `0x04_2000 + q × 0x20`, 32 bits (14_field_inputs_and_trigger_queues.md). -/
  | STL_TQ_CFG
  /-- `STL_TQ_STATq` at `0x04_2004 + q × 0x20`, 32 bits (14_field_inputs_and_trigger_queues.md). -/
  | STL_TQ_STAT
  /-- `STL_TQ_CNTq` at `0x04_2008 + q × 0x20`, 32 bits (14_field_inputs_and_trigger_queues.md). -/
  | STL_TQ_CNT
  /-- `STL_TQ_POPq` at `0x04_2010 + q × 0x20`, 4 × 32 bits (14_field_inputs_and_trigger_queues.md). -/
  | STL_TQ_POP
  /-- `STL_FOUT` at `0x04_3000`, 32 bits (14_field_inputs_and_trigger_queues.md). -/
  | STL_FOUT
  /-- `STL_FOUT_SAFE` at `0x04_3004`, 32 bits (14_field_inputs_and_trigger_queues.md). -/
  | STL_FOUT_SAFE
  /-- `STL_AIN_CFG` at `0x05_0000`, 32 bits (15_field_converters.md). -/
  | STL_AIN_CFG
  /-- `STL_AIN_MASK` at `0x05_0004`, 32 bits (15_field_converters.md). -/
  | STL_AIN_MASK
  /-- `STL_AIN_PACE` at `0x05_0008`, 32 bits (15_field_converters.md). -/
  | STL_AIN_PACE
  /-- `STL_AIN_CTRL` at `0x05_000C`, 32 bits (15_field_converters.md). -/
  | STL_AIN_CTRL
  /-- `STL_AIN_INJ` at `0x05_0010`, 32 bits (15_field_converters.md). -/
  | STL_AIN_INJ
  /-- `STL_AIN_STATUS` at `0x05_0014`, 32 bits (15_field_converters.md). -/
  | STL_AIN_STATUS
  /-- `STL_AIN_CNT` at `0x05_0018`, 32 bits (15_field_converters.md). -/
  | STL_AIN_CNT
  /-- `STL_AIN_OPEN` at `0x05_001C`, 32 bits (15_field_converters.md). -/
  | STL_AIN_OPEN
  /-- `STL_AIN_CAL_TGT` at `0x05_0020`, 32 bits (15_field_converters.md). -/
  | STL_AIN_CAL_TGT
  /-- `STL_AIN_PASS_TIME` at `0x05_0028`, 64 bits (15_field_converters.md). -/
  | STL_AIN_PASS_TIME
  /-- `STL_AIN_INJ_RES` at `0x05_0030`, 32 bits (15_field_converters.md). -/
  | STL_AIN_INJ_RES
  /-- `STL_AIN_RESn` at `0x05_0040 + n × 4, n = 0 to 15`, 32 bits (15_field_converters.md). -/
  | STL_AIN_RES
  /-- `STL_AIN_ENTn` at `0x05_0080 + n × 4, n = 0 to 15`, 32 bits (15_field_converters.md). -/
  | STL_AIN_ENT
  /-- `STL_AIN_CHCFGc` at `0x05_0100 + c × 4, c = 0 to 15`, 32 bits (15_field_converters.md). -/
  | STL_AIN_CHCFG
  /-- `STL_AIN_CALc_k` at `0x05_0200 + c × 8 + k × 4`, 32 bits (15_field_converters.md). -/
  | STL_AIN_CAL
  /-- `STL_AOUT_CFGk` at `+0x00`, 32 bits (15_field_converters.md). -/
  | STL_AOUT_CFG
  /-- `STL_AOUT_VALUEk` at `+0x04`, 32 bits (15_field_converters.md). -/
  | STL_AOUT_VALUE
  /-- `STL_AOUT_FTWk` at `+0x08`, 64 bits (15_field_converters.md). -/
  | STL_AOUT_FTW
  /-- `STL_AOUT_SHAPEk` at `+0x10`, 32 bits (15_field_converters.md). -/
  | STL_AOUT_SHAPE
  /-- `STL_AOUT_PHASEk` at `+0x14`, 32 bits (15_field_converters.md). -/
  | STL_AOUT_PHASE
  /-- `STL_AOUT_SAFEk` at `+0x18`, 32 bits (15_field_converters.md). -/
  | STL_AOUT_SAFE
  /-- `STL_AOUT_STATUSk` at `+0x1C`, 32 bits (15_field_converters.md). -/
  | STL_AOUT_STATUS
  /-- `STL_AOUT_CTRL` at `0x06_0100`, 32 bits (15_field_converters.md). -/
  | STL_AOUT_CTRL
  /-- `THM_CFG` at `0x01_8000`, 32 bits (16_heat.md). -/
  | THM_CFG
  /-- `THM_RATE` at `0x01_8004`, 32 bits (16_heat.md). -/
  | THM_RATE
  /-- `THM_PWR` at `0x01_8008`, 32 bits (16_heat.md). -/
  | THM_PWR
  /-- `THM_POWER` at `0x01_800C`, 32 bits (16_heat.md). -/
  | THM_POWER
  /-- `THM_CTRL` at `0x01_8010`, 32 bits (16_heat.md). -/
  | THM_CTRL
  /-- `THM_STATUS` at `0x01_8014`, 32 bits (16_heat.md). -/
  | THM_STATUS
  /-- `THM_SENSk` at `0x01_8100 + k × 4, k = 0 to 163`, 32 bits (16_heat.md). -/
  | THM_SENS
  /-- `THM_TRIP_REC` at `0x01_8400`, 16 × 32 bits (16_heat.md). -/
  | THM_TRIP_REC
  /-- `PWR_CTRL` at `0x01_0000`, 32 bits (17_power_states.md). -/
  | PWR_CTRL
  /-- `PWR_STATUS` at `0x01_0004`, 32 bits (17_power_states.md). -/
  | PWR_STATUS
  /-- `PWR_CFG` at `0x01_0008`, 32 bits (17_power_states.md). -/
  | PWR_CFG
  /-- `PWR_WAKE_EN` at `0x01_000C`, 32 bits (17_power_states.md). -/
  | PWR_WAKE_EN
  /-- `PWR_WAKE_FIN` at `0x01_0010`, 32 bits (17_power_states.md). -/
  | PWR_WAKE_FIN
  /-- `PWR_WAKE_TIMER` at `0x01_0014`, 32 bits (17_power_states.md). -/
  | PWR_WAKE_TIMER
  /-- `PWR_REFUSE` at `0x01_0020`, 32 bits (17_power_states.md). -/
  | PWR_REFUSE
  /-- `PWR_LAST_REFUSE` at `0x01_0024`, 32 bits (17_power_states.md). -/
  | PWR_LAST_REFUSE
  /-- `PWR_ENTRY_CNT` at `0x01_0028`, 32 bits (17_power_states.md). -/
  | PWR_ENTRY_CNT
  /-- `PWR_QUARTER_OFF` at `0x01_0030`, 32 bits (17_power_states.md). -/
  | PWR_QUARTER_OFF
  /-- `PWR_DOMAIN` at `0x01_0034`, 32 bits (17_power_states.md). -/
  | PWR_DOMAIN
  /-- `GLB_FALLOW_REASON` at `0x00_0100`, 32 bits (18_start_and_service.md). -/
  | GLB_FALLOW_REASON
  /-- `GLB_LEVEL` at `0x00_0104`, 32 bits (18_start_and_service.md). -/
  | GLB_LEVEL
  /-- `GLB_CHN_CTRL` at `0x00_0108`, 32 bits (18_start_and_service.md). -/
  | GLB_CHN_CTRL
  /-- `GLB_CHN_STATUS` at `0x00_010C`, 32 bits (18_start_and_service.md). -/
  | GLB_CHN_STATUS
  /-- `BOOT_STATUS` at `0x02_0000`, 32 bits (18_start_and_service.md). -/
  | BOOT_STATUS
  /-- `BOOT_CTRL` at `0x02_0004`, 32 bits (18_start_and_service.md). -/
  | BOOT_CTRL
  /-- `BOOT_SP_STATUS` at `0x02_0010`, 32 bits (18_start_and_service.md). -/
  | BOOT_SP_STATUS
  /-- `BOOT_MBOX_CMD` at `0x02_0100`, 32 bits (18_start_and_service.md). -/
  | BOOT_MBOX_CMD
  /-- `BOOT_MBOX_ARG` at `0x02_0108`, 64 bits (18_start_and_service.md). -/
  | BOOT_MBOX_ARG
  /-- `BOOT_MBOX_STATUS` at `0x02_0110`, 32 bits (18_start_and_service.md). -/
  | BOOT_MBOX_STATUS
  /-- `BOOT_MBOX_BUF` at `0x02_1000`, 1,024 × 32 bits (18_start_and_service.md). -/
  | BOOT_MBOX_BUF
  /-- `SEC_MBOX_CMD` at `0x02_8000`, 32 bits (19_security.md). -/
  | SEC_MBOX_CMD
  /-- `SEC_MBOX_ARG` at `0x02_8008`, 32 bits (19_security.md). -/
  | SEC_MBOX_ARG
  /-- `SEC_MBOX_STATUS` at `0x02_8010`, 32 bits (19_security.md). -/
  | SEC_MBOX_STATUS
  /-- `SEC_STATUS` at `0x02_8020`, 32 bits (19_security.md). -/
  | SEC_STATUS
  /-- `SEC_VERIFY_CNT` at `0x02_8024`, 32 bits (19_security.md). -/
  | SEC_VERIFY_CNT
  /-- `SEC_CTRL` at `0x02_8028`, 32 bits (19_security.md). -/
  | SEC_CTRL
  /-- `SEC_MBOX_BUF` at `0x02_A000`, 2,048 × 32 bits (19_security.md). -/
  | SEC_MBOX_BUF
  /-- `GLB_ID` at `0x00_0000`, 32 bits (20_register_map.md). -/
  | GLB_ID
  /-- `GLB_CAPS` at `0x00_0004`, 32 bits (20_register_map.md). -/
  | GLB_CAPS
  /-- `GLB_TIME` at `0x00_0010`, 64 bits (20_register_map.md). -/
  | GLB_TIME
  /-- `GLB_ERR_STATUS` at `0x00_0020`, 32 bits (20_register_map.md). -/
  | GLB_ERR_STATUS
  /-- `GLB_ERR_MASK` at `0x00_0024`, 32 bits (20_register_map.md). -/
  | GLB_ERR_MASK
  /-- `GLB_IRQ_EVENT_LO` at `0x00_0030`, 32 bits (20_register_map.md). -/
  | GLB_IRQ_EVENT_LO
  /-- `GLB_IRQ_EVENT_HI` at `0x00_0034`, 32 bits (20_register_map.md). -/
  | GLB_IRQ_EVENT_HI
  /-- `PCI_LINK` at `0x03_0000`, 32 bits (20_register_map.md). -/
  | PCI_LINK
  /-- `STL_PIN_FINi` at `0x07_0000 + i × 4, i = 0 to 23`, 32 bits (21_pins_and_electrical.md). -/
  | STL_PIN_FIN
  /-- `STL_PIN_ENCe` at `0x07_0080 + e × 4, e = 0 to 3`, 32 bits (21_pins_and_electrical.md). -/
  | STL_PIN_ENC
  /-- `STL_PIN_OUTk` at `0x07_0100 + k × 4, k = 0 to 23`, 32 bits (21_pins_and_electrical.md). -/
  | STL_PIN_OUT
  /-- `STL_PIN_STATUS` at `0x07_0200`, 32 bits (21_pins_and_electrical.md). -/
  | STL_PIN_STATUS
  deriving DecidableEq, Repr

/-- How software reaches a field: read only, read and write, cleared by writing 1, or write only (reads 0). -/
inductive Access where
  /-- RO -/
  | ro
  /-- RW -/
  | rw
  /-- W1C -/
  | w1c
  /-- WO -/
  | wo
  deriving DecidableEq, Repr

/-- A field of a register as a register table lists it: lowest bit, width, access. -/
structure FieldDesc where
  lo : Nat
  w : Nat
  acc : Access
  deriving DecidableEq, Repr

/-- One field of one register of the device: the register, its indices `i` and `j`, the field's lowest bit and its
width in bits. -/
structure Fld where
  r : RegName
  i : Nat
  j : Nat
  lo : Nat
  w : Nat
  deriving DecidableEq, Repr

/-- The fields of each register that are not reserved; a reserved bit reads as 0 and ignores writes. -/
def fieldsOf : RegName → List FieldDesc
  | .TSK_ARR_STATE => [⟨0, 3, .ro⟩, ⟨3, 1, .ro⟩, ⟨4, 1, .ro⟩, ⟨5, 2, .ro⟩, ⟨8, 8, .ro⟩]
  | .TSK_ARR_STATUS => [⟨0, 1, .w1c⟩, ⟨1, 1, .w1c⟩, ⟨2, 1, .w1c⟩, ⟨3, 1, .w1c⟩, ⟨4, 1, .ro⟩]
  | .TSK_ARR_CTRL => [⟨0, 1, .wo⟩]
  | .TSK_ARR_EVENTS => [⟨0, 16, .ro⟩, ⟨16, 8, .ro⟩, ⟨24, 8, .ro⟩]
  | .TSK_ARR_RESTORE => [⟨0, 9, .ro⟩, ⟨16, 16, .ro⟩]
  | .TSK_ARR_WRITE => [⟨0, 10, .ro⟩, ⟨10, 10, .ro⟩]
  | .TSK_ARR_RESTORE_CNT => [⟨0, 64, .ro⟩]
  | .TSK_ARRAY_ROLE => [⟨0, 5, .ro⟩]
  | .TSK_RESTORE_TEMP => [⟨0, 8, .ro⟩, ⟨8, 1, .ro⟩, ⟨16, 5, .ro⟩]
  | .TSK_CONV_CFG => [⟨0, 3, .rw⟩, ⟨4, 1, .rw⟩, ⟨8, 1, .wo⟩]
  | .TSK_CONV_SAT => [⟨0, 16, .ro⟩, ⟨16, 8, .ro⟩]
  | .TSK_CONV_STATUS => [⟨0, 1, .w1c⟩, ⟨1, 1, .w1c⟩, ⟨2, 1, .w1c⟩, ⟨3, 1, .w1c⟩, ⟨4, 1, .ro⟩, ⟨8, 5, .ro⟩,
      ⟨31, 1, .wo⟩]
  | .TSK_TABLE_ECC => [⟨0, 16, .ro⟩, ⟨16, 8, .ro⟩]
  | .TSK_ID => [⟨0, 8, .ro⟩, ⟨8, 2, .ro⟩, ⟨10, 6, .ro⟩, ⟨16, 4, .ro⟩]
  | .TSK_STATE => [⟨0, 2, .ro⟩]
  | .TSK_CTRL => [⟨0, 1, .wo⟩, ⟨1, 1, .wo⟩, ⟨2, 1, .wo⟩, ⟨3, 1, .wo⟩]
  | .TSK_CTRL_STATUS => [⟨0, 1, .w1c⟩]
  | .TSK_QUAR_CAUSE => [⟨0, 4, .ro⟩]
  | .TSK_SEQ_STATUS => [⟨0, 15, .ro⟩, ⟨15, 1, .w1c⟩, ⟨16, 15, .ro⟩]
  | .TSK_SEQ_ERR => [⟨0, 8, .ro⟩, ⟨8, 8, .ro⟩, ⟨16, 8, .ro⟩, ⟨24, 8, .ro⟩]
  | .TSK_CLK_STATUS => [⟨0, 1, .ro⟩, ⟨1, 1, .w1c⟩, ⟨2, 1, .w1c⟩, ⟨8, 8, .ro⟩]
  | .TSK_SWAP => [⟨0, 4, .ro⟩, ⟨4, 5, .ro⟩, ⟨9, 5, .ro⟩, ⟨14, 1, .w1c⟩, ⟨16, 8, .ro⟩, ⟨24, 8, .ro⟩]
  | .TSK_BANK_ECC => [⟨0, 16, .ro⟩, ⟨16, 8, .ro⟩, ⟨31, 1, .wo⟩]
  | .TSK_ROLE_MAP => [⟨0, 5, .ro⟩, ⟨8, 5, .ro⟩, ⟨16, 5, .ro⟩, ⟨24, 5, .ro⟩]
  | .GLB_RGN_BASE => [⟨12, 36, .rw⟩]
  | .GLB_RGN_LIMIT => [⟨12, 36, .rw⟩]
  | .GLB_RGN_ATTR => [⟨0, 1, .rw⟩, ⟨1, 1, .rw⟩, ⟨2, 1, .rw⟩, ⟨3, 1, .rw⟩, ⟨8, 4, .rw⟩, ⟨12, 4, .rw⟩, ⟨16, 2, .rw⟩]
  | .GLB_RGN_INGRESS => [⟨0, 16, .rw⟩]
  | .GLB_RGN_FAULT_ADDR => [⟨0, 48, .ro⟩]
  | .GLB_RGN_FAULT_INFO => [⟨0, 1, .w1c⟩, ⟨1, 1, .ro⟩, ⟨2, 2, .ro⟩, ⟨4, 2, .ro⟩, ⟨6, 1, .ro⟩, ⟨16, 16, .ro⟩]
  | .PCI_BAR2_BASE => [⟨30, 18, .rw⟩]
  | .PCI_T3_BASE => [⟨12, 52, .rw⟩]
  | .PCI_T3_LAT => [⟨0, 16, .rw⟩]
  | .PCI_T3_LATE => [⟨0, 16, .ro⟩, ⟨31, 1, .wo⟩]
  | .CHN_HDG_ERR => [⟨0, 8, .ro⟩, ⟨8, 8, .ro⟩, ⟨16, 8, .ro⟩, ⟨24, 7, .ro⟩, ⟨31, 1, .wo⟩]
  | .CHN_STK_ERR => [⟨0, 16, .ro⟩, ⟨16, 8, .ro⟩, ⟨24, 7, .ro⟩, ⟨31, 1, .wo⟩]
  | .CHN_ADM_CFG => [⟨0, 9, .rw⟩, ⟨12, 4, .rw⟩, ⟨16, 8, .rw⟩, ⟨24, 6, .rw⟩]
  | .CHN_ADM_BUDGET => [⟨0, 9, .ro⟩, ⟨9, 9, .ro⟩, ⟨18, 9, .ro⟩, ⟨27, 1, .ro⟩]
  | .CHN_ADM_CTRL => [⟨0, 1, .wo⟩, ⟨1, 1, .wo⟩]
  | .CHN_ADM_ADMITTED => [⟨0, 32, .ro⟩]
  | .CHN_ADM_REFUSED => [⟨0, 16, .ro⟩, ⟨16, 16, .ro⟩]
  | .CHN_ADM_HELD => [⟨0, 16, .ro⟩]
  | .CHN_JOB_TIMEOUT => [⟨0, 16, .ro⟩, ⟨16, 16, .ro⟩]
  | .CHN_TAGS => [⟨0, 15, .ro⟩, ⟨16, 15, .ro⟩]
  | .CHN_ADM_SAT => [⟨0, 24, .ro⟩, ⟨24, 8, .ro⟩]
  | .PCI_ING_STALL => [⟨0, 24, .ro⟩, ⟨31, 1, .wo⟩]
  | .CHN_ENG_RING_BASE => [⟨12, 36, .rw⟩]
  | .CHN_ENG_CTRL_ADDR => [⟨12, 36, .rw⟩]
  | .CHN_ENG_CPL_BASE => [⟨12, 36, .rw⟩]
  | .CHN_ENG_CFG => [⟨0, 5, .rw⟩, ⟨5, 5, .rw⟩, ⟨10, 1, .rw⟩, ⟨12, 1, .rw⟩]
  | .CHN_ENG_STATUS => [⟨0, 1, .ro⟩, ⟨1, 1, .w1c⟩, ⟨2, 1, .w1c⟩, ⟨3, 1, .w1c⟩, ⟨4, 1, .ro⟩, ⟨5, 1, .w1c⟩,
      ⟨16, 16, .ro⟩]
  | .CHN_ENG_CONS => [⟨0, 32, .ro⟩]
  | .CHN_ENG_PROD => [⟨0, 32, .ro⟩]
  | .CHN_ENG_JOBS => [⟨0, 32, .ro⟩]
  | .CHN_K1_TMPL => [⟨3, 45, .rw⟩]
  | .CHN_K1_CFG => [⟨0, 12, .rw⟩, ⟨12, 8, .rw⟩]
  | .GLB_CTX_STATE => [⟨0, 2, .ro⟩, ⟨2, 1, .ro⟩, ⟨3, 1, .ro⟩, ⟨4, 1, .ro⟩, ⟨16, 16, .ro⟩]
  | .GLB_CTX_PTR => [⟨0, 48, .ro⟩]
  | .GLB_CTX_PEND => [⟨0, 48, .ro⟩]
  | .GLB_CTX_EVENTS => [⟨0, 8, .ro⟩, ⟨8, 8, .ro⟩, ⟨16, 4, .ro⟩, ⟨31, 1, .wo⟩]
  | .GLB_CTX_TID => [⟨0, 16, .ro⟩, ⟨16, 16, .ro⟩]
  | .CHN_LD_STATUS => [⟨0, 4, .ro⟩, ⟨4, 1, .w1c⟩, ⟨5, 1, .w1c⟩]
  | .CHN_LD_PKG => [⟨0, 16, .ro⟩, ⟨16, 16, .ro⟩]
  | .CHN_LD_CLAMP => [⟨0, 32, .ro⟩]
  | .CHN_LD_CTRL => [⟨0, 1, .wo⟩]
  | .GLB_DIST_CFG => [⟨0, 1, .rw⟩, ⟨1, 2, .rw⟩, ⟨3, 2, .rw⟩, ⟨5, 1, .rw⟩]
  | .GLB_DIST_BASE => [⟨8, 40, .rw⟩]
  | .GLB_DIST_LIMIT => [⟨8, 40, .rw⟩]
  | .GLB_DIST_STAT => [⟨0, 16, .ro⟩, ⟨31, 1, .wo⟩]
  | .BRK_CFG => [⟨0, 5, .rw⟩, ⟨5, 1, .rw⟩, ⟨6, 1, .rw⟩, ⟨8, 1, .rw⟩, ⟨9, 1, .rw⟩]
  | .BRK_CTRL => [⟨0, 1, .wo⟩, ⟨1, 1, .wo⟩, ⟨2, 1, .wo⟩]
  | .BRK_STATUS => [⟨0, 1, .ro⟩, ⟨1, 1, .ro⟩, ⟨2, 1, .w1c⟩, ⟨3, 1, .w1c⟩, ⟨4, 1, .w1c⟩, ⟨5, 1, .w1c⟩,
      ⟨6, 1, .w1c⟩, ⟨7, 1, .w1c⟩, ⟨8, 1, .ro⟩, ⟨9, 1, .ro⟩, ⟨10, 1, .ro⟩, ⟨16, 5, .ro⟩, ⟨21, 3, .ro⟩]
  | .BRK_CAL_CNT => [⟨0, 16, .ro⟩, ⟨16, 8, .ro⟩, ⟨24, 8, .ro⟩]
  | .BRK_CAL_TIME => [⟨0, 64, .ro⟩]
  | .BRK_DEFER => [⟨0, 16, .ro⟩, ⟨16, 16, .ro⟩]
  | .BRK_SAVED_TEMP => [⟨0, 8, .rw⟩]
  | .BRK_TRIM_SEL => [⟨0, 8, .rw⟩, ⟨8, 5, .rw⟩, ⟨31, 1, .rw⟩]
  | .BRK_TRIM_DATA => [⟨0, 32, .rw⟩]
  | .BRK_LAST_FAIL => [⟨0, 5, .ro⟩, ⟨8, 9, .ro⟩, ⟨31, 1, .ro⟩]
  | .BRK_ARR_CAL => [⟨0, 16, .ro⟩, ⟨16, 8, .ro⟩, ⟨24, 1, .ro⟩, ⟨25, 4, .ro⟩]
  | .BRK_ARR_TIME => [⟨0, 64, .ro⟩]
  | .GRS_CFG => [⟨0, 3, .rw⟩, ⟨4, 5, .rw⟩, ⟨9, 1, .rw⟩, ⟨10, 1, .rw⟩]
  | .GRS_TOL => [⟨0, 8, .rw⟩, ⟨8, 8, .rw⟩, ⟨16, 8, .rw⟩, ⟨24, 8, .rw⟩]
  | .GRS_STATUS => [⟨0, 1, .w1c⟩, ⟨1, 1, .w1c⟩, ⟨2, 1, .w1c⟩, ⟨3, 1, .w1c⟩, ⟨4, 1, .w1c⟩, ⟨5, 1, .w1c⟩,
      ⟨6, 1, .w1c⟩, ⟨7, 1, .w1c⟩, ⟨8, 1, .ro⟩]
  | .GRS_ARB_CNT => [⟨0, 8, .ro⟩, ⟨8, 8, .ro⟩, ⟨16, 8, .ro⟩, ⟨24, 8, .ro⟩]
  | .GRS_EVT_CNT => [⟨0, 8, .ro⟩, ⟨8, 8, .ro⟩, ⟨16, 8, .ro⟩, ⟨24, 8, .ro⟩]
  | .GRS_CTRL => [⟨0, 1, .wo⟩, ⟨1, 1, .wo⟩]
  | .GRS_SUSPECT_TIME => [⟨0, 64, .ro⟩]
  | .GRS_SUSPECT_INFO => [⟨0, 8, .ro⟩, ⟨8, 5, .ro⟩]
  | .GRS_PROV => [⟨0, 13, .ro⟩, ⟨16, 13, .ro⟩]
  | .GRS_REP_CFG => [⟨0, 1, .rw⟩, ⟨1, 3, .rw⟩, ⟨8, 8, .rw⟩, ⟨16, 16, .rw⟩]
  | .GRS_REP_CTX => [⟨0, 64, .rw⟩]
  | .GRS_REP_EXPELLED => [⟨0, 64, .ro⟩]
  | .GRS_REP_STATUS => [⟨0, 8, .ro⟩, ⟨8, 8, .ro⟩, ⟨16, 8, .ro⟩, ⟨24, 8, .ro⟩]
  | .GRS_REP_CTRL => [⟨0, 6, .wo⟩, ⟨6, 1, .wo⟩]
  | .GRS_TP_STATUS => [⟨0, 4, .ro⟩, ⟨4, 1, .w1c⟩, ⟨16, 16, .ro⟩]
  | .GRS_LANE_STATUS => [⟨0, 1, .w1c⟩, ⟨1, 1, .w1c⟩, ⟨2, 1, .w1c⟩, ⟨3, 1, .w1c⟩, ⟨4, 1, .w1c⟩, ⟨5, 1, .w1c⟩,
      ⟨6, 1, .w1c⟩, ⟨7, 1, .w1c⟩, ⟨8, 1, .ro⟩, ⟨9, 3, .ro⟩, ⟨12, 1, .ro⟩, ⟨16, 6, .ro⟩]
  | .GRS_LANE_CNT => [⟨0, 16, .ro⟩, ⟨16, 8, .ro⟩, ⟨24, 8, .ro⟩]
  | .GRS_ARB_LAST => [⟨0, 5, .ro⟩, ⟨5, 9, .ro⟩, ⟨14, 1, .ro⟩, ⟨15, 3, .ro⟩, ⟨18, 3, .ro⟩, ⟨31, 1, .ro⟩]
  | .GRS_SHADOW_MAP => [⟨0, 6, .ro⟩, ⟨8, 6, .ro⟩, ⟨16, 6, .ro⟩, ⟨24, 6, .ro⟩]
  | .LEA_PORT_CFG => [⟨0, 1, .rw⟩, ⟨1, 1, .rw⟩, ⟨2, 1, .rw⟩, ⟨3, 1, .wo⟩, ⟨4, 4, .rw⟩]
  | .LEA_PORT_STATUS => [⟨0, 3, .ro⟩, ⟨3, 1, .ro⟩, ⟨4, 4, .ro⟩, ⟨8, 1, .w1c⟩, ⟨9, 1, .w1c⟩, ⟨10, 1, .w1c⟩,
      ⟨11, 1, .w1c⟩, ⟨16, 4, .ro⟩]
  | .LEA_PORT_ERR => [⟨0, 16, .ro⟩, ⟨16, 8, .ro⟩, ⟨24, 8, .ro⟩]
  | .LEA_PORT_FEC => [⟨0, 24, .ro⟩, ⟨24, 8, .ro⟩]
  | .LEA_PORT_TX => [⟨0, 64, .ro⟩]
  | .LEA_PORT_RX => [⟨0, 64, .ro⟩]
  | .LEA_PORT_STAT => [⟨0, 16, .ro⟩, ⟨16, 8, .ro⟩, ⟨31, 1, .wo⟩]
  | .LEA_NODE => [⟨0, 4, .rw⟩]
  | .LEA_ROUTE => [⟨0, 2, .rw⟩, ⟨2, 1, .rw⟩, ⟨4, 2, .rw⟩, ⟨6, 1, .rw⟩, ⟨8, 2, .rw⟩, ⟨10, 1, .rw⟩, ⟨12, 2, .rw⟩,
      ⟨14, 1, .rw⟩, ⟨16, 2, .rw⟩, ⟨18, 1, .rw⟩, ⟨20, 2, .rw⟩, ⟨22, 1, .rw⟩, ⟨24, 2, .rw⟩, ⟨26, 1, .rw⟩,
      ⟨28, 2, .rw⟩, ⟨30, 1, .rw⟩, ⟨32, 2, .rw⟩, ⟨34, 1, .rw⟩, ⟨36, 2, .rw⟩, ⟨38, 1, .rw⟩, ⟨40, 2, .rw⟩,
      ⟨42, 1, .rw⟩, ⟨44, 2, .rw⟩, ⟨46, 1, .rw⟩, ⟨48, 2, .rw⟩, ⟨50, 1, .rw⟩, ⟨52, 2, .rw⟩, ⟨54, 1, .rw⟩,
      ⟨56, 2, .rw⟩, ⟨58, 1, .rw⟩, ⟨60, 2, .rw⟩, ⟨62, 1, .rw⟩]
  | .LEA_CTRL_STAT => [⟨0, 16, .ro⟩, ⟨16, 15, .ro⟩, ⟨31, 1, .wo⟩]
  | .LEA_STATUS => [⟨0, 1, .w1c⟩, ⟨1, 1, .w1c⟩]
  | .STL_FIN_CFG => [⟨0, 1, .rw⟩, ⟨1, 1, .rw⟩, ⟨2, 2, .rw⟩, ⟨4, 3, .rw⟩, ⟨8, 16, .rw⟩]
  | .STL_FIN_LIM => [⟨0, 16, .rw⟩, ⟨16, 16, .rw⟩]
  | .STL_FIN_STAT => [⟨0, 1, .ro⟩, ⟨1, 1, .ro⟩, ⟨2, 1, .w1c⟩, ⟨3, 1, .w1c⟩, ⟨8, 8, .ro⟩, ⟨16, 8, .ro⟩,
      ⟨31, 1, .wo⟩]
  | .STL_ENC_CFG => [⟨0, 2, .rw⟩, ⟨2, 1, .rw⟩, ⟨4, 4, .rw⟩, ⟨8, 1, .w1c⟩, ⟨16, 8, .ro⟩, ⟨31, 1, .wo⟩]
  | .STL_ENC_POS => [⟨0, 32, .rw⟩]
  | .STL_TQ_CFG => [⟨0, 1, .rw⟩, ⟨1, 1, .rw⟩, ⟨2, 1, .rw⟩, ⟨3, 1, .wo⟩, ⟨4, 2, .rw⟩, ⟨8, 7, .rw⟩, ⟨16, 7, .rw⟩]
  | .STL_TQ_STAT => [⟨0, 7, .ro⟩, ⟨7, 1, .ro⟩, ⟨8, 1, .w1c⟩, ⟨9, 1, .w1c⟩, ⟨10, 1, .w1c⟩, ⟨16, 16, .ro⟩]
  | .STL_TQ_CNT => [⟨0, 8, .ro⟩, ⟨8, 7, .ro⟩, ⟨15, 1, .wo⟩, ⟨16, 16, .ro⟩]
  | .STL_TQ_POP => [⟨0, 32, .ro⟩]
  | .STL_FOUT => [⟨0, 16, .rw⟩, ⟨16, 16, .rw⟩]
  | .STL_FOUT_SAFE => [⟨0, 16, .rw⟩, ⟨16, 16, .rw⟩]
  | .STL_AIN_CFG => [⟨0, 2, .rw⟩, ⟨2, 2, .rw⟩, ⟨4, 1, .rw⟩, ⟨5, 1, .rw⟩, ⟨8, 4, .rw⟩, ⟨12, 1, .rw⟩]
  | .STL_AIN_MASK => [⟨0, 16, .rw⟩]
  | .STL_AIN_PACE => [⟨0, 24, .rw⟩, ⟨24, 2, .rw⟩, ⟨26, 5, .rw⟩]
  | .STL_AIN_CTRL => [⟨0, 1, .wo⟩, ⟨1, 1, .wo⟩, ⟨2, 2, .wo⟩, ⟨4, 4, .wo⟩]
  | .STL_AIN_INJ => [⟨0, 4, .rw⟩, ⟨4, 1, .rw⟩, ⟨5, 1, .rw⟩, ⟨6, 1, .rw⟩, ⟨7, 5, .rw⟩]
  | .STL_AIN_STATUS => [⟨0, 1, .ro⟩, ⟨1, 1, .w1c⟩, ⟨2, 1, .w1c⟩, ⟨3, 1, .w1c⟩, ⟨4, 1, .w1c⟩, ⟨5, 1, .w1c⟩,
      ⟨6, 1, .w1c⟩, ⟨7, 1, .w1c⟩, ⟨8, 1, .w1c⟩, ⟨9, 1, .ro⟩, ⟨16, 5, .ro⟩]
  | .STL_AIN_CNT => [⟨0, 16, .ro⟩, ⟨16, 15, .ro⟩, ⟨31, 1, .wo⟩]
  | .STL_AIN_OPEN => [⟨0, 16, .w1c⟩]
  | .STL_AIN_CAL_TGT => [⟨0, 16, .rw⟩]
  | .STL_AIN_PASS_TIME => [⟨0, 64, .ro⟩]
  | .STL_AIN_INJ_RES => [⟨0, 16, .ro⟩, ⟨16, 4, .ro⟩, ⟨20, 1, .ro⟩, ⟨21, 1, .ro⟩]
  | .STL_AIN_RES => [⟨0, 32, .ro⟩]
  | .STL_AIN_ENT => [⟨0, 4, .ro⟩, ⟨4, 1, .ro⟩, ⟨5, 1, .ro⟩, ⟨6, 1, .w1c⟩]
  | .STL_AIN_CHCFG => [⟨0, 1, .rw⟩, ⟨1, 2, .rw⟩, ⟨3, 2, .rw⟩]
  | .STL_AIN_CAL => [⟨0, 16, .rw⟩, ⟨16, 16, .rw⟩]
  | .STL_AOUT_CFG => [⟨0, 2, .rw⟩, ⟨2, 1, .rw⟩, ⟨3, 1, .rw⟩, ⟨4, 1, .rw⟩, ⟨5, 1, .rw⟩]
  | .STL_AOUT_VALUE => [⟨0, 14, .rw⟩]
  | .STL_AOUT_FTW => [⟨0, 48, .rw⟩]
  | .STL_AOUT_SHAPE => [⟨0, 13, .rw⟩, ⟨16, 14, .rw⟩]
  | .STL_AOUT_PHASE => [⟨0, 16, .rw⟩, ⟨16, 16, .rw⟩]
  | .STL_AOUT_SAFE => [⟨0, 14, .rw⟩, ⟨14, 1, .rw⟩, ⟨15, 1, .rw⟩]
  | .STL_AOUT_STATUS => [⟨0, 1, .ro⟩, ⟨1, 3, .ro⟩, ⟨4, 1, .w1c⟩, ⟨5, 1, .ro⟩, ⟨6, 1, .w1c⟩, ⟨7, 1, .w1c⟩]
  | .STL_AOUT_CTRL => [⟨0, 4, .wo⟩, ⟨4, 4, .wo⟩, ⟨8, 4, .wo⟩, ⟨12, 4, .wo⟩]
  | .THM_CFG => [⟨0, 8, .rw⟩, ⟨8, 8, .rw⟩, ⟨16, 8, .rw⟩, ⟨24, 8, .rw⟩]
  | .THM_RATE => [⟨0, 7, .rw⟩, ⟨8, 7, .rw⟩]
  | .THM_PWR => [⟨0, 10, .rw⟩, ⟨16, 10, .rw⟩]
  | .THM_POWER => [⟨0, 10, .ro⟩, ⟨16, 9, .ro⟩]
  | .THM_CTRL => [⟨0, 1, .wo⟩]
  | .THM_STATUS => [⟨0, 1, .w1c⟩, ⟨1, 1, .w1c⟩, ⟨2, 1, .w1c⟩, ⟨3, 1, .w1c⟩, ⟨4, 1, .ro⟩, ⟨5, 1, .ro⟩, ⟨8, 8, .ro⟩]
  | .THM_SENS => [⟨0, 12, .ro⟩, ⟨12, 1, .ro⟩, ⟨13, 2, .ro⟩, ⟨16, 16, .ro⟩]
  | .THM_TRIP_REC => [⟨0, 32, .ro⟩]
  | .PWR_CTRL => [⟨0, 3, .wo⟩, ⟨3, 1, .wo⟩, ⟨4, 1, .wo⟩, ⟨5, 1, .wo⟩]
  | .PWR_STATUS => [⟨0, 3, .ro⟩, ⟨3, 1, .ro⟩, ⟨4, 4, .ro⟩, ⟨8, 1, .w1c⟩, ⟨9, 1, .w1c⟩, ⟨12, 4, .ro⟩]
  | .PWR_CFG => [⟨0, 8, .rw⟩, ⟨8, 1, .rw⟩, ⟨9, 1, .rw⟩]
  | .PWR_WAKE_EN => [⟨0, 4, .rw⟩]
  | .PWR_WAKE_FIN => [⟨0, 24, .rw⟩]
  | .PWR_WAKE_TIMER => [⟨0, 32, .rw⟩]
  | .PWR_REFUSE => [⟨0, 16, .ro⟩, ⟨16, 16, .ro⟩]
  | .PWR_LAST_REFUSE => [⟨0, 8, .ro⟩, ⟨8, 4, .ro⟩, ⟨12, 3, .ro⟩, ⟨15, 1, .ro⟩, ⟨31, 1, .ro⟩]
  | .PWR_ENTRY_CNT => [⟨0, 16, .ro⟩]
  | .PWR_QUARTER_OFF => [⟨0, 16, .rw⟩]
  | .PWR_DOMAIN => [⟨0, 16, .ro⟩, ⟨16, 4, .ro⟩, ⟨20, 4, .ro⟩, ⟨24, 1, .ro⟩, ⟨25, 1, .ro⟩, ⟨26, 1, .ro⟩,
      ⟨27, 1, .ro⟩]
  | .GLB_FALLOW_REASON => [⟨0, 4, .ro⟩, ⟨4, 4, .ro⟩, ⟨8, 4, .ro⟩, ⟨12, 1, .ro⟩, ⟨13, 1, .ro⟩]
  | .GLB_LEVEL => [⟨0, 2, .ro⟩, ⟨8, 1, .ro⟩, ⟨9, 1, .ro⟩, ⟨10, 1, .ro⟩, ⟨11, 1, .ro⟩, ⟨12, 1, .ro⟩, ⟨13, 1, .ro⟩]
  | .GLB_CHN_CTRL => [⟨0, 4, .rw⟩, ⟨4, 4, .wo⟩]
  | .GLB_CHN_STATUS => [⟨0, 4, .ro⟩, ⟨4, 4, .ro⟩, ⟨8, 4, .ro⟩, ⟨12, 4, .w1c⟩]
  | .BOOT_STATUS => [⟨0, 1, .ro⟩, ⟨1, 1, .ro⟩, ⟨2, 1, .ro⟩, ⟨3, 1, .ro⟩, ⟨4, 1, .w1c⟩, ⟨5, 1, .w1c⟩, ⟨8, 4, .ro⟩,
      ⟨12, 4, .ro⟩, ⟨16, 8, .ro⟩]
  | .BOOT_CTRL => [⟨0, 1, .wo⟩, ⟨1, 1, .wo⟩]
  | .BOOT_SP_STATUS => [⟨0, 9, .ro⟩, ⟨9, 1, .ro⟩, ⟨15, 1, .wo⟩, ⟨16, 16, .ro⟩]
  | .BOOT_MBOX_CMD => [⟨0, 8, .wo⟩]
  | .BOOT_MBOX_ARG => [⟨0, 32, .rw⟩, ⟨32, 1, .rw⟩]
  | .BOOT_MBOX_STATUS => [⟨0, 1, .ro⟩, ⟨1, 1, .w1c⟩, ⟨2, 1, .w1c⟩, ⟨4, 3, .ro⟩]
  | .BOOT_MBOX_BUF => [⟨0, 32, .rw⟩]
  | .SEC_MBOX_CMD => [⟨0, 8, .wo⟩]
  | .SEC_MBOX_ARG => [⟨0, 2, .rw⟩]
  | .SEC_MBOX_STATUS => [⟨0, 1, .ro⟩, ⟨1, 1, .w1c⟩, ⟨2, 1, .w1c⟩, ⟨4, 3, .ro⟩]
  | .SEC_STATUS => [⟨0, 1, .ro⟩, ⟨1, 1, .ro⟩, ⟨2, 8, .ro⟩, ⟨10, 1, .w1c⟩]
  | .SEC_VERIFY_CNT => [⟨0, 16, .ro⟩, ⟨16, 16, .ro⟩]
  | .SEC_CTRL => [⟨0, 1, .wo⟩]
  | .SEC_MBOX_BUF => [⟨0, 32, .rw⟩]
  | .GLB_ID => [⟨0, 16, .ro⟩, ⟨16, 8, .ro⟩, ⟨24, 8, .ro⟩]
  | .GLB_CAPS => [⟨0, 4, .ro⟩, ⟨4, 8, .ro⟩, ⟨12, 7, .ro⟩, ⟨19, 3, .ro⟩, ⟨22, 1, .ro⟩]
  | .GLB_TIME => [⟨0, 64, .ro⟩]
  | .GLB_ERR_STATUS => [⟨0, 1, .w1c⟩, ⟨1, 1, .w1c⟩, ⟨2, 1, .w1c⟩, ⟨3, 1, .w1c⟩, ⟨4, 1, .w1c⟩]
  | .GLB_ERR_MASK => [⟨0, 5, .rw⟩]
  | .GLB_IRQ_EVENT_LO => [⟨0, 32, .w1c⟩]
  | .GLB_IRQ_EVENT_HI => [⟨0, 15, .w1c⟩]
  | .PCI_LINK => [⟨0, 3, .ro⟩, ⟨4, 5, .ro⟩, ⟨9, 1, .ro⟩]
  | .STL_PIN_FIN => [⟨0, 2, .rw⟩]
  | .STL_PIN_ENC => [⟨0, 2, .rw⟩, ⟨2, 2, .rw⟩]
  | .STL_PIN_OUT => [⟨0, 2, .rw⟩, ⟨2, 1, .rw⟩, ⟨3, 1, .rw⟩]
  | .STL_PIN_STATUS => [⟨0, 1, .w1c⟩, ⟨1, 1, .ro⟩]

/-- The reset value of a field, from the register tables; a field the tables give no value ("By start", R433) is 0
until the start writes it. `LIMIT` of guard 0 is the last page of R185. Log entry 12 (PRESUMED and DEDUCED). Log entry 18 (DESIGN CHOICE). -/
def resetOf (r : RegName) (i j lo : Nat) : Nat :=
  match r with
  | .TSK_ARR_STATE => if lo = 3 then (if j = 16 then 1 else 0) else if lo = 8 then 0xff else 0
  | .TSK_ARR_RESTORE => if lo = 16 then 0xffff else 0
  | .TSK_ARRAY_ROLE => if lo = 0 then 0x10 else 0
  | .TSK_RESTORE_TEMP => if lo = 0 then 0x7d else if lo = 8 then 1 else if lo = 16 then (i % 30) else 0
  | .TSK_CONV_CFG => if lo = 0 then 5 else 0
  | .TSK_ID => if lo = 0 then i else if lo = 8 then (i / 64) else if lo = 10 then (i % 64) else if lo = 16 then (4 * (i / 64) + i % 64 / 16) else 0
  | .TSK_STATE => if lo = 0 then 2 else 0
  | .TSK_QUAR_CAUSE => if lo = 0 then 8 else 0
  | .TSK_ROLE_MAP => if lo = 0 then (4 * j) else if lo = 8 then (4 * j + 1) else if lo = 16 then (4 * j + 2) else if lo = 24 then (4 * j + 3) else 0
  | .GLB_RGN_LIMIT => if lo = 12 then (if i = 0 then 0x10003FFFF else 0) else 0
  | .GLB_RGN_ATTR => if lo = 0 then (if i = 0 then 1 else 0) else if lo = 8 then (if i = 0 then 0xF else 0) else if lo = 12 then (if i = 0 then 0xF else 0) else 0
  | .PCI_T3_LAT => if lo = 0 then 0x7d0 else 0
  | .CHN_ADM_CFG => if lo = 0 then 0x100 else if lo = 12 then 7 else if lo = 16 then 0x40 else if lo = 24 then 0x20 else 0
  | .CHN_ADM_BUDGET => if lo = 18 then 0x100 else 0
  | .CHN_ENG_CFG => if lo = 0 then 0xa else if lo = 5 then 8 else 0
  | .CHN_K1_CFG => if lo = 0 then 0x40 else 0
  | .BRK_CFG => if lo = 0 then 4 else if lo = 5 then 1 else if lo = 9 then 1 else 0
  | .BRK_STATUS => if lo = 16 then 0x1f else 0
  | .BRK_ARR_CAL => if lo = 16 then 0xff else if lo = 24 then 1 else 0
  | .GRS_CFG => if lo = 0 then 1 else if lo = 4 then 3 else if lo = 10 then 1 else 0
  | .GRS_TOL => if lo = 0 then 0x40 else if lo = 8 then 0x14 else if lo = 16 then 0xa else if lo = 24 then 0x18 else 0
  | .GRS_REP_CFG => if lo = 16 then 0x40 else 0
  | .LEA_PORT_CFG => if lo = 2 then 1 else if lo = 4 then 8 else 0
  | .STL_FIN_CFG => if lo = 2 then 1 else if lo = 8 then 0xc8 else 0
  | .STL_FIN_LIM => if lo = 0 then 0x64 else if lo = 16 then 0x7d0 else 0
  | .STL_ENC_CFG => if lo = 4 then 2 else 0
  | .STL_TQ_CFG => if lo = 8 then 0x30 else if lo = 16 then 0x20 else 0
  | .STL_AIN_CFG => if lo = 2 then 1 else 0
  | .STL_AIN_MASK => if lo = 0 then 1 else 0
  | .STL_AIN_PACE => if lo = 0 then 0x4e20 else 0
  | .STL_AIN_INJ => if lo = 4 then 1 else 0
  | .STL_AIN_CAL => if lo = 16 then 0x4000 else 0
  | .STL_AOUT_SHAPE => if lo = 16 then 0x2000 else 0
  | .STL_AOUT_STATUS => if lo = 0 then 1 else if lo = 1 then 1 else 0
  | .THM_CFG => if lo = 0 then 0x64 else if lo = 8 then 0x73 else if lo = 16 then 0x55 else if lo = 24 then 0x69 else 0
  | .THM_RATE => if lo = 0 then 0x10 else if lo = 8 then 0x55 else 0
  | .THM_PWR => if lo = 0 then 0x12c else if lo = 16 then 0x168 else 0
  | .THM_POWER => if lo = 16 then 0x100 else 0
  | .THM_SENS => if lo = 0 then 0x3e8 else if lo = 12 then 1 else if lo = 13 then 3 else 0
  | .PWR_CFG => if lo = 0 then 0x28 else if lo = 9 then 1 else 0
  | .PWR_WAKE_EN => if lo = 0 then 3 else 0
  | .PWR_DOMAIN => if lo = 26 then 1 else 0
  | .GLB_LEVEL => if lo = 0 then 1 else 0
  | .BOOT_STATUS => if lo = 12 then 1 else 0
  | .GLB_ID => if lo = 0 then 0x4096 else if lo = 16 then 0xa1 else if lo = 24 then 0x1e else 0
  | .GLB_CAPS => if lo = 0 then 4 else if lo = 4 then 0x40 else if lo = 12 then 0x40 else if lo = 19 then 4 else if lo = 22 then 1 else 0
  | .GLB_ERR_MASK => if lo = 0 then 0x1f else 0
  | .STL_PIN_OUT => if lo = 0 then 1 else if lo = 2 then 1 else 0
  | _ => 0

namespace F

/-- `TSK_ARR_STATE` bits 2:0, RO. Array state, encoded as in R58 -/
def TSK_ARR_STATE_STATE (i j : Nat) : Fld := ⟨.TSK_ARR_STATE, i, j, 0, 3⟩
/-- `TSK_ARR_STATE` bits 3:3, RO. 0: active role; 1: reserve role -/
def TSK_ARR_STATE_ROLE (i j : Nat) : Fld := ⟨.TSK_ARR_STATE, i, j, 3, 1⟩
/-- `TSK_ARR_STATE` bits 4:4, RO. 1 while the array is the pass-through array of a gang in use -/
def TSK_ARR_STATE_PASS_THROUGH (i j : Nat) : Fld := ⟨.TSK_ARR_STATE, i, j, 4, 1⟩
/-- `TSK_ARR_STATE` bits 6:5, RO. Gang factor of the last evaluation: 0b00 is 1, 0b01 is 2, 0b10 is 4 -/
def TSK_ARR_STATE_GANG (i j : Nat) : Fld := ⟨.TSK_ARR_STATE, i, j, 5, 2⟩
/-- `TSK_ARR_STATE` bits 15:8, RO. Context, 0 to 63, whose weights the array holds; 0xFF if none -/
def TSK_ARR_STATE_CONTEXT (i j : Nat) : Fld := ⟨.TSK_ARR_STATE, i, j, 8, 8⟩
/-- `TSK_ARR_STATUS` bits 0:0, W1C. Restore found a marginal cell (R63) -/
def TSK_ARR_STATUS_MARGINAL (i j : Nat) : Fld := ⟨.TSK_ARR_STATUS, i, j, 0, 1⟩
/-- `TSK_ARR_STATUS` bits 1:1, W1C. Restore found an invalid pair (R63) -/
def TSK_ARR_STATUS_INVALID_PAIR (i j : Nat) : Fld := ⟨.TSK_ARR_STATUS, i, j, 1, 1⟩
/-- `TSK_ARR_STATUS` bits 2:2, W1C. A row write ended with verify failures (R55) -/
def TSK_ARR_STATUS_VERIFY_FAIL (i j : Nat) : Fld := ⟨.TSK_ARR_STATUS, i, j, 2, 1⟩
/-- `TSK_ARR_STATUS` bits 3:3, W1C. A tile task reached the array outside the VALID state (R58) -/
def TSK_ARR_STATUS_UNAVAIL_TASK (i j : Nat) : Fld := ⟨.TSK_ARR_STATUS, i, j, 3, 1⟩
/-- `TSK_ARR_STATUS` bits 4:4, RO. At least one row waits for a repair rewrite -/
def TSK_ARR_STATUS_REPAIR_PENDING (i j : Nat) : Fld := ⟨.TSK_ARR_STATUS, i, j, 4, 1⟩
/-- `TSK_ARR_CTRL` bits 0:0, WO. Writing 1 clears the three counters of TSK_ARR_EVENTS; reads 0 -/
def TSK_ARR_CTRL_CLR_CNT (i j : Nat) : Fld := ⟨.TSK_ARR_CTRL, i, j, 0, 1⟩
/-- `TSK_ARR_EVENTS` bits 15:0, RO. Rows found with marginal cells; holds at 0xFFFF -/
def TSK_ARR_EVENTS_MARGINAL_CNT (i j : Nat) : Fld := ⟨.TSK_ARR_EVENTS, i, j, 0, 16⟩
/-- `TSK_ARR_EVENTS` bits 23:16, RO. Invalid pairs found; holds at 0xFF -/
def TSK_ARR_EVENTS_INVALID_PAIR_CNT (i j : Nat) : Fld := ⟨.TSK_ARR_EVENTS, i, j, 16, 8⟩
/-- `TSK_ARR_EVENTS` bits 31:24, RO. Rows ending a write with verify failures; holds at 0xFF -/
def TSK_ARR_EVENTS_VERIFY_FAIL_CNT (i j : Nat) : Fld := ⟨.TSK_ARR_EVENTS, i, j, 24, 8⟩
/-- `TSK_ARR_RESTORE` bits 8:0, RO. Next row to restore -/
def TSK_ARR_RESTORE_ROW_PTR (i j : Nat) : Fld := ⟨.TSK_ARR_RESTORE, i, j, 0, 9⟩
/-- `TSK_ARR_RESTORE` bits 31:16, RO. Restore fraction of R61, in units of 1/65,536 -/
def TSK_ARR_RESTORE_FRACTION (i j : Nat) : Fld := ⟨.TSK_ARR_RESTORE, i, j, 16, 16⟩
/-- `TSK_ARR_WRITE` bits 9:0, RO. Rows completed in the current or last write, 0 to 512 -/
def TSK_ARR_WRITE_ROWS_DONE (i j : Nat) : Fld := ⟨.TSK_ARR_WRITE, i, j, 0, 10⟩
/-- `TSK_ARR_WRITE` bits 19:10, RO. Rows of that write that ended with verify failures -/
def TSK_ARR_WRITE_FAIL_ROWS (i j : Nat) : Fld := ⟨.TSK_ARR_WRITE, i, j, 10, 10⟩
/-- `TSK_ARR_RESTORE_CNT` bits 63:0, RO. Rows restored by this array since its quarter was last powered on. The low word is at +0x418 and the high word at +0x41C. Software reads the low word first, under the 64-bit read rule of *Register map*. -/
def TSK_ARR_RESTORE_CNT_COUNT (i j : Nat) : Fld := ⟨.TSK_ARR_RESTORE_CNT, i, j, 0, 64⟩
/-- `TSK_ARRAY_ROLE` bits 4:0, RO. Physical array, 0 to 16, that holds the reserve role (R21) -/
def TSK_ARRAY_ROLE_RESERVE_PHYS (i : Nat) : Fld := ⟨.TSK_ARRAY_ROLE, i, 0, 0, 5⟩
/-- `TSK_RESTORE_TEMP` bits 7:0, RO. Restore temperature in whole °C, rounded up (R60). It reads 125 until the first sensor reading arrives. -/
def TSK_RESTORE_TEMP_TEMP (i : Nat) : Fld := ⟨.TSK_RESTORE_TEMP, i, 0, 0, 8⟩
/-- `TSK_RESTORE_TEMP` bits 8:8, RO. 1 while sensor g div 2 is treated as broken or has not yet reported -/
def TSK_RESTORE_TEMP_SENSOR_BROKEN (i : Nat) : Fld := ⟨.TSK_RESTORE_TEMP, i, 0, 8, 1⟩
/-- `TSK_RESTORE_TEMP` bits 20:16, RO. Restore slot offset of R59 -/
def TSK_RESTORE_TEMP_SLOT_OFFSET (i : Nat) : Fld := ⟨.TSK_RESTORE_TEMP, i, 0, 16, 5⟩
/-- `TSK_CONV_CFG` bits 2:0, RW. Range code of R78. Writable under R93 and R95. -/
def TSK_CONV_CFG_RANGE (i j : Nat) : Fld := ⟨.TSK_CONV_CFG, i, j, 0, 3⟩
/-- `TSK_CONV_CFG` bits 4:4, RW. 1: the column enable mask of the descriptor applies (R84). Writable under R93 and R95. -/
def TSK_CONV_CFG_MASK_EN (i j : Nat) : Fld := ⟨.TSK_CONV_CFG, i, j, 4, 1⟩
/-- `TSK_CONV_CFG` bits 8:8, WO. Writing 1 clears both counters of TSK_CONV_SAT; reads 0. Acts in every array state, also when the rest of the write is ignored (R93). -/
def TSK_CONV_CFG_CLR_SAT (i j : Nat) : Fld := ⟨.TSK_CONV_CFG, i, j, 8, 1⟩
/-- `TSK_CONV_SAT` bits 15:0, RO. Saturated data codes (R81); holds at 0xFFFF -/
def TSK_CONV_SAT_SAT_CNT (i j : Nat) : Fld := ⟨.TSK_CONV_SAT, i, j, 0, 16⟩
/-- `TSK_CONV_SAT` bits 23:16, RO. Saturated auxiliary codes (R83); holds at 0xFF -/
def TSK_CONV_SAT_AUX_SAT_CNT (i j : Nat) : Fld := ⟨.TSK_CONV_SAT, i, j, 16, 8⟩
/-- `TSK_CONV_STATUS` bits 0:0, W1C. A host write to a TSK_CONV_CFG was dropped (R93, R95) -/
def TSK_CONV_STATUS_CFG_WR_REJECT (i : Nat) : Fld := ⟨.TSK_CONV_STATUS, i, 0, 0, 1⟩
/-- `TSK_CONV_STATUS` bits 1:1, W1C. A host write to the table SRAM was dropped (R92 to R95) -/
def TSK_CONV_STATUS_TABLE_WR_REJECT (i : Nat) : Fld := ⟨.TSK_CONV_STATUS, i, 0, 1, 1⟩
/-- `TSK_CONV_STATUS` bits 2:2, W1C. A corrected single-bit table error occurred (R97) -/
def TSK_CONV_STATUS_TABLE_CE (i : Nat) : Fld := ⟨.TSK_CONV_STATUS, i, 0, 2, 1⟩
/-- `TSK_CONV_STATUS` bits 3:3, W1C. An uncorrectable table error occurred (R98) -/
def TSK_CONV_STATUS_TABLE_UE (i : Nat) : Fld := ⟨.TSK_CONV_STATUS, i, 0, 3, 1⟩
/-- `TSK_CONV_STATUS` bits 4:4, RO. 1 once the identity table is written after quarter power-on (R92) -/
def TSK_CONV_STATUS_TABLE_INIT_DONE (i : Nat) : Fld := ⟨.TSK_CONV_STATUS, i, 0, 4, 1⟩
/-- `TSK_CONV_STATUS` bits 12:8, RO. Physical array, 0 to 16, of the latest uncorrectable error -/
def TSK_CONV_STATUS_UE_ARRAY (i : Nat) : Fld := ⟨.TSK_CONV_STATUS, i, 0, 8, 5⟩
/-- `TSK_CONV_STATUS` bits 31:31, WO. Writing 1 clears both counters of TSK_TABLE_ECC; reads 0 -/
def TSK_CONV_STATUS_CLR_ECC (i : Nat) : Fld := ⟨.TSK_CONV_STATUS, i, 0, 31, 1⟩
/-- `TSK_TABLE_ECC` bits 15:0, RO. Corrected single-bit errors; holds at 0xFFFF -/
def TSK_TABLE_ECC_CE_CNT (i : Nat) : Fld := ⟨.TSK_TABLE_ECC, i, 0, 0, 16⟩
/-- `TSK_TABLE_ECC` bits 23:16, RO. Uncorrectable errors; holds at 0xFF -/
def TSK_TABLE_ECC_UE_CNT (i : Nat) : Fld := ⟨.TSK_TABLE_ECC, i, 0, 16, 8⟩
/-- `TSK_ID` bits 7:0, RO. Global number (R19) -/
def TSK_ID_GLOBAL (i : Nat) : Fld := ⟨.TSK_ID, i, 0, 0, 8⟩
/-- `TSK_ID` bits 9:8, RO. Channel -/
def TSK_ID_CHANNEL (i : Nat) : Fld := ⟨.TSK_ID, i, 0, 8, 2⟩
/-- `TSK_ID` bits 15:10, RO. Number within the channel -/
def TSK_ID_LOCAL (i : Nat) : Fld := ⟨.TSK_ID, i, 0, 10, 6⟩
/-- `TSK_ID` bits 19:16, RO. Fabric quarter -/
def TSK_ID_QUARTER (i : Nat) : Fld := ⟨.TSK_ID, i, 0, 16, 4⟩
/-- `TSK_STATE` bits 1:0, RO. State of R157; the reset value reflects cause POWER -/
def TSK_STATE_STATE (i : Nat) : Fld := ⟨.TSK_STATE, i, 0, 0, 2⟩
/-- `TSK_CTRL` bits 0:0, WO. 1 quarantines with cause HOST; reads 0 -/
def TSK_CTRL_QUARANTINE (i : Nat) : Fld := ⟨.TSK_CTRL, i, 0, 0, 1⟩
/-- `TSK_CTRL` bits 1:1, WO. 1 requests re-enable (R160); reads 0 -/
def TSK_CTRL_REENABLE (i : Nat) : Fld := ⟨.TSK_CTRL, i, 0, 1, 1⟩
/-- `TSK_CTRL` bits 2:2, WO. With REENABLE: write the identity tables; reads 0 -/
def TSK_CTRL_TABLE_IDENTITY (i : Nat) : Fld := ⟨.TSK_CTRL, i, 0, 2, 1⟩
/-- `TSK_CTRL` bits 3:3, WO. 1 clears TSK_SEQ_ERR and PEAK; reads 0 -/
def TSK_CTRL_CLR_SEQ (i : Nat) : Fld := ⟨.TSK_CTRL, i, 0, 3, 1⟩
/-- `TSK_CTRL_STATUS` bits 0:0, W1C. A REENABLE write was ignored (R160) -/
def TSK_CTRL_STATUS_REENABLE_REJECT (i : Nat) : Fld := ⟨.TSK_CTRL_STATUS, i, 0, 0, 1⟩
/-- `TSK_QUAR_CAUSE` bits 3:0, RO. Bits of R158; cleared by an accepted REENABLE -/
def TSK_QUAR_CAUSE_CAUSE (i : Nat) : Fld := ⟨.TSK_QUAR_CAUSE, i, 0, 0, 4⟩
/-- `TSK_SEQ_STATUS` bits 14:0, RO. Tasks queued, 0 to 16,384 -/
def TSK_SEQ_STATUS_OCCUPANCY (i : Nat) : Fld := ⟨.TSK_SEQ_STATUS, i, 0, 0, 15⟩
/-- `TSK_SEQ_STATUS` bits 15:15, W1C. A task met a full queue (R142) -/
def TSK_SEQ_STATUS_OVERFLOW (i : Nat) : Fld := ⟨.TSK_SEQ_STATUS, i, 0, 15, 1⟩
/-- `TSK_SEQ_STATUS` bits 30:16, RO. Highest OCCUPANCY since CLR_SEQ -/
def TSK_SEQ_STATUS_PEAK (i : Nat) : Fld := ⟨.TSK_SEQ_STATUS, i, 0, 16, 15⟩
/-- `TSK_SEQ_ERR` bits 7:0, RO. "Missed slot" retirements; holds at 0xFF -/
def TSK_SEQ_ERR_MISSED_CNT (i : Nat) : Fld := ⟨.TSK_SEQ_ERR, i, 0, 0, 8⟩
/-- `TSK_SEQ_ERR` bits 15:8, RO. "Slot conflict" retirements; holds at 0xFF -/
def TSK_SEQ_ERR_CONFLICT_CNT (i : Nat) : Fld := ⟨.TSK_SEQ_ERR, i, 0, 8, 8⟩
/-- `TSK_SEQ_ERR` bits 23:16, RO. "Queue overflow" retirements; holds at 0xFF -/
def TSK_SEQ_ERR_OVERFLOW_CNT (i : Nat) : Fld := ⟨.TSK_SEQ_ERR, i, 0, 16, 8⟩
/-- `TSK_SEQ_ERR` bits 31:24, RO. "Bad task" retirements; holds at 0xFF -/
def TSK_SEQ_ERR_BAD_CNT (i : Nat) : Fld := ⟨.TSK_SEQ_ERR, i, 0, 24, 8⟩
/-- `TSK_CLK_STATUS` bits 0:0, RO. 1 while the Tussock PLL is locked -/
def TSK_CLK_STATUS_LOCKED (i : Nat) : Fld := ⟨.TSK_CLK_STATUS, i, 0, 0, 1⟩
/-- `TSK_CLK_STATUS` bits 1:1, W1C. A swath marker was late (R156) -/
def TSK_CLK_STATUS_MARKER_LATE (i : Nat) : Fld := ⟨.TSK_CLK_STATUS, i, 0, 1, 1⟩
/-- `TSK_CLK_STATUS` bits 2:2, W1C. The PLL lost lock -/
def TSK_CLK_STATUS_LOCK_LOST (i : Nat) : Fld := ⟨.TSK_CLK_STATUS, i, 0, 2, 1⟩
/-- `TSK_CLK_STATUS` bits 15:8, RO. Late markers; holds at 0xFF -/
def TSK_CLK_STATUS_LATE_CNT (i : Nat) : Fld := ⟨.TSK_CLK_STATUS, i, 0, 8, 8⟩
/-- `TSK_SWAP` bits 3:0, RO. Slot of the last exchange -/
def TSK_SWAP_LAST_SLOT (i : Nat) : Fld := ⟨.TSK_SWAP, i, 0, 0, 4⟩
/-- `TSK_SWAP` bits 8:4, RO. Physical array released by it -/
def TSK_SWAP_LAST_FROM (i : Nat) : Fld := ⟨.TSK_SWAP, i, 0, 4, 5⟩
/-- `TSK_SWAP` bits 13:9, RO. Physical array that took the slot -/
def TSK_SWAP_LAST_TO (i : Nat) : Fld := ⟨.TSK_SWAP, i, 0, 9, 5⟩
/-- `TSK_SWAP` bits 14:14, W1C. An exchange was refused (R152) -/
def TSK_SWAP_SWAP_REFUSED (i : Nat) : Fld := ⟨.TSK_SWAP, i, 0, 14, 1⟩
/-- `TSK_SWAP` bits 23:16, RO. Deferred exchanges; holds at 0xFF -/
def TSK_SWAP_DEFER_CNT (i : Nat) : Fld := ⟨.TSK_SWAP, i, 0, 16, 8⟩
/-- `TSK_SWAP` bits 31:24, RO. Exchanges performed, modulo 256 -/
def TSK_SWAP_SWAP_CNT (i : Nat) : Fld := ⟨.TSK_SWAP, i, 0, 24, 8⟩
/-- `TSK_BANK_ECC` bits 15:0, RO. Corrected bank errors; holds at 0xFFFF -/
def TSK_BANK_ECC_CE_CNT (i : Nat) : Fld := ⟨.TSK_BANK_ECC, i, 0, 0, 16⟩
/-- `TSK_BANK_ECC` bits 23:16, RO. Uncorrectable bank errors; holds at 0xFF -/
def TSK_BANK_ECC_UE_CNT (i : Nat) : Fld := ⟨.TSK_BANK_ECC, i, 0, 16, 8⟩
/-- `TSK_BANK_ECC` bits 31:31, WO. 1 clears both counters; reads 0 -/
def TSK_BANK_ECC_CLR_ECC (i : Nat) : Fld := ⟨.TSK_BANK_ECC, i, 0, 31, 1⟩
/-- Physical array of active slot `s` (R136). -/
def TSK_ROLE_MAP_SLOT (g s : Nat) : Fld := ⟨.TSK_ROLE_MAP, g, s / 4, 8 * (s % 4), 5⟩
/-- `GLB_RGN_BASE` bits 47:12, RW. First 4 KiB page covered -/
def GLB_RGN_BASE_BASE (i : Nat) : Fld := ⟨.GLB_RGN_BASE, i, 0, 12, 36⟩
/-- `GLB_RGN_LIMIT` bits 47:12, RW. Last 4 KiB page covered -/
def GLB_RGN_LIMIT_LIMIT (i : Nat) : Fld := ⟨.GLB_RGN_LIMIT, i, 0, 12, 36⟩
/-- `GLB_RGN_ATTR` bits 0:0, RW. Guard enabled -/
def GLB_RGN_ATTR_EN (i : Nat) : Fld := ⟨.GLB_RGN_ATTR, i, 0, 0, 1⟩
/-- `GLB_RGN_ATTR` bits 1:1, RW. PCIe inbound reads allowed -/
def GLB_RGN_ATTR_PCI_RD (i : Nat) : Fld := ⟨.GLB_RGN_ATTR, i, 0, 1, 1⟩
/-- `GLB_RGN_ATTR` bits 2:2, RW. PCIe inbound writes allowed -/
def GLB_RGN_ATTR_PCI_WR (i : Nat) : Fld := ⟨.GLB_RGN_ATTR, i, 0, 2, 1⟩
/-- `GLB_RGN_ATTR` bits 3:3, RW. Lea inbound writes allowed -/
def GLB_RGN_ATTR_LEA_WR (i : Nat) : Fld := ⟨.GLB_RGN_ATTR, i, 0, 3, 1⟩
/-- `GLB_RGN_ATTR` bits 11:8, RW. Bit n: engines and Tussocks of channel n may read -/
def GLB_RGN_ATTR_ENG_RD (i : Nat) : Fld := ⟨.GLB_RGN_ATTR, i, 0, 8, 4⟩
/-- `GLB_RGN_ATTR` bits 15:12, RW. Bit n: they may write -/
def GLB_RGN_ATTR_ENG_WR (i : Nat) : Fld := ⟨.GLB_RGN_ATTR, i, 0, 12, 4⟩
/-- `GLB_RGN_ATTR` bits 17:16, RW. Tagging of PCIe writes (R184) -/
def GLB_RGN_ATTR_TAG_MODE (i : Nat) : Fld := ⟨.GLB_RGN_ATTR, i, 0, 16, 2⟩
/-- `GLB_RGN_INGRESS` bits 15:0, RW. TENSOR_ID given to blocks written under TAG_MODE FORM -/
def GLB_RGN_INGRESS_TENSOR_ID (i : Nat) : Fld := ⟨.GLB_RGN_INGRESS, i, 0, 0, 16⟩
/-- `GLB_RGN_FAULT_ADDR` bits 47:0, RO. Device physical address of the held fault -/
def GLB_RGN_FAULT_ADDR_ADDR : Fld := ⟨.GLB_RGN_FAULT_ADDR, 0, 0, 0, 48⟩
/-- `GLB_RGN_FAULT_INFO` bits 0:0, W1C. A fault is held; clearing it allows the next fault to be recorded -/
def GLB_RGN_FAULT_INFO_VALID : Fld := ⟨.GLB_RGN_FAULT_INFO, 0, 0, 0, 1⟩
/-- `GLB_RGN_FAULT_INFO` bits 1:1, RO. 1: the access was a write -/
def GLB_RGN_FAULT_INFO_WRITE : Fld := ⟨.GLB_RGN_FAULT_INFO, 0, 0, 1, 1⟩
/-- `GLB_RGN_FAULT_INFO` bits 3:2, RO. 0b00 PCIe, 0b01 Lea, 0b10 engine or Tussock, 0b11 management core (R186) -/
def GLB_RGN_FAULT_INFO_AGENT : Fld := ⟨.GLB_RGN_FAULT_INFO, 0, 0, 2, 2⟩
/-- `GLB_RGN_FAULT_INFO` bits 5:4, RO. Channel of an engine agent, or Lea port -/
def GLB_RGN_FAULT_INFO_CHANNEL : Fld := ⟨.GLB_RGN_FAULT_INFO, 0, 0, 4, 2⟩
/-- `GLB_RGN_FAULT_INFO` bits 6:6, RO. 1: address outside R175's regions -/
def GLB_RGN_FAULT_INFO_UNMAPPED : Fld := ⟨.GLB_RGN_FAULT_INFO, 0, 0, 6, 1⟩
/-- `GLB_RGN_FAULT_INFO` bits 31:16, RO. Address faults; holds at 0xFFFF; cleared by writing 1 to VALID while VALID is 0 -/
def GLB_RGN_FAULT_INFO_FAULT_CNT : Fld := ⟨.GLB_RGN_FAULT_INFO, 0, 0, 16, 16⟩
/-- `PCI_BAR2_BASE` bits 47:30, RW. Device physical address of BAR2 offset 0, in GiB (R182) -/
def PCI_BAR2_BASE_BASE : Fld := ⟨.PCI_BAR2_BASE, 0, 0, 30, 18⟩
/-- `PCI_T3_BASE` bits 63:12, RW. Host bus address of host-aperture address 0x8000_0000_0000 (R179) -/
def PCI_T3_BASE_BASE : Fld := ⟨.PCI_T3_BASE, 0, 0, 12, 52⟩
/-- `PCI_T3_LAT` bits 15:0, RW. Declared read-completion bound in ns (R189); default 2,000 ns -/
def PCI_T3_LAT_BOUND : Fld := ⟨.PCI_T3_LAT, 0, 0, 0, 16⟩
/-- `PCI_T3_LATE` bits 15:0, RO. Completions later than BOUND; holds at 0xFFFF -/
def PCI_T3_LATE_CNT : Fld := ⟨.PCI_T3_LATE, 0, 0, 0, 16⟩
/-- `PCI_T3_LATE` bits 31:31, WO. 1 clears CNT; reads 0 -/
def PCI_T3_LATE_CLR : Fld := ⟨.PCI_T3_LATE, 0, 0, 31, 1⟩
/-- `CHN_HDG_ERR` bits 7:0, RO. Corrected flit errors (R165); holds at 0xFF -/
def CHN_HDG_ERR_LINK_CE_CNT (i : Nat) : Fld := ⟨.CHN_HDG_ERR, i, 0, 0, 8⟩
/-- `CHN_HDG_ERR` bits 15:8, RO. Uncorrectable flit errors; holds at 0xFF -/
def CHN_HDG_ERR_LINK_UE_CNT (i : Nat) : Fld := ⟨.CHN_HDG_ERR, i, 0, 8, 8⟩
/-- `CHN_HDG_ERR` bits 23:16, RO. "block CRC" failures in the channel (R174); holds at 0xFF -/
def CHN_HDG_ERR_CRC_CNT (i : Nat) : Fld := ⟨.CHN_HDG_ERR, i, 0, 16, 8⟩
/-- `CHN_HDG_ERR` bits 30:24, RO. "tag mismatch" failures; holds at 0x7F -/
def CHN_HDG_ERR_TAG_CNT (i : Nat) : Fld := ⟨.CHN_HDG_ERR, i, 0, 24, 7⟩
/-- `CHN_HDG_ERR` bits 31:31, WO. 1 clears all four counters; reads 0 -/
def CHN_HDG_ERR_CLR (i : Nat) : Fld := ⟨.CHN_HDG_ERR, i, 0, 31, 1⟩
/-- `CHN_STK_ERR` bits 15:0, RO. Stack blocks corrected by the sideband code (R177); holds at 0xFFFF -/
def CHN_STK_ERR_CE_CNT (i : Nat) : Fld := ⟨.CHN_STK_ERR, i, 0, 0, 16⟩
/-- `CHN_STK_ERR` bits 23:16, RO. Stack blocks returned poisoned; holds at 0xFF -/
def CHN_STK_ERR_UE_CNT (i : Nat) : Fld := ⟨.CHN_STK_ERR, i, 0, 16, 8⟩
/-- `CHN_STK_ERR` bits 30:24, RO. Partial-block writes merged (R180), modulo 128 -/
def CHN_STK_ERR_RMW_CNT (i : Nat) : Fld := ⟨.CHN_STK_ERR, i, 0, 24, 7⟩
/-- `CHN_STK_ERR` bits 31:31, WO. 1 clears all three counters; reads 0 -/
def CHN_STK_ERR_CLR (i : Nat) : Fld := ⟨.CHN_STK_ERR, i, 0, 31, 1⟩
/-- `CHN_ADM_CFG` bits 8:0, RW. β_host in units of 1/256; values above 256 act as 256; 0 admits no job -/
def CHN_ADM_CFG_HOST_BUDGET (i : Nat) : Fld := ⟨.CHN_ADM_CFG, i, 0, 0, 9⟩
/-- `CHN_ADM_CFG` bits 15:12, RW. Slides tried, minus 1: 1 to 16 (R215) -/
def CHN_ADM_CFG_SLIDE_MAX (i : Nat) : Fld := ⟨.CHN_ADM_CFG, i, 0, 12, 4⟩
/-- `CHN_ADM_CFG` bits 23:16, RW. Swaths a window or repair may wait (R219); 0 acts as 256 -/
def CHN_ADM_CFG_DEFER_LIMIT (i : Nat) : Fld := ⟨.CHN_ADM_CFG, i, 0, 16, 8⟩
/-- `CHN_ADM_CFG` bits 29:24, RW. Jobs taken per boundary (R214); 0 acts as 64 -/
def CHN_ADM_CFG_ADM_MAX (i : Nat) : Fld := ⟨.CHN_ADM_CFG, i, 0, 24, 6⟩
/-- `CHN_ADM_BUDGET` bits 8:0, RO. β latched at the latest boundary -/
def CHN_ADM_BUDGET_EFFECTIVE (i : Nat) : Fld := ⟨.CHN_ADM_BUDGET, i, 0, 0, 9⟩
/-- `CHN_ADM_BUDGET` bits 17:9, RO. β_thm; 0 until the thermal network's first reading -/
def CHN_ADM_BUDGET_THM (i : Nat) : Fld := ⟨.CHN_ADM_BUDGET, i, 0, 9, 9⟩
/-- `CHN_ADM_BUDGET` bits 26:18, RO. β_pwr -/
def CHN_ADM_BUDGET_PWR (i : Nat) : Fld := ⟨.CHN_ADM_BUDGET, i, 0, 18, 9⟩
/-- `CHN_ADM_BUDGET` bits 27:27, RO. 1 while an overdue window or repair is placed ahead of jobs (R219) -/
def CHN_ADM_BUDGET_CAL_SHRINK (i : Nat) : Fld := ⟨.CHN_ADM_BUDGET, i, 0, 27, 1⟩
/-- `CHN_ADM_CTRL` bits 0:0, WO. 1 clears every counter of the block from +0x0_E010 to +0x0_E07C; reads 0 -/
def CHN_ADM_CTRL_CLR_CNT (i : Nat) : Fld := ⟨.CHN_ADM_CTRL, i, 0, 0, 1⟩
/-- `CHN_ADM_CTRL` bits 1:1, WO. 1 clears CHN_TAGS.PEAK and every PEAK of CHN_ADM_SATk; reads 0 -/
def CHN_ADM_CTRL_CLR_PEAK (i : Nat) : Fld := ⟨.CHN_ADM_CTRL, i, 0, 1, 1⟩
/-- `CHN_ADM_ADMITTED` bits 31:0, RO. Jobs admitted, modulo 2^32 -/
def CHN_ADM_ADMITTED_COUNT (i : Nat) : Fld := ⟨.CHN_ADM_ADMITTED, i, 0, 0, 32⟩
/-- `CHN_ADM_REFUSED` bits 15:0, RO. Jobs refused; holds at 0xFFFF -/
def CHN_ADM_REFUSED_REFUSED (i : Nat) : Fld := ⟨.CHN_ADM_REFUSED, i, 0, 0, 16⟩
/-- `CHN_ADM_REFUSED` bits 31:16, RO. Refused jobs that would have fitted at β = 256 (R215); holds at 0xFFFF -/
def CHN_ADM_REFUSED_THROTTLED (i : Nat) : Fld := ⟨.CHN_ADM_REFUSED, i, 0, 16, 16⟩
/-- `CHN_ADM_HELD` bits 15:0, RO. Boundaries at which a job was held (R204); holds at 0xFFFF -/
def CHN_ADM_HELD_HELD (i : Nat) : Fld := ⟨.CHN_ADM_HELD, i, 0, 0, 16⟩
/-- `CHN_JOB_TIMEOUT` bits 15:0, RO. Jobs ended with "timeout" (R203); holds at 0xFFFF -/
def CHN_JOB_TIMEOUT_TIMEOUT_CNT (i : Nat) : Fld := ⟨.CHN_JOB_TIMEOUT, i, 0, 0, 16⟩
/-- `CHN_JOB_TIMEOUT` bits 31:16, RO. Timer expiries masked by a link error in the same cycle; holds at 0xFFFF -/
def CHN_JOB_TIMEOUT_MASKED_CNT (i : Nat) : Fld := ⟨.CHN_JOB_TIMEOUT, i, 0, 16, 16⟩
/-- `CHN_TAGS` bits 14:0, RO. Request tags held, 0 to 16,384 (R221) -/
def CHN_TAGS_IN_USE (i : Nat) : Fld := ⟨.CHN_TAGS, i, 0, 0, 15⟩
/-- `CHN_TAGS` bits 30:16, RO. Highest IN_USE since CLR_PEAK -/
def CHN_TAGS_PEAK (i : Nat) : Fld := ⟨.CHN_TAGS, i, 0, 16, 15⟩
/-- `CHN_ADM_SAT` bits 23:0, RO. Refusals with cause code k (R208); holds at 0xFF_FFFF -/
def CHN_ADM_SAT_REFUSED_CNT (i j : Nat) : Fld := ⟨.CHN_ADM_SAT, i, j, 0, 24⟩
/-- `CHN_ADM_SAT` bits 31:24, RO. Highest share, in units of 1/256 of ceiling minus standing, that jobs held in any unit of kind k in any swath admitted since CLR_PEAK; 0xFF means 255/256 or more. Reads 0 for k = 12 to 15. -/
def CHN_ADM_SAT_PEAK (i j : Nat) : Fld := ⟨.CHN_ADM_SAT, i, j, 24, 8⟩
/-- `PCI_ING_STALL` bits 23:0, RO. Swaths in which inbound posted writes were held back by flow control for more than 1,024 ns (R223); holds at 0xFF_FFFF -/
def PCI_ING_STALL_STALL_CNT : Fld := ⟨.PCI_ING_STALL, 0, 0, 0, 24⟩
/-- `PCI_ING_STALL` bits 31:31, WO. 1 clears STALL_CNT; reads 0 -/
def PCI_ING_STALL_CLR : Fld := ⟨.PCI_ING_STALL, 0, 0, 31, 1⟩
/-- `CHN_ENG_RING_BASE` bits 47:12, RW. Command ring base, in 4 KiB units (R227) -/
def CHN_ENG_RING_BASE_BASE (i : Nat) : Fld := ⟨.CHN_ENG_RING_BASE, i, 0, 12, 36⟩
/-- `CHN_ENG_CTRL_ADDR` bits 47:12, RW. Ring control block address, in 4 KiB units (R228) -/
def CHN_ENG_CTRL_ADDR_ADDR (i : Nat) : Fld := ⟨.CHN_ENG_CTRL_ADDR, i, 0, 12, 36⟩
/-- `CHN_ENG_CPL_BASE` bits 47:12, RW. Completion ring base, in 4 KiB units -/
def CHN_ENG_CPL_BASE_BASE (i : Nat) : Fld := ⟨.CHN_ENG_CPL_BASE, i, 0, 12, 36⟩
/-- `CHN_ENG_CFG` bits 4:0, RW. k of R227, 6 to 20 -/
def CHN_ENG_CFG_RING_LOG2 (i : Nat) : Fld := ⟨.CHN_ENG_CFG, i, 0, 0, 5⟩
/-- `CHN_ENG_CFG` bits 9:5, RW. j of R227, 4 to 20 -/
def CHN_ENG_CFG_CPL_LOG2 (i : Nat) : Fld := ⟨.CHN_ENG_CFG, i, 0, 5, 5⟩
/-- `CHN_ENG_CFG` bits 10:10, RW. 0: K2; 1: K1 -/
def CHN_ENG_CFG_FMT (i : Nat) : Fld := ⟨.CHN_ENG_CFG, i, 0, 10, 1⟩
/-- `CHN_ENG_CFG` bits 12:12, RW. Ring enabled, latched at each boundary (R232) -/
def CHN_ENG_CFG_EN (i : Nat) : Fld := ⟨.CHN_ENG_CFG, i, 0, 12, 1⟩
/-- `CHN_ENG_STATUS` bits 0:0, RO. 1 while EN is latched as 1 or any job of the ring holds tags -/
def CHN_ENG_STATUS_RUNNING (i : Nat) : Fld := ⟨.CHN_ENG_STATUS, i, 0, 0, 1⟩
/-- `CHN_ENG_STATUS` bits 1:1, W1C. Producer index beyond the ring (R229) -/
def CHN_ENG_STATUS_RING_ERR (i : Nat) : Fld := ⟨.CHN_ENG_STATUS, i, 0, 1, 1⟩
/-- `CHN_ENG_STATUS` bits 2:2, W1C. A job waited for a completion slot (R231) -/
def CHN_ENG_STATUS_CPL_FULL (i : Nat) : Fld := ⟨.CHN_ENG_STATUS, i, 0, 2, 1⟩
/-- `CHN_ENG_STATUS` bits 3:3, W1C. A configuration write was dropped or refused (R232) -/
def CHN_ENG_STATUS_CFG_ERR (i : Nat) : Fld := ⟨.CHN_ENG_STATUS, i, 0, 3, 1⟩
/-- `CHN_ENG_STATUS` bits 4:4, RO. 1 while a job is held at the ring head (R204) -/
def CHN_ENG_STATUS_HELD (i : Nat) : Fld := ⟨.CHN_ENG_STATUS, i, 0, 4, 1⟩
/-- `CHN_ENG_STATUS` bits 5:5, W1C. A job waited because CPL_CONS passed a record that still awaited its token (R231) -/
def CHN_ENG_STATUS_CPL_EARLY (i : Nat) : Fld := ⟨.CHN_ENG_STATUS, i, 0, 5, 1⟩
/-- `CHN_ENG_STATUS` bits 31:16, RO. Jobs rejected as "bad command"; holds at 0xFFFF; cleared with the counters of CHN_ADM_CTRL.CLR_CNT -/
def CHN_ENG_STATUS_BADCMD_CNT (i : Nat) : Fld := ⟨.CHN_ENG_STATUS, i, 0, 16, 16⟩
/-- `CHN_ENG_CONS` bits 31:0, RO. Entries taken, as written to the control block -/
def CHN_ENG_CONS_CONS (i : Nat) : Fld := ⟨.CHN_ENG_CONS, i, 0, 0, 32⟩
/-- `CHN_ENG_PROD` bits 31:0, RO. PROD as read at the latest boundary -/
def CHN_ENG_PROD_PROD (i : Nat) : Fld := ⟨.CHN_ENG_PROD, i, 0, 0, 32⟩
/-- `CHN_ENG_JOBS` bits 31:0, RO. Jobs taken since EN was set, modulo 2^32 -/
def CHN_ENG_JOBS_JOBS (i : Nat) : Fld := ⟨.CHN_ENG_JOBS, i, 0, 0, 32⟩
/-- `CHN_K1_TMPL` bits 47:3, RW. Address of the 64-entry RUN template table (R250) -/
def CHN_K1_TMPL_ADDR (i : Nat) : Fld := ⟨.CHN_K1_TMPL, i, 0, 3, 45⟩
/-- `CHN_K1_CFG` bits 11:0, RW. Class of translated COPY jobs, 4 to 4,095; values below 4 act as 4 -/
def CHN_K1_CFG_CLASS (i : Nat) : Fld := ⟨.CHN_K1_CFG, i, 0, 0, 12⟩
/-- `CHN_K1_CFG` bits 19:12, RW. Hold count of every translated job -/
def CHN_K1_CFG_HOLD (i : Nat) : Fld := ⟨.CHN_K1_CFG, i, 0, 12, 8⟩
/-- `GLB_CTX_STATE` bits 1:0, RO. 0 EMPTY, 1 READY, 2 REPLACING, 3 UNLOADING (R264) -/
def GLB_CTX_STATE_STATE (i : Nat) : Fld := ⟨.GLB_CTX_STATE, i, 0, 0, 2⟩
/-- `GLB_CTX_STATE` bits 2:2, RO. A pending pointer is held -/
def GLB_CTX_STATE_PENDING (i : Nat) : Fld := ⟨.GLB_CTX_STATE, i, 0, 2, 1⟩
/-- `GLB_CTX_STATE` bits 3:3, RO. R272 -/
def GLB_CTX_STATE_OLD_BUSY (i : Nat) : Fld := ⟨.GLB_CTX_STATE, i, 0, 3, 1⟩
/-- `GLB_CTX_STATE` bits 4:4, RO. A batch is open (R267) -/
def GLB_CTX_STATE_BATCH_OPEN (i : Nat) : Fld := ⟨.GLB_CTX_STATE, i, 0, 4, 1⟩
/-- `GLB_CTX_STATE` bits 31:16, RO. Changes that have taken effect, modulo 65,536 -/
def GLB_CTX_STATE_VERSION (i : Nat) : Fld := ⟨.GLB_CTX_STATE, i, 0, 16, 16⟩
/-- `GLB_CTX_PTR` bits 47:0, RO. Manifest address of the current image; 0 if EMPTY -/
def GLB_CTX_PTR_PTR (i : Nat) : Fld := ⟨.GLB_CTX_PTR, i, 0, 0, 48⟩
/-- `GLB_CTX_PEND` bits 47:0, RO. Pending pointer; valid while PENDING is 1 -/
def GLB_CTX_PEND_PEND (i : Nat) : Fld := ⟨.GLB_CTX_PEND, i, 0, 0, 48⟩
/-- `GLB_CTX_EVENTS` bits 7:0, RO. Pending pointers replaced before taking effect (R265); holds at 0xFF -/
def GLB_CTX_EVENTS_SUPERSEDED_CNT (i : Nat) : Fld := ⟨.GLB_CTX_EVENTS, i, 0, 0, 8⟩
/-- `GLB_CTX_EVENTS` bits 15:8, RO. Posts refused (R266); holds at 0xFF -/
def GLB_CTX_EVENTS_REFUSED_CNT (i : Nat) : Fld := ⟨.GLB_CTX_EVENTS, i, 0, 8, 8⟩
/-- `GLB_CTX_EVENTS` bits 19:16, RO. Code of the latest refusal (R266) -/
def GLB_CTX_EVENTS_LAST_REASON (i : Nat) : Fld := ⟨.GLB_CTX_EVENTS, i, 0, 16, 4⟩
/-- `GLB_CTX_EVENTS` bits 31:31, WO. 1 clears both counters; reads 0 -/
def GLB_CTX_EVENTS_CLR (i : Nat) : Fld := ⟨.GLB_CTX_EVENTS, i, 0, 31, 1⟩
/-- `GLB_CTX_TID` bits 15:0, RO. IMAGE_TID of the current image -/
def GLB_CTX_TID_CUR_TID (i : Nat) : Fld := ⟨.GLB_CTX_TID, i, 0, 0, 16⟩
/-- `GLB_CTX_TID` bits 31:16, RO. IMAGE_TID of the old-busy image; valid while OLD_BUSY is 1 -/
def GLB_CTX_TID_OLD_TID (i : Nat) : Fld := ⟨.GLB_CTX_TID, i, 0, 16, 16⟩
/-- `CHN_LD_STATUS` bits 3:0, RO. Code of the latest rejection (R261, R266); 0 if none -/
def CHN_LD_STATUS_REASON (i : Nat) : Fld := ⟨.CHN_LD_STATUS, i, 0, 0, 4⟩
/-- `CHN_LD_STATUS` bits 4:4, W1C. A package or post was rejected -/
def CHN_LD_STATUS_REJECT (i : Nat) : Fld := ⟨.CHN_LD_STATUS, i, 0, 4, 1⟩
/-- `CHN_LD_STATUS` bits 5:5, W1C. A weight was clamped (R125) -/
def CHN_LD_STATUS_CLAMP (i : Nat) : Fld := ⟨.CHN_LD_STATUS, i, 0, 5, 1⟩
/-- `CHN_LD_PKG` bits 15:0, RO. Images made valid; holds at 0xFFFF -/
def CHN_LD_PKG_ACCEPTED (i : Nat) : Fld := ⟨.CHN_LD_PKG, i, 0, 0, 16⟩
/-- `CHN_LD_PKG` bits 31:16, RO. Packages and posts rejected; holds at 0xFFFF -/
def CHN_LD_PKG_REJECTED (i : Nat) : Fld := ⟨.CHN_LD_PKG, i, 0, 16, 16⟩
/-- `CHN_LD_CLAMP` bits 31:0, RO. Weights clamped by R125; holds at 0xFFFF_FFFF -/
def CHN_LD_CLAMP_CLAMP_CNT (i : Nat) : Fld := ⟨.CHN_LD_CLAMP, i, 0, 0, 32⟩
/-- `CHN_LD_CTRL` bits 0:0, WO. 1 clears CHN_LD_PKG and CHN_LD_CLAMP; reads 0 -/
def CHN_LD_CTRL_CLR (i : Nat) : Fld := ⟨.CHN_LD_CTRL, i, 0, 0, 1⟩
/-- `GLB_DIST_CFG` bits 0:0, RW. Chain forwarding enabled (R274) -/
def GLB_DIST_CFG_EN : Fld := ⟨.GLB_DIST_CFG, 0, 0, 0, 1⟩
/-- `GLB_DIST_CFG` bits 2:1, RW. Lea port that receives the chain -/
def GLB_DIST_CFG_IN_PORT : Fld := ⟨.GLB_DIST_CFG, 0, 0, 1, 2⟩
/-- `GLB_DIST_CFG` bits 4:3, RW. Lea port that forwards -/
def GLB_DIST_CFG_OUT_PORT : Fld := ⟨.GLB_DIST_CFG, 0, 0, 3, 2⟩
/-- `GLB_DIST_CFG` bits 5:5, RW. 1: write locally, do not forward -/
def GLB_DIST_CFG_LAST : Fld := ⟨.GLB_DIST_CFG, 0, 0, 5, 1⟩
/-- `GLB_DIST_BASE` bits 47:8, RW. First block of the forwarding window -/
def GLB_DIST_BASE_BASE : Fld := ⟨.GLB_DIST_BASE, 0, 0, 8, 40⟩
/-- `GLB_DIST_LIMIT` bits 47:8, RW. Last block of the forwarding window -/
def GLB_DIST_LIMIT_LIMIT : Fld := ⟨.GLB_DIST_LIMIT, 0, 0, 8, 40⟩
/-- `GLB_DIST_STAT` bits 15:0, RO. Blocks not forwarded (R275); holds at 0xFFFF -/
def GLB_DIST_STAT_MISS_CNT : Fld := ⟨.GLB_DIST_STAT, 0, 0, 0, 16⟩
/-- `GLB_DIST_STAT` bits 31:31, WO. 1 clears MISS_CNT; reads 0 -/
def GLB_DIST_STAT_CLR : Fld := ⟨.GLB_DIST_STAT, 0, 0, 31, 1⟩
/-- `BRK_CFG` bits 4:0, RW. Trigger in °C (R287); 0 acts as 1, values above 16 act as 16; takes effect at the next boundary -/
def BRK_CFG_TRIG (i : Nat) : Fld := ⟨.BRK_CFG, i, 0, 0, 5⟩
/-- `BRK_CFG` bits 5:5, RW. Temperature triggers enabled -/
def BRK_CFG_AUTO (i : Nat) : Fld := ⟨.BRK_CFG, i, 0, 5, 1⟩
/-- `BRK_CFG` bits 6:6, RW. Use saved codes at re-enable (R296) -/
def BRK_CFG_BRINGUP_RESTORED (i : Nat) : Fld := ⟨.BRK_CFG, i, 0, 6, 1⟩
/-- `BRK_CFG` bits 8:8, RW. PASS_DONE signals vector 29 -/
def BRK_CFG_IRQ_PASS (i : Nat) : Fld := ⟨.BRK_CFG, i, 0, 8, 1⟩
/-- `BRK_CFG` bits 9:9, RW. ARRAY_FAULT, COL_FAIL, VERIFY_FAIL and OVERDUE signal vector 29 -/
def BRK_CFG_IRQ_FAULT (i : Nat) : Fld := ⟨.BRK_CFG, i, 0, 9, 1⟩
/-- `BRK_CTRL` bits 0:0, WO. 1 requests a pass (R287); reads 0 -/
def BRK_CTRL_START_PASS (i : Nat) : Fld := ⟨.BRK_CTRL, i, 0, 0, 1⟩
/-- `BRK_CTRL` bits 1:1, WO. 1 abandons the window and pass (R291); reads 0 -/
def BRK_CTRL_ABORT (i : Nat) : Fld := ⟨.BRK_CTRL, i, 0, 1, 1⟩
/-- `BRK_CTRL` bits 2:2, WO. 1 clears ABANDON_CNT, FAULT_CNT and OVERDUE_CNT; reads 0 -/
def BRK_CTRL_CLR_CNT (i : Nat) : Fld := ⟨.BRK_CTRL, i, 0, 2, 1⟩
/-- `BRK_STATUS` bits 0:0, RO. A pass is in progress -/
def BRK_STATUS_PASS_ACTIVE (i : Nat) : Fld := ⟨.BRK_STATUS, i, 0, 0, 1⟩
/-- `BRK_STATUS` bits 1:1, RO. R289 -/
def BRK_STATUS_CURRENT (i : Nat) : Fld := ⟨.BRK_STATUS, i, 0, 1, 1⟩
/-- `BRK_STATUS` bits 2:2, W1C. A pass ended (R288) -/
def BRK_STATUS_PASS_DONE (i : Nat) : Fld := ⟨.BRK_STATUS, i, 0, 2, 1⟩
/-- `BRK_STATUS` bits 3:3, W1C. An array was handed to Gorse (R284) -/
def BRK_STATUS_ARRAY_FAULT (i : Nat) : Fld := ⟨.BRK_STATUS, i, 0, 3, 1⟩
/-- `BRK_STATUS` bits 4:4, W1C. A failed column was found (R284) -/
def BRK_STATUS_COL_FAIL (i : Nat) : Fld := ⟨.BRK_STATUS, i, 0, 4, 1⟩
/-- `BRK_STATUS` bits 5:5, W1C. Verification failed (R285) -/
def BRK_STATUS_VERIFY_FAIL (i : Nat) : Fld := ⟨.BRK_STATUS, i, 0, 5, 1⟩
/-- `BRK_STATUS` bits 6:6, W1C. A window was abandoned (R291) -/
def BRK_STATUS_ABANDONED (i : Nat) : Fld := ⟨.BRK_STATUS, i, 0, 6, 1⟩
/-- `BRK_STATUS` bits 7:7, W1C. A trim write was dropped (R298) -/
def BRK_STATUS_TRIM_WR_REJECT (i : Nat) : Fld := ⟨.BRK_STATUS, i, 0, 7, 1⟩
/-- `BRK_STATUS` bits 8:8, RO. A window waits beyond DEFER_LIMIT (R290) -/
def BRK_STATUS_OVERDUE (i : Nat) : Fld := ⟨.BRK_STATUS, i, 0, 8, 1⟩
/-- `BRK_STATUS` bits 9:9, RO. No usable reserve (R292) -/
def BRK_STATUS_IN_PLACE (i : Nat) : Fld := ⟨.BRK_STATUS, i, 0, 9, 1⟩
/-- `BRK_STATUS` bits 10:10, RO. Saved codes used at the last re-enable (R296) -/
def BRK_STATUS_SAVED_ACCEPTED (i : Nat) : Fld := ⟨.BRK_STATUS, i, 0, 10, 1⟩
/-- `BRK_STATUS` bits 20:16, RO. Physical array being calibrated; 0x1F if none -/
def BRK_STATUS_STEP_ARRAY (i : Nat) : Fld := ⟨.BRK_STATUS, i, 0, 16, 5⟩
/-- `BRK_STATUS` bits 23:21, RO. 0 idle, 1 write, 2 zero, 3 rows, 4 rounds, 5 verify, 6 commit; 7 reserved -/
def BRK_STATUS_STAGE (i : Nat) : Fld := ⟨.BRK_STATUS, i, 0, 21, 3⟩
/-- `BRK_CAL_CNT` bits 15:0, RO. Passes completed, bring-ups included; holds at 0xFFFF -/
def BRK_CAL_CNT_PASS_CNT (i : Nat) : Fld := ⟨.BRK_CAL_CNT, i, 0, 0, 16⟩
/-- `BRK_CAL_CNT` bits 23:16, RO. Abandoned windows; holds at 0xFF -/
def BRK_CAL_CNT_ABANDON_CNT (i : Nat) : Fld := ⟨.BRK_CAL_CNT, i, 0, 16, 8⟩
/-- `BRK_CAL_CNT` bits 31:24, RO. Failed verifications and faulted arrays; holds at 0xFF -/
def BRK_CAL_CNT_FAULT_CNT (i : Nat) : Fld := ⟨.BRK_CAL_CNT, i, 0, 24, 8⟩
/-- `BRK_CAL_TIME` bits 63:0, RO. Device time of the boundary at which the latest pass ended; low word at +0x910 -/
def BRK_CAL_TIME_TIME (i : Nat) : Fld := ⟨.BRK_CAL_TIME, i, 0, 0, 64⟩
/-- `BRK_DEFER` bits 15:0, RO. Boundaries the pending window has waited (R290); holds at 0xFFFF -/
def BRK_DEFER_WAIT (i : Nat) : Fld := ⟨.BRK_DEFER, i, 0, 0, 16⟩
/-- `BRK_DEFER` bits 31:16, RO. Windows placed under R219; holds at 0xFFFF -/
def BRK_DEFER_OVERDUE_CNT (i : Nat) : Fld := ⟨.BRK_DEFER, i, 0, 16, 16⟩
/-- `BRK_SAVED_TEMP` bits 7:0, RW. Stamp of the restored codes in °C (R296); writable only while TSK_STATE is QUARANTINED -/
def BRK_SAVED_TEMP_TEMP (i : Nat) : Fld := ⟨.BRK_SAVED_TEMP, i, 0, 0, 8⟩
/-- `BRK_TRIM_SEL` bits 7:0, RW. Word index (R298) -/
def BRK_TRIM_SEL_INDEX (i : Nat) : Fld := ⟨.BRK_TRIM_SEL, i, 0, 0, 8⟩
/-- `BRK_TRIM_SEL` bits 12:8, RW. 0 to 16: physical array; 17: generator sets; 18 to 31: reserved -/
def BRK_TRIM_SEL_ARRAY (i : Nat) : Fld := ⟨.BRK_TRIM_SEL, i, 0, 8, 5⟩
/-- `BRK_TRIM_SEL` bits 31:31, RW. 1: INDEX increments after each access to BRK_TRIM_DATA, wrapping at 0xFF -/
def BRK_TRIM_SEL_AUTO_INC (i : Nat) : Fld := ⟨.BRK_TRIM_SEL, i, 0, 31, 1⟩
/-- `BRK_TRIM_DATA` bits 31:0, RW. The trim word selected by BRK_TRIM_SEL (R298) -/
def BRK_TRIM_DATA_DATA (i : Nat) : Fld := ⟨.BRK_TRIM_DATA, i, 0, 0, 32⟩
/-- `BRK_LAST_FAIL` bits 4:0, RO. Physical array of the latest failed column -/
def BRK_LAST_FAIL_ARRAY (i : Nat) : Fld := ⟨.BRK_LAST_FAIL, i, 0, 0, 5⟩
/-- `BRK_LAST_FAIL` bits 16:8, RO. Logical column, 0 to 259 -/
def BRK_LAST_FAIL_COLUMN (i : Nat) : Fld := ⟨.BRK_LAST_FAIL, i, 0, 8, 9⟩
/-- `BRK_LAST_FAIL` bits 31:31, RO. 1 once a failed column has been recorded -/
def BRK_LAST_FAIL_VALID (i : Nat) : Fld := ⟨.BRK_LAST_FAIL, i, 0, 31, 1⟩
/-- `BRK_ARR_CAL` bits 15:0, RO. Windows committed for this array (R286); holds at 0xFFFF -/
def BRK_ARR_CAL_COUNT (i j : Nat) : Fld := ⟨.BRK_ARR_CAL, i, j, 0, 16⟩
/-- `BRK_ARR_CAL` bits 23:16, RO. T_a in °C; 0xFF before the first calibration -/
def BRK_ARR_CAL_TEMP (i j : Nat) : Fld := ⟨.BRK_ARR_CAL, i, j, 16, 8⟩
/-- `BRK_ARR_CAL` bits 24:24, RO. R289 -/
def BRK_ARR_CAL_STALE (i j : Nat) : Fld := ⟨.BRK_ARR_CAL, i, j, 24, 1⟩
/-- `BRK_ARR_CAL` bits 28:25, RO. Spare row drivers in use, 0 to 8 -/
def BRK_ARR_CAL_SPARES (i j : Nat) : Fld := ⟨.BRK_ARR_CAL, i, j, 25, 4⟩
/-- `BRK_ARR_TIME` bits 63:0, RO. Device time of the array's latest committed window; low word first -/
def BRK_ARR_TIME_TIME (i j : Nat) : Fld := ⟨.BRK_ARR_TIME, i, j, 0, 64⟩
/-- `GRS_CFG` bits 2:0, RW. Checking of R309 -/
def GRS_CFG_FRACTION : Fld := ⟨.GRS_CFG, 0, 0, 0, 3⟩
/-- `GRS_CFG` bits 8:4, RW. H in swaths, 2 to 16 (R324) -/
def GRS_CFG_HORIZON : Fld := ⟨.GRS_CFG, 0, 0, 4, 5⟩
/-- `GRS_CFG` bits 9:9, RW. Matrix-unit method (R310) -/
def GRS_CFG_TUFT_MODE : Fld := ⟨.GRS_CFG, 0, 0, 9, 1⟩
/-- `GRS_CFG` bits 10:10, RW. A drift failure requests a pass (R304) -/
def GRS_CFG_DRIFT_PASS : Fld := ⟨.GRS_CFG, 0, 0, 10, 1⟩
/-- `GRS_TOL` bits 7:0, RW. Evaluation test, in 1/4 LSB: 16 LSB (R301) -/
def GRS_TOL_TOL_EVAL : Fld := ⟨.GRS_TOL, 0, 0, 0, 8⟩
/-- `GRS_TOL` bits 15:8, RW. Stuck test, in 1/16 LSB: 1.25 LSB (R303) -/
def GRS_TOL_MEAN_TOL : Fld := ⟨.GRS_TOL, 0, 0, 8, 8⟩
/-- `GRS_TOL` bits 23:16, RW. Drift test, in 1/16 LSB: 0.625 LSB (R304) -/
def GRS_TOL_DRIFT_TOL : Fld := ⟨.GRS_TOL, 0, 0, 16, 8⟩
/-- `GRS_TOL` bits 31:24, RW. Column agreement, in 1/16 LSB: 1.5 LSB (R308, R314) -/
def GRS_TOL_AGREE_TOL : Fld := ⟨.GRS_TOL, 0, 0, 24, 8⟩
/-- `GRS_STATUS` bits 0:0, W1C. A GRS_CFG write was dropped (R309, R324) -/
def GRS_STATUS_CFG_REJECT : Fld := ⟨.GRS_STATUS, 0, 0, 0, 1⟩
/-- `GRS_STATUS` bits 1:1, W1C. A late detection is held (R321) -/
def GRS_STATUS_LATE : Fld := ⟨.GRS_STATUS, 0, 0, 1, 1⟩
/-- `GRS_STATUS` bits 2:2, W1C. A job was retracted with its arbitration unresolved (R320) -/
def GRS_STATUS_UNRESOLVED : Fld := ⟨.GRS_STATUS, 0, 0, 2, 1⟩
/-- `GRS_STATUS` bits 3:3, W1C. R323 -/
def GRS_STATUS_COMMIT_RETRACT : Fld := ⟨.GRS_STATUS, 0, 0, 3, 1⟩
/-- `GRS_STATUS` bits 4:4, W1C. The provisional table was full (R322) -/
def GRS_STATUS_PROV_OVF : Fld := ⟨.GRS_STATUS, 0, 0, 4, 1⟩
/-- `GRS_STATUS` bits 5:5, W1C. A context was expelled (R328) -/
def GRS_STATUS_EXPEL : Fld := ⟨.GRS_STATUS, 0, 0, 5, 1⟩
/-- `GRS_STATUS` bits 6:6, W1C. A test vector failed (R333) -/
def GRS_STATUS_TP_FAIL : Fld := ⟨.GRS_STATUS, 0, 0, 6, 1⟩
/-- `GRS_STATUS` bits 7:7, W1C. Gorse quarantined a Tussock -/
def GRS_STATUS_QUARANTINE : Fld := ⟨.GRS_STATUS, 0, 0, 7, 1⟩
/-- `GRS_STATUS` bits 8:8, RO. R309 -/
def GRS_STATUS_FRACTION_PENDING : Fld := ⟨.GRS_STATUS, 0, 0, 8, 1⟩
/-- `GRS_ARB_CNT` bits 7:0, RO. Checksum refreshes; holds at 0xFF -/
def GRS_ARB_CNT_CSUM_CNT : Fld := ⟨.GRS_ARB_CNT, 0, 0, 0, 8⟩
/-- `GRS_ARB_CNT` bits 15:8, RO. Transient outcomes; holds at 0xFF -/
def GRS_ARB_CNT_TRANSIENT_CNT : Fld := ⟨.GRS_ARB_CNT, 0, 0, 8, 8⟩
/-- `GRS_ARB_CNT` bits 23:16, RO. Arrays found wrong; holds at 0xFF -/
def GRS_ARB_CNT_PERSIST_CNT : Fld := ⟨.GRS_ARB_CNT, 0, 0, 16, 8⟩
/-- `GRS_ARB_CNT` bits 31:24, RO. Tussocks quarantined by Gorse; holds at 0xFF -/
def GRS_ARB_CNT_QUAR_CNT : Fld := ⟨.GRS_ARB_CNT, 0, 0, 24, 8⟩
/-- `GRS_EVT_CNT` bits 7:0, RO. Triggers with no fault; holds at 0xFF -/
def GRS_EVT_CNT_FALSE_CNT : Fld := ⟨.GRS_EVT_CNT, 0, 0, 0, 8⟩
/-- `GRS_EVT_CNT` bits 15:8, RO. Jobs retracted as unresolved; holds at 0xFF -/
def GRS_EVT_CNT_UNRES_CNT : Fld := ⟨.GRS_EVT_CNT, 0, 0, 8, 8⟩
/-- `GRS_EVT_CNT` bits 23:16, RO. Late detections; holds at 0xFF -/
def GRS_EVT_CNT_LATE_CNT : Fld := ⟨.GRS_EVT_CNT, 0, 0, 16, 8⟩
/-- `GRS_EVT_CNT` bits 31:24, RO. R323; holds at 0xFF -/
def GRS_EVT_CNT_COMMIT_RETRACT_CNT : Fld := ⟨.GRS_EVT_CNT, 0, 0, 24, 8⟩
/-- `GRS_CTRL` bits 0:0, WO. 1 clears GRS_ARB_CNT, GRS_EVT_CNT, GRS_REP_STATUS and FAIL_CNT; reads 0 -/
def GRS_CTRL_CLR_CNT : Fld := ⟨.GRS_CTRL, 0, 0, 0, 1⟩
/-- `GRS_CTRL` bits 1:1, WO. 1 clears GRS_PROV.PEAK; reads 0 -/
def GRS_CTRL_CLR_PEAK : Fld := ⟨.GRS_CTRL, 0, 0, 1, 1⟩
/-- `GRS_SUSPECT_TIME` bits 63:0, RO. Suspect start of the held late detection (R321); low word at 0x00_4018 -/
def GRS_SUSPECT_TIME_TIME : Fld := ⟨.GRS_SUSPECT_TIME, 0, 0, 0, 64⟩
/-- `GRS_SUSPECT_INFO` bits 7:0, RO. Tussock global number -/
def GRS_SUSPECT_INFO_TSK : Fld := ⟨.GRS_SUSPECT_INFO, 0, 0, 0, 8⟩
/-- `GRS_SUSPECT_INFO` bits 12:8, RO. Physical array; 0x1F for the whole Tussock -/
def GRS_SUSPECT_INFO_ARRAY : Fld := ⟨.GRS_SUSPECT_INFO, 0, 0, 8, 5⟩
/-- `GRS_PROV` bits 12:0, RO. Provisional table entries, 0 to 4,096 (R322) -/
def GRS_PROV_IN_USE : Fld := ⟨.GRS_PROV, 0, 0, 0, 13⟩
/-- `GRS_PROV` bits 28:16, RO. Highest IN_USE since CLR_PEAK -/
def GRS_PROV_PEAK : Fld := ⟨.GRS_PROV, 0, 0, 16, 13⟩
/-- `GRS_REP_CFG` bits 0:0, RW. Replica group enabled (R325) -/
def GRS_REP_CFG_EN : Fld := ⟨.GRS_REP_CFG, 0, 0, 0, 1⟩
/-- `GRS_REP_CFG` bits 3:1, RW. This member's number -/
def GRS_REP_CFG_SELF : Fld := ⟨.GRS_REP_CFG, 0, 0, 1, 3⟩
/-- `GRS_REP_CFG` bits 15:8, RW. Bit m: member m belongs to the group -/
def GRS_REP_CFG_MEMBERS : Fld := ⟨.GRS_REP_CFG, 0, 0, 8, 8⟩
/-- `GRS_REP_CFG` bits 31:16, RW. Period in swaths (R327); values below 16 act as 16 -/
def GRS_REP_CFG_PERIOD : Fld := ⟨.GRS_REP_CFG, 0, 0, 16, 16⟩
/-- `GRS_REP_CTX` bits 63:0, RW. Bit c: context c is compared -/
def GRS_REP_CTX_CTX : Fld := ⟨.GRS_REP_CTX, 0, 0, 0, 64⟩
/-- `GRS_REP_EXPELLED` bits 63:0, RO. Bit c: context c is expelled (R328); cleared by READMIT -/
def GRS_REP_EXPELLED_EXPELLED : Fld := ⟨.GRS_REP_EXPELLED, 0, 0, 0, 64⟩
/-- `GRS_REP_STATUS` bits 7:0, RO. Expulsions; holds at 0xFF -/
def GRS_REP_STATUS_EXPEL_CNT : Fld := ⟨.GRS_REP_STATUS, 0, 0, 0, 8⟩
/-- `GRS_REP_STATUS` bits 15:8, RO. Decisions without a majority; holds at 0xFF -/
def GRS_REP_STATUS_NO_MAJ_CNT : Fld := ⟨.GRS_REP_STATUS, 0, 0, 8, 8⟩
/-- `GRS_REP_STATUS` bits 23:16, RO. Periods with fewer than 3 reports; holds at 0xFF -/
def GRS_REP_STATUS_FEW_CNT : Fld := ⟨.GRS_REP_STATUS, 0, 0, 16, 8⟩
/-- `GRS_REP_STATUS` bits 31:24, RO. Expulsions after readmission (R329); holds at 0xFF -/
def GRS_REP_STATUS_PROBATION_FAIL_CNT : Fld := ⟨.GRS_REP_STATUS, 0, 0, 24, 8⟩
/-- `GRS_REP_CTRL` bits 5:0, WO. Context to readmit; reads 0 -/
def GRS_REP_CTRL_CONTEXT : Fld := ⟨.GRS_REP_CTRL, 0, 0, 0, 6⟩
/-- `GRS_REP_CTRL` bits 6:6, WO. 1 readmits CONTEXT (R329); reads 0 -/
def GRS_REP_CTRL_READMIT : Fld := ⟨.GRS_REP_CTRL, 0, 0, 6, 1⟩
/-- `GRS_TP_STATUS` bits 3:0, RO. Cause of the latest rejection (R333) -/
def GRS_TP_STATUS_REASON : Fld := ⟨.GRS_TP_STATUS, 0, 0, 0, 4⟩
/-- `GRS_TP_STATUS` bits 4:4, W1C. A test-pattern package was rejected -/
def GRS_TP_STATUS_REJECT : Fld := ⟨.GRS_TP_STATUS, 0, 0, 4, 1⟩
/-- `GRS_TP_STATUS` bits 31:16, RO. Failed vectors; holds at 0xFFFF -/
def GRS_TP_STATUS_FAIL_CNT : Fld := ⟨.GRS_TP_STATUS, 0, 0, 16, 16⟩
/-- `GRS_LANE_STATUS` bits 0:0, W1C. R301 -/
def GRS_LANE_STATUS_EVAL_FAIL (i : Nat) : Fld := ⟨.GRS_LANE_STATUS, i, 0, 0, 1⟩
/-- `GRS_LANE_STATUS` bits 1:1, W1C. R303 -/
def GRS_LANE_STATUS_MEAN_FAIL (i : Nat) : Fld := ⟨.GRS_LANE_STATUS, i, 0, 1, 1⟩
/-- `GRS_LANE_STATUS` bits 2:2, W1C. R304 -/
def GRS_LANE_STATUS_DRIFT (i : Nat) : Fld := ⟨.GRS_LANE_STATUS, i, 0, 2, 1⟩
/-- `GRS_LANE_STATUS` bits 3:3, W1C. Re-run comparison failed (R308) -/
def GRS_LANE_STATUS_RERUN_FAIL (i : Nat) : Fld := ⟨.GRS_LANE_STATUS, i, 0, 3, 1⟩
/-- `GRS_LANE_STATUS` bits 4:4, W1C. Shadow comparison failed (R308) -/
def GRS_LANE_STATUS_SHADOW_FAIL (i : Nat) : Fld := ⟨.GRS_LANE_STATUS, i, 0, 4, 1⟩
/-- `GRS_LANE_STATUS` bits 5:5, W1C. Duplication comparison failed (R309) -/
def GRS_LANE_STATUS_DUP_FAIL (i : Nat) : Fld := ⟨.GRS_LANE_STATUS, i, 0, 5, 1⟩
/-- `GRS_LANE_STATUS` bits 6:6, W1C. A digital check failed (R311) -/
def GRS_LANE_STATUS_DIG_ERR (i : Nat) : Fld := ⟨.GRS_LANE_STATUS, i, 0, 6, 1⟩
/-- `GRS_LANE_STATUS` bits 7:7, W1C. An array's owner records were full (R321) -/
def GRS_LANE_STATUS_OWNER_OVF (i : Nat) : Fld := ⟨.GRS_LANE_STATUS, i, 0, 7, 1⟩
/-- `GRS_LANE_STATUS` bits 8:8, RO. An arbitration is running -/
def GRS_LANE_STATUS_ARB_ACTIVE (i : Nat) : Fld := ⟨.GRS_LANE_STATUS, i, 0, 8, 1⟩
/-- `GRS_LANE_STATUS` bits 11:9, RO. Queued arbitrations, 0 to 4 -/
def GRS_LANE_STATUS_ARB_QUEUED (i : Nat) : Fld := ⟨.GRS_LANE_STATUS, i, 0, 9, 3⟩
/-- `GRS_LANE_STATUS` bits 12:12, RO. R317 -/
def GRS_LANE_STATUS_CSUM_REFRESH (i : Nat) : Fld := ⟨.GRS_LANE_STATUS, i, 0, 12, 1⟩
/-- `GRS_LANE_STATUS` bits 21:16, RO. k of the array whose sample the latest check slot compared (R307) -/
def GRS_LANE_STATUS_SHADOW_SET (i : Nat) : Fld := ⟨.GRS_LANE_STATUS, i, 0, 16, 6⟩
/-- `GRS_LANE_CNT` bits 15:0, RO. Check slots run, modulo 65,536 -/
def GRS_LANE_CNT_CHECKS (i : Nat) : Fld := ⟨.GRS_LANE_CNT, i, 0, 0, 16⟩
/-- `GRS_LANE_CNT` bits 23:16, RO. Digital check failures; holds at 0xFF -/
def GRS_LANE_CNT_DIG_CNT (i : Nat) : Fld := ⟨.GRS_LANE_CNT, i, 0, 16, 8⟩
/-- `GRS_LANE_CNT` bits 31:24, RO. Arbitrations completed; holds at 0xFF -/
def GRS_LANE_CNT_ARB_CNT (i : Nat) : Fld := ⟨.GRS_LANE_CNT, i, 0, 24, 8⟩
/-- `GRS_ARB_LAST` bits 4:0, RO. Physical array of the latest arbitration -/
def GRS_ARB_LAST_ARRAY (i : Nat) : Fld := ⟨.GRS_ARB_LAST, i, 0, 0, 5⟩
/-- `GRS_ARB_LAST` bits 13:5, RO. First involved column; 0x1FF when a whole parity was involved -/
def GRS_ARB_LAST_COLUMN (i : Nat) : Fld := ⟨.GRS_ARB_LAST, i, 0, 5, 9⟩
/-- `GRS_ARB_LAST` bits 14:14, RO. 0 even, 1 odd -/
def GRS_ARB_LAST_PARITY (i : Nat) : Fld := ⟨.GRS_ARB_LAST, i, 0, 14, 1⟩
/-- `GRS_ARB_LAST` bits 17:15, RO. Row of the table in R312, 0 to 4; 5 to 7 reserved -/
def GRS_ARB_LAST_TRIGGER (i : Nat) : Fld := ⟨.GRS_ARB_LAST, i, 0, 15, 3⟩
/-- `GRS_ARB_LAST` bits 20:18, RO. 0 no fault, 1 checksum, 2 transient, 3 array wrong, 4 digital, 5 all disagree; 6 and 7 reserved -/
def GRS_ARB_LAST_OUTCOME (i : Nat) : Fld := ⟨.GRS_ARB_LAST, i, 0, 18, 3⟩
/-- `GRS_ARB_LAST` bits 31:31, RO. 1 once an arbitration has completed -/
def GRS_ARB_LAST_VALID (i : Nat) : Fld := ⟨.GRS_ARB_LAST, i, 0, 31, 1⟩
/-- Shadow set number of array `a`, modulo 64 (R307). -/
def GRS_SHADOW_MAP_SET (g a : Nat) : Fld := ⟨.GRS_SHADOW_MAP, g, a / 4, 8 * (a % 4), 6⟩
/-- `LEA_PORT_CFG` bits 0:0, RW. Port enabled (R341) -/
def LEA_PORT_CFG_EN (i : Nat) : Fld := ⟨.LEA_PORT_CFG, i, 0, 0, 1⟩
/-- `LEA_PORT_CFG` bits 1:1, RW. 0: 112 Gb/s; 1: 56 Gb/s (R335); written only while STATE is DISABLED, else dropped -/
def LEA_PORT_CFG_RATE (i : Nat) : Fld := ⟨.LEA_PORT_CFG, i, 0, 1, 1⟩
/-- `LEA_PORT_CFG` bits 2:2, RW. DOWN leads to TRAIN without a host write -/
def LEA_PORT_CFG_AUTO_RETRAIN (i : Nat) : Fld := ⟨.LEA_PORT_CFG, i, 0, 2, 1⟩
/-- `LEA_PORT_CFG` bits 3:3, WO. 1 moves DOWN or FAULT to TRAIN; reads 0 -/
def LEA_PORT_CFG_RETRAIN (i : Nat) : Fld := ⟨.LEA_PORT_CFG, i, 0, 3, 1⟩
/-- `LEA_PORT_CFG` bits 7:4, RW. Failed attempts before FAULT; 0 acts as 16 -/
def LEA_PORT_CFG_MAX_ATTEMPTS (i : Nat) : Fld := ⟨.LEA_PORT_CFG, i, 0, 4, 4⟩
/-- `LEA_PORT_STATUS` bits 2:0, RO. State of R341 -/
def LEA_PORT_STATUS_STATE (i : Nat) : Fld := ⟨.LEA_PORT_STATUS, i, 0, 0, 3⟩
/-- `LEA_PORT_STATUS` bits 3:3, RO. The partner announced itself as an Olusar 1100 (R359) -/
def LEA_PORT_STATUS_PARTNER_1100 (i : Nat) : Fld := ⟨.LEA_PORT_STATUS, i, 0, 3, 1⟩
/-- `LEA_PORT_STATUS` bits 7:4, RO. Partner's node number from the exchange -/
def LEA_PORT_STATUS_PARTNER_NODE (i : Nat) : Fld := ⟨.LEA_PORT_STATUS, i, 0, 4, 4⟩
/-- `LEA_PORT_STATUS` bits 8:8, W1C. R342 -/
def LEA_PORT_STATUS_RATE_MISMATCH (i : Nat) : Fld := ⟨.LEA_PORT_STATUS, i, 0, 8, 1⟩
/-- `LEA_PORT_STATUS` bits 9:9, W1C. R348 -/
def LEA_PORT_STATUS_EXHAUSTED (i : Nat) : Fld := ⟨.LEA_PORT_STATUS, i, 0, 9, 1⟩
/-- `LEA_PORT_STATUS` bits 10:10, W1C. The port entered FAULT (R341) -/
def LEA_PORT_STATUS_TRAIN_FAIL (i : Nat) : Fld := ⟨.LEA_PORT_STATUS, i, 0, 10, 1⟩
/-- `LEA_PORT_STATUS` bits 11:11, W1C. R353 -/
def LEA_PORT_STATUS_CREDIT_STALL (i : Nat) : Fld := ⟨.LEA_PORT_STATUS, i, 0, 11, 1⟩
/-- `LEA_PORT_STATUS` bits 19:16, RO. Failed attempts since the last entry into UP -/
def LEA_PORT_STATUS_ATTEMPTS (i : Nat) : Fld := ⟨.LEA_PORT_STATUS, i, 0, 16, 4⟩
/-- `LEA_PORT_ERR` bits 15:0, RO. Frames received with a link CRC failure; holds at 0xFFFF -/
def LEA_PORT_ERR_CRC_CNT (i : Nat) : Fld := ⟨.LEA_PORT_ERR, i, 0, 0, 16⟩
/-- `LEA_PORT_ERR` bits 23:16, RO. Replays started (R347); holds at 0xFF -/
def LEA_PORT_ERR_TRY_CNT (i : Nat) : Fld := ⟨.LEA_PORT_ERR, i, 0, 16, 8⟩
/-- `LEA_PORT_ERR` bits 31:24, RO. Retry exhaustions; holds at 0xFF -/
def LEA_PORT_ERR_EXHAUST_CNT (i : Nat) : Fld := ⟨.LEA_PORT_ERR, i, 0, 24, 8⟩
/-- `LEA_PORT_FEC` bits 23:0, RO. Symbols corrected (R336); holds at 0xFF_FFFF -/
def LEA_PORT_FEC_CORR_CNT (i : Nat) : Fld := ⟨.LEA_PORT_FEC, i, 0, 0, 24⟩
/-- `LEA_PORT_FEC` bits 31:24, RO. Uncorrectable codewords; holds at 0xFF -/
def LEA_PORT_FEC_UNCORR_CNT (i : Nat) : Fld := ⟨.LEA_PORT_FEC, i, 0, 24, 8⟩
/-- `LEA_PORT_TX` bits 63:0, RO. DATA and CTRL frames sent, replays included; low word at +0x10 -/
def LEA_PORT_TX_FRAMES (i : Nat) : Fld := ⟨.LEA_PORT_TX, i, 0, 0, 64⟩
/-- `LEA_PORT_RX` bits 63:0, RO. DATA and CTRL frames accepted (R345); low word at +0x18 -/
def LEA_PORT_RX_FRAMES (i : Nat) : Fld := ⟨.LEA_PORT_RX, i, 0, 0, 64⟩
/-- `LEA_PORT_STAT` bits 15:0, RO. PROV blocks sent to an Olusar 1100 (R359); holds at 0xFFFF -/
def LEA_PORT_STAT_LEGACY_PROV_CNT (i : Nat) : Fld := ⟨.LEA_PORT_STAT, i, 0, 0, 16⟩
/-- `LEA_PORT_STAT` bits 23:16, RO. Inbound blocks dropped under R352; holds at 0xFF -/
def LEA_PORT_STAT_DENIED_CNT (i : Nat) : Fld := ⟨.LEA_PORT_STAT, i, 0, 16, 8⟩
/-- `LEA_PORT_STAT` bits 31:31, WO. 1 clears every counter of the port block, FRAMES included; reads 0 -/
def LEA_PORT_STAT_CLR (i : Nat) : Fld := ⟨.LEA_PORT_STAT, i, 0, 31, 1⟩
/-- `LEA_NODE` bits 3:0, RW. This device's Lea node number (R356); written only while every port is DISABLED, else dropped -/
def LEA_NODE_NODE : Fld := ⟨.LEA_NODE, 0, 0, 0, 4⟩
/-- Port of destination node `d` (R356). -/
def LEA_ROUTE_PORT (d : Nat) : Fld := ⟨.LEA_ROUTE, 0, 0, 4 * d, 2⟩
/-- The route of node `d` is valid (R356). -/
def LEA_ROUTE_VALID (d : Nat) : Fld := ⟨.LEA_ROUTE, 0, 0, 4 * d + 2, 1⟩
/-- `LEA_CTRL_STAT` bits 15:0, RO. CTRL messages dropped (R354, R356); holds at 0xFFFF -/
def LEA_CTRL_STAT_DROP_CNT : Fld := ⟨.LEA_CTRL_STAT, 0, 0, 0, 16⟩
/-- `LEA_CTRL_STAT` bits 30:16, RO. ADDR_FAULT messages after the token (R355); holds at 0x7FFF -/
def LEA_CTRL_STAT_LATE_FAULT_CNT : Fld := ⟨.LEA_CTRL_STAT, 0, 0, 16, 15⟩
/-- `LEA_CTRL_STAT` bits 31:31, WO. 1 clears both counters; reads 0 -/
def LEA_CTRL_STAT_CLR : Fld := ⟨.LEA_CTRL_STAT, 0, 0, 31, 1⟩
/-- `LEA_STATUS` bits 0:0, W1C. R358 -/
def LEA_STATUS_NODE_MISMATCH : Fld := ⟨.LEA_STATUS, 0, 0, 0, 1⟩
/-- `LEA_STATUS` bits 1:1, W1C. A CTRL message was dropped -/
def LEA_STATUS_CTRL_DROP : Fld := ⟨.LEA_STATUS, 0, 0, 1, 1⟩
/-- `STL_FIN_CFG` bits 0:0, RW. Input enabled -/
def STL_FIN_CFG_EN (i : Nat) : Fld := ⟨.STL_FIN_CFG, i, 0, 0, 1⟩
/-- `STL_FIN_CFG` bits 1:1, RW. R362 -/
def STL_FIN_CFG_POL (i : Nat) : Fld := ⟨.STL_FIN_CFG, i, 0, 1, 1⟩
/-- `STL_FIN_CFG` bits 3:2, RW. R363 -/
def STL_FIN_CFG_EDGE (i : Nat) : Fld := ⟨.STL_FIN_CFG, i, 0, 2, 2⟩
/-- `STL_FIN_CFG` bits 6:4, RW. Destination queue -/
def STL_FIN_CFG_QSEL (i : Nat) : Fld := ⟨.STL_FIN_CFG, i, 0, 4, 3⟩
/-- `STL_FIN_CFG` bits 23:8, RW. Filter in samples of 5 ns (R362) -/
def STL_FIN_CFG_FILT (i : Nat) : Fld := ⟨.STL_FIN_CFG, i, 0, 8, 16⟩
/-- `STL_FIN_LIM` bits 15:0, RW. In µs (R364); 0 disables -/
def STL_FIN_LIM_MIN_PERIOD (i : Nat) : Fld := ⟨.STL_FIN_LIM, i, 0, 0, 16⟩
/-- `STL_FIN_LIM` bits 31:16, RW. In ms (R365); 0 disables -/
def STL_FIN_LIM_STUCK (i : Nat) : Fld := ⟨.STL_FIN_LIM, i, 0, 16, 16⟩
/-- `STL_FIN_STAT` bits 0:0, RO. Filtered level, 1 for active -/
def STL_FIN_STAT_LEVEL (i : Nat) : Fld := ⟨.STL_FIN_STAT, i, 0, 0, 1⟩
/-- `STL_FIN_STAT` bits 1:1, RO. Declared stuck (R365) -/
def STL_FIN_STAT_STUCK_NOW (i : Nat) : Fld := ⟨.STL_FIN_STAT, i, 0, 1, 1⟩
/-- `STL_FIN_STAT` bits 2:2, W1C. A stuck declaration began -/
def STL_FIN_STAT_STUCK_SET (i : Nat) : Fld := ⟨.STL_FIN_STAT, i, 0, 2, 1⟩
/-- `STL_FIN_STAT` bits 3:3, W1C. An edge was coalesced -/
def STL_FIN_STAT_OVR (i : Nat) : Fld := ⟨.STL_FIN_STAT, i, 0, 3, 1⟩
/-- `STL_FIN_STAT` bits 15:8, RO. Coalesced edges; holds at 0xFF -/
def STL_FIN_STAT_OVR_CNT (i : Nat) : Fld := ⟨.STL_FIN_STAT, i, 0, 8, 8⟩
/-- `STL_FIN_STAT` bits 23:16, RO. Suppressed edges; holds at 0xFF -/
def STL_FIN_STAT_SUPP_CNT (i : Nat) : Fld := ⟨.STL_FIN_STAT, i, 0, 16, 8⟩
/-- `STL_FIN_STAT` bits 31:31, WO. 1 clears both counters; reads 0 -/
def STL_FIN_STAT_CLR (i : Nat) : Fld := ⟨.STL_FIN_STAT, i, 0, 31, 1⟩
/-- `STL_ENC_CFG` bits 1:0, RW. R366 -/
def STL_ENC_CFG_MODE (i : Nat) : Fld := ⟨.STL_ENC_CFG, i, 0, 0, 2⟩
/-- `STL_ENC_CFG` bits 2:2, RW. 1 reverses the count direction -/
def STL_ENC_CFG_DIR (i : Nat) : Fld := ⟨.STL_ENC_CFG, i, 0, 2, 1⟩
/-- `STL_ENC_CFG` bits 7:4, RW. Line filter in samples -/
def STL_ENC_CFG_FILT_E (i : Nat) : Fld := ⟨.STL_ENC_CFG, i, 0, 4, 4⟩
/-- `STL_ENC_CFG` bits 8:8, W1C. An illegal transition occurred (R367) -/
def STL_ENC_CFG_ERR (i : Nat) : Fld := ⟨.STL_ENC_CFG, i, 0, 8, 1⟩
/-- `STL_ENC_CFG` bits 23:16, RO. Illegal transitions; holds at 0xFF -/
def STL_ENC_CFG_ERR_CNT (i : Nat) : Fld := ⟨.STL_ENC_CFG, i, 0, 16, 8⟩
/-- `STL_ENC_CFG` bits 31:31, WO. 1 clears ERR_CNT; reads 0 -/
def STL_ENC_CFG_CLR (i : Nat) : Fld := ⟨.STL_ENC_CFG, i, 0, 31, 1⟩
/-- `STL_ENC_POS` bits 31:0, RW. Position count (R366, R368) -/
def STL_ENC_POS_POS (i : Nat) : Fld := ⟨.STL_ENC_POS, i, 0, 0, 32⟩
/-- `STL_TQ_CFG` bits 0:0, RW. Queue enabled -/
def STL_TQ_CFG_EN (i : Nat) : Fld := ⟨.STL_TQ_CFG, i, 0, 0, 1⟩
/-- `STL_TQ_CFG` bits 1:1, RW. HOLDq driven (R374) -/
def STL_TQ_CFG_HOLD_EN (i : Nat) : Fld := ⟨.STL_TQ_CFG, i, 0, 1, 1⟩
/-- `STL_TQ_CFG` bits 2:2, RW. R374 -/
def STL_TQ_CFG_HOLD_POL (i : Nat) : Fld := ⟨.STL_TQ_CFG, i, 0, 2, 1⟩
/-- `STL_TQ_CFG` bits 3:3, WO. 1 empties the queue (R373); reads 0 -/
def STL_TQ_CFG_FLUSH (i : Nat) : Fld := ⟨.STL_TQ_CFG, i, 0, 3, 1⟩
/-- `STL_TQ_CFG` bits 5:4, RW. Encoder stamped into entries -/
def STL_TQ_CFG_ENC_SEL (i : Nat) : Fld := ⟨.STL_TQ_CFG, i, 0, 4, 2⟩
/-- `STL_TQ_CFG` bits 14:8, RW. High watermark -/
def STL_TQ_CFG_HIGH (i : Nat) : Fld := ⟨.STL_TQ_CFG, i, 0, 8, 7⟩
/-- `STL_TQ_CFG` bits 22:16, RW. Low watermark -/
def STL_TQ_CFG_LOW (i : Nat) : Fld := ⟨.STL_TQ_CFG, i, 0, 16, 7⟩
/-- `STL_TQ_STAT` bits 6:0, RO. Entries held, 0 to 64 -/
def STL_TQ_STAT_OCC (i : Nat) : Fld := ⟨.STL_TQ_STAT, i, 0, 0, 7⟩
/-- `STL_TQ_STAT` bits 7:7, RO. HOLDq asserted -/
def STL_TQ_STAT_HOLD (i : Nat) : Fld := ⟨.STL_TQ_STAT, i, 0, 7, 1⟩
/-- `STL_TQ_STAT` bits 8:8, W1C. An event was dropped (R371) -/
def STL_TQ_STAT_OVF (i : Nat) : Fld := ⟨.STL_TQ_STAT, i, 0, 8, 1⟩
/-- `STL_TQ_STAT` bits 9:9, W1C. A copy mismatch reset the queue (R375) -/
def STL_TQ_STAT_DUP_ERR (i : Nat) : Fld := ⟨.STL_TQ_STAT, i, 0, 9, 1⟩
/-- `STL_TQ_STAT` bits 10:10, W1C. A watermark write was dropped -/
def STL_TQ_STAT_CFG_REJECT (i : Nat) : Fld := ⟨.STL_TQ_STAT, i, 0, 10, 1⟩
/-- `STL_TQ_STAT` bits 31:16, RO. SEQ of the next event -/
def STL_TQ_STAT_NEXT_SEQ (i : Nat) : Fld := ⟨.STL_TQ_STAT, i, 0, 16, 16⟩
/-- `STL_TQ_CNT` bits 7:0, RO. Dropped events; holds at 0xFF -/
def STL_TQ_CNT_OVF_CNT (i : Nat) : Fld := ⟨.STL_TQ_CNT, i, 0, 0, 8⟩
/-- `STL_TQ_CNT` bits 14:8, RO. Copy mismatches; holds at 0x7F -/
def STL_TQ_CNT_DUP_CNT (i : Nat) : Fld := ⟨.STL_TQ_CNT, i, 0, 8, 7⟩
/-- `STL_TQ_CNT` bits 15:15, WO. 1 clears all three counters; reads 0 -/
def STL_TQ_CNT_CLR (i : Nat) : Fld := ⟨.STL_TQ_CNT, i, 0, 15, 1⟩
/-- `STL_TQ_CNT` bits 31:16, RO. Entries discarded by flush or reset; holds at 0xFFFF -/
def STL_TQ_CNT_LOST_CNT (i : Nat) : Fld := ⟨.STL_TQ_CNT, i, 0, 16, 16⟩
/-- `STL_TQ_POP` bits 31:0, RO. Word j of the reader's popped entry (R372) -/
def STL_TQ_POP_ENTRY (i j : Nat) : Fld := ⟨.STL_TQ_POP, i, j, 0, 32⟩
/-- `STL_FOUT` bits 15:0, RW. Output levels -/
def STL_FOUT_VALUE : Fld := ⟨.STL_FOUT, 0, 0, 0, 16⟩
/-- `STL_FOUT` bits 31:16, RW. Output enables (R377) -/
def STL_FOUT_OE : Fld := ⟨.STL_FOUT, 0, 0, 16, 16⟩
/-- `STL_FOUT_SAFE` bits 15:0, RW. Safe levels -/
def STL_FOUT_SAFE_VALUE : Fld := ⟨.STL_FOUT_SAFE, 0, 0, 0, 16⟩
/-- `STL_FOUT_SAFE` bits 31:16, RW. Safe enables -/
def STL_FOUT_SAFE_OE : Fld := ⟨.STL_FOUT_SAFE, 0, 0, 16, 16⟩
/-- `STL_AIN_CFG` bits 1:0, RW. Scan of R381 -/
def STL_AIN_CFG_MODE : Fld := ⟨.STL_AIN_CFG, 0, 0, 0, 2⟩
/-- `STL_AIN_CFG` bits 3:2, RW. Bit k: ADC k used by the scan; 0b00 refuses a scan -/
def STL_AIN_CFG_CONV_EN : Fld := ⟨.STL_AIN_CFG, 0, 0, 2, 2⟩
/-- `STL_AIN_CFG` bits 4:4, RW. R384 -/
def STL_AIN_CFG_INTERLEAVE : Fld := ⟨.STL_AIN_CFG, 0, 0, 4, 1⟩
/-- `STL_AIN_CFG` bits 5:5, RW. R387 -/
def STL_AIN_CFG_ALIGN : Fld := ⟨.STL_AIN_CFG, 0, 0, 5, 1⟩
/-- `STL_AIN_CFG` bits 11:8, RW. m of R386, 0 to 8 -/
def STL_AIN_CFG_OVS : Fld := ⟨.STL_AIN_CFG, 0, 0, 8, 4⟩
/-- `STL_AIN_CFG` bits 12:12, RW. PASS_DONE signals vector 41 -/
def STL_AIN_CFG_IRQ_PASS : Fld := ⟨.STL_AIN_CFG, 0, 0, 12, 1⟩
/-- `STL_AIN_MASK` bits 15:0, RW. Bit c: channel c is scanned (R380) -/
def STL_AIN_MASK_MASK : Fld := ⟨.STL_AIN_MASK, 0, 0, 0, 16⟩
/-- `STL_AIN_PACE` bits 23:0, RW. Timer period in 10 ns units; default 200 µs -/
def STL_AIN_PACE_PERIOD : Fld := ⟨.STL_AIN_PACE, 0, 0, 0, 24⟩
/-- `STL_AIN_PACE` bits 25:24, RW. Pace source (R383) -/
def STL_AIN_PACE_SRC : Fld := ⟨.STL_AIN_PACE, 0, 0, 24, 2⟩
/-- `STL_AIN_PACE` bits 30:26, RW. FIN number 0 to 23 for SRC 1; output 0 to 3 for SRC 2; a write with other values for those sources is refused (R392) -/
def STL_AIN_PACE_SEL : Fld := ⟨.STL_AIN_PACE, 0, 0, 26, 5⟩
/-- `STL_AIN_CTRL` bits 0:0, WO. Starts a pass in single scan; a pace event under SRC 3; reads 0 -/
def STL_AIN_CTRL_START : Fld := ⟨.STL_AIN_CTRL, 0, 0, 0, 1⟩
/-- `STL_AIN_CTRL` bits 1:1, WO. Injected request (R389); reads 0 -/
def STL_AIN_CTRL_INJ_GO : Fld := ⟨.STL_AIN_CTRL, 0, 0, 1, 1⟩
/-- `STL_AIN_CTRL` bits 3:2, WO. 0b01 ZERO, 0b10 GAIN (R390); 0b11 is dropped with CFG_REJECT; reads 0 -/
def STL_AIN_CTRL_CAL_CMD : Fld := ⟨.STL_AIN_CTRL, 0, 0, 2, 2⟩
/-- `STL_AIN_CTRL` bits 7:4, WO. Channel to calibrate; reads 0 -/
def STL_AIN_CTRL_CAL_CH : Fld := ⟨.STL_AIN_CTRL, 0, 0, 4, 4⟩
/-- `STL_AIN_INJ` bits 3:0, RW. Injected channel -/
def STL_AIN_INJ_CH : Fld := ⟨.STL_AIN_INJ, 0, 0, 0, 4⟩
/-- `STL_AIN_INJ` bits 4:4, RW. Injected converter -/
def STL_AIN_INJ_CONV : Fld := ⟨.STL_AIN_INJ, 0, 0, 4, 1⟩
/-- `STL_AIN_INJ` bits 5:5, RW. Keep CONV powered when the scan does not use it -/
def STL_AIN_INJ_WARM : Fld := ⟨.STL_AIN_INJ, 0, 0, 5, 1⟩
/-- `STL_AIN_INJ` bits 6:6, RW. Events of input FIN make requests -/
def STL_AIN_INJ_FIN_EN : Fld := ⟨.STL_AIN_INJ, 0, 0, 6, 1⟩
/-- `STL_AIN_INJ` bits 11:7, RW. Field input, 0 to 23 -/
def STL_AIN_INJ_FIN : Fld := ⟨.STL_AIN_INJ, 0, 0, 7, 5⟩
/-- `STL_AIN_STATUS` bits 0:0, RO. A scan or conversion is in progress -/
def STL_AIN_STATUS_BUSY : Fld := ⟨.STL_AIN_STATUS, 0, 0, 0, 1⟩
/-- `STL_AIN_STATUS` bits 1:1, W1C. Results were written (R386) -/
def STL_AIN_STATUS_PASS_DONE : Fld := ⟨.STL_AIN_STATUS, 0, 0, 1, 1⟩
/-- `STL_AIN_STATUS` bits 2:2, W1C. An open wire was seen (R388) -/
def STL_AIN_STATUS_OPEN : Fld := ⟨.STL_AIN_STATUS, 0, 0, 2, 1⟩
/-- `STL_AIN_STATUS` bits 3:3, W1C. R383 -/
def STL_AIN_STATUS_PACE_OVR : Fld := ⟨.STL_AIN_STATUS, 0, 0, 3, 1⟩
/-- `STL_AIN_STATUS` bits 4:4, W1C. R389 -/
def STL_AIN_STATUS_INJ_DROP : Fld := ⟨.STL_AIN_STATUS, 0, 0, 4, 1⟩
/-- `STL_AIN_STATUS` bits 5:5, W1C. R389 -/
def STL_AIN_STATUS_INJ_DONE : Fld := ⟨.STL_AIN_STATUS, 0, 0, 5, 1⟩
/-- `STL_AIN_STATUS` bits 6:6, W1C. R390 -/
def STL_AIN_STATUS_CAL_DONE : Fld := ⟨.STL_AIN_STATUS, 0, 0, 6, 1⟩
/-- `STL_AIN_STATUS` bits 7:7, W1C. R391 -/
def STL_AIN_STATUS_CAL_ERR : Fld := ⟨.STL_AIN_STATUS, 0, 0, 7, 1⟩
/-- `STL_AIN_STATUS` bits 8:8, W1C. A write was dropped or refused (R391, R392) -/
def STL_AIN_STATUS_CFG_REJECT : Fld := ⟨.STL_AIN_STATUS, 0, 0, 8, 1⟩
/-- `STL_AIN_STATUS` bits 9:9, RO. A calibration step is collecting -/
def STL_AIN_STATUS_CAL_BUSY : Fld := ⟨.STL_AIN_STATUS, 0, 0, 9, 1⟩
/-- `STL_AIN_STATUS` bits 20:16, RO. Entries of the current pass, 0 to 16 -/
def STL_AIN_STATUS_SEQ_LEN : Fld := ⟨.STL_AIN_STATUS, 0, 0, 16, 5⟩
/-- `STL_AIN_CNT` bits 15:0, RO. Dropped injected requests; holds at 0xFFFF -/
def STL_AIN_CNT_INJ_DROP_CNT : Fld := ⟨.STL_AIN_CNT, 0, 0, 0, 16⟩
/-- `STL_AIN_CNT` bits 30:16, RO. Overrun pace events; holds at 0x7FFF -/
def STL_AIN_CNT_PACE_OVR_CNT : Fld := ⟨.STL_AIN_CNT, 0, 0, 16, 15⟩
/-- `STL_AIN_CNT` bits 31:31, WO. 1 clears both counters; reads 0 -/
def STL_AIN_CNT_CLR : Fld := ⟨.STL_AIN_CNT, 0, 0, 31, 1⟩
/-- `STL_AIN_OPEN` bits 15:0, W1C. Bit c: channel c showed an open wire (R388) -/
def STL_AIN_OPEN_CH : Fld := ⟨.STL_AIN_OPEN, 0, 0, 0, 16⟩
/-- `STL_AIN_CAL_TGT` bits 15:0, RW. Full-scale code of the GAIN step, unsigned or two's complement by the channel's FMT -/
def STL_AIN_CAL_TGT_TARGET : Fld := ⟨.STL_AIN_CAL_TGT, 0, 0, 0, 16⟩
/-- `STL_AIN_PASS_TIME` bits 63:0, RO. Sample instant of entry 0 in the pass that last wrote results (R386); low word at 0x05_0028 -/
def STL_AIN_PASS_TIME_TIME : Fld := ⟨.STL_AIN_PASS_TIME, 0, 0, 0, 64⟩
/-- `STL_AIN_INJ_RES` bits 15:0, RO. Injected result, right-aligned -/
def STL_AIN_INJ_RES_DATA : Fld := ⟨.STL_AIN_INJ_RES, 0, 0, 0, 16⟩
/-- `STL_AIN_INJ_RES` bits 19:16, RO. Channel converted -/
def STL_AIN_INJ_RES_CH : Fld := ⟨.STL_AIN_INJ_RES, 0, 0, 16, 4⟩
/-- `STL_AIN_INJ_RES` bits 20:20, RO. Converter used -/
def STL_AIN_INJ_RES_CONV : Fld := ⟨.STL_AIN_INJ_RES, 0, 0, 20, 1⟩
/-- `STL_AIN_INJ_RES` bits 21:21, RO. Set when written; cleared by a read -/
def STL_AIN_INJ_RES_NEW : Fld := ⟨.STL_AIN_INJ_RES, 0, 0, 21, 1⟩
/-- `STL_AIN_RES` bits 31:0, RO. Result of entry n (R386, R387); a read clears ENTn.NEW -/
def STL_AIN_RES_DATA (i : Nat) : Fld := ⟨.STL_AIN_RES, i, 0, 0, 32⟩
/-- `STL_AIN_ENT` bits 3:0, RO. Channel of entry n -/
def STL_AIN_ENT_CH (i : Nat) : Fld := ⟨.STL_AIN_ENT, i, 0, 0, 4⟩
/-- `STL_AIN_ENT` bits 4:4, RO. Converter of the entry's last conversion -/
def STL_AIN_ENT_CONV (i : Nat) : Fld := ⟨.STL_AIN_ENT, i, 0, 4, 1⟩
/-- `STL_AIN_ENT` bits 5:5, RO. An unread result is held -/
def STL_AIN_ENT_NEW (i : Nat) : Fld := ⟨.STL_AIN_ENT, i, 0, 5, 1⟩
/-- `STL_AIN_ENT` bits 6:6, W1C. A result was overwritten unread -/
def STL_AIN_ENT_OVW (i : Nat) : Fld := ⟨.STL_AIN_ENT, i, 0, 6, 1⟩
/-- `STL_AIN_CHCFG` bits 0:0, RW. R378 -/
def STL_AIN_CHCFG_FMT (i : Nat) : Fld := ⟨.STL_AIN_CHCFG, i, 0, 0, 1⟩
/-- `STL_AIN_CHCFG` bits 2:1, RW. Current on AINcP (R388); 0b11 reserved, dropped -/
def STL_AIN_CHCFG_OW_P (i : Nat) : Fld := ⟨.STL_AIN_CHCFG, i, 0, 1, 2⟩
/-- `STL_AIN_CHCFG` bits 4:3, RW. Current on AINcN; 0b11 reserved, dropped -/
def STL_AIN_CHCFG_OW_N (i : Nat) : Fld := ⟨.STL_AIN_CHCFG, i, 0, 3, 2⟩
/-- `STL_AIN_CAL` bits 15:0, RW. Offset, int16, in 1/8 code (R385) -/
def STL_AIN_CAL_OFS (i j : Nat) : Fld := ⟨.STL_AIN_CAL, i, j, 0, 16⟩
/-- `STL_AIN_CAL` bits 31:16, RW. Gain; 0x4000 is 1.0 -/
def STL_AIN_CAL_GAIN (i j : Nat) : Fld := ⟨.STL_AIN_CAL, i, j, 16, 16⟩
/-- `STL_AOUT_CFG` bits 1:0, RW. Staged; R395 -/
def STL_AOUT_CFG_SRC (i : Nat) : Fld := ⟨.STL_AOUT_CFG, i, 0, 0, 2⟩
/-- `STL_AOUT_CFG` bits 2:2, RW. Staged; 0: × 1, 10 mA; 1: × 2, 20 mA -/
def STL_AOUT_CFG_GAIN (i : Nat) : Fld := ⟨.STL_AOUT_CFG, i, 0, 2, 1⟩
/-- `STL_AOUT_CFG` bits 3:3, RW. Staged; output switch closed -/
def STL_AOUT_CFG_CONNECT (i : Nat) : Fld := ⟨.STL_AOUT_CFG, i, 0, 3, 1⟩
/-- `STL_AOUT_CFG` bits 4:4, RW. Updates wait for an accumulator wrap -/
def STL_AOUT_CFG_UPD_WRAP (i : Nat) : Fld := ⟨.STL_AOUT_CFG, i, 0, 4, 1⟩
/-- `STL_AOUT_CFG` bits 5:5, RW. Phase events enabled (R398) -/
def STL_AOUT_CFG_TRIG_EN (i : Nat) : Fld := ⟨.STL_AOUT_CFG, i, 0, 5, 1⟩
/-- `STL_AOUT_VALUE` bits 13:0, RW. Staged static code -/
def STL_AOUT_VALUE_CODE (i : Nat) : Fld := ⟨.STL_AOUT_VALUE, i, 0, 0, 14⟩
/-- `STL_AOUT_FTW` bits 47:0, RW. Staged frequency word (R396) -/
def STL_AOUT_FTW_FTW (i : Nat) : Fld := ⟨.STL_AOUT_FTW, i, 0, 0, 48⟩
/-- `STL_AOUT_SHAPE` bits 12:0, RW. Staged amplitude -/
def STL_AOUT_SHAPE_AMP (i : Nat) : Fld := ⟨.STL_AOUT_SHAPE, i, 0, 0, 13⟩
/-- `STL_AOUT_SHAPE` bits 29:16, RW. Staged offset code -/
def STL_AOUT_SHAPE_OFFSET (i : Nat) : Fld := ⟨.STL_AOUT_SHAPE, i, 0, 16, 14⟩
/-- `STL_AOUT_PHASE` bits 15:0, RW. Staged phase offset -/
def STL_AOUT_PHASE_POFS (i : Nat) : Fld := ⟨.STL_AOUT_PHASE, i, 0, 0, 16⟩
/-- `STL_AOUT_PHASE` bits 31:16, RW. Phase event point (R398) -/
def STL_AOUT_PHASE_TRIG (i : Nat) : Fld := ⟨.STL_AOUT_PHASE, i, 0, 16, 16⟩
/-- `STL_AOUT_SAFE` bits 13:0, RW. Safe code (R399) -/
def STL_AOUT_SAFE_CODE (i : Nat) : Fld := ⟨.STL_AOUT_SAFE, i, 0, 0, 14⟩
/-- `STL_AOUT_SAFE` bits 14:14, RW. Safe reference gain -/
def STL_AOUT_SAFE_GAIN (i : Nat) : Fld := ⟨.STL_AOUT_SAFE, i, 0, 14, 1⟩
/-- `STL_AOUT_SAFE` bits 15:15, RW. Output connected in the safe state -/
def STL_AOUT_SAFE_CONNECT (i : Nat) : Fld := ⟨.STL_AOUT_SAFE, i, 0, 15, 1⟩
/-- `STL_AOUT_STATUS` bits 0:0, RO. R399 -/
def STL_AOUT_STATUS_IN_SAFE (i : Nat) : Fld := ⟨.STL_AOUT_STATUS, i, 0, 0, 1⟩
/-- `STL_AOUT_STATUS` bits 3:1, RO. Cause of R399; 0 none; 7 reserved -/
def STL_AOUT_STATUS_CAUSE (i : Nat) : Fld := ⟨.STL_AOUT_STATUS, i, 0, 1, 3⟩
/-- `STL_AOUT_STATUS` bits 4:4, W1C. R400 -/
def STL_AOUT_STATUS_COMPLIANCE (i : Nat) : Fld := ⟨.STL_AOUT_STATUS, i, 0, 4, 1⟩
/-- `STL_AOUT_STATUS` bits 5:5, RO. R397 -/
def STL_AOUT_STATUS_UPD_PENDING (i : Nat) : Fld := ⟨.STL_AOUT_STATUS, i, 0, 5, 1⟩
/-- `STL_AOUT_STATUS` bits 6:6, W1C. R399 -/
def STL_AOUT_STATUS_RELEASE_REJECT (i : Nat) : Fld := ⟨.STL_AOUT_STATUS, i, 0, 6, 1⟩
/-- `STL_AOUT_STATUS` bits 7:7, W1C. A reserved SRC was written (R395) -/
def STL_AOUT_STATUS_CFG_REJECT (i : Nat) : Fld := ⟨.STL_AOUT_STATUS, i, 0, 7, 1⟩
/-- `STL_AOUT_CTRL` bits 3:0, WO. Bit k: apply output k's shadow fields (R397); reads 0 -/
def STL_AOUT_CTRL_UPDATE : Fld := ⟨.STL_AOUT_CTRL, 0, 0, 0, 4⟩
/-- `STL_AOUT_CTRL` bits 7:4, WO. Bit k: zero output k's accumulator; reads 0 -/
def STL_AOUT_CTRL_SYNC : Fld := ⟨.STL_AOUT_CTRL, 0, 0, 4, 4⟩
/-- `STL_AOUT_CTRL` bits 11:8, WO. Bit k: cause 6 (R399); reads 0 -/
def STL_AOUT_CTRL_FORCE_SAFE : Fld := ⟨.STL_AOUT_CTRL, 0, 0, 8, 4⟩
/-- `STL_AOUT_CTRL` bits 15:12, WO. Bit k: leave the safe state; reads 0 -/
def STL_AOUT_CTRL_RELEASE : Fld := ⟨.STL_AOUT_CTRL, 0, 0, 12, 4⟩
/-- `THM_CFG` bits 7:0, RW. Compute-die throttle point, °C; values above 110 act as 110 -/
def THM_CFG_THR : Fld := ⟨.THM_CFG, 0, 0, 0, 8⟩
/-- `THM_CFG` bits 15:8, RW. Compute-die trip, °C, 90 to 115; values outside act as the nearer end -/
def THM_CFG_TRIP : Fld := ⟨.THM_CFG, 0, 0, 8, 8⟩
/-- `THM_CFG` bits 23:16, RW. Stack throttle point, °C -/
def THM_CFG_STK_THR : Fld := ⟨.THM_CFG, 0, 0, 16, 8⟩
/-- `THM_CFG` bits 31:24, RW. Stack trip, °C; values above 105 act as 105 -/
def THM_CFG_STK_TRIP : Fld := ⟨.THM_CFG, 0, 0, 24, 8⟩
/-- `THM_RATE` bits 6:0, RW. Rate limit in 1/8 °C/ms, 4 to 64; values outside act as the nearer end -/
def THM_RATE_RATE_LIM : Fld := ⟨.THM_RATE, 0, 0, 0, 7⟩
/-- `THM_RATE` bits 14:8, RW. Restart gate, °C; values above 85 act as 85 -/
def THM_RATE_RESTART : Fld := ⟨.THM_RATE, 0, 0, 8, 7⟩
/-- `THM_PWR` bits 9:0, RW. Watts; values above 300 act as 300 -/
def THM_PWR_PWR_LIM : Fld := ⟨.THM_PWR, 0, 0, 0, 10⟩
/-- `THM_PWR` bits 25:16, RW. Watts, above PWR_LIM; values above 360 act as 360 -/
def THM_PWR_PEAK_LIM : Fld := ⟨.THM_PWR, 0, 0, 16, 10⟩
/-- `THM_POWER` bits 9:0, RO. 1 ms average package power, W (R406) -/
def THM_POWER_P : Fld := ⟨.THM_POWER, 0, 0, 0, 10⟩
/-- `THM_POWER` bits 24:16, RO. β_pwr -/
def THM_POWER_BETA_PWR : Fld := ⟨.THM_POWER, 0, 0, 16, 9⟩
/-- `THM_CTRL` bits 0:0, WO. 1 trips the device with cause 4 (R407); reads 0 -/
def THM_CTRL_FORCE_TRIP : Fld := ⟨.THM_CTRL, 0, 0, 0, 1⟩
/-- `THM_STATUS` bits 0:0, W1C. A shutdown record was reported (R411) -/
def THM_STATUS_TRIP_SEEN : Fld := ⟨.THM_STATUS, 0, 0, 0, 1⟩
/-- `THM_STATUS` bits 1:1, W1C. The reported record failed its CRC -/
def THM_STATUS_JOURNAL_BAD : Fld := ⟨.THM_STATUS, 0, 0, 1, 1⟩
/-- `THM_STATUS` bits 2:2, W1C. The record was kept only in retention memory (R409) -/
def THM_STATUS_JOURNAL_FULL : Fld := ⟨.THM_STATUS, 0, 0, 2, 1⟩
/-- `THM_STATUS` bits 3:3, W1C. A sensor became broken (R403) -/
def THM_STATUS_BROKEN_SET : Fld := ⟨.THM_STATUS, 0, 0, 3, 1⟩
/-- `THM_STATUS` bits 4:4, RO. Some channel's β_thm is below 256 -/
def THM_STATUS_THROTTLE : Fld := ⟨.THM_STATUS, 0, 0, 4, 1⟩
/-- `THM_STATUS` bits 5:5, RO. Some channel's rate exceeds RATE_LIM -/
def THM_STATUS_RATE_EXCESS : Fld := ⟨.THM_STATUS, 0, 0, 5, 1⟩
/-- `THM_STATUS` bits 15:8, RO. Sensors now broken -/
def THM_STATUS_BROKEN_NOW : Fld := ⟨.THM_STATUS, 0, 0, 8, 8⟩
/-- `THM_SENS` bits 11:0, RO. Reading, two's complement, 1/8 °C; 125 °C while broken (R403) -/
def THM_SENS_TEMP (i : Nat) : Fld := ⟨.THM_SENS, i, 0, 0, 12⟩
/-- `THM_SENS` bits 12:12, RO. Broken, or not yet reported -/
def THM_SENS_BROKEN (i : Nat) : Fld := ⟨.THM_SENS, i, 0, 12, 1⟩
/-- `THM_SENS` bits 14:13, RO. 0 none, 1 out of range, 2 frozen, 3 no response -/
def THM_SENS_WHY (i : Nat) : Fld := ⟨.THM_SENS, i, 0, 13, 2⟩
/-- `THM_SENS` bits 31:16, RO. Rate, two's complement, 1/8 °C/ms -/
def THM_SENS_RATE (i : Nat) : Fld := ⟨.THM_SENS, i, 0, 16, 16⟩
/-- `THM_TRIP_REC` bits 31:0, RO. Word i of the last reported shutdown record (R409, R411) -/
def THM_TRIP_REC_RECORD (i : Nat) : Fld := ⟨.THM_TRIP_REC, i, 0, 0, 32⟩
/-- `PWR_CTRL` bits 2:0, WO. Target state of R413; reads 0 -/
def PWR_CTRL_TARGET : Fld := ⟨.PWR_CTRL, 0, 0, 0, 3⟩
/-- `PWR_CTRL` bits 3:3, WO. 1 requests entry into TARGET (R418); reads 0 -/
def PWR_CTRL_REQ : Fld := ⟨.PWR_CTRL, 0, 0, 3, 1⟩
/-- `PWR_CTRL` bits 4:4, WO. Wake source 1 (R426); reads 0 -/
def PWR_CTRL_WAKE : Fld := ⟨.PWR_CTRL, 0, 0, 4, 1⟩
/-- `PWR_CTRL` bits 5:5, WO. 1 clears PWR_REFUSE and PWR_ENTRY_CNT; reads 0 -/
def PWR_CTRL_CLR_CNT : Fld := ⟨.PWR_CTRL, 0, 0, 5, 1⟩
/-- `PWR_STATUS` bits 2:0, RO. R413 -/
def PWR_STATUS_STATE : Fld := ⟨.PWR_STATUS, 0, 0, 0, 3⟩
/-- `PWR_STATUS` bits 3:3, RO. An entry is in progress -/
def PWR_STATUS_ENTERING : Fld := ⟨.PWR_STATUS, 0, 0, 3, 1⟩
/-- `PWR_STATUS` bits 7:4, RO. Stage being asked (R419) -/
def PWR_STATUS_STAGE : Fld := ⟨.PWR_STATUS, 0, 0, 4, 4⟩
/-- `PWR_STATUS` bits 8:8, W1C. A request or quarter write was dropped (R418, R430) -/
def PWR_STATUS_REQ_REJECT : Fld := ⟨.PWR_STATUS, 0, 0, 8, 1⟩
/-- `PWR_STATUS` bits 9:9, W1C. R423 -/
def PWR_STATUS_WAKE_DURING_ENTRY : Fld := ⟨.PWR_STATUS, 0, 0, 9, 1⟩
/-- `PWR_STATUS` bits 15:12, RO. Bit number of the latest wake source, plus 1; 0 if none -/
def PWR_STATUS_LAST_WAKE_SRC : Fld := ⟨.PWR_STATUS, 0, 0, 12, 4⟩
/-- `PWR_CFG` bits 7:0, RW. Delay limit in ms (R420); 0 acts as 1 -/
def PWR_CFG_DELAY_LIMIT : Fld := ⟨.PWR_CFG, 0, 0, 0, 8⟩
/-- `PWR_CFG` bits 8:8, RW. Stile does not refuse for field activity (R419) -/
def PWR_CFG_FIELD_OFF_OK : Fld := ⟨.PWR_CFG, 0, 0, 8, 1⟩
/-- `PWR_CFG` bits 9:9, RW. Refusals and aborts signal vector 31 -/
def PWR_CFG_IRQ_REFUSE : Fld := ⟨.PWR_CFG, 0, 0, 9, 1⟩
/-- `PWR_WAKE_EN` bits 3:0, RW. Bit b enables wake source b (R426) -/
def PWR_WAKE_EN_EN : Fld := ⟨.PWR_WAKE_EN, 0, 0, 0, 4⟩
/-- `PWR_WAKE_FIN` bits 23:0, RW. Bit i: events of FINi wake the device -/
def PWR_WAKE_FIN_MASK : Fld := ⟨.PWR_WAKE_FIN, 0, 0, 0, 24⟩
/-- `PWR_WAKE_TIMER` bits 31:0, RW. Timer wake interval in µs; 0 disables source 2 -/
def PWR_WAKE_TIMER_US : Fld := ⟨.PWR_WAKE_TIMER, 0, 0, 0, 32⟩
/-- `PWR_REFUSE` bits 15:0, RO. Refused entries (R422); holds at 0xFFFF -/
def PWR_REFUSE_REFUSED_CNT : Fld := ⟨.PWR_REFUSE, 0, 0, 0, 16⟩
/-- `PWR_REFUSE` bits 31:16, RO. Entries aborted by a wake (R423); holds at 0xFFFF -/
def PWR_REFUSE_ABORTED_CNT : Fld := ⟨.PWR_REFUSE, 0, 0, 16, 16⟩
/-- `PWR_LAST_REFUSE` bits 7:0, RO. Refuser code (R425) -/
def PWR_LAST_REFUSE_BLOCK : Fld := ⟨.PWR_LAST_REFUSE, 0, 0, 0, 8⟩
/-- `PWR_LAST_REFUSE` bits 11:8, RO. Stage reached -/
def PWR_LAST_REFUSE_STAGE : Fld := ⟨.PWR_LAST_REFUSE, 0, 0, 8, 4⟩
/-- `PWR_LAST_REFUSE` bits 14:12, RO. Target of that entry -/
def PWR_LAST_REFUSE_TARGET : Fld := ⟨.PWR_LAST_REFUSE, 0, 0, 12, 3⟩
/-- `PWR_LAST_REFUSE` bits 15:15, RO. R420 -/
def PWR_LAST_REFUSE_DELAY_EXPIRED : Fld := ⟨.PWR_LAST_REFUSE, 0, 0, 15, 1⟩
/-- `PWR_LAST_REFUSE` bits 31:31, RO. 1 once a refusal or abort has been recorded -/
def PWR_LAST_REFUSE_VALID : Fld := ⟨.PWR_LAST_REFUSE, 0, 0, 31, 1⟩
/-- `PWR_ENTRY_CNT` bits 15:0, RO. Entries that passed their final abort point; holds at 0xFFFF -/
def PWR_ENTRY_CNT_ENTERED_CNT : Fld := ⟨.PWR_ENTRY_CNT, 0, 0, 0, 16⟩
/-- `PWR_QUARTER_OFF` bits 15:0, RW. Bit q: fabric quarter q is switched off (R430) -/
def PWR_QUARTER_OFF_OFF : Fld := ⟨.PWR_QUARTER_OFF, 0, 0, 0, 16⟩
/-- `PWR_DOMAIN` bits 15:0, RO. Bit q: quarter q is powered -/
def PWR_DOMAIN_QUARTER : Fld := ⟨.PWR_DOMAIN, 0, 0, 0, 16⟩
/-- `PWR_DOMAIN` bits 19:16, RO. Bit n: channel core n is powered -/
def PWR_DOMAIN_CORE : Fld := ⟨.PWR_DOMAIN, 0, 0, 16, 4⟩
/-- `PWR_DOMAIN` bits 23:20, RO. Bit n: stack interface n is powered -/
def PWR_DOMAIN_STACK : Fld := ⟨.PWR_DOMAIN, 0, 0, 20, 4⟩
/-- `PWR_DOMAIN` bits 24:24, RO. PCIe domain powered -/
def PWR_DOMAIN_PCIE : Fld := ⟨.PWR_DOMAIN, 0, 0, 24, 1⟩
/-- `PWR_DOMAIN` bits 25:25, RO. Lea domain powered -/
def PWR_DOMAIN_LEA : Fld := ⟨.PWR_DOMAIN, 0, 0, 25, 1⟩
/-- `PWR_DOMAIN` bits 26:26, RO. Spine powered -/
def PWR_DOMAIN_SPINE : Fld := ⟨.PWR_DOMAIN, 0, 0, 26, 1⟩
/-- `PWR_DOMAIN` bits 27:27, RO. Stile analogue domain powered -/
def PWR_DOMAIN_STILE : Fld := ⟨.PWR_DOMAIN, 0, 0, 27, 1⟩
/-- `GLB_FALLOW_REASON` bits 3:0, RO. Fallow reason of R450 -/
def GLB_FALLOW_REASON_REASON : Fld := ⟨.GLB_FALLOW_REASON, 0, 0, 0, 4⟩
/-- `GLB_FALLOW_REASON` bits 7:4, RO. Stage reached by the latest failed start (R439, R448) -/
def GLB_FALLOW_REASON_LAST_STAGE : Fld := ⟨.GLB_FALLOW_REASON, 0, 0, 4, 4⟩
/-- `GLB_FALLOW_REASON` bits 11:8, RO. C of R447; holds at 15 -/
def GLB_FALLOW_REASON_ATTEMPTS : Fld := ⟨.GLB_FALLOW_REASON, 0, 0, 8, 4⟩
/-- `GLB_FALLOW_REASON` bits 12:12, RO. Slot last tried: 0 A, 1 B -/
def GLB_FALLOW_REASON_SLOT : Fld := ⟨.GLB_FALLOW_REASON, 0, 0, 12, 1⟩
/-- `GLB_FALLOW_REASON` bits 13:13, RO. 1 in Fallow mode -/
def GLB_FALLOW_REASON_FALLOW : Fld := ⟨.GLB_FALLOW_REASON, 0, 0, 13, 1⟩
/-- `GLB_LEVEL` bits 1:0, RO. R453 -/
def GLB_LEVEL_LEVEL : Fld := ⟨.GLB_LEVEL, 0, 0, 0, 2⟩
/-- `GLB_LEVEL` bits 8:8, RO. Reduced condition of R453 -/
def GLB_LEVEL_TSK : Fld := ⟨.GLB_LEVEL, 0, 0, 8, 1⟩
/-- `GLB_LEVEL` bits 9:9, RO. Reduced condition -/
def GLB_LEVEL_IN_PLACE : Fld := ⟨.GLB_LEVEL, 0, 0, 9, 1⟩
/-- `GLB_LEVEL` bits 10:10, RO. Reduced condition -/
def GLB_LEVEL_CHANNEL : Fld := ⟨.GLB_LEVEL, 0, 0, 10, 1⟩
/-- `GLB_LEVEL` bits 11:11, RO. Reduced condition -/
def GLB_LEVEL_QUARTER : Fld := ⟨.GLB_LEVEL, 0, 0, 11, 1⟩
/-- `GLB_LEVEL` bits 12:12, RO. Reduced condition -/
def GLB_LEVEL_LEA : Fld := ⟨.GLB_LEVEL, 0, 0, 12, 1⟩
/-- `GLB_LEVEL` bits 13:13, RO. Reduced condition -/
def GLB_LEVEL_PKG : Fld := ⟨.GLB_LEVEL, 0, 0, 13, 1⟩
/-- `GLB_CHN_CTRL` bits 3:0, RW. Bit n drains channel n (R455) -/
def GLB_CHN_CTRL_DRAIN : Fld := ⟨.GLB_CHN_CTRL, 0, 0, 0, 4⟩
/-- `GLB_CHN_CTRL` bits 7:4, WO. Bit n reinitialises channel n (R456); reads 0 -/
def GLB_CHN_CTRL_REINIT : Fld := ⟨.GLB_CHN_CTRL, 0, 0, 4, 4⟩
/-- `GLB_CHN_STATUS` bits 3:0, RO. R455 -/
def GLB_CHN_STATUS_DRAINED : Fld := ⟨.GLB_CHN_STATUS, 0, 0, 0, 4⟩
/-- `GLB_CHN_STATUS` bits 7:4, RO. R457 -/
def GLB_CHN_STATUS_OFFLINE : Fld := ⟨.GLB_CHN_STATUS, 0, 0, 4, 4⟩
/-- `GLB_CHN_STATUS` bits 11:8, RO. A REINIT is in progress -/
def GLB_CHN_STATUS_REINIT_BUSY : Fld := ⟨.GLB_CHN_STATUS, 0, 0, 8, 4⟩
/-- `GLB_CHN_STATUS` bits 15:12, W1C. Stack n failed (R456, R457) -/
def GLB_CHN_STATUS_STACK_FAIL : Fld := ⟨.GLB_CHN_STATUS, 0, 0, 12, 4⟩
/-- `BOOT_STATUS` bits 0:0, RO. Firmware reported ready (R433) -/
def BOOT_STATUS_READY : Fld := ⟨.BOOT_STATUS, 0, 0, 0, 1⟩
/-- `BOOT_STATUS` bits 1:1, RO. Running slot: 0 A, 1 B -/
def BOOT_STATUS_SLOT : Fld := ⟨.BOOT_STATUS, 0, 0, 1, 1⟩
/-- `BOOT_STATUS` bits 2:2, RO. Record bank in use (R437) -/
def BOOT_STATUS_BANK : Fld := ⟨.BOOT_STATUS, 0, 0, 2, 1⟩
/-- `BOOT_STATUS` bits 3:3, RO. R459 -/
def BOOT_STATUS_SWITCH_BUSY : Fld := ⟨.BOOT_STATUS, 0, 0, 3, 1⟩
/-- `BOOT_STATUS` bits 4:4, W1C. R459 -/
def BOOT_STATUS_SWITCH_DONE : Fld := ⟨.BOOT_STATUS, 0, 0, 4, 1⟩
/-- `BOOT_STATUS` bits 5:5, W1C. R459 -/
def BOOT_STATUS_SWITCH_FAIL : Fld := ⟨.BOOT_STATUS, 0, 0, 5, 1⟩
/-- `BOOT_STATUS` bits 11:8, RO. 0 power-on, 1 RST_N, 2 watchdog, 3 REBOOT, 4 firmware request, 5 switch-over failure, 6 WAKE_N; others reserved -/
def BOOT_STATUS_RESET_CAUSE : Fld := ⟨.BOOT_STATUS, 0, 0, 8, 4⟩
/-- `BOOT_STATUS` bits 15:12, RO. Stage of R433 in progress -/
def BOOT_STATUS_STAGE : Fld := ⟨.BOOT_STATUS, 0, 0, 12, 4⟩
/-- `BOOT_STATUS` bits 23:16, RO. Optional records skipped (R439); holds at 0xFF -/
def BOOT_STATUS_SKIPPED : Fld := ⟨.BOOT_STATUS, 0, 0, 16, 8⟩
/-- `BOOT_CTRL` bits 0:0, WO. 1 starts a switch-over (R459); reads 0 -/
def BOOT_CTRL_SWITCH : Fld := ⟨.BOOT_CTRL, 0, 0, 0, 1⟩
/-- `BOOT_CTRL` bits 1:1, WO. 1 restarts in Fallow mode with reason HOST (R450); reads 0 -/
def BOOT_CTRL_FALLOW : Fld := ⟨.BOOT_CTRL, 0, 0, 1, 1⟩
/-- `BOOT_SP_STATUS` bits 8:0, RO. Bindings in force, 0 to 256 -/
def BOOT_SP_STATUS_BINDINGS : Fld := ⟨.BOOT_SP_STATUS, 0, 0, 0, 9⟩
/-- `BOOT_SP_STATUS` bits 9:9, RO. Bindings paused by a switch-over -/
def BOOT_SP_STATUS_PAUSED : Fld := ⟨.BOOT_SP_STATUS, 0, 0, 9, 1⟩
/-- `BOOT_SP_STATUS` bits 15:15, WO. 1 clears DROP_CNT; reads 0 -/
def BOOT_SP_STATUS_CLR : Fld := ⟨.BOOT_SP_STATUS, 0, 0, 15, 1⟩
/-- `BOOT_SP_STATUS` bits 31:16, RO. Events dropped (R444); holds at 0xFFFF -/
def BOOT_SP_STATUS_DROP_CNT : Fld := ⟨.BOOT_SP_STATUS, 0, 0, 16, 16⟩
/-- `BOOT_MBOX_CMD` bits 7:0, WO. Command of R460; reads 0 -/
def BOOT_MBOX_CMD_CMD : Fld := ⟨.BOOT_MBOX_CMD, 0, 0, 0, 8⟩
/-- `BOOT_MBOX_ARG` bits 31:0, RW. Flash byte address -/
def BOOT_MBOX_ARG_ADDR : Fld := ⟨.BOOT_MBOX_ARG, 0, 0, 0, 32⟩
/-- `BOOT_MBOX_ARG` bits 32:32, RW. Slot, bank or CLEAR, by command -/
def BOOT_MBOX_ARG_FLAG : Fld := ⟨.BOOT_MBOX_ARG, 0, 0, 32, 1⟩
/-- `BOOT_MBOX_STATUS` bits 0:0, RO. A command is running -/
def BOOT_MBOX_STATUS_BUSY : Fld := ⟨.BOOT_MBOX_STATUS, 0, 0, 0, 1⟩
/-- `BOOT_MBOX_STATUS` bits 1:1, W1C. A command completed -/
def BOOT_MBOX_STATUS_DONE : Fld := ⟨.BOOT_MBOX_STATUS, 0, 0, 1, 1⟩
/-- `BOOT_MBOX_STATUS` bits 2:2, W1C. A command was dropped while BUSY -/
def BOOT_MBOX_STATUS_REJECT : Fld := ⟨.BOOT_MBOX_STATUS, 0, 0, 2, 1⟩
/-- `BOOT_MBOX_STATUS` bits 6:4, RO. 0 success, 1 refused, 2 flash error, 3 verification failed, 4 reserved command -/
def BOOT_MBOX_STATUS_RESULT : Fld := ⟨.BOOT_MBOX_STATUS, 0, 0, 4, 3⟩
/-- `BOOT_MBOX_BUF` bits 31:0, RW. Mailbox buffer word i -/
def BOOT_MBOX_BUF_DATA (i : Nat) : Fld := ⟨.BOOT_MBOX_BUF, i, 0, 0, 32⟩
/-- `SEC_MBOX_CMD` bits 7:0, WO. Command of R473; reads 0 -/
def SEC_MBOX_CMD_CMD : Fld := ⟨.SEC_MBOX_CMD, 0, 0, 0, 8⟩
/-- `SEC_MBOX_ARG` bits 1:0, RW. Certificate for GET_CERT; 0b11 is reserved and gives RESULT 1 -/
def SEC_MBOX_ARG_INDEX : Fld := ⟨.SEC_MBOX_ARG, 0, 0, 0, 2⟩
/-- `SEC_MBOX_STATUS` bits 0:0, RO. A command is running -/
def SEC_MBOX_STATUS_BUSY : Fld := ⟨.SEC_MBOX_STATUS, 0, 0, 0, 1⟩
/-- `SEC_MBOX_STATUS` bits 1:1, W1C. A command completed -/
def SEC_MBOX_STATUS_DONE : Fld := ⟨.SEC_MBOX_STATUS, 0, 0, 1, 1⟩
/-- `SEC_MBOX_STATUS` bits 2:2, W1C. A command was dropped (R473) -/
def SEC_MBOX_STATUS_REJECT : Fld := ⟨.SEC_MBOX_STATUS, 0, 0, 2, 1⟩
/-- `SEC_MBOX_STATUS` bits 6:4, RO. 0 success, 1 refused, 2 no identity, 3 reserved command; 4 to 7 reserved -/
def SEC_MBOX_STATUS_RESULT : Fld := ⟨.SEC_MBOX_STATUS, 0, 0, 4, 3⟩
/-- `SEC_STATUS` bits 0:0, RO. Identity recovered (R467) -/
def SEC_STATUS_ID_READY : Fld := ⟨.SEC_STATUS, 0, 0, 0, 1⟩
/-- `SEC_STATUS` bits 1:1, RO. A test-pattern certificate is held (R465) -/
def SEC_STATUS_TP_KEY : Fld := ⟨.SEC_STATUS, 0, 0, 1, 1⟩
/-- `SEC_STATUS` bits 9:2, RO. Bit s: publisher key slot s is filled -/
def SEC_STATUS_KEY_SLOTS : Fld := ⟨.SEC_STATUS, 0, 0, 2, 8⟩
/-- `SEC_STATUS` bits 10:10, W1C. A package or test-pattern signature failed -/
def SEC_STATUS_VERIFY_FAIL : Fld := ⟨.SEC_STATUS, 0, 0, 10, 1⟩
/-- `SEC_VERIFY_CNT` bits 15:0, RO. Signatures verified since the start; holds at 0xFFFF -/
def SEC_VERIFY_CNT_PASS_CNT : Fld := ⟨.SEC_VERIFY_CNT, 0, 0, 0, 16⟩
/-- `SEC_VERIFY_CNT` bits 31:16, RO. Signatures that failed; holds at 0xFFFF -/
def SEC_VERIFY_CNT_FAIL_CNT : Fld := ⟨.SEC_VERIFY_CNT, 0, 0, 16, 16⟩
/-- `SEC_CTRL` bits 0:0, WO. 1 clears SEC_VERIFY_CNT; reads 0 -/
def SEC_CTRL_CLR_CNT : Fld := ⟨.SEC_CTRL, 0, 0, 0, 1⟩
/-- `SEC_MBOX_BUF` bits 31:0, RW. Mailbox buffer word i -/
def SEC_MBOX_BUF_DATA (i : Nat) : Fld := ⟨.SEC_MBOX_BUF, i, 0, 0, 32⟩
/-- `GLB_ID` bits 15:0, RO. Part number -/
def GLB_ID_PART : Fld := ⟨.GLB_ID, 0, 0, 0, 16⟩
/-- `GLB_ID` bits 23:16, RO. Stepping (R4) -/
def GLB_ID_STEPPING : Fld := ⟨.GLB_ID, 0, 0, 16, 8⟩
/-- `GLB_ID` bits 31:24, RO. Thermal design power in units of 10 W: 300 W -/
def GLB_ID_TDP : Fld := ⟨.GLB_ID, 0, 0, 24, 8⟩
/-- `GLB_CAPS` bits 3:0, RO. Channels built; offline channels are reported in GLB_CHN_STATUS -/
def GLB_CAPS_CHANNELS : Fld := ⟨.GLB_CAPS, 0, 0, 0, 4⟩
/-- `GLB_CAPS` bits 11:4, RO. Tussocks per channel -/
def GLB_CAPS_TSK_PER_CHN : Fld := ⟨.GLB_CAPS, 0, 0, 4, 8⟩
/-- `GLB_CAPS` bits 18:12, RO. Model contexts -/
def GLB_CAPS_CONTEXTS : Fld := ⟨.GLB_CAPS, 0, 0, 12, 7⟩
/-- `GLB_CAPS` bits 21:19, RO. Lea ports -/
def GLB_CAPS_LEA_PORTS : Fld := ⟨.GLB_CAPS, 0, 0, 19, 3⟩
/-- `GLB_CAPS` bits 22:22, RO. K1 front end present (R249) -/
def GLB_CAPS_K1 : Fld := ⟨.GLB_CAPS, 0, 0, 22, 1⟩
/-- `GLB_TIME` bits 63:0, RO. Device time in ns (R7); low word at 0x00_0010, read under R483 -/
def GLB_TIME_TIME : Fld := ⟨.GLB_TIME, 0, 0, 0, 64⟩
/-- `GLB_ERR_STATUS` bits 0:0, W1C. The Stile copy of device time differed (R14) -/
def GLB_ERR_STATUS_STILE_TIME : Fld := ⟨.GLB_ERR_STATUS, 0, 0, 0, 1⟩
/-- `GLB_ERR_STATUS` bits 1:1, W1C. The Stile data port was lost for more than 1 µs -/
def GLB_ERR_STATUS_STILE_LINK : Fld := ⟨.GLB_ERR_STATUS, 0, 0, 1, 1⟩
/-- `GLB_ERR_STATUS` bits 2:2, W1C. R478 -/
def GLB_ERR_STATUS_BAR0_ACCESS : Fld := ⟨.GLB_ERR_STATUS, 0, 0, 2, 1⟩
/-- `GLB_ERR_STATUS` bits 3:3, W1C. R483 -/
def GLB_ERR_STATUS_READ_ORDER : Fld := ⟨.GLB_ERR_STATUS, 0, 0, 3, 1⟩
/-- `GLB_ERR_STATUS` bits 4:4, W1C. A channel went offline (R457) -/
def GLB_ERR_STATUS_CHANNEL_OFFLINE : Fld := ⟨.GLB_ERR_STATUS, 0, 0, 4, 1⟩
/-- `GLB_ERR_MASK` bits 4:0, RW. Bit b: setting bit b of GLB_ERR_STATUS signals vector 45 -/
def GLB_ERR_MASK_EN : Fld := ⟨.GLB_ERR_MASK, 0, 0, 0, 5⟩
/-- `GLB_IRQ_EVENT_LO` bits 31:0, W1C. Bit v: vector v has had an event since the bit was cleared (R485) -/
def GLB_IRQ_EVENT_LO_EVENT : Fld := ⟨.GLB_IRQ_EVENT_LO, 0, 0, 0, 32⟩
/-- `GLB_IRQ_EVENT_HI` bits 14:0, W1C. Bit v − 32: vector v, for v = 32 to 46 -/
def GLB_IRQ_EVENT_HI_EVENT : Fld := ⟨.GLB_IRQ_EVENT_HI, 0, 0, 0, 15⟩
/-- `PCI_LINK` bits 2:0, RO. 0 down; 3 8.0 GT/s; 4 16.0 GT/s; 5 32.0 GT/s; 6 64.0 GT/s; 1, 2 and 7 reserved -/
def PCI_LINK_SPEED : Fld := ⟨.PCI_LINK, 0, 0, 0, 3⟩
/-- `PCI_LINK` bits 8:4, RO. Negotiated lanes: 1, 2, 4, 8 or 16 -/
def PCI_LINK_WIDTH : Fld := ⟨.PCI_LINK, 0, 0, 4, 5⟩
/-- `PCI_LINK` bits 9:9, RO. 1: FLIT mode -/
def PCI_LINK_FLIT : Fld := ⟨.PCI_LINK, 0, 0, 9, 1⟩
/-- `STL_PIN_FIN` bits 1:0, RW. 0b00 none; 0b01 47 kΩ up to VDDIO_FLD; 0b10 47 kΩ down; 0b11 reserved -/
def STL_PIN_FIN_PULL (i : Nat) : Fld := ⟨.STL_PIN_FIN, i, 0, 0, 2⟩
/-- `STL_PIN_ENC` bits 1:0, RW. Pull of ENCeA, coded as PULL -/
def STL_PIN_ENC_PULL_A (i : Nat) : Fld := ⟨.STL_PIN_ENC, i, 0, 0, 2⟩
/-- `STL_PIN_ENC` bits 3:2, RW. Pull of ENCeB, coded as PULL -/
def STL_PIN_ENC_PULL_B (i : Nat) : Fld := ⟨.STL_PIN_ENC, i, 0, 2, 2⟩
/-- `STL_PIN_OUT` bits 1:0, RW. 0b00 4 mA; 0b01 8 mA; 0b10 12 mA; 0b11 reserved -/
def STL_PIN_OUT_DRIVE (i : Nat) : Fld := ⟨.STL_PIN_OUT, i, 0, 0, 2⟩
/-- `STL_PIN_OUT` bits 2:2, RW. 1: 10 ns edges; 0: 2 ns edges -/
def STL_PIN_OUT_SLOW (i : Nat) : Fld := ⟨.STL_PIN_OUT, i, 0, 2, 1⟩
/-- `STL_PIN_OUT` bits 3:3, RW. 1: drives low only, and high impedance for a high level -/
def STL_PIN_OUT_OD (i : Nat) : Fld := ⟨.STL_PIN_OUT, i, 0, 3, 1⟩
/-- `STL_PIN_STATUS` bits 0:0, W1C. A reserved encoding was written -/
def STL_PIN_STATUS_CFG_REJECT : Fld := ⟨.STL_PIN_STATUS, 0, 0, 0, 1⟩
/-- `STL_PIN_STATUS` bits 1:1, RO. VDDIO_FLD is below 2.9 V -/
def STL_PIN_STATUS_FLD_LOW : Fld := ⟨.STL_PIN_STATUS, 0, 0, 1, 1⟩

end F

/-- Where registers stand: `base + i × si + j × sj`, in `words` 32-bit words. -/
structure Lay where
  r : RegName
  base : Nat
  ni : Nat
  si : Nat
  nj : Nat
  sj : Nat
  words : Nat
  deriving DecidableEq, Repr

/-- Registers at fixed BAR0 offsets below the channel windows (R486) (part 1). -/
def layAbs1 : List Lay :=
  [ ⟨.GLB_RGN_BASE, 0x800, 32, 32, 1, 0, 2⟩,
    ⟨.GLB_RGN_LIMIT, 0x808, 32, 32, 1, 0, 2⟩,
    ⟨.GLB_RGN_ATTR, 0x810, 32, 32, 1, 0, 1⟩,
    ⟨.GLB_RGN_INGRESS, 0x814, 32, 32, 1, 0, 1⟩,
    ⟨.GLB_RGN_FAULT_ADDR, 0xc00, 1, 0, 1, 0, 2⟩,
    ⟨.GLB_RGN_FAULT_INFO, 0xc08, 1, 0, 1, 0, 1⟩,
    ⟨.PCI_BAR2_BASE, 0x30100, 1, 0, 1, 0, 2⟩,
    ⟨.PCI_T3_BASE, 0x30108, 1, 0, 1, 0, 2⟩,
    ⟨.PCI_T3_LAT, 0x30110, 1, 0, 1, 0, 1⟩,
    ⟨.PCI_T3_LATE, 0x30114, 1, 0, 1, 0, 1⟩,
    ⟨.PCI_ING_STALL, 0x30118, 1, 0, 1, 0, 1⟩,
    ⟨.GLB_CTX_STATE, 0x2000, 64, 32, 1, 0, 1⟩ ]

/-- Registers at fixed BAR0 offsets below the channel windows (R486) (part 2). -/
def layAbs2 : List Lay :=
  [ ⟨.GLB_CTX_PTR, 0x2008, 64, 32, 1, 0, 2⟩,
    ⟨.GLB_CTX_PEND, 0x2010, 64, 32, 1, 0, 2⟩,
    ⟨.GLB_CTX_EVENTS, 0x2018, 64, 32, 1, 0, 1⟩,
    ⟨.GLB_CTX_TID, 0x201c, 64, 32, 1, 0, 1⟩,
    ⟨.GLB_DIST_CFG, 0xd00, 1, 0, 1, 0, 1⟩,
    ⟨.GLB_DIST_BASE, 0xd08, 1, 0, 1, 0, 2⟩,
    ⟨.GLB_DIST_LIMIT, 0xd10, 1, 0, 1, 0, 2⟩,
    ⟨.GLB_DIST_STAT, 0xd18, 1, 0, 1, 0, 1⟩,
    ⟨.GRS_CFG, 0x4000, 1, 0, 1, 0, 1⟩,
    ⟨.GRS_TOL, 0x4004, 1, 0, 1, 0, 1⟩,
    ⟨.GRS_STATUS, 0x4008, 1, 0, 1, 0, 1⟩,
    ⟨.GRS_ARB_CNT, 0x400c, 1, 0, 1, 0, 1⟩ ]

/-- Registers at fixed BAR0 offsets below the channel windows (R486) (part 3). -/
def layAbs3 : List Lay :=
  [ ⟨.GRS_EVT_CNT, 0x4010, 1, 0, 1, 0, 1⟩,
    ⟨.GRS_CTRL, 0x4014, 1, 0, 1, 0, 1⟩,
    ⟨.GRS_SUSPECT_TIME, 0x4018, 1, 0, 1, 0, 2⟩,
    ⟨.GRS_SUSPECT_INFO, 0x4020, 1, 0, 1, 0, 1⟩,
    ⟨.GRS_PROV, 0x4024, 1, 0, 1, 0, 1⟩,
    ⟨.GRS_REP_CFG, 0x4100, 1, 0, 1, 0, 1⟩,
    ⟨.GRS_REP_CTX, 0x4108, 1, 0, 1, 0, 2⟩,
    ⟨.GRS_REP_EXPELLED, 0x4110, 1, 0, 1, 0, 2⟩,
    ⟨.GRS_REP_STATUS, 0x4118, 1, 0, 1, 0, 1⟩,
    ⟨.GRS_REP_CTRL, 0x411c, 1, 0, 1, 0, 1⟩,
    ⟨.GRS_TP_STATUS, 0x4200, 1, 0, 1, 0, 1⟩,
    ⟨.LEA_PORT_CFG, 0x34000, 4, 256, 1, 0, 1⟩ ]

/-- Registers at fixed BAR0 offsets below the channel windows (R486) (part 4). -/
def layAbs4 : List Lay :=
  [ ⟨.LEA_PORT_STATUS, 0x34004, 4, 256, 1, 0, 1⟩,
    ⟨.LEA_PORT_ERR, 0x34008, 4, 256, 1, 0, 1⟩,
    ⟨.LEA_PORT_FEC, 0x3400c, 4, 256, 1, 0, 1⟩,
    ⟨.LEA_PORT_TX, 0x34010, 4, 256, 1, 0, 2⟩,
    ⟨.LEA_PORT_RX, 0x34018, 4, 256, 1, 0, 2⟩,
    ⟨.LEA_PORT_STAT, 0x34020, 4, 256, 1, 0, 1⟩,
    ⟨.LEA_NODE, 0x35000, 1, 0, 1, 0, 1⟩,
    ⟨.LEA_ROUTE, 0x35008, 1, 0, 1, 0, 2⟩,
    ⟨.LEA_CTRL_STAT, 0x35010, 1, 0, 1, 0, 1⟩,
    ⟨.LEA_STATUS, 0x35014, 1, 0, 1, 0, 1⟩,
    ⟨.STL_FIN_CFG, 0x40000, 24, 16, 1, 0, 1⟩,
    ⟨.STL_FIN_LIM, 0x40004, 24, 16, 1, 0, 1⟩ ]

/-- Registers at fixed BAR0 offsets below the channel windows (R486) (part 5). -/
def layAbs5 : List Lay :=
  [ ⟨.STL_FIN_STAT, 0x40008, 24, 16, 1, 0, 1⟩,
    ⟨.STL_ENC_CFG, 0x41000, 4, 16, 1, 0, 1⟩,
    ⟨.STL_ENC_POS, 0x41004, 4, 16, 1, 0, 1⟩,
    ⟨.STL_TQ_CFG, 0x42000, 8, 32, 1, 0, 1⟩,
    ⟨.STL_TQ_STAT, 0x42004, 8, 32, 1, 0, 1⟩,
    ⟨.STL_TQ_CNT, 0x42008, 8, 32, 1, 0, 1⟩,
    ⟨.STL_TQ_POP, 0x42010, 8, 32, 4, 4, 1⟩,
    ⟨.STL_FOUT, 0x43000, 1, 0, 1, 0, 1⟩,
    ⟨.STL_FOUT_SAFE, 0x43004, 1, 0, 1, 0, 1⟩,
    ⟨.STL_AIN_CFG, 0x50000, 1, 0, 1, 0, 1⟩,
    ⟨.STL_AIN_MASK, 0x50004, 1, 0, 1, 0, 1⟩,
    ⟨.STL_AIN_PACE, 0x50008, 1, 0, 1, 0, 1⟩ ]

/-- Registers at fixed BAR0 offsets below the channel windows (R486) (part 6). -/
def layAbs6 : List Lay :=
  [ ⟨.STL_AIN_CTRL, 0x5000c, 1, 0, 1, 0, 1⟩,
    ⟨.STL_AIN_INJ, 0x50010, 1, 0, 1, 0, 1⟩,
    ⟨.STL_AIN_STATUS, 0x50014, 1, 0, 1, 0, 1⟩,
    ⟨.STL_AIN_CNT, 0x50018, 1, 0, 1, 0, 1⟩,
    ⟨.STL_AIN_OPEN, 0x5001c, 1, 0, 1, 0, 1⟩,
    ⟨.STL_AIN_CAL_TGT, 0x50020, 1, 0, 1, 0, 1⟩,
    ⟨.STL_AIN_PASS_TIME, 0x50028, 1, 0, 1, 0, 2⟩,
    ⟨.STL_AIN_INJ_RES, 0x50030, 1, 0, 1, 0, 1⟩,
    ⟨.STL_AIN_RES, 0x50040, 16, 4, 1, 0, 1⟩,
    ⟨.STL_AIN_ENT, 0x50080, 16, 4, 1, 0, 1⟩,
    ⟨.STL_AIN_CHCFG, 0x50100, 16, 4, 1, 0, 1⟩,
    ⟨.STL_AIN_CAL, 0x50200, 16, 8, 2, 4, 1⟩ ]

/-- Registers at fixed BAR0 offsets below the channel windows (R486) (part 7). -/
def layAbs7 : List Lay :=
  [ ⟨.STL_AOUT_CFG, 0x60000, 4, 64, 1, 0, 1⟩,
    ⟨.STL_AOUT_VALUE, 0x60004, 4, 64, 1, 0, 1⟩,
    ⟨.STL_AOUT_FTW, 0x60008, 4, 64, 1, 0, 2⟩,
    ⟨.STL_AOUT_SHAPE, 0x60010, 4, 64, 1, 0, 1⟩,
    ⟨.STL_AOUT_PHASE, 0x60014, 4, 64, 1, 0, 1⟩,
    ⟨.STL_AOUT_SAFE, 0x60018, 4, 64, 1, 0, 1⟩,
    ⟨.STL_AOUT_STATUS, 0x6001c, 4, 64, 1, 0, 1⟩,
    ⟨.STL_AOUT_CTRL, 0x60100, 1, 0, 1, 0, 1⟩,
    ⟨.THM_CFG, 0x18000, 1, 0, 1, 0, 1⟩,
    ⟨.THM_RATE, 0x18004, 1, 0, 1, 0, 1⟩,
    ⟨.THM_PWR, 0x18008, 1, 0, 1, 0, 1⟩,
    ⟨.THM_POWER, 0x1800c, 1, 0, 1, 0, 1⟩ ]

/-- Registers at fixed BAR0 offsets below the channel windows (R486) (part 8). -/
def layAbs8 : List Lay :=
  [ ⟨.THM_CTRL, 0x18010, 1, 0, 1, 0, 1⟩,
    ⟨.THM_STATUS, 0x18014, 1, 0, 1, 0, 1⟩,
    ⟨.THM_SENS, 0x18100, 164, 4, 1, 0, 1⟩,
    ⟨.THM_TRIP_REC, 0x18400, 16, 4, 1, 0, 1⟩,
    ⟨.PWR_CTRL, 0x10000, 1, 0, 1, 0, 1⟩,
    ⟨.PWR_STATUS, 0x10004, 1, 0, 1, 0, 1⟩,
    ⟨.PWR_CFG, 0x10008, 1, 0, 1, 0, 1⟩,
    ⟨.PWR_WAKE_EN, 0x1000c, 1, 0, 1, 0, 1⟩,
    ⟨.PWR_WAKE_FIN, 0x10010, 1, 0, 1, 0, 1⟩,
    ⟨.PWR_WAKE_TIMER, 0x10014, 1, 0, 1, 0, 1⟩,
    ⟨.PWR_REFUSE, 0x10020, 1, 0, 1, 0, 1⟩,
    ⟨.PWR_LAST_REFUSE, 0x10024, 1, 0, 1, 0, 1⟩ ]

/-- Registers at fixed BAR0 offsets below the channel windows (R486) (part 9). -/
def layAbs9 : List Lay :=
  [ ⟨.PWR_ENTRY_CNT, 0x10028, 1, 0, 1, 0, 1⟩,
    ⟨.PWR_QUARTER_OFF, 0x10030, 1, 0, 1, 0, 1⟩,
    ⟨.PWR_DOMAIN, 0x10034, 1, 0, 1, 0, 1⟩,
    ⟨.GLB_FALLOW_REASON, 0x100, 1, 0, 1, 0, 1⟩,
    ⟨.GLB_LEVEL, 0x104, 1, 0, 1, 0, 1⟩,
    ⟨.GLB_CHN_CTRL, 0x108, 1, 0, 1, 0, 1⟩,
    ⟨.GLB_CHN_STATUS, 0x10c, 1, 0, 1, 0, 1⟩,
    ⟨.BOOT_STATUS, 0x20000, 1, 0, 1, 0, 1⟩,
    ⟨.BOOT_CTRL, 0x20004, 1, 0, 1, 0, 1⟩,
    ⟨.BOOT_SP_STATUS, 0x20010, 1, 0, 1, 0, 1⟩,
    ⟨.BOOT_MBOX_CMD, 0x20100, 1, 0, 1, 0, 1⟩,
    ⟨.BOOT_MBOX_ARG, 0x20108, 1, 0, 1, 0, 2⟩ ]

/-- Registers at fixed BAR0 offsets below the channel windows (R486) (part 10). -/
def layAbs10 : List Lay :=
  [ ⟨.BOOT_MBOX_STATUS, 0x20110, 1, 0, 1, 0, 1⟩,
    ⟨.BOOT_MBOX_BUF, 0x21000, 1024, 4, 1, 0, 1⟩,
    ⟨.SEC_MBOX_CMD, 0x28000, 1, 0, 1, 0, 1⟩,
    ⟨.SEC_MBOX_ARG, 0x28008, 1, 0, 1, 0, 1⟩,
    ⟨.SEC_MBOX_STATUS, 0x28010, 1, 0, 1, 0, 1⟩,
    ⟨.SEC_STATUS, 0x28020, 1, 0, 1, 0, 1⟩,
    ⟨.SEC_VERIFY_CNT, 0x28024, 1, 0, 1, 0, 1⟩,
    ⟨.SEC_CTRL, 0x28028, 1, 0, 1, 0, 1⟩,
    ⟨.SEC_MBOX_BUF, 0x2a000, 2048, 4, 1, 0, 1⟩,
    ⟨.GLB_ID, 0x0, 1, 0, 1, 0, 1⟩,
    ⟨.GLB_CAPS, 0x4, 1, 0, 1, 0, 1⟩,
    ⟨.GLB_TIME, 0x10, 1, 0, 1, 0, 2⟩ ]

/-- Registers at fixed BAR0 offsets below the channel windows (R486) (part 11). -/
def layAbs11 : List Lay :=
  [ ⟨.GLB_ERR_STATUS, 0x20, 1, 0, 1, 0, 1⟩,
    ⟨.GLB_ERR_MASK, 0x24, 1, 0, 1, 0, 1⟩,
    ⟨.GLB_IRQ_EVENT_LO, 0x30, 1, 0, 1, 0, 1⟩,
    ⟨.GLB_IRQ_EVENT_HI, 0x34, 1, 0, 1, 0, 1⟩,
    ⟨.PCI_LINK, 0x30000, 1, 0, 1, 0, 1⟩,
    ⟨.STL_PIN_FIN, 0x70000, 24, 4, 1, 0, 1⟩,
    ⟨.STL_PIN_ENC, 0x70080, 4, 4, 1, 0, 1⟩,
    ⟨.STL_PIN_OUT, 0x70100, 24, 4, 1, 0, 1⟩,
    ⟨.STL_PIN_STATUS, 0x70200, 1, 0, 1, 0, 1⟩ ]

/-- Registers at fixed BAR0 offsets below the channel windows (R486). -/
def layAbs : List Lay :=
  layAbs1 ++ layAbs2 ++ layAbs3 ++ layAbs4 ++ layAbs5 ++ layAbs6 ++ layAbs7 ++ layAbs8 ++ layAbs9 ++ layAbs10 ++ layAbs11

/-- Registers at offsets from a channel base (R486) (part 1). -/
def layChn1 : List Lay :=
  [ ⟨.CHN_HDG_ERR, 0xf000, 1, 0, 1, 0, 1⟩,
    ⟨.CHN_STK_ERR, 0xf004, 1, 0, 1, 0, 1⟩,
    ⟨.CHN_ADM_CFG, 0xe000, 1, 0, 1, 0, 1⟩,
    ⟨.CHN_ADM_BUDGET, 0xe004, 1, 0, 1, 0, 1⟩,
    ⟨.CHN_ADM_CTRL, 0xe008, 1, 0, 1, 0, 1⟩,
    ⟨.CHN_ADM_ADMITTED, 0xe010, 1, 0, 1, 0, 1⟩,
    ⟨.CHN_ADM_REFUSED, 0xe014, 1, 0, 1, 0, 1⟩,
    ⟨.CHN_ADM_HELD, 0xe018, 1, 0, 1, 0, 1⟩,
    ⟨.CHN_JOB_TIMEOUT, 0xe01c, 1, 0, 1, 0, 1⟩,
    ⟨.CHN_TAGS, 0xe020, 1, 0, 1, 0, 1⟩,
    ⟨.CHN_ADM_SAT, 0xe040, 1, 0, 16, 4, 1⟩,
    ⟨.CHN_K1_TMPL, 0x400, 1, 0, 1, 0, 2⟩ ]

/-- Registers at offsets from a channel base (R486) (part 2). -/
def layChn2 : List Lay :=
  [ ⟨.CHN_K1_CFG, 0x408, 1, 0, 1, 0, 1⟩,
    ⟨.CHN_LD_STATUS, 0x500, 1, 0, 1, 0, 1⟩,
    ⟨.CHN_LD_PKG, 0x504, 1, 0, 1, 0, 1⟩,
    ⟨.CHN_LD_CLAMP, 0x508, 1, 0, 1, 0, 1⟩,
    ⟨.CHN_LD_CTRL, 0x50c, 1, 0, 1, 0, 1⟩ ]

/-- Registers at offsets from a channel base (R486). -/
def layChn : List Lay :=
  layChn1 ++ layChn2

/-- Registers of one engine, at offsets from its block at channel base + e × 0x100 (part 1). -/
def layEng1 : List Lay :=
  [ ⟨.CHN_ENG_RING_BASE, 0x0, 1, 0, 1, 0, 2⟩,
    ⟨.CHN_ENG_CTRL_ADDR, 0x8, 1, 0, 1, 0, 2⟩,
    ⟨.CHN_ENG_CPL_BASE, 0x10, 1, 0, 1, 0, 2⟩,
    ⟨.CHN_ENG_CFG, 0x18, 1, 0, 1, 0, 1⟩,
    ⟨.CHN_ENG_STATUS, 0x1c, 1, 0, 1, 0, 1⟩,
    ⟨.CHN_ENG_CONS, 0x20, 1, 0, 1, 0, 1⟩,
    ⟨.CHN_ENG_PROD, 0x24, 1, 0, 1, 0, 1⟩,
    ⟨.CHN_ENG_JOBS, 0x28, 1, 0, 1, 0, 1⟩ ]

/-- Registers of one engine, at offsets from its block at channel base + e × 0x100. -/
def layEng : List Lay :=
  layEng1

/-- Registers at offsets from a Tussock window (R15, R486) (part 1). -/
def layTsk1 : List Lay :=
  [ ⟨.TSK_ARR_STATE, 0x400, 1, 0, 17, 32, 1⟩,
    ⟨.TSK_ARR_STATUS, 0x404, 1, 0, 17, 32, 1⟩,
    ⟨.TSK_ARR_CTRL, 0x408, 1, 0, 17, 32, 1⟩,
    ⟨.TSK_ARR_EVENTS, 0x40c, 1, 0, 17, 32, 1⟩,
    ⟨.TSK_ARR_RESTORE, 0x410, 1, 0, 17, 32, 1⟩,
    ⟨.TSK_ARR_WRITE, 0x414, 1, 0, 17, 32, 1⟩,
    ⟨.TSK_ARR_RESTORE_CNT, 0x418, 1, 0, 17, 32, 2⟩,
    ⟨.TSK_ARRAY_ROLE, 0x3e0, 1, 0, 1, 0, 1⟩,
    ⟨.TSK_RESTORE_TEMP, 0x3e4, 1, 0, 1, 0, 1⟩,
    ⟨.TSK_CONV_CFG, 0x700, 1, 0, 17, 16, 1⟩,
    ⟨.TSK_CONV_SAT, 0x704, 1, 0, 17, 16, 1⟩,
    ⟨.TSK_CONV_STATUS, 0x6f0, 1, 0, 1, 0, 1⟩ ]

/-- Registers at offsets from a Tussock window (R15, R486) (part 2). -/
def layTsk2 : List Lay :=
  [ ⟨.TSK_TABLE_ECC, 0x6f4, 1, 0, 1, 0, 1⟩,
    ⟨.TSK_ID, 0x0, 1, 0, 1, 0, 1⟩,
    ⟨.TSK_STATE, 0x4, 1, 0, 1, 0, 1⟩,
    ⟨.TSK_CTRL, 0x8, 1, 0, 1, 0, 1⟩,
    ⟨.TSK_CTRL_STATUS, 0xc, 1, 0, 1, 0, 1⟩,
    ⟨.TSK_QUAR_CAUSE, 0x10, 1, 0, 1, 0, 1⟩,
    ⟨.TSK_SEQ_STATUS, 0x14, 1, 0, 1, 0, 1⟩,
    ⟨.TSK_SEQ_ERR, 0x18, 1, 0, 1, 0, 1⟩,
    ⟨.TSK_CLK_STATUS, 0x20, 1, 0, 1, 0, 1⟩,
    ⟨.TSK_SWAP, 0x28, 1, 0, 1, 0, 1⟩,
    ⟨.TSK_BANK_ECC, 0x30, 1, 0, 1, 0, 1⟩,
    ⟨.TSK_ROLE_MAP, 0x3c0, 1, 0, 4, 4, 1⟩ ]

/-- Registers at offsets from a Tussock window (R15, R486) (part 3). -/
def layTsk3 : List Lay :=
  [ ⟨.BRK_CFG, 0x900, 1, 0, 1, 0, 1⟩,
    ⟨.BRK_CTRL, 0x904, 1, 0, 1, 0, 1⟩,
    ⟨.BRK_STATUS, 0x908, 1, 0, 1, 0, 1⟩,
    ⟨.BRK_CAL_CNT, 0x90c, 1, 0, 1, 0, 1⟩,
    ⟨.BRK_CAL_TIME, 0x910, 1, 0, 1, 0, 2⟩,
    ⟨.BRK_DEFER, 0x918, 1, 0, 1, 0, 1⟩,
    ⟨.BRK_SAVED_TEMP, 0x91c, 1, 0, 1, 0, 1⟩,
    ⟨.BRK_TRIM_SEL, 0x920, 1, 0, 1, 0, 1⟩,
    ⟨.BRK_TRIM_DATA, 0x924, 1, 0, 1, 0, 1⟩,
    ⟨.BRK_LAST_FAIL, 0x928, 1, 0, 1, 0, 1⟩,
    ⟨.BRK_ARR_CAL, 0x940, 1, 0, 17, 16, 1⟩,
    ⟨.BRK_ARR_TIME, 0x948, 1, 0, 17, 16, 2⟩ ]

/-- Registers at offsets from a Tussock window (R15, R486) (part 4). -/
def layTsk4 : List Lay :=
  [ ⟨.GRS_LANE_STATUS, 0xb00, 1, 0, 1, 0, 1⟩,
    ⟨.GRS_LANE_CNT, 0xb04, 1, 0, 1, 0, 1⟩,
    ⟨.GRS_ARB_LAST, 0xb08, 1, 0, 1, 0, 1⟩,
    ⟨.GRS_SHADOW_MAP, 0xb10, 1, 0, 5, 4, 1⟩ ]

/-- Registers at offsets from a Tussock window (R15, R486). -/
def layTsk : List Lay :=
  layTsk1 ++ layTsk2 ++ layTsk3 ++ layTsk4

/-- The register of a layout row that covers offset `o`: indices and which 32-bit word of the register. -/
def Lay.hit (l : Lay) (o : Nat) : Option (Nat × Nat × Nat) :=
  if o < l.base then none
  else
    let d := o - l.base
    let i := if l.ni ≤ 1 then 0 else d / l.si
    let d := if l.ni ≤ 1 then d else d % l.si
    let j := if l.nj ≤ 1 then 0 else d / l.sj
    let d := if l.nj ≤ 1 then d else d % l.sj
    if i < max l.ni 1 ∧ j < max l.nj 1 ∧ d < 4 * l.words then some (i, j, d / 4) else none

/-- A register of the device with the 32-bit word of it that an offset names. -/
structure RegWord where
  r : RegName
  i : Nat
  j : Nat
  word : Nat
  deriving DecidableEq, Repr

/-- The first row of a table that covers offset `o`; `i0` is the index that the enclosing window fixes, if any. -/
def findLay (rows : List Lay) (i0 : Option Nat) (o : Nat) : Option RegWord :=
  match rows with
  | [] => none
  | l :: rest =>
    match l.hit o with
    | some (i, j, w) => some ⟨l.r, i0.getD i, j, w⟩
    | none => findLay rest i0 o

/-- The register word at a BAR0 offset (R477, R486); none for a reserved offset. Channel n lies at
0x10_0000 + n × 0x10_0000, its engine e at + e × 0x100 and its Tussock t at + 0x1_0000 + t × 0x1000. -/
def regAt (o : Nat) : Option RegWord :=
  if o < 0x80000 then findLay layAbs none o
  else if o < 0x100000 then none
  else if o < 0x500000 then
    let n := (o - 0x100000) / 0x100000
    let c := o % 0x100000
    if c < 0x400 then findLay layEng (some (4 * n + c / 0x100)) (c % 0x100)
    else if c < 0x10000 then findLay layChn (some n) c
    else if c < 0x50000 then findLay layTsk (some (64 * n + (c - 0x10000) / 0x1000)) (c % 0x1000)
    else none
  else none

/-- How many 32-bit words a register has. -/
def wordsOf (r : RegName) : Nat :=
  match (layAbs ++ layChn ++ layEng ++ layTsk).find? (fun l => l.r = r) with
  | some l => l.words
  | none => 1

end Sys2Proof.Machine
end

