-- ==== Sys2Proof/Machine/State.lean ====
section
/-! DEFINITION. The state of the device: every register (as fields, in one sparse table), memory, queues, engines and
sequencers, the parts that act on their own, and the queue of commands that wait. `State.reset` is the device right
after its standby rail has risen (R431, R494), before any start. Log entries: 4, 12, 18, 31. -/

namespace Sys2Proof.Machine
open Sys2Proof

/-- Reasons to stop with a fault: there is none, because the spec lets no command stop the device. -/
inductive Fault where
  deriving DecidableEq, Repr

/-- Reasons to refuse a command. -/
inductive Refusal where
  /-- The dispatch has no meaning for this command yet; raised only by `exec`'s arms. Safe: nothing is claimed. -/
  | notModelled (mnemonic : String)
  deriving DecidableEq, Repr

/-! ### What the device sends -/

/-- What the device sends to the outside: PCIe messages and completions, newest last in `State.out`. -/
inductive Out where
  /-- the MSI-X message of a vector, with the address and data of its table entry (R248) -/
  | msix (v addr data : Nat)
  /-- an Unsupported Request reported under AER (R478, R186) -/
  | aerUnsupported
  /-- a read completed with Unsupported Request status (R478, R186) -/
  | completionUnsupported
  /-- a read of host memory, by host bus address and length (R179) -/
  | hostRead (addr len : Nat)
  /-- a read completed with data, to the host -/
  | completion (bytes : List Byte)
  /-- a posted write to the host bus -/
  | hostWrite (addr : Nat) (bytes : List Byte)
  /-- the field outputs taken to their safe values, before the Stile die loses power (R377, R408, R495) -/
  | safeOutputs (value oe : Nat)
  deriving DecidableEq, Repr

/-- An entry of the MSI-X table (R247, PCIe base specification): address, data and the vector's mask bit. Log entry 12 (PRESUMED and DEDUCED). -/
structure MsixEntry where
  addr : Nat := 0
  data : Nat := 0
  masked : Bool := true
  deriving DecidableEq, Repr

/-- Interrupt state (R247, R248): vectors with an event in this swath, vectors whose message is due since the last
boundary, the MSI-X table and the pending-bit array; sets of vectors are bit masks. -/
structure Irq where
  now : Nat := 0
  due : Nat := 0
  table : List (Nat × MsixEntry) := []
  pba : Nat := 0
  deriving DecidableEq, Repr

/-- A captured or staged word of a 64-bit register: which register, and the word (R483, R484). -/
structure HeldWord where
  r : RegName
  i : Nat
  j : Nat
  v : Nat
  deriving DecidableEq, Repr

/-- The holding register, the write staging register and the last completed read of one agent (R483, R484). -/
structure BusAgent where
  held : Option HeldWord := none
  staged : Option HeldWord := none
  readData : Nat := 0
  deriving DecidableEq, Repr

/-! ### The Stile die: field inputs, trigger queues and converters -/

/-- An entry of a trigger queue (R369). -/
structure TqEntry where
  /-- TIME: the stamp of R360, in ns -/
  time : Nat
  /-- POS of encoder ENC_SEL at the stamp -/
  pos : Word
  /-- INPUT -/
  input : Nat
  /-- TRAIL: a trailing edge -/
  trail : Bool
  /-- TIME_SUSPECT (R14) -/
  suspect : Bool
  /-- ENC -/
  enc : Nat
  /-- SEQ -/
  seq : Nat
  deriving DecidableEq, Repr

/-- A trigger queue (R369 to R375): its entries, oldest first, the second copy of OCC (the first is STL_TQ_STATq.OCC)
and the two copies of the write index. -/
structure Tq where
  entries : List TqEntry := []
  occ2 : Nat := 0
  wr1 : Nat := 0
  wr2 : Nat := 0
  /-- field clock of the latest flush (R376) -/
  flushAt : Option Nat := none
  /-- field clock of the latest entry, and how many entries were written in it (R376) -/
  burst : Nat × Nat := (0, 0)
  /-- changes of ENC_SEL that are recent enough for a stamp, newest first: the device time, and what stood before (R360) -/
  encPast : List (Nat × Nat) := []
  /-- field clocks in which OVF and DUP_ERR were last set and the counters last cleared (R376) -/
  ovfAt : Option Nat := none
  dupAt : Option Nat := none
  clrAt : Option Nat := none
  deriving DecidableEq, Repr

/-- What the field logic remembers of an encoder: the levels of its filtered lines A and B (R366), the changes of POS that are recent
enough for a stamp, newest first, each with its time and the position before it (R360), and the field clock in which POS was last
written (R368). -/
structure EncState where
  a : Bool := false
  b : Bool := false
  past : List (Nat × Nat) := []
  setAt : Option Nat := none
  /-- field clocks in which ERR was last set and ERR_CNT last cleared (R376) -/
  errAt : Option Nat := none
  clrAt : Option Nat := none
  deriving DecidableEq, Repr

/-- What the field logic remembers of one input: when it last created an event, and when its filtered level last
changed, in the Stile copy of device time. -/
structure FinState where
  lastEvent : Option Nat := none
  since : Nat := 0
  /-- field clocks in which the latest stuck declaration ended, OVR and STUCK_SET were last set, and the counters last cleared (R376) -/
  freeAt : Option Nat := none
  ovrAt : Option Nat := none
  stuckAt : Option Nat := none
  clrAt : Option Nat := none
  deriving DecidableEq, Repr

/-- A conversion that an ADC runs or is about to run: its pass, entry and channel, whether it is injected, the
coefficients in force when it started and the time at which its acquisition began. -/
structure Conv where
  pass : Nat
  entry : Nat
  ch : Nat
  injected : Bool
  ofs : Int
  gain : Nat
  acq : Nat
  deriving DecidableEq, Repr

/-- What an ADC does (R379). -/
inductive AdcPhase where
  /-- powered down -/
  | down
  /-- in its 2 µs start-up, with the conversion that follows, if any -/
  | startup (c : Option Conv)
  /-- powered, no conversion running -/
  | idle
  /-- in acquisition or conversion -/
  | running (c : Conv)
  deriving DecidableEq, Repr

/-- A conversion of a pass that has not started: pass, entry, channel and converter. -/
structure ConvDue where
  pass : Nat
  entry : Nat
  ch : Nat
  conv : Nat
  deriving DecidableEq, Repr

/-- A pass of the scan (R380): the mask it latched, how many entries it has, the sample instant of entry 0, and the
corrected values (entry, channel, converter, value) that it has so far. -/
structure Pass where
  id : Nat
  mask : Nat
  n : Nat
  time0 : Nat
  vals : List (Nat × Nat × Nat × Int)
  deriving DecidableEq, Repr

/-- A calibration step that collects raw codes (R390): the channel, whether it is the GAIN step, and per converter how
many codes it holds, their sum, and how many were the lowest and the highest code of the range. -/
structure CalStep where
  ch : Nat
  gain : Bool
  cnt0 : Nat
  cnt1 : Nat
  sum0 : Int
  sum1 : Int
  low : Nat
  high : Nat
  deriving DecidableEq, Repr

/-- The analogue input scan (R380 to R391). -/
structure AinScan where
  adc0 : AdcPhase := .down
  adc1 : AdcPhase := .down
  /-- conversions of the passes begun that have not started -/
  due : List ConvDue := []
  /-- passes begun and not ended, oldest first -/
  passes : List Pass := []
  /-- number of the next pass -/
  nextPass : Nat := 0
  /-- conversions assigned since the scan started -/
  assigned : Nat := 0
  /-- writes of START in single scan that wait for the start-up or for the end of a pass -/
  startWaits : Nat := 0
  /-- mask of the pass that last joined the averaging group -/
  groupMask : Nat := 0
  /-- passes in the averaging group -/
  groupCnt : Nat := 0
  /-- sums of the averaging group, by entry -/
  sums : List (Nat × Int) := []
  /-- when the pace timer next expires -/
  paceAt : Nat := 0
  cal : Option CalStep := none
  /-- when the running start-up of each converter ends (R379) -/
  up0 : Nat := 0
  up1 : Nat := 0
  /-- channel, converter and ADC clock of the coefficients that the latest calibration step wrote, and the host writes of
  coefficients in the latest such clock, each with what its register held before (R393) -/
  calAt : List (Nat × Nat × Nat) := []
  calHost : List ((Nat × Nat × Nat) × Nat) := []
  deriving DecidableEq, Repr

/-- The fields of an analogue output in force: what the last update applied (R397), and the phase accumulator as it
stood at DAC clock `clk` (R396), `mark` being the clock up to which phase events have been looked for. -/
structure Aout where
  src : Nat := 0
  gain : Nat := 0
  connect : Nat := 0
  code : Nat := 0
  ftw : Nat := 0
  amp : Nat := 0
  offset : Nat := 0x2000
  pofs : Nat := 0
  acc : Nat := 0
  clk : Nat := 0
  mark : Nat := 0
  /-- a phase event has arisen up to clock `mark` that no command has taken (R398) -/
  owed : Bool := false
  /-- causes of R399 that persist, bit c for cause c -/
  causes : Nat := 0
  deriving DecidableEq, Repr

/-- The Stile die outside its registers. -/
structure Stile where
  /-- Stile copy of device time less device time, in ns (R14) -/
  skew : Int := 0
  /-- events stamped now carry the time-suspect flag; the copy is reloaded at the next boundary -/
  suspect : Bool := false
  /-- swath of the boundary at which the comparison failed -/
  failedAt : Nat := 0
  /-- changes of both that are recent enough for a stamp, newest first: the device time, and what stood before (R14, R360) -/
  past : List (Nat × Int × Bool) := []
  fins : List (Nat × FinState) := []
  encs : List (Nat × EncState) := []
  tqs : List (Nat × Tq) := []
  /-- holding register of each reader of STL_TQ_POPq, 0 host, 1 management core, 2 standing programs (R372) -/
  popHold : List (Nat × Nat) := []
  ain : AinScan := {}
  aouts : List (Nat × Aout) := []
  /-- the data port has been lost for more than 1 µs (R399) -/
  linkLost : Bool := false
  /-- the DAC clock has lost lock (R399) -/
  dacUnlocked : Bool := false
  deriving DecidableEq, Repr

/-! ### Jobs, engines and schedulers -/

/-- The error that ends a job (R245, R246): status code, index of the command at fault, unit, and device time. -/
structure JobErr where
  status : Nat
  cmd : Nat
  unit : Nat
  time : Nat
  deriving DecidableEq, Repr

/-- An array cycle that a job holds (R209, R216): which command and which task or row of it, the Tussock, the slot whose
array it is (the reserve array for PASS), the swath and the evaluation cycle, and the kind of R208 (0 EVAL, 1 WRITE,
2 PASS); `phaseB` marks the cycle of the second phase of a two-phase task. -/
structure Placed where
  cmd : Nat
  ix : Nat
  g : Nat
  slot : Nat
  swath : Nat
  cycle : Nat
  kind : Nat
  phaseB : Bool
  deriving DecidableEq, Repr

/-- Counted units that a job holds in one swath (R208), under the scheduler of channel `chan`. -/
structure Held where
  chan : Nat
  kind : Nat
  unit : Nat
  swath : Nat
  amount : Nat
  deriving DecidableEq, Repr

/-- How far a job has come. -/
inductive JobStage where
  /-- admitted, or rejected or refused with its final record still to be written -/
  | running
  /-- its record is provisional, the token awaited -/
  | provisional
  deriving DecidableEq, Repr

/-- A job that an engine has taken (R230): its place on its ring, its commands, how it was admitted, what it holds, how
far its commands have come, and how it ends. -/
structure Job where
  id : Nat
  chan : Nat
  eng : Nat
  /-- CONS value of the JOB entry -/
  ringIndex : Nat
  /-- completion record number m (R231) -/
  recNo : Nat
  k1 : Bool
  /-- the eight words of the JOB command -/
  hdr : List Nat
  /-- the body commands, eight words each -/
  cmds : List (List Nat)
  /-- the 64-bit profile entries -/
  prof : List Nat
  /-- ERR_UNIT of what failed its checks as the job was read (R230, R243) -/
  readUnit : Nat := 0xFFFF
  /-- the task templates of the TASKS commands, by command index -/
  lists : List (Nat × List (List Nat)) := []
  /-- swath at whose boundary the job was taken, and device time of that boundary -/
  swath : Nat
  tRead : Nat
  slide : Nat := 0
  held : Bool := false
  throttled : Bool := false
  cause : Nat := 0xFF
  /-- request tags held, in the order of the templates' TAG values -/
  tags : List Nat := []
  /-- the check horizon it was admitted with (R324) -/
  horizon : Nat := 3
  /-- weight image the job uses, from its batch (R267) -/
  image : Nat := 0
  /-- weight image in force when the job was taken, for each AWRITE by command index (R268) -/
  vers : List (Nat × Nat) := []
  stage : JobStage := .running
  /-- body commands carried out, by index -/
  cmdsDone : List Nat := []
  /-- blocks of a COPY done so far, by command index -/
  progress : List (Nat × Nat) := []
  /-- slots that its blocks have taken, as swath, kind and unit (R166, R239) -/
  used : List (Nat × Nat × Nat) := []
  /-- SEQ of the first source block of a COPY, by command index (R239) -/
  seq0 : List (Nat × Nat) := []
  /-- tile tasks sent to Tussocks and not yet finished -/
  openTasks : Nat := 0
  placed : List Placed := []
  units : List Held := []
  err : Option JobErr := none
  /-- device time at which the record was first written -/
  tDone : Nat := 0
  /-- its work was unfinished at the boundary that opens swath s + L - 1 (R203) -/
  expired : Bool := false
  tooSmall : Bool := false
  tooLarge : Bool := false
  recomputeNa : Bool := false
  rerun : Bool := false
  clipF : Nat := 0
  clipTensor : Nat := 0
  /-- a production of the job has been judged (R122) -/
  judgedAny : Bool := false
  /-- provisional entries that the job depends on, by entry number (R322) -/
  deps : List Nat := []
  /-- Gorse retracts the job: a suspect evaluation, or a retracted dependency (R320, R321) -/
  retract : Bool := false
  /-- a job that it depends on was retracted or ended without results (R320) -/
  depBad : Bool := false
  /-- Lea nodes that received its PROV blocks (R357), and whether an Olusar 1100 did (R359) -/
  leaNodes : List Nat := []
  legacy : Bool := false
  /-- a standing program has acted on its provisional result (R323) -/
  committed : Bool := false
  deriving DecidableEq, Repr

/-- An engine outside its registers (R229 to R232): EN as latched, EN as written when the latest boundary came, whether a
ring error has stopped it, the submitted index and the consumed records last read, its record count, the completion
slots that still await a token, how many more boundaries its head job may be held, one more than the swath in which a held
job was last tried, the K1 fence, and whether it ran at the latest boundary. -/
structure Engine where
  en : Bool := false
  seen : Bool := false
  stopped : Bool := false
  prod : Nat := 0
  cplCons : Nat := 0
  recs : Nat := 0
  waiting : List Nat := []
  holdLeft : Option Nat := none
  tried : Nat := 0
  fence : Bool := false
  live : Bool := false
  deriving DecidableEq, Repr

/-- A tile task on its way from a scheduler to a Tussock (R222, R238). -/
structure Sent where
  g : Nat
  words : List Nat
  deriving DecidableEq, Repr

/-- A PCIe read that a COPY from host memory waits for (R189): job, command, block and when it was issued. -/
structure T3Read where
  job : Nat
  cmd : Nat
  block : Nat
  since : Nat
  deriving DecidableEq, Repr

/-- Rows of an array that have a digital image in T2 (R63): `n` rows from `first` on, 128 bytes each from an address on, in a
weight format. -/
structure RowSrc where
  first : Nat
  n : Nat
  addr : Nat
  wfmt : Nat
  deriving DecidableEq, Repr

/-- What an array's weights are: the manifest address of the image they come from (0 for none), the layer's index in it plus
one (0 for none), how many of its rows the layer uses (R42), and where the rows stand in T2, the latest source first. -/
structure Holds where
  image : Nat := 0
  layer : Nat := 0
  rows : Nat := 512
  srcs : List RowSrc := []
  deriving DecidableEq, Repr

/-- A row that waits for a repair rewrite (R63, R212): Tussock, array, row, swath in which it was queued, and the cycles
at which it has been placed, if it has. -/
structure Repair where
  g : Nat
  a : Nat
  row : Nat
  since : Nat
  at_ : List (Nat × Nat)
  /-- it was overdue when it was placed (R219), and what the array held then (R273) -/
  overdue : Bool := false
  holds : Holds := {}
  deriving DecidableEq, Repr

/-- A scheduler outside its registers: the engine at which the next grant starts (R214), jobs taken or tried at the
latest boundary, whether the admission of that boundary still runs, its repair queue, and whether admission is closed for
a power-state entry (R419). -/
structure Chan where
  rr : Nat := 0
  taken : Nat := 0
  opened : Bool := false
  repairs : List Repair := []
  closed : Bool := false
  /-- a power-state entry has asked the scheduler, or the device is not in Run -/
  closing : Bool := false
  /-- requesting channel at which the next remote request starts (R224) -/
  rrReq : Nat := 0
  /-- DRAIN as the latest boundary found it (R455) -/
  drain : Bool := false
  /-- blocks of the stack that the sideband code has returned poisoned in this swath (R457) -/
  sideUe : Nat := 0
  /-- SLIDE_MAX, DEFER_LIMIT, ADM_MAX, the K1 template address, class and hold count, and HORIZON, as the latest boundary
  found them -/
  slideMax : Nat := 7
  deferLimit : Nat := 0x40
  admMax : Nat := 0x20
  k1Tmpl : Nat := 0
  k1Class : Nat := 0x40
  k1Hold : Nat := 0
  horizon : Nat := 3
  deriving DecidableEq, Repr

/-- An entry of the provisional table (R322): a tensor bound to a job of this device (`origin` none), or to a token of
an upstream device (node and job identity), with the swath of its making. -/
structure Prov where
  id : Nat
  tid : Nat
  job : Nat
  origin : Option Nat
  since : Nat
  deriving DecidableEq, Repr

/-! ### The Tussocks -/

/-- A tile task in a local sequencer (R137 to R141): its eight words, its target swath, the job that owns it, and whether
a two-phase task has latched phase A. -/
structure Task where
  words : List Nat
  swath : Nat
  job : Option Nat
  phaseA : Bool := false
  deriving DecidableEq, Repr

/-- What an evaluation is made for. -/
inductive EvalKind where
  /-- an EVAL task of a job -/
  | work
  /-- the duplicate of full duplication (R309) -/
  | dup
  /-- a check re-run of the sample of a slot (R306) -/
  | rerun
  /-- a re-run of vector `v` of an arbitration (R313) -/
  | arb (v : Nat)
  deriving DecidableEq, Repr

/-- An evaluation on its way through converters and column table (R44, R73, R74): the task that asked for it, its owner,
phase (0 single phase, 1 phase A, 2 phase B), slot, lowest member, members, latched cycle, RANGE in force, latched input
levels of every dot-product row, the column values of the 260 logical columns that the sample capacitors hold (R44, step 5),
then their codes, the linearised values and the columns that carry a saturation or poison mark. -/
structure Evl where
  task : List Nat
  job : Option Nat
  kind : EvalKind
  phase : Nat
  slot : Nat
  arr : Nat
  members : List Nat
  swath : Nat
  cycle : Nat
  range : Nat
  inputs : List Nat
  samples : List Int := []
  codes : List Int := []
  vals : List Int := []
  sat : List Nat := []
  poison : List Nat := []
  /-- computed on the Tuft from the digital image: `vals` are exact values (R132) -/
  exact : Bool := false
  deriving DecidableEq, Repr

/-- Where the rows of an array write come from. -/
inductive WriteFor where
  /-- AWRITE: command of a job -/
  | awrite (job cmd : Nat)
  /-- a replacement wave of a context (R269) -/
  | wave (c : Nat)
  /-- the write stage of a calibration window (R282) -/
  | window
  /-- repair writes into the reserve (R318) -/
  | repair
  /-- tile reprogramming of an array (R318) -/
  | reprogram
  /-- the tile of a test-pattern package (R331) -/
  | testpat (job cmd : Nat)
  /-- a repair rewrite of single rows (R63) -/
  | single
  /-- firmware writes the arrays of a Tussock that it re-enables (R429, R441) -/
  | firmware
  deriving DecidableEq, Repr

/-- A row that waits for its row write: row number and the 256 data weights, or that the block which holds them failed its checks; and
the swath in which the block has come (R166, R240). -/
structure RowJob where
  row : Nat
  ws : List Int
  lost : Bool := false
  due : Nat := 0
  deriving DecidableEq, Repr

/-- A write of an array in progress (R54 to R58): what it is for, the rows still to be written, and the evaluation cycle, by
its number from device time 0, before which no cycle of the next row lies. -/
structure ArrWrite where
  for_ : WriteFor
  rows : List RowJob
  from_ : Nat := 0
  deriving DecidableEq, Repr

/-- One copy of a shadow weight set (R307): its set number, and the levels by row × 4 + column of the set. -/
structure ShadowCopy where
  set_ : Nat
  levels : List (Nat × Int)
  deriving DecidableEq, Repr

/-- A request tag that has evaluated on an array: the job and the device times of its first and last evaluation (R321). -/
structure Owner where
  job : Nat
  first : Nat
  last : Nat
  deriving DecidableEq, Repr

/-- A physical array outside its registers: levels (p, n) of its charge cells by row × 260 + column, checksum latches by
row × 2 + 0 for column 256 and 1 for column 257, the restore accumulator, evaluations sampled and evaluations converted,
the write in progress, rows that wait for a repair rewrite, and its records in the Gorse lane. Log entry 4 (DESIGN CHOICE). -/
structure Arr17 where
  cells : List (Nat × (Nat × Nat)) := []
  csum : List (Nat × Int) := []
  acc : Nat := 0
  sampled : List Evl := []
  coded : List Evl := []
  write : Option ArrWrite := none
  /-- whose weights the array holds -/
  holds : Holds := {}
  /-- when the load engine and the host last wrote TSK_CONV_CFG, and the descriptor's mask (R95) -/
  cfgLoad : Option Nat := none
  cfgHost : Option Nat := none
  maskLoad : Option Nat := none
  maskHost : Option Nat := none
  inUse : Option ShadowCopy := none
  filling : Option ShadowCopy := none
  /-- row at which the filling copy began -/
  fillFrom : Nat := 0
  owners : List Owner := []
  /-- those whose job has been confirmed since the slot's baseline began (R321) -/
  issued : List Owner := []
  /-- swaths of its transient errors of the last 131,072 swaths (R315) -/
  transients : List Nat := []
  /-- a checksum refresh runs (R317): one more than the rows that still get fresh latches, 0 for none -/
  refresh : Nat := 0
  /-- device time of the last passing shadow sample of each shadow set (R321) -/
  passed : List (Nat × Nat) := []
  /-- QUARANTINED or in WRITE_FAULT, and not VALID since (R287) -/
  out : Bool := false
  deriving DecidableEq, Repr

/-- A partial sum on its way: the evaluations of its task, phase A first (R109, R148). -/
structure Partial where
  evals : List Evl
  deriving DecidableEq, Repr

/-- A check in progress of a slot (R306, R308): the sample, the re-run's values when they are there, and the exact values
of the shadow by column, empty for no shadow. -/
structure CheckRun where
  sample : Evl
  rerun : Option Evl := none
  skipRerun : Bool := false
  exact : List (Nat × Int) := []
  deriving DecidableEq, Repr

/-- The Gorse lane of one slot (R302 to R308): the baseline's count, sums and start, the latest residual pairs with their
device times for the stuck window, those for the drift test, the start of the last passing stuck window, the latest
four evaluations, newest first, the held sample, and the check in progress. -/
structure SlotLane where
  baseN : Nat := 0
  baseE : Int := 0
  baseO : Int := 0
  baseTime : Nat := 0
  win : List (Int × Int × Nat) := []
  hist : List (Int × Int) := []
  stuckPass : Option Nat := none
  recent : List Evl := []
  sample : Option Evl := none
  decided : Bool := false
  check : Option CheckRun := none
  deriving DecidableEq, Repr

/-- An arbitration trigger (R312): row of the table, slot, physical array, involved columns, the parity if a whole
parity is involved, and the arbitration vectors gathered so far with how many are wanted. -/
structure Trigger where
  row : Nat
  slot : Nat
  arr : Nat
  cols : List Nat
  parity : Option Nat
  vecs : List Evl
  want : Nat
  /-- the partners' values of the vectors, under full duplication -/
  mates : List Evl := []
  deriving DecidableEq, Repr

/-- The arbitration that runs (R313): its trigger, the re-runs R1 gathered by vector, and how many have been started. -/
structure Arb where
  trig : Trigger
  r1 : List (Nat × Evl) := []
  started : Nat := 0
  deriving DecidableEq, Repr

/-- A repair (R318, R319): array, slot, step reached (1 to 5), the vectors to re-run, write faults met in step 5,
whether step 5 runs in place, and whether a window after step 5 is still to come. -/
structure RepairRun where
  arr : Nat
  slot : Nat
  step : Nat := 1
  vecs : List Evl := []
  cols : List Nat := []
  faults : Nat := 0
  inPlace : Bool := false
  /-- the repair started at step 5 because Bracken found a failed column (R316) -/
  colFail : Bool := false
  deriving DecidableEq, Repr

/-- The kinds of calibration window (R282, R288, R292). -/
inductive WinKind where
  | rotation
  | reserve
  | transit
  | inPlace
  deriving DecidableEq, Repr

/-- Sums over the samples of a column whose code lies in one segment (R283): how many, of the codes, of the exact values in dot-product
units, of their products and of the squares of the values. -/
structure FitSum where
  n : Nat := 0
  c : Int := 0
  y : Int := 0
  cy : Int := 0
  yy : Int := 0
  deriving DecidableEq, Repr

/-- What the calibration of an array has measured (R277 to R285). -/
structure CalRun where
  /-- zero stage: evaluations, and the sums of their codes by column -/
  zeroN : Nat := 0
  zero : List (Nat × Int) := []
  /-- rows that failed read-back, driven at level 0 (R278) -/
  bad : List Nat := []
  /-- the weight store: the cell pairs of the round's 64 data columns as they were sensed, by row × 260 + column (R278) -/
  store : List (Nat × (Nat × Nat)) := []
  /-- captured vectors replayed so far (R277) -/
  replay : Nat := 0
  /-- a swath, and the Calibrate operations of it whose data columns were sampled (R279) -/
  taken : Nat × Nat := (0, 0)
  /-- samples by column × 8 + segment; an auxiliary column has segment 0 alone -/
  fits : List (Nat × FitSum) := []
  /-- verify stage: evaluations, sums of the plain and the alternating checksum difference and the largest plain one, in 1/64 LSB, and
  sums of the errors of reference columns A and B, in dot-product units / 2 -/
  verN : Nat := 0
  plain : Int := 0
  alt : Int := 0
  worst : Nat := 0
  refA : Int := 0
  refB : Int := 0
  deriving DecidableEq, Repr

/-- A calibration window (R282): kind, slot, array that is calibrated, first swath, the stage reached (0 write, 1 exchange, 2
zero, 3 rows, 4 rounds, 5 verify, 6 commit), whether its write has begun, whether the calibrating array has left service,
rounds begun, the failed columns, whether verification passed, the generator codes that it derived, the state to which the
array returns, and the corrections in force before it. -/
structure Window where
  kind : WinKind
  slot : Nat
  arr : Nat
  start : Nat
  stage : Nat := 0
  begun : Bool := false
  released : Bool := false
  rounds : Nat := 0
  failed : List Nat := []
  verified : Bool := false
  gen : Nat × Nat × Nat := (0, 0, 0)
  back : Nat := 2
  /-- asked for by Gorse after a repair (R318, step 5, R319) -/
  gorse : Bool := false
  /-- placed while overdue (R219) -/
  overdue : Bool := false
  /-- trim words and table bytes of the array as they were, by index and by offset -/
  oldTrims : List (Nat × Nat) := []
  oldTable : List Byte := []
  /-- spare-driver words of the array as it became CALIBRATING, by index (R291) -/
  oldSpares : List (Nat × Nat) := []
  cal : CalRun := {}
  deriving DecidableEq, Repr

/-- A calibration pass (R288): arrays stamped in it, arrays handed to Gorse, arrays whose verification has failed once,
and the reserve position at which it started. -/
structure PassRun where
  from_ : Nat
  stamped : List Nat := []
  handed : List Nat := []
  failedOnce : List Nat := []
  /-- the walk goes down next -/
  down : Bool := true
  deriving DecidableEq, Repr

/-- A window that Bracken asks for at every boundary until it is placed (R290). -/
structure Ask where
  kind : WinKind
  slot : Nat
  arr : Nat
  since : Nat
  gorse : Bool := false
  deriving DecidableEq, Repr

/-- An exchange requested (R152): its slot, whether Bracken asked for it, and whether it has been deferred. -/
structure Exchange where
  slot : Nat
  bracken : Bool
  deferred : Bool := false
  deriving DecidableEq, Repr

/-- A Tussock outside its registers. -/
structure Tuss where
  /-- number of the swath its own count has open, none before its first marker -/
  open_ : Option Nat := none
  /-- consecutive markers that were late -/
  late : Nat := 0
  queue : List Task := []
  arrs : List (Nat × Arr17) := []
  /-- arrays that have evaluated, restored or written in a cycle (R46), by array and cycle number from device time 0, since the
  latest marker -/
  used : List (Nat × Nat) := []
  /-- pass-through arrays in use, in the same form -/
  passed : List (Nat × Nat) := []
  /-- partial sums on their way, oldest first -/
  sums : List Partial := []
  /-- a quarantine cause waits for the next evaluation-cycle boundary (R158) -/
  quarDue : Bool := false
  /-- the identity tables are being written (R92) -/
  tableInit : Bool := false
  /-- firmware writes the arrays once a re-enable has passed step 3 (R429, R441) -/
  fwWrite : Bool := false
  /-- a re-enable has passed step 3 (R160) -/
  aligned : Bool := false
  /-- groups of the bring-up calibration done, 2 when calibrated or accepted (R295, R296) -/
  bringup : Nat := 0
  /-- swath in which the group under bring-up calibration began (R295) -/
  bringAt : Option Nat := none
  exchange : Option Exchange := none
  lanes : List (Nat × SlotLane) := []
  /-- primaries and duplicates whose partner has not been linearised (R309) -/
  pairs : List Evl := []
  arb : Option Arb := none
  arbQueue : List Trigger := []
  /-- swath of the Tuft's latest failed digital check (R311) -/
  digFail : Option Nat := none
  repair : Option RepairRun := none
  /-- jobs whose owner records were lost, per array (R321) -/
  ovf : List (Nat × List Nat) := []
  /-- single-array repairs of R318 that wait -/
  wrong : List RepairRun := []
  /-- Bracken -/
  startPass : Bool := false
  pass : Option PassRun := none
  ask : Option Ask := none
  window : Option Window := none
  /-- input vectors captured for the slot asked for, newest first, at most 32 (R277) -/
  captured : List (List Nat) := []
  /-- the newest of them came after the latest Calibrate operation (R277) -/
  fresh : Bool := false
  /-- trim words by array × 256 + index (R298) -/
  trims : List (Nat × Nat) := []
  /-- codes HI, LO, CM that the reference generator applies (R293) -/
  refCodes : Nat × Nat × Nat := (0x800, 0x800, 0x80)
  /-- TEMP has changed since the generator last applied its codes -/
  refDue : Bool := false
  /-- arrays that an abandoned window left CALIBRATING (R291) -/
  abandoned : List Nat := []
  /-- the host has asked to end the window and the pass at the next boundary (R291) -/
  abortDue : Bool := false
  /-- evaluation cycles, by their numbers from device time 0, of the latest live vector and of the latest check (R306, R331) -/
  liveAt : Option Nat := none
  checkAt : Option Nat := none
  /-- TRIG as latched at the latest boundary (R287) -/
  trigNow : Nat := 4
  /-- exact values that the latest SHADOW task computed, column by column -/
  shadow : List Int := []
  /-- table words found with a single-bit error, waiting to be written back (R97) -/
  writeBack : List Nat := []
  deriving DecidableEq, Repr

/-- The header of a requantisation block (R115) with the format and NELEM of its output tensor record (R116). -/
structure RqHead where
  wfmt : Nat
  xfmt : Nat
  exact : Bool
  nout : Nat
  nsrc : Nat
  inRec : Nat
  outRec : Nat
  e0 : Nat
  nelem : Nat
  outBlock : Nat
  outTid : Nat
  outSeq0 : Nat
  fmt : Nat
  deriving DecidableEq, Repr

/-- An accumulator area of a job in a combining Tussock (R148, R504 to R506): job, Tussock, requantisation block, the
first bank block of the area, the header, the s_x in use, element groups begun, elements requantised with their
accumulator, mark of clipping and of poison, and output codes by element. -/
structure Area where
  job : Nat
  g : Nat
  rq : Nat
  accBlock : Nat
  head : RqHead
  sx : Option Nat := none
  begun : List Nat := []
  done : List (Nat × (Int × Bool × Bool)) := []
  codes : List (Nat × (Int × Bool)) := []
  deriving DecidableEq, Repr

/-- A production of a job (R506): the output record's address, OUT_TID, the SCALE in use as an fp32 word, elements,
clipped elements and peak so far, whether it has ended, the elements that it writes (NELEM), whether it is recompute-once, and
whether this is its rerun; `rerunScale` holds s_new while a rerun is due (R123). -/
structure Production where
  job : Nat
  addr : Nat
  tid : Nat
  scale : Nat
  elems : Nat := 0
  clipped : Nat := 0
  peak : Nat := 0
  ended : Bool := false
  need : Nat := 0
  once : Bool := false
  second : Bool := false
  rerunScale : Option Nat := none
  /-- F of R122 and whether too small or too large, once judged -/
  f : Nat := 0
  small : Bool := false
  large : Bool := false
  deriving DecidableEq, Repr

/-! ### Contexts and images -/

/-- A placement entry of an image (R257), with the address of its first cell-image block (R263). -/
structure Placement where
  tsk : Nat
  slot : Nat
  gang : Nat
  member : Nat
  row0 : Nat
  out0 : Nat
  pack : Nat
  range : Nat
  maskEn : Nat
  src : Nat
  nrows : Nat
  nout : Nat
  addr : Nat := 0
  deriving DecidableEq, Repr

/-- A layer of an image (R256, R262). -/
structure Layer where
  tier : Nat
  wfmt : Nat
  placements : List Placement
  rqTsk : Nat
  rqBlock : Nat
  /-- address and length in bytes of its requantisation image -/
  rqAddr : Nat
  rqLen : Nat
  deriving DecidableEq, Repr

/-- A context image that a LOADPKG has built (R260 to R263), by the address of its manifest, with the first block and the
block count of its stripe in each stack. -/
structure Image where
  ptr : Nat
  ctx : Nat
  tid : Nat
  layers : List Layer
  stripes : List (Nat × Nat)
  /-- package digest and publisher key slot that verified it (R262, R472) -/
  digest : List Byte := []
  key : Nat := 0
  /-- the magic of its manifest stands -/
  valid : Bool := false
  /-- the latest complete image digest, and the swath in which the one under way began (R326) -/
  hash : List Byte := []
  hashFrom : Nat := 0
  deriving DecidableEq, Repr

/-- A resident placement in a change of its context (R269, R271): layer index, Tussock and slot, the swath from which its
rows may be written or the array emptied, the swath that holds its last write and the first cycle there that it does not
hold, and whether that is done. -/
structure WaveItem where
  layer : Nat
  g : Nat
  slot : Nat
  from_ : Nat
  last : Nat
  tail : Nat
  started : Bool := false
  done : Bool := false
  deriving DecidableEq, Repr

/-- A context outside its registers: the placements of the change in progress, the swath of its effect boundary, the images
that are old-busy with the jobs bound to each (R272), latest last, and whether a pending change is an unload. -/
structure Ctx64 where
  wave : List WaveItem := []
  effect : Nat := 0
  olds : List (Nat × List Nat) := []
  pendUnload : Bool := false
  /-- requantisation blocks still to be written by the wave, by layer, with the first swath of each (R269) -/
  rqDue : List (Nat × Nat) := []
  /-- swath and channel of the latest post (R265) -/
  postSwath : Nat := 0
  postChan : Nat := 0
  /-- the context has been readmitted and is on probation (R329) -/
  probation : Bool := false
  /-- the swath in which it was readmitted: admission resumes at the next boundary (R329) -/
  readmitAt : Option Nat := none
  /-- digests received, by 8 × the swath number of their period + member: image TID and value (R326, R327) -/
  digests : List (Nat × (Nat × Nat)) := []
  /-- one more than the swath number of the period last decided, 0 for none (R327) -/
  decided : Nat := 0
  deriving DecidableEq, Repr


/-- What a verification request is for (R471). -/
inductive VerifyFor where
  | package
  | test
  deriving DecidableEq, Repr

/-- A request that waits for the verification unit: the job and command, the digest, the signature and the public key. -/
structure Verify where
  job : Nat
  cmd : Nat
  for_ : VerifyFor
  key : List Byte
  digest : List Byte
  sig : List Byte
  /-- swath from which it can be served: that of the last hashed block (R260) -/
  ready : Nat
  deriving DecidableEq, Repr

/-- A package that a LOADPKG has read and re-laid (R260): job, command, channel and context, the image, its manifest, and the
swath in which the signature was verified. -/
structure Load where
  /-- blocks of the image that wait for their slots, as the swath, the address, SEQ and the payload (R260) -/
  todo : List (Nat × Nat × Nat × List Byte) := []
  job : Nat
  cmd : Nat
  chan : Nat
  ctx : Nat
  image : Image
  manifest : List Byte
  verified : Option Nat := none
  deriving DecidableEq, Repr

/-- A test-pattern package whose vectors run (R331): job, command, Tussock, live or reserve mode, the addresses of the
vectors, of the bounds and of the log, vectors to run, the next one, and whether the signature has been verified. -/
structure TestRun where
  job : Nat
  cmd : Nat
  g : Nat
  reserve : Bool
  range : Nat
  vec : Nat
  bound : Nat
  tile : Nat
  log : Nat
  n : Nat
  next : Nat := 0
  verified : Bool := false
  /-- the tile's write has begun -/
  begun : Bool := false
  failed : Bool := false
  /-- a swath, and the live vectors that its shadow clocks have taken -/
  taken : Nat × Nat := (0, 0)
  deriving DecidableEq, Repr

/-! ### Lea ports -/

/-- A control message (R354). -/
structure LeaMsg where
  msg : Nat
  dest : Nat
  origin : Nat
  hops : Nat
  jobref : Nat
  body : List Byte
  deriving DecidableEq, Repr

/-- A sequenced frame (R338): a DATA frame with its block's payload and tag, its address, and the job and command that
send it (none for chain forwarding), or a CTRL frame with its message. -/
inductive LeaFrame where
  | data (prov : Bool) (addr origin jobref : Nat) (data : List Byte) (crc tid seq : Nat) (owner : Option (Nat × Nat))
  | ctrl (m : LeaMsg)
  deriving DecidableEq, Repr

/-- What a frame slot sent (R340). -/
inductive LeaSent where
  | idle
  | frame (f : LeaFrame)
  | train
  deriving DecidableEq, Repr

/-- A retry episode (R347): tries so far, its opening time, and the frames that were buffered when it opened and have not
been acknowledged. -/
structure Episode where
  tries : Nat
  since : Nat
  left : Nat
  deriving DecidableEq, Repr

/-- A Lea port outside its registers (R340 to R353): frames waiting by class, the replay buffer with its first FSEQ, how
many buffered frames a replay has still to resend, sequence numbers, the NAK state of the receiver, credits held and
credits to return, the episode, the time of the last acknowledgement (or of the first frame buffered since), and the TRAIN
exchange. -/
structure LeaPort where
  data : List LeaFrame := []
  chain : List LeaFrame := []
  ctrl : List LeaFrame := []
  replay : List LeaFrame := []
  /-- FSEQ of the next new frame -/
  next : Nat := 0
  /-- frames at the end of the replay buffer that the running replay has still to send -/
  resend : Nat := 0
  /-- FSEQ expected from the partner -/
  expect : Nat := 0
  nakDue : Bool := false
  discarding : Bool := false
  dcred : Nat := 0
  ccred : Nat := 0
  dreturn : Nat := 0
  creturn : Nat := 0
  episode : Option Episode := none
  ackTime : Nat := 0
  /-- device time at which the data credits ran out -/
  dryTime : Nat := 0
  /-- contents of the latest TRAIN frame, and how many in a row had them -/
  train : Nat × Nat × Nat × Nat × Nat × Nat := (0, 0, 0, 0, 0, 0)
  trainCnt : Nat := 0
  /-- device time at which this end agreed in the EXCHANGE that runs (R341, R342) -/
  agreedAt : Option Nat := none
  /-- what the port sent last, with the FSEQ, ACK, NAK and credits that it carried, and its 280 bytes (R338) -/
  sent : LeaSent := .idle
  sentSeq : Nat := 0
  wire : List Byte := []
  sentAck : Nat := 0
  sentNak : Bool := false
  sentCred : Nat × Nat := (0, 0)
  /-- device time of the latest change of state -/
  since : Nat := 0
  /-- a swath, the frame slots that have passed in it, and of these the slots of each job -/
  slots : Nat × Nat × List (Nat × Nat) := (0, 0, [])
  deriving DecidableEq, Repr


/-! ### Heat, power, start and service -/

/-- A temperature sensor outside its register (R402, R403): its readings of the last millisecond and the one before, newest
first, with their times; the latest raw code, for how many conversions it has stayed; in-range conversions in a row since it
broke, and whether its code has changed in them; whether it has ever reported, and whether it is broken. -/
structure Sensor where
  hist : List (Nat × Int) := []
  code : Nat := 0
  same : Nat := 0
  good : Nat := 0
  moved : Bool := false
  reported : Bool := false
  broken : Bool := false
  deriving DecidableEq, Repr

/-- Where the device stands between its rails and READY (R433, R494). -/
inductive Phase where
  /-- main rails down: MAIN_EN is low -/
  | railsDown
  /-- MAIN_EN is high and MAIN_GOOD awaited, or high for less than 1 ms -/
  | rising
  /-- RST_N is low -/
  | held
  /-- an internal release is due -/
  | release
  /-- a start has begun and not yet reported ready -/
  | starting
  /-- ready, or in Fallow mode -/
  | on
  deriving DecidableEq, Repr

/-- Heather island (R409, R416, R428, R447, R494): what survives everything but the loss of the standby rail. -/
structure Heather where
  phase : Phase := .railsDown
  /-- MAIN_EN may rise: 1 ms after the standby rail, 100 ms after a failed attempt, or at WAKE_N in Off -/
  mayRise : Bool := true
  mainEn : Bool := false
  mainGood : Bool := false
  rstLow : Bool := false
  /-- the start counter C -/
  count : Nat := 0
  /-- starts since the standby rail came up -/
  total : Nat := 0
  /-- RESET_CAUSE of the next start -/
  cause : Nat := 0
  /-- the reason of the Fallow mode that the device is in or is to start into, kept until REBOOT with CLEAR (R450, R452); 0 none -/
  fallow : Nat := 0
  /-- stage reached by the latest failed start, and the slot last tried -/
  lastStage : Nat := 0
  lastSlot : Nat := 0
  /-- the start watchdog in seconds -/
  wdog : Nat := 5
  /-- a trip has not been followed by a passed restart gate -/
  tripped : Bool := false
  gate : Bool := false
  /-- RESTART in force, in °C -/
  restart : Nat := 85
  /-- fabric quarters that stay off because all their sensors are broken (R410) -/
  dark : List Nat := []
  /-- the 256-byte mirror of the latest readings, rates and budget values (R409), and Heather island's own readings since the device
  entered Deep sleep (R417) -/
  mirror : List Byte := []
  reads : Nat := 0
  /-- copy of the latest shutdown record in retention memory, and whether the journal had no slot for it -/
  record : Option (List Byte) := none
  journalFull : Bool := false
  /-- registers saved for Deep sleep (R428), by `Fld.key`, and the weight pointer, state and version of contexts with them -/
  save : Option (List (Nat × Nat)) := none
  deriving DecidableEq, Repr

/-- A power-state entry in progress (R419): target, code and stage of the block asked (stage 1 asks four at once), codes that
have agreed, when the block was asked, and the wake source that waits for the next abort point. -/
structure PwrEntry where
  target : Nat
  asked : Nat := 0
  agreed : List Nat := []
  since : Nat := 0
  wake : Option Nat := none
  deriving DecidableEq, Repr

/-- A frame mailbox of the STANDING record (R442): base address, entries, and the index of the next descriptor. -/
structure FrameBox where
  base : Nat
  entries : Nat
  next : Nat := 0
  deriving DecidableEq, Repr

/-- A binding of the STANDING record (R442): its 64 bytes' fields, its event count and when its timer last expired. -/
structure Binding where
  src : Nat
  srcIdx : Nat
  ring : Nat
  outEn : Bool
  actProv : Bool
  outPulse : Bool
  period : Nat
  template : Nat
  nent : Nat
  patches : List Nat
  outSel : Nat
  pulse : Nat
  result : Nat
  events : Nat := 0
  last : Nat := 0
  deriving DecidableEq, Repr

/-- A job of a binding whose record is watched (R445): binding, engine, ring index, and the STATE of its record so far (0
before it is written). -/
structure Watch where
  binding : Nat
  k : Nat
  ring : Nat
  state : Nat := 0
  deriving DecidableEq, Repr

/-- A mailbox command that is BUSY: its code, the RESULT to come and when it was written (R460, R473). -/
structure MboxRun where
  cmd : Nat
  result : Nat
  since : Nat
  deriving DecidableEq, Repr

/-- What a start has read, verified and loaded, kept outside the registers (R433 to R445, R463 to R475). -/
structure Boot where
  /-- digests, certificates and numbers of the running slot and the bank in use -/
  mFw : List Byte := []
  mBank : List Byte := []
  mInteg : List Byte := []
  certs : List (Nat × List Byte) := []
  version : Nat := 0
  seq : Nat := 0
  /-- the identity public key, if it was recovered -/
  ident : Option (List Byte) := none
  boxes : List FrameBox := []
  binds : List Binding := []
  watches : List Watch := []
  /-- FOUT pulses that run: output and end time -/
  pulses : List (Nat × Nat) := []
  /-- a START_PKG package was rejected (R453) -/
  pkgRejected : Bool := false
  mbox : Option MboxRun := none
  sec : Option MboxRun := none
  nonce : List Byte := []
  /-- the snapshot of a running ATTEST has been taken -/
  snapped : Bool := false
  /-- firmware switch-over: when it began and the slot it goes to (R459) -/
  switch : Option (Nat × Nat) := none
  deriving DecidableEq, Repr

/-! ### The test access port -/

/-- The test access port (R501): the instruction, the preloaded and the captured boundary register (bit i is cell i), and
whether the outputs are driven from the boundary register, held, or in high impedance. -/
structure Tap where
  ir : Nat := 1
  preload : Nat := 0
  captured : Nat := 0
  dr : Nat := 0x140960F7
  drives : Bool := false
  highz : Bool := false
  deriving DecidableEq, Repr
/-- The whole device. -/
structure State where
  /-- commands that wait, first in first out -/
  pending : List Instr := []
  /-- how many free values have been drawn -/
  free : Nat := 0
  /-- device time in ns (R7) -/
  time : Nat := 0
  /-- the register fields that differ from their reset value, by `Fld.key` -/
  regs : List (Nat × Nat) := []
  /-- the bytes of device memory that differ from what an unwritten byte reads as -/
  mem : List Host.Cell := []
  /-- stored blocks that have taken bit errors, by address, with what their next read finds (R150, R177) -/
  latent : List (Nat × Ecc) := []
  /-- flit errors that the next blocks meet, oldest first, by place: n for channel n's mesh, 4 + 2n + b for channel n's port of
  bridge b, 12 + 2n + b for the PCIe core's port of bridge b with blocks from or to channel n (R165, R168) -/
  flits : List (Nat × Ecc) := []
  irq : Irq := {}
  host : BusAgent := {}
  mgmt : BusAgent := {}
  /-- what the device has sent to the host, oldest first -/
  out : List Out := []
  stile : Stile := {}
  /-- jobs taken whose final record or token is still to come, oldest first -/
  jobs : List Job := []
  /-- number of the next job taken; 0 names no job -/
  nextJob : Nat := 1
  /-- engine 4n + e -/
  engines : List (Nat × Engine) := []
  /-- tile tasks sent and not yet arrived, oldest first -/
  flight : List Sent := []
  /-- PCIe reads of COPY commands outstanding, oldest first -/
  t3 : List T3Read := []
  chans : List (Nat × Chan) := []
  /-- the latest boundary has come, and no job of it has been decided yet (R232, R267) -/
  fresh : Bool := false
  /-- the provisional table (R322), and the number of its next entry -/
  provs : List Prov := []
  nextProv : Nat := 0
  /-- one more than the swath that PCI_ING_STALL last counted (R223); 0 for none -/
  stallSwath : Nat := 0
  tusss : List (Nat × Tuss) := []
  areas : List Area := []
  /-- tensor records that the Tufts know by TENSOR_ID: of output tensors and of caches (R115, R129) -/
  recs : List (Nat × Nat) := []
  prods : List Production := []
  /-- reference generator trim sets, by Tussock × 8 + index of R298, in retention memory (R293) -/
  genSets : List (Nat × Nat) := []
  leas : List (Nat × LeaPort) := []
  /-- ADDR_FAULT messages sent in this swath, by node and JOBREF, with the swath (R352) -/
  leaFaults : List (Nat × Nat × Nat) := []
  /-- ORIGIN and JOBREF of the PROV blocks forwarded on the distribution chain (R357), and of those forwarded to an Olusar 1100 (R359) -/
  chainRefs : List (Nat × Nat) := []
  legacyRefs : List (Nat × Nat) := []
  /-- entries of the provisional table on which a job depended that committed its result and has left (R323, R354) -/
  commits : List Nat := []
  images : List Image := []
  /-- requests that wait for the verification unit, oldest first -/
  verifs : List Verify := []
  loads : List Load := []
  tests : List TestRun := []
  /-- public keys of the publisher slots, and of the test-pattern certificate (R463) -/
  pubKeys : List (Nat × List Byte) := []
  testKey : List Byte := []
  /-- the check fraction still in force while a change is pending (R309) -/
  fractionOld : Option Nat := none
  /-- the swath in which FRACTION was written for it: jobs taken at later boundaries are admitted after the change -/
  fractionAt : Nat := 0
  ctxs : List (Nat × Ctx64) := []
  sensors : List (Nat × Sensor) := []
  heather : Heather := {}
  /-- the power-state entry in progress, the wake source being served with the device time of its event, and the device time of the
  final abort point -/
  entry : Option PwrEntry := none
  waking : Option (Nat × Nat) := none
  slept : Nat := 0
  /-- quarters that a write of PWR_QUARTER_OFF is switching, with the state they go to -/
  quarters : List (Nat × Bool) := []
  boot : Boot := {}
  /-- the configuration flash by byte address; an erased byte is 0xFF (R436) -/
  flash : List (Nat × Byte) := []
  tap : Tap := {}
  deriving DecidableEq, Repr

/-- The device right after the standby rail has risen: every register at its reset value, only Heather island running. Log entry 18 (DESIGN CHOICE). Log entry 31 (DESIGN CHOICE). -/
def State.reset : State := {}

end Sys2Proof.Machine
end

