-- ==== Sys2Proof/Machine/Tab.lean ====
section
/-! DEFINITION. Sparse tables: a list of (key, value) pairs that lists only what differs from a default. Every table
of the state (register fields, bytes of memory, cells of an array, ...) is one of these, with a default of its own;
the canonical form (`Tab.wf`) makes equal tables equal data. Log entries: 4. -/

namespace Sys2Proof.Machine

/-- The value listed under a key, if any. -/
def Tab.find {α : Type} : List (Nat × α) → Nat → Option α
  | [], _ => none
  | (k, v) :: t, a => if k = a then some v else Tab.find t a

/-- The value under a key: what is listed, or else the default. -/
def Tab.get {α : Type} (d : Nat → α) (t : List (Nat × α)) (a : Nat) : α :=
  match Tab.find t a with
  | some v => v
  | none => d a

/-- Drops every entry of a key. -/
def Tab.erase {α : Type} : List (Nat × α) → Nat → List (Nat × α)
  | [], _ => []
  | (k, v) :: t, a => if k = a then Tab.erase t a else (k, v) :: Tab.erase t a

/-- Lists a value under a key, in the key's place. -/
def Tab.insert {α : Type} : List (Nat × α) → Nat → α → List (Nat × α)
  | [], a, x => [(a, x)]
  | (k, v) :: t, a, x =>
    if a < k then (a, x) :: (k, v) :: t
    else if k = a then (a, x) :: t
    else (k, v) :: Tab.insert t a x

/-- Sets the value under a key; a value equal to the default leaves the key unlisted. Log entry 4 (DESIGN CHOICE). -/
def Tab.set {α : Type} [DecidableEq α] (d : Nat → α) (t : List (Nat × α)) (a : Nat) (x : α) : List (Nat × α) :=
  if x = d a then Tab.erase t a else Tab.insert t a x

/-- Keys rise strictly from `lo` on and no entry equals the default. -/
def Tab.wfFrom {α : Type} [DecidableEq α] (d : Nat → α) : Nat → List (Nat × α) → Bool
  | _, [] => true
  | lo, (k, v) :: t => decide (lo ≤ k) && decide (v ≠ d k) && Tab.wfFrom d (k + 1) t

/-- The canonical form: strictly rising keys, no entry equal to the default. Log entry 4 (DESIGN CHOICE). -/
def Tab.wf {α : Type} [DecidableEq α] (d : Nat → α) (t : List (Nat × α)) : Bool := Tab.wfFrom d 0 t

/-- Sets the keys `a`, `a + 1`, ... to the values of a list. -/
def Tab.setList {α : Type} [DecidableEq α] (d : Nat → α) (t : List (Nat × α)) (a : Nat) : List α → List (Nat × α)
  | [] => t
  | x :: xs => Tab.setList d (Tab.set d t a x) (a + 1) xs

/-- The values under the `n` keys from `a` on. -/
def Tab.getList {α : Type} (d : Nat → α) (t : List (Nat × α)) : Nat → Nat → List α
  | _, 0 => []
  | a, n + 1 => Tab.get d t a :: Tab.getList d t (a + 1) n

/-- Drops every entry whose key lies from `lo` up to but not including `hi`: those keys return to the default. -/
def Tab.clear {α : Type} : List (Nat × α) → Nat → Nat → List (Nat × α)
  | [], _, _ => []
  | (k, v) :: t, lo, hi => if lo ≤ k ∧ k < hi then Tab.clear t lo hi else (k, v) :: Tab.clear t lo hi

/-- Changes every listed value; one that becomes the default is dropped. -/
def Tab.mapV {α : Type} [DecidableEq α] (d : Nat → α) (f : Nat → α → α) : List (Nat × α) → List (Nat × α)
  | [] => []
  | (k, v) :: t => if f k v = d k then Tab.mapV d f t else (k, f k v) :: Tab.mapV d f t

end Sys2Proof.Machine
end

