-- ==== Sys2Proof/Machine/Ops.lean ====
section
/-! DEFINITION. The shared operations: reading and writing a register field, counters that hold at their highest
value, free values, interrupts, power domains and which registers software can reach. Log entries: 1, 3, 5, 12, 17, 18. -/

namespace Sys2Proof.Machine
open Sys2Proof

/-! ### Register fields -/

/-- The key of a field in the register table: one number per register, indices and lowest bit. -/
def Fld.key (f : Fld) : Nat := ((f.r.ctorIdx * 4096 + f.i % 4096) * 64 + f.j % 64) * 64 + f.lo % 64

/-- The reset value of a field. -/
def Fld.rst (f : Fld) : Nat := resetOf f.r f.i f.j f.lo

/-- The value of a register field. -/
def State.get (s : State) (f : Fld) : Nat := Tab.get (fun _ => f.rst) s.regs f.key

/-- A register field set to a value, modulo its width. -/
def State.set (s : State) (f : Fld) (v : Nat) : State :=
  { s with regs := Tab.set (fun _ => f.rst) s.regs f.key (v % 2 ^ f.w) }

/-- Whether a field is not 0. -/
def State.on (s : State) (f : Fld) : Bool := s.get f != 0

/-- A counter field one higher, held at its highest value. -/
def State.inc (s : State) (f : Fld) : State :=
  if s.get f + 1 < 2 ^ f.w then s.set f (s.get f + 1) else s.set f (2 ^ f.w - 1)

/-- A counter field `n` higher, held at its highest value. -/
def State.incBy (s : State) (f : Fld) (n : Nat) : State :=
  if s.get f + n < 2 ^ f.w then s.set f (s.get f + n) else s.set f (2 ^ f.w - 1)

/-- A counter field one higher, modulo its width. -/
def State.incMod (s : State) (f : Fld) : State := s.set f (s.get f + 1)

/-- A field set when a condition holds, else left. -/
def State.setIf (s : State) (c : Bool) (f : Fld) (v : Nat) : State := if c then s.set f v else s

/-- Bit `b` of a field set. -/
def State.setBit (s : State) (f : Fld) (b : Nat) : State :=
  if bitOf (s.get f) b then s else s.set f (s.get f + 2 ^ b)

/-- Bit `b` of a field cleared. -/
def State.clrBit (s : State) (f : Fld) (b : Nat) : State :=
  if bitOf (s.get f) b then s.set f (s.get f - 2 ^ b) else s

/-- Bit `b` of a field given a value. -/
def State.putBit (s : State) (f : Fld) (b : Nat) (v : Bool) : State := if v then s.setBit f b else s.clrBit f b

/-- A field raised to a value if it lies below it: a peak register. -/
def State.raise (s : State) (f : Fld) (v : Nat) : State := if s.get f < v then s.set f v else s

/-- The fields of a register with indices from `i0` up to but not including `i1` return to their reset values. -/
def State.resetRegs (s : State) (r : RegName) (i0 i1 : Nat) : State :=
  { s with regs := Tab.clear s.regs (((r.ctorIdx * 4096 + i0) * 64) * 64) (((r.ctorIdx * 4096 + i1) * 64) * 64) }

/-! ### Whole registers -/

/-- What a field contributes to a read of its register: a write-only field reads as 0. -/
def State.readField (s : State) (r : RegName) (i j : Nat) (d : FieldDesc) : Nat :=
  match d.acc with
  | .wo => 0
  | _ => s.get ⟨r, i, j, d.lo, d.w⟩ * 2 ^ d.lo

/-- A register as a read of all its fields returns it; reserved bits are 0, but for the low bits of a guard's LIMIT
and of GLB_DIST_LIMIT, which read as ones; GLB_TIME is the device time, and word j of STL_TQ_POPq that of the host's holding register (R372). Log entry 12
(PRESUMED and DEDUCED). -/
def State.readReg (s : State) (r : RegName) (i j : Nat) : Nat :=
  match r with
  | .GLB_TIME => s.time % 2 ^ 64
  | .STL_TQ_POP => Tab.get (fun _ => 0) s.stile.popHold 0 / 2 ^ (32 * j) % 2 ^ 32
  | .GLB_DIST_LIMIT => ((fieldsOf r).map (s.readField r i j)).sum + 0xFF
  | .GLB_RGN_LIMIT => ((fieldsOf r).map (s.readField r i j)).sum + 0xFFF
  | _ => ((fieldsOf r).map (s.readField r i j)).sum

/-- The effect of a software write on one field by its access kind, for a register without rules of its own; only
fields within the written bits `lo` to `hi - 1` are reached. -/
def State.writeField (s : State) (r : RegName) (i j v lo hi : Nat) (d : FieldDesc) : State :=
  if d.lo < lo ∨ hi < d.lo + d.w then s
  else
    let f : Fld := ⟨r, i, j, d.lo, d.w⟩
    let x := bitsOf v d.lo d.w
    match d.acc with
    | .rw => s.set f x
    | .w1c => s.set f (Nat.land (s.get f) (2 ^ d.w - 1 - x))
    | .ro => s
    | .wo => s

/-- A software write of bits `lo` to `hi - 1` of a register: read-write fields are set, write-1-to-clear bits cleared. -/
def State.writeReg (s : State) (r : RegName) (i j v lo hi : Nat) : State :=
  (fieldsOf r).foldl (fun s d => s.writeField r i j v lo hi d) s

/-! ### Free values -/

/-- The next free value of `w` bits. Log entry 3 (DESIGN CHOICE). -/
def State.freeVal (s : State) (w : Nat) : Nat := (Config.freeValue w s.free).toNat

/-- The state after a free value has been drawn. Log entry 3 (DESIGN CHOICE). -/
def State.draw (s : State) : State := { s with free := s.free + 1 }

/-! ### Interrupts and errors -/

/-- Bit `v` set in a set of vectors. -/
def setMask (m v : Nat) : Nat := if bitOf m v then m else m + 2 ^ v

/-- Bit `v` cleared in a set of vectors. -/
def clrMask (m v : Nat) : Nat := if bitOf m v then m - 2 ^ v else m

/-- An event of interrupt vector `v` (R248, R485): its GLB_IRQ_EVENT bit is set, masked or not, and its message falls
due after the next boundary. -/
def State.signal (s : State) (v : Nat) : State :=
  let s := if v < 32 then s.setBit F.GLB_IRQ_EVENT_LO_EVENT v else s.setBit F.GLB_IRQ_EVENT_HI_EVENT (v - 32)
  { s with irq := { s.irq with now := setMask s.irq.now v } }

/-- Bit `b` of GLB_ERR_STATUS, by number. -/
def glbErrFld (b : Nat) : Fld := ⟨.GLB_ERR_STATUS, 0, 0, b, 1⟩

/-- Sets bit `b` of GLB_ERR_STATUS, and signals vector 45 where GLB_ERR_MASK enables it. -/
def State.glbErr (s : State) (b : Nat) : State :=
  let s' := s.set (glbErrFld b) 1
  if bitOf (s.get F.GLB_ERR_MASK_EN) b then s'.signal 45 else s'

/-- A message or completion sent to the outside. -/
def State.send (s : State) (o : Out) : State := { s with out := s.out ++ [o] }

/-! ### Power domains and reachable registers -/

/-- The switched power domains of R27. -/
inductive Domain where
  | quarter (q : Nat)
  | core (n : Nat)
  | stack (n : Nat)
  | pcie
  | lea
  | spine
  | stile
  deriving DecidableEq, Repr

/-- A start has begun since the main rails came up (R433, stages 1 and 2). Log entry 18 (DESIGN CHOICE). -/
def State.started (s : State) : Bool :=
  match s.heather.phase with
  | .railsDown => false
  | .rising => false
  | .held => false
  | .release => false
  | .starting => true
  | .on => true

/-- Whether a domain is powered, as PWR_DOMAIN reports it. The reset value of its spine bit is 1, and the spine is on only from
stage 2 of a start. Log entry 18 (DESIGN CHOICE). -/
def State.powered (s : State) : Domain → Bool
  | .quarter q => bitOf (s.get F.PWR_DOMAIN_QUARTER) q
  | .core n => bitOf (s.get F.PWR_DOMAIN_CORE) n
  | .stack n => bitOf (s.get F.PWR_DOMAIN_STACK) n
  | .pcie => s.on F.PWR_DOMAIN_PCIE
  | .lea => s.on F.PWR_DOMAIN_LEA
  | .spine => s.on F.PWR_DOMAIN_SPINE && s.started
  | .stile => s.on F.PWR_DOMAIN_STILE

/-- The fabric quarter of Tussock g (R19). -/
def quarterOf (g : Nat) : Nat := g / 16

/-- The channel of Tussock g (R19). -/
def chanOf (g : Nat) : Nat := g / 64

/-- The power domain that holds register `r` with index `i` (R27). -/
def regDomain (r : RegName) (i : Nat) : Domain :=
  match r with
  | .TSK_ARR_STATE | .TSK_ARR_STATUS | .TSK_ARR_CTRL | .TSK_ARR_EVENTS | .TSK_ARR_RESTORE | .TSK_ARR_WRITE
  | .TSK_ARR_RESTORE_CNT | .TSK_ARRAY_ROLE | .TSK_RESTORE_TEMP | .TSK_CONV_CFG | .TSK_CONV_SAT | .TSK_CONV_STATUS
  | .TSK_TABLE_ECC | .TSK_ID | .TSK_STATE | .TSK_CTRL | .TSK_CTRL_STATUS | .TSK_QUAR_CAUSE | .TSK_SEQ_STATUS
  | .TSK_SEQ_ERR | .TSK_CLK_STATUS | .TSK_SWAP | .TSK_BANK_ECC | .TSK_ROLE_MAP | .BRK_CFG | .BRK_CTRL | .BRK_STATUS
  | .BRK_CAL_CNT | .BRK_CAL_TIME | .BRK_DEFER | .BRK_SAVED_TEMP | .BRK_TRIM_SEL | .BRK_TRIM_DATA | .BRK_LAST_FAIL
  | .BRK_ARR_CAL | .BRK_ARR_TIME | .GRS_LANE_STATUS | .GRS_LANE_CNT | .GRS_ARB_LAST | .GRS_SHADOW_MAP =>
    .quarter (quarterOf i)
  | .CHN_ENG_RING_BASE | .CHN_ENG_CTRL_ADDR | .CHN_ENG_CPL_BASE | .CHN_ENG_CFG | .CHN_ENG_STATUS | .CHN_ENG_CONS
  | .CHN_ENG_PROD | .CHN_ENG_JOBS => .core (i / 4)
  | .CHN_HDG_ERR | .CHN_STK_ERR | .CHN_ADM_CFG | .CHN_ADM_BUDGET | .CHN_ADM_CTRL | .CHN_ADM_ADMITTED | .CHN_ADM_REFUSED
  | .CHN_ADM_HELD | .CHN_JOB_TIMEOUT | .CHN_TAGS | .CHN_ADM_SAT | .CHN_K1_TMPL | .CHN_K1_CFG | .CHN_LD_STATUS
  | .CHN_LD_PKG | .CHN_LD_CLAMP | .CHN_LD_CTRL => .core i
  | .PCI_BAR2_BASE | .PCI_T3_BASE | .PCI_T3_LAT | .PCI_T3_LATE | .PCI_ING_STALL | .PCI_LINK => .pcie
  | .LEA_PORT_CFG | .LEA_PORT_STATUS | .LEA_PORT_ERR | .LEA_PORT_FEC | .LEA_PORT_TX | .LEA_PORT_RX | .LEA_PORT_STAT
  | .LEA_NODE | .LEA_ROUTE | .LEA_CTRL_STAT | .LEA_STATUS => .lea
  | .STL_FIN_CFG | .STL_FIN_LIM | .STL_FIN_STAT | .STL_ENC_CFG | .STL_ENC_POS | .STL_TQ_CFG | .STL_TQ_STAT
  | .STL_TQ_CNT | .STL_TQ_POP | .STL_FOUT | .STL_FOUT_SAFE | .STL_AIN_CFG | .STL_AIN_MASK | .STL_AIN_PACE
  | .STL_AIN_CTRL | .STL_AIN_INJ | .STL_AIN_STATUS | .STL_AIN_CNT | .STL_AIN_OPEN | .STL_AIN_CAL_TGT
  | .STL_AIN_PASS_TIME | .STL_AIN_INJ_RES | .STL_AIN_RES | .STL_AIN_ENT | .STL_AIN_CHCFG | .STL_AIN_CAL
  | .STL_AOUT_CFG | .STL_AOUT_VALUE | .STL_AOUT_FTW | .STL_AOUT_SHAPE | .STL_AOUT_PHASE | .STL_AOUT_SAFE
  | .STL_AOUT_STATUS | .STL_AOUT_CTRL | .STL_PIN_FIN | .STL_PIN_ENC | .STL_PIN_OUT | .STL_PIN_STATUS => .stile
  | _ => .spine

/-- Every register name, in the order of `RegName`. -/
def allRegs : List RegName := (List.range 194).map RegName.ofNat

/-- A power domain as the register file sees it: which registers, and which of their indices, it holds. -/
def regSpan (r : RegName) (d : Domain) : Option (Nat × Nat) :=
  match d with
  | .quarter q => if regDomain r 0 = .quarter 0 then some (16 * q, 16 * q + 16) else none
  | .core n =>
    if regDomain r 0 = .core 0 then (if regDomain r 4 = .core 1 then some (4 * n, 4 * n + 4) else some (n, n + 1)) else none
  | .stack _ => none
  | d => if regDomain r 0 = d then some (0, 4096) else none

/-- Every register of a domain returns to its reset value. -/
def State.resetDomainRegs (s : State) (d : Domain) : State :=
  allRegs.foldl (fun s r => match regSpan r d with
    | some (i0, i1) => s.resetRegs r i0 i1
    | none => s) s

/-- The device has reported ready, or serves Fallow mode (R433, R450). -/
def State.serving (s : State) : Bool := s.on F.BOOT_STATUS_READY || s.on F.GLB_FALLOW_REASON_FALLOW

/-- Software can reach a register: its domain is powered, the device serves, and a Stile register's data port is not
lost (R12, R361, R435). A write to a register that is not reachable is dropped. Log entry 1 (DESIGN CHOICE). -/
def State.reach (s : State) (r : RegName) (i : Nat) : Bool :=
  s.serving && s.powered (regDomain r i) && !(regDomain r i == .stile && s.stile.linkLost)

/-- An effect that a register write has only when the register is reachable. Log entry 1 (DESIGN CHOICE). -/
def State.ifReach (s : State) (r : RegName) (i : Nat) (f : State → State) : State := if s.reach r i then f s else s

/-- The read completion data of an agent. -/
def State.answer (s : State) (a : Agent) (v : Nat) : State :=
  match a with
  | .host => { s with host := { s.host with readData := v } }
  | .mgmt => { s with mgmt := { s.mgmt with readData := v } }

/-! ### Stopped blocks -/

/-- The block with a refuser code of R425 is stopped: it has agreed to a power-state entry, or the device is in a state whose
entry asks it, which is not Idle for load engines, Lea, PCIe, stacks and the Stile die (R415, R419). Log entry 17 (DEDUCED). -/
def State.stopped (s : State) (code : Nat) : Bool :=
  decide ((if code / 16 = 4 ∨ 6 ≤ code / 16 then 2 else 1) ≤ s.get F.PWR_STATUS_STATE) || match s.entry with
    | some e => e.agreed.contains code
    | none => false

/-- The PCIe block is powered and has not stopped its work for a power state (R419). -/
def State.pcieRuns (s : State) : Bool := s.powered .pcie && !s.stopped 0x70

/-! ### Time -/

/-- The swath that device time stands in (R8). -/
def State.swath (s : State) : Nat := s.time / 8192

/-- The Stile copy of device time (R14). -/
def State.stileTime (s : State) : Nat := ((s.time : Int) + s.stile.skew).toNat

/-- The Stile copy of device time, or its suspect flag, is about to change: what stands is kept as long as a stamp may need it (R14, R360). -/
def State.stileNote (s : State) : State :=
  { s with stile := { s.stile with
      past := (s.time, s.stile.skew, s.stile.suspect) :: s.stile.past.filter fun p => decide (s.time ≤ p.1 + 327680) } }

/-- Skew and suspect flag of the Stile copy at a device time: what stood before the first change after it. -/
def State.stileAt (s : State) (t : Nat) : Int × Bool :=
  ((s.stile.past.takeWhile fun p => decide (t < p.1)).getLast?.map fun p => p.2).getD (s.stile.skew, s.stile.suspect)

/-- The stamp of a sample: the value of the Stile copy at it (R360). Log entry 5 (DEDUCED). -/
def State.stampAt (s : State) (t : Nat) : Nat := ((t : Int) + (s.stileAt t).1).toNat

end Sys2Proof.Machine
end

