-- ==== Sys2Proof/Machine/AnalogIn.lean ====
section
/-! DEFINITION. The field analogue inputs: scan, injected conversions, averaging and system calibration (R378 to R393). Log entries: 1, 5. -/

namespace Sys2Proof.Machine
open Sys2Proof

/-- What the two converters do. -/
def AinScan.adc (a : AinScan) (k : Nat) : AdcPhase := if k = 0 then a.adc0 else a.adc1

/-- The state with a new analogue input scan. -/
def State.withAin (s : State) (a : AinScan) : State := { s with stile := { s.stile with ain := a } }

/-- The end of converter `k`'s start-up. -/
def AinScan.up (a : AinScan) (k : Nat) : Nat := if k = 0 then a.up0 else a.up1

/-- The state with converter `k` in a phase; a start-up that begins takes 2 µs (R379). -/
def State.setAdc (s : State) (k : Nat) (p : AdcPhase) : State :=
  let a := s.stile.ain
  let up := match p, a.adc k with
    | .startup _, .startup _ => a.up k
    | .startup _, _ => s.stileTime + 2000
    | _, _ => a.up k
  if k = 0 then s.withAin { a with adc0 := p, up0 := up } else s.withAin { a with adc1 := p, up1 := up }

/-- Whether a converter is in a running conversion, start-up included (R389). -/
def AdcPhase.isRunning : AdcPhase → Bool
  | .down => false
  | .idle => false
  | .startup _ => true
  | .running _ => true

/-- The scan uses converter `k` (CONV_EN, R382). -/
def State.convEn (s : State) (k : Nat) : Bool := bitOf (s.get F.STL_AIN_CFG_CONV_EN) k

/-- Converter `k` is the warm injected converter (R389). -/
def State.warm (s : State) (k : Nat) : Bool := s.on F.STL_AIN_INJ_WARM && s.get F.STL_AIN_INJ_CONV == k

/-- Converter `k` is powered between conversions: under MODE 1 or 2, and when it is warm, but for a converter that a paced
scan uses (R379, R381, R383, R389). -/
def State.adcPowered (s : State) (k : Nat) : Bool :=
  let m := s.get F.STL_AIN_CFG_MODE
  m == 1 || m == 2 || (s.warm k && !(m == 3 && s.convEn k))

/-- The phase of converter `k` as a conversion ends. -/
def State.restPhase (s : State) (k : Nat) : AdcPhase := if s.adcPowered k then .idle else .down

/-- Converter `k` after a change of what powers it: a running conversion goes on, a converter that becomes powered begins
its start-up, and one that nothing powers is powered down (R379). -/
def State.settleAdc (s : State) (k : Nat) : State :=
  match s.stile.ain.adc k with
  | .running _ => s
  | .startup (some _) => s
  | .down => if s.adcPowered k then s.setAdc k (.startup none) else s
  | _ => if s.adcPowered k then s else s.setAdc k .down

/-- BUSY: a pass is in progress or a converter is in a running conversion. -/
def State.ainBusy (s : State) : State :=
  let a := s.stile.ain
  s.set F.STL_AIN_STATUS_BUSY (natOf (!a.passes.isEmpty || a.adc0.isRunning || a.adc1.isRunning))

/-- The channels of a mask, in ascending order (R380). -/
def maskChannels (m : Nat) : List Nat := (List.range 16).filter (fun c => bitOf m c)

/-- The coefficients of channel `c` on converter `k` and the time, captured as a conversion starts. -/
def State.newConv (s : State) (d : ConvDue) (injected : Bool) : Conv :=
  { pass := d.pass, entry := d.entry, ch := d.ch, injected := injected,
    ofs := sgn 16 (s.get (F.STL_AIN_CAL_OFS d.ch d.conv)), gain := s.get (F.STL_AIN_CAL_GAIN d.ch d.conv),
    acq := s.stileTime }

/-- Converter `k` takes a conversion: at once when it is powered and the scan is not paced, else after a start-up. -/
def State.startConv (s : State) (d : ConvDue) (injected paced : Bool) : State :=
  let c := s.newConv d injected
  if s.stile.ain.adc d.conv = .down ∨ paced = true then s.setAdc d.conv (.startup (some c))
  else s.setAdc d.conv (.running c)

/-- The mask of STL_AIN_MASK latched for a new pass, its conversions assigned to converters (R380, R382); a calibration
step whose channel the new mask leaves out ends with CAL_ERR (R391). An empty mask, written while the scan runs, begins no
pass (log entry 5). -/
def State.beginPass (s : State) : State :=
  let mask := s.get F.STL_AIN_MASK_MASK
  let chs := maskChannels mask
  let a := s.stile.ain
  let cont := s.get F.STL_AIN_CFG_MODE == 2
  let both := s.convEn 0 && s.convEn 1
  let conv := fun (n : Nat) =>
    if both then (if cont then (a.assigned + n) % 2 else n % 2) else if s.convEn 0 then 0 else 1
  let items := (List.range chs.length).map fun n =>
    ({ pass := a.nextPass, entry := n, ch := chs.getD n 0, conv := conv n } : ConvDue)
  let p : Pass := { id := a.nextPass, mask := mask, n := chs.length, time0 := s.stileTime + 60, vals := [] }
  let lost := match a.cal with
    | some c => !bitOf mask c.ch
    | none => false
  let s := s.withAin { a with due := a.due ++ items, passes := if chs.isEmpty then a.passes else a.passes ++ [p],
                              nextPass := a.nextPass + 1, assigned := a.assigned + chs.length, cal := if lost then none else a.cal }
  let s := s.set F.STL_AIN_STATUS_SEQ_LEN chs.length
  if lost then ((s.set F.STL_AIN_STATUS_CAL_ERR 1).set F.STL_AIN_STATUS_CAL_BUSY 0).signal 41 else s

/-- The next conversion due on converter `k`, with the rest. -/
def takeDue (k : Nat) : List ConvDue → Option (ConvDue × List ConvDue)
  | [] => none
  | d :: ds =>
    if d.conv = k then some (d, ds)
    else match takeDue k ds with
      | some (e, es) => some (e, d :: es)
      | none => none

/-- In continuous scan new passes begin, at most `n`, until a conversion is due on converter `k`. -/
def State.beginFor (s : State) (k : Nat) : Nat → State
  | 0 => s
  | n + 1 => if (takeDue k s.stile.ain.due).isSome then s else s.beginPass.beginFor k n

/-- Converter `k`, when free, starts the next scan conversion that is due on it; in continuous scan a new pass begins
when none is due, and a second one when the first is all on the other converter. -/
def State.feed (s : State) (k : Nat) : State :=
  if (s.stile.ain.adc k).isRunning ∨ s.convEn k = false ∨ s.get F.STL_AIN_CFG_MODE = 0 then s
  else
    let s := if s.get F.STL_AIN_CFG_MODE = 2 then s.beginFor k 2 else s
    match takeDue k s.stile.ain.due with
    | some (d, ds) => (s.withAin { s.stile.ain with due := ds }).startConv d false (s.get F.STL_AIN_CFG_MODE == 3)
    | none => s

/-- A continuous scan takes up its converters. With both enabled it begins once both are powered: the one that the next
conversion is assigned to starts, and the other one 100 ns later (R382, R384; log entry 5 on the wait). -/
def State.contFeed (s : State) : State :=
  if s.convEn 0 && s.convEn 1 then
    if s.stile.ain.adc0 = .idle ∧ s.stile.ain.adc1 = .idle then
      let k := match s.stile.ain.due with
        | d :: _ => d.conv
        | [] => s.stile.ain.assigned % 2
      let s := s.feed k
      if (s.stile.ain.adc k).isRunning then
        let s := s.setAdc (1 - k) (.startup none)
        if k = 0 then s.withAin { s.stile.ain with up1 := s.stileTime + 100 }
        else s.withAin { s.stile.ain with up0 := s.stileTime + 100 }
      else s
    else s
  else (s.feed 0).feed 1

/-- A pass starts in single or paced scan: both converters start what is due on them. -/
def State.startPass (s : State) : State := ((s.beginPass.feed 0).feed 1).ainBusy

/-- The scan refuses this STL_AIN_CFG value as a scan mode (R384, R392). -/
def scanRefused (v mask : Nat) : Bool :=
  let mode := bitsOf v 0 2
  let en := bitsOf v 2 2
  en == 0 || mask == 0 || bitsOf v 8 4 > 8 ||
    (bitOf v 4 && !(mode == 2 && en == 3 && (maskChannels mask).length == 1))

/-- A calibration step that MODE off ends is ended with CAL_ERR (R391). -/
def State.calAbort (s : State) : State :=
  match s.stile.ain.cal with
  | none => s
  | some _ =>
    (((s.withAin { s.stile.ain with cal := none }).set F.STL_AIN_STATUS_CAL_ERR 1).set F.STL_AIN_STATUS_CAL_BUSY 0).signal 41

/-- MODE becomes off: nothing further starts, running conversions end by themselves (R392). -/
def State.ainOff (s : State) : State :=
  let s := s.set F.STL_AIN_CFG_MODE 0
  let s := s.calAbort
  let a := s.stile.ain
  let s := s.withAin { a with due := [], passes := [], startWaits := 0, groupCnt := 0, sums := [] }
  ((s.settleAdc 0).settleAdc 1).ainBusy

/-- A field of STL_AIN_CFG write in full. -/
def State.setAinCfg (s : State) (v : Nat) : State := s.writeReg .STL_AIN_CFG 0 0 v 0 32

/-- A write of STL_AIN_CFG (R381, R392). -/
def State.ainModeWrite (s : State) (v : Nat) : State :=
  let off := bitsOf v 0 2 == 0
  if s.on F.STL_AIN_CFG_MODE || s.on F.STL_AIN_STATUS_BUSY then
    if off then s.ainOff else s.set F.STL_AIN_STATUS_CFG_REJECT 1
  else if off then s.setAinCfg v
  else if scanRefused v (s.get F.STL_AIN_MASK_MASK) then s.set F.STL_AIN_STATUS_CFG_REJECT 1
  else
    let s := s.setAinCfg v
    let s := s.withAin { s.stile.ain with due := [], passes := [], assigned := 0, startWaits := 0, groupMask := 0,
                                          groupCnt := 0, sums := [],
                                          paceAt := s.stileTime + 10 * s.get F.STL_AIN_PACE_PERIOD }
    let s := (s.settleAdc 0).settleAdc 1
    if s.get F.STL_AIN_CFG_MODE = 2 then s.contFeed.ainBusy else s.ainBusy

/-- A write of STL_AIN_MASK (R380, R392): it takes effect at the next pass, and a continuous scan that an empty mask has
brought to a stop goes on. -/
def State.ainMaskWrite (s : State) (v : Nat) : State :=
  if s.on F.STL_AIN_CFG_INTERLEAVE && decide (1 < (maskChannels (v % 2 ^ 16)).length) then s.set F.STL_AIN_STATUS_CFG_REJECT 1
  else
    let s := s.set F.STL_AIN_MASK_MASK (v % 2 ^ 16)
    if s.get F.STL_AIN_CFG_MODE = 2 then s.contFeed.ainBusy else s

/-- A write of STL_AIN_PACE, STL_AIN_INJ or STL_AIN_CHCFGc: only while the scan is off and idle; reserved values are
refused (R388, R392). WARM powers its converter. -/
def State.ainConfigWrite (s : State) (r : AinCfgReg) (v : Nat) : State :=
  let reject := s.set F.STL_AIN_STATUS_CFG_REJECT 1
  if s.on F.STL_AIN_CFG_MODE || s.on F.STL_AIN_STATUS_BUSY then reject
  else match r with
    | .pace =>
      let src := bitsOf v 24 2
      let sel := bitsOf v 26 5
      if (src = 1 ∧ 23 < sel) ∨ (src = 2 ∧ 3 < sel) then reject else s.writeReg .STL_AIN_PACE 0 0 v 0 32
    | .inj =>
      if 23 < bitsOf v 7 5 then reject
      else
        let s := s.writeReg .STL_AIN_INJ 0 0 v 0 32
        ((s.settleAdc 0).settleAdc 1).ainBusy
    | .chcfg c =>
      if bitsOf v 1 2 = 3 ∨ bitsOf v 3 2 = 3 then reject else s.writeReg .STL_AIN_CHCFG c 0 v 0 32

/-- A pace event (R383): it starts a pass in paced scan, or counts as an overrun during one. -/
def State.paceEvent (s : State) : State :=
  if s.get F.STL_AIN_CFG_MODE ≠ 3 then s
  else if s.stile.ain.passes.isEmpty then s.startPass
  else ((s.inc F.STL_AIN_CNT_PACE_OVR_CNT).set F.STL_AIN_STATUS_PACE_OVR 1).signal 41

/-- A converter that the scan uses is in the start-up of R379 that no conversion waits for. -/
def State.ainStarting (s : State) : Bool :=
  let a := s.stile.ain
  (s.convEn 0 && a.adc0 == .startup none) || (s.convEn 1 && a.adc1 == .startup none)

/-- In single scan a write of START that has waited begins its pass, once the start-up and the pass before have ended. Log entry 5 (DESIGN CHOICE). -/
def State.startNext (s : State) : State :=
  let a := s.stile.ain
  if s.get F.STL_AIN_CFG_MODE = 1 ∧ a.startWaits ≠ 0 ∧ a.passes = [] ∧ s.ainStarting = false then
    (s.withAin { a with startWaits := a.startWaits - 1 }).startPass
  else s

/-- A write of START (R381, R383): in single scan one written during a pass or a start-up waits for its end (log entry
5). -/
def State.ainStart (s : State) : State :=
  if s.get F.STL_AIN_CFG_MODE = 1 then
    if s.stile.ain.passes.isEmpty && !s.ainStarting then s.startPass
    else s.withAin { s.stile.ain with startWaits := s.stile.ain.startWaits + 1 }
  else if s.get F.STL_AIN_PACE_SRC = 3 then s.paceEvent
  else s

/-- An injected request (R389). -/
def State.injRequest (s : State) : State :=
  let k := s.get F.STL_AIN_INJ_CONV
  if (s.stile.ain.adc k).isRunning then
    ((s.inc F.STL_AIN_CNT_INJ_DROP_CNT).set F.STL_AIN_STATUS_INJ_DROP 1).signal 41
  else (s.startConv { pass := 0, entry := 0, ch := s.get F.STL_AIN_INJ_CH, conv := k } true false).ainBusy

/-- A CAL_CMD (R390, R391): dropped while a step collects, while the scan is off, or for a channel outside the mask. -/
def State.calStart (s : State) (c : Nat) (gain : Bool) : State :=
  if s.on F.STL_AIN_STATUS_CAL_BUSY || !s.on F.STL_AIN_CFG_MODE || !bitOf (s.get F.STL_AIN_MASK_MASK) c then
    s.set F.STL_AIN_STATUS_CFG_REJECT 1
  else
    (s.withAin { s.stile.ain with cal := some { ch := c, gain := gain, cnt0 := 0, cnt1 := 0, sum0 := 0, sum1 := 0,
                                                low := 0, high := 0 } }).set F.STL_AIN_STATUS_CAL_BUSY 1

/-- Lowest and highest raw code of a channel's format (R378). -/
def codeRange (fmt : Nat) : Int × Int := if fmt = 0 then (0, 65535) else (-32768, 32767)

/-- The corrected value of a raw code (R385). -/
def adcCorrect (fmt : Nat) (ofs : Int) (gain : Nat) (r : Int) : Int :=
  clampInt (codeRange fmt).1 (codeRange fmt).2 (rne ((8 * r - ofs) * gain) 17)

/-- A raw code joins the calibration step of its channel, up to 256 on each converter (R390). -/
def CalStep.collect (c : CalStep) (k : Nat) (r lo hi : Int) : CalStep :=
  let c' := { c with low := c.low + natOf (r == lo), high := c.high + natOf (r == hi) }
  if k = 0 then (if c.cnt0 < 256 then { c' with cnt0 := c.cnt0 + 1, sum0 := c.sum0 + r } else c)
  else (if c.cnt1 < 256 then { c' with cnt1 := c.cnt1 + 1, sum1 := c.sum1 + r } else c)

/-- The number of the ADC clock that runs. -/
def State.adcClock (s : State) : Nat := s.stileTime / 10

/-- A host write of STL_AIN_CALc_k: dropped in the clock in which a calibration step writes that register (R393). -/
def State.ainCalWrite (s : State) (c k v : Nat) : State :=
  let a := s.stile.ain
  if a.calAt.contains (c, k, s.adcClock) then s.set F.STL_AIN_STATUS_CFG_REJECT 1
  else
    let here := a.calHost.filter fun p => p.1.2.2 == s.adcClock
    let known := here.any fun p => p.1 == (c, k, s.adcClock)
    (s.writeReg .STL_AIN_CAL c k v 0 32).withAin { a with calHost :=
      if known then here else ((c, k, s.adcClock), s.readReg .STL_AIN_CAL c k) :: here }

/-- The registers of channel `c` that a calibration step writes: those of the enabled converters. -/
def State.calRegs (s : State) (c : Nat) : List (Nat × Nat × Nat) :=
  (([0, 1] : List Nat).filter s.convEn).map fun k => (c, k, s.adcClock)

/-- The state without the host writes, in this ADC clock, of the coefficients a calibration step of channel `c` writes: the
device's write takes effect and the host's is dropped (R393). -/
def State.calUndo (s : State) (c : Nat) : State :=
  let mine := s.stile.ain.calHost.filter fun p => (s.calRegs c).contains p.1
  (mine.foldl (fun (u : State) p => u.writeReg .STL_AIN_CAL p.1.1 p.1.2.1 p.2 0 32) s).setIf (!mine.isEmpty) F.STL_AIN_STATUS_CFG_REJECT 1

/-- A calibration step has written the coefficients of a channel. -/
def State.calWritten (s : State) (c : Nat) : State := s.withAin { s.stile.ain with calAt := s.calRegs c }

/-- The new GAIN of the GAIN step on converter `k` with sum `sum` of raw codes, or none when R391 forbids it. -/
def State.calGain (s : State) (c k : Nat) (sum : Int) : Option Nat :=
  let fmt := s.get (F.STL_AIN_CHCFG_FMT c)
  let t := s.get F.STL_AIN_CAL_TGT_TARGET
  let target : Int := if fmt = 0 then (t : Int) else sgn 16 t
  let ofs := sgn 16 (s.get (F.STL_AIN_CAL_OFS c k))
  let a := 8 * sum - 256 * ofs
  if target = 0 ∨ a = 0 ∨ (0 < a) ≠ (0 < target) then none
  else
    let g := rneDiv (2 ^ 25 * target) a
    if g < 0x2000 ∨ 0x7FFF < g then none else some g.toNat

/-- The end of a calibration step: new coefficients on every enabled converter, or CAL_ERR and none (R390, R391). -/
def State.calEnd (s : State) (c : CalStep) : State :=
  let s := (s.withAin { s.stile.ain with cal := none }).set F.STL_AIN_STATUS_CAL_BUSY 0
  let err := (s.set F.STL_AIN_STATUS_CAL_ERR 1).signal 41
  let s := s.calUndo c.ch
  if c.gain then
    let g0 := if s.convEn 0 then s.calGain c.ch 0 c.sum0 else some (s.get (F.STL_AIN_CAL_GAIN c.ch 0))
    let g1 := if s.convEn 1 then s.calGain c.ch 1 c.sum1 else some (s.get (F.STL_AIN_CAL_GAIN c.ch 1))
    match g0, g1 with
    | some g0, some g1 =>
      if c.high ≠ 0 then err
      else (((s.set (F.STL_AIN_CAL_GAIN c.ch 0) g0).set (F.STL_AIN_CAL_GAIN c.ch 1) g1).set
        F.STL_AIN_STATUS_CAL_DONE 1).signal 41 |>.calWritten c.ch
    | _, _ => err
  else if 16 < c.low then err
  else
    let put := fun (s : State) (k : Nat) (sum : Int) =>
      if s.convEn k then s.set (F.STL_AIN_CAL_OFS c.ch k) (unsgn 16 (rne sum 5)) else s
    (((put (put s 0 c.sum0) 1 c.sum1).set F.STL_AIN_STATUS_CAL_DONE 1).signal 41).calWritten c.ch

/-- The raw code of a scan conversion reaches the calibration step; the step ends with its 256th code on every enabled
converter. -/
def State.calFeed (s : State) (ch k : Nat) (r lo hi : Int) : State :=
  match s.stile.ain.cal with
  | none => s
  | some c =>
    if c.ch ≠ ch then s
    else
      let c := c.collect k r lo hi
      if (!s.convEn 0 || c.cnt0 == 256) && (!s.convEn 1 || c.cnt1 == 256) then s.calEnd c
      else s.withAin { s.stile.ain with cal := some c }

/-- A result placed in its 32-bit register (R387). -/
def placeResult (align fmt : Nat) (y : Int) : Nat :=
  if align = 1 then unsgn 16 y * 2 ^ 16 else if fmt = 0 then unsgn 16 y else unsgn 32 y

/-- The sum of an entry's value into the averaging group. -/
def addSum (sums : List (Nat × Int)) (n : Nat) (v : Int) : List (Nat × Int) :=
  Tab.set (fun _ => 0) sums n (Tab.get (fun _ => 0) sums n + v)

/-- The result of entry `n` of a group written to its registers (R386). -/
def State.writeResult (s : State) (sums : List (Nat × Int)) (n ch conv : Nat) : State :=
  let y := rne (Tab.get (fun _ => 0) sums n) (s.get F.STL_AIN_CFG_OVS)
  let s := if s.on (F.STL_AIN_ENT_NEW n) then s.set (F.STL_AIN_ENT_OVW n) 1 else s
  let s := s.set (F.STL_AIN_RES_DATA n) (placeResult (s.get F.STL_AIN_CFG_ALIGN) (s.get (F.STL_AIN_CHCFG_FMT ch)) y)
  ((s.set (F.STL_AIN_ENT_NEW n) 1).set (F.STL_AIN_ENT_CH n) ch).set (F.STL_AIN_ENT_CONV n) conv

/-- A pass ends: it joins the averaging group, and the last pass of a group writes results (R386). -/
def State.passEnd (s : State) (p : Pass) : State :=
  let a := s.stile.ain
  let fresh := a.groupCnt = 0 ∨ a.groupMask ≠ p.mask
  let sums := p.vals.foldl (fun t (n, _, _, v) => addSum t n v) (if fresh then [] else a.sums)
  let cnt := (if fresh then 0 else a.groupCnt) + 1
  if cnt < 2 ^ s.get F.STL_AIN_CFG_OVS then
    s.withAin { a with groupMask := p.mask, groupCnt := cnt, sums := sums }
  else
    let s := s.withAin { a with groupMask := p.mask, groupCnt := 0, sums := [] }
    let s := p.vals.foldl (fun s (n, ch, k, _) => s.writeResult sums n ch k) s
    let s := (s.set F.STL_AIN_STATUS_PASS_DONE 1).set F.STL_AIN_PASS_TIME_TIME p.time0
    if s.on F.STL_AIN_CFG_IRQ_PASS then s.signal 41 else s

/-- A corrected value joins its pass; a pass with all its values ends. -/
def State.passValue (s : State) (c : Conv) (k : Nat) (y : Int) : State :=
  let a := s.stile.ain
  match a.passes.find? (fun p => p.id == c.pass) with
  | none => s
  | some p =>
    let p' := { p with vals := p.vals ++ [(c.entry, c.ch, k, y)], time0 := if c.entry = 0 then c.acq + 60 else p.time0 }
    if p'.vals.length < p'.n then
      s.withAin { a with passes := a.passes.map fun q => if q.id = p.id then p' else q }
    else (s.withAin { a with passes := a.passes.filter fun q => q.id != p.id }).passEnd p'

/-- The end of a conversion on converter `k`, 200 ns after its acquisition began (R379, R385 to R390): open-wire test, correction, result, and the next
conversion that is due. -/
def State.convEnd (s : State) (k raw : Nat) : State :=
  match s.stile.ain.adc k with
  | .running c =>
    if s.stileTime < c.acq + 200 then s
    else
    let fmt := s.get (F.STL_AIN_CHCFG_FMT c.ch)
    let r : Int := if fmt = 0 then (raw : Int) else sgn 16 raw
    let (lo, hi) := codeRange fmt
    let ow := s.on (F.STL_AIN_CHCFG_OW_P c.ch) || s.on (F.STL_AIN_CHCFG_OW_N c.ch)
    let s := if ow && (r == lo || r == hi) then
        ((s.setBit F.STL_AIN_OPEN_CH c.ch).set F.STL_AIN_STATUS_OPEN 1).signal 41
      else s
    let y := adcCorrect fmt c.ofs c.gain r
    let s := s.setAdc k (s.restPhase k)
    let s := if c.injected then
        (((((s.set F.STL_AIN_INJ_RES_DATA (unsgn 16 y)).set F.STL_AIN_INJ_RES_CH c.ch).set F.STL_AIN_INJ_RES_CONV k).set
          F.STL_AIN_INJ_RES_NEW 1).set F.STL_AIN_STATUS_INJ_DONE 1).signal 41
      else (s.passValue c k y).calFeed c.ch k r lo hi
    (s.feed k).startNext.ainBusy
  | _ => s

/-- The end of a start-up of converter `k` (R379): the acquisition of its conversion begins, or it is powered and idle. -/
def State.startupEnd (s : State) (k : Nat) : State :=
  if s.stileTime < s.stile.ain.up k then s
  else match s.stile.ain.adc k with
  | .startup (some c) => s.setAdc k (.running { c with acq := s.stileTime })
  | .startup none =>
    let s := s.setAdc k .idle
    if s.get F.STL_AIN_CFG_MODE = 2 then
      (if (s.stile.ain.adc (1 - k)).isRunning && s.stile.ain.adc (1 - k) != .startup none then s.feed k else s.contFeed).ainBusy
    else s.startNext.ainBusy
  | _ => s

/-- An effect inside the Stile die, which acts only while its domain is powered. Log entry 1 (DESIGN CHOICE). -/
def State.ifStile (s : State) (f : State → State) : State := if s.powered .stile then f s else s

/-! ### The commands -/

/-- `AIN_MODE_WRITE` (R392). -/
def execAinModeWrite (v : Word) (s : State) : Host.Outcome State Fault Refusal :=
  .next (s.ifReach .STL_AIN_CFG 0 (fun s => s.ainModeWrite v.toNat))

/-- `AIN_CONFIG_WRITE` (R392). -/
def execAinConfigWrite (r : AinCfgReg) (v : Word) (s : State) : Host.Outcome State Fault Refusal :=
  .next (s.ifReach .STL_AIN_PACE 0 (fun s => s.ainConfigWrite r v.toNat))

/-- `AIN_START` (R381, R383). -/
def execAinStart (s : State) : Host.Outcome State Fault Refusal :=
  .next (s.ifReach .STL_AIN_CTRL 0 State.ainStart)

/-- `AIN_INJ_GO` (R389). -/
def execAinInjGo (s : State) : Host.Outcome State Fault Refusal :=
  .next (s.ifReach .STL_AIN_CTRL 0 State.injRequest)

/-- `AIN_CAL_ZERO` (R390). -/
def execAinCalZero (c : AinCh) (s : State) : Host.Outcome State Fault Refusal :=
  .next (s.ifReach .STL_AIN_CTRL 0 (fun s => s.calStart c false))

/-- `AIN_CAL_GAIN` (R390). -/
def execAinCalGain (c : AinCh) (s : State) : Host.Outcome State Fault Refusal :=
  .next (s.ifReach .STL_AIN_CTRL 0 (fun s => s.calStart c true))

/-- `AIN_PACE_TIMER` (R383): under SRC 0 and once PERIOD × 10 ns have passed since the last expiry. -/
def execAinPaceTimer (s : State) : Host.Outcome State Fault Refusal :=
  .next (s.ifStile fun s =>
    let a := s.stile.ain
    if s.get F.STL_AIN_CFG_MODE = 3 ∧ s.get F.STL_AIN_PACE_SRC = 0 ∧ a.paceAt ≤ s.stileTime then
      (s.withAin { a with paceAt := a.paceAt + 10 * s.get F.STL_AIN_PACE_PERIOD }).paceEvent
    else s)

/-- `ADC_STARTUP_END` (R379). -/
def execAdcStartupEnd (k : Fin 2) (s : State) : Host.Outcome State Fault Refusal :=
  .next (s.ifStile (fun s => s.startupEnd k))

/-- `ADC_CONVERSION_END` (R385). -/
def execAdcConversionEnd (k : Fin 2) (raw : BitVec 16) (s : State) : Host.Outcome State Fault Refusal :=
  .next (s.ifStile (fun s => s.convEnd k raw.toNat))

/-- `AIN_RES_READ` (R386): a read returns the result and clears its NEW. -/
def execAinResRead (n : AinCh) (r : Agent) (s : State) : Host.Outcome State Fault Refusal :=
  .next (if s.reach .STL_AIN_RES n then
      (s.answer r (s.readReg .STL_AIN_RES n 0)).set (F.STL_AIN_ENT_NEW n) 0
    else s.answer r 0xFFFFFFFF)

/-- `AIN_INJ_RES_READ` (R389): a read returns the injected result and clears NEW. -/
def execAinInjResRead (r : Agent) (s : State) : Host.Outcome State Fault Refusal :=
  .next (if s.reach .STL_AIN_INJ_RES 0 then
      (s.answer r (s.readReg .STL_AIN_INJ_RES 0 0)).set F.STL_AIN_INJ_RES_NEW 0
    else s.answer r 0xFFFFFFFF)

/-- `AIN_CNT_CLR`. -/
def execAinCntClr (s : State) : Host.Outcome State Fault Refusal :=
  .next (s.ifReach .STL_AIN_CNT 0 fun s => (s.set F.STL_AIN_CNT_INJ_DROP_CNT 0).set F.STL_AIN_CNT_PACE_OVR_CNT 0)

end Sys2Proof.Machine
end

