-- ==== Sys2Proof/Machine/AnalogOut.lean ====
section
/-! DEFINITION. The field analogue outputs: staged fields and updates, synthesis, phase events and the safe state
(R394 to R400). Log entries: 5. -/

namespace Sys2Proof.Machine
open Sys2Proof

/-- Output `k`'s fields in force and phase accumulator. -/
def State.aout (s : State) (k : Nat) : Aout := Tab.get (fun _ => {}) s.stile.aouts k

/-- The state with output `k`'s fields in force replaced. -/
def State.setAout (s : State) (k : Nat) (o : Aout) : State :=
  { s with stile := { s.stile with aouts := Tab.set (fun _ => {}) s.stile.aouts k o } }

/-- DAC clocks of 1.5 GHz since device time 0 (R23). -/
def State.dacClock (s : State) : Nat := 3 * s.time / 2

/-- The accumulator of an output at DAC clock `n`, not yet reduced modulo 2^48 (R396). -/
def Aout.accAt (o : Aout) (n : Nat) : Nat := o.acc + o.ftw * (n - o.clk)

/-- The output with its accumulator brought to DAC clock `n`. -/
def Aout.rebase (o : Aout) (n : Nat) : Aout := { o with acc := o.accAt n % 2 ^ 48, clk := n, mark := n }

/-- The 16-bit phase of output `k` at DAC clock `n`, not reduced modulo 65,536 (R396). -/
def Aout.phaseAt (o : Aout) (n : Nat) : Int := ((o.accAt n / 2 ^ 32 + o.pofs : Nat) : Int)

/-- A phase event arises between the clocks `mark` and `n`: TRIG lies in the interval the phase has passed (R398). -/
def Aout.passes (o : Aout) (trig n : Nat) : Bool :=
  (o.phaseAt o.mark - trig) / 65536 < (o.phaseAt n - trig) / 65536

/-- A phase event that has arisen up to DAC clock `n` and that no command has taken: TRIG_EN and TRIG count as they stand
in each clock (R398). Log entry 5 (DESIGN CHOICE). -/
def State.phaseDue (s : State) (k n : Nat) : Bool :=
  (s.aout k).owed || (s.on (F.STL_AOUT_CFG_TRIG_EN k) && (s.aout k).passes (s.get (F.STL_AOUT_PHASE_TRIG k)) n)

/-- Output `k` now: its accumulator brought to this DAC clock and its phase events noted. -/
def State.aoutNow (s : State) (k : Nat) : Aout :=
  { (s.aout k).rebase s.dacClock with owed := s.phaseDue k s.dacClock }

/-- The output `o` with its phase set anew, to that of `p`, in the clock after: a phase event arises where TRIG lies in the
interval from the phase before, exclusive, to the new one, modulo 65,536 (R398). -/
def State.aoutJump (s : State) (k : Nat) (o p : Aout) : Aout :=
  let d := fun (x : Int) => (x - o.phaseAt o.clk) % 65536
  let trig : Int := (s.get (F.STL_AOUT_PHASE_TRIG k) : Int)
  { p with owed := o.owed || (s.on (F.STL_AOUT_CFG_TRIG_EN k) && decide (0 < d trig ∧ d trig ≤ d (p.phaseAt p.clk))) }

/-- The shadow fields of output `k` put in force (R397). -/
def State.applyShadow (s : State) (k : Nat) (o : Aout) : Aout :=
  { o with src := s.get (F.STL_AOUT_CFG_SRC k), gain := s.get (F.STL_AOUT_CFG_GAIN k),
           connect := s.get (F.STL_AOUT_CFG_CONNECT k), code := s.get (F.STL_AOUT_VALUE_CODE k),
           ftw := s.get (F.STL_AOUT_FTW_FTW k), amp := s.get (F.STL_AOUT_SHAPE_AMP k),
           offset := s.get (F.STL_AOUT_SHAPE_OFFSET k), pofs := s.get (F.STL_AOUT_PHASE_POFS k) }

/-- An update of output `k` takes effect, with or without SYNC (R397). -/
def State.aoutApply (s : State) (k : Nat) (sync : Bool) : State :=
  let o := s.aoutNow k
  let p := s.applyShadow k (if sync then { o with acc := 0 } else o)
  (s.setAout k (s.aoutJump k o p)).set (F.STL_AOUT_STATUS_UPD_PENDING k) 0

/-- A write of UPDATE bit `k`, with SYNC bit `k` or not: in the safe state, and under UPD_WRAP with SRC 1 and no SYNC,
the update stays pending (R397, R399). -/
def State.aoutUpdate (s : State) (k : Nat) (sync : Bool) : State :=
  let wait := s.on (F.STL_AOUT_STATUS_IN_SAFE k) ||
    (s.on (F.STL_AOUT_CFG_UPD_WRAP k) && (s.aout k).src == 1 && !sync)
  if wait then
    let o := s.aoutNow k
    (s.setAout k (if sync then s.aoutJump k o { o with acc := 0 } else o)).set (F.STL_AOUT_STATUS_UPD_PENDING k) 1
  else s.aoutApply k sync

/-- A write of SYNC bit `k` alone: the accumulator becomes 0. -/
def State.aoutSync (s : State) (k : Nat) : State :=
  let o := s.aoutNow k
  s.setAout k (s.aoutJump k o { o with acc := 0 })

/-- Output `k` enters its safe state with a cause of R399, or takes note of a further cause. -/
def State.aoutSafe (s : State) (k cause : Nat) : State :=
  let o := s.aout k
  let s := if cause = 1 ∨ cause = 6 then s else s.setAout k { o with causes := setMask o.causes cause }
  let s := if s.on (F.STL_AOUT_STATUS_CAUSE k) then s else s.set (F.STL_AOUT_STATUS_CAUSE k) cause
  if s.on (F.STL_AOUT_STATUS_IN_SAFE k) then s else (s.set (F.STL_AOUT_STATUS_IN_SAFE k) 1).signal 42

/-- Every output enters its safe state with a cause. -/
def State.allAoutSafe (s : State) (cause : Nat) : State :=
  (((s.aoutSafe 0 cause).aoutSafe 1 cause).aoutSafe 2 cause).aoutSafe 3 cause

/-- A cause of R399 ends for output `k`; the output stays in the safe state until it is released. -/
def State.aoutCauseEnds (s : State) (k cause : Nat) : State :=
  s.setAout k { s.aout k with causes := clrMask (s.aout k).causes cause }

/-- A cause of R399 ends for every output. -/
def State.allCauseEnds (s : State) (cause : Nat) : State :=
  (((s.aoutCauseEnds 0 cause).aoutCauseEnds 1 cause).aoutCauseEnds 2 cause).aoutCauseEnds 3 cause

/-- A write of RELEASE bit `k` (R399). -/
def State.aoutRelease (s : State) (k : Nat) : State :=
  if (s.aout k).causes = 0 then
    ((s.set (F.STL_AOUT_STATUS_IN_SAFE k) 0).set (F.STL_AOUT_STATUS_CAUSE k) 0).aoutApply k true
  else s.set (F.STL_AOUT_STATUS_RELEASE_REJECT k) 1

/-- The phase events of output `k` up to now noted, before TRIG_EN or TRIG changes (R398). -/
def State.aoutNote (s : State) (k : Nat) : State :=
  s.setAout k { s.aout k with owed := s.phaseDue k s.dacClock, mark := s.dacClock }

/-- A write of a register of output `k` that holds staged fields: only the shadow copy changes; a reserved SRC drops
the write (R395, R397). TRIG_EN and TRIG are not staged: they count from this clock on (R398). -/
def State.aoutWrite (s : State) (k : Nat) (r : AoutReg) (v : Nat) : State :=
  match r with
  | .cfg =>
    if 1 < bitsOf v 0 2 then s.set (F.STL_AOUT_STATUS_CFG_REJECT k) 1 else (s.aoutNote k).writeReg .STL_AOUT_CFG k 0 v 0 32
  | .value => s.writeReg .STL_AOUT_VALUE k 0 v 0 32
  | .ftw => s.writeReg .STL_AOUT_FTW k 0 v 0 64
  | .shape => s.writeReg .STL_AOUT_SHAPE k 0 v 0 32
  | .phase => (s.aoutNote k).writeReg .STL_AOUT_PHASE k 0 v 0 32

/-- One write of STL_AOUT_CTRL, output by output: FORCE_SAFE, then UPDATE and SYNC together, then RELEASE, which a new
cause of the same write turns away (R397, R399). -/
def State.aoutCtrl (s : State) (v : Nat) : State :=
  [0, 1, 2, 3].foldl (fun s k =>
    let force := bitOf v (8 + k)
    let s := if force then s.aoutSafe k 6 else s
    let s := if bitOf v k then s.aoutUpdate k (bitOf v (4 + k)) else if bitOf v (4 + k) then s.aoutSync k else s
    if bitOf v (12 + k) then
      (if force then s.set (F.STL_AOUT_STATUS_RELEASE_REJECT k) 1 else s.aoutRelease k)
    else s) s

/-- The code that output `k` forms now (R395, R396, R399). -/
def State.aoutCode (s : State) (k : Nat) : Nat :=
  let o := s.aout k
  if s.on (F.STL_AOUT_STATUS_IN_SAFE k) then s.get (F.STL_AOUT_SAFE_CODE k)
  else if o.src = 0 then o.code
  else
    let p := (o.accAt s.dacClock / 2 ^ 32 + o.pofs) % 65536
    (clampInt 0 16383 (o.offset + rne (o.amp * sine (p / 16)) 15)).toNat

/-- Whether output `k`'s switch is closed. -/
def State.aoutConnected (s : State) (k : Nat) : Bool :=
  s.powered .stile &&
    (if s.on (F.STL_AOUT_STATUS_IN_SAFE k) then s.on (F.STL_AOUT_SAFE_CONNECT k) else (s.aout k).connect != 0)

/-- The full-scale current of output `k` in mA: 10 at reference gain × 1 and 20 at × 2, the safe gain in the safe state (R394,
R399). -/
def State.aoutFullScale (s : State) (k : Nat) : Nat :=
  let gain := if s.on (F.STL_AOUT_STATUS_IN_SAFE k) then s.get (F.STL_AOUT_SAFE_GAIN k) else (s.aout k).gain
  if gain = 0 then 10 else 20

/-- The current that output `k` sources into its pin, in mA: none when the pin is disconnected (R394). -/
def State.aoutCurrent (s : State) (k : Nat) : Option Rat :=
  if s.aoutConnected k then some ((s.aoutFullScale k * s.aoutCode k : Nat) / 16383 : Rat) else none

/-! ### The commands -/

/-- `AOUT_STAGED_WRITE` (R397). -/
def execAoutStagedWrite (k : AoutIx) (r : AoutReg) (v : Word64) (s : State) : Host.Outcome State Fault Refusal :=
  .next (s.ifReach .STL_AOUT_CFG k (fun s => s.aoutWrite k r v.toNat))

/-- `AOUT_UPDATE` (R397). -/
def execAoutUpdate (k : AoutIx) (s : State) : Host.Outcome State Fault Refusal :=
  .next (s.ifReach .STL_AOUT_CTRL 0 (fun s => s.aoutUpdate k false))

/-- `AOUT_WRAP_UPDATE` (R397): a pending update is applied once the accumulator has wrapped since it was asked for. -/
def execAoutWrapUpdate (k : AoutIx) (s : State) : Host.Outcome State Fault Refusal :=
  .next (s.ifStile fun s =>
    if s.on (F.STL_AOUT_STATUS_UPD_PENDING k) ∧ s.on (F.STL_AOUT_STATUS_IN_SAFE k) = false ∧
        2 ^ 48 ≤ (s.aout k).accAt s.dacClock then s.aoutApply k false
    else s)

/-- `AOUT_SYNC` (R397). -/
def execAoutSync (k : AoutIx) (s : State) : Host.Outcome State Fault Refusal :=
  .next (s.ifReach .STL_AOUT_CTRL 0 (fun s => s.aoutSync k))

/-- `AOUT_FORCE_SAFE` (R399). -/
def execAoutForceSafe (k : AoutIx) (s : State) : Host.Outcome State Fault Refusal :=
  .next (s.ifReach .STL_AOUT_CTRL 0 (fun s => s.aoutSafe k 6))

/-- `AOUT_RELEASE` (R399). -/
def execAoutRelease (k : AoutIx) (s : State) : Host.Outcome State Fault Refusal :=
  .next (s.ifReach .STL_AOUT_CTRL 0 (fun s => s.aoutRelease k))

/-- `AOUT_PHASE_EVENT` (R398): it paces the inputs under SRC 2 (R383). -/
def execAoutPhaseEvent (k : AoutIx) (s : State) : Host.Outcome State Fault Refusal :=
  .next (s.ifStile fun s =>
    if s.phaseDue k s.dacClock then
      let s := s.setAout k { s.aout k with owed := false, mark := s.dacClock }
      if s.get F.STL_AIN_PACE_SRC = 2 ∧ s.get F.STL_AIN_PACE_SEL = k.val then s.paceEvent else s
    else s)

/-- `AOUT_COMPLIANCE` (R400). -/
def execAoutCompliance (k : AoutIx) (s : State) : Host.Outcome State Fault Refusal :=
  .next (s.ifStile fun s => (s.set (F.STL_AOUT_STATUS_COMPLIANCE k) 1).signal 42)

/-- `DAC_LOCK_LOSS` (R399): cause 4. -/
def execDacLockLoss (s : State) : Host.Outcome State Fault Refusal :=
  .next (s.ifStile fun s => (State.allAoutSafe { s with stile := { s.stile with dacUnlocked := true } } 4))

/-- `DAC_RELOCK` (R399): cause 4 ends. -/
def execDacRelock (s : State) : Host.Outcome State Fault Refusal :=
  .next (s.ifStile fun s => (State.allCauseEnds { s with stile := { s.stile with dacUnlocked := false } } 4))

/-- `STILE_LINK_LOSS` (R399): cause 5, and GLB_ERR_STATUS.STILE_LINK is set. -/
def execStileLinkLoss (s : State) : Host.Outcome State Fault Refusal :=
  .next (s.ifStile fun s => (State.allAoutSafe { s with stile := { s.stile with linkLost := true } } 5).glbErr 1)

/-- `STILE_LINK_RESTORE` (R399): cause 5 ends. -/
def execStileLinkRestore (s : State) : Host.Outcome State Fault Refusal :=
  .next (s.ifStile fun s => (State.allCauseEnds { s with stile := { s.stile with linkLost := false } } 5))

end Sys2Proof.Machine
end

