-- ==== Sys2Proof/Machine/Operands.lean ====
section
/-! DEFINITION. The operand forms that tasks, commands and their tables share: fields of a tile task (R137 to R141) and of a
ring command (R233, R234), addresses, gang factors, operands within a bank, and the words and entries of a run of bytes. -/

namespace Sys2Proof.Machine
open Sys2Proof

/-! ### Tile tasks -/

/-- A field of a task word. -/
def Task.fld (t : Task) (w lo n : Nat) : Nat := bitsOf (t.words.getD w 0) lo n

/-- A field of a tile task's words. -/
def tfld (ws : List Nat) (w lo n : Nat) : Nat := bitsOf (ws.getD w 0) lo n

/-- Gang factor of a GANG code. -/
def gangOf (code : Nat) : Nat := 2 ^ code

/-- The blocks from an operand's first block on, at `n` blocks, end by block 4,095. -/
def inBank (b n : Nat) : Bool := decide (b + n ≤ 4096)

/-- Blocks of `n` bytes. -/
def blocksOf (n : Nat) : Nat := (n + 255) / 256

/-! ### Ring commands -/

/-- OP and WSO of a command. -/
def cmdOp (c : List Nat) : Nat := tfld c 0 0 8
def cmdWso (c : List Nat) : Nat := tfld c 0 8 12

/-- The address in words `w` and `w + 1` of a command: 48 bits. -/
def cmdAddr (c : List Nat) (w : Nat) : Nat := c.getD w 0 + 2 ^ 32 * tfld c (w + 1) 0 16

/-! ### Words of a run of bytes -/

/-- The eight words of 32 bytes. -/
def words8 (bs : List Byte) : List Nat := (List.range 8).map fun i => leNat ((bs.drop (4 * i)).take 4)

/-- The 32-byte entries of a run of bytes. -/
def entries32 (bs : List Byte) : Nat → List (List Nat)
  | 0 => []
  | n + 1 => words8 bs :: entries32 (bs.drop 32) n

/-- The 64-bit words of a run of bytes. -/
def words64 (bs : List Byte) : Nat → List Nat
  | 0 => []
  | n + 1 => leNat (bs.take 8) :: words64 (bs.drop 8) n

end Sys2Proof.Machine
end

