-- ==== Sys2Proof/Machine/Memory.lean ====
section
/-! DEFINITION. Device memory as bytes at device physical addresses (R175): what an unwritten byte reads as, reads and
writes that keep the canonical form, blocks of 256 bytes with their tags, and the CRC of R171. A block's tag in a stack
is kept at its address in the tag view (R178), a bank block's tag in the bank's tag storage (R176). Log entries: 4, 29. -/

namespace Sys2Proof.Machine
open Sys2Proof

/-! ### CRC-32C -/

/-- One bit of the reflected CRC-32C division. -/
def crcBit (c : Nat) : Nat := if c % 2 = 1 then Nat.xor (c / 2) 0x82F63B78 else c / 2

/-- One byte of the CRC. -/
def crcByte (c : Nat) (b : Byte) : Nat :=
  crcBit (crcBit (crcBit (crcBit (crcBit (crcBit (crcBit (crcBit (Nat.xor c b.toNat))))))))

/-- CRC-32C: polynomial 0x1EDC_6F41 reflected, initial value and final exclusive-or of ones (R171). -/
def crc32c (bs : List Byte) : Nat := Nat.xor (bs.foldl crcByte 0xFFFFFFFF) 0xFFFFFFFF

/-- The CRC that marks a payload as poisoned (R172). -/
def poisonCrc (bs : List Byte) : Nat := Nat.xor (crc32c bs) 0x9D1E59A3

/-- The CRC-32C of 256 zero bytes. -/
def zeroBlockCrc : Nat := 0xB872B190

/-! ### The address map -/

/-- First address of the stacks' end, of the bank region, of the tag view and of the host aperture (R175). -/
def stackSize : Nat := 0x900000000
def stackEnd : Nat := 4 * stackSize
def aliasBase : Nat := 0x3FC0000000
def bankBase : Nat := 0x100000000000
def bankEnd : Nat := 0x100040000000
def tagBase : Nat := 0x200000000000
def tagEnd : Nat := tagBase + stackEnd / 32
def hostBase : Nat := 0x800000000000
def hostEnd : Nat := 0x1000000000000

/-- The window of Tussock `g` (R176). -/
def tskBase (g : Nat) : Nat := bankBase + g * 0x400000

/-- The table SRAM of Tussock `g` (R176, R86). -/
def tableBase (g : Nat) : Nat := tskBase g + 0x200000

/-- An address with the bank alias resolved (R175). -/
def canon (a : Nat) : Nat := if aliasBase ≤ a ∧ a < aliasBase + 0x40000000 then bankBase + (a - aliasBase) else a

/-- Where an address leads. -/
inductive Region where
  /-- stack `n` -/
  | stack (n : Nat)
  /-- activation bank of Tussock `g`, at a byte offset -/
  | bank (g off : Nat)
  /-- tag storage of Tussock `g`'s bank -/
  | bankTag (g off : Nat)
  /-- table SRAM of Tussock `g` -/
  | table (g off : Nat)
  /-- a reserved part of a Tussock window -/
  | reserved (g : Nat)
  /-- the tag of the stack block at an address -/
  | tag (block : Nat)
  /-- the host aperture -/
  | host
  /-- no region -/
  | unmapped
  deriving DecidableEq, Repr

/-- The pseudo-channel of its stack in which the block of an address lies (R177). -/
def pseudoChannel (a : Nat) : Nat :=
  let b := canon a % stackSize / 256
  Nat.xor b (Nat.xor (b / 32) (b / 1024)) % 32

/-- The region of an address (R175, R176). -/
def regionOf (a : Nat) : Region :=
  let a := canon a
  if a < stackEnd then .stack (a / stackSize)
  else if bankBase ≤ a ∧ a < bankEnd then
    let g := (a - bankBase) / 0x400000
    let o := (a - bankBase) % 0x400000
    if o < 0x100000 then .bank g o
    else if o < 0x108000 then .bankTag g (o - 0x100000)
    else if 0x200000 ≤ o ∧ o < 0x224000 then .table g (o - 0x200000)
    else .reserved g
  else if tagBase ≤ a ∧ a < tagEnd then .tag ((a - tagBase) / 8 * 256)
  else if hostBase ≤ a ∧ a < hostEnd then .host
  else .unmapped

/-! ### Unwritten bytes -/

/-- Byte `k` of a little-endian number. -/
def byteOf (v k : Nat) : Byte := BitVec.ofNat 8 (v / 256 ^ k)

/-- The identity table's word `s` of logical column `j` (R91). -/
def identityWord (j s : Nat) : Nat :=
  if j < 256 then 0x40000000 + (0x8000 + 0x2000 * s) % 0x10000 else if s = 0 then 0x40000000 else 0

/-- The byte of a table SRAM as the identity tables leave it: identity words, full masks, zero elsewhere (R91, R92). -/
def identityByte (off : Nat) : Byte :=
  if off < 17 * 0x2080 then
    let r := off % 0x2080
    byteOf (identityWord (r / 0x20) (r % 0x20 / 4)) (r % 4)
  else if off < 0x22CC0 then (if (off - 0x22880) % 0x40 < 0x20 then 0xFF else 0)
  else 0

/-- Byte `k` of the tag that the fill of R434 gives a block of zeros. Log entry 4 (DESIGN CHOICE). -/
def poisonTagByte (k : Nat) : Byte := if k < 4 then byteOf (Nat.xor zeroBlockCrc 0x9D1E59A3) k else 0

/-- What an unlisted byte reads as: a stack as the fill of R434 leaves it, payload zero and the tag poisoned, and a bank the
same (R434: a read of memory that nothing has written finds "block poisoned"); table SRAM the identity table. Log entry 4 (DESIGN CHOICE). -/
def memDefault (a : Nat) : Byte :=
  if tagBase ≤ a ∧ a < tagEnd then poisonTagByte (a % 8)
  else match regionOf a with
    | .table _ off => identityByte off
    | .bankTag _ off => poisonTagByte (off % 8)
    | _ => 0

/-! ### Bytes and blocks -/

/-- The canonical form of memory: addresses strictly rising, no byte listed that equals what an unlisted one reads as. Log entry 4 (DESIGN CHOICE). -/
def Memory.wf (m : List Host.Cell) : Bool := Tab.wf memDefault m

/-- The byte at an address. -/
def Memory.read (m : List Host.Cell) (a : Nat) : Byte := Tab.get memDefault m (canon a)

/-- A byte written. -/
def Memory.write (m : List Host.Cell) (a : Nat) (b : Byte) : List Host.Cell := Tab.set memDefault m (canon a) b

/-- The `n` bytes from an address on. -/
def Memory.readN (m : List Host.Cell) (a n : Nat) : List Byte := Tab.getList memDefault m (canon a) n

/-- Bytes written from an address on. -/
def Memory.writeN (m : List Host.Cell) (a : Nat) (bs : List Byte) : List Host.Cell :=
  Tab.setList memDefault m (canon a) bs

/-- Every byte of an address range returns to what an unlisted byte reads as. -/
def Memory.fill (m : List Host.Cell) (lo hi : Nat) : List Host.Cell := Tab.clear m lo hi

/-- A tensor block: payload and tag (R170). -/
structure Block where
  data : List Byte
  crc : Nat
  tid : Nat
  seq : Nat
  deriving DecidableEq, Repr

/-- Where the tag of the block at an address is stored. A region that keeps no tags (tag view, table SRAM) finds zeros there. Log entry 29 (DESIGN CHOICE). -/
def tagAddr (a : Nat) : Nat :=
  match regionOf a with
  | .bank g off => tskBase g + 0x100000 + off / 256 * 8
  | _ => tagBase + a / 256 * 8

/-- The 8 bytes of a tag. -/
def Block.tagBytes (b : Block) : List Byte := leBytes 4 b.crc ++ leBytes 2 b.tid ++ leBytes 2 b.seq

/-- A tag read from its 8 bytes. -/
def Block.ofBytes (data tag : List Byte) : Block :=
  { data := data, crc := leNat (tag.take 4), tid := leNat ((tag.drop 4).take 2), seq := leNat (tag.drop 6) }

/-- The block at a 256-byte-aligned address of a stack or bank. -/
def Memory.block (m : List Host.Cell) (a : Nat) : Block :=
  Block.ofBytes (Memory.readN m a 256) (Memory.readN m (tagAddr a) 8)

/-- A block stored with its tag. -/
def Memory.putBlock (m : List Host.Cell) (a : Nat) (b : Block) : List Host.Cell :=
  Memory.writeN (Memory.writeN m a b.data) (tagAddr a) b.tagBytes

/-- A block with a fresh CRC (R173). -/
def Block.fresh (data : List Byte) (tid seq : Nat) : Block :=
  { data := data, crc := crc32c data, tid := tid % 65536, seq := seq % 65536 }

/-- A block with the poisoned CRC (R172). -/
def Block.poison (b : Block) : Block := { b with crc := poisonCrc b.data }

/-- The CRC matches the payload. -/
def Block.good (b : Block) : Bool := b.crc == crc32c b.data

/-- The block is poisoned (R172). -/
def Block.poisoned (b : Block) : Bool := b.crc == poisonCrc b.data

/-- What the checks of R174 find, in their order. -/
inductive TagCheck where
  | ok
  | blockCrc
  | blockPoisoned
  | tagMismatch
  deriving DecidableEq, Repr

/-- The checks of R174: CRC, then poison, then TENSOR_ID and SEQ where they are expected. -/
def Block.check (b : Block) (expect : Option (Nat × Nat)) : TagCheck :=
  if b.good then
    match expect with
    | none => .ok
    | some (t, q) => if b.tid = t ∧ b.seq = q then .ok else .tagMismatch
  else if b.poisoned then .blockPoisoned else .blockCrc

/-- The status code of a failed check (R245). -/
def TagCheck.status : TagCheck → Nat
  | .ok => 0
  | .blockCrc => 0x0F
  | .blockPoisoned => 0x10
  | .tagMismatch => 0x11

/-- The bytes `new` laid over `old` from offset `o` on. -/
def overlay (old : List Byte) (o : Nat) (new : List Byte) : List Byte :=
  old.take o ++ new ++ old.drop (o + new.length)

end Sys2Proof.Machine
end

