-- ==== Sys2Proof/Machine/TableRam.lean ====
section
/-! DEFINITION. Tussocks and their arrays in the state, and writes into table SRAM (R86, R88, R92 to R95). -/

namespace Sys2Proof.Machine
open Sys2Proof

/-! ### Tussocks and arrays in the state -/

/-- Tussock `g`. -/
def State.tuss (s : State) (g : Nat) : Tuss := Tab.get (fun _ => {}) s.tusss g

/-- The state with Tussock `g` replaced. -/
def State.setTuss (s : State) (g : Nat) (t : Tuss) : State := { s with tusss := Tab.set (fun _ => {}) s.tusss g t }

/-- A change to Tussock `g`. -/
def State.updTuss (s : State) (g : Nat) (f : Tuss → Tuss) : State := s.setTuss g (f (s.tuss g))

/-- Physical array `a` of Tussock `g`. -/
def State.arr (s : State) (g a : Nat) : Arr17 := Tab.get (fun _ => {}) (s.tuss g).arrs a

/-- A change to a physical array. -/
def State.updArr (s : State) (g a : Nat) (f : Arr17 → Arr17) : State :=
  s.updTuss g fun t => { t with arrs := Tab.set (fun _ => {}) t.arrs a (f (Tab.get (fun _ => {}) t.arrs a)) }

/-! ### Table SRAM -/

/-- Table words, descriptor words and TSK_CONV_CFG take writes from outside Bracken while their array is EMPTY, WRITING,
WRITE_FAULT or QUARANTINED (R93). -/
def State.tableOpen (s : State) (g a : Nat) : Bool :=
  let st := s.get (F.TSK_ARR_STATE_STATE g a)
  st == 0 || st == 1 || st == 4 || st == 5

/-- The array whose table or descriptor word lies at an offset of the table SRAM, if any takes writes there (R86, R88). -/
def tableArray (off : Nat) : Option Nat :=
  if off < 0x22880 then some (off / 0x2080)
  else if off < 0x22CC0 ∧ (off - 0x22880) % 0x40 < 0x20 then some ((off - 0x22880) / 0x40)
  else none

/-- A write into table SRAM from outside the Tussock, word by word (R94); the load engine's write of a mask in the same cycle
wins over it (R95). -/
def State.writeTableWords (s : State) (g off : Nat) : List Byte → State
  | b0 :: b1 :: b2 :: b3 :: rest =>
    let s := match tableArray off with
      | none => s
      | some a =>
        if (decide (0x22880 ≤ off) && (s.arr g a).maskLoad == some s.time) || !s.tableOpen g a then
          s.set (F.TSK_CONV_STATUS_TABLE_WR_REJECT g) 1
        else
          let s := { s with mem := Memory.writeN s.mem (tableBase g + off) [b0, b1, b2, b3] }
          if 0x22880 ≤ off then s.updArr g a fun r => { r with maskHost := some s.time } else s
    s.writeTableWords g (off + 4) rest
  | _ => s

/-- A write to table SRAM (R92, R94): dropped until the identity tables are written, or when it is not whole aligned words. -/
def State.writeTable (s : State) (g off : Nat) (bytes : List Byte) : State :=
  if s.on (F.TSK_CONV_STATUS_TABLE_INIT_DONE g) = false ∨ off % 4 ≠ 0 ∨ bytes.length % 4 ≠ 0 then
    s.set (F.TSK_CONV_STATUS_TABLE_WR_REJECT g) 1
  else s.writeTableWords g off bytes

end Sys2Proof.Machine
end

