-- ==== Sys2Proof/Machine/Jobs.lean ====
section
/-! DEFINITION. Shared operations on jobs: looking them up, ending one with an error (R246), the provisional table
(R322), and the memory accesses that belong to a job, with guards and tag checks (R174, R183 to R186). Log entries: 9, 29, 30. -/

namespace Sys2Proof.Machine
open Sys2Proof

/-- The job with a number. -/
def State.job (s : State) (id : Nat) : Option Job := s.jobs.find? (fun j => j.id == id)

/-- A change to one job. -/
def State.updJob (s : State) (id : Nat) (f : Job → Job) : State :=
  { s with jobs := s.jobs.map fun j => if j.id = id then f j else j }

/-- Engine `k` = 4n + e. -/
def State.engine (s : State) (k : Nat) : Engine := Tab.get (fun _ => {}) s.engines k

/-- The state with engine `k` replaced. -/
def State.setEngine (s : State) (k : Nat) (e : Engine) : State :=
  { s with engines := Tab.set (fun _ => {}) s.engines k e }

/-- Scheduler of channel `n`. -/
def State.chan (s : State) (n : Nat) : Chan := Tab.get (fun _ => {}) s.chans n

/-- The state with scheduler `n` replaced. -/
def State.setChan (s : State) (n : Nat) (c : Chan) : State :=
  { s with chans := Tab.set (fun _ => {}) s.chans n c }

/-- The context of a job, and whether it names one (R234). -/
def Job.ctxNo (j : Job) : Nat := tfld j.hdr 3 0 6
def Job.ctxValid (j : Job) : Bool := tfld j.hdr 3 6 1 == 1

/-- D: the length of a job's demand profile in swaths. -/
def Job.dlen (j : Job) : Nat := tfld j.hdr 2 0 12

/-- Last work swath of a job: its profile's last swath at its slide (R234, R201). -/
def Job.lastWork (j : Job) : Nat := j.swath + 1 + j.slide + (j.dlen - 1)

/-- Slots of a kind and unit that a job's profile reserves at an offset (R235). -/
def Job.reserved (j : Job) (d kind unit : Nat) : Nat :=
  ((j.prof.filter fun e => bitsOf e 0 12 == d && bitsOf e 12 4 == kind && bitsOf e 16 16 == unit).map fun e => bitsOf e 32 16).sum

/-- The profile offset at which a job stands. -/
def State.offsetOf (s : State) (j : Job) : Nat := s.swath - (j.swath + 1 + j.slide)

/-- The job that holds request tag `t` of channel `n` (R221, R238). -/
def State.jobOfTag (s : State) (n t : Nat) : Option Job := s.jobs.find? fun j => j.chan == n && j.tags.contains t

/-- An error reaches a job: the first in device time stands, in one nanosecond the lowest code, but "retry exhausted" before
"timeout" (R224, R246). -/
def JobErr.first (old new : JobErr) : JobErr :=
  if old.time < new.time then old else if new.time < old.time then new
  else if old.status = 0x03 ∧ new.status = 0x04 then new
  else if old.status = 0x04 ∧ new.status = 0x03 then old
  else if old.status ≤ new.status then old else new

/-- The units and cycles that a job ended in swath `w` keeps: those of swaths up to `w` (R205). -/
def Job.release (j : Job) (w : Nat) : Job :=
  { j with placed := j.placed.filter (fun p => p.swath ≤ w), units := j.units.filter (fun u => u.swath ≤ w) }

/-- A running job meets an error. -/
def State.jobErr (s : State) (id : Nat) (e : JobErr) : State :=
  s.updJob id fun j =>
    match j.stage with
    | .provisional => j
    | .running =>
      match j.err with
      | none => { j with err := some e }
      | some old => { j with err := some (old.first e) }

/-- A running job ends with an error now. -/
def State.jobFail (s : State) (id status cmd unit : Nat) : State := s.jobErr id ⟨status, cmd, unit, s.time⟩

/-- What jobs ended in earlier swaths hold beyond them becomes available to admission, at the boundary that opens swath `w`
(R205). -/
def State.releaseEnded (s : State) (w : Nat) : State :=
  { s with jobs := s.jobs.map fun j => if j.err.isSome then j.release (w - 1) else j }

/-- A command of a job has been carried out. -/
def State.cmdDone (s : State) (id cmd : Nat) : State :=
  s.updJob id fun j => if j.cmdsDone.contains cmd then j else { j with cmdsDone := j.cmdsDone ++ [cmd] }

/-- The entries of the provisional table for a tensor. -/
def State.provsOf (s : State) (tid : Nat) : List Prov := s.provs.filter (fun p => p.tid == tid)

/-- GRS_PROV follows the table. -/
def State.provCount (s : State) : State :=
  (s.set F.GRS_PROV_IN_USE s.provs.length).raise F.GRS_PROV_PEAK s.provs.length

/-- An entry made for a tensor and a job of this device whose token is pending, or an upstream token (R322): none when one stands
already; PROV_OVF when the table is full. -/
def State.provNote (s : State) (tid job : Nat) (origin : Option Nat) : State :=
  if s.provs.any (fun p => p.tid == tid && p.job == job && p.origin == origin) ∨ (origin.isNone && (s.job job).isNone) then s
  else if 4096 ≤ s.provs.length then s.set F.GRS_STATUS_PROV_OVF 1
  else
    State.provCount { s with provs := s.provs ++ [⟨s.nextProv, tid, job, origin, s.swath⟩], nextProv := s.nextProv + 1 }

/-- A job reads a block of a tensor: it depends on every entry of other jobs (R322). -/
def State.provRead (s : State) (job tid : Nat) : State :=
  let es := (s.provsOf tid).filter fun p => !(p.job == job && p.origin.isNone)
  if es.isEmpty then s
  else s.updJob job fun j => { j with deps := j.deps ++ (es.map Prov.id).filter (fun i => !j.deps.contains i) }

/-! ### Region guards -/

/-- The agent classes of R183 and R186. -/
inductive Accessor where
  | pcie
  /-- Lea inbound on a port -/
  | lea (p : Nat)
  /-- engines and Tussocks of channel `n` -/
  | eng (n : Nat)
  | mgmt
  deriving DecidableEq, Repr

/-- Guard `k` is enabled and covers the bytes `a` to `a + len - 1` (R183). -/
def State.guardCovers (s : State) (k a len : Nat) : Bool :=
  s.on (F.GLB_RGN_ATTR_EN k) && s.get (F.GLB_RGN_BASE_BASE k) * 4096 ≤ a &&
    a + len ≤ (s.get (F.GLB_RGN_LIMIT_LIMIT k) + 1) * 4096

/-- Guard `k` grants an agent class reads or writes; TAG_MODE 0b11 grants no PCIe write (R183, R184). -/
def State.guardGrants (s : State) (k : Nat) (who : Accessor) (wr : Bool) : Bool :=
  match who with
  | .pcie => if wr then s.on (F.GLB_RGN_ATTR_PCI_WR k) && s.get (F.GLB_RGN_ATTR_TAG_MODE k) != 3
             else s.on (F.GLB_RGN_ATTR_PCI_RD k)
  | .lea _ => wr && s.on (F.GLB_RGN_ATTR_LEA_WR k)
  | .eng n => if wr then bitOf (s.get (F.GLB_RGN_ATTR_ENG_WR k)) n else bitOf (s.get (F.GLB_RGN_ATTR_ENG_RD k)) n
  | .mgmt => true

/-- The guards that allow an access (R184). -/
def State.guardsFor (s : State) (who : Accessor) (wr : Bool) (a len : Nat) : List Nat :=
  (List.range 32).filter fun k => s.guardCovers k a len && s.guardGrants k who wr

/-- An address leads nowhere: outside the map, or in a stack that is offline after a failure (R175, R457). -/
def State.unmapped (s : State) (a : Nat) : Bool :=
  match regionOf a with
  | .unmapped => true
  | .stack n => bitOf (s.get F.GLB_CHN_STATUS_OFFLINE) n
  | .tag b => bitOf (s.get F.GLB_CHN_STATUS_OFFLINE) (b / stackSize)
  | _ => false

/-- Whether two addresses lie in one region of the map, so that a run of bytes between them is mapped. -/
def sameRegion (a b : Nat) : Bool :=
  match regionOf a, regionOf b with
  | .stack n, .stack m => n == m
  | .tag _, .tag _ => true
  | .host, .host => true
  | .unmapped, _ => false
  | _, .unmapped => false
  | .stack _, _ => false
  | .tag _, _ => false
  | .host, _ => false
  | _, .stack _ => false
  | _, .tag _ => false
  | _, .host => false
  | _, _ => true

/-- The bytes that the guards of an access must cover, as address and length: those accessed, but for a write to the tag view the
blocks whose tags it reaches (R178, R184). -/
def guarded (wr : Bool) (a len : Nat) : Nat × Nat :=
  match wr, regionOf a, regionOf (a + len - 1) with
  | true, .tag b, .tag b' => (b, b' + 256 - b)
  | _, _, _ => (a, len)

/-- Why an access is an address fault, if it is: `some true` unmapped, `some false` denied (R186). -/
def State.accessFault (s : State) (who : Accessor) (wr : Bool) (a len : Nat) : Option Bool :=
  if s.unmapped a || s.unmapped (a + len - 1) || !(sameRegion a (a + len - 1) || stackEnd ≥ a + len) then some true
  else if who = .mgmt then none
  else if (s.guardsFor who wr (guarded wr a len).1 (guarded wr a len).2).isEmpty then some false else none

/-- The AGENT and CHANNEL codes of GLB_RGN_FAULT_INFO. -/
def Accessor.code : Accessor → Nat × Nat
  | .pcie => (0, 0)
  | .lea p => (1, p)
  | .eng n => (2, n)
  | .mgmt => (3, 0)

/-- An address fault recorded and counted; vector 46 is signalled (R186, R247). -/
def State.addressFault (s : State) (who : Accessor) (wr : Bool) (a : Nat) (unmapped : Bool) : State :=
  let s := if s.on F.GLB_RGN_FAULT_INFO_VALID then s
    else
      (((((s.set F.GLB_RGN_FAULT_ADDR_ADDR a).set F.GLB_RGN_FAULT_INFO_VALID 1).set F.GLB_RGN_FAULT_INFO_WRITE
        (natOf wr)).set F.GLB_RGN_FAULT_INFO_AGENT who.code.1).set F.GLB_RGN_FAULT_INFO_CHANNEL who.code.2).set
        F.GLB_RGN_FAULT_INFO_UNMAPPED (natOf unmapped)
  (s.inc F.GLB_RGN_FAULT_INFO_FAULT_CNT).signal 46

/-! ### Blocks in memory -/

/-- The channel whose mesh and counters a memory address belongs to. -/
def chanOfAddr (a : Nat) : Nat :=
  match regionOf a with
  | .stack n => n
  | .bank g _ => chanOf g
  | .bankTag g _ => chanOf g
  | .table g _ => chanOf g
  | .reserved g => chanOf g
  | .tag b => b / stackSize
  | _ => 0

/-- The ERR_UNIT that an address gives (R243): its Tussock or stack. -/
def unitOfAddr (a : Nat) : Nat :=
  match regionOf a with
  | .stack n => n
  | .bank g _ => g
  | .bankTag g _ => g
  | .table g _ => g
  | .reserved g => g
  | .tag b => b / stackSize
  | _ => 0xFFFF

/-- The host bus address of a host-aperture address (R179). -/
def State.hostAddr (s : State) (a : Nat) : Nat := s.get F.PCI_T3_BASE_BASE * 4096 + (a - hostBase)

/-- What reading the stored block at an address finds. -/
def State.latentAt (s : State) (a : Nat) : Ecc :=
  ((s.latent.find? fun p => p.1 == canon a).map fun p => p.2).getD .ok

/-- The errors of a stored block are gone: it has been written anew, or a corrected read has been written back (R166). -/
def State.scrubbed (s : State) (a : Nat) : State := { s with latent := s.latent.filter fun p => p.1 != canon a }

/-- The worse of two findings on one block. -/
def worseEcc : Ecc → Ecc → Ecc
  | .ue, _ => .ue
  | _, .ue => .ue
  | .ce, _ => .ce
  | _, .ce => .ce
  | .ok, .ok => .ok

/-- What a read of the block at `a` finds, given what its command says of it. -/
def State.foundAt (s : State) (a : Nat) (e : Ecc) : Ecc := worseEcc e (s.latentAt a)

/-- Bytes stored at an address that keeps no tags beside them: tags in the tag view and in a bank's tag storage are replaced
unchecked (R178), table words by the rules of table SRAM (R93, R94), a reserved part of a Tussock's window drops them (R176), and
the host aperture makes them a PCIe write (R179). -/
def State.putRaw (s : State) (a : Nat) (bytes : List Byte) : State :=
  match regionOf a with
  | .tag _ => { s with mem := Memory.writeN s.mem a bytes }
  | .bankTag _ _ => { s with mem := Memory.writeN s.mem a bytes }
  | .table g off => s.writeTable g off bytes
  | .host => s.send (.hostWrite (s.hostAddr a) bytes)
  | _ => s

/-- The address lies where every block has a tag: in a stack or a bank. -/
def tagged (a : Nat) : Bool :=
  match regionOf a with
  | .stack _ => true
  | .bank _ _ => true
  | _ => false

/-- A block stored (R170 to R178). -/
def State.putBlock (s : State) (a : Nat) (b : Block) : State :=
  if tagged a then State.scrubbed { s with mem := Memory.putBlock s.mem a b } a else s.putRaw a b.data

/-- The block at an address. -/
def State.block (s : State) (a : Nat) : Block := Memory.block s.mem a

/-- A block of stack `n` returned poisoned by the sideband code (R177), one more in this swath (R457). -/
def State.sideUe (s : State) (n : Nat) : State :=
  (s.inc (F.CHN_STK_ERR_UE_CNT n)).setChan n { s.chan n with sideUe := (s.chan n).sideUe + 1 }

/-- What an ECC finding on a read of the block at `a` does (R150, R177): counts; a corrected block is written back, an
uncorrectable bank block is stored poisoned, an uncorrectable stack block is returned poisoned. -/
def State.eccRead (s : State) (a : Nat) (e : Ecc) : State :=
  match e, regionOf a with
  | .ok, _ => s
  | .ce, .stack n => (s.inc (F.CHN_STK_ERR_CE_CNT n)).scrubbed a
  | .ue, .stack n => s.sideUe n
  | .ce, .bank g _ => (s.inc (F.TSK_BANK_ECC_CE_CNT g)).scrubbed a
  | .ue, .bank g _ => (s.putBlock a (s.block a).poison).inc (F.TSK_BANK_ECC_UE_CNT g)
  | _, _ => s

/-- The block that a read for use returns, after its ECC finding. -/
def State.blockAs (s : State) (a : Nat) (e : Ecc) : Block :=
  match e with
  | .ue => (s.block a).poison
  | _ => s.block a

/-- A block crosses links of channel `n` with a finding on its flits (R165): counted; an uncorrectable one poisons it. -/
def State.flitNote (s : State) (n : Nat) (e : Ecc) (b : Block) : State × Block :=
  match e with
  | .ok => (s, b)
  | .ce => (s.inc (F.CHN_HDG_ERR_LINK_CE_CNT n), b)
  | .ue => (s.inc (F.CHN_HDG_ERR_LINK_UE_CNT n), b.poison)

/-- A block passes places of the meshes and bridges in turn: the oldest flit error that waits at each meets it (R165, R168). -/
def State.crossing (s : State) (b : Block) : List Nat → State × Block
  | [] => (s, b)
  | x :: xs =>
    match s.flits.find? fun p => p.1 == x with
    | none => s.crossing b xs
    | some p =>
      let (s, b) := State.flitNote { s with flits := s.flits.erase p } (if x < 4 then x else (x - 4) / 2 % 4) p.2 b
      s.crossing b xs

/-- The places that a block passes from channel `m` to channel `n` over bridge `b` (R168). -/
def placesOver (b m n : Nat) : List Nat := if m = n then [m] else [m, 4 + 2 * m + b, 4 + 2 * n + b, n]

/-- The places that unscheduled traffic passes between two channels, or a channel and PCIe (`none`): bridge n mod 2 to PCIe, bridge
(m + n) mod 2 between channels (R169). -/
def placesBetween (m n : Option Nat) : List Nat :=
  match m, n with
  | some m, some n => placesOver ((m + n) % 2) m n
  | some m, none => [m, 4 + 2 * m + m % 2, 12 + 2 * m + m % 2]
  | none, some n => [12 + 2 * n + n % 2, 4 + 2 * n + n % 2, n]
  | none, none => []

/-- The bridge that a block of a job takes from channel `m` to channel `n`: the one whose ports it has reserved now, else that of
unscheduled traffic (R169). Log entry 29 (DEDUCED). -/
def State.bridgeFor (s : State) (job m n : Nat) : Nat :=
  let named (j : Job) (b : Nat) : Bool := j.reserved (s.offsetOf j) 8 (b + 2 * m + 16) != 0 && j.reserved (s.offsetOf j) 8 (b + 2 * n) != 0
  ((s.job job).bind fun j => [0, 1].find? (named j)).getD ((m + n) % 2)

/-- A read of the host aperture: a PCIe read request, whose data the host gives; host memory holds no tags (R179). Log entry 29
(DESIGN CHOICE). -/
def State.hostBlock (s : State) (a : Nat) : State × Block :=
  let v := s.freeVal 2080
  ((s.send (.hostRead (s.hostAddr a) 256)).draw, Block.fresh (leBytes 256 (v / 2 ^ 32)) v (v / 2 ^ 16))

/-- The block at `a` as an agent of channel `n` gets it: after its ECC finding, and across the meshes and the bridge of the job that
reads it; a Tussock reads its own bank beside its router (`own`). -/
def State.fetched (s : State) (n a : Nat) (e : Ecc) (job : Nat := 0) (own : Bool := false) : State × Block :=
  let e := s.foundAt a e
  let b := s.blockAs a e
  let t := s.eccRead a e
  match regionOf a with
  | .stack m => t.crossing b (placesOver (s.bridgeFor job m n) m n)
  | .bank g _ => if own then (t, b) else t.crossing b (placesOver (s.bridgeFor job (chanOf g) n) (chanOf g) n)
  | .host => s.hostBlock a
  | _ => (t, b)

/-- Counts a failed tag check in channel `n` (R174). Log entry 30 (DEDUCED). -/
def State.countCheck (s : State) (n : Nat) (c : TagCheck) : State :=
  match c with
  | .blockCrc => s.inc (F.CHN_HDG_ERR_CRC_CNT n)
  | .tagMismatch => s.inc (F.CHN_HDG_ERR_TAG_CNT n)
  | _ => s

/-- A job's read of a block for use: guard, ECC finding and tag checks; the block when all pass (R174, R186). `cmd` is
the command at fault, `unit` the ERR_UNIT. A block of a region that keeps no tags has a tag of zeros. Log entry 29 (DESIGN CHOICE). -/
def State.readBlock (s : State) (n job cmd unit a : Nat) (e : Ecc) (expect : Option (Nat × Nat)) (own : Bool := false) : State × Option Block :=
  match s.accessFault (.eng n) false a 256 with
  | some u => ((s.addressFault (.eng n) false a u).jobFail job 0x12 cmd unit, none)
  | none =>
    let (s, b) := s.fetched n a e job own
    let c := b.check expect
    if c = .ok then (s.provRead job b.tid, some b)
    else ((s.countCheck (chanOfAddr a) c).jobFail job c.status cmd unit, none)

/-- The `k` blocks from a block address on as an engine of channel `n` reads them for use: CRC and poison checks only (R174, R181);
their bytes, or the status code of the check that failed. -/
def State.engBlocks (s : State) (n base : Nat) : Nat → State × Sum Nat (List Byte)
  | 0 => (s, .inr [])
  | k + 1 =>
    let (s, b) := s.fetched n base .ok
    let c := b.check none
    if c ≠ .ok then (s.countCheck (chanOfAddr base) c, .inl c.status)
    else match s.engBlocks n (base + 256) k with
      | (s, .inl st) => (s, .inl st)
      | (s, .inr bs) => (s, .inr (b.data ++ bs))

/-- An engine's read of a structure in memory: its bytes, or the status code of what failed. Log entry 9 (DEDUCED). -/
def State.engRead (s : State) (n a len : Nat) : State × Sum Nat (List Byte) :=
  if len = 0 then (s, .inr [])
  else match s.accessFault (.eng n) false a len with
    | some u => (s.addressFault (.eng n) false a u, .inl 0x12)
    | none =>
      match s.engBlocks n (a / 256 * 256) ((a % 256 + len + 255) / 256) with
      | (s, .inl st) => (s, .inl st)
      | (s, .inr bs) => (s, .inr ((bs.drop (a % 256)).take len))

/-- A block of a job written into a bank or stack from Hedgerow, a bridge or a Lea link (R174): guard, CRC and poison
checks; a block whose CRC fails is stored poisoned. Where no tags are kept nothing is checked (R178). The job's first block of a
tensor makes its provisional entry (R322). -/
def State.writeBlock (s : State) (n job cmd unit a : Nat) (b : Block) (expect : Option (Nat × Nat)) : State :=
  match s.accessFault (.eng n) true a 256 with
  | some u => (s.addressFault (.eng n) true a u).jobFail job 0x12 cmd unit
  | none =>
    if !tagged a then s.putRaw a b.data
    else
      let c := b.check expect
      let s := s.putBlock a (if c = .blockCrc then b.poison else b)
      let s := s.provNote b.tid job none
      if c = .ok then s else (s.countCheck (chanOfAddr a) c).jobFail job c.status cmd unit

/-- A job's access that the guards deny ends it with "address fault" and is not performed (R186); `true` where it may go on. -/
def State.mayAccess (s : State) (n job cmd unit : Nat) (wr : Bool) (a len : Nat) : State × Bool :=
  match s.accessFault (.eng n) wr a len with
  | some u => ((s.addressFault (.eng n) wr a u).jobFail job 0x12 cmd unit, false)
  | none => (s, true)

/-- How a merge reads the block it stores into: its counters of errors (R150, R177, R181); a corrected error hides no CRC error. -/
def State.mergeCount (s : State) (a : Nat) (e : Ecc) (badCrc : Bool) : State :=
  let n := chanOfAddr a
  let s := match regionOf a with
    | .stack k => s.incMod (F.CHN_STK_ERR_RMW_CNT k)
    | _ => s
  match e, regionOf a with
  | .ue, .stack k => s.sideUe k
  | .ue, .bank g _ => s.inc (F.TSK_BANK_ECC_UE_CNT g)
  | e, r =>
    let s := if badCrc then s.inc (F.CHN_HDG_ERR_CRC_CNT n) else s
    match e, r with
    | .ce, .stack k => s.inc (F.CHN_STK_ERR_CE_CNT k)
    | .ce, .bank g _ => s.inc (F.TSK_BANK_ECC_CE_CNT g)
    | _, _ => s

/-- The part in one block of a write of the device to a structure that it maintains itself (R181): a fresh CRC, TENSOR_ID and SEQ
kept. It crosses the mesh of its stack or bank on its way (R165). A part of a block is merged with the stored one; that read with an
uncorrectable error, or with a CRC of neither form, the merged block is stored poisoned. -/
def State.mergePart (s : State) (a : Nat) (bytes : List Byte) : State :=
  let base := a / 256 * 256
  let old := s.block base
  let data := Block.fresh (overlay old.data (a % 256) bytes) old.tid old.seq
  if !tagged a then s.putRaw a bytes
  else
    let (s, fresh) := s.crossing data [chanOfAddr base]
    if bytes.length = 256 then s.putBlock base fresh
    else
      let e := s.latentAt base
      let bad := !(old.good || old.poisoned)
      let s := s.mergeCount base e bad
      s.putBlock base (if e = .ue ∨ bad = true then fresh.poison else fresh)

/-- A write of the device to a structure that it maintains itself, block by block; `fuel` bounds the blocks. -/
def State.mergeParts (s : State) (a : Nat) (bytes : List Byte) : Nat → State
  | 0 => s
  | fuel + 1 =>
    let room := 256 - a % 256
    let s := s.mergePart a (bytes.take room)
    if bytes.length ≤ room then s else s.mergeParts (a + room) (bytes.drop room) fuel

/-- A write of the device to a structure that it maintains itself (R181). -/
def State.mergeWrite (s : State) (a : Nat) (bytes : List Byte) : State := s.mergeParts a bytes (bytes.length / 256 + 2)

end Sys2Proof.Machine
end

