-- ==== Sys2Proof/Machine/Numbers.lean ====
section
/-! DEFINITION. The arithmetic of numbers, slices and scales (R77 to R90, R100 to R128): fp32 rounding, converter codes,
linearisation, slice values, partial sums, requantisation and scale judgement, all on exact integers. Log entries: 32. -/

namespace Sys2Proof.Machine
open Sys2Proof

/-! ### fp32 -/

/-- The fp32 word nearest to the positive rational `num / den`, ties to even, infinity beyond the range. -/
def fpRound (num den : Nat) : Nat :=
  if num = 0 ∨ den = 0 then 0
  else
    let e0 : Int := (num.log2 : Int) - den.log2 - 23
    let scaled (e : Int) : Int × Int :=
      if 0 ≤ e then (num, (den * 2 ^ e.toNat : Nat)) else ((num * 2 ^ (-e).toNat : Nat), den)
    let e1 := if (scaled e0).1 / (scaled e0).2 < 2 ^ 23 then e0 - 1 else e0
    let e := if e1 < -149 then -149 else e1
    let q := rneDiv (scaled e).1 (scaled e).2
    let w := (e + 149) * 2 ^ 23 + q
    if 0x7F800000 ≤ w then 0x7F800000 else w.toNat

/-- Exponent field and fraction of an fp32 word. -/
def fpExp (w : Nat) : Nat := bitsOf w 23 8
def fpFrac (w : Nat) : Nat := bitsOf w 0 23

/-- A positive normal number: no zero, negative, subnormal, infinite or NaN scale passes (R113). -/
def fpNormal (w : Nat) : Bool := !bitOf w 31 && 1 ≤ fpExp w && fpExp w ≤ 254

/-- The magnitude of a finite fp32 word as `m * 2 ^ e / 2 ^ 150`: numerator over `2 ^ 150`. -/
def fpMag (w : Nat) : Nat := if fpExp w = 0 then fpFrac w * 2 else (2 ^ 23 + fpFrac w) * 2 ^ fpExp w

/-- The product of two positive fp32 words. -/
def fpMul (a b : Nat) : Nat := fpRound (fpMag a * fpMag b) (2 ^ 300)

/-- The quotient of two positive fp32 words. -/
def fpDiv (a b : Nat) : Nat := fpRound (fpMag a) (fpMag b)

/-- A natural number as fp32. -/
def fpOfNat (n : Nat) : Nat := fpRound n 1

/-! ### Requantisation (R112 to R114) -/

/-- Lowest code, highest code and bits of a format of R101; none where it is reserved. -/
def fmtRange (f : Nat) : Option (Int × Int × Nat) :=
  match f with
  | 0 => some (0, 15, 4)
  | 1 => some (-8, 7, 4)
  | 2 => some (0, 255, 8)
  | 3 => some (-128, 127, 8)
  | 4 => some (-32768, 32767, 16)
  | _ => none

/-- The multiplier M and shift S of a channel (R112); none ends the job with "scale range" (R113). -/
def requantParams (sw sx sy : Nat) : Option (Nat × Nat) :=
  if fpNormal sw && fpNormal sx && fpNormal sy then
    let p := fpMul sw sx
    let r := fpDiv p sy
    -- an infinite product gives an infinite r
    if fpExp p = 255 ∨ 157 ≤ fpExp r then none
    else if fpExp r < 95 then some (0, 1)
    else some ((2 ^ 23 + fpFrac r) * 128, 157 - fpExp r)
  else none

/-- The value t of R114 before it is held within the output format. -/
def requantT (acc : Int) (m s : Nat) : Int := rne (acc * m) s

/-- A 40-bit sum saturated to int32, and whether it lay outside (R110). -/
def sat32 (x : Int) : Int × Bool :=
  if x < -2147483648 then (-2147483648, true) else if 2147483647 < x then (2147483647, true) else (x, false)

/-- The code q, whether it counts as clipped, and |t| held at 2^31 - 1 (R114). -/
def requantise (acc : Int) (m s : Nat) (fmt : Nat) : Int × Bool × Nat :=
  match fmtRange fmt with
  | none => (0, false, 0)
  | some (lo, hi, _) =>
    let t := requantT acc m s
    (clampInt lo hi t, decide (t < lo ∨ hi < t), min t.natAbs 2147483647)

/-- Too small and too large of R119, for N elements, K clipped, peak p. -/
def judgeSmall (thresh n k p : Nat) : Bool := p != 0 && thresh != 0 && decide (thresh * n < 65536 * k)
def judgeLarge (fmt thresh n k p : Nat) : Bool :=
  match fmtRange fmt with
  | none => false
  | some (_, hi, _) => p != 0 && !judgeSmall thresh n k p && decide ((16 * p : Int) < hi)

/-- The corrected scale of R120. -/
def correctedScale (sy p fmt : Nat) (small : Bool) : Nat :=
  match fmtRange fmt with
  | none => sy
  | some (_, hi, _) =>
    let q := fpRound (fpMag (fpOfNat p)) ((3 * hi.toNat / 4) * 2 ^ 150)
    fpMul sy (if small && decide (q < 0x40000000) then 0x40000000 else q)

/-- The clipped fraction F of R122. -/
def clipF (k n : Nat) : Nat := if n = 0 then 0 else min ((65536 * k + n - 1) / n) 65535

/-! ### Converters and column table -/

/-- Δ of a range code, in dot-product units (R78). -/
def delta (range : Nat) : Nat := 2 ^ (range + 3)

/-- The ideal transfer of R77 with an LSB of `lsb / 2` dot-product units, of a column value of `y2 / 2 d` units. -/
def halfLsbCode (lsb : Nat) (y2 : Int) (d : Nat) : Int := clampInt (-512) 511 ((2 * y2 + lsb * d) / (2 * lsb * d : Nat))

/-- The ideal data code of a column value `y / d` (R77). -/
def dataCode (range : Nat) (y : Int) (d : Nat) : Int := halfLsbCode (2 * delta range) (2 * y) d

/-- The ideal coarse and fine code of an auxiliary column value `y / d`, joined to the code u of R82. -/
def auxCode (range : Nat) (y : Int) (d : Nat) : Int :=
  let c := halfLsbCode (512 * delta range) (2 * y) d
  512 * c + halfLsbCode (delta range) (2 * y - 512 * delta range * c * d) d

/-- The coarse code of an auxiliary column value `y / d` (R82). -/
def auxCoarse (range : Nat) (y : Int) (d : Nat) : Int := halfLsbCode (512 * delta range) (2 * y) d

/-- The auxiliary code of a column value with a deviation of the analogue path, and whether its coarse code is at an end of its
range (R82, R83): the fine code takes up the deviation as far as its ten bits go, and what lies beyond moves the coarse
code. Log entry 32 (DESIGN CHOICE). -/
def auxCodeDev (range : Nat) (y : Int) (den : Nat) (d : Int) : Int × Bool :=
  let c := auxCoarse range y den
  let u := clampInt (-262656) 262143 (auxCode range y den + d)
  let f := u - 512 * c
  let c' := if f < -512 then -(((-512 - f) + 511) / 512) + c else if 511 < f then c + (f - 511 + 511) / 512 else c
  (u, decide (c' ≤ -512 ∨ 511 ≤ c'))

/-- Offset and gain of a table word (R87). -/
def tabOfs (w : Nat) : Int := sgn 16 w
def tabGain (w : Nat) : Nat := w / 65536 % 65536

/-- A data code linearised with the table word of its segment (R89). -/
def linearise (c : Int) (word : Nat → Nat) : Int :=
  let x := (c + 512).toNat
  let s := x / 128
  let p := (tabGain (word s) * (x % 128) + 128) / 256
  clampInt (-32768) 32767 (tabOfs (word s) + p)

/-- An auxiliary code linearised (R90). -/
def lineariseAux (u : Int) (w : Nat) : Int :=
  clampInt (-8388608) 8388607 (((tabGain w : Int) * u + 8192) / 16384 + tabOfs w)

/-- The slice value of a linearised value (R108). -/
def sliceValue (range : Nat) (y : Int) : Int := if 3 ≤ range then y * (2 ^ (range - 3) : Nat) else rne y (3 - range)

/-- The partial sum of one element from one source (R109): int8 weights have a high and a low slice, 8-bit inputs phases
A and B; for a 4-bit input only the A values count. -/
def partialSum (int8w int8x : Bool) (ah al bh bl : Int) : Int :=
  match int8w, int8x with
  | false, false => ah
  | false, true => 16 * ah + bh
  | true, false => 16 * ah + al
  | true, true => 256 * ah + 16 * (al + bh) + bl

/-! ### Weights -/

/-- The slices of an int8 weight (R103). -/
def highSlice (w : Int) : Int := w / 16
def lowSlice (w : Int) : Int := w % 16

/-- A weight as the pair of levels (p, n) (R35). -/
def pairOf (w : Int) : Nat × Nat := (w.toNat, (-w).toNat)

/-- The finite value of an fp16 (10 fraction bits) or bf16 (7) word as a signed numerator over 2^150; none where it is not
finite. -/
def halfMag (bf : Bool) (w : Nat) : Option Int :=
  let fb := if bf then 7 else 10
  let eb := if bf then 8 else 5
  let bias := if bf then 127 else 15
  let e := bitsOf w fb eb
  let f := bitsOf w 0 fb
  if e = 2 ^ eb - 1 then none
  else
    let m := if e = 0 then f * 2 else (2 ^ fb + f) * 2 ^ e
    let v : Int := (m * 2 ^ (149 - bias - fb + 1) : Nat)
    some (if bitOf w 15 then -v else v)

/-- A floating-point weight quantised with its channel's scale (R125): the weight, and whether it was clamped. -/
def quantWeight (int8 : Bool) (mag : Int) (scale : Nat) : Int × Bool :=
  let v := fpRound mag.natAbs (fpMag scale)
  let q := rneDiv (fpMag v) ((2 ^ 150 : Nat))
  let q := if mag < 0 then -q else q
  let lo := if int8 then -128 else -8
  let hi := if int8 then 127 else 7
  (clampInt lo hi q, decide (q < lo ∨ hi < q))

end Sys2Proof.Machine
end

