-- ==== Sys2Proof/Machine/TussOps.lean ====
section
/-! DEFINITION. Shared operations on Tussocks: their arrays, slots and tasks, quarantine causes, restore and check slots,
rows of an image, and the end of a task with an error. Log entries: 1, 32, 33, 35. -/

namespace Sys2Proof.Machine
open Sys2Proof

/-! ### Parts of the state -/

/-- The Gorse lane of slot `k`. -/
def State.lane (s : State) (g k : Nat) : SlotLane := Tab.get (fun _ => {}) (s.tuss g).lanes k

/-- A change to the lane of a slot. -/
def State.updLane (s : State) (g k : Nat) (f : SlotLane → SlotLane) : State :=
  s.updTuss g fun t => { t with lanes := Tab.set (fun _ => {}) t.lanes k (f (Tab.get (fun _ => {}) t.lanes k)) }

/-- Context `c`. -/
def State.ctx (s : State) (c : Nat) : Ctx64 := Tab.get (fun _ => {}) s.ctxs c

/-- A change to context `c`. -/
def State.updCtx (s : State) (c : Nat) (f : Ctx64 → Ctx64) : State :=
  { s with ctxs := Tab.set (fun _ => {}) s.ctxs c (f (s.ctx c)) }

/-- The fabric quarter of Tussock `g` is powered. Log entry 1 (DESIGN CHOICE). -/
def State.onT (s : State) (g : Nat) : Bool := s.powered (.quarter (quarterOf g))

/-- An event of a Tussock's swath markers, clock and restore, which comes about only while its quarter is powered. Log entry 1
(DESIGN CHOICE). -/
def State.ifPowered (s : State) (g : Nat) (f : State → State) : State := if s.onT g then f s else s

/-- Tussock `g` is powered and the device in Run. -/
def State.runsT (s : State) (g : Nat) : Bool := s.onT g && s.get F.PWR_STATUS_STATE == 0

/-- An event of a Tussock at work: its quarter is powered and the device is in Run, since in Idle and Sleep its clocks are gated but
for restore (R414, R415). Log entry 1 (DESIGN CHOICE). -/
def State.ifT (s : State) (g : Nat) (f : State → State) : State := if s.runsT g then f s else s

/-- An event of Gorse in Tussock `g`: none once Gorse has agreed to a power-state entry (R419). -/
def State.ifGorse (s : State) (g : Nat) (f : State → State) : State :=
  if s.onT g && !s.stopped (0x30 + chanOf g) then f s else s

/-- Tussocks of channel `n` that are more than what they are at reset. -/
def State.tussOf (s : State) (n : Nat) : List Nat := (s.tusss.map fun p => p.1).filter fun g => chanOf g == n

/-- CAL_SHRINK: an overdue window or repair is placed (R219). -/
def State.shrinkBit (s : State) (n : Nat) : State :=
  s.set (F.CHN_ADM_BUDGET_CAL_SHRINK n) (natOf
    (((s.tussOf n).any fun g => ((s.tuss g).window.map Window.overdue).getD false) ||
      ((s.chan n).repairs.any fun r => r.overdue && !r.at_.isEmpty)))

/-! ### Slots, states and roles -/

/-- The role map field of a slot (R136). -/
def roleFld (g slot : Nat) : Fld := ⟨.TSK_ROLE_MAP, g, slot / 4, slot % 4 * 8, 5⟩

/-- The physical array that a slot maps to. -/
def State.arrOf (s : State) (g slot : Nat) : Nat := s.get (roleFld g slot)

/-- The slot that maps to a physical array, if any. -/
def State.slotOf (s : State) (g a : Nat) : Option Nat := (List.range 16).find? fun k => s.arrOf g k == a

/-- The reserve array. -/
def State.reserveOf (s : State) (g : Nat) : Nat := s.get (F.TSK_ARRAY_ROLE_RESERVE_PHYS g)

/-- A placed window that has still to exchange its slot (R211). -/
def Window.moves (x : Window) (w : Nat) : Bool :=
  (x.kind == WinKind.rotation || x.kind == WinKind.transit) && decide (x.stage ≤ 1) && !x.released && decide (x.start + 11 ≤ w)

/-- The array to which a slot maps in swath `w`, as far as a placed window tells (R211). -/
def State.mapAt (s : State) (g slot w : Nat) : Nat :=
  match (s.tuss g).window with
  | some x => if x.slot = slot ∧ x.moves w = true then s.reserveOf g else s.arrOf g slot
  | none => s.arrOf g slot

/-- The reserve array in swath `w`. -/
def State.reserveAt (s : State) (g w : Nat) : Nat :=
  match (s.tuss g).window with
  | some x => if x.moves w = true then s.arrOf g x.slot else s.reserveOf g
  | none => s.reserveOf g

/-- The physical array of a cycle that a job holds. -/
def State.placedArr (s : State) (p : Placed) : Nat := if p.kind = 2 then s.reserveAt p.g p.swath else s.mapAt p.g p.slot p.swath

/-- Array states of R58. -/
def aEMPTY : Nat := 0
def aWRITING : Nat := 1
def aVALID : Nat := 2
def aCAL : Nat := 3
def aWFAULT : Nat := 4
def aQUAR : Nat := 5

/-- The state of an array. -/
def State.arrState (s : State) (g a : Nat) : Nat := s.get (F.TSK_ARR_STATE_STATE g a)

/-- No usable reserve: it is QUARANTINED or in WRITE_FAULT (R292). -/
def State.noReserve (s : State) (g : Nat) : Bool :=
  let st := s.arrState g (s.reserveOf g)
  st == aQUAR || st == aWFAULT

/-- IN_PLACE follows the reserve. -/
def State.brkInPlace (s : State) (g : Nat) : State := s.set (F.BRK_STATUS_IN_PLACE g) (natOf (s.noReserve g))

/-- An array enters a state; an EMPTY array holds no context and no image. IN_PLACE follows the reserve's state (R292). -/
def State.setArrState (s : State) (g a v : Nat) : State :=
  let s := (s.set (F.TSK_ARR_STATE_STATE g a) v).brkInPlace g
  let s := if v = aWFAULT ∨ v = aQUAR then s.updArr g a fun r => { r with out := true }
    else if v = aVALID then s.updArr g a fun r => { r with out := false } else s
  if v = 0 then (s.set (F.TSK_ARR_STATE_CONTEXT g a) 0xFF).updArr g a fun r => { r with holds := {}, write := none } else s

/-- Tussock states of R157. -/
def tOFF : Nat := 0
def tSERVICE : Nat := 1
def tQUAR : Nat := 2
def tREEN : Nat := 3

/-- The state of a Tussock. -/
def State.tskState (s : State) (g : Nat) : Nat := s.get (F.TSK_STATE_STATE g)

/-- A quarantine cause arises (R158): it is recorded, and takes effect at the next evaluation-cycle boundary; a further cause of a
Tussock that is QUARANTINED is recorded and does nothing more. Log entry 35 (DESIGN CHOICE). -/
def State.raiseCause (s : State) (g bit : Nat) : State :=
  let s := s.setBit (F.TSK_QUAR_CAUSE_CAUSE g) bit
  if s.tskState g = tQUAR ∨ s.tskState g = tOFF then s else s.updTuss g fun t => { t with quarDue := true }

/-- Gorse quarantines a Tussock (R311 to R315). -/
def State.gorseQuarantine (s : State) (g : Nat) : State :=
  ((s.raiseCause g 1).set F.GRS_STATUS_QUARANTINE 1 |>.inc F.GRS_ARB_CNT_QUAR_CNT).signal 28

/-! ### Restore slots and check slots -/

/-- Evaluation cycle `c` of swath `w` is a restore slot of Tussock `g` (R59): its index within the group, less g mod 30, is
floor(j * 4096 / 135) for some j from 0 to 134, and the only j that can be is ceil(135 * y / 4096). -/
def isRestoreSlot (g w c : Nat) : Bool :=
  let y := (w % 16 * 256 + c + 4096 - g % 30) % 4096
  let j := (135 * y + 4095) / 4096
  decide (j < 135) && j * 4096 / 135 == y

/-- Cycles between check slots at a check fraction code: none for 0, 5 and the reserved codes (R210, R309). -/
def checkPeriod (fr : Nat) : Option Nat :=
  match fr with
  | 1 => some 64
  | 2 => some 16
  | 3 => some 8
  | 4 => some 4
  | _ => none

/-- Cycle `c` of swath `w` is a check slot at a check fraction code (R210). -/
def isCheckAt (fr g w c : Nat) : Bool :=
  match checkPeriod fr with
  | some p => (c + 1) % p == 0 && !isRestoreSlot g w c
  | none => false

/-- The check fraction code that is in force (R309). -/
def State.fractionNow (s : State) : Nat := s.fractionOld.getD (s.get F.GRS_CFG_FRACTION)

/-- The check fraction code that admission reckons with besides: the one to which a change leads, from the boundary after its write (R309). -/
def State.fractionNext (s : State) : Nat := if s.fractionAt < s.swath then s.get F.GRS_CFG_FRACTION else s.fractionNow

/-- Cycle `c` of swath `w` counts as a check slot: in force, or of either fraction while a change is pending (R105, R143,
R309). -/
def State.isCheckSlot (s : State) (g w c : Nat) : Bool :=
  isCheckAt s.fractionNow g w c || isCheckAt s.fractionNext g w c

/-- The first later cycle, by its number from device time 0, that is neither restore nor check slot (R105). -/
def State.phaseBCycle (s : State) (g x : Nat) : Nat :=
  ((List.range 32).map (fun k => x + 1 + k)).find? (fun y =>
    !isRestoreSlot g (y / 256) (y % 256) && !s.isCheckSlot g (y / 256) (y % 256)) |>.getD (x + 1)

/-- The restore fraction of R60 and R61 at a whole temperature: the least integer whose 20th power reaches
2 ^ (T - 45 + 260), which is ceil(8,192 · 2 ^ ((T - 45) / 20)). -/
def restoreFraction (temp : Nat) : Nat :=
  if temp ≤ 45 then 8192
  else if 105 ≤ temp then 65535
  else
    let target := 2 ^ (temp - 45 + 260)
    let rec go (n lo hi : Nat) : Nat :=
      match n with
      | 0 => hi
      | n + 1 => let m := (lo + hi) / 2; if target ≤ m ^ 20 then go n lo m else go n m hi
    min (go 17 8191 65537) 65535

/-! ### Tile tasks -/

/-- Bits of a MATMUL or VECTOR element format: R101, with 6 fp16, 7 bf16, 8 int32; none where reserved. -/
def vecBits (f : Nat) : Option Nat :=
  match f with
  | 6 => some 16
  | 7 => some 16
  | 8 => some 32
  | f => (fmtRange f).map fun p => p.2.2

/-- Parameter words of a VECTOR task. -/
def vecParam (ws : List Nat) : List Nat := [ws.getD 5 0, ws.getD 6 0, ws.getD 7 0]

/-- Rows of a SOFTMAX, LAYERNORM or RMSNORM have PARAM elements (R147): the length of a row, of all elements where PARAM is 0.
Log entry 33 (DESIGN CHOICE). -/
def vecRow (ws : List Nat) : Nat := if ws.getD 5 0 = 0 then tfld ws 4 0 24 else ws.getD 5 0

/-- Bits of an element of a VECTOR result: of KVQUANT 8 or 4, of CONVERT those of the format that it converts to, of any other
operation those of its source (R128, R147). Log entry 33 (DESIGN CHOICE). -/
def vecOutBits (ws : List Nat) (b : Nat) : Nat :=
  match tfld ws 3 12 8 with
  | 14 => if Config.kvInt4 (vecParam ws) then 4 else 8
  | 15 => (vecBits (Config.convertTo (vecParam ws)).toNat).getD b
  | _ => b

/-- Blocks of the result of a VECTOR task. -/
def vecOutBlocks (ws : List Nat) (b : Nat) : Nat := blocksOf ((tfld ws 4 0 24 * vecOutBits ws b + 7) / 8)

/-- Elements of the parameter operand of a VECTOR task: one per source element for ADD and MUL, a scale and an offset per
element of a row for AFFINE and LAYERNORM, a scale for RMSNORM, none for the rest. Log entry 33 (DESIGN CHOICE). -/
def vecOperandLen (ws : List Nat) : Nat :=
  match tfld ws 3 12 8 with
  | 0 => tfld ws 4 0 24
  | 1 => tfld ws 4 0 24
  | 2 => 2
  | 10 => 2 * vecRow ws
  | 11 => vecRow ws
  | _ => 0

/-- The bank block of the parameter operand of a VECTOR task, if it has one: ADD and MUL always have their second tensor (R139, R199).
Log entry 33 (DESIGN CHOICE). -/
def vecOperandBlock (ws : List Nat) : Option Nat :=
  let op := tfld ws 3 12 8
  if op ≤ 1 ∨ Config.vectorWith op (vecParam ws) = true then some (Config.vectorOperand op (vecParam ws)).toNat else none

/-- The parameter operand of a VECTOR task, and the scale blocks of KVQUANT, lie within the bank (R140). -/
def vecOperandFits (ws : List Nat) (b : Nat) : Bool :=
  if tfld ws 3 12 8 = 14 then
    let int4 := Config.kvInt4 (vecParam ws)
    let group := if int4 then 512 else 256
    let per := if int4 then 3 else 12
    let entries := (tfld ws 4 0 24 + group - 1) / group
    entries == 0 || inBank (Config.kvScaleBlock (vecParam ws)).toNat ((Config.kvScaleEntry (vecParam ws) + entries + per - 1) / per)
  else match vecOperandBlock ws with
    | none => true
    | some o => inBank o (blocksOf ((vecOperandLen ws * b + 7) / 8))

/-- Rules of R140 that need only the task: "bad task" for reserved codes, slots, columns and operand ranges. A MATMUL FMT of 2
or 3 and a VECTOR FMT that R139 does not list are bad tasks. Log entry 33 (DESIGN CHOICE). -/
def taskBad (ws : List Nat) : Bool :=
  let kind := tfld ws 0 0 4
  tfld ws 0 4 2 == 3 ||
  match kind with
  | 0 =>
    let code := tfld ws 0 4 2
    let g := gangOf code
    let cb := tfld ws 3 0 8
    let cc := tfld ws 3 8 9
    decide (15 < tfld ws 0 8 4 + g - 1) || cc == 0 || decide (256 < cb + cc) ||
      !inBank (tfld ws 2 8 12) (if tfld ws 0 6 1 = 1 then 2 * g else g)
  | 1 =>
    let g := gangOf (tfld ws 0 4 2)
    let cb := tfld ws 3 0 8
    let cc := tfld ws 3 8 9
    cc == 0 || decide (256 < cb + cc) || !inBank (tfld ws 2 8 12) (if tfld ws 0 6 1 = 1 then 2 * g else g) ||
      !inBank (tfld ws 4 0 12) (blocksOf (512 * g * cc))
  | 2 =>
    let b := if tfld ws 3 24 2 = 0 then 1 else 2
    let m := 16 * tfld ws 4 0 8
    let n := 16 * tfld ws 4 8 8
    let k := 16 * tfld ws 4 16 12
    decide (2 ≤ tfld ws 3 24 2) || !inBank (tfld ws 2 8 12) (blocksOf (m * k * b)) ||
      !inBank (tfld ws 3 0 12) (blocksOf (k * n * b)) || !inBank (tfld ws 3 12 12) (blocksOf (m * n * 4))
  | 3 =>
    let op := tfld ws 3 12 8
    match vecBits (tfld ws 3 20 4) with
    | none => true
    | some b =>
      let n := blocksOf ((tfld ws 4 0 24 * b + 7) / 8)
      op == 12 || op == 13 || decide (16 ≤ op) || !inBank (tfld ws 2 8 12) n || !inBank (tfld ws 3 0 12) (vecOutBlocks ws b) ||
        !vecOperandFits ws b
  | _ => true

/-- The command of a job whose template list a task came from: the TASKS command that names the Tussock, of the task's work
swath if one is (R237). Numbered from 1; 0 for none. -/
def Job.tasksCmd (j : Job) (g w : Nat) : Nat :=
  let w0 := j.swath + 1 + j.slide
  let is (c : List Nat) : Bool := tfld c 0 0 8 == 2 && tfld c 0 20 8 == g
  let ix := j.cmds.findIdx fun c => is c && w0 + tfld c 0 8 12 == w
  if ix < j.cmds.length then ix + 1
  else
    let ix := j.cmds.findIdx is
    if ix < j.cmds.length then ix + 1 else 0

/-- A job whose task ended: one task fewer to come. -/
def State.taskDone (s : State) (job : Option Nat) : State :=
  match job with
  | none => s
  | some id => s.updJob id fun j => { j with openTasks := j.openTasks - 1 }

/-- A job ends for a task of Tussock `g` with target swath `w` (R140, R246). -/
def State.taskFail (s : State) (g w : Nat) (job : Option Nat) (status : Nat) : State :=
  match job with
  | none => s
  | some id =>
    match s.job id with
    | none => s
    | some j => (s.taskDone job).jobFail id status (j.tasksCmd g w) g

/-- A task is retired with an error (R140 to R143, R159): its counter, and its job's end. -/
def State.retire (s : State) (g w : Nat) (job : Option Nat) (status : Nat) : State :=
  let s := if status = 0x05 then s.inc (F.TSK_SEQ_ERR_BAD_CNT g)
    else if status = 0x07 then s.inc (F.TSK_SEQ_ERR_MISSED_CNT g)
    else if status = 0x08 then (s.inc (F.TSK_SEQ_ERR_OVERFLOW_CNT g)).set (F.TSK_SEQ_STATUS_OVERFLOW g) 1
    else if status = 0x09 then s.inc (F.TSK_SEQ_ERR_CONFLICT_CNT g)
    else s
  s.taskFail g w job status

/-- The queue of a Tussock replaced, with its occupancy (R141). -/
def State.setQueue (s : State) (g : Nat) (q : List Task) : State :=
  ((s.updTuss g fun t => { t with queue := q }).set (F.TSK_SEQ_STATUS_OCCUPANCY g) q.length).raise
    (F.TSK_SEQ_STATUS_PEAK g) q.length

/-! ### Cells and image rows -/

/-- The levels of a cell pair. -/
def Arr17.pair (r : Arr17) (row col : Nat) : Nat × Nat := Tab.get (fun _ => (0, 0)) r.cells (row * 260 + col)

/-- A cell pair set. -/
def Arr17.setPair (r : Arr17) (row col : Nat) (v : Nat × Nat) : Arr17 :=
  { r with cells := Tab.set (fun _ => (0, 0)) r.cells (row * 260 + col) v }

/-- The weight of a cell pair (R35). -/
def Arr17.weight (r : Arr17) (row col : Nat) : Int := (r.pair row col).1 - (r.pair row col).2

/-- Checksum latches of a row: plain (`k` = 0) and alternating (`k` = 1) (R37). -/
def Arr17.sum (r : Arr17) (row k : Nat) : Int := Tab.get (fun _ => 0) r.csum (row * 2 + k)

/-- Sum and alternating sum of a row of data weights (R38). -/
def rowSums (ws : List Int) : Int × Int :=
  (ws.zipIdx).foldl (fun p (w, j) => (p.1 + w, if j % 2 = 0 then p.2 + w else p.2 - w)) (0, 0)

/-- The data weights of a row, as its cells hold them. -/
def Arr17.rowWeights (r : Arr17) (row : Nat) : List Int := (List.range 256).map (r.weight row)

/-- Checksum latches of a row loaded with given sums. -/
def Arr17.setSums (r : Arr17) (row : Nat) (p : Int × Int) : Arr17 :=
  { r with csum := Tab.set (fun _ => 0) (Tab.set (fun _ => 0) r.csum (row * 2) p.1) (row * 2 + 1) p.2 }

/-- A row written (R38, R39, R54): data weights, checksum latches and reference patterns; then the cells that fail their
verify stand at the levels they reached. -/
def Arr17.writeRow (r : Arr17) (row : Nat) (ws : List Int) (fails : List (Nat × Nat × Nat)) : Arr17 :=
  let r := (ws.take 256).zipIdx.foldl (fun r (w, j) => r.setPair row j (pairOf w)) r
  let r := (r.setPair row 258 (row % 16, 0)).setPair row 259 (0, 15 - row % 16)
  let r := r.setSums row (rowSums (ws.take 256))
  fails.foldl (fun r (c, p, n) => r.setPair row c (p, n)) r

/-- The 256 data weights of a row from its 128 bytes (R263). -/
def rowOfBytes (wfmt : Nat) (bs : List Byte) : List Int :=
  bs.foldr (fun b t => if wfmt = 1 then highSlice (sgn 8 b.toNat) :: lowSlice (sgn 8 b.toNat) :: t
    else sgn 4 b.toNat :: sgn 4 (b.toNat / 16) :: t) []

/-- The image whose manifest stands at an address. -/
def State.image (s : State) (ptr : Nat) : Option Image := s.images.find? (fun i => i.ptr == ptr)

/-- The resident layers' placements of an image, with their formats. -/
def Image.resident (i : Image) : List (Nat × Placement) :=
  (i.layers.filter (fun l => l.tier == 0)).flatMap fun l => l.placements.map fun p => (l.wfmt, p)

/-- Rows that a placement stores. -/
def Placement.stored (p : Placement) : Nat := (p.pack + 1) * p.nrows

/-- Row `row` of the rectangle that an image gives slot `k` of Tussock `g` (R263): zeros beyond the rows it stores, none
where the image names no such rectangle. -/
def State.imageRow (s : State) (ptr g k row : Nat) : Option (List Int) :=
  match s.image ptr with
  | none => none
  | some i =>
    (i.resident.find? fun p => p.2.tsk == g && p.2.slot == k).map fun p =>
      if row < p.2.stored then rowOfBytes p.1 (Memory.readN s.mem (p.2.addr + row * 128) 128)
      else List.replicate 256 0

/-- What an array holds once it has been written from a placement of layer `l` of an image (R63, R263). -/
def Placement.holds (p : Placement) (ptr l wfmt : Nat) : Holds :=
  { image := ptr, layer := l + 1, rows := p.stored, srcs := [⟨0, p.stored, p.addr, wfmt⟩] }

/-- Index of the layer of an image that has a resident placement for slot `k` of Tussock `g`. -/
def Image.layerOf (i : Image) (g k : Nat) : Nat :=
  i.layers.findIdx fun l => l.tier == 0 && l.placements.any fun p => p.tsk == g && p.slot == k

/-- The digital weights of a row of array `a`, given what the array holds: from its latest source in T2; zeros where the image has none,
and the array's own levels where no image names them (R63). Log entry 32 (DESIGN CHOICE). -/
def State.rowOf (s : State) (g a : Nat) (h : Holds) (row : Nat) : List Int :=
  match h.srcs.find? fun x => decide (x.first ≤ row ∧ row < x.first + x.n) with
  | some x => rowOfBytes x.wfmt (Memory.readN s.mem (x.addr + (row - x.first) * 128) 128)
  | none => if h.image = 0 then (s.arr g a).rowWeights row else List.replicate 256 0

/-- The digital weights of a row of array `a` as it stands. -/
def State.rowFor (s : State) (g a row : Nat) : List Int := s.rowOf g a (s.arr g a).holds row

/-- An engine of channel `n` reads rows of 128 bytes from a block address on, `k` blocks (R174, R177, R186): the bytes of each row, none
where its block fails. -/
def State.engRows (s : State) (n addr : Nat) : Nat → State × List (Option (List Byte))
  | 0 => (s, [])
  | k + 1 =>
    let (s, x) := s.engRead n addr 256
    let two : List (Option (List Byte)) := match x with
      | .inl _ => [none, none]
      | .inr bs => [some (bs.take 128), some (bs.drop 128)]
    let (s, rest) := s.engRows n (addr + 256) k
    (s, two ++ rest)

/-- The sources of what an array holds, read by an engine, each with its rows. -/
def State.readSources (s : State) (n : Nat) : List RowSrc → State × List (RowSrc × List (Option (List Byte)))
  | [] => (s, [])
  | x :: xs =>
    let (s, rows) := s.engRows n x.addr ((x.n + 1) / 2)
    let (s, rest) := s.readSources n xs
    (s, (x, rows) :: rest)

/-- The 512 rows that an engine writes into an array which is to hold `h` (R42, R63, R263), `a` being the array whose weights they are.
A row whose block fails its checks has no weights to write. Log entry 32 (DESIGN CHOICE). -/
def State.rowsOfHolds (s : State) (g a : Nat) (h : Holds) : State × List RowJob :=
  let (s, srcs) := s.readSources (chanOf g) h.srcs
  (s, (List.range 512).map fun r =>
    match srcs.find? fun x => decide (x.1.first ≤ r ∧ r < x.1.first + x.1.n) with
    | some (x, rows) => match rows.getD (r - x.first) none with
      | some bs => { row := r, ws := rowOfBytes x.wfmt bs }
      | none => { row := r, ws := [], lost := true }
    | none => { row := r, ws := if h.image = 0 then (s.arr g a).rowWeights r else List.replicate 256 0 })

/-- The 512 rows of what an array holds, read anew. -/
def State.rowsFor (s : State) (g a : Nat) : State × List RowJob := s.rowsOfHolds g a (s.arr g a).holds

/-- One row of what an array holds, read anew (R63). -/
def State.readRow (s : State) (g a : Nat) (h : Holds) (row : Nat) : State × RowJob :=
  match h.srcs.find? fun x => decide (x.first ≤ row ∧ row < x.first + x.n) with
  | some x =>
    match s.engRead (chanOf g) (x.addr + (row - x.first) * 128) 128 with
    | (s, .inl _) => (s, { row := row, ws := [], lost := true })
    | (s, .inr bs) => (s, { row := row, ws := rowOfBytes x.wfmt bs })
  | none => (s, { row := row, ws := s.rowOf g a h row })

/-! ### Array writes (R54 to R58, R216) -/

/-- The first evaluation cycle that opens at or after now, by its number from device time 0. -/
def State.nextCycle (s : State) : Nat := (s.time + 31) / 32

/-- An array write begins (R58): WRITING, its row counters at 0, its shadow copies dropped. A host write of TSK_CONV_CFG in the
same cycle is dropped (R95). -/
def State.beginWrite (s : State) (g a : Nat) (w : ArrWrite) (ctx range maskEn : Nat) (h : Holds) : State :=
  let s := s.setIf ((s.arr g a).cfgHost == some s.time) (F.TSK_CONV_STATUS_CFG_WR_REJECT g) 1
  let s := (((s.setArrState g a aWRITING).set (F.TSK_ARR_STATE_CONTEXT g a) ctx).set (F.TSK_CONV_CFG_RANGE g a) range).set
    (F.TSK_CONV_CFG_MASK_EN g a) maskEn
  let s := (s.set (F.TSK_ARR_WRITE_ROWS_DONE g a) 0).set (F.TSK_ARR_WRITE_FAIL_ROWS g a) 0
  s.updArr g a fun r => { r with
    write := some { w with from_ := s.nextCycle }, holds := h, inUse := none, filling := none, cfgLoad := some s.time }

/-- A cycle in which no row write advances: a restore slot, or a check slot of an active array (R56). -/
def State.writeSkips (s : State) (g a x : Nat) : Bool :=
  isRestoreSlot g (x / 256) (x % 256) || (a != s.reserveOf g && s.isCheckSlot g (x / 256) (x % 256))

/-- The row of an array that is written next, and its five cycles by their numbers from device time 0 (R54, R56, R216). -/
structure RowTurn where
  row : Nat
  cycles : List Nat
  deriving DecidableEq, Repr

/-- The cycles that a job holds for the next row of its AWRITE. -/
def State.awriteCycles (s : State) (g a job cmd : Nat) : List Nat :=
  let n := s.get (F.TSK_ARR_WRITE_ROWS_DONE g a)
  match s.job job with
  | none => []
  | some j => (j.placed.filter fun p => p.cmd == cmd && p.ix == n && p.kind == 1).map fun p => p.swath * 256 + p.cycle

/-- A repair rewrite as the row that an array writes next. -/
def Repair.turn (r : Repair) : RowTurn := ⟨r.row, r.at_.map fun x => x.1 * 256 + x.2⟩

/-- First and last of the five cycles of a row. -/
def RowTurn.first (t : RowTurn) : Nat := t.cycles.foldl min (t.cycles.headD 0)
def RowTurn.last (t : RowTurn) : Nat := t.cycles.foldl max 0

/-- The repairs of an array that have been placed, and whose cycles have not all passed. -/
def State.placedRepairs (s : State) (g a : Nat) : List Repair :=
  (s.chan (chanOf g)).repairs.filter fun r => r.g == g && r.a == a && r.at_.any fun p => decide (s.swath ≤ p.1)

/-- The repair of an array whose fifth cycle is `x` (R212). -/
def State.repairAt (s : State) (g a x : Nat) : Option Repair := (s.placedRepairs g a).find? fun r => r.turn.last == x

/-- The next row of an array's write and its cycles: an AWRITE has them by the reservations of its job; any other write goes on in the
next five cycles that neither a restore slot, a check slot nor another operation of the array takes (R54, R56, R57). -/
def State.writeTurn (s : State) (g a : Nat) : Option RowTurn :=
  (s.arr g a).write.bind fun w => w.rows.head?.map fun r =>
    match w.for_ with
    | .awrite job cmd => ⟨r.row, s.awriteCycles g a job cmd⟩
    | _ => ⟨r.row, (((List.range 60).map (w.from_ + ·)).filter fun x =>
        !s.writeSkips g a x && !(s.tuss g).used.contains (a, x) && !(s.tuss g).passed.contains (a, x)).take 5⟩

/-- The rows of an array that are written next: of its write, and of its repairs. -/
def State.rowTurns (s : State) (g a : Nat) : List RowTurn := (s.writeTurn g a).toList ++ (s.placedRepairs g a).map Repair.turn

/-- Cycle `x` of an array is one in which a row of it is written: any cycle of a write but the slots it pauses for, those that the job of
an AWRITE holds, or those that a repair holds (R57, R58, R211, R212). -/
def State.writeHolds (s : State) (g a x : Nat) : Bool :=
  ((s.placedRepairs g a).any fun r => r.turn.cycles.contains x) ||
    match (s.arr g a).write with
    | none => false
    | some w => match w.for_ with
      | .awrite job cmd => (s.job job).any fun j =>
          j.placed.any fun p => p.cmd == cmd && p.kind == 1 && p.swath * 256 + p.cycle == x &&
            decide (s.get (F.TSK_ARR_WRITE_ROWS_DONE g a) ≤ p.ix)
      | _ => decide (w.from_ ≤ x) && !w.rows.isEmpty && !s.writeSkips g a x

/-- A row has begun and not ended when cycle `x` comes. -/
def RowTurn.under (t : RowTurn) (x : Nat) : Bool := !t.cycles.isEmpty && decide (t.first < x ∧ x ≤ t.last)

/-- The row under write when the write pauses for cycle `x` (R56, R61): its five cycles have begun and not ended. -/
def State.rowUnder (s : State) (g a x : Nat) : Option Nat :=
  ((s.rowTurns g a).find? fun t => t.under x).map RowTurn.row

/-- A row write ends in cycle `x`: that is the last of its five, and none of them carries another operation of the array (R46, R51,
R54). -/
def State.rowMayEnd (s : State) (g a x : Nat) (t : RowTurn) : Bool :=
  let u := s.tuss g
  t.cycles.length == 5 && t.last == x && t.cycles.all fun y => !u.used.contains (a, y) && !u.passed.contains (a, y)

/-- The first cycle whose operations an array still needs to know: that of the row which is written next. -/
def State.keptFrom (s : State) (g a : Nat) : Nat :=
  ((s.rowTurns g a).map RowTurn.first).foldl min (s.swath * 256)

/-- A slot's baseline is taken anew (R302). -/
def SlotLane.rebase (l : SlotLane) (now : Nat) : SlotLane :=
  { l with baseN := 0, baseE := 0, baseO := 0, baseTime := now, win := [], hist := [], stuckPass := none }

/-- The slot that maps to an array starts a new baseline. -/
def State.rebaseArr (s : State) (g a : Nat) : State :=
  match s.slotOf g a with
  | none => s
  | some k => s.updLane g k fun l => l.rebase s.time

/-- Waits of a repair rewrite of one row: queued once, REPAIR_PENDING set (R63). -/
def State.queueRepair (s : State) (g a row : Nat) : State :=
  let n := chanOf g
  let c := s.chan n
  let s := s.set (F.TSK_ARR_STATUS_REPAIR_PENDING g a) 1
  if c.repairs.any (fun r => r.g == g && r.a == a && r.row == row) then s
  else s.setChan n { c with repairs := c.repairs ++ [{ g := g, a := a, row := row, since := s.swath, at_ := [] }] }

/-- The load engine writes the descriptor's mask: a host write of it in the same cycle is dropped (R95). -/
def State.writeMask (s : State) (g a : Nat) (mask : List Byte) : State :=
  let s := s.setIf ((s.arr g a).maskHost == some s.time) (F.TSK_CONV_STATUS_TABLE_WR_REJECT g) 1
  State.updArr { s with mem := Memory.writeN s.mem (tableBase g + 0x22880 + a * 0x40) mask } g a fun r =>
    { r with maskLoad := some s.time }

/-- An array takes another array's column enable mask with its weights (R84, R273, R282). -/
def State.copyMask (s : State) (g a dst : Nat) : State :=
  s.writeMask g dst (Memory.readN s.mem (tableBase g + 0x22880 + a * 0x40) 32)

/-! ### Trim words (R280, R298) -/

/-- Reset value of a trim word, by array × 256 + index. -/
def trimReset (key : Nat) : Nat :=
  let a := key / 256
  let i := key % 256
  if a < 17 then (if i ≤ 0x40 then 0x20202020 else if i ≤ 0x48 then 0x10101010 else if i = 0x49 then 0x10 else 0)
  else if a = 17 ∧ i < 8 then (if i % 2 = 0 then 0x800800 else 0x80) else 0

/-- The bits of a trim word that exist; 0 for an unlisted index. -/
def trimMask (a i : Nat) : Nat :=
  if a < 17 then
    (if i ≤ 0x40 then 0x3F3F3F3F else if i ≤ 0x48 then 0x1F1F1F1F else if i = 0x49 then 0x1F
     else if i ≤ 0x4D then 0x81FF81FF else 0)
  else if a = 17 ∧ i < 8 then (if i % 2 = 0 then 0xFFFFFF else 0x1FF) else 0

/-- A trim word: of an array, or with `a` = 17 of the generator sets, which retention memory holds (R293). -/
def State.trim (s : State) (g a i : Nat) : Nat :=
  if a = 17 then Tab.get (fun k => trimReset (17 * 256 + k % 8)) s.genSets (g * 8 + i % 8)
  else Tab.get trimReset (s.tuss g).trims (a * 256 + i)

/-- A trim word set. -/
def State.setTrim (s : State) (g a i v : Nat) : State :=
  if a = 17 then
    (if i < 8 then { s with genSets := Tab.set (fun k => trimReset (17 * 256 + k % 8)) s.genSets (g * 8 + i) v } else s)
  else s.updTuss g fun t => { t with trims := Tab.set trimReset t.trims (a * 256 + i) v }

/-- A byte of a trim word. -/
def State.trimByte (s : State) (g a i k : Nat) : Nat := bitsOf (s.trim g a i) (8 * k) 8

/-- A byte of a trim word set. -/
def State.setTrimByte (s : State) (g a i k v : Nat) : State :=
  let w := s.trim g a i
  s.setTrim g a i (w - bitsOf w (8 * k) 8 * 2 ^ (8 * k) + v % 256 * 2 ^ (8 * k))

/-- The gain that the codes in force give column `j` of array `a` (R280), as numerator and denominator: the column's unit
capacitors, the ladder tap of its converter, and the levels of the reference generator. -/
def State.trimGain (s : State) (g a j : Nat) : Int × Nat :=
  let m := if j < 256 then j % 32 else 32
  let gain := s.trimByte g a (j / 4) (j % 4)
  let tap := s.trimByte g a (0x41 + m / 4) (m % 4)
  let r := (s.tuss g).refCodes
  let step (up : Bool) (c : Nat) : Int := if up then (c : Int) - 0x800 else 0x800 - (c : Int)
  ((368 + gain) * 200 * (16384 + step Config.refHiUp r.1 + step Config.refLoUp r.2.1), 400 * (184 + tap) * 16384)

end Sys2Proof.Machine
end

