-- ==== Sys2Proof/Machine/Records.lean ====
section
/-! DEFINITION. Completion records and tokens (R243, R244, R252, R320 to R323, R357): writing a version of a record,
issuing a token, resolving provisional entries, and control messages to other Lea nodes. Log entries: 9. -/

namespace Sys2Proof.Machine
open Sys2Proof

/-! ### Lea messages -/

/-- Port `p`. -/
def State.lea (s : State) (p : Nat) : LeaPort := Tab.get (fun _ => {}) s.leas p

/-- A change to port `p`. -/
def State.updLea (s : State) (p : Nat) (f : LeaPort → LeaPort) : State :=
  { s with leas := Tab.set (fun _ => {}) s.leas p (f (s.lea p)) }

/-- The port towards a node, if a valid route exists (R356). -/
def State.routeTo (s : State) (d : Nat) : Option Nat :=
  if s.on ⟨.LEA_ROUTE, 0, 0, 4 * d + 2, 1⟩ then some (s.get ⟨.LEA_ROUTE, 0, 0, 4 * d, 2⟩) else none

/-- A control message dropped (R354, R356). -/
def State.msgDrop (s : State) : State := (s.inc F.LEA_CTRL_STAT_DROP_CNT).set F.LEA_STATUS_CTRL_DROP 1

/-- A port runs at 56 Gb/s: by its RATE, or because its partner is an Olusar 1100 (R336, R359). -/
def State.lea56 (s : State) (p : Nat) : Bool := s.on (F.LEA_PORT_CFG_RATE p) || s.on (F.LEA_PORT_STATUS_PARTNER_1100 p)

/-- A message queued on a port; an Olusar 1100 gets none (R359). -/
def State.msgQueue (s : State) (p : Nat) (m : LeaMsg) : State :=
  if s.on (F.LEA_PORT_STATUS_PARTNER_1100 p) then s
  else s.updLea p fun l => { l with ctrl := l.ctrl ++ [.ctrl m] }

/-- A message of this device sent towards its destination, with 15 hops (R354, R356). -/
def State.msgSend (s : State) (msg dest jobref : Nat) (body : List Byte) : State :=
  let m : LeaMsg := ⟨msg, dest, s.get F.LEA_NODE_NODE, 15, jobref, body⟩
  match s.routeTo dest with
  | some p => s.msgQueue p m
  | none => s.msgDrop

/-- The JOBREF of a job: its channel and its first request tag (R338). -/
def Job.ref (j : Job) : Nat := j.chan * 16384 + j.tags.headD 0

/-! ### Counters over jobs -/

/-- CHN_TAGS follows the tags that jobs hold (R221), CHN_ENG_STATUS.RUNNING the jobs and EN of each engine (R232). -/
def State.recount (s : State) : State :=
  let s := (List.range 4).foldl (fun s n =>
    let u := ((s.jobs.filter (fun j => j.chan == n)).map (fun j => j.tags.length)).sum
    (s.set (F.CHN_TAGS_IN_USE n) u).raise (F.CHN_TAGS_PEAK n) u) s
  (List.range 16).foldl (fun s k =>
    s.set (F.CHN_ENG_STATUS_RUNNING k) (natOf ((s.engine k).en ||
      s.jobs.any fun j => 4 * j.chan + j.eng == k && !j.tags.isEmpty))) s

/-- The owner records of a job that leaves: those of a confirmed job are kept for late detections (R321). -/
def Arr17.ownerGone (r : Arr17) (id : Nat) (confirmed : Bool) : Arr17 :=
  { r with
    issued := if confirmed then r.issued ++ r.owners.filter (fun o => o.job == id) else r.issued
    owners := r.owners.filter (fun o => o.job != id) }

/-- A job leaves the device: its tags, areas, productions and owner records go with it. -/
def State.dropJob (s : State) (id : Nat) (confirmed : Bool) : State :=
  let s := { s with
    commits := s.commits ++ (s.jobs.filter fun (j : Job) => j.id == id && j.committed).flatMap Job.deps
    jobs := s.jobs.filter (fun j => j.id != id)
    areas := s.areas.filter (fun a => a.job != id)
    prods := s.prods.filter (fun p => p.job != id)
    tusss := Tab.mapV (fun _ => {}) (fun _ t => { t with
      arrs := Tab.mapV (fun _ => {}) (fun _ r => r.ownerGone id confirmed) t.arrs
      ovf := (t.ovf.map fun (p : Nat × List Nat) => (p.1, p.2.filter (· != id))).filter fun p => !p.2.isEmpty })
      s.tusss }
  s.recount

/-! ### The provisional table -/

/-- Entries leave the provisional table. A retracted one marks every job that depends on it; a job that had already
committed an upstream result outside reports it (R320, R322, R323, R354). -/
def State.resolveProvs (s : State) (p : Prov → Bool) (retracted : Bool) : State :=
  let es := s.provs.filter p
  let ids := es.map Prov.id
  let hit (j : Job) : Bool := j.deps.any ids.contains
  let s := if retracted then
      es.foldl (fun s e => match e.origin with
        | none => s
        | some o => if s.commits.contains e.id || s.jobs.any (fun j => j.committed && j.deps.contains e.id) then
            s.msgSend 3 o e.job [] else s) s
    else s
  State.provCount { s with
    provs := s.provs.filter (fun e => !p e)
    commits := s.commits.filter (fun i => !ids.contains i)
    jobs := s.jobs.map fun j => if hit j then
      { j with deps := j.deps.filter (fun d => !ids.contains d), depBad := j.depBad || retracted } else j }

/-! ### Records -/

/-- The FLAGS byte of R243. -/
def Job.flags (j : Job) : Nat :=
  natOf j.tooSmall + 2 * natOf j.tooLarge + 4 * natOf j.recomputeNa + 8 * natOf j.rerun + 16 * natOf j.held +
    32 * natOf j.throttled + 64 * natOf j.k1

/-- A job's COOKIE and IRQ (R234). -/
def Job.cookie (j : Job) : Nat := j.hdr.getD 6 0 + 2 ^ 32 * j.hdr.getD 7 0
def Job.irq (j : Job) : Bool := bitOf (j.hdr.getD 0 0) 28

/-- The status, command index and unit that a record carries. -/
def Job.errCode (j : Job) : Nat := (j.err.map JobErr.status).getD 0
def Job.errCmd (j : Job) : Nat := (j.err.map JobErr.cmd).getD 0
def Job.errUnit (j : Job) : Nat := (j.err.map JobErr.unit).getD 0xFFFF

/-- The bytes of a 64-byte record (R243). -/
def Job.recordBytes (j : Job) (phase state tToken : Nat) : List Byte :=
  leBytes 1 (phase + 2 * state) ++ leBytes 1 j.errCode ++ leBytes 1 j.cause ++ leBytes 1 j.flags ++
  leBytes 4 j.ringIndex ++ leBytes 2 j.clipF ++ leBytes 2 j.clipTensor ++ leBytes 1 j.slide ++
  leBytes 1 (j.eng + 4 * j.chan) ++ leBytes 2 j.errCmd ++ leBytes 8 j.tRead ++ leBytes 8 j.tDone ++
  leBytes 2 j.errUnit ++ leBytes 6 0 ++ leBytes 8 j.cookie ++ leBytes 8 tToken ++ leBytes 8 0

/-- The bytes of a 16-byte record of a K1 ring (R252). -/
def Job.recordBytesK1 (j : Job) (phase state : Nat) : List Byte :=
  leBytes 4 (phase + 2 * state + 16 * j.errCode + 2 ^ 12 * min j.cause 15 + 2 ^ 16 * (j.ringIndex % 65536)) ++
  leBytes 4 (j.cookie % 65536 + 2 ^ 16 * j.clipF) ++ leBytes 4 (j.tDone % 2 ^ 32) ++ leBytes 4 j.flags

/-- Engine index 4n + e of a job. -/
def Job.ek (j : Job) : Nat := 4 * j.chan + j.eng

/-- Slots of the completion ring of engine `k`. -/
def State.cplSlots (s : State) (k : Nat) : Nat := 2 ^ s.get (F.CHN_ENG_CFG_CPL_LOG2 k)

/-- A bus access of an engine to a structure in memory that the guards deny is recorded and not performed (R183, R186);
else the bytes are merged (R181). -/
def State.engWrite (s : State) (n a : Nat) (bytes : List Byte) : State :=
  match s.accessFault (.eng n) true a bytes.length with
  | some u => s.addressFault (.eng n) true a u
  | none => s.mergeWrite a bytes

/-- The stack of a completion ring has failed: its records are not written, and nothing is signalled for them (R458). -/
def State.cplLost (s : State) (k : Nat) : Bool := s.unmapped (s.get (F.CHN_ENG_CPL_BASE_BASE k) * 4096)

/-- The management core sees a version of a record of a bound job (R445): one that ends in STATE 3 or 4 is watched no more. -/
def State.recordSeen (s : State) (j : Job) (state : Nat) : State :=
  let mine (w : Watch) : Bool := w.k == j.ek && w.ring == j.ringIndex
  { s with boot := { s.boot with
    watches := if 3 ≤ state then s.boot.watches.filter fun w => !mine w
      else s.boot.watches.map fun w => if mine w then { w with state := state } else w } }

/-- A version of a job's record written (R243, R252). -/
def State.writeRecord (s : State) (j : Job) (state tToken : Nat) : State :=
  if s.cplLost j.ek then s else
  let slots := s.cplSlots j.ek
  let phase := natOf (j.recNo / slots % 2 = 0)
  let base := s.get (F.CHN_ENG_CPL_BASE_BASE j.ek) * 4096
  let s := s.recordSeen j state
  if s.on (F.CHN_ENG_CFG_FMT j.ek) then s.engWrite j.chan (base + j.recNo % slots * 16) (j.recordBytesK1 phase state)
  else s.engWrite j.chan (base + j.recNo % slots * 64) (j.recordBytes phase state tToken)

/-- A job's completion slot awaits its token, or no longer does (R231). Log entry 9 (DEDUCED). -/
def State.slotWait (s : State) (j : Job) (on : Bool) : State :=
  let e := s.engine j.ek
  let slot := j.recNo % s.cplSlots j.ek
  s.setEngine j.ek { e with waiting := if on then e.waiting ++ [slot] else e.waiting.filter (· != slot) }

/-- A job whose record ends in STATE 4 leaves: its provisional entries resolve as retracted (R244, R322). -/
def State.finalRecord (s : State) (j : Job) : State :=
  let j := { j with tDone := s.time }
  let s := s.writeRecord j 4 0
  let s := if j.irq && !s.cplLost j.ek then s.signal j.ek else s
  (s.resolveProvs (fun p => p.job == j.id && p.origin.isNone) true).dropJob j.id false

/-- A result on which something outside has acted is retracted (R323): counted, with vector 28. -/
def State.commitRetract (s : State) : State :=
  ((s.inc F.GRS_EVT_CNT_COMMIT_RETRACT_CNT).set F.GRS_STATUS_COMMIT_RETRACT 1).signal 28

/-- The token of a job whose record is provisional (R320, R323, R357): STATE 2 or 3, T_TOKEN, the messages to the nodes
that hold its PROV blocks, and its provisional entries. -/
def State.token (s : State) (id : Nat) (confirm : Bool) : State :=
  match s.job id with
  | none => s
  | some j =>
    match j.stage with
    | .running => s
    | .provisional =>
      let s := (s.writeRecord j (if confirm then 2 else 3) s.time).slotWait j false
      let s := j.leaNodes.foldl (fun s d => s.msgSend (if confirm then 1 else 2) d j.ref []) s
      let s := if confirm || s.cplLost j.ek then s else s.signal (16 + j.chan)
      let s := if !confirm && (j.committed || j.legacy) then s.commitRetract else s
      (s.resolveProvs (fun p => p.job == id && p.origin.isNone) (!confirm)).dropJob id confirm

/-- A job's retraction is decided (R320): written at once for a provisional record, else after its first write. -/
def State.retractJob (s : State) (id : Nat) : State :=
  match s.job id with
  | none => s
  | some j =>
    match j.stage with
    | .provisional => s.token id false
    | .running => s.updJob id fun j => { j with retract := true }

/-- Jobs retracted one by one. -/
def State.retractJobs (s : State) (ids : List Nat) : State := ids.foldl State.retractJob s

/-- A job without error writes its provisional record (R243, R320): a retraction decided before follows at once. -/
def State.provisionalRecord (s : State) (j : Job) : State :=
  let j := { j with tDone := s.time, stage := .provisional }
  let s := (s.updJob j.id fun _ => j).writeRecord j 1 0
  let s := s.slotWait j true
  let s := if j.irq && !s.cplLost j.ek then s.signal j.ek else s
  if j.retract then s.token j.id false else s

end Sys2Proof.Machine
end

