-- ==== Sys2Proof/Machine/GorseOps.lean ====
section
/-! DEFINITION. Shared operations of the Gorse lane (R299 to R321): triggers, residuals and their tests, exact values of the
shadow, suspect starts, and the retractions for an array or a Tussock. Log entries: 7. -/

namespace Sys2Proof.Machine
open Sys2Proof

/-! ### Triggers -/

/-- ARB_ACTIVE and ARB_QUEUED follow the arbitration queue (R312). -/
def State.arbStatus (s : State) (g : Nat) : State :=
  let t := s.tuss g
  (s.set (F.GRS_LANE_STATUS_ARB_ACTIVE g) (natOf t.arb.isSome)).set (F.GRS_LANE_STATUS_ARB_QUEUED g) (min t.arbQueue.length 4)

/-- A trigger (R312): queued, or, when one arbitration and four more are there already, the Tussock is quarantined. Log entry 7 (DEDUCED). -/
def State.trigger (s : State) (g : Nat) (tr : Trigger) : State :=
  let t := s.tuss g
  if 5 ≤ t.arbQueue.length + natOf t.arb.isSome then s.gorseQuarantine g
  else (s.updTuss g fun t => { t with arbQueue := t.arbQueue ++ [tr] }).arbStatus g

/-- `n` failed digital checks of a Tuft, one after the other (R311): each is counted, and the second within 131,072 swaths quarantines the
Tussock, once. -/
def State.digErrors (s : State) (g n : Nat) : State :=
  if n = 0 then s
  else
    let s := (s.incBy (F.GRS_LANE_CNT_DIG_CNT g) n).set (F.GRS_LANE_STATUS_DIG_ERR g) 1
    let again := decide (2 ≤ n) || match (s.tuss g).digFail with
      | some w => decide (s.swath < w + 131072)
      | none => false
    let s := s.updTuss g fun t => { t with digFail := some s.swath }
    if again then s.gorseQuarantine g else s

/-- A failed digital check of a Tuft (R311). -/
def State.digError (s : State) (g : Nat) : State := s.digErrors g 1

/-! ### Residuals -/

/-- Residuals E and O of an evaluation, in 1/64 LSB (R300). -/
def Evl.residuals (e : Evl) : Int × Int :=
  let p := (e.vals.take 256).zipIdx.foldl (fun p (y, j) => if j % 2 = 0 then (p.1 + y, p.2) else (p.1, p.2 + y)) ((0, 0) : Int × Int)
  let v6 := e.vals.getD 256 0
  let v7 := e.vals.getD 257 0
  (p.1 - 16 * (v6 + v7), p.2 - 16 * (v6 - v7))

/-- Tolerances of GRS_TOL in 1/64 LSB. -/
def State.tolEval (s : State) : Int := s.get F.GRS_TOL_TOL_EVAL * 16
def State.tolMean (s : State) : Int := s.get F.GRS_TOL_MEAN_TOL * 4
def State.tolDrift (s : State) : Int := s.get F.GRS_TOL_DRIFT_TOL * 4
def State.tolAgree (s : State) : Int := s.get F.GRS_TOL_AGREE_TOL * 4

/-- The data columns of a parity. -/
def parityCols (p : Nat) : List Nat := (List.range 256).filter (fun j => j % 2 == p)

/-- Sums of residual pairs. -/
def sumPairs (l : List (Int × Int)) : Int × Int := l.foldl (fun p q => (p.1 + q.1, p.2 + q.2)) (0, 0)

/-- The mean over `n` residuals of sum `x` differs from the mean over 1,024 of sum `b` by more than `tol` / 64 LSB. -/
def meanOff (x : Int) (n : Nat) (b tol : Int) : Bool := decide (tol * n * 1024 < (x * 1024 - b * n).natAbs)

/-- The evaluation test (R301): an evaluation whose residual exceeds TOL_EVAL is a trigger on the failing parity. -/
def State.evalTest (s : State) (g : Nat) (e : Evl) : State :=
  let (x, y) := e.residuals
  let fe := decide (s.tolEval < x.natAbs)
  let fo := decide (s.tolEval < y.natAbs)
  if fe || fo then
    let cols := (if fe then parityCols 0 else []) ++ (if fo then parityCols 1 else [])
    (s.set (F.GRS_LANE_STATUS_EVAL_FAIL g) 1).trigger g ⟨0, e.slot, e.arr, cols, some (if fe then 0 else 1), [e], 1, []⟩
  else s

/-- A trigger of the stuck test of slot `k` is queued or running. -/
def Tuss.stuckRaised (t : Tuss) (k : Nat) : Bool :=
  t.arbQueue.any (fun r => r.row == 1 && r.slot == k) || (t.arb.any fun a => a.trig.row == 1 && a.trig.slot == k)

/-- Device time at which an evaluation latched, by its cycle. -/
def Evl.time (e : Evl) : Nat := e.swath * 8192 + e.cycle * 32

/-- The stuck test (R303) on the window of the latest 256 residuals. -/
def State.stuckTest (s : State) (g : Nat) (e : Evl) : State :=
  let l := s.lane g e.slot
  if l.baseN < 1024 ∨ l.win.length < 256 ∨ (s.tuss g).stuckRaised e.slot then s
  else
    let (x, y) := sumPairs (l.win.map fun p => (p.1, p.2.1))
    let fe := meanOff x 256 l.baseE s.tolMean
    let fo := meanOff y 256 l.baseO s.tolMean
    if fe || fo then
      let cols := (if fe then parityCols 0 else []) ++ (if fo then parityCols 1 else [])
      (s.set (F.GRS_LANE_STATUS_MEAN_FAIL g) 1).trigger g ⟨1, e.slot, e.arr, cols, some (if fe then 0 else 1), [], 4, []⟩
    else s.updLane g e.slot fun l => { l with stuckPass := (l.win.getLast?).map fun p => p.2.2 }

/-- The drift test (R304) on the latest 16,384 residuals. -/
def State.driftTest (s : State) (g : Nat) (e : Evl) : State :=
  let l := s.lane g e.slot
  if l.baseN < 1024 ∨ l.hist.length < 16384 then s
  else
    let (x, y) := sumPairs l.hist
    if meanOff x 16384 l.baseE s.tolDrift || meanOff y 16384 l.baseO s.tolDrift then
      let s := s.set (F.GRS_LANE_STATUS_DRIFT g) 1
      if s.on F.GRS_CFG_DRIFT_PASS then s.updTuss g fun t => if t.pass.isSome then t else { t with startPass := true } else s
    else s

/-- An evaluation joins its slot's windows, and its baseline where it latched after what began that (R302 to R304). -/
def SlotLane.take (l : SlotLane) (e : Evl) : SlotLane :=
  let (x, y) := e.residuals
  let l := if l.baseN < 1024 ∧ l.baseTime ≤ e.time then { l with baseN := l.baseN + 1, baseE := l.baseE + x, baseO := l.baseO + y } else l
  { l with win := (x, y, e.time) :: l.win.take 255, hist := (x, y) :: l.hist.take 16383 }

/-- The tests on every evaluation of a slot (R300 to R304); they are off during a checksum refresh of the array (R317). Log entry 7 (DEDUCED). -/
def State.residualTests (s : State) (g : Nat) (e : Evl) : State :=
  if (s.arr g e.arr).refresh ≠ 0 then s
  else
    let s := s.evalTest g e
    let s := s.updLane g e.slot fun l => l.take e
    (s.stuckTest g e).driftTest g e

/-- Two evaluations are the primary and the duplicate of one (R309). -/
def pairOfDup (x e : Evl) : Bool :=
  x.swath == e.swath && x.cycle == e.cycle && x.phase == e.phase && x.kind != e.kind &&
    tfld x.task 1 0 14 == tfld e.task 1 0 14 && x.task.getD 5 0 == e.task.getD 5 0 && tfld x.task 3 0 17 == tfld e.task 3 0 17

/-- The partner of an arbitration's vector is known: it gives R1 (R313). -/
def Trigger.mated (tr : Trigger) (e x : Evl) : Trigger := if tr.vecs.contains e then { tr with mates := tr.mates ++ [x] } else tr

/-- A primary and its duplicate are known to the arbitrations that have one of them as a vector. -/
def State.mateVectors (s : State) (g : Nat) (p q : Evl) : State :=
  let add (tr : Trigger) : Trigger := (tr.mated p q).mated q p
  s.updTuss g fun t => { t with arbQueue := t.arbQueue.map add, arb := t.arb.map fun a => { a with trig := add a.trig } }

/-- An evaluation joins the vectors of arbitrations of its slot that still want some (R312). -/
def State.gatherVector (s : State) (g : Nat) (e : Evl) : State :=
  let add (tr : Trigger) : Trigger :=
    if tr.slot = e.slot ∧ tr.vecs.length < tr.want then { tr with vecs := tr.vecs ++ [e] } else tr
  s.updTuss g fun t => { t with
    arbQueue := t.arbQueue.map add
    arb := t.arb.map fun a => { a with trig := add a.trig } }

/-! ### Exact values -/

/-- Sums over the dot-product rows of an evaluation of input level × row weights, column by column (R36, R50). -/
def exactRows (row : Nat → List Int) (inputs : List Nat) : List Int :=
  inputs.zipIdx.foldl (fun acc (x, i) => if x = 0 then acc else acc.zipWith (fun a w => a + x * w) (row i))
    (List.replicate 256 0)

/-- The weights of arrays, read from the image version that each holds (R313), by array; a row whose block fails its checks has open weights.
Log entry 7 (DESIGN CHOICE). -/
def State.weightsOf (s : State) (g : Nat) : List Nat → State × List (Nat × List RowJob)
  | [] => (s, [])
  | a :: as =>
    let (s, rows) := s.rowsFor g a
    let v := s.freeVal (512 * 1024)
    let known (r : RowJob) : RowJob :=
      if r.lost then { r with ws := (List.range 256).map fun j => ((v / 2 ^ (1024 * r.row + 4 * j) % 16 : Nat) : Int) - 8 } else r
    let (t, rest) := State.weightsOf (if rows.any RowJob.lost then s.draw else s) g as
    (t, (a, rows.map known) :: rest)

/-- Exact column values of an evaluation from weights that have been read (R313). -/
def exactImage (ws : List (Nat × List RowJob)) (e : Evl) : List Int :=
  exactRows (fun i => (((ws.find? fun p => p.1 == e.members.getD (i / 512) 0).bind fun p => p.2[i % 512]?).map RowJob.ws).getD []) e.inputs

/-- The set number of the shadow weights in use, where every member of an evaluation has a copy of it in use (R307). -/
def State.shadowSetOf (s : State) (g : Nat) (e : Evl) : Option Nat :=
  match (e.members.map fun a => (s.arr g a).inUse.map ShadowCopy.set_) with
  | some k :: rest => if rest.all (· == some k) then some k else none
  | _ => none

/-- Exact values of the four columns of the shadow set in use, from the sensed levels (R307). -/
def State.exactShadow (s : State) (g : Nat) (e : Evl) : List (Nat × Int) :=
  match s.shadowSetOf g e with
  | none => []
  | some k => (List.range 4).map fun q =>
    (4 * k + q, (e.inputs.zipIdx.foldl (fun acc (x, i) =>
      acc + x * Tab.get (fun _ => 0) (((s.arr g (e.members.getD (i / 512) 0)).inUse.map ShadowCopy.levels).getD [])
        (i % 512 * 4 + q)) (0 : Int)))

/-- The difference of a linearised value and an exact value exceeds `tol` / 64 LSB. -/
def offExact (range : Nat) (y exact tol : Int) : Bool :=
  decide (tol * delta range < (y * delta range - 64 * exact).natAbs)

/-! ### Retraction (R321) -/

/-- The start of suspicion of an array for involved columns (R321). -/
def State.suspectStart (s : State) (g a k : Nat) (cols : List Nat) : Nat :=
  let l := s.lane g k
  let passed := ((s.arr g a).passed.filter fun p => cols.any fun c => c / 4 == p.1).map fun p => p.2
  let all := passed ++ l.stuckPass.toList
  if all.isEmpty then l.baseTime else all.foldl max 0

/-- The jobs whose TASKS commands name a Tussock. -/
def State.jobsNaming (s : State) (g : Nat) : List Nat :=
  (s.jobs.filter fun j => j.cmds.any fun c => tfld c 0 0 8 == 2 && tfld c 0 20 8 == g).map Job.id

/-- Late detections: confirmed jobs that own suspect evaluations (R321); `code` is the array, 0x1F for the Tussock. -/
def State.lateFor (s : State) (g code since : Nat) (os : List Owner) : State :=
  (os.filter fun o => decide (since ≤ o.last)).foldl (fun s _ =>
    let s := s.inc F.GRS_EVT_CNT_LATE_CNT
    let s := if s.on F.GRS_STATUS_LATE then s
      else ((s.set F.GRS_SUSPECT_TIME_TIME since).set F.GRS_SUSPECT_INFO_TSK g).set F.GRS_SUSPECT_INFO_ARRAY code
    (s.set F.GRS_STATUS_LATE 1).signal 28) s

/-- The retraction for an array from a suspect start on (R321). -/
def State.retractArray (s : State) (g a since : Nat) : State :=
  let r := s.arr g a
  let owners := (r.owners.filter fun o => decide (since ≤ o.last)).map Owner.job
  let ids := if (s.tuss g).ovf.any (fun p => p.1 == a) then owners ++ (s.jobsNaming g).filter (fun i => !owners.contains i)
    else owners
  (s.retractJobs ids).lateFor g a since r.issued

/-- Owner records of several arrays as one record for each job. -/
def jobOwners (os : List Owner) : List Owner :=
  (os.map Owner.job).dedup.map fun j =>
    let mine := os.filter fun o => o.job == j
    ⟨j, (mine.map Owner.first).foldl min ((mine.map Owner.first).headD 0), (mine.map Owner.last).foldl max 0⟩

/-- The retraction for a whole Tussock (R315, R321); a late job counts once. -/
def State.retractTussock (s : State) (g since : Nat) : State :=
  let t := s.tuss g
  let owners := t.arrs.flatMap fun p => p.2.owners.map Owner.job
  let tuft := s.jobsNaming g ++ (s.areas.filter fun x => x.g == g).map Area.job
  (s.retractJobs (owners ++ tuft).dedup).lateFor g 0x1F since (jobOwners (t.arrs.flatMap fun p => p.2.issued))

/-- An array that is wrong (R315, R316, R318): counted, its jobs retracted, and its repair begun with the array
QUARANTINED; while another repair runs in the Tussock, it waits. Log entry 7 (DEDUCED). -/
def State.wrongArray (s : State) (g a k : Nat) (cols : List Nat) (vecs : List Evl) : State :=
  let s := s.inc F.GRS_ARB_CNT_PERSIST_CNT
  let s := s.retractArray g a (s.suspectStart g a k cols)
  let s := s.setArrState g a aQUAR
  s.updTuss g fun t => match t.repair with
    | none => { t with repair := some { arr := a, slot := k, vecs := vecs, cols := cols } }
    | some _ => { t with wrong := t.wrong ++ [{ arr := a, slot := k, vecs := vecs, cols := cols }] }

end Sys2Proof.Machine
end

