-- ==== Sys2Proof/Machine/Arrays.lean ====
section
/-! DEFINITION. The charge arrays and their converters (R32 to R98): evaluations from their latch to the linearised
values, restore slots and row writes. Log entries: 6, 11, 16, 30, 32. -/

namespace Sys2Proof.Machine
open Sys2Proof

/-! ### Gangs and conflicts -/

/-- The physical arrays of a gang of `n` at a slot, in ascending order (R50, R136). -/
def State.gangMembers (s : State) (g slot n : Nat) : List Nat :=
  ((List.range 17).filter fun a => (List.range n).any fun k => s.arrOf g (slot + k) == a)

/-- The arrays within the span of a gang that are no members (R49). -/
def spanOthers (ms : List Nat) : List Nat :=
  let lo := ms.headD 0
  let hi := ms.getLastD 0
  (List.range 17).filter fun a => decide (lo < a ∧ a < hi) && !ms.contains a

/-- The members of a gang hold weights of one layer of one image (R49, condition 1); the contexts are compared with the task's. Log entry 32 (DEDUCED). -/
def State.oneLayer (s : State) (g : Nat) (ms : List Nat) : Bool :=
  let h (a : Nat) : Nat × Nat := ((s.arr g a).holds.image, (s.arr g a).holds.layer)
  ms.all fun a => h a == h (ms.headD 0)

/-- The gang is valid (R49): one layer in all its members, and a span that holds them and at most the reserve array. -/
def State.gangValid (s : State) (g : Nat) (ms : List Nat) : Bool :=
  s.oneLayer g ms && match spanOthers ms with
  | [] => true
  | [a] => a == s.reserveOf g
  | _ => false

/-- The other task of a pair of full duplication is queued for the same cycle or has latched in it (R309). -/
def State.hasPartner (s : State) (g : Nat) (t : Task) : Bool :=
  let same (ws : List Nat) (w : Nat) : Bool :=
    w == t.swath && tfld ws 0 0 4 == 0 && tfld ws 0 7 1 != t.fld 0 7 1 && tfld ws 2 0 8 == t.fld 2 0 8 &&
      tfld ws 1 0 14 == t.fld 1 0 14 && ws.getD 5 0 == t.words.getD 5 0 && tfld ws 3 0 17 == t.fld 3 0 17
  let u := s.tuss g
  u.queue.any (fun q => same q.words q.swath) || u.pairs.any (fun e => same e.task e.swath) ||
    u.arrs.any fun p => p.2.sampled.any fun e => same e.task e.swath

/-! ### Latching inputs -/

/-- Input levels of a block of 4-bit inputs: two rows per byte, the lower in bits [3:0]; a signed input with the offset
of 8 (R104, R138). -/
def levels4 (signed : Bool) (bs : List Byte) : List Nat :=
  let f (x : Nat) : Nat := if signed then (x + 8) % 16 else x
  bs.foldr (fun b t => f (b.toNat % 16) :: f (b.toNat / 16) :: t) []

/-- Input levels of 8-bit inputs: the high nibbles in phase A, with the offset of 8 for a signed input, or the low nibbles
in phase B (R105). -/
def levels8 (signed phaseB : Bool) (bs : List Byte) : List Nat :=
  bs.map fun b => if phaseB then b.toNat % 16 else if signed then (b.toNat / 16 + 8) % 16 else b.toNat / 16

/-- Blocks read in turn by a Tussock: their bytes, or none once one fails its checks (R150, R174). -/
def State.readBlocks (s : State) (n job cmd unit a : Nat) : List Ecc → Nat → State × Option (List Byte)
  | _, 0 => (s, some [])
  | es, k + 1 =>
    match s.readBlock n job cmd unit a (es.headD .ok) none true with
    | (s, none) => (s, none)
    | (s, some b) =>
      match s.readBlocks n job cmd unit (a + 256) es.tail k with
      | (s, none) => (s, none)
      | (s, some bs) => (s, some (b.data ++ bs))

/-- A job reads `len` bytes, across blocks where they lie so, with the checks of R174. -/
def State.readBytes (s : State) (n job cmd unit a len : Nat) : State × Option (List Byte) :=
  match s.readBlocks n job cmd unit (a / 256 * 256) [] ((a % 256 + len + 255) / 256) with
  | (s, none) => (s, none)
  | (s, some bs) => (s, some ((bs.drop (a % 256)).take len))

/-- A field of a list of bytes. -/
def leAt (bs : List Byte) (o n : Nat) : Nat := leNat ((bs.drop o).take n)

/-- The header of a requantisation block, from its first bytes and the output tensor record (R115). -/
def rqHeadOf (h rec : List Byte) : RqHead :=
  { wfmt := leAt h 0 1, xfmt := leAt h 1 1, exact := bitOf (leAt h 2 1) 0, nout := leAt h 4 2, nsrc := leAt h 6 2,
    inRec := leAt h 8 6, outRec := leAt h 0x10 6, e0 := leAt h 0x18 4, nelem := leAt h 0x1C 4, outBlock := leAt h 0x20 2,
    outTid := leAt h 0x22 2, outSeq0 := leAt h 0x24 2, fmt := leAt rec 0x0A 1 }

/-- Bits of an element in a format of R101. -/
def fmtBits (f : Nat) : Nat := ((fmtRange f).map fun p => p.2.2).getD 8

/-- Blocks of an output area (R505). -/
def RqHead.outBlocks (h : RqHead) : Nat := (h.nelem * fmtBits h.fmt + 2047) / 2048

/-- The address of a bank block. -/
def bankAddr (g b : Nat) : Nat := tskBase g + b * 256

/-- A task reads `k` bank blocks of its Tussock; a failed check ends its job. -/
def State.taskBlocks (s : State) (g : Nat) (t : Task) (b k : Nat) (ecc : List Ecc) : State × Option (List Byte) :=
  let id := t.job.getD 0
  let cmd := ((s.job id).map fun j => j.tasksCmd g t.swath).getD 0
  s.readBlocks (chanOf g) id cmd g (bankAddr g b) ecc k

/-- The evaluation cycle in which device time stands, by its number from device time 0 (R25). -/
def State.cycleNow (s : State) : Nat := s.time / 32

/-- The evaluation cycle before which a task may not start (R138, R139), by its number from device time 0. -/
def Task.start (t : Task) : Nat := t.swath * 256 + t.fld 2 0 8

/-- The task of a list that comes first by target swath and cycle, of equals the first to arrive (R141). -/
def firstTask : List Task → Option Task
  | [] => none
  | t :: ts =>
    match firstTask ts with
    | some u => if u.start < t.start then some u else some t
    | none => some t

/-- Bank blocks that a task of the Tuft reads as operands, as first block and number (R138, R139). -/
def taskOperands (t : Task) : List (Nat × Nat) :=
  match t.fld 0 0 4 with
  | 1 =>
    let n := gangOf (t.fld 0 4 2)
    [(t.fld 2 8 12, n * (1 + t.fld 0 6 1)), (t.fld 4 0 12, blocksOf (512 * n * t.fld 3 8 9))]
  | 2 =>
    let b := if t.fld 3 24 2 = 0 then 1 else 2
    let m := 16 * t.fld 4 0 8
    let n := 16 * t.fld 4 8 8
    let k := 16 * t.fld 4 16 12
    [(t.fld 2 8 12, blocksOf (m * k * b)), (t.fld 3 0 12, blocksOf (k * n * b)),
     (t.fld 3 12 12, if t.fld 3 26 1 = 1 then blocksOf (m * n * 4) else 0)]
  | 3 =>
    let b := (vecBits (t.fld 3 20 4)).getD 8
    let o := vecOperandBlock t.words
    [(t.fld 2 8 12, blocksOf ((t.fld 4 0 24 * b + 7) / 8)), (o.getD 0, if o.isSome then blocksOf ((vecOperandLen t.words * b + 7) / 8) else 0)]
  | _ => [(t.fld 2 8 12, gangOf (t.fld 0 4 2) * (1 + t.fld 0 6 1))]

/-- A job's read of a tensor record finds INVALID clear (R116, R130): the record is read with its checks, and INVALID ends the job. -/
def State.recordValid (s : State) (n job cmd unit record : Nat) : State × Bool :=
  match s.readBytes n job cmd unit record 32 with
  | (s, none) => (s, false)
  | (s, some r) => if bitOf (leAt r 0x0B 1) 3 then (s.jobFail job 0x0E cmd unit, false) else (s, true)

/-- A tensor record is known by its tensor's TENSOR_ID from now on (R115, R129). -/
def State.learnRec (s : State) (tid addr : Nat) : State := { s with recs := s.recs.filter (fun p => p.1 != tid) ++ [(tid, addr)] }

/-- The records of the tensors to which given blocks belong, of those that are known, have INVALID clear (R130); a job's first read of a
tensor comes to its record before the block is checked. Log entry 11 (DEDUCED). -/
def State.tensorsValid (s : State) (n job cmd unit : Nat) : List Nat → State × Bool
  | [] => (s, true)
  | t :: ts =>
    match s.recs.find? fun p => p.1 == t with
    | none => s.tensorsValid n job cmd unit ts
    | some p =>
      match s.recordValid n job cmd unit p.2 with
      | (s, false) => (s, false)
      | (s, true) => s.tensorsValid n job cmd unit ts

/-- A task reads `k` bank blocks as an operand (R130, R150, R174). -/
def State.operands (s : State) (g : Nat) (t : Task) (b k : Nat) (ecc : List Ecc) : State × Option (List Byte) :=
  let tids := ((List.range k).map fun i => (s.block (bankAddr g (b + i))).tid).dedup
  match s.tensorsValid (chanOf g) (t.job.getD 0) (((s.job (t.job.getD 0)).map fun j => j.tasksCmd g t.swath).getD 0) g tids with
  | (s, false) => (s, none)
  | (s, true) => s.taskBlocks g t b k ecc

/-- A tensor under recompute-once that a job is to produce and has not judged yet: its TENSOR_ID, and the address and length of the
output area (R124, R505). -/
structure Awaited where
  tid : Nat
  addr : Nat
  n : Nat
  deriving DecidableEq, Repr

/-- The output of a requantisation block of Tussock `g`, if it is under recompute-once and not judged yet. -/
def State.awaitedFrom (s : State) (job g rq : Nat) : Option Awaited :=
  let b := s.block (bankAddr g rq)
  let out := Memory.readN s.mem (leAt b.data 0x10 6) 32
  let h := rqHeadOf b.data out
  let once := match s.prods.find? fun p => p.job == job && p.addr == h.outRec with
    | some p => p.once && !p.ended
    | none => bitOf (leAt out 0x0B 1) 0
  if b.good && once then some ⟨h.outTid, bankAddr g h.outBlock, h.outBlocks * 256⟩ else none

/-- The tensors that a job's EVAL tasks are to produce under recompute-once and that have not been judged; none in a job without a
recompute allowance (R124). -/
def State.awaited (s : State) (j : Job) : List Awaited :=
  if tfld j.hdr 2 24 8 = 0 then []
  else (((j.lists.flatMap fun p => p.2).filter fun t => tfld t 0 0 4 == 0 && tfld t 0 7 1 == 0).map fun t =>
    (tfld t 4 0 8, tfld t 4 20 12)).dedup.filterMap fun p => s.awaitedFrom j.id p.1 p.2

/-- A read of `n` bytes from an address on, by a job, would begin on a tensor that waits for its judgement (R124). Log entry 6 (DEDUCED). -/
def State.unjudged (s : State) (job : Option Nat) (a n : Nat) : Bool :=
  match s.job (job.getD 0) with
  | some j => (s.awaited j).any fun w =>
      (decide (a < w.addr + w.n) && decide (w.addr < a + n)) ||
        (List.range (n / 256)).any fun i => (s.block (a + i * 256)).tid == w.tid
  | none => false

/-- A task would begin on such a tensor. Log entry 6 (DEDUCED). -/
def State.taskWaits (s : State) (g : Nat) (t : Task) : Bool :=
  (taskOperands t).any fun p => s.unjudged t.job (bankAddr g p.1) (p.2 * 256)

/-- An evaluation of a job is recorded for its array (R321); full records set OWNER_OVF. -/
def State.noteOwner (s : State) (g a job time : Nat) : State :=
  let os := (s.arr g a).owners
  if os.any (fun o => o.job == job) then
    s.updArr g a fun r => { r with owners := os.map fun o => if o.job = job then { o with last := time } else o }
  else if 256 ≤ os.length then
    (s.set (F.GRS_LANE_STATUS_OWNER_OVF g) 1).updTuss g fun t =>
      { t with ovf := t.ovf.filter (fun p => p.1 != a) ++ [(a, s.jobs.map Job.id)] }
  else s.updArr g a fun r => { r with owners := os ++ [⟨job, time, time⟩] }

/-- Bracken captures the vectors of the slot it is about to calibrate, each member's own 512 rows (R277). -/
def State.capture (s : State) (g slot : Nat) (inputs : List Nat) : State :=
  let t := s.tuss g
  let sought (kind : WinKind) (k : Nat) : Option Nat := if kind = .reserve then none else some k
  match (t.ask.bind fun a => sought a.kind a.slot).orElse (fun _ => t.window.bind fun w => sought w.kind w.slot) with
  | none => s
  | some k =>
    if slot ≤ k ∧ (k - slot) * 512 < inputs.length then
      s.updTuss g fun t =>
        { t with captured := (inputs.drop ((k - slot) * 512)).take 512 :: t.captured.take 31, fresh := true }
    else s

/-- An evaluation latches on the lowest member of its gang (R43, R44, R50, R51). Log entry 30 (DEDUCED). -/
def State.latch (s : State) (g : Nat) (e : Evl) (gangCode : Nat) : State :=
  let s := s.updArr g e.arr fun r => { r with sampled := r.sampled ++ [e] }
  let s := e.members.foldl (fun s a => s.set (F.TSK_ARR_STATE_GANG g a) gangCode) s
  let pass := spanOthers e.members
  let s := pass.foldl (fun s a => s.set (F.TSK_ARR_STATE_PASS_THROUGH g a) 1) s
  s.updTuss g fun t => { t with
    used := t.used ++ e.members.map fun a => (a, e.swath * 256 + e.cycle)
    passed := t.passed ++ pass.map fun a => (a, e.swath * 256 + e.cycle) }

/-- The levels that the row drivers of the members apply: a row that its array's layer does not use is driven at level 0,
whatever its input (R42, R104). -/
def State.driven (s : State) (g : Nat) (ms inputs : List Nat) : List Nat :=
  ms.zipIdx.flatMap fun (a, m) =>
    let used := (s.arr g a).holds.rows
    (List.range 512).map fun r => if r < used then inputs.getD (m * 512 + r) 0 else 0

/-- Exact values of the 260 logical columns of an evaluation: data and reference columns from the cells, checksum columns
from the latches (R36, R37, R52). Only cells that hold charge and rows with a level above 0 count. -/
def columnValues (rs : List Arr17) (inputs : List Nat) : List Int :=
  let add (t : List (Nat × Int)) (j : Nat) (v : Int) : List (Nat × Int) :=
    Tab.set (fun _ => 0) t j (Tab.get (fun _ => 0) t j + v)
  let t := rs.zipIdx.foldl (fun t (r, m) =>
    let x (row : Nat) : Int := inputs.getD (m * 512 + row) 0
    let t := r.cells.foldl (fun t (k, p, n) => add t (k % 260) (x (k / 260) * ((p : Int) - n))) t
    r.csum.foldl (fun t (k, v) => add t (256 + k % 2) (x (k / 2) * v)) t) []
  (List.range 260).map (Tab.get (fun _ => 0) t)

/-- An evaluation with its samples captured from the arrays as they stand (R44, steps 1 and 5). -/
def State.sampled (s : State) (g : Nat) (e : Evl) : Evl :=
  let xs := s.driven g e.members e.inputs
  { e with inputs := xs, samples := columnValues (e.members.map (s.arr g)) xs }

/-- The evaluation of a task in a cycle, once its inputs are known. -/
def State.evalOf (s : State) (g : Nat) (t : Task) (phase c : Nat) (inputs : List Nat) : Evl :=
  let n := gangOf (t.fld 0 4 2)
  let ms := s.gangMembers g (t.fld 0 8 4) n
  let a := ms.headD 0
  let e : Evl :=
    { task := t.words, job := t.job, kind := (if t.fld 0 7 1 = 1 then .dup else .work), phase := phase,
      slot := t.fld 0 8 4, arr := a, members := ms, swath := s.swath, cycle := c,
      range := s.get (F.TSK_CONV_CFG_RANGE g a), inputs := inputs }
  s.sampled g e

/-- The first block of the requantisation block that an EVAL task names (R115, R138). -/
def State.rqBlockOf (s : State) (t : Task) : Block := s.block (bankAddr (t.fld 4 0 8) (t.fld 4 20 12))

/-- The record of the input tensor that an EVAL task's requantisation block names has INVALID clear (R115, R130); the record is that of
the input blocks' TENSOR_ID. -/
def State.inputValid (s : State) (g : Nat) (t : Task) : State × Bool :=
  let b := s.rqBlockOf t
  let record := leAt b.data 8 6
  if !b.good then (s, true)
  else match s.recordValid (chanOf g) (t.job.getD 0) (((s.job (t.job.getD 0)).map fun j => j.tasksCmd g t.swath).getD 0) g record with
    | (s, false) => (s, false)
    | (s, true) => (s.learnRec (s.block (bankAddr g (t.fld 2 8 12))).tid record, true)

/-- The requantisation block of an EVAL task asks for exact mode (R115, R132). -/
def State.exactTask (s : State) (t : Task) : Bool :=
  let b := s.rqBlockOf t
  b.good && bitOf (b.data.getD 2 0).toNat 0

/-- The input blocks of an EVAL task (R130, R138, R174). -/
def State.inputBlocks (s : State) (g : Nat) (t : Task) (k : Nat) (ecc : List Ecc) : State × Option (List Byte) :=
  match s.inputValid g t with
  | (s, false) => (s, none)
  | (s, true) => s.operands g t (t.fld 2 8 12) k ecc

/-- A task's inputs for a phase (0 single, 1 A, 2 B), read from the bank. -/
def State.inputsOf (s : State) (g : Nat) (t : Task) (phase : Nat) (ecc : List Ecc) : State × Option (List Nat) :=
  let n := gangOf (t.fld 0 4 2)
  let signed := t.fld 0 18 1 == 1
  match s.inputBlocks g t (if phase = 0 then n else 2 * n) ecc with
  | (s, none) => (s, none)
  | (s, some bs) => (s, some (if phase = 0 then levels4 signed bs else levels8 signed (phase == 2) bs))

/-- A task leaves the queue. -/
def State.dequeue (s : State) (g : Nat) (t : Task) : State := s.setQueue g ((s.tuss g).queue.erase t)

/-- A task is retired from the queue with an error. -/
def State.retireTask (s : State) (g : Nat) (t : Task) (status : Nat) : State :=
  (s.dequeue g t).retire g t.swath t.job status

/-- The members of a task's gang that are not VALID, or hold another context (R58, R140). -/
def State.badMembers (s : State) (g : Nat) (t : Task) (ms : List Nat) : List Nat :=
  ms.filter fun a => s.arrState g a != aVALID || s.get (F.TSK_ARR_STATE_CONTEXT g a) != t.fld 0 12 6

/-- "Array unavailable": the task evaluates nothing (R49, R58). -/
def State.retireUnavail (s : State) (g : Nat) (t : Task) (ms : List Nat) : State :=
  let s := ms.foldl (fun s a => if s.arrState g a ≠ aVALID then s.set (F.TSK_ARR_STATUS_UNAVAIL_TASK g a) 1 else s) s
  s.retireTask g t 0x06

/-- A task has an evaluation in cycle `x`: its own, or its phase B. -/
def State.claims (s : State) (g : Nat) (t : Task) (x : Nat) : Bool :=
  t.fld 0 0 4 == 0 && !s.exactTask t && (if t.phaseA then s.phaseBCycle g (t.swath * 256 + t.fld 2 0 8) == x else t.swath * 256 + t.fld 2 0 8 == x)

/-- The gang of a queued task. -/
def State.taskGang (s : State) (g : Nat) (t : Task) : List Nat := s.gangMembers g (t.fld 0 8 4) (gangOf (t.fld 0 4 2))

/-- Two gangs meet: they share a member, or one has a member that passes lines through for the other. -/
def gangsMeet (ms ns : List Nat) : Bool :=
  ms.any (fun a => ns.contains a || (spanOthers ns).contains a) || (spanOthers ms).any ns.contains

/-- A task that entered the queue before `t` has an evaluation in the same cycle that conflicts with it, and would run (R143). -/
def State.beaten (s : State) (g : Nat) (t : Task) (ms : List Nat) (x : Nat) : Bool :=
  ((s.tuss g).queue.takeWhile (· != t)).any fun q =>
    s.claims g q x && gangsMeet ms (s.taskGang g q) && (s.badMembers g q (s.taskGang g q)).isEmpty && s.gangValid g (s.taskGang g q)

/-- Cycle `x` of a gang's arrays carries another operation: an evaluation, a measurement or a pass-through, or the write of a row
(R46, R51, R57, R143). -/
def State.arraysBusy (s : State) (g : Nat) (ms : List Nat) (x : Nat) : Bool :=
  let u := s.tuss g
  ms.any (fun a => u.used.contains (a, x) || u.passed.contains (a, x) || s.writeHolds g a x) ||
    (spanOthers ms).any fun a => u.used.contains (a, x) || s.writeHolds g a x

/-- An EVAL task whose cycle opens in a restore slot, or without CHECK in a check slot (R143): so in exact mode too, though no array
evaluates there. Log entry 6 (DEDUCED). -/
def State.slotTaken (s : State) (g : Nat) (t : Task) (c : Nat) : Bool :=
  isRestoreSlot g s.swath c || (t.fld 0 7 1 == 0 && s.isCheckSlot g s.swath c)

/-- A task whose evaluation would meet another one, a restore slot, a check slot or a pass-through (R143). -/
def State.slotConflict (s : State) (g : Nat) (t : Task) (ms : List Nat) (c : Nat) : Bool :=
  s.slotTaken g t c || s.arraysBusy g ms (s.swath * 256 + c) || s.beaten g t ms (s.swath * 256 + c)

/-- A phase of a task latches (R44, R105): the inputs are read, and with all checks passed the evaluation starts. -/
def State.runPhase (s : State) (g : Nat) (t : Task) (phase c : Nat) (ecc : List Ecc) : State :=
  match s.inputsOf g t phase ecc with
  | (s, none) => s.dequeue g t
  | (s, some xs) =>
    let e := s.evalOf g t phase c xs
    let s := s.latch g e (t.fld 0 4 2)
    let s := match t.job with
      | some id => e.members.foldl (fun (s : State) a => s.noteOwner g a id e.time) s
      | none => s
    let s := s.capture g e.slot xs
    if phase = 1 then s.setQueue g ((s.tuss g).queue.map fun q => if q = t then { q with phaseA := true } else q)
    else s.dequeue g t

/-! ### Conversion and linearisation -/

/-- Whether a data column of array `a` is converted (R84): MASK_EN and the mask as they stand when the array's converters and
its lookup units come to the column. Log entry 32 (DESIGN CHOICE). -/
def State.colEnabled (s : State) (g a j : Nat) : Bool :=
  !s.on (F.TSK_CONV_CFG_MASK_EN g a) || bitOf (Memory.read s.mem (tableBase g + 0x22880 + a * 0x40 + j / 8)).toNat (j % 8)

/-- The deviation of the analogue path in a column, in codes. -/
def devAt (dev : List (Nat × Int)) (j : Nat) : Int := (dev.map fun p => if p.1 = j then p.2 else 0).sum

/-- The code of a column of an evaluation, and whether it is saturated (R73, R77, R81 to R84): the ideal transfer of the sample
that the column's capacitor holds, at the gain of the trims in force (R280), with the deviation of the analogue path. -/
def State.codeAt (s : State) (g : Nat) (e : Evl) (dev : List (Nat × Int)) (j : Nat) (y : Int) : Int × Bool :=
  let d := devAt dev j
  let k := s.trimGain g e.arr j
  if 256 ≤ j then auxCodeDev e.range (y * k.1) k.2 d
  else if s.colEnabled g e.arr j then
    let c := clampInt (-512) 511 (dataCode e.range (y * k.1) k.2 + d)
    (c, c == -512 || c == 511)
  else (0, false)

/-- The samples of an evaluation are converted: its codes, and the columns whose code is saturated. -/
def State.coded (s : State) (g : Nat) (e : Evl) (dev : List (Nat × Int)) : Evl :=
  let xs := e.samples.zipIdx.map fun (y, j) => s.codeAt g e dev j y
  { e with codes := xs.map Prod.fst, sat := ((xs.zipIdx.filter fun p => p.1.2).map fun p => p.2) }

/-- Saturated codes count in their array (R81, R83). -/
def State.countSat (s : State) (g : Nat) (e : Evl) : State :=
  (s.incBy (F.TSK_CONV_SAT_SAT_CNT g e.arr) (e.sat.filter (· < 256)).length).incBy (F.TSK_CONV_SAT_AUX_SAT_CNT g e.arr)
    (e.sat.filter (256 ≤ ·)).length

/-- The oldest sample of an array is converted (R45, R73, R75). -/
def State.convert (s : State) (g a : Nat) (dev : List (Nat × Int)) : State :=
  match (s.arr g a).sampled with
  | [] => s
  | e :: rest =>
    let e := s.coded g e dev
    (s.updArr g a fun r => { r with sampled := rest, coded := r.coded ++ [e] }).countSat g e

/-- A table word of a column as a lookup reads it (R86, R87). -/
def State.tableWord (s : State) (g a j k : Nat) : Nat :=
  leNat (Memory.readN s.mem (tableBase g + a * 0x2080 + j * 0x20 + k * 4) 4)

/-- The linearised values of an evaluation (R89, R90); a masked column gives 0 (R84). -/
def State.valuesOf (s : State) (g : Nat) (e : Evl) : List Int :=
  e.codes.zipIdx.map fun (c, j) =>
    if j < 256 then (if s.colEnabled g e.arr j then linearise c (s.tableWord g e.arr j) else 0)
    else lineariseAux c (s.tableWord g e.arr j 0)

/-- What a lookup's table ECC finding does (R97, R98). -/
def State.tableEcc (s : State) (g a off : Nat) (f : Ecc) : State :=
  match f with
  | .ok => s
  | .ce => ((s.inc (F.TSK_TABLE_ECC_CE_CNT g)).set (F.TSK_CONV_STATUS_TABLE_CE g) 1).updTuss g fun t =>
      { t with writeBack := t.writeBack ++ [off] }
  | .ue => ((s.inc (F.TSK_TABLE_ECC_UE_CNT g)).set (F.TSK_CONV_STATUS_TABLE_UE g) 1).set (F.TSK_CONV_STATUS_UE_ARRAY g) a

/-- Values of a primary and its duplicate meet (R309): a column that differs by more than AGREE_TOL + 1 LSB makes an
arbitration trigger. -/
def State.pairUp (s : State) (g : Nat) (e : Evl) : State :=
  match (s.tuss g).pairs.find? fun x => pairOfDup x e with
  | none => s.updTuss g fun t => { t with pairs := t.pairs ++ [e] }
  | some x =>
    let s := s.updTuss g fun t => { t with pairs := t.pairs.erase x }
    let p := if e.kind = .work then e else x
    let q := if e.kind = .work then x else e
    let s := s.mateVectors g p q
    let cols := (List.range 256).filter fun j =>
      decide (s.tolAgree + 64 < (p.vals.getD j 0 - q.vals.getD j 0).natAbs)
    if cols.isEmpty then s
    else (s.set (F.GRS_LANE_STATUS_DUP_FAIL g) 1).trigger g ⟨3, p.slot, p.arr, cols, none, [p], 1, [q]⟩

/-- A partial sum's evaluation is complete: phase B joins its phase A, others stand alone (R109). -/
def State.addPartial (s : State) (g : Nat) (e : Evl) : State :=
  s.updTuss g fun t =>
    if e.phase = 2 then
      { t with sums := t.sums.map fun p =>
          match p.evals with
          | [x] => if x.phase = 1 ∧ x.task = e.task ∧ x.job = e.job then ⟨[x, e]⟩ else p
          | _ => p }
    else { t with sums := t.sums ++ [⟨[e]⟩] }

/-- Values of a linearised evaluation go where its kind sends them (R138, R300, R306, R313). -/
def State.deliverValues (s : State) (g : Nat) (e : Evl) : State :=
  match e.kind with
  | .work =>
    let s := ((s.addPartial g e).gatherVector g e).residualTests g e
    let s := s.updLane g e.slot fun l => { l with recent := (e :: l.recent).take 4 }
    if s.get F.GRS_CFG_FRACTION = 5 then s.pairUp g e else s
  | .dup =>
    let s := ((s.gatherVector g e).residualTests g e).pairUp g e
    if e.phase = 1 then s else s.taskDone e.job
  | .rerun => (s.residualTests g e).updLane g e.slot fun l => { l with check := l.check.map fun c => { c with rerun := some e } }
  | .arb v => (s.residualTests g e).updTuss g fun t => { t with arb := t.arb.map fun a => { a with r1 := a.r1 ++ [(v, e)] } }

/-- The oldest codes of an array are linearised (R74, R97, R98): a word with an uncorrectable error poisons its column, and
the array is wrong (R316). -/
def State.lookupStep (s : State) (g a : Nat) (ecc : List (Nat × Ecc)) : State :=
  match (s.arr g a).coded with
  | [] => s
  | e :: rest =>
    let bad := (ecc.filter fun p => p.2 == .ue).map fun p => p.1 % 0x2080 / 0x20
    let e := { e with vals := s.valuesOf g e, poison := bad }
    let s := s.updArr g a fun r => { r with coded := rest }
    let s := ecc.foldl (fun s p => s.tableEcc g a p.1 p.2) s
    let s := s.deliverValues g e
    if bad.isEmpty then s else s.wrongArray g a e.slot bad [e]

/-! ### The cycle of a task -/

/-- The Tuft reads the digital images of a gang's rows in T2 for use (R132, R174); `false` once a block fails. -/
def State.imageRead (s : State) (g : Nat) (t : Task) : List RowSrc → State × Bool
  | [] => (s, true)
  | x :: xs =>
    let id := t.job.getD 0
    let cmd := ((s.job id).map fun j => j.tasksCmd g t.swath).getD 0
    match s.readBlocks (chanOf g) id cmd g (x.addr / 256 * 256) [] ((x.addr % 256 + x.n * 128 + 255) / 256) with
    | (s, none) => (s, false)
    | (s, some _) => s.imageRead g t xs

/-- The weight image by which an EVAL task runs in exact mode: the one that its job uses of its context, or else the context's (R132, R267). -/
def State.taskImage (s : State) (t : Task) : Nat :=
  let ptr := s.get (F.GLB_CTX_PTR_PTR (t.fld 0 12 6))
  match s.job (t.job.getD 0) with
  | some j => if j.ctxValid && j.ctxNo == t.fld 0 12 6 then j.image else ptr
  | none => ptr

/-- What an image gives slot `k` of Tussock `g`: nothing where it names no such rectangle (R263). -/
def State.imageHolds (s : State) (ptr g k : Nat) : Holds :=
  match s.image ptr with
  | none => {}
  | some i => match i.resident.find? fun p => p.2.tsk == g && p.2.slot == k with
    | none => {}
    | some (wfmt, p) => p.holds ptr (i.layerOf g k) wfmt

/-- The exact values of an EVAL task's columns (R36, R132): input levels of the rows that the image stores, times the image's weights. -/
def State.imageValues (s : State) (g : Nat) (t : Task) (xs : List Nat) : List Int :=
  let ptr := s.taskImage t
  let k := t.fld 0 8 4
  let used := xs.zipIdx.map fun (x, i) => if i % 512 < (s.imageHolds ptr g (k + i / 512)).rows then x else 0
  exactRows (fun i => (s.imageRow ptr g (k + i / 512) (i % 512)).getD []) used

/-- The values of an exact evaluation go where CHECK sends them (R132, R138, R309). -/
def State.deliverExact (s : State) (g : Nat) (e : Evl) : State :=
  if e.kind = .dup then
    let s := s.pairUp g e
    if e.phase = 1 then s else s.taskDone e.job
  else
    let s := s.addPartial g e
    if s.get F.GRS_CFG_FRACTION = 5 then s.pairUp g e else s

/-- An EVAL task of a layer in exact mode runs (R132): the values of its phases come from the context's digital image alone, and no array
evaluates. -/
def State.exactRun (s : State) (g : Nat) (t : Task) (ms : List Nat) (c : Nat) (ecc : List Ecc) : State :=
  let signed := t.fld 0 18 1 == 1
  let n := gangOf (t.fld 0 4 2)
  match s.inputBlocks g t (n * (1 + t.fld 0 6 1)) ecc with
  | (s, none) => s.dequeue g t
  | (s, some bs) =>
    match s.imageRead g t ((List.range n).flatMap fun k => (s.imageHolds (s.taskImage t) g (t.fld 0 8 4 + k)).srcs) with
    | (s, false) => s.dequeue g t
    | (s, true) =>
      let e (phase : Nat) (xs : List Nat) : Evl :=
        { task := t.words, job := t.job, kind := (if t.fld 0 7 1 = 1 then .dup else .work), phase := phase, slot := t.fld 0 8 4
          arr := ms.headD 0, members := ms, swath := s.swath, cycle := c, range := 0, inputs := xs, vals := s.imageValues g t xs
          exact := true }
      let es := if t.fld 0 6 1 = 1 then [e 1 (levels8 signed false bs), e 2 (levels8 signed true bs)] else [e 0 (levels4 signed bs)]
      es.foldl (fun s e => s.deliverExact g e) (s.dequeue g t)

/-- The cycle of an EVAL task opens (R44, R132, R140, R143). Log entry 6 (DEDUCED). -/
def State.evalTask (s : State) (g : Nat) (t : Task) (c : Nat) (ecc : List Ecc) : State :=
  let ms := s.gangMembers g (t.fld 0 8 4) (gangOf (t.fld 0 4 2))
  if s.get F.GRS_CFG_FRACTION = 5 ∧ s.hasPartner g t = false then s.retireTask g t 0x05
  else if !(s.badMembers g t ms).isEmpty || !s.gangValid g ms then s.retireUnavail g t ms
  else if s.exactTask t then (if s.slotTaken g t c then s.retireTask g t 0x09 else s.exactRun g t ms c ecc)
  else if s.slotConflict g t ms c then s.retireTask g t 0x09
  else s.runPhase g t (if t.fld 0 6 1 = 1 then 1 else 0) c ecc

/-- Phase B of a task whose cycle has come (R105, R144). -/
def State.phaseBTask (s : State) (g : Nat) (t : Task) (c : Nat) (ecc : List Ecc) : State :=
  let ms := s.gangMembers g (t.fld 0 8 4) (gangOf (t.fld 0 4 2))
  if !(s.badMembers g t ms).isEmpty || !s.gangValid g ms then s.retireUnavail g t ms
  else if s.arraysBusy g ms (s.swath * 256 + c) || s.beaten g t ms (s.swath * 256 + c) then s.retireTask g t 0x09
  else s.runPhase g t 2 c ecc

/-! ### Restore -/

/-- The field of GRS_SHADOW_MAPm that names an array's shadow set in use. -/
def shadowMap (g a : Nat) : Fld := ⟨RegName.GRS_SHADOW_MAP, g, a / 4, a % 4 * 8, 6⟩

/-- A shadow copy takes the levels of a row of its array. -/
def ShadowCopy.fill (c : ShadowCopy) (r : Arr17) (row : Nat) : ShadowCopy :=
  { c with levels := (List.range 4).foldl (fun t q => Tab.set (fun _ => 0) t (row * 4 + q) (r.weight row (4 * c.set_ + q))) c.levels }

/-- The filled shadow copy of an array comes into use (R307). -/
def State.shadowSwap (s : State) (g a : Nat) : State :=
  match (s.arr g a).filling with
  | none => s
  | some c => (s.updArr g a fun r => { r with inUse := some c, filling := none }).set (shadowMap g a) c.set_

/-- The filling shadow copy takes a restored row (R307); when restore comes round to the row at which the filling began,
the copy comes into use and the set number advances. -/
def State.fillShadow (s : State) (g a row next : Nat) : State :=
  let s := if (s.arr g a).filling.isSome ∧ row = (s.arr g a).fillFrom then s.shadowSwap g a else s
  let r := s.arr g a
  let from_ := if r.filling.isSome then r.fillFrom else row
  let c := r.filling.getD ⟨(s.get (shadowMap g a) + 1) % 64, []⟩
  let s := s.updArr g a fun r => { r with filling := some (c.fill r row), fillFrom := from_ }
  if next = from_ then s.shadowSwap g a else s

/-- Pairs of a row with both cells above level 0 (R35, R63). -/
def Arr17.invalidPairs (r : Arr17) (row : Nat) : Nat :=
  ((List.range 260).filter fun j => (j < 256 || 258 ≤ j) && (r.pair row j).1 != 0 && (r.pair row j).2 != 0).length

/-- One row sensed, snapped and rewritten (R61, R63, R317). -/
def State.restoreRow (s : State) (g a row : Nat) (marginal : Bool) (sensed : List (Nat × Nat × Nat)) : State :=
  let s := s.updArr g a fun r => sensed.foldl (fun r (j, p, n) => r.setPair row j (p, n)) r
  let bad := (s.arr g a).invalidPairs row
  let s := if marginal then (s.inc (F.TSK_ARR_EVENTS_MARGINAL_CNT g a)).set (F.TSK_ARR_STATUS_MARGINAL g a) 1 else s
  let s := if bad = 0 then s
    else (s.incBy (F.TSK_ARR_EVENTS_INVALID_PAIR_CNT g a) bad).set (F.TSK_ARR_STATUS_INVALID_PAIR g a) 1
  let s := if marginal || bad != 0 then s.queueRepair g a row else s
  let s := if (s.arr g a).refresh ≤ 1 then s
    else s.updArr g a fun r => { r.setSums row (rowSums (r.rowWeights row)) with refresh := r.refresh - 1 }
  let s := (s.incMod (F.TSK_ARR_RESTORE_CNT_COUNT g a)).set (F.TSK_ARR_RESTORE_ROW_PTR g a) (row + 1)
  if (checkPeriod s.fractionNow).isSome then s.fillShadow g a row ((row + 1) % 512) else s

/-- Cycle `x` of an array is spent (R46). -/
def State.spend (s : State) (g a : Nat) (xs : List Nat) : State :=
  s.updTuss g fun t => { t with used := t.used ++ xs.map fun x => (a, x) }

/-- A restore slot of an array (R61): the accumulator takes the fraction, and on overflow one row is restored, the row under
write being passed over (R56). Log entry 16 (DESIGN CHOICE and DEDUCED). -/
def State.restoreSlot (s : State) (g a x : Nat) (marginal : Bool) (sensed : List (Nat × Nat × Nat)) : State :=
  let paused := s.rowUnder g a x
  let s := s.spend g a [x]
  let f := restoreFraction (s.get (F.TSK_RESTORE_TEMP_TEMP g))
  let s := s.set (F.TSK_ARR_RESTORE_FRACTION g a) f
  let v := (s.arr g a).acc + f
  if v < 65536 then s.updArr g a fun r => { r with acc := v }
  else
    let s := s.updArr g a fun r => { r with acc := v - 65536 }
    let p := s.get (F.TSK_ARR_RESTORE_ROW_PTR g a)
    s.restoreRow g a (if paused = some p then (p + 1) % 512 else p) marginal sensed

/-! ### Row writes -/

/-- The write of an array has completed its last row (R55, R58, R318, R319): VALID or WRITE_FAULT, and what follows for a
repair. -/
def State.writeComplete (s : State) (g a : Nat) (w : WriteFor) : State :=
  let fault := s.on (F.TSK_ARR_WRITE_FAIL_ROWS g a)
  let s := (s.updArr g a fun r => { r with write := none }).setArrState g a (if fault then aWFAULT else aVALID)
  let s := s.rebaseArr g a
  match w with
  | .reprogram =>
    match (s.tuss g).repair with
    | none => s
    | some r =>
      if fault ∧ r.faults ≠ 0 then
        (s.setArrState g a aQUAR).updTuss g fun t => { t with repair := none }
      else if !fault ∧ r.inPlace then s.updTuss g fun t => { t with repair := none }
      else s.updTuss g fun t => { t with repair := some { r with step := 6, faults := r.faults + natOf fault } }
  | .awrite job cmd => s.cmdDone job cmd
  | .wave c =>
    let mark (y : WaveItem) : WaveItem := if y.g = g ∧ s.arrOf g y.slot = a then { y with done := true } else y
    s.updCtx c fun x => { x with wave := x.wave.map mark }
  | _ => s

/-- A row's counters after its write (R55). -/
def State.rowFailed (s : State) (g a : Nat) (fails : Bool) : State :=
  if fails then (s.inc (F.TSK_ARR_EVENTS_VERIFY_FAIL_CNT g a)).set (F.TSK_ARR_STATUS_VERIFY_FAIL g a) 1 else s

/-- A row written, or left as it stands where its weights could not be read. Log entry 32 (DESIGN CHOICE). -/
def Arr17.wrote (r : Arr17) (row : RowJob) (fails : List (Nat × Nat × Nat)) : Arr17 :=
  if row.lost then r else r.writeRow row.row row.ws fails

/-- The next row of an array write (R54, R55), whose last cycle is `x`; it counts as restored (R61). Log entry 6 (DEDUCED). -/
def State.writeNext (s : State) (g a x : Nat) (w : ArrWrite) (row : RowJob) (rest : List RowJob)
    (fails : List (Nat × Nat × Nat)) : State :=
  let s := s.updArr g a fun r => { r.wrote row fails with write := some { w with rows := rest, from_ := x + 1 } }
  let s := s.incMod (F.TSK_ARR_RESTORE_CNT_COUNT g a)
  let bad := row.lost || !fails.isEmpty
  let s := (s.set (F.TSK_ARR_WRITE_ROWS_DONE g a) (s.get (F.TSK_ARR_WRITE_ROWS_DONE g a) + 1)).rowFailed g a bad
  let s := if !bad then s
    else s.set (F.TSK_ARR_WRITE_FAIL_ROWS g a) (s.get (F.TSK_ARR_WRITE_FAIL_ROWS g a) + 1)
  if rest.isEmpty then s.writeComplete g a w.for_ else s

/-- A repair rewrite of one row (R63, R212): the row is written from the image version that the array holds, and the array keeps
its state (R58). It counts as restored, and a filling shadow copy takes it (R61, R307). A verify failure counts in TSK_ARR_EVENTS; FAIL_ROWS belongs to the write of an array and does not change. Log entry 32 (DESIGN CHOICE). -/
def State.repairRow (s : State) (g a : Nat) (r : Repair) (fails : List (Nat × Nat × Nat)) : State :=
  let n := chanOf g
  let (s, row) := s.readRow g a r.holds r.row
  let s := ((s.updArr g a fun x =>
    let x := x.wrote row fails
    { x with filling := x.filling.map fun c => c.fill x row.row }).rowFailed g a (row.lost || !fails.isEmpty)).incMod (F.TSK_ARR_RESTORE_CNT_COUNT g a)
  let c := s.chan n
  let c := { c with repairs := c.repairs.erase r }
  let s := (s.setChan n c).shrinkBit n
  if c.repairs.any (fun x => x.g == g && x.a == a) then s else s.set (F.TSK_ARR_STATUS_REPAIR_PENDING g a) 0

/-- The requantisation block of a layer copied from its image into the bank of the combining Tussock (R269, step 3), where the guards
allow both accesses (R183, R186). -/
def State.copyRq (s : State) (l : Layer) : State :=
  (List.range ((l.rqLen + 255) / 256)).foldl (fun (s : State) i =>
    let n := chanOf l.rqTsk
    let src := l.rqAddr + i * 256
    let dst := bankAddr l.rqTsk (l.rqBlock + i)
    match s.accessFault (.eng n) false src 256, s.accessFault (.eng n) true dst 256 with
    | some u, _ => s.addressFault (.eng n) false src u
    | none, some u => s.addressFault (.eng n) true dst u
    | none, none =>
      let (s, b) := s.fetched n src .ok
      let c := b.check none
      (s.putBlock dst (if c = .blockCrc then b.poison else b)).countCheck n c) s

/-- A replacement write begins on an array whose turn has come (R269, steps 2 and 3): its rows from the new image, RANGE and
MASK_EN from the placement, and the layer's requantisation block with the first of its writes. -/
def State.waveStart (s : State) (g a : Nat) : State :=
  let due := s.ctxs.filterMap fun p => (p.2.wave.find? fun x => x.g == g && s.arrOf g x.slot == a && !x.started && !x.done &&
    decide (x.from_ ≤ s.swath) && s.get (F.GLB_CTX_STATE_STATE p.1) == 2).map fun x => (p.1, x)
  match due with
  | [] => s
  | (c, x) :: _ =>
    let ptr := s.get (F.GLB_CTX_PTR_PTR c)
    match s.image ptr with
    | none => s
    | some i =>
      match i.resident.find? fun p => p.2.tsk == g && p.2.slot == x.slot with
      | none => s
      | some (_, p) =>
        let l := i.layerOf g x.slot
        let h := p.holds ptr l (((i.layers[l]?).map Layer.wfmt).getD 0)
        let (s, rows) := s.rowsOfHolds g a h
        let s := s.beginWrite g a { for_ := .wave c, rows := rows } c p.range p.maskEn h
        let s := match i.layers[x.layer]? with
          | some l => if (s.ctx c).rqDue.any (fun p => p.1 == x.layer) then s.copyRq l else s
          | none => s
        s.updCtx c fun y => { y with
          rqDue := y.rqDue.filter fun p => p.1 != x.layer
          wave := y.wave.map fun z => if z = x then { z with started := true } else z }

/-- A replacement that is due begins with the cycles of its first row: where the row that ends in cycle `x` is that row, its
write has been on since these began. -/
def State.waveBegin (s : State) (g a : Nat) : State :=
  if (s.arr g a).write.isSome then s
  else (s.waveStart g a).updArr g a fun r => { r with write := r.write.map fun w => { w with from_ := s.swath * 256 } }

/-- One row write of an array, whose fifth cycle is `x`: a repair that is placed there, or else the next row of its write, which a
replacement may begin here (R54, R202, R212). -/
def State.rowWrite (s : State) (g a x : Nat) (fails : List (Nat × Nat × Nat)) : State :=
  match s.repairAt g a x with
  | some r => if s.rowMayEnd g a x r.turn then (s.spend g a r.turn.cycles).repairRow g a r fails else s
  | none =>
    let s := s.waveBegin g a
    match s.writeTurn g a, (s.arr g a).write with
    | some t, some w =>
      match w.rows with
      | r :: rest => if s.rowMayEnd g a x t && decide (r.due ≤ s.swath) then (s.spend g a t.cycles).writeNext g a x w r rest fails else s
      | [] => s
    | _, _ => s

/-! ### The commands -/

/-- Levels of sensed or failing cells as numbers; the cells of the checksum columns hold no charge (R37). -/
def cellList (l : List (Fin 260 × Fin 16 × Fin 16)) : List (Nat × Nat × Nat) :=
  (l.map fun (j, p, n) => (j.val, p.val, n.val)).filter fun x => x.1 != 256 && x.1 != 257

/-- An evaluation cycle of Tussock `g`, which has opened the swath of device time (R25): before its marker or its own count has
come, no cycle of the swath runs. -/
def State.ifCycle (s : State) (g : Nat) (f : State → State) : State :=
  s.ifT g fun s => if (s.tuss g).open_ = some s.swath then f s else s

/-- An evaluation cycle in Idle and Sleep too, where restore runs on (R64, R415). -/
def State.ifAnyCycle (s : State) (g : Nat) (f : State → State) : State :=
  s.ifPowered g fun s => if (s.tuss g).open_ = some s.swath then f s else s

/-- `EVAL` (R44). -/
def execEval (g : Tsk) (c : BitVec 8) (ecc : List Ecc) (s : State) : Host.Outcome State Fault Refusal :=
  .next (s.ifCycle g fun s =>
    match (s.tuss g).queue.find? fun t =>
      t.fld 0 0 4 == 0 && t.swath == s.swath && t.fld 2 0 8 == c.toNat && !t.phaseA && !s.taskWaits g t with
    | some t => s.evalTask g t c.toNat ecc
    | none => s)

/-- `PHASE_B` (R105). -/
def execPhaseB (g : Tsk) (c : BitVec 8) (ecc : List Ecc) (s : State) : Host.Outcome State Fault Refusal :=
  .next (s.ifCycle g fun s =>
    match (s.tuss g).queue.find? fun t =>
      t.phaseA && s.phaseBCycle g (t.swath * 256 + t.fld 2 0 8) == s.swath * 256 + c.toNat with
    | some t => s.phaseBTask g t c.toNat ecc
    | none => s)

/-- `CONVERSION` (R73). -/
def execConversion (g : Tsk) (a : Arr) (dev : List (Fin 260 × Int)) (s : State) : Host.Outcome State Fault Refusal :=
  .next (s.ifT g fun s => s.convert g a (dev.map fun p => (p.1.val, p.2)))

/-- `LOOKUP` (R74). -/
def execLookup (g : Tsk) (a : Arr) (ecc : List (BitVec 16 × Ecc)) (s : State) : Host.Outcome State Fault Refusal :=
  .next (s.ifT g fun s => s.lookupStep g a (ecc.map fun p => (p.1.toNat, p.2)))

/-- `TABLE_ECC_WRITEBACK` (R97): the word holds its corrected value, which is what the lookup used. -/
def execTableEccWriteback (g : Tsk) (s : State) : Host.Outcome State Fault Refusal :=
  .next (s.ifT g fun s => s.updTuss g fun t => { t with writeBack := t.writeBack.tail })

/-- `RESTORE_SLOT` (R61): only in a restore slot of R59, and once in it (R46). -/
def execRestoreSlot (g : Tsk) (a : Arr) (c : BitVec 8) (marginal : Bool) (sensed : List (Fin 260 × Fin 16 × Fin 16))
    (s : State) : Host.Outcome State Fault Refusal :=
  .next (s.ifAnyCycle g fun s =>
    let x := s.swath * 256 + c.toNat
    if isRestoreSlot g s.swath c.toNat && !(s.tuss g).used.contains (a.val, x) then
      s.restoreSlot g a x marginal (cellList sensed)
    else s)

/-- `ROW_WRITE` (R54). -/
def execRowWrite (g : Tsk) (a : Arr) (c : BitVec 8) (fails : List (Fin 260 × Fin 16 × Fin 16)) (s : State) :
    Host.Outcome State Fault Refusal :=
  .next (s.ifCycle g fun s => s.rowWrite g a (s.swath * 256 + c.toNat) (cellList fails))

/-- `ARR_CLR_CNT`: the three counters of TSK_ARR_EVENTS. -/
def execArrClrCnt (g : Tsk) (a : Arr) (s : State) : Host.Outcome State Fault Refusal :=
  .next (s.ifReach .TSK_ARR_CTRL g fun s =>
    ((s.set (F.TSK_ARR_EVENTS_MARGINAL_CNT g a) 0).set (F.TSK_ARR_EVENTS_INVALID_PAIR_CNT g a) 0).set
      (F.TSK_ARR_EVENTS_VERIFY_FAIL_CNT g a) 0)

/-- A host write of RANGE and MASK_EN (R93): kept only in the states of R93, else refused when it would change them; the load
engine's write in the same cycle, which is one nanosecond of device time, wins over it (R95). Log entry 32 (DESIGN CHOICE). -/
def State.convCfgWrite (s : State) (g a range maskEn : Nat) : State :=
  if (s.arr g a).cfgLoad = some s.time then s.set (F.TSK_CONV_STATUS_CFG_WR_REJECT g) 1
  else if s.tableOpen g a then
    ((s.set (F.TSK_CONV_CFG_RANGE g a) range).set (F.TSK_CONV_CFG_MASK_EN g a) maskEn).updArr g a fun r => { r with cfgHost := some s.time }
  else if s.get (F.TSK_CONV_CFG_RANGE g a) = range ∧ s.get (F.TSK_CONV_CFG_MASK_EN g a) = maskEn then s
  else s.set (F.TSK_CONV_STATUS_CFG_WR_REJECT g) 1

/-- `CONV_CFG_WRITE` (R93). -/
def execConvCfgWrite (g : Tsk) (a : Arr) (range : BitVec 3) (maskEn : Bool) (s : State) :
    Host.Outcome State Fault Refusal :=
  .next (s.ifReach .TSK_CONV_CFG g fun s => s.convCfgWrite g a range.toNat (natOf maskEn))

/-- Both counters of TSK_CONV_SAT cleared. -/
def State.convClrSat (s : State) (g a : Nat) : State :=
  (s.set (F.TSK_CONV_SAT_SAT_CNT g a) 0).set (F.TSK_CONV_SAT_AUX_SAT_CNT g a) 0

/-- `CONV_CLR_SAT`: in every array state. -/
def execConvClrSat (g : Tsk) (a : Arr) (s : State) : Host.Outcome State Fault Refusal :=
  .next (s.ifReach .TSK_CONV_CFG g fun s => s.convClrSat g a)

/-- `TABLE_CLR_ECC`: both counters of TSK_TABLE_ECC. -/
def execTableClrEcc (g : Tsk) (s : State) : Host.Outcome State Fault Refusal :=
  .next (s.ifReach .TSK_CONV_STATUS g fun s => (s.set (F.TSK_TABLE_ECC_CE_CNT g) 0).set (F.TSK_TABLE_ECC_UE_CNT g) 0)

end Sys2Proof.Machine
end

