-- ==== Sys2Proof/Machine/BrackenOps.lean ====
section
/-! DEFINITION. Shared operations of Bracken: trim words, status and interrupts, stamps, the reference generator, and what
ends a window or a pass (R280 to R298). -/

namespace Sys2Proof.Machine
open Sys2Proof

/-! ### Status -/

/-- A fault bit of BRK_STATUS set: vector 29 under IRQ_FAULT. -/
def State.brkFault (s : State) (g : Nat) (f : Fld) : State :=
  let s := s.set f 1
  if s.on (F.BRK_CFG_IRQ_FAULT g) then s.signal 29 else s

/-- STEP_ARRAY and STAGE. -/
def State.brkStage (s : State) (g arr stage : Nat) : State :=
  (s.set (F.BRK_STATUS_STEP_ARRAY g) arr).set (F.BRK_STATUS_STAGE g) stage

/-- The trigger in force, 1 to 16 °C, as latched at the latest boundary (R287). -/
def State.trig (s : State) (g : Nat) : Nat := max 1 (min 16 (s.tuss g).trigNow)

/-- The distance of two temperatures. -/
def tempGap (x y : Nat) : Nat := max x y - min x y

/-- TEMP lies within the trigger of an array's T_a, which has been stamped (R287, R289). -/
def State.inTrig (s : State) (g a : Nat) : Bool :=
  let ta := s.get (F.BRK_ARR_CAL_TEMP g a)
  ta != 0xFF && decide (tempGap (s.get (F.TSK_RESTORE_TEMP_TEMP g)) ta ≤ s.trig g)

/-- CURRENT and the STALE bits follow TEMP and the stamps (R289). -/
def State.brkCurrent (s : State) (g : Nat) : State :=
  let s := (List.range 17).foldl (fun s a => s.set (F.BRK_ARR_CAL_STALE g a) (natOf (!s.inTrig g a))) s
  s.set (F.BRK_STATUS_CURRENT g) (natOf (!s.on (F.TSK_RESTORE_TEMP_SENSOR_BROKEN g) &&
    (List.range 16).all fun k => s.inTrig g (s.arrOf g k)))

/-- An array stamped (R286): COUNT, T_a, the device time of the boundary. -/
def State.stamp (s : State) (g a temp : Nat) (count : Bool) : State :=
  let s := if count then s.inc (F.BRK_ARR_CAL_COUNT g a) else s
  (s.set (F.BRK_ARR_CAL_TEMP g a) temp).set (F.BRK_ARR_TIME_TIME g a) (s.swath * 8192)

/-- An array handed to Gorse (R284): QUARANTINED, ARRAY_FAULT, and the pass goes on without it. -/
def State.handToGorse (s : State) (g a : Nat) : State :=
  let s := ((s.setArrState g a aQUAR).inc (F.BRK_CAL_CNT_FAULT_CNT g)).brkFault g (F.BRK_STATUS_ARRAY_FAULT g)
  s.updTuss g fun t => { t with pass := t.pass.map fun p => { p with handed := p.handed ++ [a] } }

/-! ### Windows -/

/-- The bytes of an array's table. -/
def State.tableBytes (s : State) (g a : Nat) : List Byte := Memory.readN s.mem (tableBase g + a * 0x2080) 0x2080

/-- An array's table and trim words put back (R282, step 7, R291). -/
def State.putBack (s : State) (g : Nat) (w : Window) : State :=
  let s := if w.oldTable.isEmpty then s
    else { s with mem := Memory.writeN s.mem (tableBase g + w.arr * 0x2080) w.oldTable }
  w.oldTrims.foldl (fun s p => s.setTrim g w.arr p.1 p.2) s

/-- The spare-driver words of an array (R298). -/
def State.spareWords (s : State) (g a : Nat) : List (Nat × Nat) := [0x4A, 0x4B, 0x4C, 0x4D].map fun i => (i, s.trim g a i)

/-- The row number and valid bit of spare driver `k` of an array. -/
def State.spare (s : State) (g a k : Nat) : Nat := bitsOf (s.trim g a (0x4A + k / 2)) (k % 2 * 16) 16

/-- Spare drivers in use. -/
def State.sparesUsed (s : State) (g a : Nat) : Nat := ((List.range 8).filter fun k => bitOf (s.spare g a k) 15).length

/-- BRK_ARR_CAL.SPARES follows the entries. -/
def State.countSpares (s : State) (g a : Nat) : State := s.set (F.BRK_ARR_CAL_SPARES g a) (s.sparesUsed g a)

/-- An array that an abandoned window leaves CALIBRATING has its previous corrections again, its spare drivers among them (R291). -/
def State.putBackAll (s : State) (g : Nat) (w : Window) : State :=
  (w.oldSpares.foldl (fun s p => s.setTrim g w.arr p.1 p.2) (s.putBack g w)).countSpares g w.arr

/-- A window is abandoned (R291): the previous corrections return; an array that is CALIBRATING goes back at the next
evaluation-cycle boundary, and a reserve whose write was in progress enters EMPTY. -/
def State.abandonWindow (s : State) (g : Nat) : State :=
  match (s.tuss g).window with
  | none => s
  | some w =>
    let s := ((s.inc (F.BRK_CAL_CNT_ABANDON_CNT g)).set (F.BRK_STATUS_ABANDONED g) 1).brkStage g 0x1F 0
    let s := if w.released then s.putBackAll g w else s
    let r := s.reserveOf g
    let s := if !w.released ∧ s.arrState g r = aWRITING then s.setArrState g r aEMPTY else s
    let s := s.updTuss g fun t => { t with
      window := none
      exchange := t.exchange.filter fun x => !x.bracken
      abandoned := if w.released then t.abandoned ++ [w.arr] else t.abandoned }
    s.shrinkBit (chanOf g)

/-- A pass ends without its stamp (R291). -/
def State.dropPass (s : State) (g : Nat) : State :=
  let s := ((s.set (F.BRK_STATUS_PASS_ACTIVE g) 0).set (F.BRK_STATUS_OVERDUE g) 0).set (F.BRK_DEFER_WAIT g) 0
  s.updTuss g fun t => { t with pass := none, ask := none }

/-- What the host's ABORT comes to at the next boundary: the window is abandoned, and the pass ends without its stamp (R291). -/
def State.abortNow (s : State) (g : Nat) : State :=
  if (s.tuss g).abortDue then ((s.abandonWindow g).dropPass g).updTuss g fun t => { t with abortDue := false } else s

/-- TRIG is latched at a boundary, and CURRENT and the STALE bits follow (R287, R289). -/
def State.latchTrig (s : State) (g : Nat) : State :=
  (s.updTuss g fun t => { t with trigNow := s.get (F.BRK_CFG_TRIG g) }).brkCurrent g

/-! ### The reference generator (R293) -/

/-- HI, LO, CM and VALID of a Tussock's set for point `p` (0 to 3). -/
def State.genSet (s : State) (g p : Nat) : (Nat × Nat × Nat) × Bool :=
  let w := s.trim g 17 (2 * p)
  let v := s.trim g 17 (2 * p + 1)
  ((bitsOf w 0 12, bitsOf w 12 12, bitsOf v 0 8), bitOf v 8)

/-- The nearest whole number to `a + k · (b - a) / 30`, halves upwards. -/
def interp (a b k : Nat) : Nat := ((2 * ((30 : Int) * a + k * ((b : Int) - a)) + 30) / 60).toNat

/-- The codes that the generator applies at a temperature (R293): interpolated between two points, or one valid point's,
or those of the nearest valid set, or the reset codes. -/
def State.genCodes (s : State) (g temp : Nat) : Nat × Nat × Nat :=
  let set (p : Nat) := s.genSet g p
  let valid (p : Nat) : Bool := (s.genSet g p).2
  let nearest : Nat × Nat × Nat :=
    let ps := (List.range 4).filter valid
    match ps with
    | [] => (0x800, 0x800, 0x80)
    | p :: rest => (set (rest.foldl (fun b q =>
        if tempGap temp (15 + 30 * q) < tempGap temp (15 + 30 * b) then q else b) p)).1
  if temp ≤ 15 then (if valid 0 then (set 0).1 else nearest)
  else if 105 ≤ temp then (if valid 3 then (set 3).1 else nearest)
  else
    let p := (temp - 15) / 30
    let k := (temp - 15) % 30
    if valid p && valid (p + 1) then
      let (x, y) := ((set p).1, (set (p + 1)).1)
      (interp x.1 y.1 k, interp x.2.1 y.2.1 k, interp x.2.2 y.2.2 k)
    else if valid p then (set p).1 else if valid (p + 1) then (set (p + 1)).1 else nearest

end Sys2Proof.Machine
end

