-- ==== Sys2Proof/Machine/Tussock.lean ====
section
/-! DEFINITION. The Tussock's local sequencer, its clock, quarantine and re-enable, and the exchange of an array with the
reserve (R25, R136 to R160). Log entries: 30, 35. -/

namespace Sys2Proof.Machine
open Sys2Proof

/-! ### Markers and clock (R25, R156) -/

/-- The bring-up tile of R441: weight ((i + 3j) mod 16) - 8 in row i and data column j. -/
def bringupRow (i : Nat) : List Int := (List.range 256).map fun j => (((i + 3 * j) % 16 : Nat) : Int) - 8

/-- The context whose current image names a slot as a resident placement. -/
def State.ctxNaming (s : State) (g k : Nat) : Option (Nat × Image × Placement) :=
  (List.range 64).findSome? fun c =>
    if s.get (F.GLB_CTX_STATE_STATE c) = 0 then none
    else (s.image (s.get (F.GLB_CTX_PTR_PTR c))).bind fun i =>
      (i.resident.find? fun p => p.2.tsk == g && p.2.slot == k).map fun p => (c, i, p.2)

/-- Some current image names Tussock `g`. -/
def State.tskNamed (s : State) (g : Nat) : Bool := (List.range 16).any fun k => (s.ctxNaming g k).isSome

/-- Firmware begins to write an array (R429, R441): from the current image that names its slot, or with the bring-up tile. -/
def State.firmwareWrite (s : State) (g a : Nat) : State :=
  match (s.slotOf g a).bind fun k => (s.ctxNaming g k).map fun x => (k, x) with
  | some (k, c, i, p) =>
    let l := i.layerOf g k
    let h := p.holds i.ptr l (((i.layers[l]?).map Layer.wfmt).getD 0)
    let (s, rows) := s.rowsOfHolds g a h
    s.beginWrite g a { for_ := .firmware, rows := rows } c p.range p.maskEn h
  | none =>
    let rows := (List.range 512).map fun r => ({ row := r, ws := bringupRow r } : RowJob)
    s.beginWrite g a { for_ := .firmware, rows := rows } 0xFF (s.get (F.TSK_CONV_CFG_RANGE g a)) (s.get (F.TSK_CONV_CFG_MASK_EN g a)) {}

/-- Firmware writes every array of a Tussock, and the requantisation blocks of the current images that stand in its bank. -/
def State.firmwareWrites (s : State) (g : Nat) : State :=
  let imgs := (List.range 64).filterMap fun c =>
    if s.get (F.GLB_CTX_STATE_STATE c) = 0 then none else s.image (s.get (F.GLB_CTX_PTR_PTR c))
  let s := imgs.foldl (fun (s : State) i =>
    (i.layers.filter fun l => l.tier == 0 && l.rqTsk == g).foldl (fun s l => s.copyRq l) s) s
  ((List.range 17).foldl (fun s a => s.firmwareWrite g a) s).updTuss g fun t => { t with fwWrite := false }

/-- A re-enable passes step 3 (R160): evaluation cycles align and all arrays enter EMPTY; firmware's writes follow. -/
def State.reenableAlign (s : State) (g : Nat) : State :=
  if s.tskState g = tREEN ∧ (s.tuss g).aligned = false then
    let s := ((List.range 17).foldl (fun s a => s.setArrState g a aEMPTY) s).updTuss g fun t => { t with aligned := true, bringup := 0, bringAt := none }
    if (s.tuss g).fwWrite then s.firmwareWrites g else s
  else s

/-- The Tussock opens a swath: pass-through ends, the cycles of earlier swaths are forgotten, but those since a row began that is
being written; an ABORT takes effect, and TRIG is latched (R287, R291). Log entry 30 (DEDUCED). -/
def State.openSwath (s : State) (g w : Nat) : State :=
  let s := (s.abortNow g).latchTrig g
  let s := (List.range 17).foldl (fun s a => s.set (F.TSK_ARR_STATE_PASS_THROUGH g a) 0) s
  s.updTuss g fun t => { t with
    open_ := some w
    used := t.used.filter fun p => decide (s.keptFrom g p.1 ≤ p.2)
    passed := t.passed.filter fun p => decide (s.keptFrom g p.1 ≤ p.2) }

/-- A swath marker (R25, R156, R160): one that comes after the Tussock has opened its swath by its own count changes
nothing more; any number may be the first, and a wrong number, which is a cause CLOCK, is the one counted from. Log entry 35 (DESIGN CHOICE). -/
def State.marker (s : State) (g w : Nat) : State :=
  let t := s.tuss g
  match t.open_ with
  | none => ((s.openSwath g w).updTuss g fun t => { t with late := 0 }).reenableAlign g
  | some x =>
    if w = x ∧ t.late ≠ 0 then s.reenableAlign g
    else
      let s := ((s.openSwath g w).updTuss g fun t => { t with late := 0 }).reenableAlign g
      if w = x + 1 then s else s.raiseCause g 2

/-- A late marker (R156): the swath opens by the Tussock's own count; the second in a row is a cause CLOCK. -/
def State.markerLate (s : State) (g : Nat) : State :=
  match (s.tuss g).open_ with
  | none => s
  | some x =>
    let s := (s.openSwath g (x + 1)).updTuss g fun t => { t with late := t.late + 1 }
    let s := (s.set (F.TSK_CLK_STATUS_MARKER_LATE g) 1).inc (F.TSK_CLK_STATUS_LATE_CNT g)
    if 2 ≤ (s.tuss g).late then s.raiseCause g 2 else s

/-! ### Tasks arrive (R140 to R142) -/

/-- The target swath of a task (R141). -/
def targetSwath (now lo : Nat) : Nat := now + (lo + 65536 - now % 65536) % 65536

/-- A task is late (R142): more than 4,095 swaths ahead, or not queued two cycles before its own. -/
def taskLate (time target cycle : Nat) : Bool :=
  decide (4095 < target - time / 8192) || decide (target * 8192 + cycle * 32 < time + 64)

/-- A tile task arrives (R137 to R142, R159): tested for a Tussock out of service, then bad, then late, then for a full queue. Log entry 35 (DESIGN CHOICE). -/
def State.enqueue (s : State) (g : Nat) (ws : List Nat) : State :=
  let job := (s.jobOfTag (tfld ws 1 14 2) (tfld ws 1 0 14)).map Job.id
  let w := targetSwath s.swath (tfld ws 1 16 16)
  let t := s.tuss g
  if s.tskState g = tQUAR ∨ s.tskState g = tREEN then s.retire g w job 0x0A
  else if taskBad ws || (tfld ws 0 7 1 == 1 && s.get F.GRS_CFG_FRACTION != 5) then s.retire g w job 0x05
  else if taskLate s.time w (tfld ws 2 0 8) then s.retire g w job 0x07
  else if 16384 ≤ t.queue.length then s.retire g w job 0x08
  else s.setQueue g (t.queue ++ [{ words := ws, swath := w, job := job }])

/-! ### Quarantine and re-enable (R158 to R160) -/

/-- The Task queue of a Tussock, between its channel core and its sequencer: first in first out, 64 tasks; those that find it full
are held back by their sender (R155). -/
def State.taskQueue (s : State) (g : Nat) : List Sent := (s.flight.filter fun f => f.g == g).take 64

/-- A task leaves the Task queue for the sequencer: the oldest first. A task that no scheduler has sent comes as it is. -/
def State.taskArrive (s : State) (g : Nat) (ws : List Nat) : State :=
  match s.taskQueue g with
  | [] => s.enqueue g ws
  | f :: _ => if f.words = ws then State.enqueue { s with flight := s.flight.erase f } g ws else s

/-- Quarantine takes effect (R154, R159, R291, R319): arrays and Tuft stop, every queued task is retired, values in flight
are discarded, and windows, passes, exchanges and repairs end. -/
def State.quarantine (s : State) (g : Nat) : State :=
  let powerOnly := s.get (F.TSK_QUAR_CAUSE_CAUSE g) = 8
  let s := s.abandonWindow g |>.dropPass g
  let s := (s.tuss g).queue.foldl (fun s t => s.retire g t.swath t.job 0x0A) s
  let s := s.setQueue g []
  let s := { s with ctxs := Tab.mapV (fun _ => {}) (fun _ (x : Ctx64) => { x with wave := x.wave.filter fun y => y.g != g }) s.ctxs }
  let s := if powerOnly then s else (List.range 17).foldl (fun s a => s.setArrState g a aQUAR) s
  let s := s.updTuss g fun t => { t with
    quarDue := false, aligned := false, bringup := 0, bringAt := none, fwWrite := false, sums := [], pairs := [], exchange := none, arb := none,
    arbQueue := [], repair := none, wrong := [], abandoned := [], tableInit := t.tableInit
    lanes := Tab.mapV (fun _ => {}) (fun _ l => { l with check := none, sample := none, recent := [] }) t.lanes
    arrs := Tab.mapV (fun _ => {}) (fun _ r => { r with sampled := [], coded := [], write := none, refresh := 0 }) t.arrs }
  ((s.set (F.TSK_STATE_STATE g) tQUAR).set (F.GRS_LANE_STATUS_CSUM_REFRESH g) 0).arbStatus g

/-- A write of REENABLE (R160): accepted in QUARANTINED with the PLL locked and no cause arriving with it. Firmware writes the
arrays of a Tussock that no current placement names (R441). -/
def State.reenable (s : State) (g : Nat) (identity : Bool) : State :=
  if s.tskState g = tQUAR ∧ s.on (F.TSK_CLK_STATUS_LOCKED g) ∧ (s.tuss g).quarDue = false then
    ((s.set (F.TSK_STATE_STATE g) tREEN).set (F.TSK_QUAR_CAUSE_CAUSE g) 0).updTuss g fun t =>
      { t with aligned := false, bringup := 0, bringAt := none, tableInit := t.tableInit || identity, fwWrite := !s.tskNamed g }
  else s.set (F.TSK_CTRL_STATUS_REENABLE_REJECT g) 1

/-- Slots 0 to 15 are VALID and calibrated (R160, step 6). -/
def State.readyForService (s : State) (g : Nat) : Bool :=
  s.tskState g == tREEN && (s.tuss g).aligned && (s.tuss g).bringup == 2 && !(s.tuss g).quarDue &&
    (List.range 16).all fun k => s.arrState g (s.arrOf g k) == aVALID

/-! ### Exchange with the reserve (R152, R153) -/

/-- A gang of a queued task is valid when slot `k` maps to array `dst` (R152, condition 3). -/
def State.gangsStay (s : State) (g k dst : Nat) : Bool :=
  let s' := (s.set (F.TSK_ARRAY_ROLE_RESERVE_PHYS g) (s.arrOf g k)).set (roleFld g k) dst
  (s.tuss g).queue.all fun t =>
    decide (1 < t.fld 0 0 4) || s'.gangValid g (s'.gangMembers g (t.fld 0 8 4) (gangOf (t.fld 0 4 2)))

/-- A two-phase task that names a slot has latched phase A without phase B (R152, condition 2). -/
def Tuss.phaseOpen (t : Tuss) (k : Nat) : Bool :=
  t.queue.any fun q => q.phaseA && decide (q.fld 0 8 4 ≤ k ∧ k < q.fld 0 8 4 + gangOf (q.fld 0 4 2))

/-- The exchange itself (R153, R302). -/
def State.swapSlot (s : State) (g k : Nat) : State :=
  let from_ := s.arrOf g k
  let dst := s.reserveOf g
  let s := ((s.set (roleFld g k) dst).set (F.TSK_ARRAY_ROLE_RESERVE_PHYS g) from_)
  let s := ((s.set (F.TSK_ARR_STATE_ROLE g dst) 0).set (F.TSK_ARR_STATE_ROLE g from_) 1).set (F.TSK_ARR_STATE_PASS_THROUGH g dst) 0
  let s := ((s.set (F.TSK_SWAP_LAST_SLOT g) k).set (F.TSK_SWAP_LAST_FROM g) from_).set (F.TSK_SWAP_LAST_TO g) dst
  (((s.incMod (F.TSK_SWAP_SWAP_CNT g)).rebaseArr g dst).brkInPlace g).brkCurrent g

/-- What the requester of an exchange does when it has been performed: the released array of a rotation enters
CALIBRATING, and a repair goes on with the array's reprogramming (R282, R318). -/
def State.afterSwap (s : State) (g k : Nat) (bracken : Bool) : State :=
  let from_ := s.reserveOf g
  if bracken then
    match (s.tuss g).window with
    | none => s
    | some w =>
      if w.kind = .transit then ((s.updTuss g fun t => { t with window := none }).shrinkBit (chanOf g)).brkStage g 0x1F 0
      else ((s.setArrState g from_ aCAL).updTuss g fun t =>
        { t with window := some { w with released := true, arr := from_, stage := 2, oldSpares := s.spareWords g from_ } }).brkStage g from_ 2
  else s.updTuss g fun t => { t with repair := t.repair.map fun r => if r.slot = k then { r with step := 5 } else r }

/-- What the requester does when its exchange is refused (R291, R319): a reserve that Bracken's write left in WRITE_FAULT
goes to Gorse for repair. -/
def State.swapRefused (s : State) (g : Nat) (bracken : Bool) : State :=
  if bracken then
    let k := ((s.tuss g).window.map Window.slot).getD 0
    let s := s.abandonWindow g
    let r := s.reserveOf g
    if s.arrState g r = aWFAULT then
      s.updTuss g fun t => if t.repair.isSome then t else { t with repair := some { arr := r, slot := k, step := 5 } }
    else s
  else s.updTuss g fun t => { t with repair := t.repair.map fun r => { r with step := 5, inPlace := true } }

/-- A requested exchange at an evaluation-cycle boundary (R152 to R154). -/
def State.tryExchange (s : State) (g : Nat) : State :=
  let t := s.tuss g
  match t.exchange with
  | none => s
  | some x =>
    let r := s.reserveOf g
    let done (s : State) : State := s.updTuss g fun t => { t with exchange := none }
    if t.quarDue then done s
    else if s.arrState g r ≠ aVALID ∨
        s.get (F.TSK_ARR_STATE_CONTEXT g r) ≠ s.get (F.TSK_ARR_STATE_CONTEXT g (s.arrOf g x.slot)) ∨
        s.gangsStay g x.slot r = false then
      (done (s.set (F.TSK_SWAP_SWAP_REFUSED g) 1)).swapRefused g x.bracken
    else if t.phaseOpen x.slot then
      if x.deferred then s
      else (s.inc (F.TSK_SWAP_DEFER_CNT g)).updTuss g fun t => { t with exchange := some { x with deferred := true } }
    else (done (s.swapSlot g x.slot)).afterSwap g x.slot x.bracken

/-! ### The commands -/

/-- `SWATH_MARKER` (R25). -/
def execSwathMarker (g : Tsk) (w : BitVec 51) (s : State) : Host.Outcome State Fault Refusal :=
  .next (s.ifPowered g fun s => s.marker g w.toNat)

/-- `MARKER_LATE` (R156). -/
def execMarkerLate (g : Tsk) (s : State) : Host.Outcome State Fault Refusal := .next (s.ifPowered g fun s => s.markerLate g)

/-- `TUSSOCK_LOCK_LOSS` (R156). -/
def execTussockLockLoss (g : Tsk) (s : State) : Host.Outcome State Fault Refusal :=
  .next (s.ifPowered g fun s => ((s.set (F.TSK_CLK_STATUS_LOCKED g) 0).set (F.TSK_CLK_STATUS_LOCK_LOST g) 1).raiseCause g 2)

/-- `TUSSOCK_PLL_LOCK` (R160): in Sleep the PLLs are off (R414). -/
def execTussockPllLock (g : Tsk) (s : State) : Host.Outcome State Fault Refusal :=
  .next (s.ifPowered g fun s => if s.get F.PWR_STATUS_STATE = 2 then s else s.set (F.TSK_CLK_STATUS_LOCKED g) 1)

/-- `TILE_TASK_ENQUEUE` (R141). -/
def execTileTaskEnqueue (g : Tsk) (w0 w1 w2 w3 w4 w5 w6 w7 : Word) (s : State) : Host.Outcome State Fault Refusal :=
  let ws := [w0, w1, w2, w3, w4, w5, w6, w7].map BitVec.toNat
  .next (s.ifT g fun s => s.taskArrive g ws)

/-- `QUARANTINE` (R159). -/
def execQuarantine (g : Tsk) (s : State) : Host.Outcome State Fault Refusal :=
  .next (s.ifPowered g fun s => if (s.tuss g).quarDue then s.quarantine g else s)

/-- `TSK_QUARANTINE_WRITE` (R158). -/
def execTskQuarantineWrite (g : Tsk) (s : State) : Host.Outcome State Fault Refusal :=
  .next (s.ifReach .TSK_CTRL g fun s => s.raiseCause g 0)

/-- `TSK_REENABLE` (R160). -/
def execTskReenable (g : Tsk) (identity : Bool) (s : State) : Host.Outcome State Fault Refusal :=
  .next (s.ifReach .TSK_CTRL g fun s => s.reenable g identity)

/-- `REENABLE_SERVICE` (R160). -/
def execReenableService (g : Tsk) (s : State) : Host.Outcome State Fault Refusal :=
  .next (s.ifT g fun s => if s.readyForService g then s.set (F.TSK_STATE_STATE g) tSERVICE else s)

/-- TSK_SEQ_ERR and PEAK cleared. -/
def State.clrSeq (s : State) (g : Nat) : State :=
  ((((s.set (F.TSK_SEQ_ERR_MISSED_CNT g) 0).set (F.TSK_SEQ_ERR_CONFLICT_CNT g) 0).set (F.TSK_SEQ_ERR_OVERFLOW_CNT g) 0).set
    (F.TSK_SEQ_ERR_BAD_CNT g) 0).set (F.TSK_SEQ_STATUS_PEAK g) 0

/-- `TSK_CLR_SEQ`. -/
def execTskClrSeq (g : Tsk) (s : State) : Host.Outcome State Fault Refusal :=
  .next (s.ifReach .TSK_CTRL g fun s => s.clrSeq g)

/-- `BANK_CLR_ECC`. -/
def execBankClrEcc (g : Tsk) (s : State) : Host.Outcome State Fault Refusal :=
  .next (s.ifReach .TSK_BANK_ECC g fun s => (s.set (F.TSK_BANK_ECC_CE_CNT g) 0).set (F.TSK_BANK_ECC_UE_CNT g) 0)

/-- The identity tables and full masks stand in the table SRAM of Tussock `g` (R91, R92). -/
def State.identityTables (s : State) (g : Nat) : State :=
  { s with mem := Memory.fill s.mem (tableBase g) (tableBase g + 0x24000) }

/-- `TABLE_INIT_DONE` (R92): after a power-on, or a re-enable that asks for identity tables. -/
def execTableInitDone (g : Tsk) (s : State) : Host.Outcome State Fault Refusal :=
  .next (s.ifT g fun s =>
    if (s.tuss g).tableInit || !s.on (F.TSK_CONV_STATUS_TABLE_INIT_DONE g) then
      ((s.identityTables g).updTuss g fun t => { t with tableInit := false }).set (F.TSK_CONV_STATUS_TABLE_INIT_DONE g) 1
    else s)

end Sys2Proof.Machine
end

