-- ==== Sys2Proof/Machine/Combine.lean ====
section
/-! DEFINITION. The combining Tuft (R106 to R123, R148, R504 to R506): deliveries of partial sums, requantisation of element
groups, output blocks, productions and their judgement. Log entries: 11, 35. -/

namespace Sys2Proof.Machine
open Sys2Proof

/-! ### Reads and writes of a job's structures -/

/-- Bytes of the bank of Tussock `g`, from a block on. -/
def State.bankBytes (s : State) (g block off n : Nat) : List Byte := Memory.readN s.mem (bankAddr g block + off) n

/-- Blocks of a requantisation block with `nsrc` sources and `nout` channels (R115). -/
def rqBlocks (nsrc nout : Nat) : Nat := blocksOf (0x40 + nsrc * 512 + nout * 8)

/-- What a header tells of "layer format" without its output record (R115): reserved formats, an int16 input, no channels, sources or
elements. -/
def RqHead.badHead (h : RqHead) : Bool :=
  decide (2 ≤ h.wfmt) || decide (4 ≤ h.xfmt) || h.nout == 0 || h.nsrc == 0 || decide (4096 < h.nsrc) || h.nelem == 0

/-- "Layer format" (R115, R506): besides, a reserved output format, an output area beyond the bank, or a record that names no
elements. -/
def RqHead.bad (h : RqHead) (recNelem : Nat) : Bool :=
  h.badHead || (fmtRange h.fmt).isNone || decide (4096 < h.outBlock + h.outBlocks) || recNelem == 0

/-- A column sum C_j of a source (R106, R115). -/
def State.colSum (s : State) (a : Area) (src j : Nat) : Int :=
  sgn 16 (leNat (s.bankBytes a.g a.rq (0x40 + src * 512 + 2 * j) 2))

/-- Bias and weight scale of an output channel (R115). -/
def State.bias (s : State) (a : Area) (o : Nat) : Int :=
  sgn 32 (leNat (s.bankBytes a.g a.rq (0x40 + a.head.nsrc * 512 + o * 8) 4))
def State.weightScale (s : State) (a : Area) (o : Nat) : Nat :=
  leNat (s.bankBytes a.g a.rq (0x40 + a.head.nsrc * 512 + o * 8 + 4) 4)

/-- The area of a job for a requantisation block of a Tussock. -/
def State.area (s : State) (job g rq : Nat) : Option Area :=
  s.areas.find? fun a => a.job == job && a.g == g && a.rq == rq

/-- A change to an area. -/
def State.updArea (s : State) (a : Area) : State :=
  { s with areas := s.areas.map fun x => if x.job = a.job ∧ x.g = a.g ∧ x.rq = a.rq then a else x }

/-- The first use of a requantisation block by a job (R115, R116, R130, R506): its header, then its other blocks and the records of
its tensors are read and checked. -/
def State.openArea (s : State) (job cmd g rq acc : Nat) : State × Option Area :=
  let n := chanOf g
  let a0 := bankAddr g rq
  match s.readBytes n job cmd g a0 0x40 with
  | (s, none) => (s, none)
  | (s, some h) =>
    if (rqHeadOf h []).badHead then (s.jobFail job 0x0C cmd g, none)
    else match s.readBlocks n job cmd g (a0 + 256) [] (rqBlocks (leAt h 6 2) (leAt h 4 2) - 1) with
    | (s, none) => (s, none)
    | (s, some _) =>
      match s.readBytes n job cmd g (leAt h 0x10 6) 32 with
      | (s, none) => (s, none)
      | (s, some rec) =>
        match s.readBytes n job cmd g (leAt h 8 6) 32 with
        | (s, none) => (s, none)
        | (s, some inp) =>
          let head := rqHeadOf h rec
          if head.bad (leAt rec 0x1C 4) then (s.jobFail job 0x0C cmd g, none)
          else if bitOf (leAt inp 0x0B 1) 3 then (s.jobFail job 0x0E cmd g, none)
          else
            let a : Area := { job := job, g := g, rq := rq, accBlock := acc, head := head }
            (State.learnRec { s with areas := s.areas ++ [a] } head.outTid head.outRec, some a)

/-! ### Accumulators (R148) -/

/-- The address of element `e`'s accumulator. -/
def Area.elemAddr (a : Area) (e : Nat) : Nat := bankAddr a.g a.accBlock + (e - a.head.e0) * 8

/-- The element group of an element (R504). -/
def Area.group (a : Area) (e : Nat) : Nat := (e - a.head.e0) / 32

/-- The elements of a group that lie in the area. -/
def Area.groupElems (a : Area) (k : Nat) : List Nat :=
  ((List.range 32).map fun i => a.head.e0 + k * 32 + i).filter fun e => decide (e < a.head.e0 + a.head.nelem)

/-- Sum, saturation mark, poison mark and delivery count of an accumulator word (R148). -/
def accSum (w : Nat) : Int := sgn 40 w
def accSat (w : Nat) : Bool := bitOf w 40
def accPoison (w : Nat) : Bool := bitOf w 41
def accCount (w : Nat) : Nat := bitsOf w 42 13

/-- An accumulator word from its parts: the saturation mark in bit 40, the poison mark in bit 41 (R148). Log entry 35 (DESIGN CHOICE). -/
def accOf (sum : Int) (sat poison : Bool) (count : Nat) : Nat :=
  unsgn 40 sum + 2 ^ 40 * natOf sat + 2 ^ 41 * natOf poison + 2 ^ 42 * count

/-- The accumulator word of an element (R110, R148); in a group that the job has not begun it is the element's bias alone. -/
def State.accWord (s : State) (a : Area) (e : Nat) : Nat :=
  if a.begun.contains (a.group e) then leNat (Memory.readN s.mem (a.elemAddr e) 8)
  else accOf (s.bias a (e % a.head.nout)) false false 0

/-- A bank block written by the Tuft, with a fresh CRC and the identifiers that stand in its tag (R149). Log entry 11 (DEDUCED). -/
def State.tuftWrite (s : State) (addr : Nat) (data : List Byte) : State :=
  let old := s.block addr
  s.putBlock addr (Block.fresh data old.tid old.seq)

/-- The blocks of a requantisation block that hold the parameters of given elements' channels, by index (R115). -/
def Area.paramBlocks (a : Area) (es : List Nat) : List Nat :=
  (es.map fun e => (0x40 + a.head.nsrc * 512 + e % a.head.nout * 8) / 256).dedup

/-- The Tuft reads blocks of a requantisation block for use (R174); `false` once one fails. -/
def State.rqRead (s : State) (cmd : Nat) (a : Area) : List Nat → State × Bool
  | [] => (s, true)
  | i :: is =>
    match s.readBlock (chanOf a.g) a.job cmd a.g (bankAddr a.g a.rq + i * 256) .ok none true with
    | (s, none) => (s, false)
    | (s, some _) => s.rqRead cmd a is

/-- The accumulator block of a group may be written, and is read for use where the job has begun it, with the biases where not
(R148, R174, R183). -/
def State.openGroup (s : State) (cmd : Nat) (a : Area) (k : Nat) : State × Bool :=
  let addr := bankAddr a.g (a.accBlock + k)
  match s.mayAccess (chanOf a.g) a.job cmd a.g true addr 256 with
  | (s, false) => (s, false)
  | (s, true) =>
    if a.begun.contains k then
      match s.readBlock (chanOf a.g) a.job cmd a.g addr .ok none true with
      | (s, none) => (s, false)
      | (s, some _) => (s, true)
    else s.rqRead cmd a (a.paramBlocks (a.groupElems k))

/-- Every group of a delivery opened; `false` once one fails. -/
def State.openGroups (s : State) (cmd : Nat) (a : Area) : List Nat → State × Bool
  | [] => (s, true)
  | k :: ks =>
    match s.openGroup cmd a k with
    | (s, false) => (s, false)
    | (s, true) => s.openGroups cmd a ks

/-- A group's accumulator block is begun by a job: every element of the area at its bias. -/
def State.beginGroup (s : State) (a : Area) (k : Nat) : State × Area :=
  if a.begun.contains k then (s, a)
  else
    let a' := { a with begun := a.begun ++ [k] }
    let word (i : Nat) : List Byte :=
      let e := a.head.e0 + k * 32 + i
      leBytes 8 (if e < a.head.e0 + a.head.nelem then s.accWord a e else 0)
    ((s.tuftWrite (bankAddr a.g (a.accBlock + k)) ((List.range 32).flatMap word)).updArea a', a')

/-- An accumulator word written. -/
def State.putAcc (s : State) (a : Area) (e w : Nat) : State :=
  let base := bankAddr a.g (a.accBlock + a.group e)
  s.tuftWrite base (overlay (s.block base).data ((e - a.head.e0) % 32 * 8) (leBytes 8 w))

/-! ### What a source delivers (R107 to R109) -/

/-- The slice value of a column in a phase, after the correction of R107; the exact value of an evaluation in exact mode (R132). -/
def State.slice (s : State) (a : Area) (e : Evl) (j : Nat) : Int :=
  let z := if e.exact then e.vals.getD j 0 else sliceValue e.range (e.vals.getD j 0)
  if tfld e.task 0 18 1 = 1 ∧ e.phase ≠ 2 then z - 8 * s.colSum a (tfld e.task 3 17 12) j else z

/-- The elements that a task delivers, with their partial sums and marks (R109, R504). -/
def State.deliveries (s : State) (a : Area) (evals : List Evl) : List (Nat × Int × Bool × Bool) :=
  match evals with
  | [] => []
  | ea :: more =>
    let eb := more.headD ea
    let two := !more.isEmpty
    let cb := tfld ea.task 3 0 8
    let cc := tfld ea.task 3 8 9
    let out := ea.task.getD 5 0
    let int8 := a.head.wfmt == 1
    let n := if int8 then cc / 2 else cc
    (List.range n).map fun c =>
      let h := if int8 then cb + 2 * c else cb + c
      let l := if int8 then cb + 2 * c + 1 else cb + c
      let marks (l' : List Nat) : Bool := l'.contains h || l'.contains l
      let ps := partialSum int8 two (s.slice a ea h) (s.slice a ea l) (s.slice a eb h) (s.slice a eb l)
      (out + c, ps, evals.any (fun e => marks e.sat), evals.any (fun e => marks e.poison))

/-! ### Productions (R116 to R123, R506) -/

/-- The production of a job for a tensor record. -/
def State.prod (s : State) (job addr : Nat) : Option Production := s.prods.find? fun p => p.job == job && p.addr == addr

/-- A change to a production. -/
def State.updProd (s : State) (p : Production) : State :=
  { s with prods := s.prods.map fun x => if x.job = p.job ∧ x.addr = p.addr then p else x }

/-- A tensor record written by the device (R117, R186). -/
def State.putRecord (s : State) (job cmd unit addr : Nat) (bytes : List Byte) : State × Bool :=
  match s.mayAccess (chanOf unit) job cmd unit true addr 32 with
  | (s, false) => (s, false)
  | (s, true) => (s.mergeWrite addr bytes, true)

/-- A production starts (R117, R506): the record is read, and PENDING is copied to SCALE once. -/
def State.startProd (s : State) (cmd : Nat) (a : Area) : State × Option Production :=
  match s.prod a.job a.head.outRec with
  | some p => (s, some p)
  | none =>
    match s.readBytes (chanOf a.g) a.job cmd a.g a.head.outRec 32 with
    | (s, none) => (s, none)
    | (s, some r) =>
      let fl := leAt r 0x0B 1
      let scale := if bitOf fl 1 then leAt r 4 4 else leAt r 0 4
      let copied := leBytes 4 scale ++ (r.drop 4).take 7 ++ leBytes 1 (fl - 2) ++ r.drop 12
      match if bitOf fl 1 then s.putRecord a.job cmd a.g a.head.outRec copied else (s, true) with
      | (s, false) => (s, none)
      | (s, true) =>
        let p : Production := { job := a.job, addr := a.head.outRec, tid := a.head.outTid, scale := scale, need := leAt r 0x1C 4
                                once := bitOf fl 0 }
        ({ s with prods := s.prods ++ [p] }, some p)

/-- The job's clip fields after a production has been judged (R122): F is the largest, of equals the first; with F 0, the first judged
too large, or else the first judged. -/
def Job.judged (j : Job) (f tid : Nat) (small large : Bool) : Job :=
  let take := !j.judgedAny || decide (j.clipF < f) || (j.clipF == 0 && f == 0 && large && !j.tooLarge)
  let j := if take then { j with clipF := f, clipTensor := tid } else j
  { j with judgedAny := true, tooSmall := j.tooSmall || small, tooLarge := j.tooLarge || large }

/-- A production ends (R119 to R123, R506): the record is written in one write, and the job learns the judgement. `na` says
that a rerun was wanted and not available. PRODUCTIONS counts a production and its rerun once. Log entry 11 (DESIGN CHOICE). -/
def State.finishProd (s : State) (cmd unit : Nat) (p : Production) (r : List Byte) (small large na : Bool) : State :=
  let fl := leAt r 0x0B 1
  let far := (small || large) && !bitOf fl 2
  let pend := if far then correctedScale p.scale p.peak (leAt r 0x0A 1) small else leAt r 4 4
  let fl' := if far ∧ bitOf fl 1 = false then fl + 2 else fl
  let scale := if p.second ∧ bitOf fl 2 = false then p.scale else leAt r 0 4
  let bytes := leBytes 4 scale ++ leBytes 4 pend ++ (r.drop 8).take 3 ++ leBytes 1 fl' ++ leBytes 4 p.clipped ++
    leBytes 4 p.elems ++ leBytes 4 p.peak ++ leBytes 4 (leAt r 0x18 4 + natOf (!p.second)) ++ r.drop 0x1C
  let f := clipF p.clipped p.elems
  let s := (s.putRecord p.job cmd unit p.addr bytes).1
  let s := s.updJob p.job fun j => { j.judged f p.tid small large with
    recomputeNa := j.recomputeNa || na, rerun := j.rerun || p.second }
  s.updProd { p with ended := true, rerunScale := none, f := f, small := small, large := large }

/-- First swath of a job's recompute allowance (R213, R234). -/
def Job.rcFirst (j : Job) : Nat := j.swath + 1 + j.slide + tfld j.hdr 2 12 12

/-- Swaths of a job's recompute allowance. -/
def Job.rcLen (j : Job) : Nat := tfld j.hdr 2 24 8

/-- A rerun is available to a production judged now (R123): the job has an allowance whose tasks are still to be sent, and no
rerun yet. Log entry 11 (DEDUCED). -/
def State.rerunFree (s : State) (id : Nat) : Bool :=
  match s.job id with
  | some j => j.rcLen != 0 && decide (s.swath + 1 ≤ j.rcFirst) && !j.rerun &&
      !s.prods.any fun x => x.job == id && (x.rerunScale.isSome || x.second)
  | none => false

/-- The groups of a production hold NELEM elements: it is judged (R119 to R123). A far-off production under recompute-once that a
rerun is available to waits for it: its counts are written and PRODUCTIONS advances, SCALE and PENDING are left to the rerun, whose counts
replace them. What the first run was judged counts for the job. Log entry 11 (DESIGN CHOICE). -/
def State.judgeProd (s : State) (cmd unit : Nat) (p : Production) : State :=
  if p.ended || p.rerunScale.isSome || decide (p.elems < p.need) then s
  else match s.readBytes (chanOf unit) p.job cmd unit p.addr 32 with
  | (s, none) => s
  | (s, some r) =>
    let fmt := leAt r 0x0A 1
    let small := judgeSmall (leAt r 8 2) p.elems p.clipped p.peak
    let large := judgeLarge fmt (leAt r 8 2) p.elems p.clipped p.peak
    let policy := p.once && (small || large)
    if policy && s.rerunFree p.job then
      let bytes := r.take 0x0C ++ leBytes 4 p.clipped ++ leBytes 4 p.elems ++ leBytes 4 p.peak ++ leBytes 4 (leAt r 0x18 4 + 1) ++ r.drop 0x1C
      let s := (s.putRecord p.job cmd unit p.addr bytes).1
      (s.updJob p.job fun j => j.judged (clipF p.clipped p.elems) p.tid small large).updProd
        { p with rerunScale := some (correctedScale p.scale p.peak fmt small) }
    else s.finishProd cmd unit p r small large (policy && !p.second)

/-! ### Requantisation and output (R110 to R114, R505) -/

/-- Every channel's parameters exist under the scales in use (R112, R113). -/
def State.scalesOk (s : State) (a : Area) (sx sy : Nat) : Bool :=
  (List.range a.head.nout).all fun o => (requantParams (s.weightScale a o) sx sy).isSome

/-- The code of an element under the scales in use, with what it adds to its production. -/
def State.codeOf (s : State) (a : Area) (sx sy e : Nat) (acc : Int) : Int × Bool × Nat :=
  match requantParams (s.weightScale a (e % a.head.nout)) sx sy with
  | some (m, sh) => requantise acc m sh a.head.fmt
  | none => (0, false, 0)

/-- Elements requantised: codes and the production's counts. -/
def State.emit (s : State) (a : Area) (p : Production) (sx : Nat) (es : List Nat) : Area × Production :=
  es.foldl (fun (ap : Area × Production) e =>
    match ap.1.done.find? (fun d => d.1 == e) with
    | none => ap
    | some (_, acc, clip, poison) =>
      let (q, c, t) := s.codeOf a sx ap.2.scale e acc
      ({ ap.1 with codes := ap.1.codes.filter (fun x => x.1 != e) ++ [(e, q, poison)] },
       { ap.2 with elems := ap.2.elems + 1, clipped := ap.2.clipped + natOf (clip || c), peak := max ap.2.peak t })) (a, p)

/-- The bytes of output block `i` of an area from its codes, zero beyond the area's elements (R505). -/
def Area.outBytes (a : Area) (i : Nat) : List Byte :=
  let b := fmtBits a.head.fmt
  let code (k : Nat) : Nat :=
    match a.codes.find? (fun x => x.1 == a.head.e0 + k) with
    | some (_, q, _) => unsgn b q
    | none => 0
  if b = 4 then (List.range 256).map fun k => BitVec.ofNat 8 (code (i * 512 + 2 * k) + 16 * code (i * 512 + 2 * k + 1))
  else if b = 8 then (List.range 256).map fun k => BitVec.ofNat 8 (code (i * 256 + k))
  else (List.range 128).flatMap fun k => leBytes 2 (code (i * 128 + k))

/-- The elements of output block `i`. -/
def Area.outElems (a : Area) (i : Nat) : List Nat :=
  let per := 2048 / fmtBits a.head.fmt
  ((List.range per).map fun k => i * per + k).filterMap fun k => if k < a.head.nelem then some (a.head.e0 + k) else none

/-- Output block `i` is written whole once all its elements are requantised; a poisoned element poisons it (R111, R183, R505). Log entry 11 (DEDUCED). -/
def State.outBlock (s : State) (cmd : Nat) (a : Area) (i : Nat) : State :=
  let es := a.outElems i
  if es.all (fun e => a.codes.any fun x => x.1 == e) then
    let addr := bankAddr a.g (a.head.outBlock + i)
    match s.mayAccess (chanOf a.g) a.job cmd a.g true addr 256 with
    | (s, false) => s
    | (s, true) =>
      let b := Block.fresh (a.outBytes i) a.head.outTid (a.head.outSeq0 + i)
      let bad := a.codes.any fun x => es.contains x.1 && x.2.2
      (s.putBlock addr (if bad then b.poison else b)).provNote a.head.outTid a.job none
  else s

/-- Output blocks that hold some of given elements. -/
def Area.blocksFor (a : Area) (es : List Nat) : List Nat :=
  (es.map fun e => (e - a.head.e0) * fmtBits a.head.fmt / 2048).dedup

/-- The scale of an area's input tensor: as read when its first group was requantised, or from the record now (R117). -/
def State.inScale (s : State) (cmd : Nat) (a : Area) : State × Option Nat :=
  match a.sx with
  | some x => (s, some x)
  | none =>
    match s.readBytes (chanOf a.g) a.job cmd a.g a.head.inRec 32 with
    | (s, none) => (s, none)
    | (s, some r) => (s, some (leAt r 0 4))

/-- Elements of a complete group with their accumulators saturated to int32, clip and poison marks (R110). -/
def State.summed (s : State) (a : Area) (es : List Nat) : List (Nat × (Int × Bool × Bool)) :=
  es.map fun e =>
    let w := s.accWord a e
    let (acc, clip) := sat32 (accSum w)
    (e, acc, clip || accSat w, accPoison w)

/-- A complete element group is requantised (R110, R113, R114, R148, R505): nothing is written where a scale is out of range. -/
def State.requantGroup (s : State) (job cmd g rq k : Nat) : State :=
  match s.area job g rq with
  | none => s
  | some a =>
    let es := a.groupElems k
    if es.any (fun e => a.done.any fun d => d.1 == e) || !es.all (fun e => accCount (s.accWord a e) == a.head.nsrc) then s
    else match s.rqRead cmd a (a.paramBlocks es) with
    | (s, false) => s
    | (s, true) =>
      match s.inScale cmd a with
      | (s, none) => s
      | (s, some sx) =>
        match s.startProd cmd a with
        | (s, none) => s
        | (s, some p) =>
          if !s.scalesOk a sx p.scale then s.jobFail job 0x0B cmd g
          else
            let a := { a with sx := some sx, done := a.done ++ s.summed a es }
            let (a, p) := s.emit a p sx es
            let s := (s.updArea a).updProd p
            let s := (a.blocksFor es).foldl (fun s i => s.outBlock cmd a i) s
            s.judgeProd cmd g p

/-- A delivery is added to groups that are open (R109, R148): every element, then the groups that are complete. A failed digital
check poisons the groups (R311). -/
def State.addOpened (s : State) (job cmd : Nat) (a : Area) (ks : List Nat) (ds : List (Nat × Int × Bool × Bool)) (dig : Bool) : State :=
  let (s, a) := ks.foldl (fun (sa : State × Area) k => sa.1.beginGroup sa.2 k) (s, a)
  let s := ds.foldl (fun s (e, ps, sat, poison) =>
    let w := s.accWord a e
    s.putAcc a e (accOf (accSum w + ps) (accSat w || sat) (accPoison w || poison) (accCount w + 1))) s
  let s := if dig then
      (ks.flatMap a.groupElems).foldl (fun (s : State) e =>
        let w := s.accWord a e
        s.putAcc a e (accOf (accSum w) (accSat w) true (accCount w))) (s.digError a.g)
    else s
  ks.foldl (fun s k => s.requantGroup job cmd a.g a.rq k) s

/-- A delivery is added once its groups' blocks have been read (R148, R174). -/
def State.addDelivery (s : State) (job cmd : Nat) (a : Area) (ds : List (Nat × Int × Bool × Bool)) (dig : Bool) : State :=
  let ks := (ds.map fun d => a.group d.1).dedup
  match s.openGroups cmd a ks with
  | (s, false) => s
  | (s, true) => s.addOpened job cmd a ks ds dig

/-- The blocks of a requantisation block that hold the column sums of a source, by index, if a task needs them (R107). -/
def sumBlocks (task : List Nat) : List Nat :=
  if tfld task 0 18 1 = 1 then
    let o := 0x40 + tfld task 3 17 12 * 512
    (List.range 3).map fun i => o / 256 + i
  else []

/-- A delivery that R140, R148 or R504 discards. -/
def State.badDelivery (s : State) (a : Area) (task : List Nat) (ds : List (Nat × Int × Bool × Bool)) : Bool :=
  decide (a.head.nsrc ≤ tfld task 3 17 12) ||
    (a.head.wfmt == 1 && (tfld task 3 0 8 % 2 == 1 || tfld task 3 8 9 % 2 == 1)) ||
    ds.any fun d => decide (d.1 < a.head.e0 ∨ a.head.e0 + a.head.nelem ≤ d.1) || decide (4095 < a.accBlock + a.group d.1) ||
      decide (a.head.nsrc ≤ accCount (s.accWord a d.1))

/-- A partial sum reaches the combining Tuft (R148): nothing is added for a job that has ended; in a Tussock that is not in SERVICE it
is discarded, and its source never delivers (R159). -/
def State.deliver (s : State) (src : Nat) (p : Partial) (dig : Bool) : State :=
  match p.evals with
  | [] => s
  | e :: _ =>
    let id := e.job.getD 0
    let g := tfld e.task 4 0 8
    match s.job id with
    | none => s
    | some j =>
      if j.err.isSome then s.taskDone e.job
      else if s.tskState g != tSERVICE || !s.onT g then s
      else
        let s := s.taskDone e.job
        let cmd := j.tasksCmd src e.swath
        let rq := tfld e.task 4 20 12
        let (s, oa) := match s.area id g rq with
          | some a => (s, some { a with accBlock := tfld e.task 4 8 12 })
          | none => s.openArea id cmd g rq (tfld e.task 4 8 12)
        match oa with
        | none => s
        | some a =>
          let ds := s.deliveries a p.evals
          if s.badDelivery a e.task ds then s.jobFail id 0x05 cmd g
          else match s.rqRead cmd a (sumBlocks e.task) with
            | (s, false) => s
            | (s, true) => (s.updArea a).addDelivery id cmd a ds dig

/-- All phases of a partial sum's task are there. -/
def Partial.complete (p : Partial) : Bool :=
  match p.evals with
  | [e] => e.phase == 0
  | [_, _] => true
  | _ => false

/-! ### The commands -/

/-- `PARTIAL_SUM_DELIVERY` (R148). -/
def execPartialSumDelivery (g : Tsk) (digFail : Bool) (s : State) : Host.Outcome State Fault Refusal :=
  .next (s.ifT g fun s =>
    match (s.tuss g).sums.find? Partial.complete with
    | some p => (s.updTuss g fun t => { t with sums := t.sums.erase p }).deliver g p digFail
    | none => s)

/-- A production that waits for its rerun starts it (R123): every area of it empty, and the corrected scale in use. Its tasks run
in the allowance and deliver anew. -/
def State.rerun (s : State) (p : Production) (scale : Nat) : State :=
  State.updProd { s with areas := s.areas.map fun a => if a.job == p.job && a.head.outRec == p.addr then
      { a with begun := [], done := [], codes := [] } else a }
    { p with scale := scale, elems := 0, clipped := 0, peak := 0, ended := false, rerunScale := none, second := true }

/-- The production of a job that waits for its rerun, if any, starts it. -/
def State.rerunDue (s : State) (id : Nat) : State :=
  match s.prods.find? fun p => p.job == id && p.rerunScale.isSome with
  | some p => s.rerun p (p.rerunScale.getD p.scale)
  | none => s

/-- `RECOMPUTE_RERUN` (R123): once the tasks of the allowance can be sent, and within it. -/
def execRecomputeRerun (r : BitVec 48) (s : State) : Host.Outcome State Fault Refusal :=
  .next (match s.prods.find? fun p => p.addr == r.toNat && p.rerunScale.isSome with
    | some p =>
      match s.job p.job with
      | some j => if j.err.isNone = true ∧ j.rcFirst ≤ s.swath + 1 ∧ s.swath < j.rcFirst + j.rcLen then
          s.rerun p (p.rerunScale.getD p.scale) else s
      | none => s
    | none => s)

end Sys2Proof.Machine
end

