-- ==== Sys2Proof/Machine/Calib.lean ====
section
/-! DEFINITION. The measurements of a calibration and what follows from them (R276 to R286): Calibrate operations, the row test, the
read-back of a round, solving for the codes, and the three tests of verification. Log entries: 3, 32, 37. -/

namespace Sys2Proof.Machine
open Sys2Proof

/-! ### Calibrate operations (R277) -/

/-- The vector of the next Calibrate operation: that of the slot's latest Evaluate, if none came since the previous operation the
captured ones in turn, and from an empty store the stimulus generator's levels on the rows that hold a weight. Log entry 37 (DESIGN
CHOICE). -/
def State.calVector (s : State) (g a : Nat) (c : CalRun) : State × List Nat × CalRun :=
  let t := s.tuss g
  let n := t.captured.length
  if t.fresh then (s.updTuss g fun t => { t with fresh := false }, t.captured.headD [], c)
  else if n ≠ 0 then (s, t.captured.getD (n - 1 - c.replay % n) [], { c with replay := c.replay + 1 })
  else
    let v := s.freeVal 2048
    let r := s.arr g a
    let live (row : Nat) : Bool := (r.rowWeights row).any (· != 0)
    (s.draw, (List.range 512).map fun row => if live row then v / 16 ^ row % 16 else 0, c)

/-- The evaluation of a Calibrate operation: the array alone, a row that failed read-back at level 0 (R277, R278). -/
def State.calEval (s : State) (g a range : Nat) (c : CalRun) (xs : List Nat) (dev : List (Nat × Int)) : Evl :=
  let xs := xs.zipIdx.map fun (x, row) => if c.bad.contains row then 0 else x
  s.coded g (s.sampled g { task := [], job := none, kind := .work, phase := 0, slot := 0, arr := a, members := [a], swath := s.swath,
                           cycle := 0, range := range, inputs := xs }) dev

/-- Operations of the zero stage: every row at level 0 (R282, step 3). -/
def State.calZero (s : State) (g a : Nat) (c : CalRun) (ops : List (List (Nat × Int))) : State × CalRun :=
  ops.foldl (fun (s, c) dev =>
    let e := s.calEval g a (s.get (F.TSK_CONV_CFG_RANGE g a)) c (List.replicate 512 0) dev
    let add (t : List (Nat × Int)) (p : Int × Nat) : List (Nat × Int) := Tab.set (fun _ => 0) t p.2 (Tab.get (fun _ => 0) t p.2 + p.1)
    (s.countSat g e, { c with zeroN := c.zeroN + 1, zero := e.codes.zipIdx.foldl add c.zero })) (s, c)

/-- The exact value of a column of an evaluation (R276, R278, R279): a data column from the weight store, a checksum column from the
latches, a reference column from its fixed pattern. -/
def Arr17.exactCol (r : Arr17) (c : CalRun) (xs : List Nat) (j : Nat) : Int :=
  (xs.zipIdx.map fun (x, row) =>
    let w : Int :=
      if j < 256 then
        let p := Tab.get (fun _ => (0, 0)) c.store (row * 260 + j)
        (p.1 : Int) - p.2
      else if j < 258 then r.sum row (j - 256)
      else if j = 258 then (row % 16 : Nat) else -((15 - row % 16 : Nat) : Int)
    (x : Int) * w).sum

/-- A sample joins the sums of its column and segment. -/
def CalRun.addSample (c : CalRun) (j : Nat) (code y : Int) : CalRun :=
  let key := j * 8 + if j < 256 then ((code + 512) / 128).toNat else 0
  let f : FitSum := Tab.get (fun _ => {}) c.fits key
  let f : FitSum := { n := f.n + 1, c := f.c + code, y := f.y + y, cy := f.cy + code * y, yy := f.yy + y * y }
  { c with fits := Tab.set (fun _ => {}) c.fits key f }

/-- Operations of round `k` (1 to 4): the four auxiliary columns of each, and the round's 64 data columns of the first `most` that count
together: six of a swath, which take the matrix unit's 768 clocks, or a bring-up's 150 of a round (R279, R295). -/
def State.calRound (s : State) (g a k most : Nat) (c : CalRun) (ops : List (List (Nat × Int))) : State × CalRun :=
  ops.foldl (fun (s, c) dev =>
    let (s, xs, c) := s.calVector g a c
    let e := s.calEval g a (s.get (F.TSK_CONV_CFG_RANGE g a)) c xs dev
    let done := if c.taken.1 = s.swath then c.taken.2 else 0
    let data := if done < most then (List.range 64).map (· + 64 * (k - 1)) else []
    let c := (data ++ [256, 257, 258, 259]).foldl (fun (c : CalRun) j =>
      if j < 256 ∧ s.colEnabled g a j = false then c else c.addSample j (e.codes.getD j 0) ((s.arr g a).exactCol c e.inputs j)) c
    (s.countSat g e, { c with taken := (s.swath, done + 1) })) (s, c)

/-- The read-back with which round `k` begins (R278): the levels of its 64 data columns are kept as sensed; a row whose levels do not add up
to its latches waits for a repair rewrite and is driven at level 0 from then on, and what was measured before is left out of the fit. -/
def State.readBack (s : State) (g a k : Nat) (c : CalRun) (sensed : List (Nat × Nat × Nat × Nat)) : State × CalRun :=
  let r := s.arr g a
  let seen := sensed.foldl (fun r (row, j, p, n) => r.setPair row j (p, n)) r
  let bad := (List.range 512).filter fun row => decide (rowSums (seen.rowWeights row) ≠ (r.sum row 0, r.sum row 1)) && !c.bad.contains row
  (bad.foldl (fun s row => s.queueRepair g a row) s,
    { c with store := seen.cells.filter fun p => decide (64 * (k - 1) ≤ p.1 % 260 ∧ p.1 % 260 < 64 * k), taken := (0, 0), bad := c.bad ++ bad,
             fits := if bad.isEmpty then c.fits else [] })

/-! ### The row test (R282, step 4) -/

/-- The next free spare drives a row; `false` where all eight are in use. -/
def State.useSpare (s : State) (g a row : Nat) : State × Bool :=
  match (List.range 8).find? fun k => !bitOf (s.spare g a k) 15 with
  | none => (s, false)
  | some k =>
    let i := 0x4A + k / 2
    let w := s.trim g a i
    let v := row + 0x8000
    ((s.setTrim g a i (if k % 2 = 0 then w / 2 ^ 16 * 2 ^ 16 + v else w % 2 ^ 16 + v * 2 ^ 16)).countSpares g a, true)

/-- A driver is off by more than 2 % on a reference column in which its row has a weight. -/
def driverOff (row : Nat) (outA outB : Int) : Bool :=
  let off (w : Int) (out : Int) : Bool := decide (w ≠ 0 ∧ 2 * (64 * 15 * w).natAbs < 100 * (out - 64 * 15 * w).natAbs)
  off (row % 16 : Nat) outA || off (-((15 - row % 16 : Nat) : Int)) outB

/-- Row tests in order: a driver that is off gives way to the next spare; `false` once more than eight are needed (R282, R284). -/
def State.rowTests (s : State) (g a : Nat) : List (Nat × Int × Int) → State × Bool
  | [] => (s, true)
  | (row, x, y) :: rest =>
    if driverOff row x y then
      match s.useSpare g a row with
      | (s, true) => s.rowTests g a rest
      | (s, false) => (s, false)
    else s.rowTests g a rest

/-! ### Solving for the codes (R283) -/

/-- The nearest whole number, halves upwards. -/
def roundQ (x : ℚ) : Int := (x + 1 / 2).floor

/-- The median: the mean of the middle two. -/
def medianQ (l : List ℚ) : ℚ :=
  let l := l.mergeSort fun x y => decide (x ≤ y)
  (l.getD ((l.length - 1) / 2) 0 + l.getD (l.length / 2) 0) / 2

/-- The sums of a column's segment. -/
def CalRun.fit (c : CalRun) (j seg : Nat) : FitSum := Tab.get (fun _ => {}) c.fits (j * 8 + seg)

/-- The zero-stage offset of a column in 1/16 LSB: the mean code. -/
def CalRun.offset16 (c : CalRun) (j : Nat) : Int :=
  if c.zeroN = 0 then 0 else roundQ (16 * ((Tab.get (fun _ => 0) c.zero j : Int) : ℚ) / c.zeroN)

/-- The gain of a column through its measured offset, for exact values in units of `lsb`; none without a sample above zero. -/
def CalRun.gain (c : CalRun) (j : Nat) (lsb : ℚ) : Option ℚ :=
  let fs := (List.range 8).map (c.fit j)
  let yy : ℚ := (fs.map FitSum.yy).sum
  if yy = 0 then none
  else some ((((fs.map FitSum.cy).sum : ℚ) - (c.offset16 j : ℚ) / 16 * (fs.map FitSum.y).sum) * lsb / yy)

/-- Samples of a segment and the sum of their residuals c - a · y - b. -/
def CalRun.residual (c : CalRun) (j seg : Nat) (a lsb : ℚ) : Nat × ℚ :=
  let f := c.fit j seg
  (f.n, (f.c : ℚ) - a * f.y / lsb - (c.offset16 j : ℚ) / 16 * f.n)

/-- The residual that a segment takes: its own, or that of the nearest segment with 16 samples or more, the lower of two; 0 with none. -/
def pooled (rs : List (Nat × ℚ)) (seg : Nat) : ℚ :=
  let able := (List.range 8).filter fun k => decide (16 ≤ (rs.getD k (0, 0)).1)
  match able with
  | [] => 0
  | k :: rest =>
    let k := rest.foldl (fun b k => if max k seg - min k seg < max b seg - min b seg then k else b) k
    (rs.getD k (0, 0)).2 / (rs.getD k (0, 0)).1

/-- A table word from its gain and its offset, each held within its field (R87). -/
def tableWordOf (gain offset : Int) : Nat := (clampInt 0 65535 gain).toNat * 65536 + unsgn 16 (clampInt (-32768) 32767 offset)

/-- A candidate: gain codes, ladder taps, table words by column and segment, and the failed columns. -/
structure Candidate where
  gains : List (Nat × Nat) := []
  taps : List (Nat × Nat) := []
  words : List (Nat × Nat × Nat) := []
  failed : List Nat := []
  deriving DecidableEq, Repr

/-- The candidate of one data converter (R283, R284). A column without a sample above zero keeps its code and words. Log entry 37
(DESIGN CHOICE). -/
def State.solveConverter (s : State) (g a : Nat) (c : CalRun) (m : Nat) : Candidate :=
  let lsb : ℚ := delta (s.get (F.TSK_CONV_CFG_RANGE g a))
  let cols := (List.range 8).filterMap fun q => (c.gain (m + 32 * q) lsb).map fun x => (m + 32 * q, x)
  if cols.isEmpty then {}
  else
    let tap : Nat := s.trimByte g a (0x41 + m / 4) (m % 4) % 32
    let tnew := clampInt 0 31 (tap + roundQ ((medianQ (cols.map Prod.snd) - 1) * 200))
    let kt : ℚ := (1 + ((tap : ℚ) - 16) / 200) / (1 + ((tnew : ℚ) - 16) / 200)
    let rs := (List.range 8).map fun k =>
      cols.foldl (fun (p : Nat × ℚ) x => let r := c.residual x.1 k x.2 lsb; (p.1 + r.1, p.2 + r.2)) (0, 0)
    let one (x : Nat × ℚ) : Candidate :=
      let (j, aj) := x
      let gain : Nat := s.trimByte g a (j / 4) (j % 4) % 64
      let raw : Int := gain - roundQ ((aj * kt - 1) * 400)
      let gnew := clampInt 0 63 raw
      let kg : ℚ := (1 + ((gnew : ℚ) - 32) / 400) / (1 + ((gain : ℚ) - 32) / 400)
      let a2 := aj * kt * kg
      let b2 := (c.offset16 j : ℚ) / 16 * kt
      let word (k : Nat) : Nat :=
        tableWordOf (roundQ (16384 / a2)) (roundQ (64 * (-512 + 128 * (k : ℚ) - b2 - kt * pooled rs k) / a2))
      { gains := [(j, gnew.toNat)], words := (List.range 8).map fun k => (j, k, word k), failed := if gnew = raw then [] else [j] }
    let all := cols.map one
    { gains := all.flatMap Candidate.gains, taps := [(m, tnew.toNat)], words := all.flatMap Candidate.words,
      failed := all.flatMap Candidate.failed }

/-- The table word of an auxiliary column: one gain and one offset, in units of Δ / 2 (R283). Log entry 37 (DEDUCED). -/
def State.solveAux (s : State) (g a : Nat) (c : CalRun) (j : Nat) : List (Nat × Nat × Nat) :=
  let lsb : ℚ := (delta (s.get (F.TSK_CONV_CFG_RANGE g a)) : ℚ) / 2
  match c.gain j lsb with
  | none => []
  | some x =>
    let (n, r) := c.residual j 0 x lsb
    [(j, 0, tableWordOf (roundQ (16384 / x)) (roundQ ((-((c.offset16 j : ℚ) / 16) - r / n) / x)))]

/-- The candidate of an array. -/
def State.solve (s : State) (g a : Nat) (c : CalRun) : Candidate :=
  let all := (List.range 32).map (s.solveConverter g a c)
  { gains := all.flatMap Candidate.gains, taps := all.flatMap Candidate.taps, failed := all.flatMap Candidate.failed,
    words := all.flatMap Candidate.words ++ ([256, 257, 258, 259].flatMap (s.solveAux g a c)) }

/-- A candidate's codes and table words loaded into an array (R282, step 6). -/
def State.loadCandidate (s : State) (g a : Nat) (x : Candidate) : State :=
  let s := x.gains.foldl (fun s p => s.setTrimByte g a (p.1 / 4) (p.1 % 4) p.2) s
  let s := x.taps.foldl (fun s p => s.setTrimByte g a (0x41 + p.1 / 4) (p.1 % 4) p.2) s
  x.words.foldl (fun (s : State) p =>
    { s with mem := Memory.writeN s.mem (tableBase g + a * 0x2080 + p.1 * 0x20 + p.2.1 * 4) (leBytes 4 p.2.2) }) s

/-- Failed columns are recorded (R284). -/
def State.colFails (s : State) (g a : Nat) (cols : List Nat) : State :=
  cols.foldl (fun s c => (((s.brkFault g (F.BRK_STATUS_COL_FAIL g)).set (F.BRK_LAST_FAIL_ARRAY g) a).set (F.BRK_LAST_FAIL_COLUMN g) c).set
    (F.BRK_LAST_FAIL_VALID g) 1) s

/-! ### Verification (R285) -/

/-- Operations of the verify stage. -/
def State.calVerify (s : State) (g a : Nat) (c : CalRun) (ops : List (List (Nat × Int))) : State × CalRun :=
  ops.foldl (fun (s, c) dev =>
    let (s, xs, c) := s.calVector g a c
    let range := s.get (F.TSK_CONV_CFG_RANGE g a)
    let e := s.calEval g a range c xs dev
    let e := { e with vals := s.valuesOf g e }
    let (x, y) := e.residuals
    let err (j : Nat) : Int := e.vals.getD j 0 * delta range - 2 * (s.arr g a).exactCol c e.inputs j
    (s.countSat g e, { c with verN := c.verN + 1, plain := c.plain + (x + y), alt := c.alt + (x - y),
                              worst := max c.worst (x + y).natAbs, refA := c.refA + err 258, refB := c.refB + err 259 })) (s, c)

/-- Verification passes (R285): both checksum means within 4 LSB, each reference column within 0.3 LSB, no evaluation off by more than 16
LSB. With no evaluation there is no mean, and it does not pass. Log entry 37 (DESIGN CHOICE). -/
def CalRun.verified (c : CalRun) (range : Nat) : Bool :=
  decide (c.verN ≠ 0 ∧ c.plain.natAbs ≤ 256 * c.verN ∧ c.alt.natAbs ≤ 256 * c.verN ∧ c.worst ≤ 1024 ∧
    10 * c.refA.natAbs ≤ 6 * delta range * c.verN ∧ 10 * c.refB.natAbs ≤ 6 * delta range * c.verN)

/-! ### The reference generator (R294) -/

/-- The middle one of the array's 33 ladder taps. -/
def State.medianTap (s : State) (g a : Nat) : Nat :=
  (((List.range 33).map fun m => s.trimByte g a (0x41 + m / 4) (m % 4)).mergeSort fun x y => decide (x ≤ y)).getD 16 0

/-- The median zero-stage offset of the array's columns, in 1/32 LSB. -/
def CalRun.medianOffset (c : CalRun) : Int :=
  let l := ((List.range 260).map c.offset16).mergeSort fun x y => decide (x ≤ y)
  l.getD 129 0 + l.getD 130 0

/-- The derived codes HI, LO and CM (R280, R294): HI and LO together give the gain that the median ladder tap gives beyond tap 16, of which HI
takes an open part; CM is open. Log entry 3 (DESIGN CHOICE). Log entry 37 (DESIGN CHOICE). -/
def State.genDerived (s : State) (g a : Nat) (c : CalRun) : Nat × Nat × Nat :=
  let r := (s.tuss g).refCodes
  let d := Config.genDerived (s.medianTap g a) c.medianOffset r
  let step (up : Bool) (x : Nat) : Int := if up then (x : Int) - 0x800 else 0x800 - (x : Int)
  let all : Int := roundQ (((16384 + step Config.refHiUp r.1 + step Config.refLoUp r.2.1 : Int) : ℚ) * 200 / (184 + s.medianTap g a : Nat)) - 16384
  let lo : Int := all - step Config.refHiUp d.1.toNat
  (d.1.toNat, (clampInt 0 4095 (if Config.refLoUp then 0x800 + lo else 0x800 - lo)).toNat, d.2.toNat)

/-- A generator code one step towards another. -/
def stepTo (x y : Nat) : Nat := if x < y then x + 1 else if y < x then x - 1 else x

/-- The generator set of the trim point within 5 °C of TEMP takes the derived codes, and the generator applies it at once, at the boundary
that ends the window (R294). -/
def State.updateGen (s : State) (g : Nat) (d : Nat × Nat × Nat) : State :=
  let temp := s.get (F.TSK_RESTORE_TEMP_TEMP g)
  match (List.range 4).find? fun p => decide (tempGap temp (15 + 30 * p) ≤ 5) with
  | none => s
  | some p =>
    let ((hi, lo, cm), valid) := s.genSet g p
    let (hi, lo, cm) := if valid then (stepTo hi d.1, stepTo lo d.2.1, stepTo cm d.2.2) else d
    let s := (s.setTrim g 17 (2 * p) (hi + lo * 2 ^ 12)).setTrim g 17 (2 * p + 1) (cm + 2 ^ 8)
    s.updTuss g fun t => { t with refCodes := s.genCodes g temp }

end Sys2Proof.Machine
end

