-- ==== Sys2Proof/Machine/Sha3.lean ====
section
/-! DEFINITION. SHA3-256, which R255, R326 and R437 name, and SHAKE128 and SHAKE256, on which the signatures of FIPS 204 rest: one
sponge over 25 lanes of 64 bits, lane (x, y) at place x + 5 · y. Log entry 36 (PRESUMED: FIPS 202). -/

namespace Sys2Proof.Machine
open Sys2Proof

/-- A lane rotated to the left. -/
def rotLane (v n : Nat) : Nat := v * 2 ^ (n % 64) % 2 ^ 64 + v / 2 ^ (64 - n % 64)

/-- One step of the register of 8 bits whose bit 0 gives the bits of the round constants. -/
def roundBit (r : Nat) : Nat := if 128 ≤ r then Nat.xor (r * 2 - 256) 0x71 else r * 2

/-- The constant of a round, of which only bits 2^j - 1 can be set, and the register after it. -/
def roundConst (r : Nat) : Nat × Nat :=
  (List.range 7).foldl (fun p j => (p.1 + p.2 % 2 * 2 ^ (2 ^ j - 1), roundBit p.2)) (0, r)

/-- The lanes turned and moved: on its walk from (1, 0) each lane is turned by the next triangular number and takes the place of
the walk's next lane, (x, y) being followed by (y, 2 x + 3 y); lane (0, 0) stays. -/
def walkLanes (a : List Nat) : List Nat :=
  ((List.range 24).foldl (fun (p : List Nat × Nat × Nat) t =>
    let x := p.2.2
    let y := (2 * p.2.1 + 3 * p.2.2) % 5
    (p.1.set (x + 5 * y) (rotLane (a.getD (p.2.1 + 5 * p.2.2) 0) ((t + 1) * (t + 2) / 2)), x, y)) (a, 1, 0)).1

/-- The parity of each column of lanes. -/
def laneParity (a : List Nat) : List Nat :=
  (List.range 5).map fun x => ([5, 10, 15, 20].map fun y => a.getD (x + y) 0).foldl Nat.xor (a.getD x 0)

/-- One round on the lanes and the register of the round constants. -/
def spongeRound (p : List Nat × Nat) : List Nat × Nat :=
  let ps := laneParity p.1
  let mixed := p.1.zipIdx.map fun q =>
    Nat.xor q.1 (Nat.xor (ps.getD ((q.2 + 4) % 5) 0) (rotLane (ps.getD ((q.2 + 1) % 5) 0) 1))
  let w := walkLanes mixed
  let rc := roundConst p.2
  (w.zipIdx.map fun q =>
    let row := q.2 - q.2 % 5
    let v := Nat.xor q.1 (Nat.land (2 ^ 64 - 1 - w.getD (row + (q.2 + 1) % 5) 0) (w.getD (row + (q.2 + 2) % 5) 0))
    if q.2 = 0 then Nat.xor v rc.1 else v, rc.2)

/-- The permutation of the lanes: 24 rounds. -/
def permute (a : List Nat) : List Nat := ((List.range 24).foldl (fun p _ => spongeRound p) (a, 1)).1

/-- Blocks of `rate` bytes absorbed in turn; `fuel` bounds them. -/
def absorb (rate : Nat) (a : List Nat) (bs : List Byte) : Nat → List Nat
  | 0 => a
  | fuel + 1 =>
    if bs.isEmpty then a
    else absorb rate (permute (a.zipIdx.map fun q => if 8 * q.2 < rate then Nat.xor q.1 (leNat ((bs.drop (8 * q.2)).take 8)) else q.1))
      (bs.drop rate) fuel

/-- `n` blocks of `rate` bytes squeezed out. -/
def squeeze (rate : Nat) (a : List Nat) : Nat → List Byte
  | 0 => []
  | n + 1 => (a.take (rate / 8)).flatMap (leBytes 8) ++ squeeze rate (permute a) n

/-- The sponge: `n` blocks of output for a string of bytes, `mark` the bits that end it. -/
def sponge (rate mark : Nat) (bs : List Byte) (n : Nat) : List Byte :=
  let pad := rate - bs.length % rate
  let tail := (List.range pad).map fun i =>
    BitVec.ofNat 8 ((if i = 0 then mark else 0) + if i + 1 = pad then 0x80 else 0)
  let padded := bs ++ tail
  squeeze rate (absorb rate (List.replicate 25 0) padded (padded.length / rate)) n

/-- The digest of a string of bytes, as 32 bytes. -/
def sha3 (bs : List Byte) : List Byte := (sponge 136 0x06 bs 1).take 32

/-- `n` bytes of SHAKE256. -/
def shake256 (bs : List Byte) (n : Nat) : List Byte := (sponge 136 0x1F bs ((n + 135) / 136)).take n

/-- `n` bytes of SHAKE128. -/
def shake128 (bs : List Byte) (n : Nat) : List Byte := (sponge 168 0x1F bs ((n + 167) / 168)).take n

end Sys2Proof.Machine
end

