-- ==== Sys2Proof/Machine/VecMath.lean ====
section
/-! DEFINITION. The values of VECTOR operations (R139, R145 to R147): exact rationals, functions to far more bits than a format
holds, and their rounding to the format. Log entries: 3, 33, 34. -/

namespace Sys2Proof.Machine
open Sys2Proof

/-! ### Elements -/

/-- A value of the source format as a numerator over 2^150; none for an infinity. A NaN counts as 0. Log entry 34 (DESIGN CHOICE). -/
def vecValue (fmt w : Nat) : Option Int :=
  match fmt with
  | 6 => if w % 32768 = 0x7C00 then none else (halfMag false w).getD 0
  | 7 => if w % 32768 = 0x7F80 then none else (halfMag true w).getD 0
  | 0 => some ((w : Int) * (2 ^ 150 : Nat))
  | 2 => some ((w : Int) * (2 ^ 150 : Nat))
  | f => some (sgn ((vecBits f).getD 8) w * (2 ^ 150 : Nat))

/-- The first `count` elements of a VECTOR operand. -/
def vecElems (fmt count : Nat) (bs : List Byte) : List Nat :=
  (List.range count).map fun i =>
    match (vecBits fmt).getD 8 with
    | 4 => (bs.getD (i / 2) 0).toNat / 16 ^ (i % 2) % 16
    | 8 => (bs.getD i 0).toNat
    | b => leNat ((bs.drop (i * (b / 8))).take (b / 8))

/-- A list in pieces of `n`. -/
def piecesOf {α : Type} (n : Nat) : Nat → List α → List (List α)
  | 0, _ => []
  | fuel + 1, l => if l.isEmpty then [] else l.take n :: piecesOf n fuel (l.drop n)

/-- Elements of `b` bits as bytes, 4-bit ones two to a byte with the lower in bits [3:0]. -/
def vecBytes (b : Nat) (ws : List Nat) : List Byte :=
  if b = 4 then (piecesOf 2 ws.length ws).map fun p => BitVec.ofNat 8 (p.getD 0 0 % 16 + 16 * (p.getD 1 0 % 16))
  else ws.flatMap fun w => leBytes (b / 8) w

/-! ### Rounding to a format -/

/-- The magnitude bits of the fp16 or bf16 number nearest to `num / den`, ties to even; none beyond the range. -/
def halfRound (bf : Bool) (num den : Nat) : Option Nat :=
  if num = 0 ∨ den = 0 then some 0
  else
    let fb : Nat := if bf then 7 else 10
    let low : Int := if bf then -133 else -24
    let top := if bf then 0x7F80 else 0x7C00
    let scaled (e : Int) : Int × Int :=
      if 0 ≤ e then (num, (den * 2 ^ e.toNat : Nat)) else ((num * 2 ^ (-e).toNat : Nat), den)
    let e0 : Int := (num.log2 : Int) - den.log2 - fb
    let unit : Int := (2 ^ fb : Nat)
    let e1 := if (scaled e0).1 / (scaled e0).2 < unit then e0 - 1 else e0
    let e := max e1 low
    let w := (e - low) * unit + rneDiv (scaled e).1 (scaled e).2
    if (top : Int) ≤ w then none else some w.toNat

/-- The position of the correctly rounded result among the numbers of a format, in ulp from 0; none where the result lies beyond
the range. -/
def vecRound (fmt : Nat) (num : Int) (den : Nat) : Option Int :=
  if fmt = 6 ∨ fmt = 7 then (halfRound (fmt == 7) num.natAbs den).map fun w => if num < 0 then -(w : Int) else w
  else
    let q := rneDiv num den
    let b := (vecBits fmt).getD 8
    let lo : Int := if fmt = 0 ∨ fmt = 2 then 0 else -(2 ^ (b - 1) : Nat)
    let hi : Int := if fmt = 0 ∨ fmt = 2 then 2 ^ b - 1 else 2 ^ (b - 1) - 1
    if q < lo ∨ hi < q then none else some q

/-- The word at a position, held within the finite numbers of the format. An exact zero has the sign plus. Log entry 33 (DESIGN CHOICE). -/
def vecWord (fmt : Nat) (x : Int) : Nat :=
  if fmt = 6 ∨ fmt = 7 then
    let m := min x.natAbs (if fmt = 7 then 0x7F7F else 0x7BFF)
    if x < 0 then m + 0x8000 else m
  else
    let b := (vecBits fmt).getD 8
    let lo : Int := if fmt = 0 ∨ fmt = 2 then 0 else -(2 ^ (b - 1) : Nat)
    let hi : Int := if fmt = 0 ∨ fmt = 2 then 2 ^ b - 1 else 2 ^ (b - 1) - 1
    unsgn b (clampInt lo hi x)

/-! ### Functions -/

/-- One, in the scale of an element value. -/
def vecOne : Nat := 2 ^ 150

/-- One, in the scale in which functions are computed. -/
def fixOne : Nat := 2 ^ 900

/-- e to the power x over 2^900, for an element value x between -200 and 200: the series at x / 256, then eight squarings; 1 beyond
-200, which rounds to 0 in every format. -/
def fixExp (x : Int) : Nat :=
  if x < -200 * (vecOne : Int) then 1
  else
    let y : Int := x * (2 ^ 742 : Nat)
    let t := (List.range 160).foldl (fun (p : Int × Int) n =>
      let term := p.1 * y / (((n + 1) * fixOne : Nat) : Int)
      (term, p.2 + term)) ((fixOne : Int), (fixOne : Int))
    ((List.range 8).foldl (fun (v : Int) _ => v * v / (fixOne : Int)) t.2).toNat

/-- The arc tangent of 1 / k over 2^900. -/
def fixAtan (k : Nat) : Int :=
  ((List.range 450).foldl (fun (p : Nat × Int) n =>
    let term : Int := (p.1 / (2 * n + 1) : Nat)
    (p.1 / (k * k), if n % 2 = 0 then p.2 + term else p.2 - term)) (fixOne / k, 0)).2

/-- Pi over 2^900, by Machin's formula. -/
def fixPi : Nat := (16 * fixAtan 5 - 4 * fixAtan 239).toNat

/-- The normal distribution function at an element value, over 2^900; beyond 14 it is 0 or 1 in every format. -/
def fixPhi (x : Int) : Nat :=
  if x < -14 * (vecOne : Int) then 1
  else if 14 * (vecOne : Int) < x then fixOne - 1
  else
    let y : Int := x * (2 ^ 750 : Nat)
    let sq := y * y / (2 * fixOne : Nat)
    let s := ((List.range 600).foldl (fun (p : Int × Int) n =>
      (-(p.1 * sq / (((n + 1) * fixOne : Nat) : Int)), p.2 + p.1 / (2 * n + 1))) (y, 0)).2
    let root := Nat.sqrt (2 * fixPi * fixOne)
    ((fixOne / 2 : Nat) + s * fixOne / root).toNat

/-- A function of one element as numerator and denominator; none where it has no value or one far beyond every format. -/
def vecUnary (op : Nat) (x : Int) : Option (Int × Nat) :=
  let far : Bool := decide (200 * (vecOne : Int) < x)
  match op with
  | 3 => if far then none else some ((fixExp x : Nat), fixOne)
  | 4 => if x = 0 then none else some (if x < 0 then -(vecOne : Int) else vecOne, x.natAbs)
  | 5 => if x ≤ 0 then none else some ((Nat.sqrt (vecOne * (fixOne * fixOne) / x.toNat) : Nat), fixOne)
  | 6 =>
    let e := fixExp (-2 * (x.natAbs : Int))
    some (if x < 0 then -((fixOne : Int) - e) else (fixOne : Int) - e, fixOne + e)
  | 7 => some (x * (fixPhi x : Nat), vecOne * fixOne)
  | 8 => if far then some (x, vecOne) else some (x * (fixExp x : Nat), vecOne * (fixOne + fixExp x))
  | _ => some (x, vecOne)

/-- An operation on one row of elements, before any scale and offset: SOFTMAX, LAYERNORM or RMSNORM. Log entry 33 (DESIGN CHOICE). -/
def vecRowOp (op : Nat) (xs : List Int) : List (Option (Int × Nat)) :=
  let n := xs.length
  let eps := Config.normEps
  let ratio (den : Nat) (x : Int) : Option (Int × Nat) := if den = 0 then none else some (x * (2 ^ 300 : Nat), den)
  match op with
  | 9 =>
    let m := xs.foldl max (xs.headD 0)
    let es := xs.map fun x => fixExp (x - m)
    es.map fun e => some ((e : Int), es.sum)
  | 10 =>
    let ds := xs.map fun x => (n : Int) * x - xs.sum
    let q := (ds.map fun d => d.natAbs ^ 2).sum
    ds.map (ratio (Nat.sqrt ((q + n ^ 3 * vecOne * eps) * 2 ^ 600 / n)))
  | _ =>
    let q := (xs.map fun x => x.natAbs ^ 2).sum
    xs.map (ratio (Nat.sqrt ((q + n * vecOne * eps) * 2 ^ 600 / n)))

/-- A result scaled and offset by element values. -/
def vecAffine (r : Option (Int × Nat)) (scale offset : Option Int) : Option (Int × Nat) :=
  match r, scale, offset with
  | some (p, q), some a, some b => some (p * a + b * (q : Int), q * vecOne)
  | _, _, _ => none

/-- All values of a list, or none where one is missing. -/
def allSome {α : Type} : List (Option α) → Option (List α)
  | [] => some []
  | some x :: l => (allSome l).map (x :: ·)
  | none :: _ => none

/-- The exact results of a VECTOR operation other than KVQUANT, element by element, none where there is no value: `xs` the source,
`ys` the parameter operand (empty for none), `row` the length of a row (R147). Log entry 33 (DESIGN CHOICE). -/
def vecExact (op row : Nat) (xs ys : List (Option Int)) : List (Option (Int × Nat)) :=
  let one : Option Int := some vecOne
  let scale (i : Nat) : Option Int := if ys.isEmpty then one else ys.getD i none
  let offset (i : Nat) : Option Int := if ys.isEmpty then some 0 else ys.getD i none
  let each (f : Option Int → Nat → Option (Int × Nat)) : List (Option (Int × Nat)) := xs.zipIdx.map fun p => f p.1 p.2
  let val (x : Option Int) : Option (Int × Nat) := x.map fun v => (v, vecOne)
  match op with
  | 0 => each fun x i => vecAffine (val x) one (offset i)
  | 1 => each fun x i => vecAffine (val x) (scale i) (some 0)
  | 2 => each fun x _ => vecAffine (val x) (scale 0) (offset 1)
  | 15 => each fun x _ => val x
  | 9 => rows fun l => vecRowOp 9 l
  | 10 => rows fun l => (vecRowOp 10 l).zipIdx.map fun p => vecAffine p.1 (scale p.2) (offset (row + p.2))
  | 11 => rows fun l => (vecRowOp 11 l).zipIdx.map fun p => vecAffine p.1 (scale p.2) (some 0)
  | op => each fun x _ => x.bind (vecUnary op)
where
  rows (f : List Int → List (Option (Int × Nat))) : List (Option (Int × Nat)) :=
    (piecesOf (max 1 row) xs.length xs).flatMap fun l => match allSome l with
      | some l => f l
      | none => l.map fun _ => none

/-- Operations whose results come from tables: within 2 ulp of the correctly rounded one (R146). -/
def vecTabled (op : Nat) : Bool := decide (3 ≤ op ∧ op ≤ 11)

/-- The bytes of the result of a VECTOR task other than KVQUANT (R146, R147): the correctly rounded results, within 2 ulp where
they come from tables; an open value where there is no result in the format. A result that is exactly zero has the sign plus. Log entries 3 and 33 (DESIGN CHOICE). -/
def vecResult (ws : List Nat) (src operand : List Byte) : List Byte :=
  let op := tfld ws 3 12 8
  let fmt := tfld ws 3 20 4
  let count := tfld ws 4 0 24
  let b := (vecBits fmt).getD 8
  let tgt := if op = 15 ∧ (vecBits (Config.convertTo (vecParam ws)).toNat).isSome then (Config.convertTo (vecParam ws)).toNat else fmt
  let value (w : Nat) : Option Int := vecValue fmt w
  let ys := if (vecOperandBlock ws).isSome then vecElems fmt (vecOperandLen ws) operand else []
  let rs := vecExact op (vecRow ws) ((vecElems fmt count src).map value) (ys.map value)
  vecBytes (vecOutBits ws b) (rs.zipIdx.map fun p =>
    match p.1.bind fun r => vecRound tgt r.1 r.2 with
    | some x => vecWord tgt (x + if vecTabled op then (((Config.vectorUlp op fmt (vecParam ws) src operand p.2).toNat % 5 : Nat) : Int) - 2 else 0)
    | none => (Config.vectorOpen op fmt (vecParam ws) src operand p.2).toNat % 2 ^ vecOutBits ws b)

end Sys2Proof.Machine
end

