-- ==== Sys2Proof/Machine/Tuft.lean ====
section
/-! DEFINITION. The Tuft's own tasks (R126 to R131, R139, R145 to R147, R311): SHADOW, MATMUL and VECTOR. Log entries: 3, 6, 11, 34. -/

namespace Sys2Proof.Machine
open Sys2Proof

/-! ### Shared parts -/

/-- The first queued task of a kind, in the queue's order, whose earliest cycle has come (R139, R141) and that reads no tensor still to
be judged (R124). Log entry 6 (DEDUCED). -/
def State.tuftTask (s : State) (g kind : Nat) : Option Task :=
  firstTask ((s.tuss g).queue.filter fun t => t.fld 0 0 4 == kind && decide (t.start ≤ s.cycleNow) &&
    !s.taskWaits g t)

/-- A task that has run to its end. -/
def State.tuftDone (s : State) (g : Nat) (t : Task) : State := (s.dequeue g t).taskDone t.job

/-- The command index of a task in its job. -/
def State.taskCmd (s : State) (g : Nat) (t : Task) : Nat := ((s.job (t.job.getD 0)).map fun j => j.tasksCmd g t.swath).getD 0

/-- Bytes that a task writes from a block of Tussock `g`'s bank on, `n` whole blocks with zeros after the last byte; a failed digital
check poisons them, and a block that the guards deny is not written (R149, R181, R183, R311). Log entry 11 (DEDUCED). -/
def State.tuftStore (s : State) (g block : Nat) (t : Task) (cmd : Nat) (bytes : List Byte) (bad : Bool) : Nat → State
  | 0 => s
  | n + 1 =>
    let a := bankAddr g block
    let old := s.block a
    let b := Block.fresh (overlay (List.replicate 256 0) 0 (bytes.take 256)) old.tid old.seq
    match s.mayAccess (chanOf g) (t.job.getD 0) cmd g true a 256 with
    | (s, false) => s
    | (s, true) =>
      let s := s.putBlock a (if bad then b.poison else b)
      let s := match t.job with
        | some id => s.provNote b.tid id none
        | none => s
      s.tuftStore g (block + 1) t cmd (bytes.drop 256) bad n

/-! ### Reading a key-value cache (R126 to R131) -/

/-- Bytes of a scale entry, and entries in a scale block (R127). -/
def kvEntry (int4 : Bool) : Nat × Nat := if int4 then (68, 3) else (20, 12)

/-- The sequence number that scale entry `e` names (R127). -/
def State.kvSeq (s : State) (g : Nat) (c : CacheRead) (e : Nat) : Nat :=
  let (size, per) := kvEntry c.int4
  leNat (s.bankBytes g (c.scaleBlock + e / per) (e % per * size) 2)

/-- A bank block becomes poisoned, where the guards allow its Tussock to write it (R129, R183). -/
def State.poisonBank (s : State) (g : Nat) (t : Task) (block : Nat) : State :=
  match s.mayAccess (chanOf g) (t.job.getD 0) (s.taskCmd g t) g true (bankAddr g block) 256 with
  | (s, false) => s
  | (s, true) => s.putBlock (bankAddr g block) (s.block (bankAddr g block)).poison

/-- The record of a tensor gets INVALID (R129). -/
def State.setInvalid (s : State) (g : Nat) (t : Task) (record : Nat) : State :=
  let fl := leAt (Memory.readN s.mem record 32) 0x0B 1
  (s.putRecord (t.job.getD 0) (s.taskCmd g t) g (record + 0x0B) (leBytes 1 (if bitOf fl 3 then fl else fl + 8))).1

/-- The data blocks of a cache read paired with their scale entries (R129): the first that differs poisons both blocks,
marks the record and ends the job with "scale skew". Answers whether all pairs agree. -/
def State.kvPairs (s : State) (g : Nat) (t : Task) (c : CacheRead) : Nat → State × Bool
  | 0 => (s, true)
  | k + 1 =>
    let i := c.count - (k + 1)
    let e := c.entry + i
    if s.kvSeq g c e = (s.block (bankAddr g (c.block + i))).seq then s.kvPairs g t c k
    else
      let s := (s.poisonBank g t (c.block + i)).poisonBank g t (c.scaleBlock + e / (kvEntry c.int4).2)
      ((s.setInvalid g t c.record).jobFail (t.job.getD 0) 0x0D (s.taskCmd g t) g, false)

/-- A task's read of a cache (R129 to R131): its tensor record first, then the blocks of the scale stream and of the data
with their checks, then the pairs. All block checks come before the sequence numbers of any pair (R129 gives no order). Log entry 34 (DESIGN CHOICE). -/
def State.readCache (s : State) (g : Nat) (t : Task) (cache : Option CacheRead) : State × Bool :=
  match cache with
  | none => (s, true)
  | some c =>
    let id := t.job.getD 0
    let cmd := s.taskCmd g t
    match s.readBytes (chanOf g) id cmd g c.record 32 with
    | (s, none) => (s, false)
    | (s, some r) =>
      if bitOf (leAt r 0x0B 1) 3 then (s.jobFail id 0x0E cmd g, false)
      else
        match s.taskBlocks g t c.block c.count [] with
        | (s, none) => (s, false)
        | (s, some _) =>
          match s.taskBlocks g t c.scaleBlock (if c.count = 0 then 0 else (c.entry + c.count - 1) / (kvEntry c.int4).2 + 1) [] with
          | (s, none) => (s, false)
          | (s, some _) => (s.learnRec (s.block (bankAddr g c.block)).tid c.record).kvPairs g t c c.count

/-! ### SHADOW -/

/-- Exact values of the kept columns from digital weights: one row of `cols` bytes per dot-product row (R139). -/
def shadowValues (cols : Nat) (inputs : List Nat) (ws : List Byte) : List Int :=
  (List.range cols).map fun j =>
    (inputs.zipIdx.map fun (x, i) => (x : Int) * sgn 8 (ws.getD (i * cols + j) 0).toNat).sum

/-- Input values of a SHADOW task: the levels that the rows are driven with, or with 8-bit inputs the two phases' levels combined
(R104, R105, R139). -/
def shadowInputs (signed two : Bool) (bs : List Byte) : List Nat :=
  if two then (levels8 signed false bs).zipWith (fun a b => 16 * a + b) (levels8 signed true bs) else levels4 signed bs

/-- A SHADOW task (R139, R311): a first failed digital check runs it once more, the
second failure quarantines the Tussock. Log entry 6 (DEDUCED). -/
def State.shadowTask (s : State) (g : Nat) (t : Task) (ecc : List Ecc) (fails : Nat) : State :=
  let two := t.fld 0 6 1 == 1
  let n := gangOf (t.fld 0 4 2)
  let nin := n * (1 + t.fld 0 6 1)
  let cols := t.fld 3 8 9
  match s.operands g t (t.fld 2 8 12) nin ecc with
  | (s, none) => s.dequeue g t
  | (s, some bs) =>
    match s.operands g t (t.fld 4 0 12) (blocksOf (512 * n * cols)) (ecc.drop nin) with
    | (s, none) => s.dequeue g t
    | (s, some ws) =>
      let s := s.tuftDone g t
      let s := s.digErrors g fails
      if fails = 2 then s
      else s.updTuss g fun u => { u with shadow := shadowValues cols (shadowInputs (t.fld 0 18 1 == 1) two bs) ws }

/-! ### MATMUL -/

/-- An element of a MATMUL operand of `b` bytes an element. Log entry 3 (DESIGN CHOICE). -/
def matElem (b op rows cols i j : Nat) (bs : List Byte) : Int :=
  sgn (8 * b) (leNat ((bs.drop (Config.matIndex op rows cols i j * b)).take b))

/-- The accumulator of element (i, j): exact within int32 (R145). Log entry 3 (DESIGN CHOICE). -/
def matAcc (b m n k : Nat) (as_ bs cs : List Byte) (accum : Bool) (i j : Nat) : Nat :=
  let x := ((List.range k).map fun l => matElem b 0 m k i l as_ * matElem b 1 k n l j bs).sum +
    (if accum then matElem 4 2 m n i j cs else 0)
  if (sat32 x).2 then (Config.accOverflow x).toNat else unsgn 32 x

/-- The bytes of C. -/
def matResult (b m n k : Nat) (as_ bs cs : List Byte) (accum : Bool) : List Byte :=
  ((List.range m).flatMap fun i => (List.range n).map fun j => (i, j)).foldl
    (fun out (i, j) => (overlay out (Config.matIndex 2 m n i j * 4) (leBytes 4 (matAcc b m n k as_ bs cs accum i j))).take
      (m * n * 4))
    (List.replicate (m * n * 4) 0)

/-- A MATMUL task (R139, R145, R311). -/
def State.matmulTask (s : State) (g : Nat) (t : Task) (ecc : List Ecc) (cache : Option CacheRead) (dig : Bool) : State :=
  let b := if t.fld 3 24 2 = 0 then 1 else 2
  let m := 16 * t.fld 4 0 8
  let n := 16 * t.fld 4 8 8
  let k := 16 * t.fld 4 16 12
  let accum := t.fld 3 26 1 == 1
  let na := blocksOf (m * k * b)
  let nb := blocksOf (k * n * b)
  match s.readCache g t cache with
  | (s, false) => s.dequeue g t
  | (s, true) =>
    match s.operands g t (t.fld 2 8 12) na ecc with
    | (s, none) => s.dequeue g t
    | (s, some as_) =>
      match s.operands g t (t.fld 3 0 12) nb (ecc.drop na) with
      | (s, none) => s.dequeue g t
      | (s, some bs) =>
        match s.operands g t (t.fld 3 12 12) (if accum then blocksOf (m * n * 4) else 0) (ecc.drop (na + nb)) with
        | (s, none) => s.dequeue g t
        | (s, some cs) =>
          let s := s.tuftStore g (t.fld 3 12 12) t (s.taskCmd g t) (matResult b m n k as_ bs cs accum) dig (blocksOf (m * n * 4))
          (if dig then s.digError g else s).tuftDone g t

/-! ### VECTOR -/

/-- The fp16 word of a group's scale (R128): `maxabs / qmax` rounded towards plus infinity, `maxabs` over 2^150; none
beyond the fp16 range. -/
def kvScale (maxabs qmax : Nat) : Option Nat :=
  let u := (maxabs * 2 ^ 24 + qmax * 2 ^ 150 - 1) / (qmax * 2 ^ 150)
  let w := if u < 2048 then u
    else
      let e := u.log2 - 10
      e * 1024 + (u + 2 ^ e - 1) / 2 ^ e
  if 0x7C00 ≤ w then none else some w

/-- The value of a finite positive fp16 word in units of 2^-24. -/
def fp16Units (w : Nat) : Nat := if w < 1024 then w else (1024 + w % 1024) * 2 ^ (w / 1024 - 1)

/-- A cache group: its scale word and codes (R128); none where it holds an infinity or its scale is beyond the fp16 range. A short last
group takes its scale from the elements it has. Log entry 34 (DESIGN CHOICE). -/
def kvGroup (int4 : Bool) (vs : List (Option Int)) : Option (Nat × List Nat) :=
  let qmax := if int4 then 7 else 127
  let xs := vs.filterMap id
  if xs.length ≠ vs.length then none
  else match kvScale ((xs.map Int.natAbs).foldl max 0) qmax with
    | none => none
    | some w => some (w, xs.map fun v =>
        unsgn (if int4 then 4 else 8) (if w = 0 then 0 else rneDiv (v * (2 ^ 24 : Nat)) ((fp16Units w * 2 ^ 150 : Nat) : Int)))

/-- Codes as bytes, two to a byte with the lower element in bits [3:0] in the int4 form (R126). -/
def packCodes (int4 : Bool) (cs : List Nat) : List Byte :=
  if int4 then (piecesOf 2 cs.length cs).map fun p => BitVec.ofNat 8 (p.getD 0 0 + 16 * p.getD 1 0) else cs.map (BitVec.ofNat 8)

/-- A scale block with entry number `entry` of the stream laid into it and its unused end at 0 (R127): the block as it is read for use,
or zeros where the entry is its first. -/
def State.scaleBlock (s : State) (g sb entry : Nat) (t : Task) (int4 : Bool) (e : List Byte) : State × Option (List Byte) :=
  let (size, per) := kvEntry int4
  let lay (old : List Byte) : List Byte := (overlay old (entry % per * size) e).take (per * size) ++ List.replicate (256 - per * size) 0
  if entry % per = 0 then (s, some (lay (List.replicate 256 0)))
  else match s.taskBlocks g t sb 1 [] with
    | (s, none) => (s, none)
    | (s, some old) => (s, some (lay old))

/-- One data block of a KVQUANT with its scale entry (R127, R128), and the rest by recursion over the blocks; a group
beyond the fp16 range ends the job with "scale range". Log entry 11 (DEDUCED). -/
def State.kvWrite (s : State) (g dst scale entry : Nat) (t : Task) (int4 dig : Bool) : List (List (Option Int)) → State × Bool
  | [] => (s, true)
  | vs :: rest =>
    let groups := (piecesOf (if int4 then 16 else 32) 32 vs).map (kvGroup int4)
    let cmd := s.taskCmd g t
    if groups.any Option.isNone then (s.jobFail (t.job.getD 0) 0x0B cmd g, false)
    else
      let gs := groups.filterMap id
      let e := leBytes 2 (s.block (bankAddr g dst)).seq ++ leBytes 2 0 ++ gs.flatMap fun p => leBytes 2 p.1
      let sb := scale + entry / (kvEntry int4).2
      match s.scaleBlock g sb entry t int4 (e ++ List.replicate ((kvEntry int4).1 - e.length) 0) with
      | (s, none) => (s, false)
      | (s, some b) =>
        let s := s.tuftStore g dst t cmd (packCodes int4 (gs.flatMap fun p => p.2)) dig 1
        let s := s.tuftStore g sb t cmd b dig 1
        s.kvWrite g (dst + 1) scale (entry + 1) t int4 dig rest

/-- KVQUANT (R128, R147); bytes of the last data block beyond COUNT elements are 0. Log entry 34 (DESIGN CHOICE). -/
def State.kvQuant (s : State) (g : Nat) (t : Task) (src : List Byte) (dig : Bool) : State :=
  let param := vecParam t.words
  let int4 := Config.kvInt4 param
  let fmt := t.fld 3 20 4
  let vs := (vecElems fmt (t.fld 4 0 24) src).map (vecValue fmt)
  let (s, ok) := s.kvWrite g (t.fld 3 0 12) (Config.kvScaleBlock param).toNat (Config.kvScaleEntry param) t int4 dig
    (piecesOf (if int4 then 512 else 256) vs.length vs)
  if ok then (if dig then s.digError g else s).tuftDone g t else s.dequeue g t

/-- A digital check watches a VECTOR operation (R310): an integer path, or a function table; floating-point operations are not checked. -/
def vecChecked (op fmt : Nat) : Bool := (fmt != 6 && fmt != 7) || vecTabled op

/-- A VECTOR task (R139, R146, R147, R310, R311). Log entry 3 (DESIGN CHOICE). -/
def State.vectorTask (s : State) (g : Nat) (t : Task) (ecc : List Ecc) (cache : Option CacheRead) (dig : Bool) : State :=
  let op := t.fld 3 12 8
  let fmt := t.fld 3 20 4
  let dig := dig && vecChecked op fmt
  let n := (t.fld 4 0 24 * (vecBits fmt).getD 8 + 7) / 8
  match s.readCache g t cache with
  | (s, false) => s.dequeue g t
  | (s, true) =>
    match s.operands g t (t.fld 2 8 12) (blocksOf n) ecc with
    | (s, none) => s.dequeue g t
    | (s, some src) =>
      if op = 14 then s.kvQuant g t src dig
      else
        let b := (vecBits fmt).getD 8
        let m := (vecOperandLen t.words * b + 7) / 8
        match s.operands g t ((vecOperandBlock t.words).getD 0)
            (if (vecOperandBlock t.words).isSome then blocksOf m else 0) (ecc.drop (blocksOf n)) with
        | (s, none) => s.dequeue g t
        | (s, some operand) =>
          let s := s.tuftStore g (t.fld 3 0 12) t (s.taskCmd g t) (vecResult t.words (src.take n) (operand.take m)) dig
            (vecOutBlocks t.words b)
          (if dig then s.digError g else s).tuftDone g t

/-! ### The commands -/

/-- The lane's own SHADOW task of a check slot (R306, R311): what its checks find; its values stand with the check. -/
def State.laneShadow (s : State) (g fails : Nat) : State :=
  if (s.tuss g).lanes.any fun p => p.2.check.any fun c => !c.exact.isEmpty then s.digErrors g fails else s

/-- `SHADOW` (R139): the task that is due, or the lane's own. -/
def execShadow (g : Tsk) (ecc : List Ecc) (fails : Fin 3) (s : State) : Host.Outcome State Fault Refusal :=
  .next (s.ifT g fun s => match s.tuftTask g 1 with
    | some t => s.shadowTask g t ecc fails
    | none => s.laneShadow g fails)

/-- `MATMUL` (R139). -/
def execMatmul (g : Tsk) (ecc : List Ecc) (cache : Option CacheRead) (digFail : Bool) (s : State) :
    Host.Outcome State Fault Refusal :=
  .next (s.ifT g fun s => match s.tuftTask g 2 with
    | some t => s.matmulTask g t ecc cache digFail
    | none => s)

/-- `VECTOR` (R147). -/
def execVector (g : Tsk) (ecc : List Ecc) (cache : Option CacheRead) (digFail : Bool) (s : State) :
    Host.Outcome State Fault Refusal :=
  .next (s.ifT g fun s => match s.tuftTask g 3 with
    | some t => s.vectorTask g t ecc cache digFail
    | none => s)

end Sys2Proof.Machine
end

