-- ==== Sys2Proof/Machine/Gorse.lean ====
section
/-! DEFINITION. Gorse (R299 to R329): check slots and comparisons, arbitration, repair, tokens, the check fraction and
horizon, and replica groups. Log entries: 7, 30. -/

namespace Sys2Proof.Machine
open Sys2Proof

/-! ### Check slots (R305 to R308, R313) -/

/-- No job holds or has used cycle `c` of the current swath on these arrays. -/
def State.cycleFree (s : State) (g c : Nat) (ms : List Nat) : Bool :=
  ms.all fun a => !(s.tuss g).used.contains (a, s.swath * 256 + c) && !(s.tuss g).passed.contains (a, s.swath * 256 + c) &&
    !s.jobs.any fun j => j.placed.any fun p =>
      p.g == g && s.placedArr p == a && p.swath == s.swath && p.cycle == c

/-- A cycle of these arrays that no job holds and in which none of them does anything (R46, R313, R318, R331). -/
def State.cycleSpare (s : State) (g c : Nat) (ms : List Nat) : Bool :=
  !isRestoreSlot g s.swath c && s.cycleFree g c ms && ms.all fun a => !s.writeHolds g a (s.swath * 256 + c)

/-- An earlier evaluation's inputs evaluate again on the arrays that its slot maps to now (R47, R306). -/
def State.again (s : State) (g : Nat) (e : Evl) (kind : EvalKind) (c : Nat) : Evl :=
  let ms := s.gangMembers g e.slot (gangOf (tfld e.task 0 4 2))
  let a := ms.headD 0
  let e : Evl := { e with kind := kind, job := none, arr := a, members := ms, swath := s.swath, cycle := c,
                          range := s.get (F.TSK_CONV_CFG_RANGE g a), codes := [], vals := [], sat := [], poison := [] }
  s.sampled g e

/-- A re-run can take place in cycle `c`: every member is VALID, no array of the gang is paused in a row write or does anything
else in the cycle (R46, R56, R99), a reserve inside the span being written among them (R51), and Bracken does not hold that reserve (R306).
Log entry 7 (DESIGN CHOICE on a reserve under a row write that is not a Bracken window's). -/
def State.canRerun (s : State) (g c : Nat) (e : Evl) : Bool :=
  let ms := s.gangMembers g e.slot (gangOf (tfld e.task 0 4 2))
  let x := s.swath * 256 + c
  ms.all (fun a => s.arrState g a == aVALID && (s.rowUnder g a x).isNone) && s.gangValid g ms && !s.arraysBusy g ms x &&
    !((spanOthers ms).contains (s.reserveOf g) && (s.tuss g).window.any fun w => w.kind != .inPlace && decide (w.start ≤ s.swath))

/-- The sample of a check slot (R306): the latest evaluation of the slot that latched three cycles before it or earlier, or the held
one; none once it is decided. A slot evaluates once in a cycle at most, so that four evaluations always hold that one. -/
def SlotLane.choose (l : SlotLane) (now : Nat) : SlotLane :=
  match l.recent.find? fun e => decide (e.time + 96 ≤ now) with
  | some e =>
    let new : Bool := match l.sample with
      | some x => !(x.swath == e.swath && x.cycle == e.cycle && x.phase == e.phase && x.task == e.task)
      | none => true
    if new then { l with sample := some e, decided := false } else l
  | none => l

/-- Routine sampling in a check slot of slot `k` (R306). -/
def State.sampleSlot (s : State) (g k c : Nat) : State :=
  let s := s.updLane g k fun l => l.choose (s.swath * 8192 + c * 32)
  let l := s.lane g k
  match l.sample with
  | none => s
  | some e =>
    if l.decided then s
    else
      let skip := !s.canRerun g c e
      let s := s.updTuss g fun t => { t with checkAt := some (s.swath * 256 + c) }
      let s := s.incMod (F.GRS_LANE_CNT_CHECKS g)
      let s := s.updLane g k fun l => { l with check := some { sample := e, skipRerun := skip, exact := s.exactShadow g e } }
      if skip then s else s.latch g (s.again g e .rerun c) (tfld e.task 0 4 2)

/-- A check slot that serves the arbitration of its slot: the next vector is run again (R313). -/
def State.arbSlot (s : State) (g c : Nat) (x : Arb) : State :=
  match x.trig.vecs[x.started]? with
  | none => s
  | some e =>
    if !s.canRerun g c e then s
    else
      let s := s.updTuss g fun t => { t with checkAt := some (s.swath * 256 + c) }
      let s := s.incMod (F.GRS_LANE_CNT_CHECKS g)
      let s := s.latch g (s.again g e (.arb x.started) c) (tfld e.task 0 4 2)
      s.updTuss g fun t => { t with arb := t.arb.map fun x => { x with started := x.started + 1 } }

/-- No check runs on a slot whose array is CALIBRATING or WRITING (R211, R292). -/
def State.slotQuiet (s : State) (g k : Nat) : Bool := s.arrState g (s.arrOf g k) == aCAL || s.arrState g (s.arrOf g k) == aWRITING

/-- A check slot of slot `k` (R306, R313, R331): routine sampling stops while an arbitration runs; under FRACTION 0 the arbitration uses
cycles that no job holds, and under duplication the partner gives R1. A slot that a live vector has taken serves nothing else. -/
def State.checkSlot (s : State) (g k c : Nat) : State :=
  if s.tskState g ≠ tSERVICE ∨ s.slotQuiet g k = true ∨ (s.tuss g).liveAt = some (s.swath * 256 + c) then s
  else
    let standing := isCheckAt s.fractionNow g s.swath c
    match (s.tuss g).arb with
    | some x =>
      let n := (x.trig.vecs[x.started]?.map fun e => gangOf (tfld e.task 0 4 2)).getD 1
      let free := (checkPeriod s.fractionNow).isNone && s.fractionNow != 5 && s.cycleSpare g c (s.gangMembers g k n)
      if x.trig.slot = k ∧ (standing || free) then s.arbSlot g c x else s
    | none => if standing then s.sampleSlot g k c else s

/-- The columns of two evaluations whose values differ by more than `tol` / 64 LSB. -/
def farColumns (tol : Int) (x y : List Int) : List Nat :=
  (List.range 256).filter fun j => decide (tol < (x.getD j 0 - y.getD j 0).natAbs)

/-- The comparison of slot `k`'s check (R308). -/
def State.checkCompare (s : State) (g k : Nat) : State :=
  match (s.lane g k).check with
  | none => s
  | some r =>
    if r.rerun.isNone && !r.skipRerun then s
    else
      let e := r.sample
      let bad1 := match r.rerun with
        | some x => farColumns (s.tolAgree + 64) e.vals x.vals
        | none => []
      let bad2 := (r.exact.filter fun p => offExact e.range (e.vals.getD p.1 0) p.2 s.tolAgree).map fun p => p.1
      let s := s.setIf (!bad1.isEmpty) (F.GRS_LANE_STATUS_RERUN_FAIL g) 1
      let s := s.setIf (!bad2.isEmpty) (F.GRS_LANE_STATUS_SHADOW_FAIL g) 1
      let s := s.set (F.GRS_LANE_STATUS_SHADOW_SET g) (s.get ⟨.GRS_SHADOW_MAP, g, e.arr / 4, e.arr % 4 * 8, 6⟩)
      let s := s.updLane g k fun l => { l with check := none }
      let s := if bad2.isEmpty && !r.exact.isEmpty then
          e.members.foldl (fun (s : State) a => s.updArr g a fun x =>
            { x with passed := Tab.set (fun _ => 0) x.passed ((r.exact.headD (0, 0)).1 / 4) e.time }) s
        else s
      let cols := bad1 ++ bad2.filter fun j => !bad1.contains j
      if cols.isEmpty then s else s.trigger g ⟨2, e.slot, e.arr, cols, none, [e], 1, []⟩

/-! ### Arbitration (R312 to R315) -/

/-- A queued arbitration starts. -/
def State.arbStart (s : State) (g : Nat) : State :=
  let t := s.tuss g
  match t.arb, t.arbQueue with
  | none, tr :: rest => (s.updTuss g fun t => { t with arb := some { trig := tr }, arbQueue := rest }).arbStatus g
  | _, _ => s

/-- S for a vector: the shadow set in use, and the image for the columns outside it; from the image throughout when the
shadow is recomputed (R313, R315). -/
def State.opinionS (s : State) (g : Nat) (ws : List (Nat × List RowJob)) (e : Evl) (fresh : Bool) : List Int :=
  let base := exactImage ws e
  if fresh then base
  else (s.exactShadow g e).foldl (fun l p => l.set p.1 p.2) base

/-- Y_j / 64 - exact_j / Δ of one vector, in 1/65,536 LSB. -/
def diffS (e : Evl) (vals ss : List Int) (j : Nat) : Int :=
  vals.getD j 0 * 1024 - 64 * ss.getD j 0 * ((1024 / delta e.range : Nat) : Int)

/-- Two sides agree on every involved column: the mean over the vectors lies within AGREE_TOL (R314). -/
def State.agreeCols (s : State) (cols : List Nat) (vs : List (Evl × List Int × List Int)) : Bool :=
  cols.all fun j =>
    decide ((vs.map fun (e, y, x) => diffS e y x j).sum.natAbs ≤ (s.tolAgree * 1024 * vs.length : Int))

/-- The parities that hold an involved column. -/
def paritiesOf (cols : List Nat) : List Nat := [0, 1].filter fun p => cols.any fun j => j % 2 == p

/-- The residual of a parity in 1/65,536 LSB, with the involved columns replaced by S where `ss` gives them (R314). -/
def residualWith (e : Evl) (cols : List Nat) (ss : Option (List Int)) (p : Nat) : Int :=
  let (x, y) := e.residuals
  let r := 1024 * (if p = 0 then x else y)
  match ss with
  | none => r
  | some l => r - ((cols.filter (· % 2 == p)).map fun j => diffS e e.vals l j).sum

/-- C agrees with O, or with S in the place of O (R314). -/
def State.agreeC (s : State) (g : Nat) (tr : Trigger) (ss : Option (List (List Int))) : Bool :=
  let n := tr.vecs.length
  (paritiesOf tr.cols).all fun p =>
    let x := (tr.vecs.zipIdx.map fun (e, i) => residualWith e tr.cols (ss.map fun l => l.getD i []) p).sum
    if tr.row = 1 then
      let l := s.lane g tr.slot
      let b := if p = 0 then l.baseE else l.baseO
      decide ((x - b * n).natAbs ≤ (s.tolMean * 1024 * n : Int))
    else decide (x.natAbs ≤ (s.tolEval * 1024 * n : Int))

/-- R1 of an arbitration, vector by vector (R313): the partner's values under duplication, or the re-run's. -/
def Arb.opinionR (x : Arb) : List (Option (List Int)) :=
  x.trig.vecs.zipIdx.map fun (e, i) =>
    ((x.trig.mates.find? fun m => pairOfDup m e).orElse fun _ => (x.r1.find? fun p => p.1 == i).map fun p => p.2).map Evl.vals

/-- The outcome of an arbitration (R315): 0 no fault, 1 checksum, 2 transient, 3 array wrong, 4 digital, 5 all disagree. -/
def State.outcome (s : State) (g : Nat) (ws : List (Nat × List RowJob)) (x : Arb) : Nat :=
  let tr := x.trig
  let ss := tr.vecs.map fun e => s.opinionS g ws e false
  let withS (ys : List (List Int)) (l : List (List Int)) : List (Evl × List Int × List Int) :=
    tr.vecs.zipIdx.map fun (e, i) => (e, ys.getD i [], l.getD i [])
  let os := tr.vecs.map Evl.vals
  let r1 := x.opinionR
  let so := s.agreeCols tr.cols (withS os ss)
  let co := s.agreeC g tr none
  if so then (if co then 0 else 1)
  else if s.agreeC g tr (some ss) then
    (if r1.all Option.isSome && s.agreeCols tr.cols (withS (r1.filterMap id) ss) then 2 else 3)
  else if co && s.agreeCols tr.cols (withS os (tr.vecs.map fun e => s.opinionS g ws e true)) then 4 else 5

/-- A transient error (R315): the jobs of the vectors are retracted; the fifth on one array within 131,072 swaths counts as
persistent. Answers whether it does. -/
def State.transient (s : State) (g : Nat) (tr : Trigger) : State × Bool :=
  let s := (s.inc F.GRS_ARB_CNT_TRANSIENT_CNT).retractJobs (tr.vecs.filterMap Evl.job).dedup
  let ws := ((s.arr g tr.arr).transients.filter fun w => decide (s.swath < w + 131072)) ++ [s.swath]
  (s.updArr g tr.arr fun r => { r with transients := ws }, decide (5 ≤ ws.length))

/-- What an outcome does (R315 to R318), and the outcome that is recorded. -/
def State.settle (s : State) (g : Nat) (tr : Trigger) (o : Nat) : State × Nat :=
  match o with
  | 0 => (s.inc F.GRS_EVT_CNT_FALSE_CNT, 0)
  | 1 => ((((s.inc F.GRS_ARB_CNT_CSUM_CNT).set (F.GRS_LANE_STATUS_CSUM_REFRESH g) 1).updArr g tr.arr fun r =>
      { r with refresh := 513 }), 1)
  | 2 =>
    let (s, persist) := s.transient g tr
    if persist then (s.wrongArray g tr.arr tr.slot tr.cols tr.vecs, 3) else (s, 2)
  | 3 => (s.wrongArray g tr.arr tr.slot tr.cols tr.vecs, 3)
  | 4 => (s.digError g, 4)
  | _ => ((s.gorseQuarantine g).retractTussock g (s.suspectStart g tr.arr tr.slot tr.cols), 5)

/-- GRS_ARB_LAST of an arbitration. -/
def State.arbLast (s : State) (g : Nat) (tr : Trigger) (o : Nat) : State :=
  let s := (s.set (F.GRS_ARB_LAST_ARRAY g) tr.arr).set (F.GRS_ARB_LAST_COLUMN g)
    (if tr.parity.isSome then 0x1FF else tr.cols.headD 0)
  let s := (s.set (F.GRS_ARB_LAST_PARITY g) (tr.parity.getD (tr.cols.headD 0 % 2))).set (F.GRS_ARB_LAST_TRIGGER g) tr.row
  (s.set (F.GRS_ARB_LAST_OUTCOME g) o).set (F.GRS_ARB_LAST_VALID g) 1

/-- The running arbitration is decided, once its vectors are there (R315). Log entry 7 (DEDUCED). -/
def State.arbDecide (s : State) (g : Nat) : State :=
  match (s.tuss g).arb with
  | none => s
  | some x =>
    let tr := x.trig
    if tr.vecs.length < tr.want then s
    else
      let (s, ws) := s.weightsOf g (tr.vecs.flatMap Evl.members).dedup
      let (s, o) := s.settle g tr (s.outcome g ws x)
      let s := (s.inc (F.GRS_LANE_CNT_ARB_CNT g)).arbLast g tr o
      let s := s.updLane g tr.slot fun l => if tr.vecs.any (fun e => l.sample == some e) then { l with decided := true } else l
      -- the window of the stuck test that raised it restarts (R303)
      let s := if tr.row = 1 then s.updLane g tr.slot fun l => { l with win := [] } else s
      (s.updTuss g fun t => { t with arb := none }).arbStatus g

/-! ### Checksum refresh and repair (R317 to R319) -/

/-- A complete refresh ends: residual tests resume with a new baseline. -/
def State.refreshEnd (s : State) (g a : Nat) : State :=
  if (s.arr g a).refresh ≠ 1 then s
  else
    let s := (s.updArr g a fun r => { r with refresh := 0 }).rebaseArr g a
    s.set (F.GRS_LANE_STATUS_CSUM_REFRESH g) (natOf ((List.range 17).any fun b => (s.arr g b).refresh != 0))

/-- The repair that runs, or the next one that waits. -/
def Tuss.nextRepair (t : Tuss) : Tuss :=
  match t.repair, t.wrong with
  | none, r :: rest => { t with repair := some r, wrong := rest }
  | _, _ => t

/-- Step 2 of a repair (R318, R319). -/
def State.repairPlace (s : State) (g : Nat) : State :=
  let s := s.updTuss g Tuss.nextRepair
  match (s.tuss g).repair with
  | none => s
  | some r =>
    if r.step ≠ 1 then s
    else if s.noReserve g then
      (s.brkInPlace g).updTuss g fun t => { t with repair := some { r with step := 5, inPlace := true } }
    else
      let s := match (s.tuss g).window with
        | some w => if w.kind = WinKind.inPlace then s else s.abandonWindow g
        | none => s
      let res := s.reserveOf g
      let s := s.updTuss g fun t => { t with repair := some { r with step := 2 }, abandoned := t.abandoned.filter (· != res) }
      let (s, rows) := s.rowsFor g r.arr
      (s.copyMask g r.arr res).beginWrite g res { for_ := .repair, rows := rows } (s.get (F.TSK_ARR_STATE_CONTEXT g r.arr))
        (s.get (F.TSK_CONV_CFG_RANGE g r.arr)) (s.get (F.TSK_CONV_CFG_MASK_EN g r.arr)) (s.arr g r.arr).holds

/-- The members of a vector's gang with the reserve in the place of array `bad`. -/
def State.withReserve (s : State) (g bad : Nat) (e : Evl) : List Nat := e.members.map fun a => if a = bad then s.reserveOf g else a

/-- A vector can be evaluated on the reserve in the place of array `bad`: every member is VALID, and the gang is valid (R49, R58). The
comparison of step 3 leaves out a vector that can not. Log entry 7 (DESIGN CHOICE). -/
def State.mayReplace (s : State) (g bad : Nat) (e : Evl) : Bool :=
  let ms := s.withReserve g bad e
  ms.all (fun a => s.arrState g a == aVALID) && s.gangValid g (ms.mergeSort fun x y => decide (x ≤ y))

/-- A vector evaluated on the reserve in the place of array `bad`, linearised with the reserve's table where it is the
lowest member (R50, R318). It runs only where that gang is valid (`mayReplace`). Log entry 7 (DESIGN CHOICE). -/
def State.onReserve (s : State) (g bad : Nat) (e : Evl) (dev : List (Nat × Int)) : Evl :=
  let ms := s.withReserve g bad e
  let e : Evl := { e with members := ms, arr := ms.headD 0, range := s.get (F.TSK_CONV_CFG_RANGE g (ms.headD 0)) }
  let e := s.coded g (s.sampled g e) dev
  { e with vals := s.valuesOf g e }

/-- Step 3 of a repair: the vectors re-run on the reserve, each in a cycle that no job holds, are compared with S (R46, R318, R319). -/
def State.repairCompare (s : State) (g : Nat) (dev : List (Nat × List (Nat × Int))) : State :=
  match (s.tuss g).repair with
  | none => s
  | some r =>
    if r.step ≠ 2 ∨ s.arrState g (s.reserveOf g) = aWRITING then s
    else if s.arrState g (s.reserveOf g) ≠ aVALID then
      -- a reserve that its write left in WRITE_FAULT evaluates nothing (R58): step 5 runs in place (R319)
      (s.brkInPlace g).updTuss g fun t => { t with repair := some { r with step := 5, inPlace := true } }
    else
      let runs := (r.vecs.filter (s.mayReplace g r.arr)).zipIdx.map fun (e, i) => (e, dev.getD i (0, []))
      if !(decide (runs.map fun p => p.2.1).Nodup && runs.all fun p => s.cycleSpare g p.2.1 (s.withReserve g r.arr p.1)) then s
      else
      let (s, ws) := s.weightsOf g (r.vecs.flatMap Evl.members).dedup
      let vs := runs.map fun (e, d) =>
        let x := s.onReserve g r.arr e d.2
        (x, x.vals, exactImage ws e)
      let s := runs.foldl (fun s p => (s.withReserve g r.arr p.1).foldl (fun s a => s.spend g a [s.swath * 256 + p.2.1]) s) s
      let s := vs.foldl (fun s v => s.countSat g v.1) s
      if s.agreeCols r.cols vs then
        s.updTuss g fun t => { t with repair := some { r with step := 4 }, exchange := some ⟨r.slot, false, false⟩ }
      else s.gorseQuarantine g

/-- Step 5 of a repair: the array's rewriting begins (R318). -/
def State.reprogram (s : State) (g : Nat) : State :=
  match (s.tuss g).repair with
  | none => s
  | some r =>
    if r.step ≠ 5 ∨ s.arrState g r.arr = aWRITING then s
    else
      let (s, rows) := s.rowsFor g r.arr
      s.beginWrite g r.arr { for_ := .reprogram, rows := rows } (s.get (F.TSK_ARR_STATE_CONTEXT g r.arr))
      (s.get (F.TSK_CONV_CFG_RANGE g r.arr)) (s.get (F.TSK_CONV_CFG_MASK_EN g r.arr)) (s.arr g r.arr).holds

/-! ### Tokens (R320) -/

/-- An arbitration that involves a job is queued or running. -/
def State.arbInvolves (s : State) (id : Nat) : Bool :=
  s.tusss.any fun p =>
    (p.2.arbQueue ++ (p.2.arb.map Arb.trig).toList).any fun tr =>
      (tr.vecs ++ tr.mates).any fun e => e.job == some id

/-- The token of a job at its horizon (R320). -/
def State.tokenDecision (s : State) (id : Nat) : State :=
  match s.job id with
  | none => s
  | some j =>
    if j.stage ≠ .provisional ∨ s.swath < j.tDone / 8192 + j.horizon then s
    else if s.arbInvolves id then
      ((s.inc F.GRS_EVT_CNT_UNRES_CNT).set F.GRS_STATUS_UNRESOLVED 1).token id false
    else s.token id (!j.retract && !j.depBad && j.deps.isEmpty)

/-! ### Check fraction and horizon (R309, R324) -/

/-- A write of FRACTION. Log entry 30 (DEDUCED). -/
def State.fractionWrite (s : State) (v : Nat) : State :=
  let cur := s.get F.GRS_CFG_FRACTION
  let reject := s.set F.GRS_STATUS_CFG_REJECT 1
  if v = cur then s
  else if 6 ≤ v ∨ s.on F.GRS_STATUS_FRACTION_PENDING then reject
  else if v = 5 ∨ cur = 5 then
    if (List.range 16).any fun k => s.on (F.CHN_ENG_STATUS_RUNNING k) then reject else s.set F.GRS_CFG_FRACTION v
  else
    State.set { (s.set F.GRS_CFG_FRACTION v) with fractionOld := some cur, fractionAt := s.swath } F.GRS_STATUS_FRACTION_PENDING 1

/-- A pending change of fraction takes effect for check slots (R309). -/
def State.fractionEffect (s : State) : State :=
  if s.on F.GRS_STATUS_FRACTION_PENDING && decide (s.fractionAt < s.swath) &&
      s.jobs.all fun j => decide (s.fractionAt < j.swath ∨ j.lastWork < s.swath) then
    State.set { s with fractionOld := none, fractionAt := 0 } F.GRS_STATUS_FRACTION_PENDING 0
  else s

/-- A write of HORIZON (R324). -/
def State.horizonWrite (s : State) (v : Nat) : State :=
  if v < 2 ∨ 16 < v then s.set F.GRS_STATUS_CFG_REJECT 1 else s.set F.GRS_CFG_HORIZON v

/-! ### Replica groups (R325 to R329, R358) -/

/-- Blocks of an image read for its digest, in unscheduled slots of their stack (R177, R326): their bytes. -/
def State.hashBlocks (s : State) (a : Nat) : Nat → State × List Byte
  | 0 => (s, [])
  | n + 1 =>
    let (s, b) := s.fetched (chanOfAddr a) a .ok
    let (s, bs) := s.hashBlocks (a + 256) n
    (s, b.data ++ bs)

/-- The bytes of an image in stripe order, stripes 0 to 3 (R326). -/
def State.imageBytes (s : State) : List (Nat × Nat) → State × List Byte
  | [] => (s, [])
  | (a, n) :: xs =>
    let (s, bs) := s.hashBlocks a n
    let (s, rest) := s.imageBytes xs
    (s, bs ++ rest)

/-- Swaths in which an image is read once, at 256 blocks a swath and stack (R326). -/
def Image.hashSwaths (i : Image) : Nat := max 1 ((i.stripes.map fun x => (x.2 + 255) / 256).foldl max 0)

/-- The digest of an image as its blocks stand at the end of the pass over them; the next pass begins with swath `w`. Log entry 7 (DESIGN
CHOICE). -/
def State.hashImage (s : State) (i : Image) (w : Nat) : State × Image :=
  let (s, bs) := s.imageBytes i.stripes
  (s, { i with hash := sha3 bs, hashFrom := w })

/-- The pass over the image of a context ends with this swath (R326). -/
def State.hashDue (s : State) (c : Nat) : State :=
  match s.image (s.get (F.GLB_CTX_PTR_PTR c)) with
  | none => s
  | some i =>
    if i.valid && decide (i.hashFrom + i.hashSwaths ≤ s.swath + 1) then
      let (s, j) := s.hashImage i (s.swath + 1)
      { s with images := s.images.map fun x => if x = i then j else x }
    else s

/-- The level value of an array (R326): the sum of its rows' CRCs over their levels p - n as signed bytes, a row that has been written
counting as sensed (R61). Log entry 7 (DEDUCED). -/
def State.levelSum (s : State) (g a : Nat) : Nat :=
  ((List.range 512).map fun r => crc32c (((s.arr g a).rowWeights r).map fun w => BitVec.ofInt 8 w)).sum % 2 ^ 32

/-- This device takes part in a replica group with its own node number; else NODE_MISMATCH is set (R358). -/
def State.repSelf (s : State) : Bool := s.get F.GRS_REP_CFG_SELF == s.get F.LEA_NODE_NODE

/-- The period in swaths: values below 16 act as 16 (R327). -/
def State.repPeriod (s : State) : Nat := max 16 (s.get F.GRS_REP_CFG_PERIOD)

/-- The digest of a context (R326): 76 bytes, with the latest complete image digest. Its period is the one that runs. -/
def State.digestBytes (s : State) (c : Nat) : List Byte :=
  match s.image (s.get (F.GLB_CTX_PTR_PTR c)) with
  | none => []
  | some i =>
    leBytes 1 c ++ leBytes 1 0 ++ leBytes 2 (s.get (F.GLB_CTX_TID_CUR_TID c)) ++ leBytes 8 (s.swath / s.repPeriod * s.repPeriod) ++ i.hash ++
      sha3 (i.resident.flatMap fun p => leBytes 4 (s.levelSum p.2.tsk (s.arrOf p.2.tsk p.2.slot)))

/-- A digest's report: IMAGE_TID and the two digests. -/
def reportOf (bs : List Byte) : Nat × Nat := (leNat ((bs.drop 2).take 2), leNat ((bs.drop 12).take 64))

/-- The swath number of a digest's period (R326). -/
def periodOf (bs : List Byte) : Nat := leNat ((bs.drop 4).take 8)

/-- A member's report joins those of its period, until the boundary 16 swaths later (R327). -/
def State.report (s : State) (c m : Nat) (bs : List Byte) : State :=
  if periodOf bs + 16 ≤ s.swath then s
  else s.updCtx c fun x => { x with digests := Tab.set (fun _ => (0, 0)) x.digests (periodOf bs * 8 + m) (reportOf bs) }

/-- Context `c` is compared (R325). -/
def State.repCompared (s : State) (c : Nat) : Bool := s.on F.GRS_REP_CFG_EN && bitOf (s.get F.GRS_REP_CTX_CTX) c

/-- The digest of a context is sent to every other member (R327, R358). -/
def State.digestSend (s : State) (c : Nat) : State :=
  if !s.repCompared c || s.get (F.GLB_CTX_STATE_STATE c) != 1 || s.swath % s.repPeriod != 0 ||
      (s.ctx c).digests.any (fun p => p.1 == s.swath * 8 + s.get F.GRS_REP_CFG_SELF) then s
  else if !s.repSelf then s.set F.LEA_STATUS_NODE_MISMATCH 1
  else
    let bs := s.digestBytes c
    let me := s.get F.GRS_REP_CFG_SELF
    let s := s.report c me bs
    ((List.range 8).filter fun m => bitOf (s.get F.GRS_REP_CFG_MEMBERS) m && m != me).foldl
      (fun s m => s.msgSend 4 m 0 bs) s

/-- A context is expelled (R328, R329). -/
def State.expel (s : State) (c : Nat) : State :=
  let again := (s.ctx c).probation
  let s := ((s.setBit F.GRS_REP_EXPELLED_EXPELLED c).set F.GRS_STATUS_EXPEL 1).inc F.GRS_REP_STATUS_EXPEL_CNT
  let s := if again then s.inc F.GRS_REP_STATUS_PROBATION_FAIL_CNT else s
  let s := (s.updCtx c fun x => { x with probation := false }).signal 28
  s.retractJobs ((s.jobs.filter fun j => bitOf (j.hdr.getD 3 0) 6 && tfld j.hdr 3 0 6 == c).map Job.id)

/-- The decision on the digests of a context (R327 to R329). Log entry 7 (DEDUCED). -/
def State.replicaDecision (s : State) (c : Nat) : State :=
  let w := s.swath - 16
  if !s.repCompared c || !s.repSelf || s.swath < 16 || w % s.repPeriod != 0 || (s.ctx c).decided == w + 1 then s
  else
    let x := s.ctx c
    let tid := s.get (F.GLB_CTX_TID_CUR_TID c)
    let counted := (x.digests.filter fun p => p.1 / 8 == w && p.2.1 == tid && bitOf (s.get F.GRS_REP_CFG_MEMBERS) (p.1 % 8)).map
      fun p => (p.1 % 8, p.2.2)
    let s := s.updCtx c fun x => { x with digests := x.digests.filter (fun p => decide (w < p.1 / 8)), decided := w + 1 }
    let mine := (counted.find? fun p => p.1 == s.get F.GRS_REP_CFG_SELF).map fun p => p.2
    match mine with
    | none => s.inc F.GRS_REP_STATUS_FEW_CNT
    | some v =>
      if counted.length < 3 then s.inc F.GRS_REP_STATUS_FEW_CNT
      else
        match counted.find? fun p => decide (counted.length < 2 * (counted.filter fun q => q.2 == p.2).length) with
        | none => s.inc F.GRS_REP_STATUS_NO_MAJ_CNT
        | some p => if p.2 = v then s.updCtx c fun x => { x with probation := false } else s.expel c

/-- A context is readmitted, on probation until the next decision; its admission resumes at the next boundary (R329). Log entry 7 (DEDUCED). -/
def State.readmit (s : State) (c : Nat) : State :=
  if bitOf (s.get F.GRS_REP_EXPELLED_EXPELLED) c then
    (s.clrBit F.GRS_REP_EXPELLED_EXPELLED c).updCtx c fun x => { x with probation := true, readmitAt := some s.swath }
  else s

/-! ### The commands -/

/-- `CHECK_SLOT` (R306). -/
def execCheckSlot (g : Tsk) (k : Slot) (c : BitVec 8) (s : State) : Host.Outcome State Fault Refusal :=
  .next (s.ifCycle g fun s => s.ifGorse g fun s => s.checkSlot g k c.toNat)

/-- `CHECK_COMPARISON` (R308). -/
def execCheckComparison (g : Tsk) (k : Slot) (s : State) : Host.Outcome State Fault Refusal :=
  .next (s.ifGorse g fun s => s.checkCompare g k)

/-- `ARBITRATION_START` (R313). -/
def execArbitrationStart (g : Tsk) (s : State) : Host.Outcome State Fault Refusal :=
  .next (s.ifGorse g fun s => s.arbStart g)

/-- `ARBITRATION_DECIDE` (R315). -/
def execArbitrationDecide (g : Tsk) (s : State) : Host.Outcome State Fault Refusal :=
  .next (s.ifGorse g fun s => s.arbDecide g)

/-- `CHECKSUM_REFRESH_END` (R317). -/
def execChecksumRefreshEnd (g : Tsk) (a : Arr) (s : State) : Host.Outcome State Fault Refusal :=
  .next (s.ifGorse g fun s => s.refreshEnd g a)

/-- `REPAIR_WRITES_PLACE` (R318). -/
def execRepairWritesPlace (g : Tsk) (s : State) : Host.Outcome State Fault Refusal :=
  .next (s.ifGorse g fun s => s.repairPlace g)

/-- `REPAIR_RERUN` (R318). -/
def execRepairRerun (g : Tsk) (dev : List (BitVec 8 × List (Fin 260 × Int))) (s : State) : Host.Outcome State Fault Refusal :=
  .next (s.ifCycle g fun s => s.ifGorse g fun s => s.repairCompare g (dev.map fun d => (d.1.toNat, d.2.map fun p => (p.1.val, p.2))))

/-- `TILE_REPROGRAMMING` (R318). -/
def execTileReprogramming (g : Tsk) (s : State) : Host.Outcome State Fault Refusal :=
  .next (s.ifGorse g fun s => s.reprogram g)

/-- `TOKEN_DECISION` (R320). -/
def execTokenDecision (job : Nat) (s : State) : Host.Outcome State Fault Refusal := .next (s.tokenDecision job)

/-- `PROV_ENTRY_TIMEOUT` (R357). -/
def execProvEntryTimeout (e : Nat) (s : State) : Host.Outcome State Fault Refusal :=
  .next (s.resolveProvs (fun p => p.id == e && p.origin.isSome && decide (p.since + 32 ≤ s.swath)) true)

/-- `DIGEST_SEND` (R327). -/
def execDigestSend (c : Ctx) (s : State) : Host.Outcome State Fault Refusal := .next (s.digestSend c)

/-- `REPLICA_DECISION` (R327). -/
def execReplicaDecision (c : Ctx) (s : State) : Host.Outcome State Fault Refusal := .next (s.replicaDecision c)

/-- `READMIT` (R329). -/
def execReadmit (c : Ctx) (s : State) : Host.Outcome State Fault Refusal :=
  .next (s.ifReach .GRS_REP_CTRL 0 fun s => s.readmit c)

/-- `FRACTION_WRITE` (R309). -/
def execFractionWrite (v : BitVec 3) (s : State) : Host.Outcome State Fault Refusal :=
  .next (s.ifReach .GRS_CFG 0 fun s => s.fractionWrite v.toNat)

/-- `FRACTION_CHANGE_EFFECT` (R309). -/
def execFractionChangeEffect (s : State) : Host.Outcome State Fault Refusal := .next s.fractionEffect

/-- `HORIZON_WRITE` (R324). -/
def execHorizonWrite (v : BitVec 5) (s : State) : Host.Outcome State Fault Refusal :=
  .next (s.ifReach .GRS_CFG 0 fun s => s.horizonWrite v.toNat)

/-- The counters of GRS_CTRL.CLR_CNT: GRS_ARB_CNT, GRS_EVT_CNT, GRS_REP_STATUS and FAIL_CNT. -/
def State.grsClrCnt (s : State) : State :=
  [F.GRS_ARB_CNT_CSUM_CNT, F.GRS_ARB_CNT_TRANSIENT_CNT, F.GRS_ARB_CNT_PERSIST_CNT, F.GRS_ARB_CNT_QUAR_CNT,
   F.GRS_EVT_CNT_FALSE_CNT, F.GRS_EVT_CNT_UNRES_CNT, F.GRS_EVT_CNT_LATE_CNT, F.GRS_EVT_CNT_COMMIT_RETRACT_CNT,
   F.GRS_REP_STATUS_EXPEL_CNT, F.GRS_REP_STATUS_NO_MAJ_CNT, F.GRS_REP_STATUS_FEW_CNT,
   F.GRS_REP_STATUS_PROBATION_FAIL_CNT, F.GRS_TP_STATUS_FAIL_CNT].foldl (fun s f => s.set f 0) s

/-- `GRS_CLR_CNT`. -/
def execGrsClrCnt (s : State) : Host.Outcome State Fault Refusal := .next (s.ifReach .GRS_CTRL 0 State.grsClrCnt)

/-- `GRS_CLR_PEAK`. -/
def execGrsClrPeak (s : State) : Host.Outcome State Fault Refusal :=
  .next (s.ifReach .GRS_CTRL 0 fun s => s.set F.GRS_PROV_PEAK 0)

end Sys2Proof.Machine
end

