-- ==== Sys2Proof/Machine/Bracken.lean ====
section
/-! DEFINITION. Bracken (R276 to R298): passes and the walk of the reserve, windows stage by stage, the reference
generator, bring-up, and access to the trims. Log entries: 13, 30. -/

namespace Sys2Proof.Machine
open Sys2Proof

/-! ### Passes (R287, R288, R292) -/

/-- An array that a pass need not calibrate: stamped or handed to Gorse in it, or out of use. -/
def State.passedOver (s : State) (g : Nat) (p : PassRun) (a : Nat) : Bool :=
  p.stamped.contains a || p.handed.contains a || s.arrState g a == aQUAR || s.arrState g a == aWFAULT

/-- An array whose temperature has left its trigger, and that is compared: not one that has been QUARANTINED or in WRITE_FAULT and not
VALID since (R287). -/
def State.offTemp (s : State) (g a : Nat) : Bool :=
  !(s.arr g a).out && !s.inTrig g a

/-- A pass starts (R287): the walk goes first to the nearer end (R288). Log entry 13 (DESIGN CHOICE). -/
def State.passStart (s : State) (g : Nat) : State :=
  let t := s.tuss g
  let due := (s.on (F.BRK_CFG_AUTO g) && (List.range 17).any (s.offTemp g)) || t.startPass ||
    s.on (F.TSK_RESTORE_TEMP_SENSOR_BROKEN g)
  if s.tskState g = tSERVICE ∧ t.pass.isNone ∧ due then
    let p := s.reserveOf g
    (s.updTuss g fun t => { t with startPass := false, pass := some { from_ := p, down := decide (p ≤ 8 ∧ p ≠ 0 ∨ p = 16) } }).set
      (F.BRK_STATUS_PASS_ACTIVE g) 1
  else s

/-- A pass ends (R288): counted and stamped. -/
def State.passEnd17 (s : State) (g : Nat) : State :=
  let s := ((s.inc (F.BRK_CAL_CNT_PASS_CNT g)).set (F.BRK_CAL_TIME_TIME g) (s.swath * 8192)).set (F.BRK_STATUS_PASS_DONE g) 1
  let s := if s.on (F.BRK_CFG_IRQ_PASS g) then s.signal 29 else s
  (s.set (F.BRK_STATUS_PASS_ACTIVE g) 0).updTuss g fun t => { t with pass := none, ask := none }

/-- The next window of a pass's walk (R288, R292): the reserve's own array first, then the neighbour of the reserve in the
direction of the walk, which turns where nothing lies ahead; in place, slot by slot, without a usable reserve. -/
def State.nextAsk (s : State) (g : Nat) (p : PassRun) : Option (Ask × Bool) :=
  if s.noReserve g then
    ((List.range 16).find? fun k => !s.passedOver g p (s.arrOf g k)).map fun k =>
      (⟨.inPlace, k, s.arrOf g k, s.swath, false⟩, p.down)
  else
    let r := s.reserveOf g
    if !s.passedOver g p r then some (⟨.reserve, 0, r, s.swath, false⟩, p.down)
    else
      let below := (List.range r).any fun a => !s.passedOver g p a
      let above := (List.range 17).any fun a => decide (r < a) && !s.passedOver g p a
      let down := if p.down then below else !above
      if !below && !above then none
      else
        let q := if down then r - 1 else r + 1
        (s.slotOf g q).map fun k => (⟨if s.passedOver g p q then .transit else .rotation, k, q, s.swath, false⟩, down)

/-- A step of the walk that has been asked for follows the reserve where a Gorse exchange has moved it (R288). -/
def State.replan (s : State) (g : Nat) : State :=
  let t := s.tuss g
  match t.ask, t.pass with
  | some a, some p =>
    match s.nextAsk g p with
    | some (b, down) =>
      if a.gorse ∨ (a.kind = b.kind ∧ a.slot = b.slot ∧ a.arr = b.arr) then s
      else s.updTuss g fun t => { t with ask := some { b with since := a.since }, pass := some { p with down := down }, captured := [], fresh := false }
    | none => s
  | _, _ => s

/-- What Bracken asks for at a boundary (R288, R290, R318): a window that Gorse wants, or the next step of the pass; a pass
with nothing left to calibrate ends. -/
def State.planWindow (s : State) (g : Nat) : State :=
  let t := s.tuss g
  let gorse := match t.repair with
    | some r => decide (r.step = 6)
    | none => false
  if t.window.isSome then s
  else if t.ask.isSome then s.replan g
  else if gorse then
    match t.repair with
    | some r => s.updTuss g fun t => { t with ask := some ⟨.reserve, r.slot, r.arr, s.swath, true⟩, captured := [], fresh := false }
    | none => s
  else
    match t.pass with
    | none => s
    | some p =>
      match s.nextAsk g p with
      | some (a, down) => s.updTuss g fun t => { t with ask := some a, pass := some { p with down := down }, captured := [], fresh := false }
      | none => if (List.range 17).all (s.passedOver g p) then s.passEnd17 g else s

/-- What a pass that starts, or a window that ends, asks for at the same boundary, in a channel that admits (R215, R290). Log entry 30 (DEDUCED). -/
def State.askNow (s : State) (g : Nat) : State :=
  if (s.chan (chanOf g)).opened ∧ s.stopped (0x20 + chanOf g) = false then s.planWindow g else s

/-- A window that has been asked for is placed with its first swath (R211, R290). -/
def State.placeWindow (s : State) (g start : Nat) (overdue : Bool) : State :=
  match (s.tuss g).ask with
  | none => s
  | some a =>
    let s := if overdue then s.inc (F.BRK_DEFER_OVERDUE_CNT g) else s
    let s := (s.set (F.BRK_DEFER_WAIT g) 0).set (F.BRK_STATUS_OVERDUE g) 0
    s.updTuss g fun t => { t with ask := none, window := some { kind := a.kind, slot := a.slot, arr := a.arr, start := start,
                                                                gorse := a.gorse, overdue := overdue } }

/-! ### Stages (R282 to R285) -/

/-- The swath offset of a window in the scale of R211: windows without write and exchange are 11 swaths shorter. -/
def Window.offset (w : Window) (swath : Nat) : Nat :=
  match w.kind with
  | .rotation => swath - w.start
  | .transit => swath - w.start
  | _ => swath - w.start + 11

/-- A window of a Tussock replaced. -/
def State.setWindow (s : State) (g : Nat) (w : Window) : State := s.updTuss g fun t => { t with window := some w }

/-- The first stage begins: the write of the reserve, or at once the calibration of an array that needs none. -/
def State.stageBegin (s : State) (g : Nat) (w : Window) : State :=
  let write (s : State) : State :=
    let a := s.arrOf g w.slot
    let r := s.reserveOf g
    let (s, rows) := s.rowsFor g a
    let s := (s.copyMask g a r).beginWrite g r { for_ := .window, rows := rows } (s.get (F.TSK_ARR_STATE_CONTEXT g a))
      (s.get (F.TSK_CONV_CFG_RANGE g a)) (s.get (F.TSK_CONV_CFG_MASK_EN g a)) (s.arr g a).holds
    (s.setWindow g { w with begun := true }).brkStage g r 1
  match w.kind with
  | .rotation => write s
  | .transit => write s
  | _ =>
    let back := s.arrState g w.arr
    ((s.setArrState g w.arr aCAL).setWindow g { w with begun := true, released := true, stage := 2, back := back,
                                                       oldSpares := s.spareWords g w.arr }).brkStage
      g w.arr 2

/-- What the measurements of a stage have come to is kept with the window. -/
def measured (g : Nat) (w : Window) (p : State × CalRun) : State := p.1.setWindow g { w with cal := p.2 }

/-- A faulted array ends its window at once (R284); its repair by Gorse ends with it (R319). -/
def State.arrayFault (s : State) (g : Nat) (w : Window) : State :=
  let s := (s.abandonWindow g).handToGorse g w.arr
  s.updTuss g fun t => { t with
    abandoned := t.abandoned.filter (· != w.arr), repair := if w.gorse then none else t.repair }

/-- Row tests of a window (R282, step 4, R284). -/
def State.stageDrivers (s : State) (g : Nat) (w : Window) (f : CalFinding) : State :=
  match s.rowTests g w.arr (f.drivers.map fun d => (d.1.val, d.2)) with
  | (s, true) => s
  | (s, false) => s.arrayFault g w

/-- Round `k` begins with its read-back (R278, R282). -/
def State.stageRound (s : State) (g : Nat) (w : Window) (k : Nat) (f : CalFinding) : State :=
  let p := s.readBack g w.arr k w.cal (f.sensed.map fun c => (c.1.val, c.2.1.val, c.2.2.1.val, c.2.2.2.val))
  (p.1.setWindow g { w with stage := 4, rounds := k, cal := p.2 }).brkStage g w.arr 4

/-- The rounds end (R283, R284): the corrections in force are kept aside, the candidate is solved for and loaded, and failed columns are
recorded. -/
def State.stageVerify (s : State) (g : Nat) (w : Window) : State :=
  let x := s.solve g w.arr w.cal
  let w := { w with stage := 5, failed := x.failed,
                    oldTrims := (List.range 0x4E).map fun i => (i, s.trim g w.arr i), oldTable := s.tableBytes g w.arr }
  (((s.colFails g w.arr x.failed).loadCandidate g w.arr x).setWindow g w).brkStage g w.arr 5

/-- Verification is judged (R282, step 7, R285): a failed one puts the previous corrections back. -/
def State.stageCommit (s : State) (g : Nat) (w : Window) : State :=
  let ok := w.cal.verified (s.get (F.TSK_CONV_CFG_RANGE g w.arr))
  let w' := { w with stage := 6, verified := ok, gen := s.genDerived g w.arr w.cal }
  let s := if ok then s
    else ((s.putBack g w).inc (F.BRK_CAL_CNT_FAULT_CNT g)).brkFault g (F.BRK_STATUS_VERIFY_FAIL g)
  (s.setWindow g w').brkStage g w.arr 6

/-- Cycle `c` of the swath is free for a Calibrate operation of an array: no restore slot, no pass-through and no other operation of it
(R46, R51). -/
def State.calFree (s : State) (g a c : Nat) : Bool :=
  let x := s.swath * 256 + c
  !isRestoreSlot g s.swath c && !(s.tuss g).used.contains (a, x) && !(s.tuss g).passed.contains (a, x) && !s.writeHolds g a x

/-- Calibrate operations in the cycles that are free for them, which they spend (R46); one in another cycle does not take place. -/
def State.calCycles (s : State) (g a : Nat) : List (Nat × List (Nat × Int)) → State × List (List (Nat × Int))
  | [] => (s, [])
  | (c, dev) :: rest =>
    if s.calFree g a c then
      let (s, l) := (s.spend g a [s.swath * 256 + c]).calCycles g a rest
      (s, dev :: l)
    else s.calCycles g a rest

/-- The Calibrate operations of a window's stage (R277, R282). A round's first three swaths are its read-back. -/
def State.stageOps (s : State) (g : Nat) (w : Window) (f : CalFinding) : State :=
  let (s, ops) := s.calCycles g w.arr (f.ops.map fun d => (d.1.toNat, d.2.map fun (p : Fin 260 × Int) => (p.1.val, p.2)))
  match w.stage with
  | 2 => measured g w (s.calZero g w.arr w.cal ops)
  | 3 => s.stageDrivers g w f
  | 4 => if 28 * w.rounds ≤ w.offset s.swath then measured g w (s.calRound g w.arr w.rounds 6 w.cal ops) else s
  | 5 => measured g w (s.calVerify g w.arr w.cal ops)
  | _ => s

/-- A window reaches its next stage when its swath has come. -/
def State.nextStage (s : State) (g : Nat) (f : CalFinding) : State :=
  match (s.tuss g).window with
  | none => s
  | some w =>
    let o := w.offset s.swath
    match w.stage with
    | 0 =>
      if w.begun = false then s.stageBegin g w
      else if 11 ≤ o ∧ s.arrState g (s.reserveOf g) ≠ aWRITING then
        (s.setWindow g { w with stage := 1 }).updTuss g fun t => { t with exchange := some ⟨w.slot, true, false⟩ }
      else s
    | 1 => if w.kind = .rotation ∧ 157 ≤ o then s.abandonWindow g else s
    | 2 => if 15 ≤ o then (s.setWindow g { w with stage := 3 }).brkStage g w.arr 3 else s
    | 3 => if 25 ≤ o then s.stageRound g w 1 f else s
    | 4 =>
      if w.rounds < 4 then (if 25 + 28 * w.rounds ≤ o then s.stageRound g w (w.rounds + 1) f else s)
      else if 137 ≤ o then s.stageVerify g w else s
    | 5 => if 154 ≤ o then s.stageCommit g w else s
    | _ => s

/-- The measurements of the stage in progress, then the window's next stage (R282). -/
def State.windowStage (s : State) (g : Nat) (f : CalFinding) : State :=
  match (s.tuss g).window with
  | none => s
  | some w => if s.swath < w.start then s else (s.stageOps g w f).nextStage g f

/-! ### The end of a window (R286, R294) -/

/-- What the end of a window means for the pass: the array is stamped in it, or has failed once, or is handed over. -/
def State.passNote (s : State) (g : Nat) (w : Window) : State :=
  if w.verified then s.updTuss g fun t => { t with pass := t.pass.map fun p => { p with stamped := p.stamped ++ [w.arr] } }
  else
    match (s.tuss g).pass with
    | none => s
    | some p =>
      if p.failedOnce.contains w.arr then s.handToGorse g w.arr
      else s.updTuss g fun t => { t with pass := some { p with failedOnce := p.failedOnce ++ [w.arr] } }

/-- An array in which Bracken found a failed column enters repair step 5 (R316, R318). -/
def State.repairColumn (s : State) (g a slot : Nat) : State :=
  let fix : RepairRun := { arr := a, slot := slot, step := 5, colFail := true, inPlace := (s.slotOf g a).isSome }
  (s.setArrState g a aQUAR).updTuss g fun t => match t.repair with
    | none => { t with repair := some fix }
    | some _ => { t with wrong := t.wrong ++ [fix] }

/-- What the end of a window means for a repair (R316, R318, R319). -/
def State.repairNote (s : State) (g : Nat) (w : Window) : State :=
  if w.gorse then
    if !w.failed.isEmpty then (s.setArrState g w.arr aQUAR).updTuss g fun t => { t with repair := none }
    else if w.back = aWFAULT then s.updTuss g fun t => { t with repair := t.repair.map fun r => { r with step := 5 } }
    else s.updTuss g fun t => { t with repair := none }
  else if w.failed.isEmpty then s else s.repairColumn g w.arr w.slot

/-- The end of a window at its boundary: the array is VALID in the reserve role, or in WRITE_FAULT again where Gorse repairs it (R282,
step 8, R286, R319). -/
def State.windowEnd (s : State) (g : Nat) : State :=
  match (s.tuss g).window with
  | none => s
  | some w =>
    if w.stage ≠ 6 ∨ w.offset s.swath < 158 then s
    else
      let s := s.setArrState g w.arr (if w.back = aWFAULT then aWFAULT else aVALID)
      let s := if w.verified then
          ((s.stamp g w.arr (s.get (F.TSK_RESTORE_TEMP_TEMP g)) true).updateGen g w.gen).rebaseArr g w.arr
        else s
      let s := (s.passNote g w).repairNote g w
      (((s.updTuss g fun t => { t with window := none }).shrinkBit (chanOf g)).brkStage g 0x1F 0).brkCurrent g

/-! ### Bring-up (R295, R296) -/

/-- Steps 3 to 8 of R282 on one array on stimulus vectors, by one finding for each of zero, rows, the four rounds and verify; the verdict,
and `none` for an array that needs more than eight spares (R284, R295). -/
def State.calWhole (s : State) (g a : Nat) (fs : List CalFinding) : State × Option Bool :=
  let f (i : Nat) : CalFinding := fs.getD i ⟨[], [], []⟩
  let ops (i : Nat) : List (List (Nat × Int)) :=
    ((f i).ops.filter fun d => !isRestoreSlot g s.swath d.1.toNat).map fun d => d.2.map fun (p : Fin 260 × Int) => (p.1.val, p.2)
  let p := s.calZero g a {} (ops 0)
  match p.1.rowTests g a ((f 1).drivers.map fun d => (d.1.val, d.2)) with
  | (s, false) => (s, none)
  | (s, true) =>
    let p := [1, 2, 3, 4].foldl (fun (p : State × CalRun) k =>
      let p := p.1.readBack g a k p.2 ((f (k + 1)).sensed.map fun c => (c.1.val, c.2.1.val, c.2.2.1.val, c.2.2.2.val))
      p.1.calRound g a k 150 p.2 (ops (k + 1))) (s, p.2)
    let s := p.1
    let x := s.solve g a p.2
    let old : Window := { kind := .reserve, slot := 0, arr := a, start := s.swath,
                          oldTrims := (List.range 0x4E).map fun i => (i, s.trim g a i), oldTable := s.tableBytes g a }
    let p := ((s.colFails g a x.failed).loadCandidate g a x).calVerify g a p.2 (ops 6)
    let s := p.1
    if p.2.verified (s.get (F.TSK_CONV_CFG_RANGE g a)) then
      (failNote ((s.stamp g a (s.get (F.TSK_RESTORE_TEMP_TEMP g)) true).updateGen g (s.genDerived g a p.2)) x.failed, some true)
    else (failNote (((s.putBack g old).inc (F.BRK_CAL_CNT_FAULT_CNT g)).brkFault g (F.BRK_STATUS_VERIFY_FAIL g)) x.failed, some false)
where
  /-- a failed column enters the repair, whatever the verdict (R316) -/
  failNote (s : State) (failed : List Nat) : State := if failed.isEmpty then s else s.repairColumn g a ((s.slotOf g a).getD 0)

/-- One array of a bring-up group: a failed verification is followed by a second calibration, and a second failure makes the array a
faulted one (R284, R285, R295). -/
def State.bringupArray (s : State) (g a : Nat) (fs : List CalFinding) : State :=
  match s.calWhole g a fs with
  | (s, some true) => s
  | (s, none) => s.handToGorse g a
  | (s, some false) =>
    if s.arrState g a = aQUAR then s
    else match s.calWhole g a (fs.drop 7) with
    | (s, some true) => s
    | (s, _) => s.handToGorse g a

/-- The arrays of a group of the bring-up calibration (R295). -/
def bringupGroup (k : Nat) : List Nat := if k = 0 then List.range 9 else (List.range 8).map (· + 9)

/-- A group of the bring-up calibration begins (R295): its VALID arrays are CALIBRATING, and only stimulus vectors serve. -/
def State.bringupBegin (s : State) (g : Nat) : State :=
  let as := bringupGroup (s.tuss g).bringup
  let s := as.foldl (fun (s : State) a => if s.arrState g a = aVALID then s.setArrState g a aCAL else s) s
  (s.updTuss g fun t => { t with bringAt := some s.swath, captured := [], fresh := false }).brkStage g (as.headD 0) 2

/-- The stage of R282 at an offset in the scale of R211. -/
def stageAt (o : Nat) : Nat := if o < 15 then 2 else if o < 25 then 3 else if o < 137 then 4 else if o < 154 then 5 else 6

/-- A group of the bring-up calibration ends (R286, R295): every array of it that is not out of use has run steps 3 to 8 of R282, one that
the command does not list with no finding. The other group begins, or the bring-up counts as a pass. -/
def State.bringupEnd (s : State) (g : Nat) (fs : List (Nat × List CalFinding)) : State :=
  let as := (bringupGroup (s.tuss g).bringup).filter fun a => s.arrState g a != aQUAR && s.arrState g a != aWFAULT
  let s := as.foldl (fun s a => s.bringupArray g a (((fs.find? fun p => p.1 == a).map fun p => p.2).getD [])) s
  let s := as.foldl (fun (s : State) a => if s.arrState g a = aCAL then s.setArrState g a aVALID else s) s
  let last := (s.tuss g).bringup = 1
  let s := (s.updTuss g fun t => { t with bringup := t.bringup + 1, bringAt := none }).brkCurrent g
  if last then (s.brkStage g 0x1F 0).passEnd17 g else s.bringupBegin g

/-- Step 5 of a re-enable (R295, R296): saved codes are accepted, or the two groups of arrays are calibrated, each in 147 swaths. -/
def State.bringup (s : State) (g : Nat) (fs : List (Nat × List CalFinding)) : State :=
  let t := s.tuss g
  if s.tskState g ≠ tREEN ∨ t.aligned = false ∨ 2 ≤ t.bringup then s
  else match t.bringAt with
  | some w =>
    if s.swath < w + 147 then s.brkStage g ((bringupGroup t.bringup).headD 0) (stageAt (s.swath - w + 11)) else s.bringupEnd g fs
  | none =>
    if s.on (F.BRK_CFG_BRINGUP_RESTORED g) ∧
        tempGap (s.get (F.TSK_RESTORE_TEMP_TEMP g)) (s.get (F.BRK_SAVED_TEMP_TEMP g)) ≤ s.trig g then
      let s := (List.range 17).foldl (fun s a => s.stamp g a (s.get (F.BRK_SAVED_TEMP_TEMP g)) false) s
      ((s.set (F.BRK_STATUS_SAVED_ACCEPTED g) 1).updTuss g fun t => { t with bringup := 2 }).brkCurrent g
    else (s.set (F.BRK_STATUS_SAVED_ACCEPTED g) 0).bringupBegin g

/-! ### Trim access (R298) -/

/-- INDEX advances after an access under AUTO_INC, wrapping at 0xFF. -/
def State.trimNext (s : State) (g : Nat) : State :=
  if s.on (F.BRK_TRIM_SEL_AUTO_INC g) then s.set (F.BRK_TRIM_SEL_INDEX g) (s.get (F.BRK_TRIM_SEL_INDEX g) + 1) else s

/-- The trim word that BRK_TRIM_SEL selects; 0 where there is none. -/
def State.trimSelected (s : State) (g : Nat) : Nat :=
  let a := s.get (F.BRK_TRIM_SEL_ARRAY g)
  let i := s.get (F.BRK_TRIM_SEL_INDEX g)
  if trimMask a i = 0 then 0 else s.trim g a i

/-- A write of BRK_TRIM_DATA. -/
def State.trimWrite (s : State) (g v : Nat) : State :=
  let a := s.get (F.BRK_TRIM_SEL_ARRAY g)
  let i := s.get (F.BRK_TRIM_SEL_INDEX g)
  let ok := trimMask a i ≠ 0 ∧ (if a = 17 then s.tskState g = tQUAR ∨ s.tskState g = tREEN else s.tableOpen g a)
  (if ok then (if a < 17 then (s.setTrim g a i (Nat.land v (trimMask a i))).countSpares g a else s.setTrim g a i (Nat.land v (trimMask a i))) else s.set (F.BRK_STATUS_TRIM_WR_REJECT g) 1).trimNext g

/-! ### The commands -/

/-- `WINDOW_STAGE` (R282). -/
def execWindowStage (g : Tsk) (f : CalFinding) (s : State) : Host.Outcome State Fault Refusal :=
  .next (s.ifT g fun s => s.windowStage g f)

/-- `ABANDON_RETURN_VALID` (R291). -/
def execAbandonReturnValid (g : Tsk) (s : State) : Host.Outcome State Fault Refusal :=
  .next (s.ifT g fun s =>
    let s := (s.tuss g).abandoned.foldl (fun s a => if s.arrState g a = aCAL then s.setArrState g a aVALID else s) s
    s.updTuss g fun t => { t with abandoned := [] })

/-- `REFGEN_APPLY` (R293). -/
def execRefgenApply (g : Tsk) (s : State) : Host.Outcome State Fault Refusal :=
  .next (s.ifT g fun s =>
    if (s.tuss g).refDue then
      s.updTuss g fun t => { t with refCodes := s.genCodes g (s.get (F.TSK_RESTORE_TEMP_TEMP g)), refDue := false }
    else s)

/-- `BRINGUP_CALIBRATION` (R295). -/
def execBringupCalibration (g : Tsk) (fs : List (Arr × List CalFinding)) (s : State) : Host.Outcome State Fault Refusal :=
  .next (s.ifT g fun s => s.bringup g (fs.map fun (p : Arr × List CalFinding) => (p.1.val, p.2)))

/-- `BRK_START_PASS` (R287): ignored while a pass is active. -/
def execBrkStartPass (g : Tsk) (s : State) : Host.Outcome State Fault Refusal :=
  .next (s.ifReach .BRK_CTRL g fun s => if (s.tuss g).pass.isSome then s else s.updTuss g fun t => { t with startPass := true })

/-- `BRK_ABORT` (R291): as for a Gorse claim, at the next boundary. -/
def execBrkAbort (g : Tsk) (s : State) : Host.Outcome State Fault Refusal :=
  .next (s.ifReach .BRK_CTRL g fun s => s.updTuss g fun t => { t with abortDue := true })

/-- ABANDON_CNT, FAULT_CNT and OVERDUE_CNT cleared. -/
def State.brkClrCnt (s : State) (g : Nat) : State :=
  ((s.set (F.BRK_CAL_CNT_ABANDON_CNT g) 0).set (F.BRK_CAL_CNT_FAULT_CNT g) 0).set (F.BRK_DEFER_OVERDUE_CNT g) 0

/-- `BRK_CLR_CNT`. -/
def execBrkClrCnt (g : Tsk) (s : State) : Host.Outcome State Fault Refusal :=
  .next (s.ifReach .BRK_CTRL g fun s => s.brkClrCnt g)

/-- `TRIM_DATA_READ` (R298). -/
def execTrimDataRead (g : Tsk) (r : Agent) (s : State) : Host.Outcome State Fault Refusal :=
  .next (if s.reach .BRK_TRIM_DATA g then (s.answer r (s.trimSelected g)).trimNext g else s.answer r 0xFFFFFFFF)

/-- `TRIM_DATA_WRITE` (R298). -/
def execTrimDataWrite (g : Tsk) (v : Word) (s : State) : Host.Outcome State Fault Refusal :=
  .next (s.ifReach .BRK_TRIM_DATA g fun s => s.trimWrite g v.toNat)

end Sys2Proof.Machine
end

