-- ==== Sys2Proof/Machine/Demand.lean ====
section
/-! DEFINITION. What a job asks for and what the schedulers have (R206 to R213, R216, R220, R235, R236): fields of commands,
units and their ceilings, standing reservations, and the placement of array cycles. -/

namespace Sys2Proof.Machine
open Sys2Proof

/-! ### Fields of a job's commands (R234, R237, R240) -/

def Job.cls (j : Job) : Nat := tfld j.hdr 0 8 12
def Job.holdCount (j : Job) : Nat := tfld j.hdr 0 20 8
def Job.batchEnd (j : Job) : Bool := tfld j.hdr 0 29 1 == 1
def Job.tagCount (j : Job) : Nat := tfld j.hdr 1 12 15

/-- The commands of a job with their index, counted from 1 (0 names the JOB command). -/
def Job.body (j : Job) : List (List Nat × Nat) := j.cmds.zipIdx 1

/-- The templates of a job's TASKS command. -/
def Job.templates (j : Job) (cmd : Nat) : List (List Nat) := ((j.lists.find? fun p => p.1 == cmd).map fun p => p.2).getD []

/-! ### Units (R208, R235, R236) -/

/-- The scheduler that reserves a unit of a kind, for a job of channel `own`. -/
def unitChan (own kind unit : Nat) : Nat :=
  match kind with
  | 3 => unit / 64 % 4
  | 4 => unit / 64 % 4
  | 5 => unit / 1024 % 4
  | 6 => unit / 16384 % 4
  | 7 => unit / 16384 % 4
  | 8 => if unit / 2 % 8 = 4 then own else unit / 2 % 8
  | 9 => unit % 4
  | 11 => unit % 4
  | 13 => unit / 64 % 4
  | _ => own

/-- The Tussock whose unit this is: clocks, sub-banks, the local port of its router, its task queue. -/
def unitTsk (kind unit : Nat) : Option Nat :=
  match kind with
  | 3 => some (unit % 256)
  | 4 => some (unit % 256)
  | 5 => some (unit / 16 % 256)
  | 6 => if unit / 32 % 8 = 4 then some (unit / 16384 * 64 + unit / 256 % 8 * 8 + unit / 2048 % 8) else none
  | 13 => some (unit % 256)
  | _ => none

/-- A UNIT names a unit of its kind (R235). -/
def unitValid (kind unit : Nat) : Bool :=
  match kind with
  | 3 => decide (unit < 256)
  | 4 => decide (unit < 256)
  | 5 => decide (unit < 4096)
  | 6 => meshValid false
  | 7 => meshValid true
  | 8 => decide (unit < 32 ∧ unit / 2 % 8 ≤ 4)
  | 9 => decide (unit < 4)
  | 10 => decide (unit < 2)
  | 11 => decide (unit < 8)
  | _ => false
where
  /-- A mesh link: a sending router's port with DIR 0, or an edge attachment or local port with either DIR; a link between
  rows 3 and 4 is a cut link. The bridges stand on the north edge at x = 2 and 5, the ports of the east and west edge at
  y = 3, and the stack links on the south edge (R162). -/
  meshValid (cut : Bool) : Bool :=
    let x := unit / 2048 % 8
    let y := unit / 256 % 8
    let p := unit / 32 % 8
    let dir := unit / 16 % 2
    let isCut := (y == 3 && p == 2) || (y == 4 && p == 0)
    unit % 16 == 0 && isCut == cut &&
    match p with
    | 0 => if y = 0 then decide (x = 2 ∨ x = 5) else dir == 0
    | 1 => if x = 7 then y == 3 else dir == 0
    | 2 => if y = 7 then true else dir == 0
    | 3 => if x = 0 then y == 3 else dir == 0
    | 4 => true
    | 5 => y == 7
    | _ => false

/-- Channel `n` has closed: drained from a boundary on, or offline (R220, R455, R457). -/
def State.chanShut (s : State) (n : Nat) : Bool := (s.chan n).drain || bitOf (s.get F.GLB_CHN_STATUS_OFFLINE) n

/-- The raw PCIe rate in tenths of GT/s times lanes (R190). -/
def State.pcieRate (s : State) : Nat :=
  (match s.get F.PCI_LINK_SPEED with
    | 3 => 80
    | 4 => 160
    | 5 => 320
    | 6 => 640
    | _ => 0) * s.get F.PCI_LINK_WIDTH

/-- A run of blocks meets the window of Tussock `g`, by its own addresses or through the bank alias (R175, R176). -/
def meetsWindow (g a nblk : Nat) : Bool :=
  let meets (lo len : Nat) : Bool := decide (a < lo + len ∧ lo < a + 256 * nblk)
  meets (tskBase g) 0x400000 || meets (aliasBase + g * 0x400000) 0x400000

/-- A job names Tussock `g` only by AWRITE, with no COPY in its window and no unit of it but sub-banks and the local port
(R220). -/
def Job.onlyWrites (j : Job) (g : Nat) : Bool :=
  (j.cmds.all fun c =>
    let n := tfld c 1 0 24
    !((cmdOp c == 2 || cmdOp c == 7) && tfld c 0 20 8 == g) &&
    !(cmdOp c == 3 && (meetsWindow g (cmdAddr c 2) n || (tfld c 0 20 2 != 3 && meetsWindow g (cmdAddr c 4) n)))) &&
  j.prof.all fun e =>
    unitTsk (bitsOf e 12 4) (bitsOf e 16 16) != some g || bitsOf e 12 4 == 5 || bitsOf e 12 4 == 6

/-- A Tussock gives units to a job: in SERVICE, or while REENABLING the units that the writing of its arrays needs
(R220). -/
def State.tskGives (s : State) (j : Job) (g kind : Nat) : Bool :=
  s.tskState g == tSERVICE ||
    (s.tskState g == tREEN && (kind == 1 || kind == 5 || kind == 6) && j.onlyWrites g)

/-- The ceiling of a unit of kinds 3 to 11 and 13 (R208, R220, R236). -/
def State.unitCeiling (s : State) (j : Job) (kind unit : Nat) : Nat :=
  let open_ := !s.chanShut (unitChan j.chan kind unit) &&
    match unitTsk kind unit with
    | some g => s.tskGives j g kind
    | none => true
  if !open_ then 0
  else match kind with
    | 3 => 11520
    | 4 => 11520
    | 5 => 10752
    | 6 => 3072
    | 7 => 3072
    | 8 => if unit / 2 % 8 = 4 then 768 else 3072
    | 9 => 30720
    | 10 => 576 * s.pcieRate / 10240
    | 11 => if s.get (F.LEA_PORT_STATUS_STATE (unit % 4)) = 4 then (if s.lea56 (unit % 4) then 1440 else 2880) else 0
    | 13 => 8192
    | _ => 0

/-! ### Standing reservations (R210 to R212, R269) -/

/-- Matrix clocks of the check shadow at a fraction code (R210). -/
def shadowClocks (fr : Nat) : Nat := ((checkPeriod fr).map fun p => 32768 / p).getD 0

/-- Last swath of a window (R211). -/
def Window.lastSwath (x : Window) : Nat :=
  match x.kind with
  | .rotation => x.start + 157
  | .transit => x.start + 10
  | _ => x.start + 146

/-- The phase of a window in swath `w`: none outside it, `some false` in the write, `some true` in the calibration. -/
def Window.phase (x : Window) (w : Nat) : Option Bool :=
  if w < x.start ∨ x.lastSwath < w then none else some (decide (11 ≤ x.offset w))

/-- The array whose cycles a window holds in swath `w` (R211). -/
def State.windowArr (s : State) (g w : Nat) (x : Window) : Option Nat :=
  (x.phase w).map fun cal => if cal then x.arr else s.reserveOf g

/-- Clocks of a unit that standing reservations hold in swath `w` (R210, R211). -/
def State.unitStanding (s : State) (kind unit w : Nat) : Nat :=
  if kind = 4 then
    let win := match (s.tuss (unit % 256)).window with
      | some x => if x.phase w = some true then 768 else 0
      | none => 0
    max (shadowClocks s.fractionNow) (shadowClocks s.fractionNext) + win
  else 0

/-- The wave items that still write an array of Tussock `g` (R269). -/
def State.waves (s : State) (g : Nat) : List WaveItem :=
  s.ctxs.flatMap fun p => p.2.wave.filter fun x => x.g == g && !x.done

/-- A standing reservation other than restore and check slots holds cycle `c` of array `a` in swath `w`: a window, a repair
rewrite, a repair's writes, or a replacement write (R211, R212, R269, R318). -/
def State.cycleStands (s : State) (g a w c : Nat) : Bool :=
  let t := s.tuss g
  (match t.window with
    | some x => s.windowArr g w x == some a
    | none => false) ||
  ((s.chan (chanOf g)).repairs.any fun r => r.g == g && r.a == a && r.at_.contains (w, c)) ||
  (match t.repair with
    | some r => (decide (r.step = 2) && s.arrState g a == aWRITING && a == s.reserveOf g) || (decide (r.step = 5) && a == r.arr)
    | none => false) ||
  ((s.waves g).any fun x => s.mapAt g x.slot w == a && decide (x.from_ ≤ w) &&
    (decide (w < x.last) || (decide (w = x.last) && decide (c < x.tail))))

/-- A restore slot, or a check slot of an active array (R210). -/
def State.slotStands (s : State) (g a w c : Nat) : Bool :=
  isRestoreSlot g w c || (a != s.reserveAt g w && s.isCheckSlot g w c)

/-- Cycles of an array that standing reservations hold in a swath. -/
def State.arrStanding (s : State) (g a w : Nat) : Nat :=
  ((List.range 256).filter fun c => s.slotStands g a w c || s.cycleStands g a w c).length

/-! ### What jobs hold -/

/-- Cycles of an array that jobs hold in a swath, of one kind or (9) of any. -/
def State.jobCycles (s : State) (ps : List Placed) (g a w kind : Nat) : List Nat :=
  (ps.filter fun p => p.g == g && p.swath == w && (kind == 9 || p.kind == kind) && s.placedArr p == a).map Placed.cycle

/-- All cycles that jobs hold. -/
def State.allPlaced (s : State) : List Placed := s.jobs.flatMap Job.placed

/-- Units that jobs hold. -/
def State.jobUnits (s : State) (n kind unit w : Nat) : Nat :=
  (((s.jobs.flatMap Job.units).filter fun u => u.chan == n && u.kind == kind && u.unit == unit && u.swath == w).map
    Held.amount).sum

/-! ### Demand -/

/-- Demand by count, with the offset in the profile in place of the swath: profile entries, and one unit of TASKQ per
template (R235). -/
def Job.demand (j : Job) : List Held :=
  let add (l : List Held) (u : Held) : List Held :=
    if l.any (fun x => x.kind == u.kind && x.unit == u.unit && x.swath == u.swath) then
      l.map fun x => if x.kind = u.kind ∧ x.unit = u.unit ∧ x.swath = u.swath then { x with amount := x.amount + u.amount } else x
    else l ++ [u]
  let ps := j.prof.map fun e => (⟨unitChan j.chan (bitsOf e 12 4) (bitsOf e 16 16), bitsOf e 12 4, bitsOf e 16 16, bitsOf e 0 12,
    bitsOf e 32 16⟩ : Held)
  let ts := (j.cmds.filter fun c => cmdOp c == 2).map fun c =>
    (⟨tfld c 0 20 8 / 64, 13, tfld c 0 20 8, cmdWso c, tfld c 1 0 14⟩ : Held)
  (ps ++ ts).foldl add []

/-- An evaluation to be placed: command, index, Tussock, lowest slot and gang factor, the partner of full duplication
(index and slot) if it has one, and whether it has two phases. -/
structure EvalAsk where
  cmd : Nat
  ix : Nat
  g : Nat
  slot : Nat
  gang : Nat
  two : Bool
  mate : Option (Nat × Nat)
  deriving DecidableEq, Repr

/-- A template that EVAL tasks are placed for: one that its Tussock would not retire as "bad task" (R140). -/
def placeable (ws : List Nat) : Bool := tfld ws 0 0 4 == 0 && !taskBad ws

/-- The duplicate of a primary in the same list (R309). -/
def findMate (ts : List (List Nat)) (ws : List Nat) : Option (Nat × Nat) :=
  (ts.zipIdx.find? fun (x : List Nat × Nat) => placeable x.1 && tfld x.1 0 7 1 == 1 && tfld x.1 1 0 14 == tfld ws 1 0 14 &&
    x.1.getD 5 0 == ws.getD 5 0 && tfld x.1 3 0 17 == tfld ws 3 0 17 && tfld x.1 0 4 2 == tfld ws 0 4 2).map
    fun x => (x.2, tfld x.1 0 8 4)

/-- The evaluations of a job in profile offset `d` for Tussocks of channel `n`, in command and list order. -/
def Job.evalAsks (j : Job) (dup : Bool) (n d : Nat) : List EvalAsk :=
  (j.body.filter fun c => cmdOp c.1 == 2 && cmdWso c.1 == d && tfld c.1 0 20 8 / 64 == n).flatMap fun c =>
    let ts := j.templates c.2
    ((ts.zipIdx.filter fun x => placeable x.1 && !(dup && tfld x.1 0 7 1 == 1 &&
        ts.any fun y => tfld y 0 7 1 == 0 && (findMate ts y).map (fun p => p.1) == some x.2)).map fun x =>
      ⟨c.2, x.2, tfld c.1 0 20 8, tfld x.1 0 8 4, gangOf (tfld x.1 0 4 2), tfld x.1 0 6 1 == 1,
        if dup && tfld x.1 0 7 1 == 0 then findMate ts x.1 else none⟩)

/-! ### Placing (R216) -/

/-- The slots that an evaluation uses. -/
def EvalAsk.slots (e : EvalAsk) : List Nat :=
  ((List.range e.gang).map (e.slot + ·)) ++ (match e.mate with
    | some m => (List.range e.gang).map (m.2 + ·)
    | none => [])

/-- The arrays that pass lines through for an evaluation in swath `w`: those within the spans of its gangs (R49). -/
def State.passFor (s : State) (e : EvalAsk) (w : Nat) : List Nat :=
  let ms (k : Nat) : List Nat := ((List.range 17).filter fun a => (List.range e.gang).any fun i => s.mapAt e.g (k + i) w == a)
  (spanOthers (ms e.slot) ++ (match e.mate with
    | some m => spanOthers (ms m.2)
    | none => [])).dedup

/-- A cycle of an array that no reservation and no job holds, `own` being what this job has been given so far. -/
def State.freeCycle (s : State) (all own : List Placed) (g a w c : Nat) : Bool :=
  !s.slotStands g a w c && !s.cycleStands g a w c && !(s.jobCycles all g a w 9).contains c && !(s.jobCycles own g a w 9).contains c

/-- An array that evaluates nothing for now: out of use, or of a context that is UNLOADING (R58, R271, R319). -/
def State.arrShut (s : State) (g a : Nat) : Bool :=
  let c := s.get (F.TSK_ARR_STATE_CONTEXT g a)
  s.arrState g a == aQUAR || s.arrState g a == aWFAULT || (decide (c < 64) && s.get (F.GLB_CTX_STATE_STATE c) == 3)

/-- The ceiling of EVAL cycles of a slot for a job: 0 where no evaluation may be placed (R58, R220, R270, R271, R318, R319, R328, R329). -/
def State.evalOpen (s : State) (j : Job) (g slot w : Nat) : Bool :=
  let ctxOf (c : Nat) : Ctx64 := s.ctx c
  s.tskGives j g 0 && !s.chanShut (chanOf g) && !s.arrShut g (s.mapAt g slot w) &&
  (match (s.tuss g).repair with
    | some r => !(r.slot == slot && (decide (2 ≤ r.step ∧ r.step ≤ 4) || r.inPlace))
    | none => true) &&
  (!j.ctxValid ||
    (!bitOf (s.get F.GRS_REP_EXPELLED_EXPELLED) j.ctxNo && (ctxOf j.ctxNo).readmitAt != some s.swath && s.get (F.GLB_CTX_STATE_STATE j.ctxNo) != 3 &&
      !((ctxOf j.ctxNo).wave.any fun x => x.g == g && x.slot == slot && decide (w ≤
        (((ctxOf j.ctxNo).wave.filter fun y => y.layer == x.layer).map WaveItem.last).foldl max 0))))

/-- The reservations of one evaluation in a cycle. -/
def EvalAsk.placedAt (e : EvalAsk) (w c : Nat) (phaseB : Bool) (pass : Bool) : List Placed :=
  let one (ix k : Nat) : List Placed := (List.range e.gang).map fun i => ⟨e.cmd, ix, e.g, k + i, w, c, 0, phaseB⟩
  one e.ix e.slot ++ (match e.mate with
    | some m => one m.1 m.2
    | none => []) ++ (if pass then [⟨e.cmd, e.ix, e.g, 16, w, c, 2, phaseB⟩] else [])

/-- One evaluation placed first-fit in swath `w`, both phases in that swath; or the cause EVAL or PASS. -/
def State.placeEval (s : State) (all own : List Placed) (e : EvalAsk) (w : Nat) : Sum Nat (List Placed) :=
  let arrs := e.slots.map fun k => s.mapAt e.g k w
  let pass := s.passFor e w
  let b (c : Nat) : Nat := s.phaseBCycle e.g (w * 256 + c)
  let free (as : List Nat) (c : Nat) : Bool := as.all fun a => s.freeCycle all own e.g a w c
  let fits (as : List Nat) (c : Nat) : Bool := free as c && (!e.two || (b c / 256 == w && free as (b c % 256)))
  match (List.range 256).find? fun c => fits arrs c && fits pass c with
  | some c => .inr (e.placedAt w c false (!pass.isEmpty) ++ if e.two then e.placedAt w (b c % 256) true (!pass.isEmpty) else [])
  | none => .inl (if (List.range 256).any (fits arrs) then 2 else 0)

/-- The budget of an array in a swath (R215). -/
def State.arrBudget (s : State) (beta : Nat) (open_ : Bool) (g a w : Nat) : Nat :=
  beta * ((if open_ then 256 else 0) - s.arrStanding g a w) / 256

/-- Whether jobs and this job's share would hold more of an array than the budget allows, `more` cycles included. -/
def State.arrOver (s : State) (all own : List Placed) (budget g a w more : Nat) : Bool :=
  decide (budget < (s.jobCycles all g a w 9).length + (s.jobCycles own g a w 9).length + more)

/-- The evaluations of an offset placed one after the other. -/
def State.placeEvals (s : State) (all : List Placed) (w : Nat) : List Placed → List EvalAsk → Sum Nat (List Placed)
  | own, [] => .inr own
  | own, e :: es =>
    match s.placeEval all own e w with
    | .inl c => .inl c
    | .inr ps => s.placeEvals all w (own ++ ps) es

/-- A row write of an AWRITE that is being placed: command, Tussock, slot, rows placed and wanted, the cycles gathered for
the next row, newest first. -/
structure RowAsk where
  cmd : Nat
  g : Nat
  slot : Nat
  done : Nat
  want : Nat
  run : List (Nat × Nat) := []
  deriving DecidableEq, Repr

/-- Five gathered cycles make a row. -/
def RowAsk.take (r : RowAsk) (w c : Nat) : RowAsk × List Placed :=
  let run := (w, c) :: r.run
  if 5 ≤ run.length then
    ({ r with done := r.done + 1, run := [] }, run.map fun x => ⟨r.cmd, r.done, r.g, r.slot, x.1, x.2, 1, false⟩)
  else ({ r with run := run }, [])

/-- Rows placed in the cycles of one swath (R216): restore and check slots are passed over, any other cycle that is not free
breaks the run, and the budget of the array bounds what is taken. -/
def State.placeRows (s : State) (all : List Placed) (budget a w : Nat) : RowAsk → List Placed → List Nat → RowAsk × List Placed
  | r, own, [] => (r, own)
  | r, own, c :: cs =>
    if r.want ≤ r.done then (r, own)
    else if s.slotStands r.g a w c then s.placeRows all budget a w r own cs
    else if s.freeCycle all own r.g a w c && !s.arrOver all own budget r.g a w ((r.run.filter fun x => x.1 == w).length + 1) then
      let (r', ps) := r.take w c
      s.placeRows all budget a w r' (own ++ ps) cs
    else s.placeRows all budget a w { r with run := [] } own cs

/-! ### Trying a slide (R215) -/

/-- What a job would hold, and the row writes it has still to place. -/
structure Share where
  placed : List Placed := []
  units : List Held := []
  rows : List RowAsk := []
  deriving DecidableEq, Repr

/-- Arrays of a list of evaluations, with how many cycles each asks of them. -/
def State.evalNeeds (s : State) (es : List EvalAsk) (w : Nat) (pass : Bool) : List (Nat × Nat) :=
  es.flatMap fun e => (if pass then s.passFor e w else e.slots.map fun k => s.mapAt e.g k w).flatMap fun a =>
    if e.two then [(e.g, a), (e.g, a)] else [(e.g, a)]

/-- An array would be asked for more than its budget. -/
def State.needsOver (s : State) (all own : List Placed) (beta w : Nat) (open_ : Nat → Nat → Bool) (needs : List (Nat × Nat)) : Bool :=
  needs.dedup.any fun p => s.arrOver all own (s.arrBudget beta (open_ p.1 p.2) p.1 p.2 w) p.1 p.2 w (needs.count p)

/-- Kinds 0 to 2 of an offset. -/
def State.tryArrays (s : State) (j : Job) (all : List Placed) (n beta w d : Nat) (sh : Share) : Sum Nat Share :=
  let es := j.evalAsks (s.get F.GRS_CFG_FRACTION == 5) n d
  let shut := es.any fun e => e.slots.any fun k => !s.evalOpen j e.g k w
  if shut ∨ s.needsOver all sh.placed beta w (fun _ _ => true) (s.evalNeeds es w false) = true then .inl 0
  else match s.placeEvals all w sh.placed es with
    | .inl c => .inl c
    | .inr placed =>
      let new := (j.body.filter fun c => cmdOp c.1 == 4 && cmdWso c.1 == d && tfld c.1 0 20 8 / 64 == n).map fun c =>
        (⟨c.2, tfld c.1 0 20 8, tfld c.1 0 28 4, 0, tfld c.1 1 0 10, []⟩ : RowAsk)
      let (rows, placed) := (sh.rows ++ new).foldl (fun (p : List RowAsk × List Placed) r =>
        let a := s.mapAt r.g r.slot w
        let open_ := s.tskGives j r.g 1 && !s.chanShut n
        let (r', own) := s.placeRows all (s.arrBudget beta open_ r.g a w) a w r p.2 (List.range 256)
        (p.1 ++ [r'], own)) ([], placed)
      if j.dlen ≤ d + 1 ∧ rows.any (fun r => decide (r.done < r.want)) = true then .inl 1
      else if s.needsOver all (placed.filter fun p => p.kind != 2) beta w (fun g a => s.tskGives j g 2 && a == s.reserveAt g w)
          (s.evalNeeds es w true) then .inl 2
      else .inr { sh with placed := placed, rows := rows }

/-- Tags that jobs of a channel hold. -/
def State.usedTags (s : State) (n : Nat) : List Nat := (s.jobs.filter fun j => j.chan == n).flatMap Job.tags

/-- Kinds 3 to 13 of an offset, in the order of their codes. The tags that a job's header asks for are its demand of kind 12
in its own channel, beside those of jobs that hold tags (R208, R221). -/
def State.tryUnits (s : State) (j : Job) (n beta w d : Nat) (sh : Share) : Sum Nat Share :=
  let us := j.demand.filter fun u => u.chan == n && u.swath == d
  let beyond (u : Held) : Bool :=
    decide (beta * (s.unitCeiling j u.kind u.unit - s.unitStanding u.kind u.unit w) / 256 < s.jobUnits n u.kind u.unit w + u.amount)
  let noTags := n == j.chan && decide (beta * 16384 / 256 < (s.usedTags n).length + j.tagCount)
  match (List.range 14).find? fun r => (r == 12 && noTags) || us.any fun u => u.kind == r && beyond u with
  | some r => .inl r
  | none => .inr { sh with units := sh.units ++ us.map fun u => { u with swath := w } }

/-- The offsets of a job one after the other, for the share of channel `n`. -/
def State.tryOffsets (s : State) (j : Job) (all : List Placed) (n beta w0 : Nat) : Share → List Nat → Sum Nat Share
  | sh, [] => .inr sh
  | sh, d :: ds =>
    match s.tryArrays j all n beta (w0 + d) d sh with
    | .inl c => .inl c
    | .inr sh =>
      match s.tryUnits j n beta (w0 + d) d sh with
      | .inl c => .inl c
      | .inr sh => s.tryOffsets j all n beta w0 sh ds

/-- The channels whose units a job asks for. -/
def Job.channels (j : Job) : List Nat :=
  (List.range 4).filter fun n => n == j.chan || (j.demand.any fun u => u.chan == n) ||
    j.cmds.any fun c => (cmdOp c == 2 || cmdOp c == 4) && tfld c 0 20 8 / 64 == n

/-- β in force in channel `n`. -/
def State.beta (s : State) (n : Nat) : Nat := s.get (F.CHN_ADM_BUDGET_EFFECTIVE n)

/-- `try_at` of R215: the own share first, then every other channel's with its own β; a refusal gives the cause, and the
causes that the other channels found. -/
def State.tryAt (s : State) (j : Job) (w0 beta : Nat) : Sum (Nat × List (Nat × Nat)) Share :=
  let all := s.allPlaced
  let ds := List.range j.dlen
  match s.tryOffsets j all j.chan beta w0 {} ds with
  | .inl c => .inl (c, [])
  | .inr sh =>
    let rs := (j.channels.filter (· != j.chan)).map fun n => (n, s.tryOffsets j all n (s.beta n) w0 {} ds)
    let bad := rs.filterMap fun r => match r.2 with
      | .inl c => some (r.1, c)
      | .inr _ => none
    if bad.isEmpty then
      .inr (rs.foldl (fun (sh : Share) r => match r.2 with
        | .inl _ => sh
        | .inr x => { sh with placed := sh.placed ++ x.placed, units := sh.units ++ x.units }) sh)
    else .inl (14, bad)

end Sys2Proof.Machine
end

