-- ==== Sys2Proof/Machine/Effects.lean ====
section
/-! DEFINITION. The effect of a change of a context (R267 to R273), before any job of its boundary is decided. -/

namespace Sys2Proof.Machine
open Sys2Proof

/-! ### The effect of a change (R267 to R272) -/

/-- Jobs bound to an image of a context that have no token yet. -/
def State.boundTo (s : State) (c ptr : Nat) : List Job :=
  s.jobs.filter fun j => j.ctxValid && j.ctxNo == c && j.image == ptr && !j.tags.isEmpty

/-- The last swath in which jobs of the old version hold EVAL cycles in a layer's arrays; the swath before the boundary if
none does (R269, step 1). -/
def State.lastEval (s : State) (olds : List Job) (ps : List Placement) : Nat :=
  (((olds.flatMap Job.placed).filter fun x => x.kind == 0 && ps.any fun p => p.tsk == x.g && p.slot == x.slot).map Placed.swath).foldl
    max (s.swath - 1)

/-- Rows written in the cycles of one swath (R216): `run` cycles of the row in hand, and rows still wanted; a cycle that is not free,
other than a restore or check slot, breaks the run. The last number is the first cycle after the last row. -/
def rowsRun (stands free : Nat → Bool) : Nat → Nat → List Nat → Nat × Nat × Nat
  | run, 0, _ => (run, 0, 0)
  | run, want, [] => (run, want, 256)
  | run, want + 1, c :: cs =>
    if stands c then rowsRun stands free run (want + 1) cs
    else if !free c then rowsRun stands free 0 (want + 1) cs
    else if run < 4 then rowsRun stands free (run + 1) (want + 1) cs
    else if want = 0 then (0, 0, c + 1) else rowsRun stands free 0 want cs

/-- The rows of an array placed from a swath on: the last swath, and the first cycle of it that is left over; `left` rows are
still wanted (R216, R269, step 2). -/
def State.waveSpan (s : State) (all : List Placed) (g a : Nat) : Nat → Nat → Nat → Nat → Nat × Nat
  | 0, w, _, _ => (w, 256)
  | fuel + 1, w, run, left =>
    match rowsRun (s.slotStands g a w) (s.freeCycle all [] g a w) run left (List.range 256) with
    | (_, 0, tail) => (w, tail)
    | (run, left, _) => s.waveSpan all g a fuel (w + 1) run left

/-- The item of a placement in a change; none where its Tussock is not in SERVICE (R269, R271, R273). -/
def State.waveItem (s : State) (unload : Bool) (k e h : Nat) (p : Placement) : Option WaveItem :=
  if s.tskState p.tsk ≠ tSERVICE then none
  else
    let after := match (s.tuss p.tsk).window with
      | some x => if x.slot = p.slot ∨ x.arr = s.arrOf p.tsk p.slot then x.lastSwath + 1 else 0
      | none => 0
    let start := max (e + h + 1) after
    if unload then some ⟨k, p.tsk, p.slot, start, start, 0, false, false⟩
    else
      let (last, tail) := s.waveSpan s.allPlaced p.tsk (s.mapAt p.tsk p.slot start) 8192 start 0 512
      some ⟨k, p.tsk, p.slot, start, last, tail, false, false⟩

/-- The check horizon in force for the results of a context (R269, R324). -/
def State.ctxHorizon (s : State) (c : Nat) : Nat :=
  let h := ((s.jobs.filter fun j => j.ctxValid && j.ctxNo == c && !j.tags.isEmpty).map Job.horizon).foldl max 0
  if h = 0 then s.get F.GRS_CFG_HORIZON else h

/-- The resident layers of an image, by index. -/
def Image.residents (i : Image) : List (Layer × Nat) := i.layers.zipIdx.filter fun x => x.1.tier == 0

/-- The items of a change, layer by layer. -/
def State.waveItems (s : State) (c : Nat) (i : Image) (unload : Bool) (olds : List Job) : List WaveItem :=
  i.residents.flatMap fun x =>
    x.1.placements.filterMap (s.waveItem unload x.2 (s.lastEval olds x.1.placements) (s.ctxHorizon c))

/-- The requantisation blocks that a change has to write, with the first swath in which each is due (R269, step 3). -/
def State.rqItems (s : State) (c : Nat) (i : Image) (olds : List Job) : List (Nat × Nat) :=
  i.residents.map fun x => (x.2, s.lastEval olds x.1.placements + s.ctxHorizon c + 1)

/-- A pending change takes effect (R267, R269, R271). -/
def State.effectNow (s : State) (c : Nat) : State :=
  let st := s.get (F.GLB_CTX_STATE_STATE c)
  if s.on (F.GLB_CTX_STATE_PENDING c) = false ∨ s.on (F.GLB_CTX_STATE_BATCH_OPEN c) = true ∨ 2 ≤ st then s
  else
    let x := s.ctx c
    let old := s.get (F.GLB_CTX_PTR_PTR c)
    let new := s.get (F.GLB_CTX_PEND_PEND c)
    let olds := s.boundTo c old
    let unload := x.pendUnload
    match s.image (if unload then old else new) with
    | none => s.set (F.GLB_CTX_STATE_PENDING c) 0
    | some i =>
      let items := s.waveItems c i unload olds
      let rqs := if unload then [] else s.rqItems c i olds
      let s := ((s.set (F.GLB_CTX_STATE_PENDING c) 0).set (F.GLB_CTX_STATE_STATE c) (if unload then 3 else 2)).incMod
        (F.GLB_CTX_STATE_VERSION c)
      let s := if old = 0 then s
        else (s.set (F.GLB_CTX_STATE_OLD_BUSY c) 1).set (F.GLB_CTX_TID_OLD_TID c) (s.get (F.GLB_CTX_TID_CUR_TID c))
      let s := (s.set (F.GLB_CTX_PTR_PTR c) (if unload then 0 else new)).set (F.GLB_CTX_TID_CUR_TID c) (if unload then 0 else i.tid)
      s.updCtx c fun x => { x with
        wave := items, effect := s.swath, pendUnload := false, rqDue := rqs
        olds := if old = 0 then x.olds else x.olds ++ [(old, olds.map Job.id)] }

/-- A change that was pending when the boundary came takes effect, where no batch is open and the context is not REPLACING (R267). -/
def State.changeEffect (s : State) (c : Nat) : State :=
  if (s.ctx c).postSwath < s.swath ∧ s.stopped 0x40 = false then s.effectNow c else s

/-- The requantisation blocks of a context whose swath has come and that no array write has brought along (R269, step 3). -/
def State.rqWrite (s : State) (c : Nat) : State :=
  match s.image (s.get (F.GLB_CTX_PTR_PTR c)) with
  | none => s
  | some i =>
    let due := (s.ctx c).rqDue.filter fun p => decide (p.2 ≤ s.swath)
    let s := due.foldl (fun (s : State) p => match i.layers[p.1]? with
      | some l => s.copyRq l
      | none => s) s
    s.updCtx c fun x => { x with rqDue := x.rqDue.filter fun p => !due.contains p }

end Sys2Proof.Machine
end

