-- ==== Sys2Proof/Machine/Admission.lean ====
section
/-! DEFINITION. Engines and admission (R201 to R205, R214 to R219, R225 to R242, R249 to R251): ring heads, the checks of a
job, what a taken job becomes, and the placement of windows and repairs. Log entries: 8, 9, 29, 30, 32. -/

namespace Sys2Proof.Machine
open Sys2Proof

/-! ### Reads of an engine (R181, R186) -/

/-! ### An engine and its ring (R227 to R231) -/

/-- An error bit of CHN_ENG_STATUS set: vector 20 + n. -/
def State.engErr (s : State) (k : Nat) (f : Fld) : State := (s.set f 1).signal (20 + k / 4)

/-- A ring error stops the engine until EN has been latched as 0 and then as 1 (R229). Log entry 9 (DEDUCED). -/
def State.ringErr (s : State) (k : Nat) : State :=
  (s.engErr k (F.CHN_ENG_STATUS_RING_ERR k)).setEngine k { s.engine k with stopped := true }

/-- Entries of a command ring. -/
def State.ringSize (s : State) (k : Nat) : Nat := 2 ^ s.get (F.CHN_ENG_CFG_RING_LOG2 k)

/-- CONS of an engine, and the entries submitted beyond it. -/
def State.cons (s : State) (k : Nat) : Nat := s.get (F.CHN_ENG_CONS_CONS k)
def State.submitted (s : State) (k : Nat) : Nat := ((s.engine k).prod + 2 ^ 32 - s.cons k) % 2 ^ 32

/-- Address of entry `i` of a command ring. -/
def State.entryAddr (s : State) (k i : Nat) : Nat := s.get (F.CHN_ENG_RING_BASE_BASE k) * 4096 + i % s.ringSize k * 32

/-- Address of the ring control block. -/
def State.ctrlAddr (s : State) (k : Nat) : Nat := s.get (F.CHN_ENG_CTRL_ADDR_ADDR k) * 4096

/-- The engine's read of its ring control block at a boundary (R229). -/
def State.ringRead (s : State) (k : Nat) : State :=
  match s.engRead (k / 4) (s.ctrlAddr k) 256 with
  | (s, .inl _) => s.ringErr k
  | (s, .inr bs) =>
    let prod := leNat (bs.take 4)
    let s := s.set (F.CHN_ENG_PROD_PROD k) prod
    if s.ringSize k < (prod + 2 ^ 32 - s.cons k) % 2 ^ 32 then s.ringErr k
    else s.setEngine k { s.engine k with prod := prod, cplCons := leNat ((bs.drop 8).take 4) }

/-- An engine takes jobs: EN latched, EN still written, no ring error, and its channel core powered. -/
def State.engRuns (s : State) (k : Nat) : Bool :=
  (s.engine k).en && (s.engine k).seen && !(s.engine k).stopped && s.powered (.core (k / 4))

/-- The engine's half of the control block (R228, R230). -/
def State.ctrlWrite (s : State) (k : Nat) : State :=
  s.engWrite (k / 4) (s.ctrlAddr k + 0x100) (leBytes 4 (s.cons k) ++ leBytes 4 0 ++
    leBytes 4 (s.get (F.CHN_ENG_JOBS_JOBS k)) ++ leBytes 4 0 ++ leBytes 8 (s.swath * 8192))

/-! ### Checks of a job (R234 to R242) -/

/-- An address field breaks its alignment or has bits [63:48] set. -/
def addrBad (c : List Nat) (w align : Nat) : Bool := decide (c.getD w 0 % align ≠ 0) || tfld c (w + 1) 16 16 != 0

/-- Words from `w` on that are not 0. -/
def wordsSet (c : List Nat) (w : Nat) : Bool := (c.drop w).any (· != 0)

/-- A JOB command breaks R242. -/
def Job.headBad (j : Job) : Bool :=
  let h := j.hdr
  let ncmd := tfld h 1 0 12
  let d := j.dlen
  tfld h 0 30 2 != 0 || tfld h 1 27 5 != 0 || tfld h 3 7 1 != 0 || tfld h 3 23 9 != 0 || addrBad h 4 8 ||
    decide (j.cls < 4) || ncmd == 0 || j.tagCount == 0 || decide (16384 < j.tagCount) || d == 0 || decide (4093 < d) ||
    decide (16384 < tfld h 3 8 15) || decide (j.cls < d + 2) ||
    (tfld h 2 24 8 != 0 && decide (d < tfld h 2 12 12 + tfld h 2 24 8))

/-- A profile entry breaks R235 or R242. -/
def profBad (d e : Nat) : Bool :=
  decide (d ≤ bitsOf e 0 12) || decide (bitsOf e 12 4 < 3 ∨ 11 < bitsOf e 12 4) || bitsOf e 48 16 != 0 ||
    !unitValid (bitsOf e 12 4) (bitsOf e 16 16)

/-- A body command breaks R242 by its own words. -/
def cmdBad (d : Nat) (c : List Nat) : Bool :=
  decide (d ≤ cmdWso c) ||
  match cmdOp c with
  | 0 => tfld c 0 20 12 != 0 || wordsSet c 1
  | 2 => tfld c 0 28 4 != 0 || tfld c 1 0 14 == 0 || decide (8192 < tfld c 1 0 14) || tfld c 1 14 18 != 0 || addrBad c 2 32 ||
      wordsSet c 4
  | 3 => tfld c 0 24 8 != 0 || tfld c 1 0 24 == 0 || tfld c 1 24 8 != 0 || addrBad c 2 256 || addrBad c 4 256 ||
      (if tfld c 0 20 2 = 1 ∨ tfld c 0 20 2 = 2 then decide (c.getD 6 0 % 8 ≠ 0) else cmdAddr c 6 != 0)
  | 4 => tfld c 1 0 10 == 0 || decide (512 < tfld c 1 0 10 + tfld c 1 10 9) || tfld c 1 29 3 != 0 || addrBad c 2 256 ||
      addrBad c 4 1 || addrBad c 6 1
  | 5 => tfld c 0 26 6 != 0 || tfld c 1 24 8 != 0 || addrBad c 2 256 || addrBad c 4 256 || wordsSet c 6
  | 6 => tfld c 0 26 6 != 0 || c.getD 1 0 != 0 || addrBad c 2 256 || wordsSet c 4
  | 7 => tfld c 0 28 4 != 0 || tfld c 1 14 18 != 0 || addrBad c 2 256 || addrBad c 4 32 || wordsSet c 6
  | 8 => tfld c 0 26 6 != 0 || c.getD 1 0 != 0 || addrBad c 2 256 || wordsSet c 4
  | _ => true

/-- A body command breaks R242 by what it names: its Tussock's state, its templates' tags, its context. -/
def State.cmdRefused (s : State) (j : Job) (c : List Nat) (ix : Nat) : Bool :=
  let st := s.tskState (tfld c 0 20 8)
  match cmdOp c with
  | 2 => st != tSERVICE || ((j.templates ix).any fun t =>
      decide (j.tagCount ≤ tfld t 1 0 14) || (j.ctxValid && tfld t 0 0 4 == 0 && tfld t 0 12 6 != j.ctxNo))
  | 4 => (st != tSERVICE && st != tREEN) || (j.ctxValid && tfld c 1 23 6 != j.ctxNo)
  | _ => false

/-- What is found on a job as it is read and checked: status code and command index. The lowest code is reported, and of its
commands the first (R242, R246). Log entry 9 (DEDUCED). -/
def firstFault (fs : List (Nat × Nat)) : Option (Nat × Nat) :=
  fs.foldl (fun b x => match b with
    | none => some x
    | some y => if x.1 < y.1 ∨ (x.1 = y.1 ∧ x.2 < y.2) then some x else some y) none

/-- The commands of a job that break R242, once its profile and its templates have been read. -/
def State.badCmds (s : State) (j : Job) : List (Nat × Nat) :=
  (if j.headBad || j.prof.any (profBad j.dlen) then [(0x02, 0)] else []) ++
    ((j.body.filter fun c => cmdBad j.dlen c.1 || s.cmdRefused j c.1 c.2).map fun c => (0x02, c.2))

/-! ### Ring heads -/

/-- What stands at a ring head: nothing to take, a NOP, a ring error, a K1 FENCE or INTR, or a job of `n` entries with what
its reading or checking found. -/
inductive Head where
  | nothing
  | nop
  | ringErr
  | fence
  | intr
  | job (j : Job) (n : Nat) (fault : Option (Nat × Nat))
  deriving DecidableEq, Repr

/-- The template lists of a job's sound TASKS commands read, one after the other: the lists, and the status and command of those
that failed (R230). -/
def State.readLists (s : State) (n d : Nat) : List (List Nat × Nat) →
    State × List (Nat × List (List Nat)) × List (Nat × Nat)
  | [] => (s, [], [])
  | (c, ix) :: cs =>
    if cmdOp c = 2 ∧ cmdBad d c = false then
      match s.engRead n (cmdAddr c 2) (tfld c 1 0 14 * 32) with
      | (s, .inl st) => let (s, ls, fs) := s.readLists n d cs; (s, ls, (st, ix) :: fs)
      | (s, .inr bs) => let (s, ls, fs) := s.readLists n d cs; (s, (ix, entries32 bs (tfld c 1 0 14)) :: ls, fs)
    else s.readLists n d cs

/-- The profile of a job: given for a translated K1 job, read from its address where the JOB command is sound (R230, R235). -/
def State.readProf (s : State) (j : Job) (prof : Option (List Nat)) : State × List Nat × List (Nat × Nat) :=
  let np := tfld j.hdr 3 8 15
  match prof with
  | some p => (s, p, [])
  | none =>
    if j.headBad then (s, [], [])
    else match s.engRead j.chan (cmdAddr j.hdr 4) (np * 8) with
      | (s, .inl st) => (s, [], [(st, 0)])
      | (s, .inr bs) => (s, words64 bs np, [])

/-- Where what a job's reading found lies (R230, R243): its profile, the ring entry that could not be read, or the template list of a
command. -/
def State.readAt (s : State) (j : Job) (cmd : Nat) : Nat :=
  if cmd = 0 then cmdAddr j.hdr 4
  else match j.cmds[cmd - 1]? with
    | some [] => s.entryAddr (4 * j.chan + j.eng) (j.ringIndex + cmd)
    | some c => cmdAddr c 2
    | none => 0

/-- A job whose JOB and body words are known: its profile and templates are read, and it is checked (R230, R242); `found` is what
reading its body entries found. -/
def State.checkJob (s : State) (j : Job) (prof : Option (List Nat)) (found : List (Nat × Nat)) : State × Job × Option (Nat × Nat) :=
  let (s, p, f) := s.readProf j prof
  let (s, ls, g) := s.readLists j.chan j.dlen j.body
  let j := { j with prof := p, lists := ls }
  let fault := firstFault (found ++ f ++ g ++ s.badCmds j)
  (s, { j with readUnit := (fault.map fun x => unitOfAddr (s.readAt j x.2)).getD 0xFFFF }, fault)

/-- A job about to be taken by engine `k`. -/
def State.newJob (s : State) (k : Nat) (hdr : List Nat) (cmds : List (List Nat)) (k1 : Bool) : Job :=
  { id := s.nextJob, chan := k / 4, eng := k % 4, ringIndex := s.cons k, recNo := (s.engine k).recs, k1 := k1, hdr := hdr,
    cmds := cmds, prof := [], swath := s.swath, tRead := s.swath * 8192, horizon := (s.chan (k / 4)).horizon }

/-- `n` body entries from entry `i` of the ring on, the first with index `ix`: one that fails is empty, and its status and index
are noted (R230). -/
def State.readBody (s : State) (k i ix : Nat) : Nat → State × List (List Nat) × List (Nat × Nat)
  | 0 => (s, [], [])
  | n + 1 =>
    match s.engRead (k / 4) (s.entryAddr k i) 32 with
    | (s, .inl st) => let (s, cs, fs) := s.readBody k (i + 1) (ix + 1) n; (s, [] :: cs, (st, ix) :: fs)
    | (s, .inr bs) => let (s, cs, fs) := s.readBody k (i + 1) (ix + 1) n; (s, words8 bs :: cs, fs)

/-- The head of a K2 ring (R230). -/
def State.headK2 (s : State) (k : Nat) : State × Head :=
  match s.engRead (k / 4) (s.entryAddr k (s.cons k)) 32 with
  | (s, .inl _) => (s, .ringErr)
  | (s, .inr bs) =>
    let w := words8 bs
    let ncmd := tfld w 1 0 12
    match cmdOp w with
    | 0 => (s, .nop)
    | 1 =>
      if s.submitted k < ncmd + 1 then (s, .nothing)
      else
        let (s, body, bad) := s.readBody k (s.cons k + 1) 1 ncmd
        let (s, j, f) := s.checkJob (s.newJob k w body false) none bad
        (s, .job j (ncmd + 1) f)
    | _ => (s, .job (s.newJob k [] [] false) 1 (some (0x02, 0)))

/-! ### The K1 front end (R249 to R251) -/

/-- Every job that the ring has taken has STATE 2, 3 or 4. -/
def State.ringQuiet (s : State) (k : Nat) : Bool := !s.jobs.any fun j => j.ek == k

/-- CHN_K1_CFG.CLASS in force. -/
def State.k1Class (s : State) (n : Nat) : Nat := max 4 (s.chan n).k1Class

/-- Words of a JOB command, with CTX_VALID 0. Log entry 29 (DESIGN CHOICE). -/
def jobWords (cls hold irq ncmd tags d nprof cookie : Nat) : List Nat :=
  [1 + cls * 2 ^ 8 + hold % 256 * 2 ^ 20 + irq * 2 ^ 28, ncmd + tags * 2 ^ 12, d, nprof * 2 ^ 8, 0, 0, cookie % 65536, 0]

/-- A K1 COPY translated: the JOB words, its COPY and its profile; none outside the limits of R251. -/
def State.k1Copy (s : State) (n : Nat) (w : List Nat) : Option (List Nat × List Nat × List Nat) :=
  let nblk := tfld w 0 11 21
  let src := w.getD 1 0 * 256
  let dst := w.getD 2 0 * 256
  let cls := s.k1Class n
  let last (a : Nat) : Nat := (a + 256 * nblk - 1) / stackSize
  if src / stackSize = dst / stackSize ∧ last src = src / stackSize ∧ last dst = src / stackSize ∧ src < stackEnd ∧
      nblk ≤ 1024 * (cls - 2) then
    let d := (nblk + 1023) / 1024
    let tid := (Config.k1CopyTid src (s.block src).tid).toNat
    some (jobWords cls (s.chan n).k1Hold (tfld w 0 4 1) 1 1 d d (tfld w 3 0 16),
      [3, nblk, src % 2 ^ 32, src / 2 ^ 32, dst % 2 ^ 32, dst / 2 ^ 32, 0, tid * 2 ^ 16],
      (List.range d).map fun o => o + 9 * 2 ^ 12 + src / stackSize * 2 ^ 16 + 2048 * 2 ^ 32)
  else none

/-- The load profile that a package's header names: its length in swaths and its entries (R254); "bad command" where the header names
more entries or swaths than a JOB command can (R234). -/
def State.k1Prof (s : State) (n pkg : Nat) : State × Sum Nat (Nat × List Nat) :=
  match s.engRead n pkg 256 with
  | (s, .inl st) => (s, .inl st)
  | (s, .inr h) =>
    let np := leNat ((h.drop 0x12).take 2)
    let d := leNat ((h.drop 0x1C).take 2)
    if 16384 < np ∨ 4093 < d then (s, .inl 0x02)
    else match s.engRead n (pkg + leNat ((h.drop 0x18).take 4) * 256) (np * 8) with
      | (s, .inl st) => (s, .inl st)
      | (s, .inr bs) => (s, .inr (d, words64 bs np))

/-- A K1 command rejected, or whose template, template job or package header could not be read at `a`: a job of one entry with its IRQ
and cookie, and that status for its command 0. Log entry 9 (DESIGN CHOICE). -/
def State.k1Reject (s : State) (k : Nat) (w : List Nat) (st a : Nat) : Head :=
  .job { s.newJob k (jobWords 0 0 (tfld w 0 4 1) 0 0 0 0 (tfld w 3 0 16)) [] true with readUnit := unitOfAddr a } 1 (some (st, 0))

/-- A RUN template with its addresses replaced: SRC of the first COPY, DST of the last. -/
def k1Patch (cmds : List (List Nat)) (src dst : Nat) : List (List Nat) :=
  let put (c : List Nat) (w a : Nat) : List Nat := (c.set w (a % 2 ^ 32)).set (w + 1) (c.getD (w + 1) 0 / 65536 * 65536 + a / 2 ^ 32)
  match cmds with
  | [] => []
  | c :: cs =>
    let cs' := put c 2 src :: cs
    cs'.take (cs'.length - 1) ++ (cs'.getLast?.toList.map fun l => put l 4 dst)

/-- A command of a K1 template stays below 0x100_0000_0000 with every address, and does not reach T3 (R251). -/
def k1Reach (c : List Nat) : Bool :=
  let ok (w n : Nat) : Bool := decide (cmdAddr c w < 0x10000000000 ∧ cmdAddr c w + 256 * n ≤ 0x10000000000)
  match cmdOp c with
  | 2 => ok 2 0
  | 3 => tfld c 0 20 2 != 1 && tfld c 0 20 2 != 2 && ok 2 (tfld c 1 0 24) && ok 4 (tfld c 1 0 24)
  | 4 => ok 2 ((tfld c 1 0 10 + 1) / 2) && ok 4 2 && ok 6 0
  | 5 => ok 2 (tfld c 1 0 24) && ok 4 0
  | 6 => ok 2 0
  | 7 => ok 2 0 && ok 4 0
  | 8 => ok 2 1
  | _ => true

/-- A K1 RUN translated from the template of its context. A template entry, template job or package header that can not be read ends it as `k1Reject` says. Log entry 9 (DESIGN CHOICE). -/
def State.k1Run (s : State) (k : Nat) (w : List Nat) : State × Head :=
  let n := k / 4
  let bad (s : State) (st a : Nat) : State × Head := (s, s.k1Reject k w st a)
  let entry := (s.chan n).k1Tmpl * 8 + tfld w 0 5 6 * 8
  match s.engRead n entry 8 with
  | (s, .inl st) => bad s st entry
  | (s, .inr p) =>
    let t := leNat p % 2 ^ 48
    match s.engRead n t 32 with
    | (s, .inl st) => bad s st t
    | (s, .inr bs) =>
      let h := words8 bs
      let ncmd := tfld h 1 0 12
      match s.engRead n (t + 32) (ncmd * 32) with
      | (s, .inl st) => bad s st (t + 32)
      | (s, .inr body) =>
        let cs := entries32 body ncmd
        let isCopy (c : Option (List Nat)) : Bool := (c.map cmdOp) == some 3
        if cmdOp h = 1 ∧ isCopy cs.head? = true ∧ isCopy cs.getLast? = true then
          let h0 := h.getD 0 0
          let h0 := h0 - tfld h 0 20 9 * 2 ^ 20 + (s.chan n).k1Hold * 2 ^ 20 + tfld w 0 4 1 * 2 ^ 28
          let h := ((h.set 0 h0).set 6 (tfld w 3 0 16)).set 7 0
          let j := s.newJob k h (k1Patch cs (w.getD 1 0 * 256) (w.getD 2 0 * 256)) true
          let beyond := (j.body.filter fun c => !k1Reach c.1).map fun c => (0x02, c.2)
          let (s, j, f) := s.checkJob j none beyond
          (s, .job j 1 f)
        else bad s 0x02 t

/-- A K1 LOAD translated: one LOADPKG at class 4,095 with the profile of the package. A package header that can not be read ends it as `k1Reject` says. Log entry 9 (DESIGN CHOICE). -/
def State.k1Load (s : State) (k : Nat) (w : List Nat) : State × Head :=
  let n := k / 4
  let pkg := w.getD 1 0 * 256
  match s.k1Prof n pkg with
  | (s, .inl st) => (s, s.k1Reject k w st pkg)
  | (s, .inr (d, prof)) =>
    let ctx := tfld w 0 5 6
    let dst := (Config.k1Dest ctx pkg).toNat * 256
    let j := s.newJob k (jobWords 4095 (s.chan n).k1Hold (tfld w 0 4 1) 1 1 d prof.length (tfld w 3 0 16))
      [[5 + ctx * 2 ^ 20, tfld w 0 11 21, pkg % 2 ^ 32, pkg / 2 ^ 32, dst % 2 ^ 32, dst / 2 ^ 32, 0, 0]] true
    let (s, j, f) := s.checkJob j (some prof) []
    (s, .job j 1 f)

/-- The head of a K1 ring: nothing while a FENCE holds, and no INTR before its condition does, so that nothing behind it is taken (R250).
Log entry 9 (DESIGN CHOICE). -/
def State.headK1 (s : State) (k : Nat) : State × Head :=
  if (s.engine k).fence then (s, .nothing)
  else match s.engRead (k / 4) (s.entryAddr k (s.cons k)) 32 with
    | (s, .inl _) => (s, .ringErr)
    | (s, .inr bs) =>
      let w := words8 bs
      match tfld w 0 0 4 with
      | 0 => (s, .nop)
      | 1 => s.k1Run k w
      | 2 =>
        match s.k1Copy (k / 4) w with
        | some (h, c, p) =>
          let (s, j, f) := s.checkJob (s.newJob k h [c] true) (some p) []
          (s, .job j 1 f)
        | none => (s, s.k1Reject k w 0x02 0)
      | 3 => s.k1Load k w
      | 4 => (s, .fence)
      | 5 => if s.ringQuiet k then (s, .intr) else (s, .nothing)
      | _ => (s, s.k1Reject k w 0x02 0)

/-- What engine `k` has to take. -/
def State.head (s : State) (k : Nat) : State × Head :=
  if !s.engRuns k || s.submitted k == 0 || (s.engine k).tried == s.swath + 1 then (s, .nothing)
  else if s.on (F.CHN_ENG_CFG_FMT k) then s.headK1 k else s.headK2 k

/-! ### Taking a job (R202, R204, R214, R215, R230, R231) -/

/-- CONS past `n` entries. -/
def State.advance (s : State) (k n : Nat) : State := s.set (F.CHN_ENG_CONS_CONS k) (s.cons k + n)

/-- A completion slot is free for the next job; a job that waits for one sets CPL_FULL or CPL_EARLY (R231). A slot is in use
until the token of its record, from the taking of its job on. -/
def State.slotFree (s : State) (k : Nat) : State × Bool :=
  let e := s.engine k
  if s.cplSlots k ≤ (e.recs + 2 ^ 32 - e.cplCons) % 2 ^ 32 then (s.engErr k (F.CHN_ENG_STATUS_CPL_FULL k), false)
  else if e.waiting.contains (e.recs % s.cplSlots k) ||
      s.jobs.any (fun j => j.ek == k && j.recNo % s.cplSlots k == e.recs % s.cplSlots k) then (s.engErr k (F.CHN_ENG_STATUS_CPL_EARLY k), false)
  else (s, true)

/-- Free request tags of a channel, lowest first: `k` of them from `t` on. Log entry 8 (DESIGN CHOICE). -/
def freeTags (used : List Nat) : Nat → Nat → Nat → List Nat
  | 0, _, _ => []
  | fuel + 1, t, k =>
    if k = 0 then [] else if used.contains t then freeTags used fuel (t + 1) k else t :: freeTags used fuel (t + 1) (k - 1)

/-- What taking a job of a context does to its batch (R267): it opens, and BATCH_END closes it. -/
def State.batchTake (s : State) (j : Job) : State :=
  if j.hdr.isEmpty || !j.ctxValid then s else s.set (F.GLB_CTX_STATE_BATCH_OPEN j.ctxNo) (natOf (!j.batchEnd))

/-- A job is taken: CONS, JOBS, the record count, the batch, and the versions that it binds to (R230, R231, R267, R268). -/
def State.take (s : State) (k n : Nat) (j : Job) : State :=
  let e := s.engine k
  let j := { j with
    held := e.holdLeft.isSome
    image := if j.ctxValid then s.get (F.GLB_CTX_PTR_PTR j.ctxNo) else 0
    vers := (j.body.filter fun c => cmdOp c.1 == 4).map fun c => (c.2, s.get (F.GLB_CTX_PTR_PTR (tfld c.1 1 23 6)))
    clipTensor := 0xFFFF }
  let s := ((s.advance k n).incMod (F.CHN_ENG_JOBS_JOBS k)).set (F.CHN_ENG_STATUS_HELD k) 0
  let s := s.setEngine k { e with recs := (e.recs + 1) % 2 ^ 32, holdLeft := none }
  let s := s.batchTake j
  State.recount { s with jobs := s.jobs ++ [j], nextJob := s.nextJob + 1 }

/-- A job taken that ends at once: rejected, refused, or unreadable; it holds no tags and no units. -/
def State.takeEnded (s : State) (k n : Nat) (j : Job) (status cmd cause : Nat) : State :=
  let s := if status = 0x02 then s.inc (F.CHN_ENG_STATUS_BADCMD_CNT k) else s
  let unit := if 0x0F ≤ status ∧ status ≤ 0x12 then j.readUnit else 0xFFFF
  s.take k n { j with err := some ⟨status, cmd, unit, s.time⟩, cause := cause }

/-- The share of ceiling minus standing that jobs hold of a unit, in 1/256 (CHN_ADM_SATk.PEAK). -/
def shareOf (held room : Nat) : Nat := if room = 0 then 255 else min 255 (256 * held / room)

/-- PEAK of every kind in which an admitted job holds something. -/
def State.peaks (s : State) (j : Job) : State :=
  let s := j.units.foldl (fun (s : State) u =>
    if 11 < u.kind then s
    else s.raise (F.CHN_ADM_SAT_PEAK u.chan u.kind) (shareOf (s.jobUnits u.chan u.kind u.unit u.swath)
      (s.unitCeiling j u.kind u.unit - s.unitStanding u.kind u.unit u.swath))) s
  let all := s.allPlaced
  ((j.placed.map fun p => (p.g, s.placedArr p, p.swath, p.kind)).dedup).foldl (fun (s : State) p =>
    s.raise (F.CHN_ADM_SAT_PEAK (chanOf p.1) p.2.2.2) (shareOf (s.jobCycles all p.1 p.2.1 p.2.2.1 p.2.2.2).length
      (256 - s.arrStanding p.1 p.2.1 p.2.2.1))) s

/-- A job admitted at slide `sl` with its share (R202, R215). -/
def State.admitJob (s : State) (k n : Nat) (j : Job) (sl : Nat) (sh : Share) : State :=
  let j := { j with slide := sl, placed := sh.placed, units := sh.units,
                    tags := freeTags (s.usedTags j.chan) 16384 0 j.tagCount }
  ((s.take k n j).incMod (F.CHN_ADM_ADMITTED_COUNT j.chan)).peaks j

/-- The first slide at which a job fits, or the cause at the earliest slide with what other channels found there. -/
def State.trySlides (s : State) (j : Job) (beta : Nat) (first : Option (Nat × List (Nat × Nat))) :
    List Nat → Sum (Nat × List (Nat × Nat)) (Nat × Share)
  | [] => .inl (first.getD (0, []))
  | k :: ks =>
    match s.tryAt j (j.swath + 1 + k) beta with
    | .inr sh => .inr (k, sh)
    | .inl c => s.trySlides j beta (some (first.getD c)) ks

/-- The slides that may be tried (R202, R215). -/
def State.slides (s : State) (j : Job) : List Nat :=
  (List.range ((s.chan j.chan).slideMax + 1)).filter fun k => decide (k + j.dlen + 2 ≤ j.cls)

/-- A job finally refused (R215, R217): its counters, and those of the channels that refused their share. -/
def State.refuse (s : State) (k n : Nat) (j : Job) (cause : Nat) (others : List (Nat × Nat)) (throttled : Bool) : State :=
  let s := (s.inc (F.CHN_ADM_REFUSED_REFUSED j.chan)).inc (F.CHN_ADM_SAT_REFUSED_CNT j.chan cause)
  let s := others.foldl (fun (s : State) p => s.inc (F.CHN_ADM_SAT_REFUSED_CNT p.1 p.2)) s
  let s := if throttled then s.inc (F.CHN_ADM_REFUSED_THROTTLED j.chan) else s
  s.takeEnded k n { j with throttled := throttled } 0x01 0 cause

/-- A job held at its ring head (R204). -/
def State.hold (s : State) (k left : Nat) : State :=
  let s := (s.set (F.CHN_ENG_STATUS_HELD k) 1).inc (F.CHN_ADM_HELD_HELD (k / 4))
  s.setEngine k { s.engine k with holdLeft := some left, tried := s.swath + 1 }

/-- The decision on a checked job (R215). -/
def State.decideJob (s : State) (k n : Nat) (j : Job) : State :=
  if 16384 < (s.usedTags j.chan).length + j.tagCount then s.refuse k n j 12 [] false
  else
    let ks := s.slides j
    match s.trySlides j (s.beta j.chan) none ks with
    | .inr (sl, sh) => s.admitJob k n j sl sh
    | .inl (c, others) =>
      let left := (s.engine k).holdLeft.getD j.holdCount
      if 0 < left then s.hold k (left - 1)
      else
        let fits := match s.trySlides j 256 none ks with
          | .inr _ => true
          | .inl _ => false
        s.refuse k n j c others fits

/-- A grant to engine `k` (R214): what stands at its ring head is taken, or tried; nothing happens where there is nothing.
The flag says whether it counts towards ADM_MAX. -/
def State.grant (s : State) (k : Nat) : State × Bool :=
  match s.head k with
  | (s, .nothing) => (s, false)
  | (s, .nop) => (s.advance k 1, false)
  | (s, .ringErr) => (s.ringErr k, false)
  | (s, .fence) => ((s.advance k 1).setEngine k { s.engine k with fence := true }, false)
  | (s, .intr) => ((s.advance k 1).signal k, false)
  | (s, .job j n fault) =>
    match s.slotFree k with
    | (s, false) => (s, false)
    | (s, true) =>
      match fault with
      | some (st, cmd) => (s.takeEnded k n j st cmd 0xFF, true)
      | none => (s.decideJob k n j, true)

/-! ### Admission at a boundary (R214, R215, R224) -/

/-- Jobs that a channel may take or try at one boundary. -/
def State.admMax (s : State) (n : Nat) : Nat :=
  if (s.chan n).admMax = 0 then 64 else (s.chan n).admMax

/-- The admission of a channel runs: its boundary's is open, nothing has closed the channel, and ADM_MAX is not reached. -/
def State.admOpen (s : State) (n : Nat) : Bool :=
  let c := s.chan n
  c.opened && !c.closed && !s.chanShut n && decide (c.taken < s.admMax n)

/-- NOPs, fences and interrupts at a ring head are taken in passing, at most `fuel` of them. -/
def State.skipHeads (s : State) (k : Nat) : Nat → State
  | 0 => s
  | fuel + 1 =>
    match s.head k with
    | (_, .nothing) => s
    | (_, .job _ _ _) => s
    | _ => (s.grant k).1.skipHeads k fuel

/-- A job stands at the ring head of engine `k` with a completion slot free. -/
def State.offers (s : State) (k : Nat) : Bool :=
  match s.head k with
  | (s, .job _ _ _) => (s.slotFree k).2
  | _ => false

/-- The engine with the next grant: round-robin from the pointer among those that offer a job. Log entry 8 (DESIGN CHOICE). -/
def State.nextEngine (s : State) (n : Nat) : Option Nat :=
  (((List.range 4).map fun i => ((s.chan n).rr + i) % 4).find? fun e => s.offers (4 * n + e))

/-- A counted grant to engine `e`: the pointer moves past it. -/
def State.grantTo (s : State) (n e : Nat) : State :=
  let (s, counted) := s.grant (4 * n + e)
  if counted then s.setChan n { s.chan n with rr := (e + 1) % 4, taken := (s.chan n).taken + 1 } else s

/-- The job that channel `n` decides next, with its engine, where it spans channels. -/
def State.spanNext (s : State) (n : Nat) : Option (Nat × Job) :=
  if !s.admOpen n then none
  else match s.nextEngine n with
    | none => none
    | some e =>
      match s.head (4 * n + e) with
      | (_, .job j _ none) => if j.channels.all (· == n) then none else some (e, j)
      | _ => none

/-- A channel's own grants of a boundary (R224): heads that are no jobs first, then one job after another, up to one that spans
channels. -/
def State.grants (s : State) (n : Nat) : Nat → State
  | 0 => s
  | fuel + 1 =>
    if !s.admOpen n then s
    else
      let s := (List.range 4).foldl (fun (s : State) e => s.skipHeads (4 * n + e) (s.submitted (4 * n + e))) s
      if (s.spanNext n).isSome then s
      else match s.nextEngine n with
      | some e => (s.grantTo n e).grants n fuel
      | none =>
        -- a head job that finds no completion slot waits, and says so (R231)
        (List.range 4).foldl (fun (s : State) e => (s.grant (4 * n + e)).1) s

/-- Channel `n` comes before channel `k` in the round of requests to channel `m` (R224). -/
def State.before (s : State) (m n k : Nat) : Bool :=
  let r := (s.chan m).rrReq
  decide ((n + 4 - r) % 4 < (k + 4 - r) % 4)

/-- The channel whose job that spans channels is decided next (R217, R224): one that asks no channel whose own job is still undecided,
and that no other precedes in the round of any channel that both ask. Channels that ask each other in a ring go in the order of the
rounds alone, or else the first. Log entry 8 (DESIGN CHOICE). -/
def State.spanTurn (s : State) : Option (Nat × Nat × Job) :=
  let xs := (List.range 4).filterMap fun n => (s.spanNext n).map fun p => (n, p.1, p.2)
  let round (x : Nat × Nat × Job) : Bool := xs.all fun y => y.1 == x.1 ||
    (x.2.2.channels.filter fun m => m != x.1 && m != y.1 && y.2.2.channels.contains m).all fun m => s.before m x.1 y.1
  let own (x : Nat × Nat × Job) : Bool := xs.all fun y => y.1 == x.1 || !x.2.2.channels.contains y.1
  (((xs.find? fun x => own x && round x).orElse fun _ => xs.find? own).orElse fun _ => xs.find? round).orElse fun _ => xs.head?

/-- A job of engine `e` of channel `n` that spans channels is decided, after the own jobs of the channels that it asks (R217). -/
def State.grantSpan (s : State) (n e : Nat) (j : Job) : State :=
  let ms := j.channels.filter (· != n)
  let s := ms.foldl (fun (s : State) m => s.grants m (s.admMax m)) s
  let s := s.grantTo n e
  ms.foldl (fun (s : State) m => s.setChan m { s.chan m with rrReq := (n + 1) % 4 }) s

/-- Every grant still due at a boundary, in every channel: own jobs, then those that span channels in turn. -/
def State.grantAll (s : State) : Nat → State
  | 0 => s
  | fuel + 1 =>
    let s := (List.range 4).foldl (fun (s : State) n => s.grants n (s.admMax n)) s
    match s.spanTurn with
    | none => s
    | some (n, e, j) => (s.grantSpan n e j).grantAll fuel

/-! ### Before the first job of a boundary (R232, R267) -/

/-- EN is latched from 0 to 1: CONS, JOBS and the record count start at 0, the control block is written, and the ring is read. -/
def State.enable (s : State) (k : Nat) : State :=
  let s := s.setEngine k { en := true, seen := true, live := true }
  let s := ((s.set (F.CHN_ENG_CONS_CONS k) 0).set (F.CHN_ENG_JOBS_JOBS k) 0).recount
  (s.ctrlWrite k).ringRead k

/-- EN is latched as 0: the engine takes no further job. -/
def State.disable (s : State) (k : Nat) : State :=
  ((s.setEngine k { s.engine k with en := false, holdLeft := none }).set (F.CHN_ENG_STATUS_HELD k) 0).recount

/-- EN of engine `k` is latched as the boundary found it (R232): a written 1 waits until RUNNING reads 0. -/
def State.latchEn (s : State) (k : Nat) : State :=
  let e := s.engine k
  if !(s.chan (k / 4)).opened then s
  else if e.seen && !e.en && !s.on (F.CHN_ENG_STATUS_RUNNING k) then s.enable k
  else if !e.seen && e.en then s.disable k
  else s

/-- What comes at a boundary before any of its jobs is decided (R232, R267): EN of every engine is latched, and the changes of contexts
that were pending when it came take effect. -/
def State.ready (s : State) : State :=
  if !s.fresh then s
  else
    let s := (List.range 16).foldl State.latchEn { s with fresh := false }
    (List.range 64).foldl State.changeEffect s

/-- A single grant at the request of a command: only while admission runs. A job is granted only to the engine whose turn it
is, and one that spans channels only when its turn among them has come; what is no job is taken at once. Log entry 8 (DESIGN CHOICE). -/
def State.grantOne (s : State) (n e : Nat) (isIt : Head → Bool) : State :=
  let s := s.ready
  let k := 4 * n + e
  if !s.admOpen n then s
  else
    match s.head k with
    | (_, .job j m f) =>
      if !isIt (.job j m f) then s
      else if s.nextEngine n == some e then
        match s.spanNext n with
        | none => s.grantTo n e
        | some (_, j) =>
          let s := (j.channels.filter (· != n)).foldl (fun (s : State) m => s.grants m (s.admMax m)) s
          match s.spanTurn with
          | some (n', _, _) => if n' = n then s.grantSpan n e j else s
          | none => s
      else if !s.offers k then s.grantTo n e else s
    | (_, h) => if isIt h then (s.grant k).1 else s

/-! ### Windows and repairs (R211, R212, R219) -/

/-- DEFER_LIMIT in force. -/
def State.deferLimit (s : State) (n : Nat) : Nat :=
  if (s.chan n).deferLimit = 0 then 256 else (s.chan n).deferLimit

/-- A window asked for would fit from a swath on, beside what jobs and other standing reservations hold. -/
def State.windowFits (s : State) (g : Nat) (a : Ask) (start : Nat) : Bool :=
  let n := chanOf g
  let t := s.tuss g
  let x : Window := { kind := a.kind, slot := a.slot, arr := a.arr, start := start }
  let inIt (w : Nat) : Bool := decide (start ≤ w ∧ w ≤ x.lastSwath)
  let moving := a.kind == WinKind.rotation || a.kind == WinKind.transit
  let mine := s.allPlaced.filter fun p => p.g == g && inIt p.swath
  (mine.all fun p => if moving then p.kind != 2 else s.placedArr p != a.arr) &&
  ((s.chan n).repairs.all fun r => r.g != g || r.at_.all fun p => s.windowArr g p.1 x != some r.a) &&
  ((s.jobs.flatMap Job.units).all fun u => !(u.chan == n && u.kind == 4 && u.unit == g && x.phase u.swath == some true) ||
    decide (s.jobUnits n 4 g u.swath + 768 + max (shadowClocks s.fractionNow) (shadowClocks s.fractionNext) ≤ 11520)) &&
  ((s.waves g).all fun y => y.slot != a.slot && s.mapAt g y.slot start != a.arr) &&
  (t.repair.isNone || a.gorse || (a.kind == WinKind.inPlace && t.repair.all fun r => decide (5 ≤ r.step) && r.arr != a.arr)) &&
  (t.window.isNone) && s.tskState g == tSERVICE

/-- The OVERDUE bit of a Tussock whose window has waited too long, this boundary included (R290). -/
def State.markOverdue (s : State) (g : Nat) : State :=
  match (s.tuss g).ask with
  | none => s
  | some a =>
    if s.deferLimit (chanOf g) < s.swath + 1 - a.since ∧ s.on (F.BRK_STATUS_OVERDUE g) = false then
      s.brkFault g (F.BRK_STATUS_OVERDUE g)
    else s

/-- The window that a Tussock asks for is placed: in the next swath, or, when overdue, at the earliest swath where it fits.
Otherwise it waits (R211, R219). Log entry 30 (DEDUCED). -/
def State.offerWindow (s : State) (g : Nat) (overdue : Bool) : State :=
  match (s.tuss g).ask with
  | none => s
  | some a =>
    let late := decide (s.deferLimit (chanOf g) < s.swath - a.since)
    if overdue then
      if !late then s
      else match (List.range 4095).find? fun i => s.windowFits g a (s.swath + 1 + i) with
        | some i => s.placeWindow g (s.swath + 1 + i) true
        | none => s
    else if s.windowFits g a (s.swath + 1) then s.placeWindow g (s.swath + 1) false
    else (s.set (F.BRK_DEFER_WAIT g) (min 65535 (s.swath + 1 - a.since))).markOverdue g

/-- Five cycles for a repair rewrite in one swath, under the row-write rule (R212, R216). -/
def State.repairCycles (s : State) (r : Repair) (w : Nat) : List (Nat × Nat) :=
  let all := s.allPlaced
  let rec go : List Nat → List Nat → List Nat
    | run, [] => if run.length = 5 then run else []
    | run, c :: cs =>
      if run.length = 5 then run
      else if s.slotStands r.g r.a w c then go run cs
      else if s.freeCycle all [] r.g r.a w c then go (run ++ [c]) cs
      else go [] cs
  (go [] (List.range 256)).map fun c => (w, c)

/-- What Bracken asks for as a pass starts or a window ends was asked for at the boundary before, with its first swath the one that opens:
windows follow each other without a gap (R211, R288, R290). Log entry 30 (DEDUCED). -/
def State.askOn (s : State) (g : Nat) : State :=
  let s := s.askNow g
  match (s.tuss g).ask with
  | none => s
  | some a => if (s.chan (chanOf g)).opened ∧ a.since = s.swath ∧ s.windowFits g a s.swath = true then s.placeWindow g s.swath false else s

/-- One waiting repair placed where it fits: in the next swath, or from there on when it is overdue; one whose cycles have passed without
its row write is placed anew (R212). Log entry 32 (DESIGN CHOICE). -/
def State.offerRepair (s : State) (n : Nat) (overdue : Bool) (r : Repair) : State :=
  let late := decide (s.deferLimit n < s.swath - (r.since + 1))
  if r.at_.any (fun p => decide (s.swath ≤ p.1)) || s.tskState r.g != tSERVICE || overdue != late then s
  else
    let try_ (i : Nat) : List (Nat × Nat) := s.repairCycles r (s.swath + 1 + i)
    match (List.range (if overdue then 4095 else 1)).find? fun i => !(try_ i).isEmpty with
    | none => s
    | some i => s.setChan n { s.chan n with repairs := (s.chan n).repairs.map fun x =>
        if x.g = r.g ∧ x.a = r.a ∧ x.row = r.row then { x with at_ := try_ i, overdue := late, holds := (s.arr r.g r.a).holds } else x }

/-- Windows and repairs of a channel: the overdue ones ahead of jobs, the others in what is left (R215, R219, R224). -/
def State.placeStanding (s : State) (n : Nat) (overdue : Bool) : State :=
  if s.stopped (0x20 + n) then s else
  let s := (s.tussOf n).foldl (fun s g => s.offerWindow g overdue) s
  (s.chan n).repairs.foldl (fun s r => s.offerRepair n overdue r) s

/-! ### The boundary and the end of admission -/

/-- β latched for a channel (R218). -/
def State.latchBeta (s : State) (n : Nat) : State :=
  s.set (F.CHN_ADM_BUDGET_EFFECTIVE n) (min (min (s.get (F.CHN_ADM_BUDGET_THM n)) (s.get (F.CHN_ADM_BUDGET_PWR n)))
    (min 256 (s.get (F.CHN_ADM_CFG_HOST_BUDGET n))))

/-- What a channel does when a boundary comes: β, EN and DRAIN as they stand, the rings, what Bracken asks for, and what is
overdue placed (R215, R218, R229, R455); only in Run (R415). Admission is open from then until it closes. Log entry 8 (DESIGN CHOICE). An engine that RING_ERR has stopped writes its control block half no more. Log entry 8 (DESIGN CHOICE). -/
def State.boundaryChan (s : State) (n : Nat) : State :=
  if !s.powered (.core n) || s.get F.PWR_STATUS_STATE != 0 then s
  else
    let s := s.latchBeta n
    let s := s.setChan n { s.chan n with
      taken := 0, opened := true, sideUe := 0, closed := (s.chan n).closing, drain := bitOf (s.get F.GLB_CHN_CTRL_DRAIN) n
      slideMax := s.get (F.CHN_ADM_CFG_SLIDE_MAX n), deferLimit := s.get (F.CHN_ADM_CFG_DEFER_LIMIT n)
      admMax := s.get (F.CHN_ADM_CFG_ADM_MAX n), k1Tmpl := s.get (F.CHN_K1_TMPL_ADDR n)
      k1Class := s.get (F.CHN_K1_CFG_CLASS n), k1Hold := s.get (F.CHN_K1_CFG_HOLD n), horizon := s.get F.GRS_CFG_HORIZON }
    let s := (List.range 4).foldl (fun (s : State) e =>
      let k := 4 * n + e
      let s := s.setEngine k { s.engine k with seen := s.on (F.CHN_ENG_CFG_EN k), live := false }
      let s := s.setEngine k { s.engine k with live := s.engRuns k }
      if s.engRuns k then s.ringRead k else s) s
    let s := (s.tussOf n).foldl (fun s g =>
      if s.onT g && !s.stopped (0x20 + n) then s.planWindow g else s) s
    (s.placeStanding n true).shrinkBit n

/-- Admission of a boundary ends in a channel: the windows and repairs that jobs leave room for, and the control blocks of the engines
that ran (R202, R215, R230). -/
def State.closeAdmission (s : State) (n : Nat) : State :=
  if !(s.chan n).opened then s
  else
    let s := (s.placeStanding n false).shrinkBit n
    let s := (List.range 4).foldl (fun (s : State) e => if (s.engine (4 * n + e)).live then s.ctrlWrite (4 * n + e) else s) s
    s.setChan n { s.chan n with opened := false }

/-- Admission ends in every channel, with the grants still due. Log entry 8 (DESIGN CHOICE). -/
def State.closeAll (s : State) : State := (List.range 4).foldl State.closeAdmission (s.ready.grantAll 256)

/-! ### Bracken's boundaries -/

/-- `PASS_START` (R287). -/
def execPassStart (g : Tsk) (s : State) : Host.Outcome State Fault Refusal :=
  .next (s.ifT g fun s => (s.passStart g).askNow g)

/-- An exchange, with which a transit of the walk ends and the next step begins (R153, R288). -/
def State.slotExchange (s : State) (g : Nat) : State :=
  let t := s.tryExchange g
  if ((s.tuss g).window.any fun w => w.kind == WinKind.transit) && t.reserveOf g != s.reserveOf g then t.askOn g else t

/-- `SLOT_EXCHANGE` (R153). -/
def execSlotExchange (g : Tsk) (s : State) : Host.Outcome State Fault Refusal := .next (s.ifT g fun s => s.slotExchange g)

/-- `WINDOW_END` (R286). -/
def execWindowEnd (g : Tsk) (s : State) : Host.Outcome State Fault Refusal :=
  .next (s.ifT g fun s => if (s.tuss g).window.isSome then (s.windowEnd g).askOn g else s)

end Sys2Proof.Machine
end

