-- ==== Sys2Proof/Machine/Mesh.lean ====
section
/-! DEFINITION. The ways of blocks through the channel meshes and bridges (R161 to R169), as the units of R235 whose slots a block
takes on each of them. Log entries: 29. -/

namespace Sys2Proof.Machine
open Sys2Proof

/-- Where a block enters or leaves a channel's mesh (R162). -/
inductive MeshEnd where
  /-- the local port of a Tussock's router, by the Tussock's number in its channel -/
  | local_ (t : Nat)
  /-- a link of stack port `x` -/
  | stack (x : Nat) (second : Bool)
  | lea
  | bridge (b : Nat)
  /-- the channel core -/
  | core
  deriving DecidableEq, Repr

/-- The router of an attachment and its port there (R19, R162, R235). -/
def MeshEnd.at_ : MeshEnd → Nat × Nat × Nat
  | .local_ t => (t % 8, t / 8, 4)
  | .stack x second => (x, 7, if second then 5 else 2)
  | .lea => (0, 3, 3)
  | .bridge b => (if b = 0 then 2 else 5, 0, 0)
  | .core => (7, 3, 1)

/-- The unit of a router's port, and its kind: 7 for a link between mesh rows 3 and 4, else 6 (R235). -/
def portUnit (n x y port dir : Nat) : Nat × Nat :=
  (if dir = 0 ∧ ((y = 3 ∧ port = 2) ∨ (y = 4 ∧ port = 0)) then 7 else 6,
   n * 0x4000 + x * 0x800 + y * 0x100 + port * 0x20 + dir * 0x10)

/-- Links along a row from column `x` to column `x'`. -/
def rowLinks (n y x x' : Nat) : List (Nat × Nat) :=
  if x ≤ x' then (List.range (x' - x)).map fun i => portUnit n (x + i) y 1 0
  else (List.range (x - x')).map fun i => portUnit n (x - i) y 3 0

/-- Links along a column from row `y` to row `y'`. -/
def colLinks (n x y y' : Nat) : List (Nat × Nat) :=
  if y ≤ y' then (List.range (y' - y)).map fun i => portUnit n x (y + i) 2 0
  else (List.range (y - y')).map fun i => portUnit n x (y - i) 0 0

/-- The way between two ports of channel `n`'s mesh: along x to the destination column, then along y (R163). -/
def meshPath (n : Nat) (e f : MeshEnd) : List (Nat × Nat) :=
  let (x, y, p) := e.at_
  let (x', y', p') := f.at_
  portUnit n x y p 1 :: (rowLinks n y x x' ++ colLinks n x' y y' ++ [portUnit n x' y' p' 0])

/-- A port of bridge `b`: 0 to 3 channel n, 4 the PCIe core; into the bridge or out of it (R168, R235). -/
def bridgePort (b port : Nat) (into : Bool) : Nat × Nat := (8, b + 2 * port + (if into then 16 else 0))

/-- The ends of the meshes at which a device address is reached: a stack has eight ports of two links (R162). -/
def meshEnds (a : Nat) : List (Nat × MeshEnd) :=
  let ports (n : Nat) : List (Nat × MeshEnd) := (List.range 16).map fun i => (n, .stack (i / 2) (i % 2 == 1))
  match regionOf a with
  | .stack n => ports n
  | .tag b => ports (b / stackSize)
  | .bank g _ => [(chanOf g, .local_ (g % 64))]
  | .bankTag g _ => [(chanOf g, .local_ (g % 64))]
  | .table g _ => [(chanOf g, .local_ (g % 64))]
  | .reserved g => [(chanOf g, .local_ (g % 64))]
  | _ => []

/-- The ways from one mesh end to another: in one mesh, or over either bridge (R163, R169). -/
def waysBetween (p q : Nat × MeshEnd) : List (List (Nat × Nat)) :=
  if p.1 = q.1 then [meshPath p.1 p.2 q.2]
  else [0, 1].map fun b =>
    meshPath p.1 p.2 (.bridge b) ++ [bridgePort b p.1 true, bridgePort b q.1 false] ++ meshPath q.1 (.bridge b) q.2

/-- The slots that a block takes of the memory at one of its ends: a stack slot, or four clocks of its sub-bank (R151, R208). -/
def memSlots (a : Nat) : List (Nat × Nat) :=
  match regionOf a with
  | .stack n => [(9, n)]
  | .tag b => [(9, b / stackSize)]
  | .bank g off => List.replicate 4 (5, g * 16 + off / 256 % 16)
  | _ => []

/-- The ways by which a block that an engine reads comes from address `src` to a mesh end (R166, R169): from a stack or bank over the
mesh, and a bridge between channels; from host memory over PCIe and a bridge; and within the channel of its stack also with the
stack's slot alone. Log entry 29 (DESIGN CHOICE). -/
def readWays (src : Nat) (q : Nat × MeshEnd) : List (List (Nat × Nat)) :=
  match regionOf src with
  | .host => [0, 1].map fun b => (10, 1) :: bridgePort b 4 true :: bridgePort b q.1 false :: meshPath q.1 (.bridge b) q.2
  | .stack n => ((meshEnds src).flatMap fun p => (waysBetween p q).map fun w => memSlots src ++ w) ++
      (if n = q.1 ∧ q.2 = .core then [memSlots src] else [])
  | _ => (meshEnds src).flatMap fun p => (waysBetween p q).map fun w => memSlots src ++ w

/-- The ways by which a block goes from a channel's core to address `dst`. Log entry 29 (DESIGN CHOICE). -/
def writeWays (n dst : Nat) : List (List (Nat × Nat)) :=
  ((meshEnds dst).flatMap fun q => (waysBetween (n, .core) q).map fun w => w ++ memSlots dst) ++
    (if chanOfAddr dst = n ∧ dst < stackEnd then [memSlots dst] else [])

/-- Source and destination lie in one stack. -/
def oneStack (src dst : Nat) : Bool := decide (src < stackEnd ∧ dst < stackEnd ∧ src / stackSize = dst / stackSize)

/-- The sets of slots any of which carries one block of a COPY (R208, R239): memory at both ends, every link, bridge port, PCIe and
Lea slot of a way; within one stack also the stack's slots alone (R250). Log entry 29 (DESIGN CHOICE). -/
def copyWays (mode port src dst : Nat) : List (List (Nat × Nat)) :=
  match mode with
  | 1 => (meshEnds dst).flatMap fun q => [0, 1].map fun b =>
      (10, 1) :: bridgePort b 4 true :: bridgePort b q.1 false :: (meshPath q.1 (.bridge b) q.2 ++ memSlots dst)
  | 2 => (meshEnds src).flatMap fun p => [0, 1].map fun b =>
      memSlots src ++ meshPath p.1 p.2 (.bridge b) ++ [bridgePort b p.1 true, bridgePort b 4 false, (10, 0)]
  | 3 => (meshEnds src).flatMap fun p => (waysBetween p (port, .lea)).map fun w => memSlots src ++ w ++ [(11, port)]
  | _ => ((meshEnds src).flatMap fun p => (meshEnds dst).flatMap fun q =>
      (waysBetween p q).map fun w => memSlots src ++ w ++ memSlots dst) ++
      (if oneStack src dst then [memSlots src ++ memSlots dst] else [])

/-! ### The slots of a job's blocks (R166, R239, R260) -/

/-- The slots that a block needs are reserved in swath `w` and not used yet. Log entry 29 (DESIGN CHOICE). -/
def Job.copyRoom (j : Job) (w : Nat) (needs : List (Nat × Nat)) : Bool :=
  let d := w - (j.swath + 1 + j.slide)
  decide (d < j.dlen) && needs.all fun p =>
    decide (needs.count p + j.used.count (w, p) ≤ j.reserved d p.1 p.2)

/-- A block takes its slots of swath `w`; those of swaths before `now` are over. Log entry 29 (DESIGN CHOICE). -/
def Job.useSlots (j : Job) (now w : Nat) (needs : List (Nat × Nat)) : Job :=
  { j with used := j.used.filter (fun u => decide (now ≤ u.1)) ++ needs.map fun p => (w, p) }

/-- Blocks one after the other, each by the ways given for it, take the slots of the first swath with room, from `w` to `last`, at
most `cap` of them in one swath; `n` of them have taken theirs in `w`. The swaths of the blocks that found room, up to the first that
did not. Log entry 29 (DESIGN CHOICE). -/
def Job.takeRun (j : Job) (now cap last w n : Nat) : List (List (List (Nat × Nat))) → Job × List Nat
  | [] => (j, [])
  | ways :: rest =>
    match (List.range (last + 1 - w)).findSome? fun k =>
        if k = 0 ∧ cap ≤ n then none else (ways.find? (j.copyRoom (w + k))).map fun x => (w + k, x) with
    | none => (j, [])
    | some (v, x) =>
      let (j, vs) := (j.useSlots now v x).takeRun now cap last v (if v = w then n + 1 else 1) rest
      (j, v :: vs)

end Sys2Proof.Machine
end

