-- ==== Sys2Proof/Machine/MlDsa.lean ====
section
/-! DEFINITION. Verifying a signature of ML-DSA-44 with an empty context string, as FIPS 204 gives it (R255, R437, R465):
polynomials are lists of 256 coefficients modulo q, and a transform is the list of a polynomial's values at the odd powers of 1753.
Log entry 36 (PRESUMED: FIPS 204). -/

namespace Sys2Proof.Machine
open Sys2Proof

/-- The modulus q. -/
def sigQ : Nat := 8380417

/-- A power of the 512th root of unity 1753. -/
def sigRoot (e : Nat) : Nat := 1753 ^ (e % 512) % sigQ

/-- The eight bits of a number in reverse order. -/
def bitRev8 (n : Nat) : Nat := (List.range 8).foldl (fun r i => 2 * r + n / 2 ^ i % 2) 0

/-- The value of a polynomial at a point. -/
def polyAt (p : List Nat) (x : Nat) : Nat := p.foldr (fun c r => (c + r * x) % sigQ) 0

/-- The transform of a polynomial. -/
def polyNtt (p : List Nat) : List Nat := (List.range 256).map fun i => polyAt p (sigRoot (2 * bitRev8 i + 1))

/-- The polynomial that has a transform; 8347681 is the inverse of 256. -/
def polyInv (t : List Nat) : List Nat :=
  let v := (List.range 256).map fun m => t.getD (bitRev8 m) 0
  (List.range 256).map fun j => polyAt v (sigRoot (1024 - 2 * j)) * sigRoot (512 - j) % sigQ * 8347681 % sigQ

/-- Coefficient by coefficient: the sum of products of two rows of transforms. -/
def polyDot (as bs : List (List Nat)) : List Nat :=
  (as.zip bs).foldl (fun r p => List.zipWith (· + ·) r (List.zipWith (fun x y => x * y % sigQ) p.1 p.2)) (List.replicate 256 0)

/-- `n` numbers of `b` bits each from a string of bytes, lowest bits first. -/
def unpackBits (b n : Nat) (bs : List Byte) : List Nat :=
  let v := leNat bs
  (List.range n).map fun i => v / 2 ^ (b * i) % 2 ^ b

/-- A polynomial of the matrix, from its seed: three bytes a coefficient, those of q and above passed over. FIPS 204 lets the loop
end after 298 of them; 336 are taken. -/
def samplePoly (seed : List Byte) : List Nat :=
  (((unpackBits 24 336 (shake128 seed 1008)).map fun c => c % 2 ^ 23).filter fun c => decide (c < sigQ)).take 256

/-- The challenge polynomial of a commitment hash: 39 coefficients of 1 or -1, placed by bytes of SHAKE256. -/
def sampleBall (c : List Byte) : List Nat :=
  let out := (shake256 c 272).map BitVec.toNat
  let signs := unpackBits 1 64 ((out.take 8).map fun x => BitVec.ofNat 8 x)
  ((List.range 39).foldl (fun (p : List Nat × List Nat) n =>
    let i := 217 + n
    let l := p.2.dropWhile fun j => decide (i < j)
    let j := l.headD 0
    ((p.1.set i (p.1.getD j 0)).set j (if signs.getD n 0 = 1 then sigQ - 1 else 1), l.drop 1)) (List.replicate 256 0, out.drop 8)).1

/-- The hint of a signature, one list of places for each of the four polynomials; none where it is not in its one form: places
rising within a polynomial, counts rising to at most 80, and zeros after them. -/
def unpackHint (bs : List Byte) : Option (List (List Nat)) :=
  let ys := bs.map BitVec.toNat
  let ends := 0 :: ys.drop 80
  let parts := (List.range 4).map fun i => (ys.take (ends.getD (i + 1) 0)).drop (ends.getD i 0)
  let rising (l : List Nat) : Bool := (l.zip (l.drop 1)).all fun p => decide (p.1 < p.2)
  if ((ends.zip (ends.drop 1)).all fun p => decide (p.1 ≤ p.2 ∧ p.2 ≤ 80)) && parts.all rising &&
      ((ys.take 80).drop (ends.getD 4 0)).all (· == 0) then some parts else none

/-- The high part of a coefficient, moved by its hint: 44 parts of 2 · 95232 each. -/
def useHint (hint : Bool) (r : Nat) : Nat :=
  let low := r % 190464
  let near := decide (95232 < low)
  let high := if near then r / 190464 + 1 else r / 190464
  -- the last part is the first again, with its low part one less
  let top := decide (high = 44)
  let r1 := if top then 0 else high
  let positive := if near then false else decide (0 < low)
  if hint then (if positive then (r1 + 1) % 44 else (r1 + 43) % 44) else r1

/-- Whether a signature of a message verifies under a public key (FIPS 204, ML-DSA.Verify for ML-DSA-44, empty context string). -/
def mldsaVerify (key message sig : List Byte) : Bool :=
  let rho := key.take 32
  let t1 := (List.range 4).map fun i => unpackBits 10 256 ((key.drop (32 + 320 * i)).take 320)
  let c := sig.take 32
  let z := (List.range 4).map fun i => unpackBits 18 256 ((sig.drop (32 + 576 * i)).take 576)
  let small := z.all fun p => p.all fun v => decide (78 < v ∧ v < 2 ^ 18 - 78)
  match unpackHint (sig.drop 2336) with
  | none => false
  | some hint =>
    let mu := shake256 (shake256 key 64 ++ [0, 0] ++ message) 64
    let zHat := z.map fun p => polyNtt (p.map fun v => (2 ^ 17 + sigQ - v) % sigQ)
    let cHat := polyNtt (sampleBall c)
    let w := (List.range 4).map fun r =>
      let row := (List.range 4).map fun s => samplePoly (rho ++ [BitVec.ofNat 8 s, BitVec.ofNat 8 r])
      let t := polyNtt ((t1.getD r []).map fun v => v * 8192 % sigQ)
      polyInv (List.zipWith (fun x y => (x + (sigQ - y)) % sigQ) (polyDot row zHat) (polyDot [cHat] [t]))
    let w1 := (w.zip hint).flatMap fun p => p.1.zipIdx.map fun q => useHint (p.2.contains q.2) q.1
    let packed := leBytes 768 ((w1.zipIdx.map fun q => q.1 * 2 ^ (6 * q.2)).sum)
    decide (key.length = 1312 ∧ sig.length = 2420) && small && shake256 (mu ++ packed) 32 == c

end Sys2Proof.Machine
end

