-- ==== Sys2Proof/Machine/Loader.lean ====
section
/-! DEFINITION. Model packages and contexts (R253 to R272): decoding and re-laying a package, the manifest, the posts of
weight pointers, and a change's effect on a context. Log entries: 3, 10, 29. -/

namespace Sys2Proof.Machine
open Sys2Proof

/-! ### Parts of a package (R254, R256 to R259) -/

/-- A little-endian field of memory. -/
def State.fieldAt (s : State) (a n : Nat) : Nat := leNat (Memory.readN s.mem a n)

/-- A layer record (R256). -/
structure LayerRec where
  tier : Nat
  wfmt : Nat
  sfmt : Nat
  flags : Nat
  rows : Nat
  cols : Nat
  xfmt : Nat
  nplace : Nat
  place : Nat
  wsec : Nat
  wlen : Nat
  qsec : Nat
  rqTsk : Nat
  rqBlock : Nat
  /-- bytes +0x20 to +0x3D, in the order of the requantisation block -/
  tail : List Byte
  reserved : Bool
  deriving DecidableEq, Repr

/-- The layer record at an address. -/
def State.layerRec (s : State) (a : Nat) : LayerRec :=
  let f := fun o n => s.fieldAt (a + o) n
  { tier := f 0 1, wfmt := f 1 1, sfmt := f 2 1, flags := f 3 1, rows := f 4 2, cols := f 6 2, xfmt := f 8 1, nplace := f 10 2,
    place := f 0xC 4, wsec := f 0x10 4, wlen := f 0x14 4, qsec := f 0x18 4, rqTsk := f 0x1C 1, rqBlock := f 0x1E 2,
    tail := Memory.readN s.mem (a + 0x20) 30, reserved := f 9 1 != 0 || f 0x1D 1 != 0 || f 0x3E 2 != 0 || 4 ≤ f 3 1 }

/-- A placement entry at an address (R257), and whether its reserved bits are set. -/
def State.placeRec (s : State) (a : Nat) : Placement × Bool :=
  let f := fun o n => s.fieldAt (a + o) n
  let b := f 1 1
  ({ tsk := f 0 1, slot := b % 16, gang := b / 16 % 4, member := b / 64, row0 := f 2 2, out0 := f 4 2, pack := f 6 1,
     range := f 7 1 % 8, maskEn := f 7 1 / 8 % 2, src := f 8 2, nrows := f 0xA 2, nout := f 0xC 2 }, f 0xE 2 != 0 || 16 ≤ f 7 1)

/-- Bytes that delta codes emit: nibbles of `bs`, low first, added to the previous byte. -/
def deltas : Nat → Byte → List Byte → List Byte
  | 0, _, _ => []
  | _, _, [] => []
  | 1, p, b :: _ => [p + BitVec.ofInt 8 (sgn 4 b.toNat)]
  | n + 2, p, b :: bs =>
    let x := p + BitVec.ofInt 8 (sgn 4 b.toNat)
    let y := x + BitVec.ofInt 8 (sgn 4 (b.toNat / 16))
    x :: y :: deltas n y bs

/-- A compressed section decoded (R259): none where a code is broken; `fuel` bounds the codes. -/
def inflate : Nat → Byte → List Byte → Option (List Byte)
  | _, _, [] => some []
  | 0, _, _ => none
  | fuel + 1, prev, c :: l :: rest =>
    let n := l.toNat + 1
    match c.toNat with
    | 0 => (inflate fuel 0 rest).map fun t => List.replicate n 0 ++ t
    | 1 =>
      let k := (n + 1) / 2
      if rest.length < k then none
      else
        let out := deltas n prev (rest.take k)
        (inflate fuel (out.getLastD prev) (rest.drop k)).map fun t => out ++ t
    | 2 =>
      if rest.length < n then none
      else (inflate fuel ((rest.take n).getLastD prev) (rest.drop n)).map fun t => rest.take n ++ t
    | _ => none
  | _ + 1, _, [_] => none

/-- Decoded length of a weight section (R258). -/
def LayerRec.decoded (l : LayerRec) : Nat :=
  match l.sfmt with
  | 0 => l.cols * l.rows
  | 1 => (l.cols * l.rows + 1) / 2
  | _ => l.cols * l.rows * 2

/-- The decoded bytes of a weight section; none for reason COMPRESS (R259, R261). -/
def State.section_ (s : State) (pkg : Nat) (l : LayerRec) : Option (List Byte) :=
  let raw := Memory.readN s.mem (pkg + l.wsec * 256) l.wlen
  let out := if l.flags % 2 = 1 then (if l.sfmt ≤ 1 then inflate raw.length 0 raw else none) else some raw
  match out with
  | some bs => if bs.length = l.decoded then some bs else none
  | none => none

/-- Scale word of an output channel. -/
def State.scaleOf (s : State) (pkg : Nat) (l : LayerRec) (o : Nat) : Nat := s.fieldAt (pkg + l.qsec * 256 + o * 8 + 4) 4

/-- Weight W[o][i] of a layer in its WFMT, and whether it was clamped (R125, R258); none where it is not finite. -/
def State.weightOf (s : State) (pkg : Nat) (l : LayerRec) (sec : List Byte) (o i : Nat) : Option (Int × Bool) :=
  let ix := o * l.rows + i
  match l.sfmt with
  | 0 => some (sgn 8 (sec.getD ix 0).toNat, false)
  | 1 => let b := (sec.getD (ix / 2) 0).toNat
         some (sgn 4 (if ix % 2 = 0 then b else b / 16), false)
  | f => (halfMag (f == 3) (leNat [sec.getD (2 * ix) 0, sec.getD (2 * ix + 1) 0])).map fun m =>
      quantWeight (l.wfmt == 1) m (s.scaleOf pkg l o)

/-- Every weight of a layer, output channel by output channel; none for reason VALUE. -/
def State.layerWeights (s : State) (pkg : Nat) (l : LayerRec) (sec : List Byte) : Option (List (List (Int × Bool))) :=
  if (List.range l.cols).all fun o => fpNormal (s.scaleOf pkg l o) then
    (List.range l.cols).mapM fun o => (List.range l.rows).mapM fun i => s.weightOf pkg l sec o i
  else none

/-! ### Re-laying (R193, R263) -/

/-- The 256 data weights of stored row `r` of a placement. -/
def cellRow (wfmt : Nat) (ws : List (List (Int × Bool))) (p : Placement) (r : Nat) : List Int :=
  let copy := r / p.nrows
  let i := p.row0 + r % p.nrows
  (List.range 256).map fun j =>
    let o := if wfmt = 1 then j / 2 else j
    if copy * p.nout ≤ o ∧ o < (copy + 1) * p.nout then
      let w := (((ws.getD (p.out0 + (o - copy * p.nout)) []).getD i (0, false)).1)
      if wfmt = 1 then (if j % 2 = 0 then highSlice w else lowSlice w) else w
    else 0

/-- The 128 bytes of a row of data weights: the even column's in the low nibble for int4; for int8 the high slice above the
low one. -/
def rowBytes (wfmt : Nat) : List Int → List Byte
  | a :: b :: t => (if wfmt = 1 then BitVec.ofInt 8 (16 * a + b) else BitVec.ofNat 8 (unsgn 4 a + 16 * unsgn 4 b)) :: rowBytes wfmt t
  | _ => []

/-- The cell image of a placement (R263). -/
def cellImage (wfmt : Nat) (ws : List (List (Int × Bool))) (p : Placement) : List Byte :=
  (List.range p.stored).flatMap fun r => rowBytes wfmt (cellRow wfmt ws p r)

/-- The column sum record of a source (R106): 256 sums over the rows of its placements, 16 bits each. -/
def colSums (wfmt : Nat) (ws : List (List (Int × Bool))) (ps : List Placement) (src : Nat) : List Byte :=
  let sums := (ps.filter fun p => p.src == src).foldl (fun (acc : List Int) p =>
    (List.range p.stored).foldl (fun (acc : List Int) r => acc.zipWith (· + ·) (cellRow wfmt ws p r)) acc) (List.replicate 256 0)
  sums.flatMap fun x => leBytes 2 (unsgn 16 x)

/-- Sources of a layer's partial sums. -/
def sourceCount (ps : List Placement) : Nat := (ps.map fun p => p.src + 1).foldl max 0

/-- The requantisation image of a layer (R115, R263). -/
def State.rqImage (s : State) (pkg : Nat) (l : LayerRec) (ws : List (List (Int × Bool))) (ps : List Placement) : List Byte :=
  leBytes 1 l.wfmt ++ leBytes 1 l.xfmt ++ leBytes 1 (l.flags / 2 % 2) ++ leBytes 1 0 ++ leBytes 2 l.cols ++
    leBytes 2 (sourceCount ps) ++ l.tail ++ List.replicate 26 0 ++
    ((List.range (sourceCount ps)).flatMap fun k => colSums l.wfmt ws ps k) ++ Memory.readN s.mem (pkg + l.qsec * 256) (l.cols * 8)

/-- Bytes filled up with zeros to whole blocks, as payloads. -/
def toBlocks (bs : List Byte) : Nat → List (List Byte)
  | 0 => []
  | n + 1 => (bs.take 256 ++ List.replicate (256 - (bs.take 256).length) 0) :: toBlocks (bs.drop 256) n

/-! ### Checks of placements (R192, R193, R261) -/

/-- A placement breaks the limits of its layer or of an array, or its gang's members are not consecutive slots; TSK and SLOT are
ignored for a streamed layer (R257). -/
def placeBad (l : LayerRec) (ps : List Placement) (p : Placement) : Bool :=
  let g := gangOf p.gang
  p.gang == 3 || decide (g ≤ p.member) ||
    (l.tier == 0 && (decide (p.slot < p.member) || decide (16 < p.slot - p.member + g))) || p.nrows == 0 || decide (512 < p.stored) || p.nout == 0 ||
    decide (256 < (p.pack + 1) * p.nout * (if l.wfmt = 1 then 2 else 1)) || (p.pack != 0 && p.gang != 0) ||
    decide (l.rows < p.row0 + p.nrows) || decide (l.cols < p.out0 + p.nout) ||
    (l.tier == 0 && !((List.range g).all fun m => ps.any fun q =>
      q.tsk == p.tsk && q.gang == p.gang && q.member == m && q.slot == p.slot - p.member + m))

/-- Two entries on one slot. -/
def slotsTwice (ps : List Placement) : Bool :=
  let keys := ps.map fun p => p.tsk * 16 + p.slot
  keys.dedup.length != keys.length

/-! ### Building an image (R260 to R263) -/

/-- An image being built: blocks used in each stripe, the blocks to write as (stack, block offset, payload), the layers, and
the clamped weights. -/
structure Build where
  used : List Nat
  blocks : List (Nat × Nat × List Byte) := []
  layers : List Layer := []
  entries : List Byte := []
  clamped : Nat := 0

/-- Payloads appended to the stripe of a stack; answers the block offset of the first. -/
def Build.append (b : Build) (stack : Nat) (bs : List Byte) : Build × Nat :=
  let o := b.used.getD stack 0
  let ps := toBlocks bs ((bs.length + 255) / 256)
  ({ b with used := b.used.set stack (o + ps.length), blocks := b.blocks ++ ps.zipIdx.map fun x => (stack, o + x.2, x.1) }, o)

/-- A layer of a package added to the image: nothing, or the status and reason with which the package ends. A layer record or placement that is malformed without a reason of its own in R261 has reason 1. Log entry 10 (DESIGN CHOICE). -/
def State.addLayer (s : State) (pkg base tid ix : Nat) (b : Build) : Sum (Nat × Nat) Build :=
  let l := s.layerRec (pkg + s.fieldAt (pkg + 0x14) 4 * 256 + ix * 64)
  let recs := (List.range l.nplace).map fun i => s.placeRec (pkg + l.place * 256 + i * 16)
  let ps := recs.map fun r => r.1
  if (l.tier ≠ 0 ∧ l.tier ≠ 2 ∧ l.tier ≠ 3) ∨ 1 < l.wfmt ∨ (fmtRange l.xfmt).isNone then .inl (0x0C, 0)
  else if l.reserved ∨ 3 < l.sfmt ∨ (l.sfmt ≤ 1 ∧ l.sfmt + l.wfmt ≠ 1) ∨ l.rows = 0 ∨ l.cols = 0 ∨ l.nplace = 0 ∨
      recs.any (fun r => r.2) = true then .inl (0x14, 1)
  else if ps.any (placeBad l ps) ∨ (l.tier = 0 ∧ slotsTwice ps = true) then .inl (0x14, 6)
  else match s.section_ pkg l with
    | none => .inl (0x14, 4)
    | some sec =>
      match s.layerWeights pkg l sec with
      | none => .inl (0x14, 5)
      | some ws =>
        let stackOf (p : Placement) : Nat :=
          if l.tier = 0 then chanOf p.tsk else (Config.streamStack tid ix p.out0).toNat
        let first := b.used
        let (b, ps) := ps.foldl (fun (x : Build × List Placement) p =>
          let (b, o) := x.1.append (stackOf p) (cellImage l.wfmt ws p)
          (b, x.2 ++ [{ p with addr := stackOf p * stackSize + base + o * 256 }])) (b, [])
        let rq := s.rqImage pkg l ws ps
        let (b, o) := b.append (chanOf l.rqTsk) rq
        .inr { b with
          layers := b.layers ++ [{ tier := l.tier, wfmt := l.wfmt, placements := ps, rqTsk := l.rqTsk, rqBlock := l.rqBlock,
                                   rqAddr := chanOf l.rqTsk * stackSize + base + o * 256, rqLen := rq.length }]
          entries := b.entries ++ (List.range 32).map fun i => Config.layerEntry l.tier l.wfmt l.nplace first o i
          clamped := b.clamped + (ws.flatten.filter fun w => w.2).length }

/-- The layers of a package one after the other. Log entry 10 (DEDUCED). -/
def State.addLayers (s : State) (pkg base tid : Nat) : Build → List Nat → Sum (Nat × Nat) Build
  | b, [] => .inr b
  | b, i :: is =>
    match s.addLayer pkg base tid i b with
    | .inl e => .inl e
    | .inr b => s.addLayers pkg base tid b is

/-- A region of stack memory overlaps an image that is current, pending or old-busy for a context (R261, R272). -/
def State.overlaps (s : State) (a n : Nat) : Bool :=
  let busy := (List.range 64).flatMap fun c =>
    [s.get (F.GLB_CTX_PTR_PTR c)] ++ (if s.on (F.GLB_CTX_STATE_PENDING c) then [s.get (F.GLB_CTX_PEND_PEND c)] else []) ++
      ((s.ctx c).olds.map fun p => p.1)
  s.images.any fun i => i.ptr != 0 && busy.contains i.ptr &&
    i.stripes.any fun x => decide (a < x.1 + x.2 * 256 ∧ x.1 < a + n * 256)

/-- A package or post rejected: the registers of the load engine, and the job's end (R261, R266). -/
def State.ldReject (s : State) (job cmd chan reason : Nat) : State :=
  (((s.set (F.CHN_LD_STATUS_REASON chan) reason).set (F.CHN_LD_STATUS_REJECT chan) 1).inc (F.CHN_LD_PKG_REJECTED chan)).jobFail
    job 0x14 cmd 0xFFFF

/-- Every block of a package checked as it is read (R174, R253), and their bytes: the job ends at the first that fails. Log entry 10
(DEDUCED). -/
def State.readPackage (s : State) (n job cmd pkg tid : Nat) (ecc : List (Nat × Ecc)) : Nat → Nat → State × Option (List Byte)
  | 0, _ => (s, some [])
  | k + 1, i =>
    let e := ((ecc.find? fun p => p.1 == i).map fun p => p.2).getD .ok
    match s.readBlock n job cmd (unitOfAddr pkg) (pkg + i * 256) e (some (tid, i % 65536)) with
    | (s, none) => (s, none)
    | (s, some b) =>
      match s.readPackage n job cmd pkg tid ecc k (i + 1) with
      | (s, none) => (s, none)
      | (s, some bs) => (s, some (b.data ++ bs))

/-- A package as its engine has read it: what host memory gave stands where it was read (R179). -/
def State.holding (s : State) (pkg : Nat) (bytes : List Byte) : State :=
  if regionOf pkg = .host then { s with mem := Memory.writeN s.mem pkg bytes } else s

/-- The header is wrong: MAGIC, FORMAT, NBLK, ranges or reserved fields (R254, R261). -/
def State.headerBad (s : State) (pkg len : Nat) : Bool :=
  let f := fun o n => s.fieldAt (pkg + o) n
  f 0 4 != 0x4B504C4F || f 4 2 != 1 || 8 ≤ f 6 1 || f 7 1 != 0 || f 8 4 != len || f 8 4 < 11 || f 0x10 2 == 0 || 4095 < f 0x10 2 ||
    16384 < f 0x12 2 || f 0x1C 2 == 0 || 4093 < f 0x1C 2 || f 0x1E 2 != 0 ||
    (Memory.readN s.mem (pkg + 0x54) 172).any (· != 0)

/-- A job's command is due: the job runs without an error, and the command's work swath has come. -/
def State.cmdDue (s : State) (id cmd : Nat) : Option (Job × List Nat) :=
  match s.job id with
  | none => none
  | some j =>
    if j.stage ≠ .running ∨ j.err.isSome ∨ j.tags.isEmpty = true ∨ cmd = 0 ∨ j.cmdsDone.contains cmd = true then none
    else match j.cmds[cmd - 1]? with
      | some c => if j.swath + 1 + j.slide + cmdWso c ≤ s.swath then some (j, c) else none
      | none => none

/-- A command may begin: it is due, and the job's last work swath is not over (R202). -/
def State.workDue (s : State) (id cmd : Nat) : Option (Job × List Nat) :=
  (s.cmdDue id cmd).filter fun p => decide (s.swath ≤ p.1.lastWork)

/-- The magic of a manifest at the destination is cleared (R260, step 1), as a write of the load engine (R183); `false` where the
guards deny it, which ends the job (R186). -/
def State.clearMagic (s : State) (n job cmd dest : Nat) : State × Bool :=
  let gone (s : State) : State := { s with images := s.images.filter fun i => i.ptr != dest }
  if s.fieldAt dest 4 ≠ 0x4D494C4F then (gone s, true)
  else match s.mayAccess n job cmd (unitOfAddr dest) true dest 4 with
    | (s, false) => (s, false)
    | (s, true) => ((gone s).mergeWrite dest (leBytes 4 0), true)

/-- The channel whose load engine carries out a LOADPKG: that of the memory which holds the package, or of the destination where the
package lies in host memory (R226). Log entry 29 (DEDUCED). -/
def loadHome (c : List Nat) : Nat := chanOfAddr (if regionOf (cmdAddr c 2) = .host then cmdAddr c 4 else cmdAddr c 2)

/-- A block that a job's engine of channel `n` writes, over the meshes and the bridge of its slots (R165, R169). -/
def State.putFrom (s : State) (n job a : Nat) (b : Block) : State :=
  let (s, b) := s.crossing b (placesOver (s.bridgeFor job n (chanOfAddr a)) n (chanOfAddr a))
  s.putBlock a b

/-- What a package makes: its image, the manifest, the blocks by address, and the clamped weights. -/
structure Built where
  image : Image
  manifest : List Byte
  blocks : List (Nat × Block)
  clamped : Nat

/-- The stripes that a header names, stack by stack, for a destination (R260). -/
def imageStripes (counts : List Nat) (dest : Nat) : List (Nat × Nat) :=
  counts.zipIdx.map fun x => (x.2 * stackSize + dest % stackSize, x.1)

/-- IMG_BLK of the header at an address. -/
def State.imgBlk (s : State) (pkg : Nat) : List Nat := (List.range 4).map fun k => s.fieldAt (pkg + 0x20 + 4 * k) 4

/-- The package at an address, of `len` blocks, decoded and re-laid for a destination and a context (R260, step 2); or the
status and the reason that ends it. Log entry 10 (DEDUCED). -/
def State.buildPkg (s : State) (pkg len dest ctx : Nat) : Sum (Nat × Nat) Built :=
  let base := dest % stackSize
  let counts := s.imgBlk pkg
  let tid := s.fieldAt (pkg + 0xE) 2
  let nl := s.fieldAt (pkg + 0x10) 2
  let start : Build := { used := (List.replicate 4 0).set (dest / stackSize) ((64 + 32 * nl + 255) / 256) }
  match s.addLayers pkg base tid start (List.range nl) with
  | .inl e => .inl e
  | .inr b =>
    if slotsTwice ((b.layers.filter fun l => l.tier == 0).flatMap Layer.placements) then .inl (0x14, 6)
    else if (b.used.zip counts).any fun x => decide (x.2 < x.1) then .inl (0x14, 1)
    else
      let digest := sha3 (Memory.readN s.mem pkg ((len - 10) * 256))
      let manifest := leBytes 4 0x4D494C4F ++ leBytes 1 ctx ++ leBytes 1 0 ++ leBytes 2 tid ++ leBytes 2 nl ++ leBytes 6 0 ++
        (counts.flatMap fun x => leBytes 4 x) ++ digest ++ b.entries
      .inr {
        image := { ptr := dest, ctx := ctx, tid := tid, layers := b.layers, stripes := imageStripes counts dest
                   digest := digest, key := s.fieldAt (pkg + 6) 1 }
        manifest := manifest
        blocks := b.blocks.map fun x => (x.1 * stackSize + base + x.2.1 * 256, Block.fresh x.2.2 tid x.2.1)
        clamped := b.clamped }

/-- The clamped weights of an image counted by the load engine of channel `n` (R125). -/
def State.countClamped (s : State) (n : Nat) (b : Built) : State :=
  if b.clamped = 0 then s else (s.incBy (F.CHN_LD_CLAMP_CLAMP_CNT n) b.clamped).set (F.CHN_LD_STATUS_CLAMP n) 1

/-- The blocks of an image whose slots have come are written (R260, step 2). -/
def State.putImage (s : State) (l : Load) : State :=
  let s := (l.todo.filter fun x => decide (x.1 ≤ s.swath)).foldl (fun (s : State) x => 
    s.putFrom l.chan l.job x.2.1 (Block.fresh x.2.2.2 l.image.tid x.2.2.1)) s
  { s with loads := s.loads.map fun x =>
      if x.job = l.job ∧ x.cmd = l.cmd then { x with todo := x.todo.filter fun y => decide (s.swath < y.1) } else x }

/-- The blocks of a manifest. -/
def Load.manifestBlocks (l : Load) : List (List Byte) := toBlocks l.manifest ((l.manifest.length + 255) / 256)

/-- The manifest of an image written last, from which the image is valid (R260, step 4). Log entry 10 (DEDUCED). -/
def State.putManifest (s : State) (l : Load) : State :=
  let i := l.image
  let s := l.manifestBlocks.zipIdx.foldl (fun (s : State) x =>
    s.putFrom l.chan l.job (i.ptr + x.2 * 256) (Block.fresh x.1 i.tid x.2)) s
  let (s, i) := s.hashImage { i with valid := true } s.swath
  { s with images := (s.images.filter fun (x : Image) => x.ptr != i.ptr) ++ [i] }

/-- The slots of a package's blocks, and of its image's (R260): the package read in ascending order by the load engine of channel `n`, at
most 2,176 blocks in a swath, and the image written beside it; a block that finds no slot waits beyond the job's last work swath. The
job with its slots taken, the swaths of the reads and those of the writes. Log entry 10 (DESIGN CHOICE). -/
def Job.loadSlots (j : Job) (now n pkg len : Nat) (b : Built) : Job × List Nat × List Nat :=
  let (j, reads) := j.takeRun now 2176 j.lastWork now 0 ((List.range len).map fun i => readWays (pkg + i * 256) (n, .core))
  let (j, writes) := j.takeRun now (2 ^ 32) j.lastWork now 0 (b.blocks.map fun x => writeWays n x.1)
  (j, reads, writes)

/-- The load of what a package has made, by the engine of channel `n`: block `i` of its image is written in swath `writes[i]`, or where
that is none, in swath `late`. -/
def Built.load (b : Built) (job cmd n : Nat) (writes : List Nat) (late : Nat) : Load :=
  { job := job, cmd := cmd, chan := n, ctx := b.image.ctx, manifest := b.manifest, image := b.image
    todo := b.blocks.zipIdx.map fun x => (writes.getD x.2 late, x.1.1, x.1.2.seq, x.1.2.data) }

/-- A package that has passed the checks of step 2 (R260): its image waits for its slots, and with the last read of the package its
digest goes to the verification unit. Log entry 10 (DESIGN CHOICE). -/
def State.startLoad (s : State) (j : Job) (cmd n pkg len : Nat) (key sig : List Byte) (b : Built) : State :=
  let (j', reads, writes) := j.loadSlots s.swath n pkg len b
  let load := b.load j.id cmd n writes (j.lastWork + 1)
  let ask (w : Nat) : Verify := { job := j.id, cmd := cmd, for_ := .package, key := key, digest := b.image.digest, sig := sig, ready := w }
  let asks := if reads.length < len then [] else (reads.getLast?.map ask).toList
  State.updJob { s with loads := s.loads ++ [load], verifs := s.verifs ++ asks } j.id fun x => { x with used := j'.used }

/-- Steps 1 and 2 of a LOADPKG (R260), and its request to the verification unit. Log entry 10 (DEDUCED). -/
def State.loadpkg (s : State) (j : Job) (cmd : Nat) (c : List Nat) (ecc : List (Nat × Ecc)) : State :=
  let n := loadHome c
  let pkg := cmdAddr c 2
  let dest := cmdAddr c 4
  let len := tfld c 1 0 24
  if stackEnd ≤ dest ∨ dest % 4096 ≠ 0 then s.ldReject j.id cmd n 7
  else match s.readBlock n j.id cmd (unitOfAddr pkg) pkg (((ecc.find? fun p => p.1 == 0).map fun p => p.2).getD .ok) none with
    | (s, none) => if s.overlaps dest 1 then s else (s.clearMagic n j.id cmd dest).1
    | (s, some h) =>
      let f := fun o n => leNat ((h.data.drop o).take n)
      let stripes := imageStripes ((List.range 4).map fun k => f (0x20 + 4 * k) 4) dest
      if stripes.any (fun x => s.overlaps x.1 x.2 || decide (stackSize < dest % stackSize + x.2 * 256)) then s.ldReject j.id cmd n 7
      else match s.clearMagic n j.id cmd dest with
      | (s, false) => s
      | (s, true) =>
        if (s.holding pkg h.data).headerBad pkg len then s.ldReject j.id cmd n 1
        else match s.pubKeys.find? fun p => p.1 == f 6 1 with
          | none => s.ldReject j.id cmd n 2
          | some (_, key) =>
            match s.readPackage n j.id cmd pkg (f 0xC 2) ecc len 0 with
            | (s, none) => s
            | (s, some bs) =>
              match (s.holding pkg bs).buildPkg pkg len dest (tfld c 0 20 6) with
              | .inl (st, reason) => if st = 0x14 then s.ldReject j.id cmd n reason else s.jobFail j.id st cmd 0xFFFF
              | .inr b =>
                match (stripes.filter fun x => x.2 != 0).findSome? fun x =>
                    (s.accessFault (.eng n) true x.1 (x.2 * 256)).map fun u => (x.1, u) with
                | some (a, u) => (s.addressFault (.eng n) true a u).jobFail j.id 0x12 cmd (unitOfAddr a)
                | none => (s.countClamped n b).startLoad j cmd n pkg len key ((bs.drop ((len - 10) * 256)).take 2420) b

/-! ### Posts (R265, R266) -/

/-- The resident placements of an image, without the addresses of their cell images. -/
def Image.layout (i : Image) : List Placement := i.resident.map fun p => { p.2 with addr := 0 }

/-- Why a post is refused, if it is (R266); `magic` is what the manifest at the pointer begins with. -/
def State.postReason (s : State) (c ptr magic : Nat) : Option Nat :=
  if ptr = 0 then none
  else match s.image ptr with
    | none => some 9
    | some i =>
      let cur := s.image (s.get (F.GLB_CTX_PTR_PTR c))
      let empty := s.get (F.GLB_CTX_STATE_STATE c) = 0
      if !i.valid || magic != 0x4D494C4F then some 9
      else if i.ctx ≠ c then some 10
      else if ¬ empty ∧ (cur.map Image.tid) = some i.tid then some 11
      else if ¬ empty ∧ (cur.map Image.layout) ≠ some i.layout then some 12
      else if i.layout.any fun p =>
          let x := s.get (F.TSK_ARR_STATE_CONTEXT p.tsk (s.arrOf p.tsk p.slot))
          x != 0xFF && x != c then some 13
      else none

/-- A pointer posted for a context (R265): it supersedes a pending one; of two posts in one swath the one of the higher
channel is the later. -/
def State.post (s : State) (c ptr chan : Nat) : State :=
  if ptr = 0 ∧ s.get (F.GLB_CTX_STATE_STATE c) = 0 then s
  else
    let x := s.ctx c
    let pending := s.on (F.GLB_CTX_STATE_PENDING c)
    let s := if pending then s.inc (F.GLB_CTX_EVENTS_SUPERSEDED_CNT c) else s
    if pending && decide (x.postSwath = s.swath ∧ chan < x.postChan) then s
    else
      ((s.set (F.GLB_CTX_PEND_PEND c) ptr).set (F.GLB_CTX_STATE_PENDING c) 1).updCtx c fun x =>
        { x with pendUnload := ptr == 0, postSwath := s.swath, postChan := chan }

/-- A post of a job's command, refused or made; the command is then done. The load engine of channel `n` makes it; its place among the
posts of a swath is that of the job's owning channel (R265). -/
def State.postFrom (s : State) (j : Job) (cmd n c ptr magic : Nat) : State :=
  match s.postReason c ptr magic with
  | some r =>
    ((s.inc (F.GLB_CTX_EVENTS_REFUSED_CNT c)).set (F.GLB_CTX_EVENTS_LAST_REASON c) r).ldReject j.id cmd n r
  | none => (s.post c ptr j.chan).cmdDone j.id cmd

/-- A CTXPTR (R265), by the load engine of the channel whose stack holds the pointer (R226): it reads the manifest for use (R174). Log entry 10 (DESIGN CHOICE). -/
def State.ctxptr (s : State) (j : Job) (cmd c ptr : Nat) : State :=
  if ptr = 0 ∨ (s.image ptr).isNone = true then s.postFrom j cmd j.chan c ptr 0
  else match s.readBlock (chanOfAddr ptr) j.id cmd (unitOfAddr ptr) ptr .ok none with
    | (s, none) => s
    | (s, some b) => s.postFrom j cmd (chanOfAddr ptr) c ptr (leNat (b.data.take 4))

/-! ### Verification and the manifest (R260, R471) -/

/-- A load leaves the list, and its request. -/
def State.dropLoad (s : State) (job cmd : Nat) : State :=
  { s with
    loads := s.loads.filter fun l => !(l.job == job && l.cmd == cmd)
    verifs := s.verifs.filter fun v => !(v.job == job && v.cmd == cmd) }

/-- A signature is judged (R255, R471): SEC_VERIFY_CNT, and VERIFY_FAIL with vector 43. Log entry 10 (DEDUCED). -/
def State.judge (s : State) (v : Verify) : State × Bool :=
  if mldsaVerify v.key v.digest v.sig then (s.inc F.SEC_VERIFY_CNT_PASS_CNT, true)
  else (((s.inc F.SEC_VERIFY_CNT_FAIL_CNT).set F.SEC_STATUS_VERIFY_FAIL 1).signal 43, false)

/-- A test-pattern package rejected (R333). -/
def State.tpReject (s : State) (job cmd reason : Nat) : State :=
  ((s.set F.GRS_TP_STATUS_REASON reason).set F.GRS_TP_STATUS_REJECT 1).jobFail job 0x14 cmd 0xFFFF

/-- The oldest request of the verification unit whose last block has been hashed is served. Log entry 3 (DESIGN CHOICE). -/
def State.verify (s : State) : State :=
  match s.verifs.find? fun v => decide (v.ready ≤ s.swath) with
  | none => s
  | some v =>
    let (s, ok) := { s with verifs := s.verifs.erase v }.judge v
    match v.for_ with
    | .package =>
      if ok then { s with loads := s.loads.map fun l => if l.job = v.job ∧ l.cmd = v.cmd then { l with verified := some s.swath } else l }
      else
        let n := ((s.loads.find? fun l => l.job == v.job && l.cmd == v.cmd).map Load.chan).getD 0
        (s.ldReject v.job v.cmd n 3).dropLoad v.job v.cmd
    | .test =>
      if ok then { s with tests := s.tests.map fun t => if t.job = v.job ∧ t.cmd = v.cmd then { t with verified := true } else t }
      else
        let s := s.tpReject v.job v.cmd 3
        { s with tests := s.tests.filter fun t => !(t.job == v.job && t.cmd == v.cmd) }

/-- The manifest is written, the image is valid and posted (R260, steps 4 and 5), in a swath after the verification and no later than
the job's last work swath, in slots that the job holds there. Log entry 10 (DESIGN CHOICE). -/
def State.manifest (s : State) (job cmd : Nat) : State :=
  match s.loads.find? fun l => l.job == job && l.cmd == cmd, s.workDue job cmd with
  | some l, some (j, _) =>
    let (j', at_) := j.takeRun s.swath (2 ^ 32) s.swath s.swath 0
      (l.manifestBlocks.zipIdx.map fun x => writeWays l.chan (l.image.ptr + x.2 * 256))
    if (l.verified.all fun w => decide (s.swath ≤ w)) || !l.todo.isEmpty || decide (at_.length < l.manifestBlocks.length) then s
    else
      let s := (s.updJob job fun x => { x with used := j'.used }).putManifest l
      ((s.inc (F.CHN_LD_PKG_ACCEPTED l.chan)).dropLoad job cmd).postFrom j cmd l.chan l.ctx l.image.ptr 0x4D494C4F
  | _, _ => s

/-- Work of a package left when the job's last work swath ends: PROFILE_SHORT (R261). -/
def State.profileShort (s : State) (l : Load) : State :=
  match s.cmdDue l.job l.cmd with
  | some (j, _) => if j.lastWork ≤ s.swath then (s.ldReject l.job l.cmd l.chan 8).dropLoad l.job l.cmd else s
  | none => s.dropLoad l.job l.cmd

/-- What the verification unit and the load engines owe by the end of a swath (R260, R261): a request served within 40 µs, in the fifth
swath at the latest; a manifest in the swath after its verification; and PROFILE_SHORT for what is left of a job whose work
ends. The blocks of the images whose slots have come are written. Log entry 10 (DESIGN CHOICE). -/
def State.loadsDue (s : State) : State :=
  let s := s.loads.foldl State.putImage s
  let s := (s.verifs.filter fun v => decide (v.ready + 4 ≤ s.swath)).foldl (fun (s : State) _ => s.verify) s
  let s := s.loads.foldl (fun (s : State) l => s.manifest l.job l.cmd) s
  s.loads.foldl State.profileShort s

/-! ### The end of a change (R271, R272) -/

/-- A context leaves REPLACING at the boundary after its last replacement write, of an array or of a requantisation block (R269, R272). -/
def State.replacingEnd (s : State) (c : Nat) : State :=
  if s.get (F.GLB_CTX_STATE_STATE c) = 2 ∧ (s.ctx c).rqDue.isEmpty = true ∧ ((s.ctx c).wave.all fun x => decide (x.last < s.swath) &&
      (x.done || s.tskState x.g != tSERVICE)) = true then
    (s.set (F.GLB_CTX_STATE_STATE c) 1).updCtx c fun x => { x with wave := [] }
  else s

/-- An old image stops being old-busy once its change has ended and every job of the old version has its token (R272). -/
def State.oldBusyClear (s : State) (c : Nat) : State :=
  let st := s.get (F.GLB_CTX_STATE_STATE c)
  let gone (p : Nat × List Nat) : Bool := p.2.all fun id => (s.job id).isNone
  let left := (s.ctx c).olds.zipIdx.filter fun x => !gone x.1 || (decide (2 ≤ st) && x.2 + 1 == (s.ctx c).olds.length)
  let s := s.updCtx c fun x => { x with olds := left.map Prod.fst }
  if left.isEmpty then s.set (F.GLB_CTX_STATE_OLD_BUSY c) 0 else s

/-- The arrays of an unloaded context whose time has come enter EMPTY; with the last of them the context is EMPTY (R271). -/
def State.unloadEmpty (s : State) (c : Nat) : State :=
  if s.get (F.GLB_CTX_STATE_STATE c) ≠ 3 then s
  else
    let s := (s.ctx c).wave.foldl (fun (s : State) x =>
      let a := s.arrOf x.g x.slot
      if x.done || decide (s.swath < x.from_) then s
      else if s.get (F.TSK_ARR_STATE_CONTEXT x.g a) = c then s.setArrState x.g a aEMPTY else s) s
    let s := s.updCtx c fun y => { y with wave := y.wave.map fun x => if x.from_ ≤ s.swath then { x with done := true } else x }
    if (s.ctx c).wave.all WaveItem.done then
      (s.set (F.GLB_CTX_STATE_STATE c) 0).updCtx c fun y => { y with wave := [] }
    else s

/-! ### The commands -/

/-- `LOADPKG` (R260). -/
def execLoadpkg (job cmd : Nat) (ecc : List (BitVec 24 × Ecc)) (s : State) : Host.Outcome State Fault Refusal :=
  .next (match s.workDue job cmd with
    | some (j, c) => if cmdOp c = 5 ∧ !(s.loads.any fun l => l.job == job && l.cmd == cmd) then
        s.loadpkg j cmd c (ecc.map fun (p : BitVec 24 × Ecc) => (p.1.toNat, p.2)) else s
    | none => s)

/-- `SIGNATURE_VERIFY` (R260, R333). -/
def execSignatureVerify (s : State) : Host.Outcome State Fault Refusal := .next s.verify

/-- `MANIFEST_WRITE` (R260). -/
def execManifestWrite (job cmd : Nat) (s : State) : Host.Outcome State Fault Refusal := .next (s.manifest job cmd)

/-- `CTXPTR` (R265). -/
def execCtxptr (job cmd : Nat) (s : State) : Host.Outcome State Fault Refusal :=
  .next (match s.workDue job cmd with
    | some (j, c) => if cmdOp c = 6 then s.ctxptr j cmd (tfld c 0 20 6) (cmdAddr c 2) else s
    | none => s)

/-- `CONTEXT_CHANGE_EFFECT` (R267): before any job of the boundary is decided. -/
def execContextChangeEffect (c : Ctx) (s : State) : Host.Outcome State Fault Refusal :=
  .next (if s.fresh then s.changeEffect c else s)

/-- `REPLACING_END` (R272). -/
def execReplacingEnd (c : Ctx) (s : State) : Host.Outcome State Fault Refusal := .next (s.replacingEnd c)

/-- `OLD_BUSY_CLEAR` (R272). -/
def execOldBusyClear (c : Ctx) (s : State) : Host.Outcome State Fault Refusal := .next (s.oldBusyClear c)

/-- `UNLOAD_EMPTY` (R271). -/
def execUnloadEmpty (c : Ctx) (s : State) : Host.Outcome State Fault Refusal := .next (s.unloadEmpty c)

/-- `CTX_EVENTS_CLR`: both counters of the context. -/
def execCtxEventsClr (c : Ctx) (s : State) : Host.Outcome State Fault Refusal :=
  .next (s.ifReach .GLB_CTX_EVENTS c fun s =>
    (s.set (F.GLB_CTX_EVENTS_SUPERSEDED_CNT c) 0).set (F.GLB_CTX_EVENTS_REFUSED_CNT c) 0)

/-- CHN_LD_PKG and CHN_LD_CLAMP cleared. -/
def State.ldClr (s : State) (n : Nat) : State :=
  ((s.set (F.CHN_LD_PKG_ACCEPTED n) 0).set (F.CHN_LD_PKG_REJECTED n) 0).set (F.CHN_LD_CLAMP_CLAMP_CNT n) 0

/-- `LD_CLR`. -/
def execLdClr (n : Chn) (s : State) : Host.Outcome State Fault Refusal := .next (s.ifReach .CHN_LD_CTRL n fun s => s.ldClr n)

/-- `DIST_STAT_CLR`. -/
def execDistStatClr (s : State) : Host.Outcome State Fault Refusal :=
  .next (s.ifReach .GLB_DIST_STAT 0 fun s => s.set F.GLB_DIST_STAT_MISS_CNT 0)

end Sys2Proof.Machine
end

