-- ==== Sys2Proof/Machine/Engines.lean ====
section
/-! DEFINITION. Engines as software and their rings see them (R230 to R234, R247 to R250): their registers, enabling and
disabling, single grants, the K1 front end and MSI-X messages. Log entries: 8. -/

namespace Sys2Proof.Machine
open Sys2Proof

/-! ### Registers of an engine (R227, R232) -/

/-- A read-write field of an engine written: only while RUNNING is 0; else CFG_ERR when the write would have changed it. -/
def State.engField (s : State) (k : Nat) (f : Fld) (v : Nat) : State :=
  if s.on (F.CHN_ENG_STATUS_RUNNING k) then
    (if s.get f = v % 2 ^ f.w then s else s.engErr k (F.CHN_ENG_STATUS_CFG_ERR k))
  else s.set f v

/-- The rings and the control block of an engine obey R227. -/
def State.ringsOk (s : State) (k : Nat) : Bool :=
  let r := s.get (F.CHN_ENG_CFG_RING_LOG2 k)
  let c := s.get (F.CHN_ENG_CFG_CPL_LOG2 k)
  decide (6 ≤ r ∧ r ≤ 20 ∧ 4 ≤ c ∧ c ≤ 20) &&
    decide (s.get (F.CHN_ENG_RING_BASE_BASE k) * 4096 + 32 * 2 ^ r ≤ stackEnd) &&
    decide (s.get (F.CHN_ENG_CTRL_ADDR_ADDR k) * 4096 + 512 ≤ stackEnd) &&
    decide (s.get (F.CHN_ENG_CPL_BASE_BASE k) * 4096 + (if s.on (F.CHN_ENG_CFG_FMT k) then 16 else 64) * 2 ^ c ≤ stackEnd)

/-- A write of CHN_ENG_CFG. -/
def State.engCfg (s : State) (k v : Nat) : State :=
  let s := s.engField k (F.CHN_ENG_CFG_RING_LOG2 k) (bitsOf v 0 5)
  let s := s.engField k (F.CHN_ENG_CFG_CPL_LOG2 k) (bitsOf v 5 5)
  let s := s.engField k (F.CHN_ENG_CFG_FMT k) (bitsOf v 10 1)
  if bitOf v 12 && !s.ringsOk k then (s.set (F.CHN_ENG_CFG_EN k) 0).engErr k (F.CHN_ENG_STATUS_CFG_ERR k)
  else s.set (F.CHN_ENG_CFG_EN k) (bitsOf v 12 1)

/-- A write of one of an engine's registers. -/
def State.engWriteReg (s : State) (k : Nat) (r : EngReg) (v : Nat) : State :=
  match r with
  | .ringBase => s.engField k (F.CHN_ENG_RING_BASE_BASE k) (bitsOf v 12 36)
  | .ctrlAddr => s.engField k (F.CHN_ENG_CTRL_ADDR_ADDR k) (bitsOf v 12 36)
  | .cplBase => s.engField k (F.CHN_ENG_CPL_BASE_BASE k) (bitsOf v 12 36)
  | .cfg => s.engCfg k v

/-! ### MSI-X (R247, R248) -/

/-- The MSI-X table entry of a vector. -/
def State.msixEntry (s : State) (v : Nat) : MsixEntry := Tab.get (fun _ => {}) s.irq.table v

/-- An MSI-X table entry replaced. -/
def State.setMsix (s : State) (v : Nat) (e : MsixEntry) : State :=
  { s with irq := { s.irq with table := Tab.set (fun _ => {}) s.irq.table v e } }

/-- The message of a vector whose events lie before the latest boundary: sent, or held by the mask. -/
def State.msixMessage (s : State) (v : Nat) : State :=
  if !bitOf s.irq.due v then s
  else
    let e := s.msixEntry v
    let s := { s with irq := { s.irq with due := clrMask s.irq.due v } }
    if e.masked then { s with irq := { s.irq with pba := setMask s.irq.pba v } } else s.send (.msix v e.addr e.data)

/-- A vector unmasked: a pending message is sent. -/
def State.msixUnmask (s : State) (v : Nat) : State :=
  let e := { s.msixEntry v with masked := false }
  let s := s.setMsix v e
  if bitOf s.irq.pba v then (State.send { s with irq := { s.irq with pba := clrMask s.irq.pba v } } (.msix v e.addr e.data)) else s

/-! ### K1 (R249, R250) -/

/-- OP of the K1 command at the head of a K1 ring; none on a K2 ring. -/
def State.k1Op (s : State) (k : Nat) : Option Nat :=
  if s.on (F.CHN_ENG_CFG_FMT k) then some ((Memory.read s.mem (s.entryAddr k (s.cons k))).toNat % 16) else none

/-- A grant for a K1 command whose OP passes a test. -/
def State.k1Grant (s : State) (n e : Nat) (ok : Nat → Bool) : State :=
  let s := s.ready
  match s.k1Op (4 * n + e) with
  | some op => if ok op then s.grantOne n e (fun _ => true) else s
  | none => s

/-! ### The commands -/

/-- `JOB` (R234). Log entry 8 (DESIGN CHOICE). -/
def execJob (n : Chn) (e : Eng) (s : State) : Host.Outcome State Fault Refusal :=
  .next (s.grantOne n e fun h => match h with
    | .job j _ _ => !j.k1
    | _ => false)

/-- `NOP` (R233). -/
def execNop (n : Chn) (e : Eng) (s : State) : Host.Outcome State Fault Refusal :=
  let s := s.ready
  .next (if (s.k1Op (4 * n + e)).isSome then s else s.grantOne n e fun h => h == .nop)

/-- `ENG_CFG_WRITE` (R232). -/
def execEngCfgWrite (n : Chn) (e : Eng) (r : EngReg) (v : Word64) (s : State) : Host.Outcome State Fault Refusal :=
  .next (s.ifReach .CHN_ENG_CFG (4 * n + e) fun s => s.engWriteReg (4 * n + e) r v.toNat)

/-- `ENG_ENABLE` (R232): at a boundary that found EN written as 1, with the engine idle. Log entry 8 (DESIGN CHOICE). -/
def execEngEnable (n : Chn) (e : Eng) (s : State) : Host.Outcome State Fault Refusal :=
  let k := 4 * n.val + e.val
  .next (if s.fresh && (s.engine k).seen then s.latchEn k else s)

/-- `ENG_DISABLE` (R232): at a boundary that found EN written as 0. -/
def execEngDisable (n : Chn) (e : Eng) (s : State) : Host.Outcome State Fault Refusal :=
  let k := 4 * n.val + e.val
  .next (if s.fresh && !(s.engine k).seen then s.latchEn k else s)

/-- `MSIX_MESSAGE` (R248). -/
def execMsixMessage (v : Fin 64) (s : State) : Host.Outcome State Fault Refusal :=
  .next (if s.pcieRuns then s.msixMessage v else s)

/-- `MSIX_UNMASK` (R248). -/
def execMsixUnmask (v : Fin 64) (s : State) : Host.Outcome State Fault Refusal :=
  .next (if s.pcieRuns then s.msixUnmask v else s)

/-- `K1_RUN` (R250). -/
def execK1Run (n : Chn) (e : Eng) (s : State) : Host.Outcome State Fault Refusal := .next (s.k1Grant n e (· == 1))

/-- `K1_COPY` (R250). -/
def execK1Copy (n : Chn) (e : Eng) (s : State) : Host.Outcome State Fault Refusal := .next (s.k1Grant n e (· == 2))

/-- `K1_LOAD` (R250). -/
def execK1Load (n : Chn) (e : Eng) (s : State) : Host.Outcome State Fault Refusal := .next (s.k1Grant n e (· == 3))

/-- `K1_FENCE` (R250). -/
def execK1Fence (n : Chn) (e : Eng) (s : State) : Host.Outcome State Fault Refusal := .next (s.k1Grant n e (· == 4))

/-- `K1_FENCE_CLEAR` (R250). -/
def execK1FenceClear (n : Chn) (e : Eng) (s : State) : Host.Outcome State Fault Refusal :=
  let k := 4 * n.val + e.val
  .next (if (s.engine k).fence && s.ringQuiet k then s.setEngine k { s.engine k with fence := false } else s)

/-- `K1_INTR` (R250). -/
def execK1Intr (n : Chn) (e : Eng) (s : State) : Host.Outcome State Fault Refusal := .next (s.k1Grant n e (· == 5))

/-- `K1_NOP` (R250). -/
def execK1Nop (n : Chn) (e : Eng) (s : State) : Host.Outcome State Fault Refusal := .next (s.k1Grant n e (· == 0))

/-- `K1_RESERVED` (R250). -/
def execK1Reserved (n : Chn) (e : Eng) (s : State) : Host.Outcome State Fault Refusal :=
  .next (s.k1Grant n e fun op => decide (6 ≤ op))

end Sys2Proof.Machine
end

