-- ==== Sys2Proof/Machine/Domains.lean ====
section
/-! DEFINITION. Power domains (R27 to R29): what each holds outside its registers, switching one off and on, and the reset of
everything except Heather island (R431). Log entries: 22, 31. -/

namespace Sys2Proof.Machine
open Sys2Proof

/-- The bit of PWR_DOMAIN that reports a domain. -/
def Domain.setPower (d : Domain) (s : State) (v : Bool) : State :=
  match d with
  | .quarter q => s.putBit F.PWR_DOMAIN_QUARTER q v
  | .core n => s.putBit F.PWR_DOMAIN_CORE n v
  | .stack n => s.putBit F.PWR_DOMAIN_STACK n v
  | .pcie => s.set F.PWR_DOMAIN_PCIE (natOf v)
  | .lea => s.set F.PWR_DOMAIN_LEA (natOf v)
  | .spine => s.set F.PWR_DOMAIN_SPINE (natOf v)
  | .stile => s.set F.PWR_DOMAIN_STILE (natOf v)

/-- Jobs that vanish with their channel core: no record and no token is written. -/
def State.forgetJobs (s : State) (p : Job → Bool) : State :=
  let ids := (s.jobs.filter p).map Job.id
  let gone (i : Nat) : Bool := ids.contains i
  let s := ids.foldl (fun s i => s.dropJob i false) s
  { s with
    t3 := s.t3.filter fun r => !gone r.job
    verifs := s.verifs.filter fun v => !gone v.job
    loads := s.loads.filter fun l => !gone l.job
    tests := s.tests.filter fun t => !gone t.job
    provs := s.provs.filter fun e => !(e.origin.isNone && gone e.job) }

/-- The payload and the tags of a stack return to the poisoned fill (R434). -/
def State.stackFill (s : State) (n : Nat) : State :=
  let m := Memory.fill s.mem (n * stackSize) ((n + 1) * stackSize)
  { s with
    mem := Memory.fill m (tagBase + n * (stackSize / 32)) (tagBase + (n + 1) * (stackSize / 32))
    latent := s.latent.filter fun p => !decide (n * stackSize ≤ p.1 ∧ p.1 < (n + 1) * stackSize) }

/-- What a domain holds outside its registers is lost; a stack's contents stay, in self-refresh. Log entry 31 (DESIGN CHOICE). -/
def Domain.forget (d : Domain) (s : State) : State :=
  match d with
  | .quarter q =>
    let mine (g : Nat) : Bool := g / 16 == q
    { s with
      tusss := Tab.clear s.tusss (16 * q) (16 * q + 16)
      mem := Memory.fill s.mem (tskBase (16 * q)) (tskBase (16 * q + 16))
      areas := s.areas.filter fun a => !mine a.g
      flight := s.flight.filter fun f => !mine f.g
      latent := s.latent.filter fun p => !decide (tskBase (16 * q) ≤ p.1 ∧ p.1 < tskBase (16 * q + 16))
      chans := Tab.mapV (fun _ => {}) (fun _ (c : Chan) => { c with repairs := c.repairs.filter fun r => !mine r.g }) s.chans }
  | .core n =>
    let s := s.forgetJobs fun j => j.chan == n
    { s with flits := s.flits.filter fun p => !(p.1 == n || (decide (4 ≤ p.1) && (p.1 - 4) / 2 % 4 == n)), engines := Tab.clear s.engines (4 * n) (4 * n + 4), chans := Tab.clear s.chans n (n + 1) }
  | .stack _ => s
  | .pcie => { s with host := {}, irq := { s.irq with table := [], pba := 0, due := 0, now := 0 } }
  | .lea => { s with leas := [], leaFaults := [], chainRefs := [] }
  | .spine =>
    { s with
      irq := {}, host := {}, mgmt := {}, provs := [], ctxs := [], verifs := [], sensors := [], entry := none
      quarters := [], fractionOld := none, fractionAt := 0, prods := [] }
  | .stile => { s with stile := {} }

/-- TSK_STATE of the Tussocks of a domain: OFF while their quarter is off, QUARANTINED when it has been switched on (R157). -/
def Domain.tskStates (d : Domain) (s : State) (v : Nat) : State :=
  match d with
  | .quarter q => (List.range 16).foldl (fun (s : State) i => s.set (F.TSK_STATE_STATE (16 * q + i)) v) s
  | .core _ => s
  | .stack _ => s
  | .pcie => s
  | .lea => s
  | .spine => s
  | .stile => s

/-- A domain is switched off: its registers return to their reset values and what it held is lost. -/
def State.domainOff (s : State) (d : Domain) : State :=
  if s.powered d then d.setPower (d.tskStates (d.forget (s.resetDomainRegs d)) 0) false else s

/-- A domain is switched on. A quarter's Tussocks come up QUARANTINED with cause POWER and every array EMPTY, and the analogue
outputs in the safe state with cause 1, as their reset values say (R29, R158, R159, R399). -/
def State.domainOn (s : State) (d : Domain) : State :=
  if s.powered d then s
  else
    let s := d.setPower (d.tskStates s 2) true
    match d with
    | .stile => s.signal 42
    | .quarter _ => s
    | .core _ => s
    | .stack _ => s
    | .pcie => s
    | .lea => s
    | .spine => s

/-- Domains switched off in an order, and on in an order. -/
def State.domainsOff (s : State) (ds : List Domain) : State := ds.foldl State.domainOff s
def State.domainsOn (s : State) (ds : List Domain) : State := ds.foldl State.domainOn s

/-- The domains of a channel, in dependency order (R28). -/
def chanDomains (n : Nat) : List Domain := [.core n, .stack n] ++ (List.range 4).map fun q => .quarter (4 * n + q)

/-- The domains of the fabric, in dependency order. -/
def fabricDomains : List Domain :=
  (List.range 4).map .core ++ (List.range 4).map .stack ++ (List.range 16).map .quarter

/-- Every switched domain in dependency order. -/
def allDomains : List Domain := [.spine, .stile, .pcie, .lea] ++ fabricDomains

/-- Everything except Heather island, its retention memory and the flash is reset (R431): what waits outside and what the
device has sent stay. -/
def State.resetKeep (s : State) (h : Heather) : State :=
  { State.reset with
    pending := s.pending, free := s.free, out := s.out, nextJob := s.nextJob, flash := s.flash, genSets := s.genSets
    heather := h }

/-- A reset with the cause that the start after it reports. -/
def State.chipReset (s : State) (cause : Nat) (ph : Phase) : State :=
  s.resetKeep { s.heather with cause := cause, phase := ph, save := none, lastStage := s.heather.lastStage }

/-- The main rails go: every switched domain is off and the device is in Off (R408, R414, R494). Log entry 22 (DEDUCED). -/
def State.railsOff (s : State) (ph : Phase) (mayRise : Bool) : State :=
  let s := s.resetKeep { s.heather with phase := ph, mainEn := false, mainGood := false, mayRise := mayRise, save := none }
  s.set F.PWR_STATUS_STATE 4

/-- The field outputs take their safe values, and the analogue outputs enter the safe state with a cause (R377, R399). -/
def State.fieldSafe (s : State) (cause : Nat) : State :=
  if !s.powered .stile then s
  else
    let v := s.get F.STL_FOUT_SAFE_VALUE
    let o := s.get F.STL_FOUT_SAFE_OE
    (((s.set F.STL_FOUT_VALUE v).set F.STL_FOUT_OE o).send (.safeOutputs v o)).allAoutSafe cause

end Sys2Proof.Machine
end

