-- ==== Sys2Proof/Machine/Heat.lean ====
section
/-! DEFINITION. Heat (R401 to R412): sensors, rates and broken sensors, the budget values of the thermal network and of the
power measurement, the trip with its shutdown record, and the restart gate. Temperatures are in 1/8 °C. Log entries: 16, 17, 35. -/

namespace Sys2Proof.Machine
open Sys2Proof

/-! ### Sensors -/

/-- Sensor `k`. -/
def State.sensor (s : State) (k : Nat) : Sensor := Tab.get (fun _ => {}) s.sensors k

/-- Sensor `k` replaced. -/
def State.setSensor (s : State) (k : Nat) (x : Sensor) : State := { s with sensors := Tab.set (fun _ => {}) s.sensors k x }

/-- The reading of THM_SENSk. -/
def State.temp (s : State) (k : Nat) : Int := sgn 12 (s.get (F.THM_SENS_TEMP k))

/-- The rate of THM_SENSk. Log entry 16 (DESIGN CHOICE and DEDUCED). -/
def State.rate (s : State) (k : Nat) : Int := sgn 16 (s.get (F.THM_SENS_RATE k))

/-- A sensor that has reported and is not broken. -/
def State.sensValid (s : State) (k : Nat) : Bool := !s.on (F.THM_SENS_BROKEN k)

/-- The restore temperature of the two Tussocks beside a compute-die sensor, in whole °C rounded up (R61), 0 below 0 °C; CURRENT and
STALE follow it (R289). Log entry 35 (DESIGN CHOICE). -/
def State.restoreTemp (s : State) (k : Nat) : State :=
  if 128 ≤ k then s
  else
    let t := min 255 ((s.temp k + 7) / 8).toNat
    [2 * k, 2 * k + 1].foldl (fun s g =>
      if s.onT g then
        let b := s.get (F.THM_SENS_BROKEN k)
        let s := if s.get (F.TSK_RESTORE_TEMP_SENSOR_BROKEN g) = b then s
          else (s.set (F.TSK_RESTORE_TEMP_SENSOR_BROKEN g) b).brkCurrent g
        if s.get (F.TSK_RESTORE_TEMP_TEMP g) = t then s
        else ((s.set (F.TSK_RESTORE_TEMP_TEMP g) t).updTuss g fun x => { x with refDue := true }).brkCurrent g
      else s) s

/-- A broken sensor reads 125 °C and says so (R403). -/
def State.sensBad (s : State) (k : Nat) : State := (s.set (F.THM_SENS_TEMP k) 1000).set (F.THM_SENS_BROKEN k) 1

/-- A sensor is broken, for a reason of THM_SENS.WHY (R403). Log entry 16 (DESIGN CHOICE and DEDUCED). -/
def State.sensBreak (s : State) (k why : Nat) : State :=
  let x := s.sensor k
  let s := (s.sensBad k).set (F.THM_SENS_WHY k) why
  let s := s.setSensor k { x with broken := true, good := 0, moved := false }
  (if x.broken then s else (s.set F.THM_STATUS_BROKEN_SET 1).signal 30).restoreTemp k

/-- A sensor is in service, with a reading. -/
def State.sensServe (s : State) (k : Nat) (reading : Int) : State :=
  let s := s.setSensor k { s.sensor k with broken := false, good := 0, moved := false }
  (((s.set (F.THM_SENS_TEMP k) (unsgn 12 reading)).set (F.THM_SENS_BROKEN k) 0).set (F.THM_SENS_WHY k) 0).restoreTemp k

/-- The readings that a later rate may need: those of the last millisecond and the latest before it. -/
def trimHist (now : Nat) : List (Nat × Int) → List (Nat × Int)
  | [] => []
  | x :: xs => if x.1 + 1000000 ≤ now then [x] else x :: trimHist now xs

/-- A reading inside the range beyond which a sensor is broken, −40 °C to 150 °C (R403). -/
def inRange (reading : Int) : Bool := decide (-320 ≤ reading) && decide (reading ≤ 1200)

/-- One conversion of sensor `k`: raw code and reading (R402, R403). A broken sensor returns to service after 2,000 conversions in
range among which its code has changed. -/
def State.sensConvert (s : State) (k code : Nat) (reading : Int) : State :=
  let x := s.sensor k
  let changed := x.reported && code != x.code
  let outRange := !inRange reading
  let hist := trimHist s.time ((s.time, reading) :: x.hist)
  let rate := match hist.getLast? with
    | some (t, r) => if t + 1000000 ≤ s.time then unsgn 16 (reading - r) else s.get (F.THM_SENS_RATE k)
    | none => 0
  let same := if x.reported && !changed then x.same + 1 else 0
  let mending := x.broken && !outRange
  let good := if mending then x.good + 1 else 0
  let moved := mending && (x.moved || (changed && decide (0 < x.good)))
  let y := { x with hist := hist, code := code, same := same, good := good, moved := moved, reported := true }
  let s := (s.setSensor k y).set (F.THM_SENS_RATE k) rate
  if outRange then s.sensBreak k 1
  else if x.broken then (if decide (2000 ≤ good) && moved then s.sensServe k reading else (s.sensBad k).restoreTemp k)
  else if 2000 ≤ same then s.sensBreak k 2
  else s.sensServe k reading

/-! ### The thermal network (R404, R405) -/

/-- The highest of some integers. -/
def maxInt : List Int → Option Int
  | [] => none
  | x :: xs => some (xs.foldl max x)

/-- The sensors among which a broken sensor's replacement is sought: its fabric quarter, or its stack. -/
def sensGroup (k : Nat) : List Nat := (List.range 8).map fun i => k / 8 * 8 + i

/-- The reading of a sensor for the budget: a broken one is replaced by the highest valid reading of its group plus 5 °C
(R404). -/
def State.budgetTemp (s : State) (k : Nat) : Int :=
  if s.sensValid k then s.temp k
  else
    match maxInt (((sensGroup k).filter s.sensValid).map s.temp) with
    | some t => t + 40
    | none => 1000

/-- The compute-die sensors of channel `n`, and the sensors of its stack. -/
def dieSensors (n : Nat) : List Nat := (List.range 32).map fun i => 32 * n + i
def stackSensors (n : Nat) : List Nat := (List.range 8).map fun i => 128 + 8 * n + i

/-- A value held within 0 and 256. -/
def unit256 (x : Int) : Nat := (clampInt 0 256 x).toNat

/-- RATE_LIM, held within 4 to 64. -/
def State.rateLim (s : State) : Int := max 4 (min 64 (s.get F.THM_RATE_RATE_LIM))

/-- Hottest readings of a channel's die sensors and of its stack, and the highest rate among its valid sensors. -/
def State.hotDie (s : State) (n : Nat) : Int := (maxInt ((dieSensors n).map s.budgetTemp)).getD 0
def State.hotStack (s : State) (n : Nat) : Int := (maxInt ((stackSensors n).map s.budgetTemp)).getD 0
def State.hotRate (s : State) (n : Nat) : Option Int :=
  maxInt (((dieSensors n ++ stackSensors n).filter s.sensValid).map s.rate)

/-- β_thm of a channel (R405), in units of 1/256. -/
def State.betaThm (s : State) (n : Nat) : Nat :=
  if (dieSensors n ++ stackSensors n).all fun k => (s.sensor k).reported then
    let thr : Int := min 110 (s.get F.THM_CFG_THR)
    let fc := (1280 - 8 * (s.hotDie n - 8 * thr)) / 5
    let fs := (1280 - 8 * (s.hotStack n - 8 * (s.get F.THM_CFG_STK_THR : Int))) / 5
    let lim := s.rateLim
    let fr := match s.hotRate n with
      | some r => if lim < r then 256 * (2 * lim - r) / lim else 256
      | none => 256
    unit256 (min fc (min fs fr))
  else 0

/-- Some channel's highest rate exceeds RATE_LIM. -/
def State.rateExcess (s : State) : Bool :=
  (List.range 4).any fun n => match s.hotRate n with
    | some r => decide (s.rateLim < r)
    | none => false

/-- Bytes of the mirror padded to its 256 bytes. -/
def mirrorPad (bs : List Byte) : List Byte := bs.take 256 ++ List.replicate (256 - bs.length) 0

/-- Where the mirror holds the reading of Stile sensor 160 + `i`, and behind it its rate. Log entry 16 (DESIGN CHOICE). -/
def mirrorStile (i : Nat) : Nat := 36 + 4 * i

/-- The 256-byte mirror of the latest readings, rates and budget values in Heather island: what bytes +0x18 to +0x33 of a
shutdown record take, the device time of the conversion, and reading and rate of the Stile sensors (R409). Log entry 16 (DESIGN
CHOICE: its layout). -/
def State.mirrorBytes (s : State) (betas : List Nat) : List Byte :=
  mirrorPad <| (List.range 4).flatMap (fun n => leBytes 2 (unsgn 16 (s.hotDie n))) ++
  (List.range 4).flatMap (fun n => leBytes 2 (unsgn 16 (s.hotStack n))) ++
  betas.flatMap (leBytes 2) ++ leBytes 2 (s.get F.THM_POWER_P) ++ leBytes 1 (s.get F.BOOT_STATUS_SLOT) ++
  leBytes 1 (s.get F.THM_STATUS_BROKEN_NOW) ++ leBytes 8 s.time ++
  (List.range 4).flatMap fun i => leBytes 2 (unsgn 16 (s.temp (160 + i))) ++ leBytes 2 (unsgn 16 (s.rate (160 + i)))

/-- The device time of a trip: that of the conversion that the mirror holds, and in Deep sleep the time at entry and 10 ms for each
reading since (R409, R417). Log entry 16 (DESIGN CHOICE). -/
def State.tripTime (s : State) : Nat :=
  if s.get F.PWR_STATUS_STATE = 3 then s.slept + 10000000 * s.heather.reads else s.time

/-- The budget values of a conversion: β_thm of every channel, THM_STATUS and the mirror. Log entry 16 (DESIGN CHOICE and DEDUCED). -/
def State.thermal (s : State) : State :=
  let s := s.set F.THM_STATUS_BROKEN_NOW (((List.range 164).filter fun k => (s.sensor k).broken).length)
  let betas := (List.range 4).map s.betaThm
  let s := betas.zipIdx.foldl (fun s (b, n) => if s.powered (.core n) then s.set (F.CHN_ADM_BUDGET_THM n) b else s) s
  let low := betas.any fun b => decide (b < 256)
  let s := if low && !s.on F.THM_STATUS_THROTTLE then s.signal 30 else s
  let s := (s.set F.THM_STATUS_THROTTLE (natOf low)).set F.THM_STATUS_RATE_EXCESS (natOf s.rateExcess)
  { s with heather := { s.heather with mirror := s.mirrorBytes betas } }

/-! ### The trip (R407 to R409) -/

/-- The journal of shutdown records in the flash: address, and slots. -/
def journalBase : Nat := 0x2400000
def journalSlots : Nat := 4096

/-- Slots of the journal that are not erased. -/
def State.journalUsed (s : State) : List Nat :=
  ((s.flash.filter fun c => decide (journalBase ≤ c.1) && decide (c.1 < journalBase + journalSlots * 64)).map fun c =>
    (c.1 - journalBase) / 64).dedup

/-- Bytes of the flash. -/
def State.flashBytes (s : State) (a n : Nat) : List Byte := Tab.getList (fun _ => 0xFF#8) s.flash a n

/-- Bytes written over the flash. -/
def State.flashPut (s : State) (a : Nat) (bs : List Byte) : State :=
  { s with flash := Tab.setList (fun _ => 0xFF#8) s.flash a bs }

/-- SEQ of a journal slot. -/
def State.journalSeq (s : State) (i : Nat) : Nat := leNat (s.flashBytes (journalBase + 64 * i + 0x34) 4)

/-- The used slot with the highest SEQ. -/
def State.journalLast (s : State) : Option Nat :=
  s.journalUsed.foldl (fun b i => match b with
    | none => some i
    | some j => if s.journalSeq j < s.journalSeq i then some i else some j) none

/-- The erased slot that follows it, if any is left. Log entry 16 (DESIGN CHOICE and DEDUCED). -/
def State.journalNext (s : State) : Option Nat :=
  let used := s.journalUsed
  let start := match s.journalLast with
    | some i => i + 1
    | none => 0
  ((List.range journalSlots).map fun i => (start + i) % journalSlots).find? fun i => !used.contains i

/-- The shutdown record (R409). Log entry 16 (DESIGN CHOICE and DEDUCED). -/
def State.shutdownRecord (s : State) (cause k : Nat) (temp rate : Int) : List Byte :=
  let seq := match s.journalLast with
    | some i => s.journalSeq i + 1
    | none => 1
  let body := leBytes 4 0x54524950 ++ leBytes 2 1 ++ leBytes 1 cause ++ leBytes 1 k ++ leBytes 8 s.tripTime ++
    leBytes 2 (unsgn 16 temp) ++ leBytes 2 (unsgn 16 rate) ++ leBytes 4 s.heather.total ++
    (mirrorPad s.heather.mirror).take 28 ++ leBytes 4 seq
  body ++ List.replicate 4 0xFF#8 ++ leBytes 4 (crc32c body)

/-- A register field as the device has it, or in Deep sleep as Heather island has saved it (R428). Log entry 17 (DEDUCED and DESIGN CHOICE). -/
def State.kept (s : State) (f : Fld) : Nat :=
  match s.heather.save with
  | some r => if s.get F.PWR_STATUS_STATE = 3 then Tab.get (fun _ => f.rst) r f.key else s.get f
  | none => s.get f

/-- A trip (R408, R409): safe outputs, the shutdown record, and the device in Off. Log entry 16 (DESIGN CHOICE and DEDUCED). -/
def State.trip (s : State) (cause k : Nat) (temp rate : Int) : State :=
  let s := s.fieldSafe 2
  let rec_ := s.shutdownRecord cause k temp rate
  let (s, full) := match s.journalNext with
    | some i => (s.flashPut (journalBase + 64 * i) rec_, false)
    | none => (s, true)
  let s := { s with heather := { s.heather with
    record := some rec_, journalFull := full, tripped := true, gate := false, restart := min 85 (s.kept F.THM_RATE_RESTART) } }
  s.railsOff .railsDown false

/-- The lowest sensor of a list with a valid reading at or above a limit. -/
def State.hotSensor (s : State) (ks : List Nat) (limit : Int) : Option Nat :=
  ks.find? fun k => s.sensValid k && decide (limit ≤ s.temp k)

/-- The trip conditions at a conversion, the lowest cause first (R407). -/
def State.tripCheck (s : State) : State :=
  let die : Int := max 90 (min 115 (s.get F.THM_CFG_TRIP))
  let stk : Int := min 105 (s.get F.THM_CFG_STK_TRIP)
  match s.hotSensor (List.range 128) (8 * die) with
  | some k => s.trip 1 k (s.temp k) (s.rate k)
  | none =>
    match s.hotSensor ((List.range 32).map (· + 128)) (8 * stk) with
    | some k => s.trip 2 k (s.temp k) (s.rate k)
    | none =>
      match s.hotSensor ((List.range 4).map (· + 160)) (8 * 115) with
      | some k => s.trip 3 k (s.temp k) (s.rate k)
      | none => s

/-- A conversion of the sensors given, the budget and the trip. -/
def State.conversion (s : State) (xs : List (Nat × Nat × Int)) : State :=
  if !s.powered .spine then s
  else (xs.foldl (fun (s : State) (x : Nat × Nat × Int) => s.sensConvert x.1 x.2.1 x.2.2) s).thermal.tripCheck

/-! ### Power (R406) -/

/-- β_pwr; a PEAK_LIM that does not lie above PWR_LIM gives none that the spec states. Log entry 16 (DESIGN CHOICE and DEDUCED). -/
def State.powerMeasured (s : State) (p : Nat) : State :=
  let lim : Int := min 300 (s.get F.THM_PWR_PWR_LIM)
  let peak : Int := min 360 (s.get F.THM_PWR_PEAK_LIM)
  let (s, b) := if lim < peak then (s, unit256 (256 * (peak - p) / (peak - lim))) else (s.draw, s.freeVal 16 % 257)
  let s := (s.set F.THM_POWER_P p).set F.THM_POWER_BETA_PWR b
  (List.range 4).foldl (fun s n => if s.powered (.core n) then s.set (F.CHN_ADM_BUDGET_PWR n) b else s) s

/-! ### The restart gate (R410) -/

/-- Every valid reading given lies below a limit in °C. -/
def belowLimit (limit : Nat) (xs : List Int) : Bool := (xs.filter inRange).all fun t => decide (t < 8 * (limit : Int))

/-- Heather island's reading of a Stile sensor in the mirror; its rate stays as it was. -/
def mirrorRead (m : List Byte) (x : Nat × Int) : List Byte :=
  let o := mirrorStile x.1
  (mirrorPad m).take o ++ leBytes 2 (unsgn 16 x.2) ++ (mirrorPad m).drop (o + 2)

/-- Heather island's readings in Deep sleep, every 10 ms (R417): they stand in the mirror, and a valid one at 115 °C trips (R407).
Log entry 16 (DESIGN CHOICE: the rate that such a record holds). -/
def State.deepRead (s : State) (xs : List (Nat × Int)) : State :=
  let good := xs.filter fun x => inRange x.2
  let s := { s with heather := { s.heather with
    mirror := good.foldl mirrorRead s.heather.mirror, reads := s.heather.reads + 1 } }
  match ((List.range 4).flatMap fun k => good.filter fun x => x.1 == k).find? fun x => decide (920 ≤ x.2) with
  | some x => s.trip 3 (160 + x.1) x.2 (sgn 16 (leNat ((s.heather.mirror.drop (mirrorStile x.1 + 2)).take 2)))
  | none => s

/-! ### The commands -/

/-- `SENSOR_CONVERSION` (R401 to R405, R407). -/
def execSensorConversion (xs : List (Sens × BitVec 16 × Int)) (s : State) : Host.Outcome State Fault Refusal :=
  .next (s.conversion (xs.map fun x => (x.1.val, x.2.1.toNat, x.2.2)))

/-- `SENSOR_TIMEOUT` (R403). -/
def execSensorTimeout (k : Sens) (s : State) : Host.Outcome State Fault Refusal :=
  .next (if s.powered .spine then s.sensBreak k 3 else s)

/-- `POWER_MEASUREMENT` (R406). -/
def execPowerMeasurement (p : BitVec 10) (s : State) : Host.Outcome State Fault Refusal :=
  .next (if s.powered .spine then s.powerMeasured p.toNat else s)

/-- `THM_FORCE_TRIP` (R407). -/
def execThmForceTrip (s : State) : Host.Outcome State Fault Refusal :=
  .next (s.ifReach .THM_CTRL 0 fun s => s.trip 4 0xFF 0 0)

/-- `RESTART_GATE` (R410): the valid Stile readings, none when all four sensors are broken; the gate is open while every one of
them lies below RESTART. -/
def execRestartGate (xs : List (Fin 4 × Int)) (s : State) : Host.Outcome State Fault Refusal :=
  .next (if s.heather.tripped then
    { s with heather := { s.heather with gate := belowLimit s.heather.restart (xs.map Prod.snd) } } else s)

/-- `DEEP_SLEEP_SENSOR_READ` (R417): the Stile readings that Heather island takes in Deep sleep. -/
def execDeepSleepSensorRead (xs : List (Fin 4 × Int)) (s : State) : Host.Outcome State Fault Refusal :=
  .next (if s.get F.PWR_STATUS_STATE = 3 then s.deepRead (xs.map fun x => (x.1.val, x.2)) else s)

end Sys2Proof.Machine
end

