-- ==== Sys2Proof/Machine/Hedgerow.lean ====
section
/-! DEFINITION. Blocks that arrive over Hedgerow, inbound PCIe accesses through BAR2, and the error registers of the
memory tiers (R161 to R190, R223). Log entries: 7, 12. -/

namespace Sys2Proof.Machine
open Sys2Proof

/-- A block that arrives for a job's command (R165, R174): a flit error is counted, an uncorrectable one poisons the
block, and the block is written and checked. -/
def State.blockArrive (s : State) (n job cmd a : Nat) (b : Block) (link : Ecc) (expect : Option (Nat × Nat)) : State :=
  let (s, b) := s.flitNote (chanOfAddr a) link b
  s.writeBlock n job cmd (unitOfAddr a) a b expect

/-- The domain that holds the memory at an address is powered. Log entry 12 (PRESUMED and DEDUCED). -/
def State.memPowered (s : State) (a : Nat) : Bool :=
  match regionOf a with
  | .stack n => s.powered (.stack n)
  | .tag b => s.powered (.stack (b / stackSize))
  | .bank g _ => s.powered (.quarter (quarterOf g))
  | .bankTag g _ => s.powered (.quarter (quarterOf g))
  | .table g _ => s.powered (.quarter (quarterOf g))
  | .reserved g => s.powered (.quarter (quarterOf g))
  | _ => true

/-- One block of an inbound write, at `base` with `o` the offset in the block, under the tagging of guard `k`
(R180, R184). -/
def State.pcieBlock (s : State) (k base o : Nat) (bytes : List Byte) (e : Ecc) : State :=
  let old := s.block base
  let whole := o = 0 ∧ bytes.length = 256
  let data := overlay old.data o bytes
  let mode := s.get (F.GLB_RGN_ATTR_TAG_MODE k)
  let seq := (base - s.get (F.GLB_RGN_BASE_BASE k) * 4096) / 256
  let tagged : Block :=
    if mode = 0 then Block.fresh data (s.get (F.GLB_RGN_INGRESS_TENSOR_ID k)) seq
    else if mode = 1 then Block.fresh data old.tid old.seq
    else { old with data := data }
  let (s, tagged) := s.crossing tagged (placesBetween none (some (chanOfAddr base)))
  if whole then s.putBlock base tagged
  else
    let e := s.foundAt base e
    let bad := mode < 2 ∧ (old.good || old.poisoned) = false
    let s := s.mergeCount base e bad
    if e = .ue ∨ bad then s.putBlock base tagged.poison else s.putBlock base tagged

/-- The check area of a bank is closed to the host (R305). -/
def State.checkAreaClosed (s : State) (off : Nat) : Bool :=
  let f := s.get F.GRS_CFG_FRACTION
  3584 ≤ off / 256 && 1 ≤ f && f ≤ 4

/-- The part of an inbound write that falls in one block. -/
def State.pciePart (s : State) (a : Nat) (bytes : List Byte) (e : Ecc) : State :=
  let base := a / 256 * 256
  let k := (s.guardsFor .pcie true base 256).headD 0
  if !s.memPowered a then s
  else match regionOf a with
    | .stack _ => s.pcieBlock k base (a % 256) bytes e
    | .bank _ off => if s.checkAreaClosed off then s else s.pcieBlock k base (a % 256) bytes e
    | _ => s.putRaw a bytes

/-- An inbound write block by block, in ascending address order, each with its finding; `fuel` bounds the blocks. -/
def State.pcieBlocks (s : State) (a : Nat) (bytes : List Byte) (es : List Ecc) : Nat → State
  | 0 => s
  | fuel + 1 =>
    let room := 256 - a % 256
    let s := s.pciePart a (bytes.take room) (es.headD .ok)
    if bytes.length ≤ room then s else s.pcieBlocks (a + room) (bytes.drop room) es.tail fuel

/-- Why an inbound access is an address fault, if it is (R182 to R186): the host aperture is unmapped for BAR2 (R481). -/
def State.pcieFault (s : State) (wr : Bool) (a len : Nat) : Option Bool :=
  match regionOf a with
  | .host => some true
  | _ => s.accessFault .pcie wr a len

/-- The device physical address of a BAR2 offset (R182). -/
def State.bar2Addr (s : State) (off : Nat) : Nat := s.get F.PCI_BAR2_BASE_BASE * 2 ^ 30 + off

/-- An inbound PCIe write (R182 to R186, R94). Log entry 12 (PRESUMED and DEDUCED). -/
def State.pcieWrite (s : State) (off : Nat) (bytes : List Byte) (es : List Ecc) : State :=
  let a := s.bar2Addr off
  if bytes.isEmpty then s
  else match s.pcieFault true a bytes.length with
    | some u => (s.addressFault .pcie true a u).send .aerUnsupported
    | none =>
      match regionOf a with
      | .table g o => if s.memPowered a then s.writeTable g o bytes else s
      | _ => s.pcieBlocks a bytes es (bytes.length / 256 + 2)

/-- The bytes that an inbound read returns: table SRAM reads as 0 until the identity tables are written (R92). -/
def State.pcieBytes (s : State) (a len : Nat) : List Byte :=
  match regionOf a with
  | .table g _ => if s.on (F.TSK_CONV_STATUS_TABLE_INIT_DONE g) then Memory.readN s.mem a len else List.replicate len 0
  | _ => Memory.readN s.mem a len

/-- What the finding on one word or block of an inbound read does (R97, R98, R150, R177): a single-bit error of a table word
counts, and the word waits to be written back. -/
def State.pcieReadEcc (s : State) (a : Nat) (e : Ecc) : State :=
  match e, regionOf a with
  | .ce, .table g o => ((s.inc (F.TSK_TABLE_ECC_CE_CNT g)).set (F.TSK_CONV_STATUS_TABLE_CE g) 1).updTuss g fun t =>
      { t with writeBack := t.writeBack ++ [o / 4 * 4] }
  | .ue, .table g _ => s.set (F.TSK_CONV_STATUS_TABLE_UE g) 1
  | e, .bankTag g o => s.eccRead (tskBase g + o / 8 * 256) (s.foundAt (tskBase g + o / 8 * 256) e)
  | e, .tag b => s.eccRead b (s.foundAt b e)
  | e, _ => s.eccRead (a / 256 * 256) (s.foundAt (a / 256 * 256) e)

/-- Bytes that one check covers: a word of table SRAM (R96), the tags of a bank or stack whose blocks lie together, a block. -/
def eccUnit (a : Nat) : Nat :=
  match regionOf a with
  | .table _ _ => 4
  | .bankTag _ _ => 8
  | .tag _ => 8
  | _ => 256

/-- An address lies in a check area that the host can not use now (R305). -/
def State.inCheckArea (s : State) (a : Nat) : Bool :=
  match regionOf a with
  | .bank _ off => s.checkAreaClosed off
  | _ => false

/-- The bytes of an inbound read, unit by unit with its finding: a block of the check area holds what the check lane keeps there, which
nothing constrains (R305, R306, log entry 7, DESIGN CHOICE); a table word with an uncorrectable error is returned as its stored
bits stand, which nothing constrains (R98); an uncorrectable bank or stack block is returned as it is read. `fuel` bounds the
units. -/
def State.pcieReadUnits (s : State) (a len : Nat) (es : List Ecc) : Nat → State × List Byte
  | 0 => (s, [])
  | fuel + 1 =>
    if len = 0 then (s, [])
    else
      let u := eccUnit a
      let n := min len (u - a % u)
      let e := es.headD .ok
      let isTable : Bool := match regionOf a with
        | .table g _ => s.on (F.TSK_CONV_STATUS_TABLE_INIT_DONE g)
        | _ => false
      let open_ := (e == .ue && isTable) || s.inCheckArea a
      let bytes := if open_ then (leBytes u (s.freeVal (8 * u))).take n else s.pcieBytes a n
      let s := if open_ then s.draw else s
      let s := (s.crossing (s.block (a / 256 * 256)) (placesBetween (some (chanOfAddr a)) none)).1
      let (s, rest) := (s.pcieReadEcc a e).pcieReadUnits (a + n) (len - n) es.tail fuel
      (s, bytes ++ rest)

/-- An inbound PCIe read (R183, R186). Log entry 12 (PRESUMED and DEDUCED). -/
def State.pcieRead (s : State) (off len : Nat) (es : List Ecc) : State :=
  let a := s.bar2Addr off
  if len = 0 then s
  else match s.pcieFault false a len with
    | some u => (s.addressFault .pcie false a u).send .completionUnsupported
    | none =>
      if es.all (· == .ok) && s.latent.isEmpty && s.flits.isEmpty && !s.inCheckArea (a + len - 1) then s.send (.completion (s.pcieBytes a len))
      else
        let (s, bs) := s.pcieReadUnits a len es (len + 1)
        s.send (.completion bs)

/-! ### The commands -/

/-- `BLOCK_ARRIVE` (R174). -/
def execBlockArrive (n : Chn) (job cmd : Nat) (a : BitVec 48) (data : List Byte) (crc : Word) (tid seq : BitVec 16)
    (link : Ecc) (expect : Option (BitVec 16 × BitVec 16)) (s : State) : Host.Outcome State Fault Refusal :=
  .next (if s.powered (.core n) then
      s.blockArrive n job cmd (a.toNat / 256 * 256) ⟨data, crc.toNat, tid.toNat, seq.toNat⟩ link
        (expect.map fun p => (p.1.toNat, p.2.toNat))
    else s)

/-- `PCIE_INBOUND_WRITE` (R184): while the PCIe domain is powered. -/
def execPcieInboundWrite (off : BitVec 38) (bytes : List Byte) (ecc : List Ecc) (s : State) :
    Host.Outcome State Fault Refusal :=
  .next (if s.pcieRuns then s.pcieWrite off.toNat bytes ecc else s)

/-- `PCIE_INBOUND_READ` (R183). -/
def execPcieInboundRead (off : BitVec 38) (len : BitVec 13) (ecc : List Ecc) (s : State) :
    Host.Outcome State Fault Refusal :=
  .next (if s.pcieRuns then s.pcieRead off.toNat len.toNat ecc else s)

/-- `RGN_FAULT_CLEAR` (R186): a held fault is released; with none held, FAULT_CNT clears. Log entry 12 (PRESUMED and DEDUCED). -/
def execRgnFaultClear (s : State) : Host.Outcome State Fault Refusal :=
  .next (s.ifReach .GLB_RGN_FAULT_INFO 0 fun s =>
    if s.on F.GLB_RGN_FAULT_INFO_VALID then s.set F.GLB_RGN_FAULT_INFO_VALID 0
    else s.set F.GLB_RGN_FAULT_INFO_FAULT_CNT 0)

/-- `BAR2_BASE_WRITE` (R182). -/
def execBar2BaseWrite (v : Word64) (s : State) : Host.Outcome State Fault Refusal :=
  .next (s.ifReach .PCI_BAR2_BASE 0 fun s => s.set F.PCI_BAR2_BASE_BASE (v.toNat / 2 ^ 30))

/-- `T3_LATE_CLR` (R189). -/
def execT3LateClr (s : State) : Host.Outcome State Fault Refusal :=
  .next (s.ifReach .PCI_T3_LATE 0 fun s => s.set F.PCI_T3_LATE_CNT 0)

/-- `HDG_ERR_CLR`: all four counters of the channel. -/
def execHdgErrClr (n : Chn) (s : State) : Host.Outcome State Fault Refusal :=
  .next (s.ifReach .CHN_HDG_ERR n fun s =>
    (((s.set (F.CHN_HDG_ERR_LINK_CE_CNT n) 0).set (F.CHN_HDG_ERR_LINK_UE_CNT n) 0).set (F.CHN_HDG_ERR_CRC_CNT n) 0).set
      (F.CHN_HDG_ERR_TAG_CNT n) 0)

/-- `STK_ERR_CLR`: all three counters of the channel. -/
def execStkErrClr (n : Chn) (s : State) : Host.Outcome State Fault Refusal :=
  .next (s.ifReach .CHN_STK_ERR n fun s =>
    ((s.set (F.CHN_STK_ERR_CE_CNT n) 0).set (F.CHN_STK_ERR_UE_CNT n) 0).set (F.CHN_STK_ERR_RMW_CNT n) 0)

/-- `INGRESS_STALL` (R223): each swath counts once. -/
def execIngressStall (s : State) : Host.Outcome State Fault Refusal :=
  .next (if s.powered .pcie ∧ s.stallSwath ≠ s.swath + 1 then
      State.inc { s with stallSwath := s.swath + 1 } F.PCI_ING_STALL_STALL_CNT
    else s)

/-- `ING_STALL_CLR`. -/
def execIngStallClr (s : State) : Host.Outcome State Fault Refusal :=
  .next (s.ifReach .PCI_ING_STALL 0 fun s => s.set F.PCI_ING_STALL_STALL_CNT 0)

/-- `ADM_CLR_CNT`: every counter of CHN_ADM_ADMITTED to CHN_ADM_SAT15, and BADCMD_CNT of the channel's engines. -/
def execAdmClrCnt (n : Chn) (s : State) : Host.Outcome State Fault Refusal :=
  .next (s.ifReach .CHN_ADM_CTRL n fun s =>
    let s := (((((s.set (F.CHN_ADM_ADMITTED_COUNT n) 0).set (F.CHN_ADM_REFUSED_REFUSED n) 0).set
      (F.CHN_ADM_REFUSED_THROTTLED n) 0).set (F.CHN_ADM_HELD_HELD n) 0).set (F.CHN_JOB_TIMEOUT_TIMEOUT_CNT n) 0).set
      (F.CHN_JOB_TIMEOUT_MASKED_CNT n) 0
    let s := (List.range 4).foldl (fun s e => s.set (F.CHN_ENG_STATUS_BADCMD_CNT (4 * n + e)) 0) s
    (List.range 16).foldl (fun s k => s.set (F.CHN_ADM_SAT_REFUSED_CNT n k) 0) s)

/-- `ADM_CLR_PEAK`: CHN_TAGS.PEAK and every PEAK of CHN_ADM_SATk. Log entry 12 (PRESUMED and DEDUCED). -/
def execAdmClrPeak (n : Chn) (s : State) : Host.Outcome State Fault Refusal :=
  .next (s.ifReach .CHN_ADM_CTRL n fun s =>
    (List.range 16).foldl (fun s k => s.set (F.CHN_ADM_SAT_PEAK n k) 0) (s.set (F.CHN_TAGS_PEAK n) 0))

end Sys2Proof.Machine
end

