-- ==== Sys2Proof/Machine/Work.lean ====
section
/-! DEFINITION. The work of admitted jobs (R202, R203, R222, R237 to R243, R326, R330 to R333): issuing tasks, copies, row
writes, digests and test vectors, timeouts and completion records. Log entries: 7, 9, 14, 29, 32. -/

namespace Sys2Proof.Machine
open Sys2Proof

/-! ### Tasks (R222, R237, R238) -/

/-- A template filled in for its job (R238): tag, channel, work swath and, for an EVAL task, its cycle. -/
def Job.fill (j : Job) (cmd w : Nat) (x : List Nat × Nat) : List Nat :=
  let t := x.1
  let tag := j.tags.getD (tfld t 1 0 14) 0
  let cyc := if tfld t 0 0 4 = 0 then
      ((j.placed.find? fun p => p.cmd == cmd && p.ix == x.2 && p.kind == 0 && !p.phaseB).map Placed.cycle).getD 0
    else 0
  (t.set 1 (tag + j.chan * 2 ^ 14 + w % 65536 * 2 ^ 16)).set 2 (t.getD 2 0 / 256 * 256 + cyc)

/-- A rerun of the job is due or runs (R123). -/
def State.rerunOn (s : State) (id : Nat) : Bool :=
  s.prods.any fun p => p.job == id && (p.rerunScale.isSome || (p.second && !p.ended))

/-- A work swath lies in the job's recompute allowance (R213). -/
def Job.inAllowance (j : Job) (w : Nat) : Bool := decide (j.rcFirst ≤ w ∧ w < j.rcFirst + j.rcLen)

/-- A TASKS command sends its list during the swath before its work swath: the tasks are on their way. The lists of a recompute
allowance are sent for a rerun only, and are idle else (R123, R124, R213). -/
def State.sendTasks (s : State) (id cmd : Nat) : State :=
  match s.job id with
  | none => s
  | some j =>
    match j.cmds[cmd - 1]? with
    | none => s
    | some c =>
      let w := j.swath + 1 + j.slide + cmdWso c
      if cmd = 0 ∨ cmdOp c ≠ 2 ∨ j.stage ≠ .running ∨ j.err.isSome = true ∨ j.tags.isEmpty = true ∨
          j.cmdsDone.contains cmd = true ∨ w ≠ s.swath + 1 then s
      else if j.inAllowance w && !s.rerunOn id then s.cmdDone id cmd
      else
        let s := if j.inAllowance w then s.rerunDue id else s
        let ts := (j.templates cmd).zipIdx
        let sent := ts.map fun x => (⟨tfld c 0 20 8, j.fill cmd w x⟩ : Sent)
        let s := { s with flight := s.flight ++ sent }
        (s.updJob id fun j => { j with openTasks := j.openTasks + ts.length }).cmdDone id cmd

/-- Every list of a job that is due in this swath. -/
def State.issueTasks (s : State) (id : Nat) : State :=
  match s.job id with
  | none => s
  | some j => (List.range j.cmds.length).foldl (fun (s : State) i => s.sendTasks id (i + 1)) s

/-! ### Copies (R179, R189, R239, R268, R351) -/

/-- Blocks that a COPY has moved. -/
def Job.copied (j : Job) (cmd : Nat) : Nat := ((j.progress.find? fun p => p.1 == cmd).map fun p => p.2).getD 0

/-- The SEQ that block `i` of a COPY must carry: any for the first, one greater from block to block. -/
def Job.seqWanted (j : Job) (cmd i : Nat) (first : Nat) : Nat :=
  if i = 0 then first else (((j.seq0.find? fun p => p.1 == cmd).map fun p => p.2).getD 0 + i) % 65536

/-- One more block of a COPY has been moved; with the last one the command is done. -/
def State.copyNote (s : State) (id cmd n seq : Nat) : State :=
  let s := s.updJob id fun j =>
    let i := j.copied cmd
    { j with
      progress := j.progress.filter (fun p => p.1 != cmd) ++ [(cmd, i + 1)]
      seq0 := if i = 0 then j.seq0 ++ [(cmd, seq)] else j.seq0 }
  match s.job id with
  | some j => if j.copied cmd = n then s.cmdDone id cmd else s
  | none => s

/-- A COPY expects the IMAGE_TID of another image of its job's context (R268). -/
def State.otherVersion (s : State) (j : Job) (tid : Nat) : Bool :=
  j.ctxValid && s.images.any fun i => i.ctx == j.ctxNo && i.ptr != j.image && i.tid == tid

/-- The channel whose copy engine carries out a COPY: that of the device memory at its source, or at its destination where it reads
host memory (R226). Log entry 29 (DEDUCED). -/
def copyHome (c : List Nat) : Nat := chanOfAddr (if tfld c 0 20 2 = 1 then cmdAddr c 4 else cmdAddr c 2)

/-- A block that a COPY has got from its source goes to its destination. Log entry 14 (DESIGN CHOICE and DEDUCED). -/
def State.copyOut (s : State) (j : Job) (cmd : Nat) (c : List Nat) (i : Nat) (b : Block) (link : Ecc) : State :=
  let n := copyHome c
  let dst := cmdAddr c 4 + 256 * i
  let nblk := tfld c 1 0 24
  match tfld c 0 20 2 with
  | 2 =>
    let tag := cmdAddr c 6 + 8 * i
    match s.mayAccess n j.id cmd 0xFFFF true dst 256 with
    | (s, false) => s
    | (s, true) =>
      match s.mayAccess n j.id cmd 0xFFFF true tag 8 with
      | (s, false) => s
      | (s, true) =>
        let (s, b) := s.flitNote n link b
        ((s.send (.hostWrite (s.hostAddr dst) b.data)).send (.hostWrite (s.hostAddr tag) b.tagBytes)).copyNote j.id cmd nblk b.seq
  | 3 =>
    let p := tfld c 0 22 2
    let (s, b) := s.flitNote n link b
    let f : LeaFrame := .data true dst (s.get F.LEA_NODE_NODE) j.ref b.data b.crc b.tid b.seq (some (j.id, cmd))
    (s.updLea p fun l => { l with data := l.data ++ [f] }).updJob j.id fun j =>
      { j with
        progress := j.progress.filter (fun q => q.1 != cmd) ++ [(cmd, i + 1)]
        seq0 := if i = 0 then j.seq0 ++ [(cmd, b.seq)] else j.seq0 }
  | _ => (s.blockArrive n j.id cmd dst b link (some (b.tid, b.seq))).copyNote j.id cmd nblk b.seq

/-- The slots that block `i` of a COPY takes now: those of the first way whose slots are all reserved and not used yet (R166, R169,
R239); none where no way has room. Log entry 29 (DESIGN CHOICE). -/
def State.copySlots (s : State) (j : Job) (c : List Nat) (i : Nat) : Option (List (Nat × Nat)) :=
  (copyWays (tfld c 0 20 2) (tfld c 0 22 2) (cmdAddr c 2 + 256 * i) (cmdAddr c 4 + 256 * i)).find? (j.copyRoom s.swath)

/-- The next block of a COPY (R239), in the slots that the profile reserves: read and checked, and moved; from host
memory, its read is issued (R179). It waits for a tensor that its job has not judged yet (R124), and a tensor that is INVALID ends the job
before its block is checked (R130). Log entry 14 (DESIGN CHOICE and DEDUCED). -/
def State.copyBlock (s : State) (j : Job) (cmd : Nat) (c : List Nat) (e link : Ecc) : State :=
  let n := copyHome c
  let tid := tfld c 7 16 16
  let mode := tfld c 0 20 2
  let out := (s.t3.filter fun r => r.job == j.id && r.cmd == cmd).length
  let i := j.copied cmd + (if mode = 1 then out else 0)
  let src := cmdAddr c 2 + 256 * i
  let tag := cmdAddr c 6 + 8 * i
  if tfld c 1 0 24 ≤ i then s
  else match s.copySlots j c i with
  | none => s
  | some slots =>
    if mode = 1 then
      match s.mayAccess n j.id cmd 0xFFFF false src 256 with
      | (s, false) => s
      | (s, true) =>
        match s.mayAccess n j.id cmd 0xFFFF false tag 8 with
        | (s, false) => s
        | (s, true) =>
          let s := (s.send (.hostRead (s.hostAddr src) 256)).send (.hostRead (s.hostAddr tag) 8)
          State.updJob { s with t3 := s.t3 ++ [⟨j.id, cmd, i, s.time⟩] } j.id fun j => j.useSlots s.swath s.swath slots
    else
      let seq := j.seqWanted cmd i (s.block src).seq
      if s.unjudged (some j.id) src 256 then s
      else match s.tensorsValid n j.id cmd (unitOfAddr src) [(s.block src).tid] with
      | (s, false) => s
      | (s, true) =>
        match s.readBlock n j.id cmd (unitOfAddr src) src e (if s.otherVersion j tid then some (65536, seq) else some (tid, seq)) with
        | (s, none) => s
        | (s, some b) => (s.updJob j.id fun j => j.useSlots s.swath s.swath slots).copyOut j cmd c i b link

/-- A read completion from host memory, for the oldest read outstanding (R189): one that is later than the declared bound
ends its job, and one that comes after the job's last work swath moves nothing (R202). -/
def State.t3Done (s : State) (b : Block) (link : Ecc) : State :=
  match s.t3 with
  | [] => s
  | r :: rest =>
    let s := { s with t3 := rest }
    let late := decide (s.get F.PCI_T3_LAT_BOUND < s.time - r.since)
    let s := if late then s.inc F.PCI_T3_LATE_CNT else s
    match s.workDue r.job r.cmd with
    | none => s
    | some (j, c) =>
      if late then s.jobFail r.job 0x13 r.cmd 0xFFFF
      else match s.tensorsValid (copyHome c) j.id r.cmd 0xFFFF [b.tid] with
      | (s, false) => s
      | (s, true) =>
        let tid := tfld c 7 16 16
        let chk := b.check (some (if s.otherVersion j tid then 65536 else tid, j.seqWanted r.cmd r.block b.seq))
        if chk = .ok then s.copyOut j r.cmd c r.block b link
        else (s.countCheck (copyHome c) chk).jobFail r.job chk.status r.cmd 0xFFFF

/-! ### Row writes of a job (R240, R268) -/

/-- Source blocks of an AWRITE checked one after the other: their bytes, or none. -/
def State.readRows (s : State) (n job cmd src tid seq0 : Nat) (ecc : List Ecc) : Nat → Nat → State × Option (List Byte)
  | 0, _ => (s, some [])
  | k + 1, i =>
    match s.readBlock n job cmd (unitOfAddr src) (src + i * 256) (ecc.getD i .ok) (some (tid, (seq0 + i) % 65536)) with
    | (s, none) => (s, none)
    | (s, some b) =>
      match s.readRows n job cmd src tid seq0 ecc k (i + 1) with
      | (s, none) => (s, none)
      | (s, some bs) => (s, some (b.data ++ bs))

/-- Rows of 256 data weights from their 128 bytes each. -/
def rowsOf (wfmt : Nat) : List Byte → Nat → Nat → List RowJob
  | _, _, 0 => []
  | bs, r, n + 1 => { row := r, ws := rowOfBytes wfmt (bs.take 128) } :: rowsOf wfmt (bs.drop 128) (r + 1) n

/-- The layer of an image whose cell images hold an address, with its index and the placement. -/
def Image.placementAt (i : Image) (a : Nat) : Option (Nat × Layer × Placement) :=
  i.layers.zipIdx.findSome? fun (l, ix) =>
    (l.placements.find? fun p => decide (p.addr ≤ a ∧ a < p.addr + p.stored * 128)).map fun p => (ix, l, p)

/-- WFMT of the layer of an image that holds an address; the opaque choice of Config where none does. -/
def Image.wfmtAt (i : Option Image) (a : Nat) : Nat :=
  match i.bind fun i => i.placementAt a with
  | some (_, l, _) => l.wfmt
  | none => natOf (Config.awriteInt8 a)

/-- What an array holds once an AWRITE of `nrows` rows from `row0` on has taken them from `src`: the rows written come before those
that stood there, which count only if they are of the same image; the layer's rows are those that its placement stores. -/
def State.awriteHolds (s : State) (g a : Nat) (i : Image) (src row0 nrows : Nat) : Holds :=
  let old := (s.arr g a).holds
  let one : RowSrc := ⟨row0, nrows, src, Image.wfmtAt (some i) src⟩
  let kept := if old.image = i.ptr then old.srcs else []
  match i.placementAt src with
  | some (ix, _, p) => { image := i.ptr, layer := ix + 1, rows := max p.stored (row0 + nrows), srcs := one :: kept }
  | none => { image := i.ptr, layer := 0, srcs := one :: kept }

/-- The rows from `used` on, which the layer does not use, stand at weight 0 (R42, R192): the load engine writes them
as zero pairs when the write begins. Log entry 32 (DESIGN CHOICE). -/
def State.zeroUnused (s : State) (g a used : Nat) : State :=
  s.updArr g a fun r => ((List.range 512).filter (used ≤ ·)).foldl
    (fun r k => (r.setPair k 258 (k % 16, 0)).setPair k 259 (0, 15 - k % 16))
    { r with cells := Tab.clear r.cells (used * 260) (512 * 260), csum := Tab.clear r.csum (used * 2) 1024 }

/-- Column sums of the rows of placements, read from their cell images by an engine of channel `n`; or the status and the address of
what failed. -/
def State.sumsOf (s : State) (n wfmt : Nat) : List Placement → State × Sum (Nat × Nat) (List Int)
  | [] => (s, .inr (List.replicate 256 0))
  | p :: ps =>
    match s.engRead n p.addr (p.stored * 128) with
    | (s, .inl st) => (s, .inl (st, p.addr))
    | (s, .inr bs) =>
      match s.sumsOf n wfmt ps with
      | (s, .inl e) => (s, .inl e)
      | (s, .inr acc) => (s, .inr ((rowsOf wfmt bs 0 p.stored).foldl (fun acc r => acc.zipWith (· + ·) r.ws) acc))

/-- Column sums of the rows of the gang's other members, from the image (R106). -/
def State.mateSums (s : State) (n : Nat) (i : Image) (src : Nat) : State × Sum (Nat × Nat) (List Int) :=
  match i.placementAt src with
  | none => (s, .inr (List.replicate 256 0))
  | some (_, l, p) => s.sumsOf n l.wfmt (l.placements.filter fun q => q.src == p.src && q != p)

/-- The column sum record of the source of an AWRITE (R106): over every dot-product row, those of the array with some of them about
to be replaced, and `mates`, those of the gang's other members. -/
def State.newSums (s : State) (g a : Nat) (rows : List RowJob) (mates : List Int) : List Int :=
  (List.range 512).foldl (fun (acc : List Int) r =>
    let ws := ((rows.find? fun x => x.row == r).map RowJob.ws).getD ((s.arr g a).rowWeights r)
    acc.zipWith (· + ·) ws) mates

/-- An array takes a new write: none is in progress on it but that of an AWRITE whose job has ended. -/
def State.writeFree (s : State) (g a : Nat) : Bool :=
  match (s.arr g a).write with
  | none => true
  | some w => match w.for_ with
    | .awrite id _ => (s.job id).all fun j => j.err.isSome
    | _ => false

/-- The source blocks of an AWRITE take their slots on the way to the Tussock's local port (R166): the job with its slots taken, and the
swath in which each block comes; none where its slots do not suffice. Log entry 29 (DESIGN CHOICE). -/
def Job.awriteSlots (j : Job) (now g src nblk : Nat) : Option (Job × List Nat) :=
  let (j, at_) := j.takeRun now (2 ^ 32) j.lastWork now 0
    ((List.range nblk).map fun i => readWays (src + i * 256) (chanOf g, .local_ (g % 64)))
  if at_.length = nblk then some (j, at_) else none

/-- An AWRITE begins (R240), carried out by the home engine of the Tussock's channel (R226): source blocks checked against the
version, column sums, mask, RANGE and CONTEXT, and the array in WRITING. A row waits for the slot of its block. Log entry 29 (DESIGN
CHOICE). -/
def State.awrite (s : State) (j : Job) (cmd : Nat) (c : List Nat) (ecc : List Ecc) : State :=
  let g := tfld c 0 20 8
  let n := chanOf g
  let a := s.arrOf g (tfld c 0 28 4)
  let nrows := tfld c 1 0 10
  let src := cmdAddr c 2
  let ptr := if j.ctxValid then j.image else ((j.vers.find? fun p => p.1 == cmd).map fun p => p.2).getD 0
  let img := s.image ptr
  let start := ((img.bind fun i => i.stripes.find? fun x => decide (x.1 ≤ src ∧ src < x.1 + x.2 * 256)).map fun x => x.1).getD 0
  match img, j.awriteSlots s.swath g src ((nrows + 1) / 2) with
  | none, _ => (s.countCheck n .tagMismatch).jobFail j.id 0x11 cmd (unitOfAddr src)
  | some _, none => s
  | some i, some (j', at_) =>
    let s := s.updJob j.id fun x => { x with used := j'.used }
    match s.readRows n j.id cmd src i.tid ((src - start) / 256) ecc ((nrows + 1) / 2) 0 with
    | (s, none) => s
    | (s, some bs) =>
      let rows := (rowsOf (Image.wfmtAt img src) bs (tfld c 1 10 9) nrows).zipIdx.map fun x => { x.1 with due := at_.getD (x.2 / 2) 0 }
      let m := cmdAddr c 6
      let (s, mask) := if m = 0 then (s, (.inr (List.replicate 32 0xFF) : Sum Nat (List Byte))) else s.engRead n m 32
      match mask with
      | .inl st => s.jobFail j.id st cmd (unitOfAddr m)
      | .inr mask =>
        let csum := cmdAddr c 4
        let h := s.awriteHolds g a i src (tfld c 1 10 9) nrows
        match if csum = 0 then (s, .inr []) else s.mateSums n i src with
        | (s, .inl (st, a)) => s.jobFail j.id st cmd (unitOfAddr a)
        | (s, .inr mates) =>
        let bytes := ((s.zeroUnused g a h.rows).newSums g a rows mates).flatMap fun x => leBytes 2 (unsgn 16 x)
        match if csum = 0 then none else s.accessFault (.eng n) true csum 512 with
        | some u => (s.addressFault (.eng n) true csum u).jobFail j.id 0x12 cmd (unitOfAddr csum)
        | none =>
          let s := if csum = 0 then s else s.mergeWrite csum bytes
          let s := (s.writeMask g a mask).zeroUnused g a h.rows
          s.beginWrite g a { for_ := .awrite j.id cmd, rows := rows } (tfld c 1 23 6) (tfld c 1 19 3) (tfld c 1 22 1) h

/-! ### Digests and test patterns (R326, R330 to R333) -/

/-- A DIGEST command (R226, R326): one block with zeros after byte 75. -/
def State.digestCmd (s : State) (j : Job) (cmd : Nat) (c : List Nat) : State :=
  let a := cmdAddr c 2
  match s.mayAccess (chanOfAddr a) j.id cmd (unitOfAddr a) true a 256 with
  | (s, false) => s
  | (s, true) =>
    let bs := s.digestBytes (tfld c 0 20 6)
    (s.mergeWrite a (bs ++ List.replicate (256 - bs.length) 0)).cmdDone j.id cmd

/-- The blocks of a package from block `i` on take their slots on the way to the core of channel `n`: the job with its slots taken, and
their swaths. Log entry 29 (DESIGN CHOICE). -/
def Job.packageSlots (j : Job) (now n pkg i k : Nat) : Job × List Nat :=
  j.takeRun now (2 ^ 32) j.lastWork now 0 ((List.range k).map fun d => readWays (pkg + (i + d) * 256) (n, .core))

/-- A TESTPAT command reads its package in the slots of its job and presents it for verification (R166, R330, R333); where they do not
suffice, no vector runs. -/
def State.testpat (s : State) (j : Job) (cmd : Nat) (c : List Nat) (ecc : List (Nat × Ecc)) : State :=
  let n := chanOf (tfld c 0 20 8)
  let pkg := cmdAddr c 2
  let (j, first) := j.packageSlots s.swath n pkg 0 1
  if first ≠ [s.swath] then s else
  let s := s.updJob j.id fun x => { x with used := j.used }
  match s.readBlock n j.id cmd (unitOfAddr pkg) pkg (((ecc.find? fun p => p.1 == 0).map fun p => p.2).getD .ok) none with
  | (s, none) => s
  | (s, some h) =>
    let f := fun o n => leNat ((h.data.drop o).take n)
    let len := f 8 4
    if f 0 4 ≠ 0x54504C4F ∨ f 4 2 ≠ 1 ∨ len < 11 ∨ 16777215 < len ∨ f 0xE 2 = 0 ∨ 16383 < f 0xE 2 ∨
        ((h.data.drop 0x1C).any (· != 0)) = true then s.tpReject j.id cmd 1
    else if 1 < f 6 1 ∨ (f 6 1 = 1 ∧ 7 < f 7 1) then s.tpReject j.id cmd 4
    else if s.testKey.isEmpty then s.tpReject j.id cmd 2
    else match s.readPackage n j.id cmd pkg (f 0xC 2) ecc len 0 with
      | (s, none) => s
      | (s, some _) =>
        let (j, at_) := j.packageSlots s.swath n pkg 1 (len - 1)
        let s := s.updJob j.id fun x => { x with used := j.used }
        let run : TestRun :=
          { job := j.id, cmd := cmd, g := tfld c 0 20 8, reserve := f 6 1 == 1, range := f 7 1
            vec := pkg + f 0x10 4 * 256, bound := pkg + f 0x14 4 * 256, tile := pkg + f 0x18 4 * 256
            log := cmdAddr c 4, n := min (tfld c 1 0 14) (f 0xE 2) }
        let ask : Verify :=
          { job := j.id, cmd := cmd, for_ := .test, key := s.testKey, ready := at_.getLastD s.swath
            digest := sha3 (Memory.readN s.mem pkg ((len - 10) * 256))
            sig := Memory.readN s.mem (pkg + (len - 10) * 256) 2420 }
        { s with tests := s.tests ++ [run], verifs := s.verifs ++ if at_.length = len - 1 then [ask] else [] }

/-- An entry of a result log (R332). -/
def State.logVector (s : State) (n : Nat) (t : TestRun) (v arr slot res fails worst dev time : Nat) : State :=
  s.engWrite n (t.log + 32 * v) (leBytes 4 v ++ leBytes 1 arr ++ leBytes 1 slot ++ leBytes 1 res ++ leBytes 1 0 ++ leBytes 2 fails ++
    leBytes 2 worst ++ leBytes 4 dev ++ leBytes 8 time ++ leBytes 8 0)

/-- A test run replaced. -/
def State.setTest (s : State) (t : TestRun) : State :=
  { s with tests := s.tests.map fun x => if x.job = t.job ∧ x.cmd = t.cmd then t else x }

/-- A window or a repair has the reserve of a Tussock. Log entry 7 (DESIGN CHOICE). -/
def Tuss.reserveTaken (t : Tuss) (now : Nat) : Bool :=
  (t.window.any fun w => w.kind != .inPlace && decide (w.start ≤ now)) || t.repair.any fun r => decide (2 ≤ r.step ∧ r.step ≤ 4)

/-- A test run ends: the reserve is EMPTY, or goes to repair step 5 after a failure, at once or after the repair that runs (R331, R333);
one that a window or a repair has taken is left to it. Log entry 7 (DESIGN CHOICE). -/
def State.testEnd (s : State) (t : TestRun) : State :=
  let s := { s with tests := s.tests.filter fun x => !(x.job == t.job && x.cmd == t.cmd) }
  let s := if !t.reserve || (s.tuss t.g).reserveTaken s.swath then s
    else
      let r := s.reserveOf t.g
      let fix : RepairRun := { arr := r, slot := 0, step := 5 }
      if t.failed then
        (s.setArrState t.g r aQUAR).updTuss t.g fun u => match u.repair with
          | none => { u with repair := some fix }
          | some _ => { u with wrong := u.wrong ++ [fix] }
      else s.setArrState t.g r aEMPTY
  s.cmdDone t.job t.cmd

/-- Vectors not run by the job's last work swath are logged with result 2 (R332). -/
def State.testLate (s : State) (n : Nat) (t : TestRun) : State :=
  (((List.range t.n).filter (t.next ≤ ·)).foldl (fun (s : State) v =>
    s.logVector n t v (if t.reserve then s.reserveOf t.g else s.arrOf t.g (v % 16)) (if t.reserve then 0xFF else v % 16) 2 0 0 0 0) s).testEnd t

/-- A failed vector (R333). -/
def State.testFail (s : State) : State := ((s.inc F.GRS_TP_STATUS_FAIL_CNT).set F.GRS_STATUS_TP_FAIL 1).signal 28

/-- The largest of a list of (column, deviation), the first of equals. -/
def worstOf (l : List (Nat × Nat)) : Nat × Nat := l.foldl (fun b x => if b.2 < x.2 then x else b) (0, 0)

/-- The evaluation of a vector on one array. -/
def State.testEval (s : State) (t : TestRun) (a slot c range : Nat) (dev : List (Nat × Int)) : Evl :=
  let xs := (Memory.readN s.mem (t.vec + t.next * 512) 512).map fun b => b.toNat % 16
  let e : Evl := { task := [], job := none, kind := .rerun, phase := 0, slot := slot, arr := a, members := [a], swath := s.swath,
                   cycle := c, range := range, inputs := xs }
  let e := s.coded t.g (s.sampled t.g e) dev
  { e with vals := s.valuesOf t.g e }

/-- Blocks of a test-pattern package that the next step of a run reads, as address and number (R330, R331). -/
def TestRun.reads (t : TestRun) : List (Nat × Nat) :=
  if t.reserve && !t.begun then [(t.tile, 256)]
  else [(t.vec + t.next * 512, 2), if t.reserve then (t.bound + t.next * 1024, 4) else (t.bound, 1)]

/-- They are read for use (R174); `false` once a block fails, and the run is over. -/
def State.testRead (s : State) (n : Nat) (t : TestRun) : List (Nat × Nat) → State × Bool
  | [] => (s, true)
  | x :: xs =>
    match s.readBlocks n t.job t.cmd (unitOfAddr x.1) x.1 [] x.2 with
    | (s, none) => ({ s with tests := s.tests.filter fun y => !(y.job == t.job && y.cmd == t.cmd) }, false)
    | (s, some _) => s.testRead n t xs

/-- A test run whose job's work ends with this swath logs what it has not run (R332). -/
def State.testDue (s : State) (t : TestRun) : State :=
  match s.cmdDue t.job t.cmd with
  | some (j, _) => if j.lastWork ≤ s.swath then s.testLate (chanOf t.g) t else s
  | none => s

/-- The next vector in live mode (R331): in a check slot of its slot, one for each 512 shadow clocks, compared with the exact values of
the image. It takes the check slot of its cycle. Log entry 7 (DEDUCED). -/
def State.liveVector (s : State) (n : Nat) (t : TestRun) (c : Nat) (dev : List (Nat × Int)) : State :=
  let k := t.next % 16
  let a := s.arrOf t.g k
  let fr := s.get F.GRS_CFG_FRACTION
  let done := if t.taken.1 = s.swath then t.taken.2 else 0
  if fr = 0 ∨ fr = 5 ∨ shadowClocks s.fractionNow < 512 * (done + 1) ∨ s.isCheckSlot t.g s.swath c = false ∨ s.arrState t.g a ≠ aVALID ∨ (s.tuss t.g).open_ ≠ some s.swath ∨
      (s.tuss t.g).checkAt = some (s.swath * 256 + c) ∨ s.arraysBusy t.g [a] (s.swath * 256 + c) = true ∨ (s.rowUnder t.g a (s.swath * 256 + c)).isSome = true then s
  else match s.testRead n t t.reads with
  | (s, false) => s
  | (s, true) =>
    let e := s.testEval t a k c (s.get (F.TSK_CONV_CFG_RANGE t.g a)) dev
    let s := ((s.countSat t.g e).spend t.g a [s.swath * 256 + c]).updTuss t.g fun u => { u with liveAt := some (s.swath * 256 + c) }
    let bound := s.fieldAt t.bound 2
    let (s, ws) := s.weightsOf t.g [a]
    let exact := exactImage ws e
    let gap (j : Nat) : Int := (e.vals.getD j 0) * delta e.range - 64 * exact.getD j 0
    let cols := (List.range 256).filter fun j => s.colEnabled t.g a j
    let fails := cols.filter fun j => decide (bound * 4 * delta e.range < (gap j).natAbs)
    let (worst, d) := worstOf (cols.map fun j => (j, (rneDiv (gap j).natAbs (4 * delta e.range : Nat)).toNat))
    let s := s.logVector n t t.next a k (natOf (!fails.isEmpty)) fails.length worst d e.time
    let s := if fails.isEmpty then s
      else s.testFail.trigger t.g ⟨4, k, a, fails, none, [e], 1, []⟩
    let t := { t with next := t.next + 1, failed := t.failed || !fails.isEmpty, taken := (s.swath, done + 1) }
    if t.n ≤ t.next then s.testEnd t else s.setTest t

/-- The next vector in reserve mode (R331): the tile is written first, then each code must lie within its pair. While a window or a repair
has the reserve nothing runs, and afterwards the tile is written anew. Log entry 7 (DESIGN CHOICE). -/
def State.reserveVector (s : State) (n : Nat) (t : TestRun) (c : Nat) (dev : List (Nat × Int)) : State :=
  let r := s.reserveOf t.g
  if (s.tuss t.g).reserveTaken s.swath then s
  else if !t.begun || s.arrState t.g r == aEMPTY || (s.arr t.g r).holds != {} then
    match s.testRead n t t.reads with
    | (s, false) => s
    | (s, true) =>
    let rows := rowsOf 0 (Memory.readN s.mem t.tile 65536) 0 512
    (s.beginWrite t.g r { for_ := .testpat t.job t.cmd, rows := rows } 0xFF t.range 0 {}).setTest { t with begun := true }
  else if s.arrState t.g r ≠ aVALID ∨ s.cycleFree t.g c [r] = false ∨ isRestoreSlot t.g s.swath c = true ∨ (s.tuss t.g).open_ ≠ some s.swath then s
  else match s.testRead n t t.reads with
  | (s, false) => s
  | (s, true) =>
    let e := s.testEval t r 16 c t.range dev
    let s := (s.countSat t.g e).spend t.g r [s.swath * 256 + c]
    let pair (j : Nat) : Int × Int :=
      let w := Memory.readN s.mem (t.bound + t.next * 1024 + j * 4) 4
      (sgn 16 (leNat (w.take 2)), sgn 16 (leNat (w.drop 2)))
    let off (j : Nat) : Nat :=
      let x := e.codes.getD j 0
      if x < (pair j).1 then ((pair j).1 - x).toNat else if (pair j).2 < x then (x - (pair j).2).toNat else 0
    let fails := (List.range 256).filter fun j => off j != 0
    let (worst, d) := worstOf ((List.range 256).map fun j => (j, 16 * off j))
    let s := s.logVector n t t.next r 0xFF (natOf (!fails.isEmpty)) fails.length worst d e.time
    let s := if fails.isEmpty then s else s.testFail
    let t := { t with next := t.next + 1, failed := t.failed || !fails.isEmpty }
    if t.n ≤ t.next then s.testEnd t else s.setTest t

/-- One vector of a test-pattern package. -/
def State.testVector (s : State) (job cmd c : Nat) (dev : List (Nat × Int)) : State :=
  match s.tests.find? fun t => t.job == job && t.cmd == cmd, s.cmdDue job cmd with
  | some t, some (j, _) =>
    if !t.verified then s
    else if j.lastWork < s.swath then s.testLate (chanOf t.g) t
    else if t.n ≤ t.next then s.testEnd t
    else if t.reserve then s.reserveVector (chanOf t.g) t c dev
    else s.liveVector (chanOf t.g) t c dev
  | _, _ => s

/-! ### The end of a job (R203, R243, R320, R326) -/

/-- A job's work is finished: every body command carried out, no task open, every element of its accumulator areas
requantised (R148), no rerun due. Log entry 9 (DEDUCED). -/
def State.finished (s : State) (j : Job) : Bool :=
  (j.body.all fun c => cmdOp c.1 == 0 || j.cmdsDone.contains c.2) && j.openTasks == 0 &&
    (s.areas.all fun a => a.job != j.id || a.done.length == a.head.nelem) &&
    !(s.prods.any fun p => p.job == j.id && p.rerunScale.isSome)

/-- The swath at whose opening boundary a job's timer expires (R203). -/
def Job.lastSwath (j : Job) : Nat := j.swath + j.cls - 1

/-- The timers of jobs expire at the boundary that opens swath `w`: the work of those marked is not finished (R203). -/
def State.expire (s : State) (w : Nat) : State :=
  { s with jobs := s.jobs.map fun j =>
      if j.stage = .running ∧ j.err = none ∧ j.tags.isEmpty = false ∧ j.lastSwath ≤ w ∧ s.finished j = false then
        { j with expired := true }
      else j }

/-- A job whose timer has expired ends with "timeout", met at the boundary at which it expired (R203, R224, R349). -/
def State.timeout (s : State) (id : Nat) : State :=
  match s.job id with
  | none => s
  | some j => if j.expired then s.jobErr id ⟨0x03, 0, 0xFFFF, j.lastSwath * 8192⟩ else s

/-- What the timer of a job counts as its record is written (R224): a timeout that ends it, or one masked by a link error of the same
cycle. -/
def State.countTimer (s : State) (j : Job) : State :=
  match j.err with
  | none => s
  | some e =>
    if !j.expired then s
    else if e.status = 0x03 then s.inc (F.CHN_JOB_TIMEOUT_TIMEOUT_CNT j.chan)
    else if e.status = 0x04 ∧ e.time = j.lastSwath * 8192 then s.inc (F.CHN_JOB_TIMEOUT_MASKED_CNT j.chan)
    else s

/-- A job's record is due (R202, R203, R230, R242): for a job that never ran, for a timeout and in the last swath before the bound in
the same swath, for another error in the swath after it, and without error in the swath after the last work swath. -/
def State.recordDue (s : State) (j : Job) : Bool :=
  j.stage == .running &&
  match j.err with
  | some e => j.tags.isEmpty || e.status == 0x03 || decide (e.time / 8192 < s.swath ∨ j.lastSwath ≤ s.swath)
  | none => !j.expired && s.finished j && decide (j.lastWork < s.swath)

/-- A job that carries only DIGEST and TESTPAT commands has a final record (R326, R332). Log entry 9 (DEDUCED). -/
def Job.checkOnly (j : Job) : Bool := j.cmds.all fun c => cmdOp c == 7 || cmdOp c == 8

/-- The completion record of a job is written when it is due (R243, R244). Log entry 9 (DEDUCED). -/
def State.writeCompletion (s : State) (id : Nat) : State :=
  let s := s.timeout id
  match s.job id with
  | none => s
  | some j =>
    if !s.recordDue j then s
    else
    let s := s.countTimer j
    if j.err.isSome || j.checkOnly then s.finalRecord j else s.provisionalRecord j

/-! ### The commands -/

/-- `TASK_ISSUE` (R222). -/
def execTaskIssue (job : Nat) (s : State) : Host.Outcome State Fault Refusal := .next (s.issueTasks job)

/-- `TASKS` (R237). -/
def execTasks (job cmd : Nat) (s : State) : Host.Outcome State Fault Refusal := .next (s.sendTasks job cmd)

/-- `COPY` (R239). Log entry 14 (DESIGN CHOICE and DEDUCED). -/
def execCopy (job cmd : Nat) (ecc link : Ecc) (s : State) : Host.Outcome State Fault Refusal :=
  .next (match s.workDue job cmd with
    | some (j, c) => if cmdOp c = 3 then s.copyBlock j cmd c ecc link else s
    | none => s)

/-- `T3_READ_COMPLETION` (R189). -/
def execT3ReadCompletion (data : List Byte) (crc : Word) (tid seq : BitVec 16) (link : Ecc) (s : State) :
    Host.Outcome State Fault Refusal :=
  .next (if s.powered .pcie then s.t3Done ⟨data, crc.toNat, tid.toNat, seq.toNat⟩ link else s)

/-- `AWRITE` (R240). -/
def execAwrite (job cmd : Nat) (ecc : List Ecc) (s : State) : Host.Outcome State Fault Refusal :=
  .next (match s.workDue job cmd with
    | some (j, c) => if cmdOp c = 4 ∧ s.writeFree (tfld c 0 20 8) (s.arrOf (tfld c 0 20 8) (tfld c 0 28 4)) = true then
        s.ifT (tfld c 0 20 8) fun s => s.awrite j cmd c ecc else s
    | none => s)

/-- `DIGEST` (R326). -/
def execDigest (job cmd : Nat) (s : State) : Host.Outcome State Fault Refusal :=
  .next (match s.workDue job cmd with
    | some (j, c) => if cmdOp c = 8 then s.digestCmd j cmd c else s
    | none => s)

/-- `TESTPAT` (R331). -/
def execTestpat (job cmd : Nat) (ecc : List (BitVec 24 × Ecc)) (s : State) : Host.Outcome State Fault Refusal :=
  .next (match s.workDue job cmd with
    | some (j, c) => if cmdOp c = 7 ∧ !(s.tests.any fun t => t.job == job && t.cmd == cmd) then
        s.testpat j cmd c (ecc.map fun (p : BitVec 24 × Ecc) => (p.1.toNat, p.2)) else s
    | none => s)

/-- `TEST_VECTOR` (R331). -/
def execTestVector (job cmd : Nat) (c : BitVec 8) (dev : List (Fin 260 × Int)) (s : State) : Host.Outcome State Fault Refusal :=
  .next (s.testVector job cmd c.toNat (dev.map fun (p : Fin 260 × Int) => (p.1.val, p.2)))

/-- `JOB_TIMEOUT` (R203). -/
def execJobTimeout (job : Nat) (s : State) : Host.Outcome State Fault Refusal := .next (s.timeout job)

/-- `COMPLETION_RECORD_WRITE` (R243). -/
def execCompletionRecordWrite (job : Nat) (s : State) : Host.Outcome State Fault Refusal := .next (s.writeCompletion job)

end Sys2Proof.Machine
end

