-- ==== Sys2Proof/Machine/Lea.lean ====
section
/-! DEFINITION. The Lea ports (R338 to R359): the port states and training, frames out and in, acknowledgement, replay and
retry exhaustion, inbound writes with the distribution chain (R274, R275), and the control messages. Log entries: 14, 15, 29. -/

namespace Sys2Proof.Machine
open Sys2Proof

/-- The states of LEA_PORT_STATUS.STATE (R341). -/
def lpDISABLED : Nat := 0
def lpTRAIN : Nat := 1
def lpALIGN : Nat := 2
def lpEXCHANGE : Nat := 3
def lpUP : Nat := 4
def lpDOWN : Nat := 5
def lpFAULT : Nat := 6

/-- The state of port `p`. -/
def State.leaState (s : State) (p : Nat) : Nat := s.get (F.LEA_PORT_STATUS_STATE p)

/-- Port `p` is in state `st`, with its domain powered. -/
def State.leaIn (s : State) (p st : Nat) : Bool := s.powered .lea && s.leaState p == st

/-- Port `p` enters a state; a change into UP, DOWN or FAULT signals vector 24 + p (R341). -/
def State.leaTo (s : State) (p st : Nat) : State :=
  let s' := (s.set (F.LEA_PORT_STATUS_STATE p) st).updLea p fun l => { l with since := s.time }
  if s.leaState p ≠ st ∧ 4 ≤ st then s'.signal (24 + p) else s'

/-- How long a port may stay in TRAIN, ALIGN and EXCHANGE before the attempt fails, in nanoseconds (R341). -/
def leaLimit (st : Nat) : Nat := if st = lpTRAIN then 40000000 else if st = lpALIGN then 1000000 else 100000

/-- The time from which the limit of a port's state counts (R341): that of the state, in EXCHANGE that of this end's agreement, none
before it. Log entry 15 (DEDUCED). -/
def State.leaFrom (s : State) (p : Nat) : Option Nat :=
  if s.leaState p = lpEXCHANGE then (s.lea p).agreedAt else some (s.lea p).since

/-- The attempt of port `p` has run out of time (R341). -/
def State.leaLate (s : State) (p : Nat) : Bool := (s.leaFrom p).any fun t => decide (t + leaLimit (s.leaState p) < s.time)

/-- A failed attempt (R341): counted; at MAX_ATTEMPTS the port enters FAULT, else it trains again. -/
def State.leaFail (s : State) (p : Nat) : State :=
  let m := s.get (F.LEA_PORT_CFG_MAX_ATTEMPTS p)
  let n := s.get (F.LEA_PORT_STATUS_ATTEMPTS p) + 1
  let s := s.inc (F.LEA_PORT_STATUS_ATTEMPTS p)
  if (if m = 0 then 16 else m) ≤ n then (s.set (F.LEA_PORT_STATUS_TRAIN_FAIL p) 1).leaTo p lpFAULT else s.leaTo p lpTRAIN

/-- What a port is left with at entry into UP (R343): credits as the partner announced, sequence numbers 0, no buffered
frame. -/
def LeaPort.fresh (l : LeaPort) (dbuf cbuf now : Nat) : LeaPort :=
  { data := l.data, chain := l.chain, ctrl := l.ctrl, slots := l.slots, dcred := dbuf, ccred := cbuf, dryTime := now }

/-- Entry into UP (R341, R343); nothing that waits for an Olusar 1100 is a CTRL frame (R359), and a port whose EN has been cleared
leaves for DISABLED at once. Log entry 15 (DEDUCED). -/
def State.leaUp (s : State) (p kind node dbuf cbuf : Nat) : State :=
  let s := s.updLea p fun l =>
    let l := l.fresh dbuf cbuf s.time
    if kind = 2 then { l with ctrl := [] } else l
  let s := (s.set (F.LEA_PORT_STATUS_ATTEMPTS p) 0).set (F.LEA_PORT_STATUS_PARTNER_NODE p) node
  (s.set (F.LEA_PORT_STATUS_PARTNER_1100 p) (natOf (kind = 2))).leaTo p (if s.on (F.LEA_PORT_CFG_EN p) then lpUP else lpDISABLED)

/-- A TRAIN frame received (R342). -/
def State.leaTrain (s : State) (p : Nat) (x : Nat × Nat × Nat × Nat × Nat × Nat) (agreed : Bool) : State :=
  if !s.leaIn p lpEXCHANGE then s
  else if s.leaLate p then s.leaFail p
  else if x.2.1 ≠ s.get (F.LEA_PORT_CFG_RATE p) then ((s.set (F.LEA_PORT_STATUS_RATE_MISMATCH p) 1).signal (24 + p)).leaFail p
  else
    let l := s.lea p
    let n := if l.train = x then l.trainCnt + 1 else 1
    let s := s.updLea p fun l => { l with
      train := x, trainCnt := n, agreedAt := if 3 ≤ n then some (l.agreedAt.getD s.time) else l.agreedAt }
    if 3 ≤ n && agreed then s.leaUp p x.1 x.2.2.1 x.2.2.2.2.1 x.2.2.2.2.2 else s

/-! ### Retry exhaustion (R348) -/

/-- The job that sends a frame, and its command. -/
def LeaFrame.owner : LeaFrame → Option (Nat × Nat)
  | .data _ _ _ _ _ _ _ _ o => o
  | .ctrl _ => none

/-- The command of a job at fault on port `p`: its first COPY in MODE 3 to the port. -/
def Job.leaCmd (j : Job) (p : Nat) : Nat :=
  ((j.body.find? fun (c, _) => cmdOp c == 3 && tfld c 0 20 2 == 3 && tfld c 0 22 2 == p).map fun q => q.2).getD 0

/-- Retry is exhausted (R348). Log entry 15 (DEDUCED and DESIGN CHOICE). -/
def State.leaExhaust (s : State) (p : Nat) : State :=
  let l := s.lea p
  let owners := (l.data ++ l.replay).filterMap fun f => f.owner.map Prod.fst
  let s := s.updLea p fun l => { dcred := l.dcred, ccred := l.ccred, dryTime := l.dryTime, slots := l.slots }
  let s := ((s.set (F.LEA_PORT_STATUS_EXHAUSTED p) 1).inc (F.LEA_PORT_ERR_EXHAUST_CNT p)).leaTo p lpDOWN
  let hit := s.jobs.filter fun j => owners.contains j.id ||
    j.units.any fun u => u.kind == 11 && u.unit % 4 == p && decide (s.swath ≤ u.swath)
  let s := hit.foldl (fun s j => s.jobFail j.id 0x04 (j.leaCmd p) p) s
  s.resolveProvs (fun e => match e.origin with
    | some o => s.routeTo o == some p
    | none => false) true

/-! ### Acknowledgement and replay (R345 to R347) -/

/-- Frames of a command that still wait on a port or for an acknowledgement. -/
def LeaPort.left (l : LeaPort) (o : Nat × Nat) : Bool := (l.data ++ l.replay).any fun f => f.owner == some o

/-- Acknowledged frames of a job: the nodes that received its PROV blocks (R357), and the end of its copy (R351). Log entry 14 (DESIGN CHOICE and DEDUCED). Log entry 15 (DEDUCED and DESIGN CHOICE). -/
def State.leaAcked (s : State) (p : Nat) (f : LeaFrame) : State :=
  match f.owner with
  | none => s
  | some (id, cmd) =>
    let node := s.get (F.LEA_PORT_STATUS_PARTNER_NODE p)
    let s := if s.on (F.LEA_PORT_STATUS_PARTNER_1100 p) then s
      else s.updJob id fun j => if j.leaNodes.contains node then j else { j with leaNodes := j.leaNodes ++ [node] }
    match s.job id with
    | none => s
    | some j =>
      if j.copied cmd = tfld (j.cmds.getD (cmd - 1) []) 1 0 24 ∧ !(s.lea p).left (id, cmd) then s.cmdDone id cmd else s

/-- ACK names the last frame received in order: it and the frames before it leave the replay buffer (R345, R346). -/
def State.leaAck (s : State) (p a : Nat) : State :=
  let l := s.lea p
  let n := l.replay.length
  let k := (a + 1 + 512 - l.next + n) % 256
  if k = 0 ∨ n < k then s
  else
    let s := s.updLea p fun l => { l with
      replay := l.replay.drop k
      resend := min l.resend (n - k)
      ackTime := s.time
      episode := match l.episode with
        | some e => if e.left ≤ k then none else some { e with left := e.left - k }
        | none => none }
    (l.replay.take k).foldl (fun s f => s.leaAcked p f) s

/-- Credits returned (R344). -/
def State.leaCredits (s : State) (p d c : Nat) : State :=
  s.updLea p fun l => { l with dcred := l.dcred + d, ccred := l.ccred + c }

/-- A replay starts (R346, R347): a fifth try in one episode exhausts the port. -/
def State.leaReplay (s : State) (p : Nat) : State :=
  let l := s.lea p
  let n := l.replay.length
  if n = 0 then s
  else
    match l.episode with
    | none => (s.updLea p fun l => { l with resend := n, ackTime := s.time, episode := some ⟨1, s.time, n⟩ }).inc (F.LEA_PORT_ERR_TRY_CNT p)
    | some e =>
      if 4 ≤ e.tries then s.leaExhaust p
      else (s.updLea p fun l => { l with resend := n, ackTime := s.time, episode := some { e with tries := e.tries + 1 } }).inc
        (F.LEA_PORT_ERR_TRY_CNT p)

/-- The header of a frame with a correct link CRC: ACK and credits are taken, and NAK starts a replay (R338, R340, R346). Log entry 15 (DEDUCED and DESIGN CHOICE). -/
def State.leaHeader (s : State) (p : Nat) (h : LeaHdr) : State :=
  let s := s.incBy (F.LEA_PORT_FEC_CORR_CNT p) h.corr.toNat
  let s := (s.leaAck p h.ack.toNat).leaCredits p h.dcred.toNat h.ccred.toNat
  if h.nak then s.leaReplay p else s

/-- A frame that cannot be accepted (R345): the first one makes the next outbound frame carry NAK. -/
def State.leaBad (s : State) (p : Nat) (crcBad : Bool) : State :=
  let s := if crcBad then s.inc (F.LEA_PORT_ERR_CRC_CNT p) else s
  s.updLea p fun l => if l.discarding then l else { l with nakDue := true, discarding := true }

/-- A sequenced frame arrives (R345): its header counts, and with the expected FSEQ the frame is accepted and acted on. -/
def State.leaAccept (s : State) (p : Nat) (h : LeaHdr) (act : State → State) : State :=
  if !s.leaIn p lpUP then s
  else
    let s := s.leaHeader p h
    if !s.leaIn p lpUP then s
    else if h.fseq.toNat ≠ (s.lea p).expect then s.leaBad p false
    else act ((s.updLea p fun l => { l with expect := (l.expect + 1) % 256, discarding := false }).incMod
      (F.LEA_PORT_RX_FRAMES p))

/-! ### The bytes of a frame (R338, R339, R342, R354) -/

/-- The payload of a CTRL frame (R354). -/
def LeaMsg.bytes (m : LeaMsg) : List Byte :=
  leBytes 1 m.msg ++ leBytes 1 m.dest ++ leBytes 1 m.origin ++ leBytes 1 m.hops ++ leBytes 2 m.jobref ++ leBytes 2 0 ++ m.body.take 76 ++
    List.replicate (248 - min 76 m.body.length) 0

/-- The payload of a TRAIN frame of port `p` (R342, R343): kind, RATE, node, port, 96 data and 16 control buffers. -/
def State.trainBytes (s : State) (p : Nat) : List Byte :=
  leBytes 1 1 ++ leBytes 1 (s.get (F.LEA_PORT_CFG_RATE p)) ++ leBytes 1 (s.get F.LEA_NODE_NODE) ++ leBytes 1 p ++ leBytes 1 96 ++
    leBytes 1 16 ++ List.replicate 250 0

/-- The fields of a header that depend on the payload (R338): TYPE, PROV, ADDR, ORIGIN and JOBREF, with the payload and its tag. -/
structure LeaBody where
  type : Nat
  prov : Bool := false
  addr : Nat := 0
  origin : Nat := 0
  jobref : Nat := 0
  payload : List Byte
  tag : List Byte

/-- A payload whose tag is its CRC-32C, with TENSOR_ID and SEQ 0 (R339). -/
def plainTag (bs : List Byte) : List Byte := leBytes 4 (crc32c bs) ++ leBytes 4 0

/-- What a frame that port `p` sends carries (R338, R339). Log entry 15 (DEDUCED). -/
def State.leaBody (s : State) (p : Nat) : LeaSent → LeaBody
  | .idle => { type := 0, origin := s.get F.LEA_NODE_NODE, payload := List.replicate 256 0, tag := List.replicate 8 0 }
  | .train => { type := 3, origin := s.get F.LEA_NODE_NODE, payload := s.trainBytes p, tag := plainTag (s.trainBytes p) }
  | .frame (.ctrl m) => { type := 2, origin := m.origin, jobref := m.jobref, payload := m.bytes, tag := plainTag m.bytes }
  | .frame (.data prov a origin jobref d crc tid seq _) =>
    { type := 1, prov := prov, addr := a, origin := origin, jobref := jobref, payload := d, tag := leBytes 4 crc ++ leBytes 2 tid ++ leBytes 2 seq }

/-- The 280 bytes of the frame that a port has sent (R338): header, payload, tag and link CRC. -/
def LeaPort.frameBytes (l : LeaPort) (b : LeaBody) : List Byte :=
  let x := leBytes 1 (b.type + 8 * natOf b.prov + 16 * natOf l.sentNak + 32 * l.sentCred.2) ++ leBytes 1 l.sentSeq ++ leBytes 1 l.sentAck ++
    leBytes 1 l.sentCred.1 ++ leBytes 5 (b.addr / 256) ++ leBytes 1 b.origin ++ leBytes 2 b.jobref ++ b.payload ++ b.tag
  x ++ leBytes 4 (crc32c x)

/-! ### Outbound slots (R340) -/

/-- A new sequenced frame goes out: it takes the next FSEQ and enters the replay buffer. -/
def LeaPort.emit (l : LeaPort) (f : LeaFrame) (now : Nat) : LeaPort :=
  { l with
    replay := l.replay ++ [f]
    next := (l.next + 1) % 256
    ackTime := if l.replay.isEmpty then now else l.ackTime
    sent := .frame f }

/-- A frame spends a credit of its class (R344). -/
def LeaPort.spend (l : LeaPort) (f : LeaFrame) (now : Nat) : LeaPort :=
  match f with
  | .data .. => { l with dcred := l.dcred - 1, dryTime := if l.dcred ≤ 1 then now else l.dryTime }
  | .ctrl _ => { l with ccred := l.ccred - 1 }

/-- A credit of a frame's class is left. -/
def LeaPort.canSend (l : LeaPort) (f : LeaFrame) : Bool :=
  match f with
  | .data .. => l.dcred != 0
  | .ctrl _ => l.ccred != 0

/-- Takes the first frame of a list that a test accepts. -/
def takeFrame (t : LeaFrame → Bool) : List LeaFrame → Option (LeaFrame × List LeaFrame)
  | [] => none
  | f :: fs => if t f then some (f, fs) else (takeFrame t fs).map fun q => (q.1, f :: q.2)

/-- The frame that a port in UP sends in a slot that job `id` holds, or no job (`none`). -/
def LeaPort.slot (l : LeaPort) (id : Option Nat) (now : Nat) : LeaPort :=
  if l.resend ≠ 0 then
    match l.replay[l.replay.length - l.resend]? with
    | some f => if l.canSend f then { (l.spend f now) with resend := l.resend - 1, sent := .frame f } else { l with sent := .idle }
    | none => { l with sent := .idle }
  else if 64 ≤ l.replay.length then { l with sent := .idle }
  else
    match l.ctrl with
    | f :: rest => if l.ccred ≠ 0 then ({ l with ctrl := rest }.spend f now).emit f now else data l
    | [] => data l
where
  data (l : LeaPort) : LeaPort :=
    if l.dcred = 0 then { l with sent := .idle }
    else
      match id with
      | some id =>
        match takeFrame (fun f => f.owner.map Prod.fst == some id) l.data with
        | some (f, rest) => ({ l with data := rest }.spend f now).emit f now
        | none => { l with sent := .idle }
      | none =>
        match l.chain with
        | f :: rest => ({ l with chain := rest }.spend f now).emit f now
        | [] => { l with sent := .idle }

/-- The frame slots of port `p` that have passed in this swath, and those of each job. -/
def State.leaPassed (s : State) (p : Nat) : Nat × List (Nat × Nat) :=
  let x := (s.lea p).slots
  if x.1 = s.swath then x.2 else (0, [])

/-- Job `id` still holds an outbound slot of port `p` in this swath (R208, kind 11, DIR 0, R340). -/
def State.leaHolds (s : State) (p id : Nat) : Bool :=
  match s.job id with
  | some j => decide (Tab.get (fun _ => 0) (s.leaPassed p).2 id <
      ((j.units.filter fun u => u.kind == 11 && u.unit == p && u.swath == s.swath).map fun u => u.amount).sum)
  | none => false

/-- Frame slots of a swath and direction at the port's rate (R336). -/
def State.leaSlots (s : State) (p : Nat) : Nat := if s.lea56 p then 1600 else 3200

/-- What is counted of a frame sent: DATA and CTRL frames, and PROV blocks to an Olusar 1100 (R359). -/
def State.leaSentCount (s : State) (p : Nat) (again : Bool) : State :=
  match (s.lea p).sent with
  | .frame f =>
    let s := s.incMod (F.LEA_PORT_TX_FRAMES p)
    if again then s
    else
      match f with
      | .data prov _ origin jobref _ _ _ _ o =>
        if prov && s.on (F.LEA_PORT_STATUS_PARTNER_1100 p) then
          let s := s.inc (F.LEA_PORT_STAT_LEGACY_PROV_CNT p)
          match o with
          | some (id, _) => s.updJob id fun j => { j with legacy := true }
          | none => if s.legacyRefs.contains (origin, jobref) then s else { s with legacyRefs := s.legacyRefs ++ [(origin, jobref)] }
        else s
      | .ctrl _ => s
  | .idle => s
  | .train => s

/-- A job's DATA frame has gone out for the first time. -/
def LeaSent.ofJob (f : LeaSent) (id : Nat) : Bool :=
  match f with
  | .frame (.data _ _ _ _ _ _ _ _ (some o)) => o.1 == id
  | _ => false

/-- An outbound frame slot (R340), TRAIN frames in EXCHANGE: every frame carries ACK, NAK when one is due, the credits due, and the FSEQ of
its own or of the next sequenced frame (R339). A slot that a job holds is used up by a DATA frame of the job only, so that a frame held
up by a replay goes in a later one (R347). Log entry 15 (DEDUCED and DESIGN CHOICE). -/
def State.leaSlot (s : State) (p id : Nat) : State :=
  let up := s.leaIn p lpUP
  if !(up || s.leaIn p lpEXCHANGE) || decide (s.leaSlots p ≤ (s.leaPassed p).1) then s
  else
    let l := s.lea p
    let again := up && l.resend != 0
    let held := up && s.leaHolds p id
    let x := s.leaPassed p
    let new := if up then l.slot (if held then some id else none) s.time else { l with sent := .train }
    let used := held && !again && new.sent.ofJob id
    let new := { new with
      slots := (s.swath, x.1 + 1, if used then Tab.set (fun _ => 0) x.2 id (Tab.get (fun _ => 0) x.2 id + 1) else x.2)
      sentSeq := (l.next + 256 - l.resend) % 256
      sentAck := (l.expect + 255) % 256
      sentNak := l.nakDue
      sentCred := (min l.dreturn 255, min l.creturn 7)
      nakDue := false
      dreturn := l.dreturn - 255
      creturn := l.creturn - 7 }
    (s.updLea p fun _ => { new with wire := new.frameBytes (s.leaBody p new.sent) }).leaSentCount p again

/-! ### Inbound blocks (R274, R275, R352) -/

/-- A block for the distribution chain is queued for OUT_PORT (R274, R275); its origin's messages follow it (R357). -/
def State.leaChain (s : State) (p a : Nat) (f : LeaFrame) (prov : Bool) (origin jobref : Nat) : State :=
  if s.on F.GLB_DIST_CFG_EN && !s.on F.GLB_DIST_CFG_LAST && s.get F.GLB_DIST_CFG_IN_PORT == p &&
      s.get F.GLB_DIST_BASE_BASE ≤ a / 256 && a / 256 ≤ s.get F.GLB_DIST_LIMIT_LIMIT then
    let q := s.get F.GLB_DIST_CFG_OUT_PORT
    if 64 ≤ (s.lea q).chain.length then s.inc F.GLB_DIST_STAT_MISS_CNT
    else
      let s := s.updLea q fun l => { l with chain := l.chain ++ [f] }
      if prov && !s.chainRefs.contains (origin, jobref) then { s with chainRefs := s.chainRefs ++ [(origin, jobref)] } else s
  else s

/-- An ADDR_FAULT message to the origin of a denied block, at most one per JOBREF per swath (R352). Log entry 15 (DEDUCED and DESIGN CHOICE). -/
def State.leaDenied (s : State) (p a origin jobref : Nat) : State :=
  let s := s.inc (F.LEA_PORT_STAT_DENIED_CNT p)
  if s.leaFaults.contains (origin, jobref, s.swath) then s
  else
    let s := { s with leaFaults := s.leaFaults.filter (fun (x : Nat × Nat × Nat) => x.2.2 == s.swath) ++ [(origin, jobref, s.swath)] }
    s.msgSend 5 origin jobref (leBytes 6 a)

/-- The job in whose slots an inbound block travels (R353): it holds an inbound slot of the port in this swath and, from the port to the
block's address, mesh, bridge and memory slots; the slots with the bridge that they name. Log entry 29 (DESIGN CHOICE). -/
def State.inboundJob (s : State) (p a : Nat) : Option (Nat × List (Nat × Nat)) :=
  let ways := (meshEnds a).flatMap fun q => (waysBetween (p, .lea) q).map fun w => (11, p + 4) :: (w ++ memSlots a)
  s.jobs.findSome? fun j => if j.tags.isEmpty || j.err.isSome then none
    else (ways.find? (j.copyRoom s.swath)).map fun w => (j.id, w)

/-- The bridge among the slots of a way. -/
def bridgeOf (w : List (Nat × Nat)) : Option Nat := (w.find? fun x => x.1 == 8).map fun x => x.2 % 2

/-- An inbound block crosses from its port to its address, in the slots of a receiving job or unscheduled (R165, R169, R353). -/
def State.inboundCross (s : State) (p a : Nat) (b : Block) : State × Block :=
  match s.inboundJob p a with
  | none => s.crossing b (placesBetween (some p) (some (chanOfAddr a)))
  | some (id, w) => (s.updJob id fun j => j.useSlots s.swath s.swath w).crossing b (placesOver ((bridgeOf w).getD 0) p (chanOfAddr a))

/-- A DATA frame accepted (R352, R357): chain forwarding, guards, tag check at the write, and the provisional entry. -/
def State.leaBlock (s : State) (p a : Nat) (b : Block) (prov : Bool) (origin jobref : Nat) : State :=
  let s := s.leaChain p a (.data prov a origin jobref b.data b.crc b.tid b.seq none) prov origin jobref
  let s := s.updLea p fun l => { l with dreturn := l.dreturn + 1 }
  match s.accessFault (.lea p) true a 256 with
  | some u => (s.addressFault (.lea p) true a u).leaDenied p a origin jobref
  | none =>
    if !s.memPowered a then s
    else
      let (s, b) := s.inboundCross p a b
      let c := if tagged a then b.check none else .ok
      let s := (s.putBlock a (if c = .blockCrc then b.poison else b)).countCheck (chanOfAddr a) c
      if prov then s.provNote b.tid jobref (some origin) else s

/-! ### Control messages (R354 to R358) -/

/-- A message passed on through a port, with HOPS decreased by 1 (R356). -/
def State.msgForward (s : State) (p : Nat) (m : LeaMsg) : State :=
  if m.hops = 0 then s.msgDrop else s.msgQueue p { m with hops := m.hops - 1 }

/-- A CTRL frame accepted (R356, R357, R359): from an Olusar 1100 it is dropped; the chain's messages also go to the
OUT_PORT partner; a message for another node is forwarded by its route. Log entry 15 (DEDUCED and DESIGN CHOICE). -/
def State.leaCtrl (s : State) (p : Nat) (m : LeaMsg) (act : State → State) : State :=
  let s := s.updLea p fun l => { l with creturn := l.creturn + 1 }
  if s.on (F.LEA_PORT_STATUS_PARTNER_1100 p) then s.set F.LEA_STATUS_CTRL_DROP 1
  else
    let s := if (m.msg == 1 || m.msg == 2) && s.chainRefs.contains (m.origin, m.jobref) then
        let q := s.get F.GLB_DIST_CFG_OUT_PORT
        { (s.msgForward q { m with dest := s.get (F.LEA_PORT_STATUS_PARTNER_NODE q) }) with
          chainRefs := s.chainRefs.filter (fun x => x != (m.origin, m.jobref)) }
      else s
    if m.dest = s.get F.LEA_NODE_NODE then act s
    else
      match s.routeTo m.dest with
      | some q => s.msgForward q m
      | none => s.msgDrop

/-- A control message received on port `p`. -/
def State.leaMessage (s : State) (p : Nat) (h : LeaHdr) (msg : Nat) (r : LeaRoute) (body : List Byte)
    (act : State → State) : State :=
  s.leaAccept p h fun s =>
    s.leaCtrl p ⟨msg, r.dest.toNat, r.origin.toNat, r.hops.toNat, r.jobref.toNat, body⟩ act

/-- Entries bound to an upstream token (R354). -/
def Prov.upstream (e : Prov) (r : LeaRoute) : Bool := e.origin == some r.origin.toNat && e.job == r.jobref.toNat

/-- The command of a job whose MODE 3 copy covers an address of the receiving device. Log entry 14 (DESIGN CHOICE and DEDUCED). -/
def Job.copyTo (j : Job) (a : Nat) : Nat :=
  ((j.body.find? fun (c, _) => cmdOp c == 3 && tfld c 0 20 2 == 3 && decide (cmdAddr c 4 ≤ a) &&
    decide (a < cmdAddr c 4 + 256 * tfld c 1 0 24)).map fun q => q.2).getD 0

/-- The Lea port of a command: that of a MODE 3 copy (R239, R243). -/
def Job.portOf (j : Job) (cmd : Nat) : Nat :=
  match j.body.find? fun q => q.2 == cmd with
  | some (c, _) => tfld c 0 22 2
  | none => 0xFFFF

/-- The token that governs PROV blocks forwarded to an Olusar 1100 has come (R359): retracted, it counts under R323. -/
def State.legacyToken (s : State) (m : LeaRoute) (retracted : Bool) : State :=
  let r := (m.origin.toNat, m.jobref.toNat)
  if !s.legacyRefs.contains r then s
  else
    let s := { s with legacyRefs := s.legacyRefs.filter (· != r) }
    if retracted then s.commitRetract else s

/-- An ADDR_FAULT for a job of this device (R355). Log entry 15 (DEDUCED and DESIGN CHOICE). -/
def State.addrFaulted (s : State) (jobref a : Nat) : State :=
  match s.jobOfTag (jobref / 16384) (jobref % 16384) with
  | none => s.inc F.LEA_CTRL_STAT_LATE_FAULT_CNT
  | some j =>
    match j.stage with
    | .running => s.jobFail j.id 0x12 (j.copyTo a) (j.portOf (j.copyTo a))
    | .provisional => s.retractJob j.id

/-- A digest of a replica member (R327, R358). -/
def State.digestIn (s : State) (origin : Nat) (body : List Byte) : State :=
  if s.on F.GRS_REP_CFG_EN && !s.repSelf then s.set F.LEA_STATUS_NODE_MISMATCH 1
  else
    let c := (body.headD 0).toNat
    if decide (c < 64 ∧ origin < 8) && s.repCompared c then s.report c origin body else s

/-! ### The commands -/

/-- `LEA_ENABLE` (R341). -/
def execLeaEnable (p : Port) (s : State) : Host.Outcome State Fault Refusal :=
  .next (s.ifReach .LEA_PORT_CFG p fun s =>
    let s := s.set (F.LEA_PORT_CFG_EN p) 1
    if s.leaState p = lpDISABLED then s.leaTo p lpTRAIN else s)

/-- `LEA_DISABLE` (R341): UP alone leaves for DISABLED when EN is cleared. Log entry 15 (DEDUCED). -/
def execLeaDisable (p : Port) (s : State) : Host.Outcome State Fault Refusal :=
  .next (s.ifReach .LEA_PORT_CFG p fun s =>
    let s := s.set (F.LEA_PORT_CFG_EN p) 0
    if s.leaState p = lpUP then s.leaTo p lpDISABLED else s)

/-- `LEA_RETRAIN` (R341). -/
def execLeaRetrain (p : Port) (s : State) : Host.Outcome State Fault Refusal :=
  .next (s.ifReach .LEA_PORT_CFG p fun s =>
    if s.leaState p = lpDOWN ∨ s.leaState p = lpFAULT then s.leaTo p lpTRAIN else s)

/-- `LEA_TRAIN_DONE` (R341). -/
def execLeaTrainDone (p : Port) (s : State) : Host.Outcome State Fault Refusal :=
  .next (if s.leaIn p lpTRAIN then (if s.leaLate p then s.leaFail p else s.leaTo p lpALIGN) else s)

/-- `LEA_ALIGN_DONE` (R341). -/
def execLeaAlignDone (p : Port) (s : State) : Host.Outcome State Fault Refusal :=
  .next (if s.leaIn p lpALIGN then
      (if s.leaLate p then s.leaFail p else (s.updLea p fun l => { l with trainCnt := 0, agreedAt := none }).leaTo p lpEXCHANGE)
    else s)

/-- `LEA_ATTEMPT_FAIL` (R341): the time of the state has run out. -/
def execLeaAttemptFail (p : Port) (s : State) : Host.Outcome State Fault Refusal :=
  .next (if (s.leaIn p lpTRAIN || s.leaIn p lpALIGN || s.leaIn p lpEXCHANGE) &&
      (s.leaFrom p).any (fun t => decide (t + leaLimit (s.leaState p) ≤ s.time)) then s.leaFail p else s)

/-- `LEA_TRAIN_FRAME` (R342, R343). -/
def execLeaTrainFrame (p : Port) (kind rate : BitVec 8) (node : BitVec 4) (port dbuf cbuf : BitVec 8) (agreed : Bool)
    (s : State) : Host.Outcome State Fault Refusal :=
  .next (s.leaTrain p (kind.toNat, rate.toNat, node.toNat, port.toNat, dbuf.toNat, cbuf.toNat) agreed)

/-- `LEA_LOCK_LOSS` (R341). Log entry 15 (DEDUCED and DESIGN CHOICE). -/
def execLeaLockLoss (p : Port) (s : State) : Host.Outcome State Fault Refusal :=
  .next (if s.leaIn p lpUP then s.leaTo p lpDOWN else s)

/-- `LEA_BREAK_END` (R341): after the break pattern of 10 µs. -/
def execLeaBreakEnd (p : Port) (s : State) : Host.Outcome State Fault Refusal :=
  .next (if s.leaIn p lpDOWN && s.on (F.LEA_PORT_CFG_AUTO_RETRAIN p) && decide ((s.lea p).since + 10000 ≤ s.time) then s.leaTo p lpTRAIN else s)

/-- An event of Lea port `p`'s frames: none once the port has agreed to a power-state entry (R419). -/
def State.ifPort (s : State) (p : Nat) (f : State → State) : State := if s.stopped (0x60 + p) then s else f s

/-- `LEA_FRAME_SLOT` (R340). -/
def execLeaFrameSlot (p : Port) (job : Nat) (s : State) : Host.Outcome State Fault Refusal := .next (s.ifPort p fun s => s.leaSlot p job)

/-- `LEA_DATA_FRAME` (R345, R352). -/
def execLeaDataFrame (p : Port) (h : LeaHdr) (prov : Bool) (addr : BitVec 40) (origin : BitVec 4) (jobref : BitVec 16)
    (data : List Byte) (crc : Word) (tid seq : BitVec 16) (s : State) : Host.Outcome State Fault Refusal :=
  .next (s.ifPort p fun s => s.leaAccept p h fun s => s.leaBlock p (addr.toNat * 256) ⟨data, crc.toNat, tid.toNat, seq.toNat⟩ prov origin.toNat jobref.toNat)

/-- `LEA_IDLE_FRAME` (R339). -/
def execLeaIdleFrame (p : Port) (h : LeaHdr) (s : State) : Host.Outcome State Fault Refusal :=
  .next (s.ifPort p fun s => if s.leaIn p lpUP then s.leaHeader p h else s)

/-- `LEA_BAD_FRAME` (R345). -/
def execLeaBadFrame (p : Port) (crcBad : Bool) (uncorr : BitVec 8) (s : State) : Host.Outcome State Fault Refusal :=
  .next (s.ifPort p fun s => if s.leaIn p lpUP then (s.incBy (F.LEA_PORT_FEC_UNCORR_CNT p) uncorr.toNat).leaBad p crcBad else s)

/-- `LEA_NAK` (R346). -/
def execLeaNak (p : Port) (h : LeaHdr) (s : State) : Host.Outcome State Fault Refusal :=
  .next (s.ifPort p fun s => if s.leaIn p lpUP then s.leaHeader p { h with nak := true } else s)

/-- `LEA_REPLAY_TIMEOUT` (R346). -/
def execLeaReplayTimeout (p : Port) (s : State) : Host.Outcome State Fault Refusal :=
  .next (s.ifPort p fun s => if s.leaIn p lpUP && decide ((s.lea p).ackTime + 512 ≤ s.time) then s.leaReplay p else s)

/-- `RETRY_EXHAUSTED` (R348): an episode that has stayed open for 10 µs; the fifth try exhausts where it would begin. -/
def execRetryExhausted (p : Port) (s : State) : Host.Outcome State Fault Refusal :=
  .next (match (s.lea p).episode with
    | some e => if s.leaIn p lpUP && decide (e.since + 10000 ≤ s.time) then s.leaExhaust p else s
    | none => s)

/-- `CREDIT_STALL` (R353). -/
def execCreditStall (p : Port) (s : State) : Host.Outcome State Fault Refusal :=
  .next (if s.leaIn p lpUP && (s.lea p).dcred == 0 && decide ((s.lea p).dryTime + 1024 ≤ s.time) then
    (s.set (F.LEA_PORT_STATUS_CREDIT_STALL p) 1).signal (24 + p) else s)

/-- `CONFIRM` (R354). -/
def execConfirm (p : Port) (h : LeaHdr) (m : LeaRoute) (s : State) : Host.Outcome State Fault Refusal :=
  .next (s.ifPort p fun s => s.leaMessage p h 1 m [] fun s => (s.resolveProvs (·.upstream m) false).legacyToken m false)

/-- `RETRACT` (R354). -/
def execRetract (p : Port) (h : LeaHdr) (m : LeaRoute) (s : State) : Host.Outcome State Fault Refusal :=
  .next (s.ifPort p fun s => s.leaMessage p h 2 m [] fun s => (s.resolveProvs (·.upstream m) true).legacyToken m true)

/-- `COMMITTED` (R323, R354). -/
def execCommitted (p : Port) (h : LeaHdr) (m : LeaRoute) (s : State) : Host.Outcome State Fault Refusal :=
  .next (s.ifPort p fun s => s.leaMessage p h 3 m [] State.commitRetract)

/-- `DIGEST_MESSAGE` (R327, R358). -/
def execDigestMessage (p : Port) (h : LeaHdr) (m : LeaRoute) (body : List Byte) (s : State) : Host.Outcome State Fault Refusal :=
  .next (s.ifPort p fun s => s.leaMessage p h 4 m body fun s => s.digestIn m.origin.toNat body)

/-- `ADDR_FAULT` (R355). -/
def execAddrFault (p : Port) (h : LeaHdr) (m : LeaRoute) (addr : BitVec 48) (s : State) : Host.Outcome State Fault Refusal :=
  .next (s.ifPort p fun s => s.leaMessage p h 5 m (leBytes 6 addr.toNat) fun s => s.addrFaulted m.jobref.toNat addr.toNat)

/-- `RESERVED_CTRL_MESSAGE` (R354): the codes 0x01 to 0x05 belong to the other rows. -/
def execReservedCtrlMessage (p : Port) (h : LeaHdr) (m : LeaRoute) (msg : BitVec 8) (body : List Byte) (s : State) :
    Host.Outcome State Fault Refusal :=
  .next (if 1 ≤ msg.toNat ∧ msg.toNat ≤ 5 then s else s.ifPort p fun s => s.leaMessage p h msg.toNat m body fun s => s.msgDrop)

/-- `LEA_PORT_STAT_CLR`: every counter of the port block. -/
def execLeaPortStatClr (p : Port) (s : State) : Host.Outcome State Fault Refusal :=
  .next (s.ifReach .LEA_PORT_STAT p fun s =>
    [F.LEA_PORT_ERR_CRC_CNT p, F.LEA_PORT_ERR_TRY_CNT p, F.LEA_PORT_ERR_EXHAUST_CNT p, F.LEA_PORT_FEC_CORR_CNT p,
     F.LEA_PORT_FEC_UNCORR_CNT p, F.LEA_PORT_TX_FRAMES p, F.LEA_PORT_RX_FRAMES p, F.LEA_PORT_STAT_LEGACY_PROV_CNT p,
     F.LEA_PORT_STAT_DENIED_CNT p].foldl (fun s f => s.set f 0) s)

/-- `LEA_CTRL_STAT_CLR`. -/
def execLeaCtrlStatClr (s : State) : Host.Outcome State Fault Refusal :=
  .next (s.ifReach .LEA_CTRL_STAT 0 fun s => (s.set F.LEA_CTRL_STAT_DROP_CNT 0).set F.LEA_CTRL_STAT_LATE_FAULT_CNT 0)

end Sys2Proof.Machine
end

