-- ==== Sys2Proof/Machine/Power.lean ====
section
/-! DEFINITION. Power states (R413 to R430): the entry handshake with its abort points and rollback, refusals, wakes, the
register save of Deep sleep, and the switching of single fabric quarters. Log entries: 17. -/

namespace Sys2Proof.Machine
open Sys2Proof

/-! ### Who is asked (R419) -/

/-- The blocks of an entry with their stages, in the order asked; codes of R425, with 0 for the register save. -/
def pwrBlocks (target : Nat) : List (Nat × Nat) :=
  let deep := decide (2 ≤ target)
  (List.range 4).map (fun n => (1, 0x10 + n)) ++ (List.range 4).map (fun n => (2, 0x20 + n)) ++
  (List.range 4).map (fun n => (2, 0x30 + n)) ++ (if deep then [(3, 0x40)] else []) ++ [(4, 0x50), (4, 0x51)] ++
  (if deep then (List.range 4).map (fun p => (5, 0x60 + p)) ++ [(6, 0x70)] ++ (List.range 4).map (fun n => (7, 0x80 + n)) else []) ++
  (if target = 3 then [(8, 0)] else []) ++ (if 3 ≤ target then [(9, 0x90)] else [])

/-- The blocks that an entry is asking now: the schedulers together, else the first that has not agreed. -/
def PwrEntry.asking (e : PwrEntry) : List (Nat × Nat) :=
  let left := (pwrBlocks e.target).filter fun b => !e.agreed.contains b.2
  match left with
  | [] => []
  | b :: _ => if b.1 = 1 then left.filter fun b => b.1 == 1 else [b]

/-- The stage being asked. -/
def PwrEntry.stage (e : PwrEntry) : Nat := (e.asking.headD (0, 0)).1

/-- The Tussocks of channel `n` that are more than what they are at reset. -/
def State.tussOn (s : State) (n : Nat) : List Nat := (s.tusss.map fun p => p.1).filter fun g => chanOf g == n

/-- A block is done with what it delays for (R419, R474). -/
def State.blockIdle (s : State) (code : Nat) : Bool :=
  let n := code % 16
  match code / 16 with
  | 1 => !s.jobs.any fun j => j.chan == n && !j.tags.isEmpty
  | 2 => (s.tussOn n).all fun g => (s.tuss g).window.isNone
  | 3 => (s.tussOn n).all fun g => (s.tuss g).arb.isNone && (s.tuss g).repair.isNone
  | 4 => (List.range 64).all fun c => decide (s.get (F.GLB_CTX_STATE_STATE c) < 2)
  | 5 => if n = 0 then s.boot.switch.isNone else s.verifs.isEmpty && !s.on F.SEC_MBOX_STATUS_BUSY
  | 6 => (s.lea n).replay.isEmpty
  | 7 => s.t3.isEmpty
  | 9 => !s.on F.STL_AIN_STATUS_BUSY
  | _ => true

/-- The field is active: a queue holds entries, an FOUT is enabled, or an analogue output is connected outside its safe
state. -/
def State.fieldActive (s : State) : Bool :=
  ((List.range 8).any fun q => s.on (F.STL_TQ_STAT_OCC q)) || s.on F.STL_FOUT_OE ||
    (List.range 4).any fun k => (s.aout k).connect == 1 && !s.on (F.STL_AOUT_STATUS_IN_SAFE k)

/-- A block has to refuse (R419, R459). Log entry 17 (DEDUCED and DESIGN CHOICE). -/
def State.blockRefuses (s : State) (code : Nat) : Bool :=
  let n := code % 16
  match code / 16 with
  | 2 => (s.tussOn n).any fun g => s.on (F.BRK_STATUS_OVERDUE g)
  | 5 => n == 0 && s.boot.switch.isSome
  | 6 => (s.get (F.LEA_PORT_STATUS_STATE n) == 4 && s.on F.GLB_DIST_CFG_EN &&
      (s.get F.GLB_DIST_CFG_IN_PORT == n || s.get F.GLB_DIST_CFG_OUT_PORT == n)) || s.on F.GRS_REP_CFG_EN
  | 9 => !s.on F.PWR_CFG_FIELD_OFF_OK && s.fieldActive
  | _ => false

/-- A block may refuse by what the registers do not show: firmware by its own choice, PCIe for Sleep where L1.2 is not
enabled. -/
def mayRefuse (target code : Nat) : Bool := code == 0x50 || (code == 0x70 && target == 2)

/-! ### The entry (R418 to R424) -/

/-- Admission of every scheduler is to close, or to reopen, at the next boundary. -/
def State.closeAt (s : State) (v : Bool) : State :=
  (List.range 4).foldl (fun s n => s.setChan n { s.chan n with closing := v }) s

/-- The entry ends without its state: rollback, and what PWR_LAST_REFUSE records (R422, R423). -/
def State.rollback (s : State) (block stage target : Nat) (expired : Bool) : State :=
  let s := State.closeAt { s with entry := none } false
  let s := (((s.set F.PWR_STATUS_ENTERING 0).set F.PWR_STATUS_STAGE 0).set F.PWR_LAST_REFUSE_BLOCK block).set F.PWR_LAST_REFUSE_STAGE stage
  let s := ((s.set F.PWR_LAST_REFUSE_TARGET target).set F.PWR_LAST_REFUSE_DELAY_EXPIRED (natOf expired)).set F.PWR_LAST_REFUSE_VALID 1
  if s.on F.PWR_CFG_IRQ_REFUSE then s.signal 31 else s

/-- A block refuses. -/
def State.refuseEntry (s : State) (e : PwrEntry) (code : Nat) (expired : Bool) : State :=
  (s.rollback code e.stage e.target expired).inc F.PWR_REFUSE_REFUSED_CNT

/-- A wake abandons an entry at an abort point. Log entry 17 (DEDUCED and DESIGN CHOICE). -/
def State.abortEntry (s : State) (stage target : Nat) : State :=
  ((s.rollback 1 stage target false).inc F.PWR_REFUSE_ABORTED_CNT).set F.PWR_STATUS_WAKE_DURING_ENTRY 1

/-- The registers of R428. Log entry 17 (DEDUCED and DESIGN CHOICE). -/
def savedRegs : List RegName :=
  [.GLB_RGN_BASE, .GLB_RGN_LIMIT, .GLB_RGN_ATTR, .GLB_RGN_INGRESS, .CHN_ENG_RING_BASE, .CHN_ENG_CTRL_ADDR, .CHN_ENG_CPL_BASE,
   .CHN_ENG_CFG, .CHN_ADM_CFG, .CHN_K1_TMPL, .CHN_K1_CFG, .PCI_BAR2_BASE, .PCI_T3_BASE, .PCI_T3_LAT, .LEA_PORT_CFG, .LEA_NODE,
   .LEA_ROUTE, .GRS_CFG, .GRS_TOL, .GRS_REP_CFG, .GRS_REP_CTX, .GLB_DIST_CFG, .GLB_DIST_BASE, .GLB_DIST_LIMIT, .THM_CFG,
   .THM_RATE, .THM_PWR, .GLB_CTX_PTR, .BRK_CFG, .PWR_CFG, .PWR_WAKE_EN, .PWR_WAKE_TIMER, .PWR_WAKE_FIN]

/-- Registers that firmware sets up again as at a start, because the device serves after the wake (R427). Log entry 17 (DEDUCED and DESIGN CHOICE). -/
def firmwareRegs : List RegName :=
  [.BOOT_STATUS, .BOOT_SP_STATUS, .SEC_STATUS, .GLB_FALLOW_REASON, .GLB_LEVEL, .PCI_LINK]

/-- A register table entry belongs to one of some registers. -/
def keyIn (rs : List RegName) (k : Nat) : Bool := rs.any fun r => k / 16777216 == r.ctorIdx

/-- What the save holds: the registers of R428, with STATE and VERSION of each context, and what firmware keeps. -/
def State.saveRegs (s : State) : List (Nat × Nat) :=
  s.regs.filter fun e => keyIn savedRegs e.1 || keyIn firmwareRegs e.1 ||
    (keyIn [.GLB_CTX_STATE] e.1 && (e.1 % 64 == 0 || e.1 % 64 == 16))

/-- The PLLs of the powered Tussocks go off with Sleep and relock as it ends (R414, R427). Log entry 17 (DEDUCED). -/
def State.allLocked (s : State) (v : Bool) : State :=
  (List.range 256).foldl (fun (s : State) g => if s.onT g then s.set (F.TSK_CLK_STATUS_LOCKED g) (natOf v) else s) s

/-- The entry passes its final abort point (R414, R421, R428). Log entry 17 (DEDUCED and DESIGN CHOICE). -/
def State.enterState (s : State) (target : Nat) : State :=
  let s := { s with entry := none, waking := none, slept := s.time }
  let s := (((s.inc F.PWR_ENTRY_CNT_ENTERED_CNT).set F.PWR_STATUS_ENTERING 0).set F.PWR_STATUS_STAGE 0).set F.PWR_STATUS_STATE target
  match target with
  | 2 =>
    let s := s.allLocked false
    let cfg := s.regs.filter fun e => keyIn [.LEA_PORT_CFG, .LEA_NODE, .LEA_ROUTE] e.1
    let s := s.domainOff .lea
    { s with regs := cfg.foldl (fun r e => Tab.insert r e.1 e.2) s.regs }
  | 3 =>
    let s := { s with heather := { s.heather with save := some s.saveRegs, reads := 0 } }
    let s := s.domainsOff (fabricDomains.reverse ++ [.lea, .pcie, .stile, .spine])
    s.set F.PWR_STATUS_STATE 3
  | 4 => s.railsOff .railsDown false
  | _ => s

/-- The entry goes on: an abort point where a wake waits, which records the stage reached, else the next ask, else the target state
(R421, R423). -/
def State.entryNext (s : State) (e : PwrEntry) : State :=
  match e.wake with
  | some _ => s.abortEntry (s.get F.PWR_STATUS_STAGE) e.target
  | none => if e.asking.isEmpty then s.enterState e.target else { s with entry := some e }.set F.PWR_STATUS_STAGE e.stage

/-- A block agrees (R419): it is asked, idle, and has no ground to refuse. -/
def State.blockAgree (s : State) (code : Nat) : State :=
  match s.entry with
  | none => s
  | some e =>
    if (e.asking.any fun b => b.2 == code) && s.blockIdle code && !s.blockRefuses code then
      let e' := { e with agreed := e.agreed ++ [code] }
      if e'.asking = e.asking.filter (fun b => b.2 != code) ∧ e'.asking ≠ [] then { s with entry := some e' }
      else s.entryNext { e' with since := s.time }
    else s

/-- A block refuses (R422). -/
def State.blockRefuse (s : State) (code : Nat) : State :=
  match s.entry with
  | none => s
  | some e =>
    if (e.asking.any fun b => b.2 == code) && (s.blockRefuses code || mayRefuse e.target code) then s.refuseEntry e code false else s

/-- A block delays of which the registers show nothing: firmware by its own choice (R419). -/
def mayDelay (code : Nat) : Bool := code == 0x50

/-- A block has delayed longer than DELAY_LIMIT (R420): one that has something to delay for. -/
def State.delayExpired (s : State) (code : Nat) : State :=
  match s.entry with
  | none => s
  | some e =>
    if (e.asking.any fun b => b.2 == code) && (!s.blockIdle code || mayDelay code) && decide (e.since + max 1 (s.get F.PWR_CFG_DELAY_LIMIT) * 1000000 < s.time) then
      s.refuseEntry e code true
    else s

/-- The abort point at every swath boundary of a delay (R421). -/
def State.boundaryAbort (s : State) : State :=
  match s.entry with
  | some e => if e.wake.isSome then s.abortEntry e.stage e.target else s
  | none => s

/-- Wake source `b` is enabled and allowed in power state `t` (R426); the timer only with an interval. -/
def State.wakeAllowed (s : State) (t b : Nat) : Bool :=
  bitOf (s.kept F.PWR_WAKE_EN_EN) b && (b != 2 || s.kept F.PWR_WAKE_TIMER_US != 0) && (t != 3 || b == 0 || b == 2)

/-- A write of TARGET and REQ (R418, R423): `wake` is a source that fires in the same cycle. -/
def State.powerRequest (s : State) (target : Nat) (wake : Option Nat) : State :=
  let ok := decide (1 ≤ target) && decide (target ≤ 4) && s.get F.PWR_STATUS_STATE == 0 && s.entry.isNone &&
    (target == 4 || (List.range 4).any fun b => s.wakeAllowed target b)
  if !ok then s.set F.PWR_STATUS_REQ_REJECT 1
  else
    let s := s.set F.PWR_STATUS_ENTERING 1
    if wake.any fun b => bitOf (s.get F.PWR_WAKE_EN_EN) b then s.abortEntry 0 target
    else (State.closeAt { s with entry := some { target := target, since := s.time } } true).set F.PWR_STATUS_STAGE 1

/-- A wake source fires (R423, R424, R426): during an entry it waits for the next abort point; in Idle, Sleep and Deep sleep
the device begins to wake; WAKE_N in Off starts it. Log entry 17 (DEDUCED and DESIGN CHOICE). -/
def State.wake (s : State) (b : Nat) : State :=
  match s.entry with
  | some e =>
    if bitOf (s.get F.PWR_WAKE_EN_EN) b && e.wake.isNone then { s with entry := some { e with wake := some b } } else s
  | none =>
    match s.get F.PWR_STATUS_STATE with
    | 0 => s
    | 4 => if b = 0 then { s with heather := { s.heather with mayRise := true, cause := 6 } } else s
    | t =>
      if s.waking.isNone && s.wakeAllowed t b then
        let s := { s with waking := some (b, s.time) }
        if t = 3 then s else (s.set F.PWR_STATUS_LAST_WAKE_SRC (b + 1)).signal 31
      else s

/-- A field event of input `i` (R426, source 3). -/
def State.fieldWake (s : State) (i : Nat) : State := if bitOf (s.get F.PWR_WAKE_FIN_MASK) i then s.wake 3 else s

/-- The wake timer (R426, source 2): PWR_WAKE_TIMER µs after the final abort point; the interval of Deep sleep is counted by
Heather island. -/
def State.wakeTimer (s : State) : State :=
  let t := s.get F.PWR_STATUS_STATE
  if t = 3 then s.wake 2
  else if (t = 1 ∨ t = 2) ∧ s.on F.PWR_WAKE_TIMER_US ∧ s.slept + s.get F.PWR_WAKE_TIMER_US * 1000 ≤ s.time then s.wake 2
  else s

/-- When the wake under way ends, in Idle and Sleep: 2 µs and 200 µs after its event (R427). -/
def State.wakeEnds (s : State) (since : Nat) : Nat := since + if s.get F.PWR_STATUS_STATE = 1 then 2000 else 200000

/-- The last step of a wake from Idle or Sleep (R427): Run, admission reopened at the next boundary, and after Sleep the Lea
ports that are enabled begin training. -/
def State.runAfterWake (s : State) : State :=
  let t := s.get F.PWR_STATUS_STATE
  let s := State.closeAt ({ s with waking := none }.set F.PWR_STATUS_STATE 0) false
  if t = 2 then
    (List.range 4).foldl (fun s p => if s.on (F.LEA_PORT_CFG_EN p) then s.leaTo p lpTRAIN else s) ((s.allLocked true).domainOn .lea)
  else s

/-! ### Fabric quarters (R430) -/

/-- Every Tussock of quarter `q` is QUARANTINED. -/
def State.quarterQuarantined (s : State) (q : Nat) : Bool :=
  (List.range 16).all fun i => s.get (F.TSK_STATE_STATE (16 * q + i)) == 2

/-- A write of bit `q` of PWR_QUARTER_OFF (R424, R430): during an entry it is dropped, whatever it would change. -/
def State.quarterWrite (s : State) (q : Nat) (off : Bool) : State :=
  if s.entry.isSome then s.set F.PWR_STATUS_REQ_REJECT 1
  else if bitOf (s.get F.PWR_QUARTER_OFF_OFF) q = off then s
  else if off && !s.quarterQuarantined q then s.set F.PWR_STATUS_REQ_REJECT 1
  else
    let s := s.putBit F.PWR_QUARTER_OFF_OFF q off
    { s with quarters := (s.quarters.filter fun p => p.1 != q) ++ [(q, !off)] }

/-- A quarter switch completes. Log entry 17 (DEDUCED and DESIGN CHOICE). -/
def State.quarterDone (s : State) (q : Nat) : State :=
  match s.quarters.find? fun p => p.1 == q with
  | none => s
  | some (_, v) =>
    let s := { s with quarters := s.quarters.filter fun p => p.1 != q }
    if !v then s.domainOff (.quarter q)
    else if s.powered (.core (q / 4)) then s.domainOn (.quarter q) else s

/-! ### The commands -/

/-- `POWER_REQUEST` (R418). -/
def execPowerRequest (target : BitVec 3) (wake : Option (Fin 4)) (s : State) : Host.Outcome State Fault Refusal :=
  .next (s.ifReach .PWR_CTRL 0 fun s => s.powerRequest target.toNat (wake.map fun b => b.val))

/-- `BLOCK_AGREE` (R419). -/
def execBlockAgree (code : BitVec 8) (s : State) : Host.Outcome State Fault Refusal := .next (s.blockAgree code.toNat)

/-- `BLOCK_REFUSE` (R422). -/
def execBlockRefuse (code : BitVec 8) (s : State) : Host.Outcome State Fault Refusal := .next (s.blockRefuse code.toNat)

/-- `DELAY_EXPIRED` (R420). -/
def execDelayExpired (code : BitVec 8) (s : State) : Host.Outcome State Fault Refusal := .next (s.delayExpired code.toNat)

/-- `WAKE_N_LOW` (R426). -/
def execWakeNLow (s : State) : Host.Outcome State Fault Refusal := .next (s.wake 0)

/-- `HOST_WAKE` (R426). In Sleep the host has brought the link out of L1.2 before. -/
def execHostWake (s : State) : Host.Outcome State Fault Refusal := .next (s.ifReach .PWR_CTRL 0 fun s => s.wake 1)

/-- `WAKE_TIMER` (R426). -/
def execWakeTimer (s : State) : Host.Outcome State Fault Refusal := .next s.wakeTimer

/-- `QUARTER_OFF` (R430). -/
def execQuarterOff (q : BitVec 4) (s : State) : Host.Outcome State Fault Refusal :=
  .next (s.ifReach .PWR_QUARTER_OFF 0 fun s => s.quarterWrite q.toNat true)

/-- `QUARTER_ON` (R430). -/
def execQuarterOn (q : BitVec 4) (s : State) : Host.Outcome State Fault Refusal :=
  .next (s.ifReach .PWR_QUARTER_OFF 0 fun s => s.quarterWrite q.toNat false)

/-- `QUARTER_SWITCH_DONE` (R430). -/
def execQuarterSwitchDone (q : BitVec 4) (s : State) : Host.Outcome State Fault Refusal := .next (s.quarterDone q.toNat)

/-- `PWR_CLR_CNT`: PWR_REFUSE and PWR_ENTRY_CNT. -/
def execPwrClrCnt (s : State) : Host.Outcome State Fault Refusal :=
  .next (s.ifReach .PWR_CTRL 0 fun s =>
    ((s.set F.PWR_REFUSE_REFUSED_CNT 0).set F.PWR_REFUSE_ABORTED_CNT 0).set F.PWR_ENTRY_CNT_ENTERED_CNT 0)

end Sys2Proof.Machine
end

