-- ==== Sys2Proof/Machine/FieldInputs.lean ====
section
/-! DEFINITION. Field inputs, encoders and trigger queues (R360 to R376). Log entries: 5. -/

namespace Sys2Proof.Machine
open Sys2Proof

/-! ### Parts -/

/-- What the field logic remembers of input `i`. -/
def State.fin (s : State) (i : Nat) : FinState := Tab.get (fun _ => {}) s.stile.fins i

/-- Input `i` replaced. -/
def State.setFin (s : State) (i : Nat) (x : FinState) : State :=
  { s with stile := { s.stile with fins := Tab.set (fun _ => {}) s.stile.fins i x } }

/-- What the field logic remembers of encoder `e`. -/
def State.enc (s : State) (e : Nat) : EncState := Tab.get (fun _ => {}) s.stile.encs e

/-- Encoder `e`'s record replaced. -/
def State.setEnc (s : State) (e : Nat) (x : EncState) : State :=
  { s with stile := { s.stile with encs := Tab.set (fun _ => {}) s.stile.encs e x } }

/-- The number of the field clock that runs. -/
def State.fieldClock (s : State) : Nat := s.stileTime / 5

/-- POS of encoder `e` becomes `v`; changes of the last 65,536 samples are kept for stamps (R360, R362). -/
def State.setPos (s : State) (e v : Nat) : State :=
  let x := s.enc e
  (s.setEnc e { x with past := (s.time, s.get (F.STL_ENC_POS_POS e)) :: x.past.filter fun p => decide (s.time ≤ p.1 + 327680) }).set
    (F.STL_ENC_POS_POS e) v

/-- The position of encoder `e` at the device time of a sample (R360): what it was before the first change after it. -/
def State.posAt (s : State) (e time : Nat) : Nat :=
  (((s.enc e).past.takeWhile fun p => decide (time < p.1)).getLast?.map fun p => p.2).getD (s.get (F.STL_ENC_POS_POS e))

/-- POS of encoder `e` written (R368): a count in the same field clock is not applied. -/
def State.posWrite (s : State) (e v : Nat) : State :=
  (s.setPos e v).setEnc e { (s.setPos e v).enc e with setAt := some s.fieldClock }

/-- Trigger queue `q`. -/
def State.tq (s : State) (q : Nat) : Tq := Tab.get (fun _ => {}) s.stile.tqs q

/-- Queue `q` replaced. -/
def State.setTq (s : State) (q : Nat) (x : Tq) : State :=
  { s with stile := { s.stile with tqs := Tab.set (fun _ => {}) s.stile.tqs q x } }

/-- ENC_SEL of queue `q` at the device time of a sample (R360): what it was before the first change after it. -/
def State.encSelAt (s : State) (q time : Nat) : Nat :=
  (((s.tq q).encPast.takeWhile fun p => decide (time < p.1)).getLast?.map fun p => p.2).getD (s.get (F.STL_TQ_CFG_ENC_SEL q))

/-! ### Meetings in one field clock (R376) -/

/-- A counter of a register whose CLR came in field clock `clrAt` counts: the clear of the same clock wins (R376). -/
def State.countUnless (s : State) (clrAt : Option Nat) (f : Fld) : State := if clrAt = some s.fieldClock then s else s.inc f

/-- A host write has cleared a status bit that the field logic set in field clock `at_`: in that clock the bit stays set (R376). -/
def State.keepSet (s : State) (at_ : Option Nat) (f : Fld) : State := s.setIf (at_ == some s.fieldClock) f 1

/-! ### Trigger queues (R369 to R375) -/

/-- HOLDq follows OCC and the watermarks (R374). Log entry 5 (DESIGN CHOICE). -/
def State.tqHold (s : State) (q : Nat) : State :=
  let occ := s.get (F.STL_TQ_STAT_OCC q)
  if s.get (F.STL_TQ_CFG_HIGH q) ≤ occ then s.set (F.STL_TQ_STAT_HOLD q) 1
  else if occ ≤ s.get (F.STL_TQ_CFG_LOW q) then s.set (F.STL_TQ_STAT_HOLD q) 0
  else s

/-- Both copies of OCC set, and HOLD after it. -/
def State.tqOcc (s : State) (q n : Nat) : State :=
  ((s.set (F.STL_TQ_STAT_OCC q) n).setTq q { s.tq q with occ2 := n }).tqHold q

/-- An entry among those of its field clock, lowest input first. -/
def TqEntry.among (e : TqEntry) : List TqEntry → List TqEntry
  | [] => [e]
  | x :: xs => if e.input < x.input then e :: x :: xs else x :: e.among xs

/-- Entries written in one field clock, with their sequence numbers in their order (R376). -/
def inputOrder (es : List TqEntry) (e : TqEntry) : List TqEntry :=
  let base := (es.head?.getD e).seq
  (e.among es).zipIdx.map fun x => { x.1 with seq := (base + x.2) % 65536 }

/-- An entry joins a queue in field clock `now`: beside those of the same clock in the order of their inputs (R376). -/
def Tq.add (t : Tq) (e : TqEntry) (now : Nat) : Tq :=
  let n := if t.burst.1 = now then min t.burst.2 t.entries.length else 0
  let k := t.entries.length - n
  { t with
    entries := t.entries.take k ++ inputOrder (t.entries.drop k) e
    burst := (now, n + 1), wr1 := (t.wr1 + 1) % 64, wr2 := (t.wr2 + 1) % 64 }

/-- An event offered to queue `q` (R370, R371): SEQ is taken by every event of an enabled queue, and a full queue drops it. -/
def State.tqOffer (s : State) (q time pos input : Nat) (trail suspect : Bool) (enc : Nat) : State :=
  if !s.on (F.STL_TQ_CFG_EN q) then s
  else
    let seq := s.get (F.STL_TQ_STAT_NEXT_SEQ q)
    let occ := s.get (F.STL_TQ_STAT_OCC q)
    let s := s.incMod (F.STL_TQ_STAT_NEXT_SEQ q)
    -- a flush in the same field clock governs (R376)
    if (s.tq q).flushAt = some s.fieldClock then s.incBy (F.STL_TQ_CNT_LOST_CNT q) 1
    else if 64 ≤ occ then
      let s := s.setTq q { s.tq q with ovfAt := some s.fieldClock }
      ((s.countUnless (s.tq q).clrAt (F.STL_TQ_CNT_OVF_CNT q)).set (F.STL_TQ_STAT_OVF q) 1).signal (32 + q)
    else (s.setTq q ((s.tq q).add ⟨time, BitVec.ofNat 32 pos, input, trail, suspect, enc, seq⟩ s.fieldClock)).tqOcc q (occ + 1)

/-- The 16 bytes of an entry as a number (R369). -/
def TqEntry.bits (e : TqEntry) : Nat :=
  e.time % 2 ^ 64 + 2 ^ 64 * e.pos.toNat + 2 ^ 96 * (e.input + 32 * natOf e.trail + 64 * natOf e.suspect + 128) +
    2 ^ 104 * e.enc + 2 ^ 112 * e.seq

/-- The number of a reader's holding register. -/
def popperIx : Popper → Nat
  | .host => 0
  | .mgmt => 1
  | .standing => 2

/-- The holding register of a reader. Log entry 5 (DEDUCED). -/
def State.popHold (s : State) (r : Popper) : Nat := Tab.get (fun _ => 0) s.stile.popHold (popperIx r)

/-- Word `j` of the entry in a reader's holding register (R372). -/
def State.popWord (s : State) (r : Popper) (j : Nat) : Nat := s.popHold r / 2 ^ (32 * j) % 2 ^ 32

/-- The head entry leaves the queue for a reader's holding register; an empty queue clears it (R372). Log entry 5 (DEDUCED). -/
def State.tqPop (s : State) (r : Popper) (q : Nat) : State :=
  let t := s.tq q
  let hold (s : State) (v : Nat) : State :=
    { s with stile := { s.stile with popHold := Tab.set (fun _ => 0) s.stile.popHold (popperIx r) v } }
  match t.entries with
  | [] => hold s 0
  | e :: rest => ((hold s e.bits).setTq q { t with entries := rest }).tqOcc q (s.get (F.STL_TQ_STAT_OCC q) - 1)

/-- The entries of queue `q` are discarded and counted (R373, R375). -/
def State.tqEmpty (s : State) (q lost : Nat) : State :=
  ((s.incBy (F.STL_TQ_CNT_LOST_CNT q) lost).setTq q { s.tq q with entries := [] }).tqOcc q 0

/-- A write of the watermarks (R374). -/
def State.tqWatermarks (s : State) (q high low : Nat) : State :=
  if 1 ≤ high ∧ high ≤ 64 ∧ low < high then ((s.set (F.STL_TQ_CFG_HIGH q) high).set (F.STL_TQ_CFG_LOW q) low).tqHold q
  else s.set (F.STL_TQ_STAT_CFG_REJECT q) 1

/-- What the comparison of the two copies finds (R375); entries that a flush in the same clock has counted count once (R376). -/
def State.tqCompare (s : State) (q occ1 occ2 wr1 wr2 : Nat) : State :=
  if occ1 = occ2 ∧ wr1 = wr2 then s
  else
    let t := s.tq q
    let s := (s.tqEmpty q (if t.flushAt = some s.fieldClock then 0 else occ1)).setTq q
      { t with entries := [], occ2 := 0, wr1 := 0, wr2 := 0, dupAt := some s.fieldClock }
    ((s.countUnless t.clrAt (F.STL_TQ_CNT_DUP_CNT q)).set (F.STL_TQ_STAT_DUP_ERR q) 1).signal (32 + q)

/-- A host write of STL_TQ_STATq (R374 to R376). -/
def State.tqStatWrite (s : State) (q v : Nat) : State :=
  ((s.writeReg .STL_TQ_STAT q 0 v 0 64).keepSet (s.tq q).ovfAt (F.STL_TQ_STAT_OVF q)).keepSet (s.tq q).dupAt (F.STL_TQ_STAT_DUP_ERR q)

/-- Pad `k`, FOUTk or HOLD(k − 16), driven to a level: with OD it drives low only, and is high-impedance for a high level (R503). -/
def State.padLevel (s : State) (k : Nat) (v : Bool) : Option Bool := if v && s.on (F.STL_PIN_OUT_OD k) then none else some v

/-- The level of pin HOLDq (R374): high where it is asserted and HOLD_POL is 0, or released and HOLD_POL is 1; none while it is
high-impedance, with HOLD_EN 0 or the Stile die in reset. -/
def State.holdPin (s : State) (q : Nat) : Option Bool :=
  if s.powered .stile && s.on (F.STL_TQ_CFG_HOLD_EN q) then s.padLevel (16 + q) (s.on (F.STL_TQ_STAT_HOLD q) != s.on (F.STL_TQ_CFG_HOLD_POL q)) else none

/-- The level of pin FOUTi (R377): VALUE while OE is 1 and the Stile die is on; none while it is high-impedance. -/
def State.foutPin (s : State) (i : Nat) : Option Bool :=
  if s.powered .stile && bitOf (s.get F.STL_FOUT_OE) i then s.padLevel i (bitOf (s.get F.STL_FOUT_VALUE) i) else none

/-! ### Inputs (R360 to R365) -/

/-- An event that input `i` creates (R363, R383, R389, R426), with what the field logic captured at its first sample, `first`: offered to
its queue, a pace event, an injected request and a wake source where it is selected. Log entry 5 (DESIGN CHOICE on what is read at acceptance). -/
def State.finEvent (s : State) (i first : Nat) (trail : Bool) : State :=
  let q := s.get (F.STL_FIN_CFG_QSEL i)
  let e := s.encSelAt q first
  let s := s.setFin i { s.fin i with lastEvent := some (s.stampAt first) }
  let s := s.tqOffer q (s.stampAt first) (s.posAt e first) i trail (s.stileAt first).2 e
  let s := if s.get F.STL_AIN_PACE_SRC = 1 ∧ s.get F.STL_AIN_PACE_SEL = i then s.paceEvent else s
  let s := if s.on F.STL_AIN_INJ_FIN_EN ∧ s.get F.STL_AIN_INJ_FIN = i then s.injRequest else s
  s.fieldWake i

/-- An edge that would create an event less than MIN_PERIOD after the last one (R364). -/
def State.finTooSoon (s : State) (i time : Nat) : Bool :=
  match (s.fin i).lastEvent with
  | some t => s.on (F.STL_FIN_LIM_MIN_PERIOD i) && decide (time < t + s.get (F.STL_FIN_LIM_MIN_PERIOD i) * 1000)
  | none => false

/-- Input `i` has held a raw level for `samples` samples (R362 to R365); stamp, position and suspect flag are those of the first of them
(R14, R360). Log entry 5 (DEDUCED). -/
def State.finEdge (s : State) (i : Nat) (high : Bool) (samples : Nat) : State :=
  let active := high != s.on (F.STL_FIN_CFG_POL i)
  if !s.on (F.STL_FIN_CFG_EN i) ∨ samples < s.get (F.STL_FIN_CFG_FILT i) ∨ s.on (F.STL_FIN_STAT_LEVEL i) = active then s
  else
    let s := s.set (F.STL_FIN_STAT_LEVEL i) (natOf active)
    let s := s.setFin i { s.fin i with since := s.stileTime }
    let first := s.time - 5 * (samples - 1)
    let wanted := bitOf (s.get (F.STL_FIN_CFG_EDGE i)) (if active then 0 else 1)
    -- an edge in the clock in which the declaration ends is suppressed too (R376)
    if s.on (F.STL_FIN_STAT_STUCK_NOW i) ∨ (s.fin i).freeAt = some s.fieldClock then
      s.countUnless (s.fin i).clrAt (F.STL_FIN_STAT_SUPP_CNT i)
    else if !wanted then s
    else if s.finTooSoon i (s.stampAt first) then
      let s := s.setFin i { s.fin i with ovrAt := some s.fieldClock }
      ((s.countUnless (s.fin i).clrAt (F.STL_FIN_STAT_OVR_CNT i)).set (F.STL_FIN_STAT_OVR i) 1).signal 40
    else s.finEvent i first (!active)

/-- Input `i` has stayed at its active level for STUCK ms (R365). -/
def State.finStuck (s : State) (i : Nat) : State :=
  let ms := s.get (F.STL_FIN_LIM_STUCK i)
  if s.on (F.STL_FIN_CFG_EN i) && s.on (F.STL_FIN_STAT_LEVEL i) && ms != 0 && !s.on (F.STL_FIN_STAT_STUCK_NOW i) &&
      decide ((s.fin i).since + ms * 1000000 ≤ s.stileTime) then
    let s := s.setFin i { s.fin i with stuckAt := some s.fieldClock }
    ((s.set (F.STL_FIN_STAT_STUCK_NOW i) 1).set (F.STL_FIN_STAT_STUCK_SET i) 1).signal 40
  else s

/-- A stuck input has stayed at its inactive level for 10 ms (R365). -/
def State.finStuckEnd (s : State) (i : Nat) : State :=
  if s.on (F.STL_FIN_STAT_STUCK_NOW i) && !s.on (F.STL_FIN_STAT_LEVEL i) && decide ((s.fin i).since + 10000000 ≤ s.stileTime) then
    (s.set (F.STL_FIN_STAT_STUCK_NOW i) 0).setFin i { s.fin i with freeAt := some s.fieldClock }
  else s

/-! ### Encoders (R366, R367) -/

/-- The quadrature phase of two lines: 0 to 3 in the order in which A leads B, which counts up. -/
def quadPhase (a b : Bool) : Nat :=
  match a, b with
  | false, false => 0
  | true, false => 1
  | true, true => 2
  | false, true => 3

/-- A transition of encoder `e`'s filtered lines to (a1, b1); both lines at once are illegal, whatever MODE (R367); a count in the clock in which POS is written is not applied (R368). -/
def State.encStep (s : State) (e : Nat) (a1 b1 : Bool) : State :=
  let mode := s.get (F.STL_ENC_CFG_MODE e)
  let a0 := (s.enc e).a
  let b0 := (s.enc e).b
  let s := s.setEnc e { s.enc e with a := a1, b := b1 }
  if a0 != a1 && b0 != b1 then
    let s := s.setEnc e { s.enc e with errAt := some s.fieldClock }
    (s.countUnless (s.enc e).clrAt (F.STL_ENC_CFG_ERR_CNT e)).set (F.STL_ENC_CFG_ERR e) 1
  else if mode = 0 then s
  else
    let counts := match mode with
      | 1 => !a0 && a1
      | 2 => a0 != a1
      | _ => (a0, b0) != (a1, b1)
    if !counts ∨ (s.enc e).setAt = some s.fieldClock then s
    else
      let up := (quadPhase a0 b0 + 1) % 4 == quadPhase a1 b1
      let d := if up != s.on (F.STL_ENC_CFG_DIR e) then 1 else 2 ^ 32 - 1
      s.setPos e (s.get (F.STL_ENC_POS_POS e) + d)

/-! ### The commands -/

/-- `FIN_EDGE` (R360, R362 to R364). -/
def execFinEdge (i : FinIx) (high : Bool) (samples : BitVec 16) (s : State) : Host.Outcome State Fault Refusal :=
  .next (s.ifStile fun s => s.finEdge i high samples.toNat)

/-- `FIN_STUCK` (R365). -/
def execFinStuck (i : FinIx) (s : State) : Host.Outcome State Fault Refusal := .next (s.ifStile fun s => s.finStuck i)

/-- `FIN_STUCK_END` (R365). -/
def execFinStuckEnd (i : FinIx) (s : State) : Host.Outcome State Fault Refusal := .next (s.ifStile fun s => s.finStuckEnd i)

/-- `ENC_TRANSITION` (R366, R367): levels held for FILT_E samples pass the filters. -/
def execEncTransition (e : EncIx) (a b : Bool) (samples : BitVec 8) (s : State) : Host.Outcome State Fault Refusal :=
  .next (s.ifStile fun s => if samples.toNat < s.get (F.STL_ENC_CFG_FILT_E e) then s else s.encStep e a b)

/-- `ENC_POS_WRITE` (R368). -/
def execEncPosWrite (e : EncIx) (v : Word) (s : State) : Host.Outcome State Fault Refusal :=
  .next (s.ifReach .STL_ENC_POS e fun s => s.posWrite e v.toNat)

/-- `TQ_POP` (R372): word 0 read; it returns the entry's bytes 0 to 3. -/
def execTqPop (r : Popper) (q : TqIx) (s : State) : Host.Outcome State Fault Refusal :=
  .next (
    let read (s : State) (v : Nat) : State :=
      match r with
      | .host => s.answer .host v
      | .mgmt => s.answer .mgmt v
      | .standing => s.answer .mgmt v
    if s.reach .STL_TQ_POP q then
      let s := s.tqPop r q
      read s (s.popWord r 0)
    else read s 0xFFFFFFFF)

/-- `TQ_FLUSH` (R373). -/
def execTqFlush (q : TqIx) (s : State) : Host.Outcome State Fault Refusal :=
  .next (s.ifReach .STL_TQ_CFG q fun s =>
    let s := s.tqEmpty q (s.get (F.STL_TQ_STAT_OCC q))
    s.setTq q { s.tq q with flushAt := some s.fieldClock })

/-- `TQ_WATERMARK_WRITE` (R374). -/
def execTqWatermarkWrite (q : TqIx) (high low : BitVec 7) (s : State) : Host.Outcome State Fault Refusal :=
  .next (s.ifReach .STL_TQ_CFG q fun s => s.tqWatermarks q high.toNat low.toNat)

/-- `TQ_COPY_MISMATCH` (R375): the comparison finds these copies. -/
def execTqCopyMismatch (q : TqIx) (occ1 occ2 : BitVec 7) (wr1 wr2 : BitVec 6) (s : State) : Host.Outcome State Fault Refusal :=
  .next (s.ifStile fun s => s.tqCompare q occ1.toNat occ2.toNat wr1.toNat wr2.toNat)

/-- `FIN_STAT_CLR`: OVR_CNT and SUPP_CNT. -/
def execFinStatClr (i : FinIx) (s : State) : Host.Outcome State Fault Refusal :=
  .next (s.ifReach .STL_FIN_STAT i fun s =>
    ((s.set (F.STL_FIN_STAT_OVR_CNT i) 0).set (F.STL_FIN_STAT_SUPP_CNT i) 0).setFin i { s.fin i with clrAt := some s.fieldClock })

/-- `ENC_CLR`: ERR_CNT. -/
def execEncClr (e : EncIx) (s : State) : Host.Outcome State Fault Refusal :=
  .next (s.ifReach .STL_ENC_CFG e fun s =>
    (s.set (F.STL_ENC_CFG_ERR_CNT e) 0).setEnc e { s.enc e with clrAt := some s.fieldClock })

/-- `TQ_CNT_CLR`: OVF_CNT, DUP_CNT and LOST_CNT. -/
def execTqCntClr (q : TqIx) (s : State) : Host.Outcome State Fault Refusal :=
  .next (s.ifReach .STL_TQ_CNT q fun s =>
    (((s.set (F.STL_TQ_CNT_OVF_CNT q) 0).set (F.STL_TQ_CNT_DUP_CNT q) 0).set (F.STL_TQ_CNT_LOST_CNT q) 0).setTq q
      { s.tq q with clrAt := some s.fieldClock })

end Sys2Proof.Machine
end

