-- ==== Sys2Proof/Machine/Verify.lean ====
section
/-! DEFINITION. What the flash holds (R436 to R438) and how it is verified (R461 to R465): certificates, record banks and
firmware slots. Log entries: 20, 36. -/

namespace Sys2Proof.Machine
open Sys2Proof

/-! ### The flash (R436) -/

def bankAt (i : Nat) : Nat := i * 0x200000
def bankRoom : Nat := 0x200000
def slotAt (i : Nat) : Nat := 0x400000 + i * 0x1000000
def helperAt : Nat := 0x2440000
def packageAt : Nat := 0x2450000

/-- The first address behind the flash. Log entry 20 (DESIGN CHOICE and DEDUCED). -/
def flashEnd : Nat := max 0x4000000 Config.flashBytes

/-! ### Certificates (R461, R462) -/

def rootDigest : List Byte := (List.range 32).map Config.rootByte

/-- A copy of the root key is the Yunakor key (R461). -/
def rootGood (root : List Byte) : Bool := sha3 root == rootDigest

/-- The KEY of a certificate. -/
def certKey (cert : List Byte) : List Byte := (cert.drop 0x30).take 1312

/-- A certificate is valid for a role (R462). Log entry 36 (PRESUMED). -/
def certGood (root : List Byte) (role : Nat) (cert : List Byte) : Bool :=
  leNat (cert.take 4) == 0x54434C4F && leNat ((cert.drop 4).take 2) == 1 && leNat ((cert.drop 6).take 1) == role &&
    mldsaVerify root (sha3 (cert.take 0x550)) (cert.drop 0x550)

/-! ### Record banks (R437, R464) -/

/-- A verified record bank: SEQ, WDOG, its bytes before the signature, their digest and the integrator certificate. -/
structure BankInfo where
  seq : Nat
  wdog : Nat
  body : List Byte
  digest : List Byte
  cert : List Byte
  deriving DecidableEq, Repr

/-- Record bank `i`, if it verifies. Log entry 20 (DESIGN CHOICE and DEDUCED). -/
def State.bank (s : State) (i : Nat) : Option BankInfo :=
  let h := s.flashBytes (bankAt i) 64
  let f := fun n => (Config.bankField n h).toNat
  let len := f 3
  if f 0 ≠ 0x4B4E4142 ∨ f 1 ≠ 1 ∨ f 4 < 1 ∨ 60 < f 4 ∨ len < 64 ∨ bankRoom < len + 7512 then none
  else
    let body := s.flashBytes (bankAt i) len
    let root := s.flashBytes (bankAt i + len + 2420) 1312
    let cert := s.flashBytes (bankAt i + len + 3732) 3780
    let digest := sha3 body
    if rootGood root && certGood root 1 cert && mldsaVerify (certKey cert) digest (s.flashBytes (bankAt i + len) 2420)
    then some { seq := f 2, wdog := f 4, body := body, digest := digest, cert := cert } else none

/-- The bank that a start uses: the valid one with the higher SEQ, bank 0 of two equal ones. -/
def State.bestBank (s : State) : Option (Nat × BankInfo) :=
  match s.bank 0, s.bank 1 with
  | some a, some b => if a.seq < b.seq then some (1, b) else some (0, a)
  | some a, none => some (0, a)
  | none, some b => some (1, b)
  | none, none => none

/-! ### Firmware slots (R449, R465) -/

/-- A verified firmware slot: VERSION, the digest under its signature, its firmware and test-pattern certificates. -/
structure SlotInfo where
  version : Nat
  digest : List Byte
  fw : List Byte
  tp : List Byte
  deriving DecidableEq, Repr

/-- Firmware slot `i`, if it verifies. -/
def State.slotInfo (s : State) (i : Nat) : Option SlotInfo :=
  let h := s.flashBytes (slotAt i) 64
  let f := fun o n => leNat ((h.drop o).take n)
  let len := f 8 4
  if f 0 4 ≠ 0x57464C4F ∨ f 4 2 ≠ 1 ∨ len < 1 ∨ 16762508 < len then none
  else
    let root := s.flashBytes (slotAt i + 0x40) 1312
    let fw := s.flashBytes (slotAt i + 0x560) 3780
    let tp := s.flashBytes (slotAt i + 0x1424) 3780
    let digest := sha3 (s.flashBytes (slotAt i) (0x3000 + len))
    if rootGood root && certGood root 2 fw && certGood root 3 tp &&
        mldsaVerify (certKey fw) digest (s.flashBytes (slotAt i + 0x3000 + len) 2420)
    then some { version := f 6 2, digest := digest, fw := fw, tp := tp } else none

/-- The slot that a start with counter `c` runs (R449): the preferred one first for an odd `c`, the other first for an even
one; none where neither verifies. -/
def State.pickSlot (s : State) (c : Nat) : Option (Nat × SlotInfo) :=
  match s.slotInfo 0, s.slotInfo 1 with
  | some a, some b =>
    if (decide (a.version < b.version)) == (c % 2 == 1) then some (1, b) else some (0, a)
  | some a, none => some (0, a)
  | none, some b => some (1, b)
  | none, none => none

/-! ### Records (R438) -/

/-- A record: TYPE, OPTIONAL, and its body. -/
structure BootRec where
  ty : Nat
  optional : Bool
  body : List Byte
  deriving DecidableEq, Repr

/-- The records of a bank, in bank order; `fuel` bounds their number. -/
def parseRecords : Nat → List Byte → List BootRec
  | 0, _ => []
  | fuel + 1, bs =>
    if bs.length < 8 then []
    else
      let len := leNat ((bs.drop 4).take 4)
      { ty := leNat (bs.take 2), optional := bitOf (leNat ((bs.drop 2).take 2)) 0, body := (bs.drop 8).take len } ::
        parseRecords fuel (bs.drop (8 + (len + 7) / 8 * 8))

/-- A body cut into entries of `n` bytes; a rest that is shorter is dropped. -/
def cutEvery (n : Nat) (bs : List Byte) : List (List Byte) := (List.range (bs.length / n)).map fun i => (bs.drop (i * n)).take n

/-- A body as 32-bit words, and as pairs of BAR0 offset and value. -/
def words32 (bs : List Byte) : List Nat := (cutEvery 4 bs).map leNat
def pairsOf (bs : List Byte) : List (Nat × Nat) := (cutEvery 8 bs).map fun e => (leNat (e.take 4), leNat (e.drop 4))

end Sys2Proof.Machine
end

