-- ==== Sys2Proof/Machine/Service.lean ====
section
/-! DEFINITION. Resets and rails (R431, R432, R494, R495), the service level (R453), channels drained, reinitialised and
offline (R455 to R458), firmware switch-over (R459) and the recovery mailbox (R460). Log entries: 18, 19, 21, 22, 23, 24, 25. -/

namespace Sys2Proof.Machine
open Sys2Proof

/-! ### Rails and resets -/

/-- The standby rail rises (R431, R494): everything is at reset; the flash, and what waits outside, stay, and the start after a trip
still passes the gates of R410. Log entry 22 (DEDUCED). -/
def State.standby (s : State) (up : Bool) : State :=
  { State.reset with
    pending := s.pending, free := s.free, out := s.out, nextJob := s.nextJob, flash := s.flash
    heather := { mayRise := up, tripped := s.heather.tripped } }

/-- Heather island drives MAIN_EN high (R494, step 2). Log entry 22 (DEDUCED). -/
def State.mainUp (s : State) : State :=
  if s.heather.phase = .railsDown ∧ s.heather.mayRise then
    { s with heather := { s.heather with phase := .rising, mayRise := false, mainEn := true, mainGood := false } }
  else s

/-- MAIN_GOOD has not come: MAIN_EN falls and rises again after 100 ms (R494). Log entry 22 (DEDUCED). -/
def State.mainLate (s : State) : State :=
  if s.heather.phase = .rising ∧ s.heather.mainGood = false then
    { s with heather := { s.heather with phase := .railsDown, mayRise := true, mainEn := false } }
  else s

/-- MAIN_GOOD falls while MAIN_EN is high (R495). Log entry 22 (DEDUCED). -/
def State.mainLost (s : State) : State :=
  if s.heather.mainEn then
    let s := (s.fieldSafe 1).railsOff .railsDown true
    ({ s with heather := { s.heather with cause := 1 } }).set F.PWR_STATUS_STATE 0
  else s

/-- RST_N low for 1 µs (R431). Before a start has begun since the rails came up, there is nothing yet to reset (R494); in Off after a
trip it is one of the ways to a start (R410). Log entry 22 (DEDUCED). -/
def State.rstLow (s : State) : State :=
  let s := match s.heather.phase with
    | .railsDown =>
      if s.heather.tripped && s.get F.PWR_STATUS_STATE == 4 then
        { s with heather := { s.heather with mayRise := true, cause := 1 } }
      else s
    | .rising => s
    | .held => s.chipReset 1 .held
    | .release => s.chipReset 1 .held
    | .starting => s.chipReset 1 .held
    | .on => s.chipReset 1 .held
  { s with heather := { s.heather with rstLow := true } }

/-- An internal reset ends a start that has not reported ready within WDOG seconds of stage 1 (R448); the stage that it had reached is
kept. Device time has counted since at most 1 ms after stage 1 (R433). Log entry 23 (DEDUCED). -/
def State.watchdog (s : State) : State :=
  if s.heather.phase = .starting ∧ s.heather.wdog * 1000000000 ≤ s.time + 1000000 then
    ({ s with heather := { s.heather with lastStage := s.get F.BOOT_STATUS_STAGE } }).chipReset 2 .release
  else s

/-- PCI_LINK as the link trains. -/
def State.linkIs (s : State) (link : Option (BitVec 3 × BitVec 5 × Bool)) : State :=
  match link with
  | some (sp, w, fl) => ((s.set F.PCI_LINK_SPEED sp.toNat).set F.PCI_LINK_WIDTH w.toNat).set F.PCI_LINK_FLIT (natOf fl)
  | none => ((s.set F.PCI_LINK_SPEED 0).set F.PCI_LINK_WIDTH 0).set F.PCI_LINK_FLIT 0

/-- PERST_N low (R431): the PCIe domain alone is reset, and the link retrains. -/
def State.perst (s : State) (link : Option (BitVec 3 × BitVec 5 × Bool)) : State :=
  if s.powered .pcie then (Domain.forget .pcie (s.resetDomainRegs .pcie)).linkIs link else s

/-! ### The service level (R453) -/

/-- A Tussock that a current placement names is not in SERVICE. -/
def State.tskMissing (s : State) : Bool :=
  (List.range 64).any fun c => s.on (F.GLB_CTX_STATE_STATE c) && match s.image (s.get (F.GLB_CTX_PTR_PTR c)) with
    | some i => i.resident.any fun p => s.tskState p.2.tsk != tSERVICE
    | none => false

/-- GLB_LEVEL from its conditions; a change of level signals vector 44. Log entry 19 (DESIGN CHOICE). -/
def State.level (s : State) : State :=
  if !s.powered .spine || !s.serving then s
  else
    let conds : List (Fld × Bool) :=
      [(F.GLB_LEVEL_TSK, s.tskMissing),
       (F.GLB_LEVEL_IN_PLACE, (List.range 256).any fun g => s.on (F.BRK_STATUS_IN_PLACE g)),
       (F.GLB_LEVEL_CHANNEL, s.on F.GLB_CHN_STATUS_DRAINED || s.on F.GLB_CHN_STATUS_REINIT_BUSY || s.on F.GLB_CHN_STATUS_OFFLINE),
       (F.GLB_LEVEL_QUARTER, s.on F.PWR_QUARTER_OFF_OFF || !s.heather.dark.isEmpty),
       (F.GLB_LEVEL_LEA, (List.range 4).any fun p => s.powered .lea && s.leaState p == lpFAULT),
       (F.GLB_LEVEL_PKG, s.boot.pkgRejected)]
    let new := if s.on F.GLB_FALLOW_REASON_FALLOW then 2 else if conds.any fun c => c.2 then 1 else 0
    let old := s.get F.GLB_LEVEL_LEVEL
    let s := conds.foldl (fun (s : State) (c : Fld × Bool) => s.set c.1 (natOf c.2)) s
    let s := s.set F.GLB_LEVEL_LEVEL new
    if new = old then s else s.signal 44

/-! ### Channels (R455 to R458) -/

/-- A job holds a reservation in channel `n`. -/
def Job.holdsIn (j : Job) (n : Nat) : Bool :=
  (j.chan == n && !j.tags.isEmpty) || (j.units.any fun u => u.chan == n) || j.placed.any fun p => chanOf p.g == n

/-- Nothing of channel `n` is left over: no tag, no share, and no pending token of its jobs (R455). Log entry 25 (DEDUCED). -/
def State.chanEmpty (s : State) (n : Nat) : Bool :=
  !s.jobs.any fun j => j.holdsIn n || (j.chan == n && j.stage == .provisional)

/-- A write of 1 to the DRAIN bit, and of 0 (R455). -/
def State.drain (s : State) (n : Nat) : State := s.setBit F.GLB_CHN_CTRL_DRAIN n
/-- A write of 0 to a DRAIN bit (R455). Log entry 25 (DEDUCED). -/
def State.reopen (s : State) (n : Nat) : State := ((s.clrBit F.GLB_CHN_CTRL_DRAIN n).clrBit F.GLB_CHN_STATUS_DRAINED n).level

/-- The channel is found drained (R455). Log entry 25 (DEDUCED). -/
def State.drained (s : State) (n : Nat) : State :=
  if s.on F.BOOT_STATUS_READY && bitOf (s.get F.GLB_CHN_CTRL_DRAIN) n && !bitOf (s.get F.GLB_CHN_STATUS_DRAINED) n &&
      ((s.chan n).drain || !s.powered (.core n)) && s.chanEmpty n then
    ((s.setBit F.GLB_CHN_STATUS_DRAINED n).signal (20 + n)).level
  else s

/-- A write of REINIT bit `n` (R456). -/
def State.reinit (s : State) (n : Nat) : State :=
  if bitOf (s.get F.GLB_CHN_STATUS_DRAINED) n && !bitOf (s.get F.GLB_CHN_STATUS_REINIT_BUSY) n then
    ((s.setBit F.GLB_CHN_STATUS_REINIT_BUSY n).domainsOff (chanDomains n).reverse).level
  else s

/-- The domains of channel `n` come on; a quarter that is off under R430 or R410 stays off. -/
def State.chanOn (s : State) (n : Nat) : State :=
  s.domainsOn ([.core n, .stack n] ++ ((List.range 4).filterMap fun i =>
    let q := 4 * n + i
    if bitOf (s.get F.PWR_QUARTER_OFF_OFF) q || s.heather.dark.contains q then none else some (.quarter q)))

/-- Channel `n` goes offline (R457, R458). Log entry 25 (DEDUCED). -/
def State.offline (s : State) (n : Nat) : State :=
  let jobs := s.jobs.filter fun j => j.holdsIn n
  let s := (s.setBit F.GLB_CHN_STATUS_OFFLINE n).setBit F.GLB_CHN_STATUS_STACK_FAIL n
  let s := jobs.foldl (fun (s : State) (j : Job) =>
    match j.stage with
    | .provisional => s.token j.id false
    | .running =>
      let s := s.jobFail j.id 0x15 j.errCmd n
      if j.chan = n then (match s.job j.id with
        | some j => s.finalRecord j
        | none => s) else s) s
  let s := s.domainsOff (chanDomains n).reverse
  let s := if s.powered .lea then (s.leaTo n lpDISABLED).updLea n fun _ => {} else s
  ((s.glbErr 4).signal 45).level

/-- A REINIT ends (R456, R457). -/
def State.reinitDone (s : State) (n : Nat) (ok : Bool) : State :=
  if !bitOf (s.get F.GLB_CHN_STATUS_REINIT_BUSY) n then s
  else
    let s := s.clrBit F.GLB_CHN_STATUS_REINIT_BUSY n
    if ok then
      let s := s.chanOn n
      (if bitOf (s.get F.GLB_CHN_STATUS_OFFLINE) n then (s.clrBit F.GLB_CHN_STATUS_OFFLINE n).stackFill n else s).level
    else s.offline n

/-! ### Firmware switch-over (R459) -/

/-- What the running slot leaves to measure and to verify with (R463, R472). -/
def State.runSlot (s : State) (i : Nat) (x : SlotInfo) : State :=
  let s := (s.set F.BOOT_STATUS_SLOT i).set F.SEC_STATUS_TP_KEY 1
  { s with
    testKey := certKey x.tp
    boot := { s.boot with
      mFw := x.digest, version := x.version
      certs := (s.boot.certs.filter fun c => c.1 == 0) ++ [(1, x.fw), (2, x.tp)] } }

/-- A write of BOOT_CTRL.SWITCH. Log entry 25 (DEDUCED). -/
def State.fwSwitch (s : State) : State :=
  let other := 1 - s.get F.BOOT_STATUS_SLOT
  if s.on F.BOOT_STATUS_READY && s.boot.switch.isNone && (s.slotInfo other).isSome then
    let s := (s.set F.BOOT_STATUS_SWITCH_BUSY 1).set F.BOOT_SP_STATUS_PAUSED 1
    { s with boot := { s.boot with switch := some (s.time, other) } }
  else s

/-- The switch-over is over. -/
def State.switchEnd (s : State) : State :=
  let s := (s.set F.BOOT_STATUS_SWITCH_BUSY 0).set F.BOOT_SP_STATUS_PAUSED 0
  { s with boot := { s.boot with switch := none } }

/-- The new firmware resumes the bindings, within 1 s. -/
def State.switchDone (s : State) : State :=
  match s.boot.switch with
  | some (t, i) =>
    match s.slotInfo i with
    | some x => if s.time ≤ t + 1000000000 then ((s.switchEnd.runSlot i x).set F.BOOT_STATUS_SWITCH_DONE 1).signal 44 else s
    | none => s
  | none => s

/-- The switch-over has taken more than 1 s: the old slot restarts, or the device makes an internal reset. Log entry 25 (DEDUCED). -/
def State.switchLate (s : State) (oldOk : Bool) : State :=
  match s.boot.switch with
  | some (t, _) =>
    if t + 1000000000 < s.time then
      if oldOk then s.switchEnd.set F.BOOT_STATUS_SWITCH_FAIL 1 else s.chipReset 5 .release
    else s
  | none => s

/-! ### Mailboxes -/

/-- The words of a mailbox buffer as bytes, and bytes laid over it from its first word on. -/
def State.bufGet (s : State) (f : Nat → Fld) (n : Nat) : List Byte := (List.range n).flatMap fun i => leBytes 4 (s.get (f i))
def State.bufPut (s : State) (f : Nat → Fld) (bs : List Byte) : State :=
  (words32 (bs ++ List.replicate ((4 - bs.length % 4) % 4) 0)).zipIdx.foldl (fun (s : State) x => s.set (f x.2) x.1) s

/-- Restart in Fallow mode with reason HOST (R450). Log entry 21 (DEDUCED). -/
def State.hostFallow (s : State) : State := ({ s with heather := { s.heather with fallow := 6 } }).chipReset 4 .release

/-- The device is in Run or Idle; Fallow mode is Run (R460). -/
def State.mboxWorks (s : State) : Bool := decide (s.get F.PWR_STATUS_STATE ≤ 1)

/-- A command of the recovery mailbox: dropped while BUSY, else begun with the RESULT that it will have. Log entry 24 (DESIGN CHOICE). -/
def State.mboxBegin (s : State) (cmd result : Nat) (act : State → State) : State :=
  if !s.mboxWorks then s
  else if s.on F.BOOT_MBOX_STATUS_BUSY then s.set F.BOOT_MBOX_STATUS_REJECT 1
  else
    let s := (act s).set F.BOOT_MBOX_STATUS_BUSY 1
    { s with boot := { s.boot with mbox := some ⟨cmd, result, s.time⟩ } }

def State.mboxAddr (s : State) : Nat := s.get F.BOOT_MBOX_ARG_ADDR
def State.mboxFlag (s : State) : Nat := s.get F.BOOT_MBOX_ARG_FLAG

/-- Two ranges of flash addresses meet. -/
def meets (a n b m : Nat) : Bool := decide (a < b + m ∧ b < a + n)

/-- A write of `n` bytes at `a` is refused (R460). Log entry 24 (DESIGN CHOICE). -/
def State.flashRefused (s : State) (a n : Nat) : Bool :=
  meets a n journalBase (journalSlots * 64) ||
    (!s.on F.GLB_FALLOW_REASON_FALLOW &&
      (meets a n (slotAt (s.get F.BOOT_STATUS_SLOT)) 0x1000000 || meets a n (bankAt (s.get F.BOOT_STATUS_BANK)) bankRoom))

/-- A change of `n` bytes of the flash: refused, outside the flash, failed with contents that nothing states, or done. Log entry 24 (DESIGN CHOICE). -/
def State.flashChange (s : State) (cmd a n : Nat) (ok : Bool) (bs : List Byte) : State :=
  if s.flashRefused a n then s.mboxBegin cmd 1 id
  else if flashEnd < a + n then s.mboxBegin cmd 2 id
  else if ok then s.mboxBegin cmd 0 fun s => s.flashPut a bs
  else s.mboxBegin cmd 2 fun s => (s.flashPut a (leBytes n (s.freeVal (8 * n)))).draw

/-- READ, ERASE and PROGRAM (R460). -/
def State.mboxRead (s : State) (ok : Bool) : State :=
  let a := s.mboxAddr
  if ok && decide (a + 4096 ≤ flashEnd) then
    s.mboxBegin 1 0 fun s => s.bufPut (fun i => F.BOOT_MBOX_BUF_DATA i) (s.flashBytes a 4096)
  else s.mboxBegin 1 2 id

/-- `ERASE`: the 64 KiB sector at ADDR (R460). Log entry 24 (DESIGN CHOICE). -/
def State.mboxErase (s : State) (ok : Bool) : State :=
  s.flashChange 2 (s.mboxAddr / 65536 * 65536) 65536 ok (List.replicate 65536 0xFF)

/-- `PROGRAM`: the buffer to ADDR (R460). Log entry 24 (DESIGN CHOICE). -/
def State.mboxProgram (s : State) (ok : Bool) : State :=
  if s.mboxAddr % 4096 ≠ 0 then s.mboxBegin 3 1 id
  else s.flashChange 3 s.mboxAddr 4096 ok (s.bufGet (fun i => F.BOOT_MBOX_BUF_DATA i) 1024)

/-- RESULT of VERIFY_SLOT and VERIFY_BANK. -/
def verifyResult (ok good : Bool) : Nat := if !ok then 2 else if good then 0 else 3

/-- REBOOT (R460). -/
def State.mboxReboot (s : State) : State :=
  if !s.mboxWorks then s
  else if s.on F.BOOT_MBOX_STATUS_BUSY then s.set F.BOOT_MBOX_STATUS_REJECT 1
  else if s.mboxFlag = 1 then ({ s with heather := { s.heather with count := 0, fallow := 0 } }).chipReset 3 .release
  else s.chipReset 3 .release

/-- FALLOW (R460). Log entry 21 (DEDUCED). -/
def State.mboxFallow (s : State) : State :=
  if !s.mboxWorks then s
  else if s.on F.BOOT_MBOX_STATUS_BUSY then s.set F.BOOT_MBOX_STATUS_REJECT 1 else s.hostFallow

/-- The command that runs completes. Log entry 24 (DESIGN CHOICE). -/
def State.mboxDone (s : State) : State :=
  match s.boot.mbox with
  | some x =>
    let s := ((s.set F.BOOT_MBOX_STATUS_BUSY 0).set F.BOOT_MBOX_STATUS_DONE 1).set F.BOOT_MBOX_STATUS_RESULT x.result
    ({ s with boot := { s.boot with mbox := none } }).signal 44
  | none => s

/-! ### The commands -/

/-- `STANDBY_RAIL_UP` (R431, R494). -/
def execStandbyRailUp (s : State) : Host.Outcome State Fault Refusal := .next (s.standby true)

/-- `STANDBY_RAIL_LOSS` (R495). -/
def execStandbyRailLoss (s : State) : Host.Outcome State Fault Refusal := .next (s.standby false)

/-- `MAIN_ENABLE` (R494). Log entry 18 (DESIGN CHOICE). -/
def execMainEnable (s : State) : Host.Outcome State Fault Refusal := .next s.mainUp

/-- `MAIN_GOOD_TIMEOUT` (R494). -/
def execMainGoodTimeout (s : State) : Host.Outcome State Fault Refusal := .next s.mainLate

/-- `MAIN_GOOD_FALL` (R495). -/
def execMainGoodFall (s : State) : Host.Outcome State Fault Refusal := .next s.mainLost

/-- `RST_N_LOW` (R431, R432). -/
def execRstNLow (s : State) : Host.Outcome State Fault Refusal := .next s.rstLow

/-- `START_WATCHDOG` (R448). -/
def execStartWatchdog (s : State) : Host.Outcome State Fault Refusal := .next s.watchdog

/-- `PERST` (R431). -/
def execPerst (link : Option (BitVec 3 × BitVec 5 × Bool)) (s : State) : Host.Outcome State Fault Refusal := .next (s.perst link)

/-- `DRAIN` (R455). -/
def execDrain (n : Chn) (s : State) : Host.Outcome State Fault Refusal := .next (s.ifReach .GLB_CHN_CTRL 0 fun s => s.drain n)

/-- `REOPEN` (R455). -/
def execReopen (n : Chn) (s : State) : Host.Outcome State Fault Refusal := .next (s.ifReach .GLB_CHN_CTRL 0 fun s => s.reopen n)

/-- `DRAINED` (R455). -/
def execDrained (n : Chn) (s : State) : Host.Outcome State Fault Refusal := .next (s.drained n)

/-- `REINIT` (R456). -/
def execReinit (n : Chn) (s : State) : Host.Outcome State Fault Refusal := .next (s.ifReach .GLB_CHN_CTRL 0 fun s => s.reinit n)

/-- `REINIT_DONE` (R456). -/
def execReinitDone (n : Chn) (ok : Bool) (s : State) : Host.Outcome State Fault Refusal := .next (s.reinitDone n ok)

/-- `STACK_FAIL` (R457): of a stack whose interface is on. -/
def execStackFail (n : Chn) (s : State) : Host.Outcome State Fault Refusal :=
  .next (if s.powered (.stack n) then s.offline n else s)

/-- `FW_SWITCH` (R459). -/
def execFwSwitch (s : State) : Host.Outcome State Fault Refusal := .next (s.ifReach .BOOT_CTRL 0 State.fwSwitch)

/-- `FW_SWITCH_DONE` (R459). -/
def execFwSwitchDone (s : State) : Host.Outcome State Fault Refusal := .next s.switchDone

/-- `FW_SWITCH_TIMEOUT` (R459). -/
def execFwSwitchTimeout (oldOk : Bool) (s : State) : Host.Outcome State Fault Refusal := .next (s.switchLate oldOk)

/-- `BOOT_FALLOW` (R450). -/
def execBootFallow (s : State) : Host.Outcome State Fault Refusal := .next (s.ifReach .BOOT_CTRL 0 State.hostFallow)

/-- `MBOX_READ` (R460). -/
def execMboxRead (ok : Bool) (s : State) : Host.Outcome State Fault Refusal :=
  .next (s.ifReach .BOOT_MBOX_CMD 0 fun s => s.mboxRead ok)

/-- `ERASE` (R460). -/
def execErase (ok : Bool) (s : State) : Host.Outcome State Fault Refusal :=
  .next (s.ifReach .BOOT_MBOX_CMD 0 fun s => s.mboxErase ok)

/-- `PROGRAM` (R460). -/
def execProgram (ok : Bool) (s : State) : Host.Outcome State Fault Refusal :=
  .next (s.ifReach .BOOT_MBOX_CMD 0 fun s => s.mboxProgram ok)

/-- `VERIFY_SLOT` (R460, R465). -/
def execVerifySlot (ok : Bool) (s : State) : Host.Outcome State Fault Refusal :=
  .next (s.ifReach .BOOT_MBOX_CMD 0 fun s => s.mboxBegin 4 (verifyResult ok (s.slotInfo s.mboxFlag).isSome) id)

/-- `VERIFY_BANK` (R460, R464). -/
def execVerifyBank (ok : Bool) (s : State) : Host.Outcome State Fault Refusal :=
  .next (s.ifReach .BOOT_MBOX_CMD 0 fun s => s.mboxBegin 5 (verifyResult ok (s.bank s.mboxFlag).isSome) id)

/-- `REBOOT` (R452, R460). -/
def execReboot (s : State) : Host.Outcome State Fault Refusal := .next (s.ifReach .BOOT_MBOX_CMD 0 State.mboxReboot)

/-- `MBOX_FALLOW` (R460). -/
def execMboxFallow (s : State) : Host.Outcome State Fault Refusal := .next (s.ifReach .BOOT_MBOX_CMD 0 State.mboxFallow)

/-- `MBOX_RESERVED` (R460). -/
def execMboxReserved (cmd : BitVec 8) (s : State) : Host.Outcome State Fault Refusal :=
  .next (s.ifReach .BOOT_MBOX_CMD 0 fun s => s.mboxBegin cmd.toNat 4 id)

/-- `BOOT_MBOX_DONE` (R460). -/
def execBootMboxDone (s : State) : Host.Outcome State Fault Refusal := .next s.mboxDone

/-- `SP_CLR`: BOOT_SP_STATUS.DROP_CNT. -/
def execSpClr (s : State) : Host.Outcome State Fault Refusal :=
  .next (s.ifReach .BOOT_SP_STATUS 0 fun s => s.set F.BOOT_SP_STATUS_DROP_CNT 0)

end Sys2Proof.Machine
end

