-- ==== Sys2Proof/Machine/Security.lean ====
section
/-! DEFINITION. The security mailbox (R473, R474), the attestation report (R475) and enrolment (R470). Log entries: 24, 26. -/

namespace Sys2Proof.Machine
open Sys2Proof

/-- A command of the security mailbox: dropped while BUSY, and while the security engine is stopped for a power state, else begun with its RESULT. -/
def State.secBegin (s : State) (cmd result : Nat) (act : State → State) : State :=
  if s.on F.SEC_MBOX_STATUS_BUSY || s.stopped 0x51 then s.set F.SEC_MBOX_STATUS_REJECT 1
  else
    let s := (act s).set F.SEC_MBOX_STATUS_BUSY 1
    { s with boot := { s.boot with sec := some ⟨cmd, result, s.time⟩ } }

/-- The security mailbox buffer laid over with bytes. -/
def State.secPut (s : State) (bs : List Byte) : State := s.bufPut (fun i => F.SEC_MBOX_BUF_DATA i) bs

/-- DEVICE_ID (R469). -/
def deviceId (key : List Byte) : List Byte := (sha3 key).take 16

/-- GET_ID. -/
def State.getId (s : State) : State :=
  match s.boot.ident with
  | some key => s.secBegin 1 0 fun s => s.secPut (deviceId key ++ key)
  | none => s.secBegin 1 2 id

/-- ATTEST: the nonce is kept; the snapshot follows at the next boundary. -/
def State.attest (s : State) : State :=
  match s.boot.ident with
  | some _ => s.secBegin 2 0 fun s =>
      { s with boot := { s.boot with nonce := s.bufGet (fun i => F.SEC_MBOX_BUF_DATA i) 8, snapped := false } }
  | none => s.secBegin 2 2 id

/-- A measurement as 32 bytes: zeros where nothing was accepted (R472). Log entry 26 (DESIGN CHOICE). -/
def measure (bs : List Byte) : List Byte := bs ++ List.replicate (32 - bs.length) 0

/-- The report's entry of a context: its current image, or open values where an unload has left none. Log entry 26 (DESIGN CHOICE). -/
def State.reportEntry (s : State) (c : Nat) : List Byte :=
  let entry (tid : Nat) (key : Nat) (digest : List Byte) : List Byte :=
    leBytes 1 c ++ leBytes 1 (s.get (F.GLB_CTX_STATE_STATE c)) ++ leBytes 2 tid ++ leBytes 2 (s.get (F.GLB_CTX_STATE_VERSION c)) ++
      leBytes 1 key ++ [0] ++ digest
  match s.image (s.get (F.GLB_CTX_PTR_PTR c)) with
  | some i => entry i.tid i.key (measure i.digest)
  | none =>
    let x := (Config.freeValue 264 (s.free + c)).toNat
    entry (s.get (F.GLB_CTX_TID_CUR_TID c)) x (leBytes 32 (x / 256))

/-- The attestation report (R475). Log entry 26 (DESIGN CHOICE). -/
def State.attestReport (s : State) (key : List Byte) : List Byte :=
  let cs := (List.range 64).filter fun c => s.on (F.GLB_CTX_STATE_STATE c)
  leBytes 4 0x54414C4F ++ leBytes 2 1 ++ leBytes 1 cs.length ++
    leBytes 1 (s.get F.GLB_FALLOW_REASON_FALLOW + 2 * s.get F.GLB_FALLOW_REASON_REASON) ++ deviceId key ++ s.boot.nonce ++
    leBytes 8 (s.swath * 8192) ++ leBytes 2 0xA1 ++ leBytes 2 s.boot.version ++ leBytes 4 s.boot.seq ++
    leBytes 1 (s.get F.BOOT_STATUS_SLOT + 2 * s.get F.BOOT_STATUS_BANK + 4 * s.get F.GLB_LEVEL_LEVEL) ++ List.replicate 7 0 ++
    (List.range 32).map Config.romByte ++ measure s.boot.mFw ++ measure s.boot.mBank ++ measure s.boot.mInteg ++
    cs.flatMap s.reportEntry

/-- The snapshot of the ATTEST that runs, at a boundary after it; the signature follows the report at once. Log entry 26 (DESIGN CHOICE). -/
def State.attestSnapshot (s : State) : State :=
  match s.boot.sec, s.boot.ident with
  | some x, some key =>
    if x.cmd = 2 ∧ x.result = 0 ∧ s.boot.snapped = false ∧ x.since < s.swath * 8192 then
      let r := s.attestReport key
      let digest := sha3 r
      let s := s.secPut (r ++ (List.range 2420).map (Config.identitySign key digest))
      { s with free := s.free + 64, boot := { s.boot with snapped := true } }
    else s
  | _, _ => s

/-- GET_CERT. -/
def State.getCert (s : State) : State :=
  match s.boot.certs.find? fun c => c.1 == s.get F.SEC_MBOX_ARG_INDEX with
  | some (_, cert) => s.secBegin 3 0 fun s => s.secPut cert
  | none => s.secBegin 3 1 id

/-- ENROLL (R470). -/
def State.enroll (s : State) (helper : List Byte) : State :=
  if s.on F.GLB_FALLOW_REASON_FALLOW && s.get F.GLB_FALLOW_REASON_REASON == 3 then
    s.secBegin 4 0 fun s => s.flashPut helperAt (helper.take 65536)
  else s.secBegin 4 1 id

/-- The command that runs completes; an ATTEST only with its report. Log entry 24 (DESIGN CHOICE). -/
def State.secDone (s : State) : State :=
  match s.boot.sec with
  | some x =>
    if x.cmd = 2 ∧ x.result = 0 ∧ s.boot.snapped = false then s
    else
      let s := ((s.set F.SEC_MBOX_STATUS_BUSY 0).set F.SEC_MBOX_STATUS_DONE 1).set F.SEC_MBOX_STATUS_RESULT x.result
      ({ s with boot := { s.boot with sec := none } }).signal 43
  | none => s

/-- `GET_ID` (R473). -/
def execGetId (s : State) : Host.Outcome State Fault Refusal := .next (s.ifReach .SEC_MBOX_CMD 0 State.getId)

/-- `ATTEST` (R473, R475). -/
def execAttest (s : State) : Host.Outcome State Fault Refusal := .next (s.ifReach .SEC_MBOX_CMD 0 State.attest)

/-- `ATTEST_SNAPSHOT` (R475). -/
def execAttestSnapshot (s : State) : Host.Outcome State Fault Refusal := .next s.attestSnapshot

/-- `GET_CERT` (R473). -/
def execGetCert (s : State) : Host.Outcome State Fault Refusal := .next (s.ifReach .SEC_MBOX_CMD 0 State.getCert)

/-- `ENROLL` (R470, R473). -/
def execEnroll (helper : List Byte) (s : State) : Host.Outcome State Fault Refusal :=
  .next (s.ifReach .SEC_MBOX_CMD 0 fun s => s.enroll helper)

/-- `SEC_RESERVED` (R473). -/
def execSecReserved (cmd : BitVec 8) (s : State) : Host.Outcome State Fault Refusal :=
  .next (s.ifReach .SEC_MBOX_CMD 0 fun s => s.secBegin cmd.toNat 3 id)

/-- `SEC_MBOX_DONE` (R473). -/
def execSecMboxDone (s : State) : Host.Outcome State Fault Refusal := .next s.secDone

/-- `SEC_CLR_CNT`: SEC_VERIFY_CNT. -/
def execSecClrCnt (s : State) : Host.Outcome State Fault Refusal :=
  .next (s.ifReach .SEC_CTRL 0 fun s => (s.set F.SEC_VERIFY_CNT_PASS_CNT 0).set F.SEC_VERIFY_CNT_FAIL_CNT 0)

end Sys2Proof.Machine
end

