-- ==== Sys2Proof/Machine/Pins.lean ====
section
/-! DEFINITION. The pin-function registers (R503) and the test access port (R501, R502). Log entries: 22, 28. -/

namespace Sys2Proof.Machine
open Sys2Proof

/-- The register and index of a pin-function register. -/
def pinSpot : PinReg → RegName × Nat
  | .fin i => (.STL_PIN_FIN, i.val)
  | .enc e => (.STL_PIN_ENC, e.val)
  | .out k => (.STL_PIN_OUT, k.val)

/-- A value holds a reserved encoding for a pin-function register: 0b11 in a PULL or DRIVE field. Log entry 28 (DEDUCED and DESIGN CHOICE). -/
def pinReserved (r : RegName) (v : Nat) : Bool :=
  bitsOf v 0 2 == 3 || (r == .STL_PIN_ENC && bitsOf v 2 2 == 3)

/-- A write of a pin-function register. Log entry 28 (DEDUCED and DESIGN CHOICE). -/
def State.pinWrite (s : State) (r : RegName) (i v : Nat) : State :=
  if pinReserved r v then s.set F.STL_PIN_STATUS_CFG_REJECT 1 else s.writeReg r i 0 v 0 32

/-- The port selects its bypass register; nothing else changes, and the pins have their functions. -/
def State.tapBypass (s : State) (code : Nat) : State :=
  { s with tap := { s.tap with ir := code, dr := 0, drives := false, highz := false } }

/-- An instruction that acts only while RST_N is low and MAIN_GOOD is high (R502). Log entry 28 (DEDUCED and DESIGN CHOICE). -/
def State.tapTest (s : State) (code : Nat) (good : Bool) (f : Tap → Tap) : State :=
  if s.heather.rstLow && good then { s with tap := f { s.tap with ir := code, drives := false, highz := false } }
  else s.tapBypass code

/-- EXTEST and its pulse and train forms: the cells are captured, and the pins driven from what is shifted in. Log entry 28 (DEDUCED and DESIGN CHOICE). -/
def State.tapExtest (s : State) (code : Nat) (good : Bool) (pins shifted : Nat) : State :=
  s.tapTest code good fun t => { t with captured := pins, dr := shifted, preload := shifted, drives := true }

/-- `PIN_FUNCTION_WRITE` (R503). -/
def execPinFunctionWrite (r : PinReg) (v : Word) (s : State) : Host.Outcome State Fault Refusal :=
  .next (s.ifReach (pinSpot r).1 (pinSpot r).2 fun s => s.pinWrite (pinSpot r).1 (pinSpot r).2 v.toNat)

/-- `EXTEST` (R501, R502). Log entry 22 (DEDUCED). -/
def execExtest (good : Bool) (pins shifted : BitVec 1152) (s : State) : Host.Outcome State Fault Refusal :=
  .next (s.tapExtest 0x00 good pins.toNat shifted.toNat)

/-- `IDCODE` (R501). Log entry 28 (DEDUCED and DESIGN CHOICE). -/
def execIdcode (s : State) : Host.Outcome State Fault Refusal :=
  .next { s with tap := { s.tap with ir := 0x01, dr := 0x140960F7, drives := false, highz := false } }

/-- `SAMPLE_PRELOAD` (R501). Log entry 28 (DEDUCED and DESIGN CHOICE). -/
def execSamplePreload (pins shifted : BitVec 1152) (s : State) : Host.Outcome State Fault Refusal :=
  .next { s with tap := { s.tap with
    ir := 0x02, captured := pins.toNat, dr := shifted.toNat, preload := shifted.toNat, drives := false, highz := false } }

/-- `CLAMP` (R501, R502): the pins are held from the boundary register, and bypass is selected. -/
def execClamp (good : Bool) (s : State) : Host.Outcome State Fault Refusal :=
  .next (s.tapTest 0x04 good fun t => { t with dr := 0, drives := true })

/-- `HIGHZ` (R501, R502): the outputs are high-impedance, and bypass is selected. -/
def execHighz (good : Bool) (s : State) : Host.Outcome State Fault Refusal :=
  .next (s.tapTest 0x05 good fun t => { t with dr := 0, highz := true })

/-- `EXTEST_PULSE` (R501, R502). -/
def execExtestPulse (good : Bool) (pins shifted : BitVec 1152) (s : State) : Host.Outcome State Fault Refusal :=
  .next (s.tapExtest 0x06 good pins.toNat shifted.toNat)

/-- `EXTEST_TRAIN` (R501, R502). -/
def execExtestTrain (good : Bool) (pins shifted : BitVec 1152) (s : State) : Host.Outcome State Fault Refusal :=
  .next (s.tapExtest 0x07 good pins.toNat shifted.toNat)

/-- `BYPASS` (R501). -/
def execBypass (code : BitVec 8) (s : State) : Host.Outcome State Fault Refusal := .next (s.tapBypass code.toNat)

end Sys2Proof.Machine
end

