-- ==== Sys2Proof/Machine/RegWrite.lean ====
section
/-! DEFINITION. BAR0 (R477 to R486): what a write does in every register, and the accesses
of 64-bit registers word by word. Log entries: 13. -/

namespace Sys2Proof.Machine
open Sys2Proof

/-! ### What a write does -/

/-- The state after a command that always answers a next state. Log entry 13 (DESIGN CHOICE). -/
def State.act (s : State) (f : State → Host.Outcome State Fault Refusal) : State :=
  match f s with
  | .next t => t
  | .fault _ => s
  | .refused _ => s

/-- A command carried out when a bit of the written value is 1. -/
def State.actIf (s : State) (c : Bool) (f : State → Host.Outcome State Fault Refusal) : State := if c then s.act f else s

/-- GRS_CFG: each field by its own rules (R309, R324). -/
def State.grsCfg (s : State) (v : Nat) : State :=
  (((s.fractionWrite (bitsOf v 0 3)).horizonWrite (bitsOf v 4 5)).set F.GRS_CFG_TUFT_MODE (bitsOf v 9 1)).set
    F.GRS_CFG_DRIFT_PASS (bitsOf v 10 1)

/-- LEA_PORT_CFG: RATE only while the port is DISABLED, then EN and RETRAIN (R341). -/
def State.leaCfg (s : State) (p v : Nat) : State :=
  let port : Port := .ofNat 4 p
  let s := if s.leaState p = lpDISABLED then s.set (F.LEA_PORT_CFG_RATE p) (bitsOf v 1 1) else s
  let s := (s.set (F.LEA_PORT_CFG_AUTO_RETRAIN p) (bitsOf v 2 1)).set (F.LEA_PORT_CFG_MAX_ATTEMPTS p) (bitsOf v 4 4)
  let s := if bitOf v 0 then s.act (execLeaEnable port) else s.act (execLeaDisable port)
  s.actIf (bitOf v 3) (execLeaRetrain port)

/-- STL_TQ_CFGq: a write with watermarks out of range is dropped (R374); FLUSH acts with it (R373). -/
def State.tqCfg (s : State) (q v : Nat) : State :=
  let high := bitsOf v 8 7
  let low := bitsOf v 16 7
  if 1 ≤ high ∧ high ≤ 64 ∧ low < high then
    let s := s.setTq q { s.tq q with
      encPast := (s.time, s.get (F.STL_TQ_CFG_ENC_SEL q)) :: (s.tq q).encPast.filter fun p => decide (s.time ≤ p.1 + 327680) }
    let s := ((s.writeReg .STL_TQ_CFG q 0 v 0 8).tqWatermarks q high low)
    s.actIf (bitOf v 3) (execTqFlush (.ofNat 8 q))
  else s.set (F.STL_TQ_STAT_CFG_REJECT q) 1

/-- STL_AIN_CTRL: START, INJ_GO and a calibration command (R390). -/
def State.ainCtrl (s : State) (v : Nat) : State :=
  let c : AinCh := .ofNat 16 (bitsOf v 4 4)
  let s := s.actIf (bitOf v 0) execAinStart
  let s := s.actIf (bitOf v 1) execAinInjGo
  match bitsOf v 2 2 with
  | 0 => s
  | 1 => s.act (execAinCalZero c)
  | 2 => s.act (execAinCalGain c)
  | _ => s.set F.STL_AIN_STATUS_CFG_REJECT 1

/-- PWR_CTRL: REQ, with WAKE in the same cycle as a wake source, and CLR_CNT (R418, R423, R426). A request outside Run or in an entry
is dropped, and the WAKE with it wakes as one alone does (R424). -/
def State.pwrCtrl (s : State) (v : Nat) : State :=
  let open_ := s.get F.PWR_STATUS_STATE == 0 && s.entry.isNone
  let s := if bitOf v 3 then s.powerRequest (bitsOf v 0 3) (if open_ && bitOf v 4 then some 1 else none) else s
  let s := if bitOf v 4 && (!bitOf v 3 || !open_) then s.wake 1 else s
  s.actIf (bitOf v 5) execPwrClrCnt

/-- GLB_CHN_CTRL: DRAIN bits that change, then REINIT bits (R455, R456). -/
def State.chnCtrl (s : State) (v : Nat) : State :=
  let s := (List.range 4).foldl (fun (s : State) n =>
    if bitOf v n then s.drain n else if bitOf (s.get F.GLB_CHN_CTRL_DRAIN) n then s.reopen n else s) s
  (List.range 4).foldl (fun (s : State) n => if bitOf v (4 + n) then s.reinit n else s) s

/-- BOOT_MBOX_CMD, with a flash that does its part (R460). -/
def State.bootCmd (s : State) (cmd : Nat) : State :=
  match cmd with
  | 1 => s.act (execMboxRead true)
  | 2 => s.act (execErase true)
  | 3 => s.act (execProgram true)
  | 4 => s.act (execVerifySlot true)
  | 5 => s.act (execVerifyBank true)
  | 6 => s.act execReboot
  | 7 => s.act execMboxFallow
  | c => s.act (execMboxReserved (BitVec.ofNat 8 c))

/-- SEC_MBOX_CMD; the helper data of an ENROLL is a free value (R473). -/
def State.secCmd (s : State) (cmd : Nat) : State :=
  match cmd with
  | 1 => s.act execGetId
  | 2 => s.act execAttest
  | 3 => s.act execGetCert
  | 4 => (s.act (execEnroll (leBytes 65536 (s.freeVal 524288)))).draw
  | c => s.act (execSecReserved (BitVec.ofNat 8 c))

/-- TSK_CTRL: a quarantine wins over a re-enable that arrives with it (R160). -/
def State.tskCtrl (s : State) (g v : Nat) : State :=
  let t : Tsk := .ofNat 256 g
  let s := s.actIf (bitOf v 0) (execTskQuarantineWrite t)
  let s := if bitOf v 0 && bitOf v 1 then s.set (F.TSK_CTRL_STATUS_REENABLE_REJECT g) 1
    else s.actIf (bitOf v 1) (execTskReenable t (bitOf v 2))
  s.actIf (bitOf v 3) (execTskClrSeq t)

/-- A write of a whole register (R480): its fields by their access kinds, with the rules and the actions of its own. -/
def State.regStore (s : State) (r : RegName) (i j v : Nat) : State :=
  let plain := s.writeReg r i j v 0 64
  let t : Tsk := .ofNat 256 i
  let n : Chn := .ofNat 4 i
  match r with
  | .TSK_ARR_CTRL => s.actIf (bitOf v 0) (execArrClrCnt t (.ofNat 17 j))
  | .TSK_CONV_CFG =>
    (s.convCfgWrite i j (bitsOf v 0 3) (bitsOf v 4 1)).actIf (bitOf v 8) (execConvClrSat t (.ofNat 17 j))
  | .TSK_CONV_STATUS => plain.actIf (bitOf v 31) (execTableClrEcc t)
  | .TSK_CTRL => s.tskCtrl i v
  | .STL_AIN_CAL => s.ainCalWrite i j v
  | .TSK_BANK_ECC => s.actIf (bitOf v 31) (execBankClrEcc t)
  | .GLB_RGN_FAULT_INFO => s.actIf (bitOf v 0) execRgnFaultClear
  | .PCI_T3_LATE => s.actIf (bitOf v 31) execT3LateClr
  | .PCI_ING_STALL => s.actIf (bitOf v 31) execIngStallClr
  | .CHN_HDG_ERR => s.actIf (bitOf v 31) (execHdgErrClr n)
  | .CHN_STK_ERR => s.actIf (bitOf v 31) (execStkErrClr n)
  | .CHN_ADM_CTRL => (s.actIf (bitOf v 0) (execAdmClrCnt n)).actIf (bitOf v 1) (execAdmClrPeak n)
  | .CHN_ENG_RING_BASE => s.engWriteReg i .ringBase v
  | .CHN_ENG_CTRL_ADDR => s.engWriteReg i .ctrlAddr v
  | .CHN_ENG_CPL_BASE => s.engWriteReg i .cplBase v
  | .CHN_ENG_CFG => s.engWriteReg i .cfg v
  | .CHN_ENG_STATUS =>
    if s.on (F.CHN_ENG_STATUS_RUNNING i) then (if plain.regs = s.regs then s else s.engErr i (F.CHN_ENG_STATUS_CFG_ERR i)) else plain
  | .GLB_CTX_EVENTS => s.actIf (bitOf v 31) (execCtxEventsClr (.ofNat 64 i))
  | .CHN_LD_CTRL => s.actIf (bitOf v 0) (execLdClr n)
  | .GLB_DIST_STAT => s.actIf (bitOf v 31) execDistStatClr
  | .BRK_CTRL =>
    ((s.actIf (bitOf v 0) (execBrkStartPass t)).actIf (bitOf v 1) (execBrkAbort t)).actIf (bitOf v 2) (execBrkClrCnt t)
  | .BRK_SAVED_TEMP => if s.tskState i = tQUAR then plain else s
  | .BRK_TRIM_DATA => s.trimWrite i v
  | .GRS_CFG => s.grsCfg v
  | .GRS_CTRL => (s.actIf (bitOf v 0) execGrsClrCnt).actIf (bitOf v 1) execGrsClrPeak
  | .GRS_REP_CTRL => s.actIf (bitOf v 6) (execReadmit (.ofNat 64 (bitsOf v 0 6)))
  | .LEA_PORT_CFG => s.leaCfg i v
  | .LEA_PORT_STAT => s.actIf (bitOf v 31) (execLeaPortStatClr (.ofNat 4 i))
  | .LEA_NODE => if (List.range 4).all fun p => s.leaState p == lpDISABLED then plain else s
  | .LEA_CTRL_STAT => s.actIf (bitOf v 31) execLeaCtrlStatClr
  | .STL_FIN_STAT =>
    ((plain.keepSet (s.fin i).ovrAt (F.STL_FIN_STAT_OVR i)).keepSet (s.fin i).stuckAt (F.STL_FIN_STAT_STUCK_SET i)).actIf (bitOf v 31)
      (execFinStatClr (.ofNat 24 i))
  | .STL_ENC_CFG => (plain.keepSet (s.enc i).errAt (F.STL_ENC_CFG_ERR i)).actIf (bitOf v 31) (execEncClr (.ofNat 4 i))
  | .STL_TQ_STAT => s.tqStatWrite i v
  | .STL_ENC_POS => s.posWrite i v
  | .STL_TQ_CFG => s.tqCfg i v
  | .STL_TQ_CNT => s.actIf (bitOf v 15) (execTqCntClr (.ofNat 8 i))
  | .STL_AIN_CFG => s.ainModeWrite v
  | .STL_AIN_MASK => s.ainMaskWrite v
  | .STL_AIN_PACE => s.ainConfigWrite .pace v
  | .STL_AIN_INJ => s.ainConfigWrite .inj v
  | .STL_AIN_CHCFG => s.ainConfigWrite (.chcfg (.ofNat 16 i)) v
  | .STL_AIN_CTRL => s.ainCtrl v
  | .STL_AIN_CNT => s.actIf (bitOf v 31) execAinCntClr
  | .STL_AOUT_CFG => s.aoutWrite i .cfg v
  | .STL_AOUT_CTRL => s.aoutCtrl v
  | .THM_CTRL => s.actIf (bitOf v 0) execThmForceTrip
  | .PWR_CTRL => s.pwrCtrl v
  | .PWR_QUARTER_OFF => (List.range 16).foldl (fun (s : State) q => s.quarterWrite q (bitOf v q)) s
  | .GLB_CHN_CTRL => s.chnCtrl v
  | .BOOT_CTRL => (s.actIf (bitOf v 0) execFwSwitch).actIf (bitOf v 1) execBootFallow
  | .BOOT_SP_STATUS => s.actIf (bitOf v 15) execSpClr
  | .BOOT_MBOX_CMD => s.bootCmd (bitsOf v 0 8)
  | .SEC_MBOX_CMD => s.secCmd (bitsOf v 0 8)
  | .SEC_MBOX_BUF => if s.on F.SEC_MBOX_STATUS_BUSY then s else plain
  | .SEC_CTRL => s.actIf (bitOf v 0) execSecClrCnt
  | .STL_PIN_FIN => s.pinWrite r i v
  | .STL_PIN_ENC => s.pinWrite r i v
  | .STL_PIN_OUT => s.pinWrite r i v
  | _ => plain

/-- A write of a whole register that software can reach; else it is dropped (R435). Log entry 13 (DESIGN CHOICE). -/
def State.regWrite (s : State) (r : RegName) (i j v : Nat) : State := s.ifReach r i fun s => s.regStore r i j v

/-! ### 64-bit registers word by word (R483, R484) -/

/-- The registers of an agent's accesses, and these replaced. -/
def State.busOf (s : State) : Agent → BusAgent
  | .host => s.host
  | .mgmt => s.mgmt
def State.setBus (s : State) (a : Agent) (b : BusAgent) : State :=
  match a with
  | .host => { s with host := b }
  | .mgmt => { s with mgmt := b }

/-- A register can be read: its domain is on and the device serves; the boot block, GLB_FALLOW_REASON and GLB_LEVEL from
stage 2 on (R435). -/
def State.readable (s : State) (r : RegName) (i : Nat) : Bool :=
  s.reach r i || (s.powered .spine && match r with
    | .BOOT_STATUS | .BOOT_CTRL | .BOOT_SP_STATUS | .BOOT_MBOX_CMD | .BOOT_MBOX_ARG | .BOOT_MBOX_STATUS | .BOOT_MBOX_BUF
    | .GLB_FALLOW_REASON | .GLB_LEVEL => true
    | _ => false)

/-- A read of the low word: the high word is captured. -/
def State.readLow (s : State) (a : Agent) (x : RegWord) : State :=
  if s.readable x.r x.i then
    let v := s.readReg x.r x.i x.j
    (s.setBus a { s.busOf a with held := some ⟨x.r, x.i, x.j, v / 2 ^ 32⟩ }).answer a (v % 2 ^ 32)
  else s.answer a 0xFFFFFFFF

/-- A held or staged word belongs to a register. -/
def HeldWord.is (h : HeldWord) (x : RegWord) : Bool := h.r == x.r && h.i == x.i && h.j == x.j

/-- A read of the high word: the held word, or the live one with READ_ORDER. -/
def State.readHigh (s : State) (a : Agent) (x : RegWord) : State :=
  if s.readable x.r x.i then
    match (s.busOf a).held with
    | some h => if h.is x then s.answer a h.v else (s.answer a (s.readReg x.r x.i x.j / 2 ^ 32)).glbErr 3
    | none => (s.answer a (s.readReg x.r x.i x.j / 2 ^ 32)).glbErr 3
  else s.answer a 0xFFFFFFFF

/-- A write of the low word is staged. Log entry 13 (DESIGN CHOICE). -/
def State.writeLow (s : State) (a : Agent) (x : RegWord) (v : Nat) : State :=
  s.ifReach x.r x.i fun s => s.setBus a { s.busOf a with staged := some ⟨x.r, x.i, x.j, v⟩ }

/-- A write of the high word sets both words with a staged low word, else the high word alone. Log entry 13 (DESIGN CHOICE). -/
def State.writeHigh (s : State) (a : Agent) (x : RegWord) (v : Nat) : State :=
  s.ifReach x.r x.i fun s =>
    match (s.busOf a).staged with
    | some h =>
      if h.is x then (s.setBus a { s.busOf a with staged := none }).regStore x.r x.i x.j (h.v + 2 ^ 32 * v)
      else s.regStore x.r x.i x.j (s.readReg x.r x.i x.j % 2 ^ 32 + 2 ^ 32 * v)
    | none => s.regStore x.r x.i x.j (s.readReg x.r x.i x.j % 2 ^ 32 + 2 ^ 32 * v)

/-! ### Writes by offset -/

/-- A write of one word of the MSI-X table (R247, PCIe base specification): address low and high, data, mask. -/
def State.msixWrite (s : State) (v word x : Nat) : State :=
  let e := s.msixEntry v
  match word with
  | 0 => s.setMsix v { e with addr := e.addr / 2 ^ 32 * 2 ^ 32 + x }
  | 1 => s.setMsix v { e with addr := e.addr % 2 ^ 32 + 2 ^ 32 * x }
  | 2 => s.setMsix v { e with data := x }
  | _ => if bitOf x 0 then s.setMsix v { e with masked := true } else s.msixUnmask v

/-- A 4-byte write at an aligned offset. -/
def State.write4 (s : State) (a : Agent) (o v : Nat) : State :=
  if 0x38000 ≤ o ∧ o < 0x38400 then
    (if s.serving && s.powered .pcie then s.msixWrite ((o - 0x38000) / 16) (o % 16 / 4) v else s)
  else
    match regAt o with
    | none => s
    | some x =>
      if wordsOf x.r = 1 then s.regWrite x.r x.i x.j v
      else if x.word = 0 then s.writeLow a x v else s.writeHigh a x v

/-- A BAR0 access of the wrong size or alignment (R478). -/
def State.badAccess (s : State) (read : Bool) : State :=
  (s.send (if read then .completionUnsupported else .aerUnsupported)).glbErr 2

/-- Two words at an 8-byte boundary: a 64-bit register at once, or two 32-bit registers, the lower first (R479, R482). -/
def State.write8 (s : State) (a : Agent) (o lo hi : Nat) : State :=
  match regAt o with
  | some x => if wordsOf x.r = 2 ∧ x.word = 0 then s.regWrite x.r x.i x.j (lo + 2 ^ 32 * hi) else (s.write4 a o lo).write4 a (o + 4) hi
  | none => (s.write4 a o lo).write4 a (o + 4) hi

/-- A write of `n` words may go to a mailbox buffer (R478). Log entry 13 (DESIGN CHOICE). -/
def mailboxWrite (o n : Nat) : Bool :=
  (n == 4 || n == 8 || n == 16 || n == 32 || n == 64) && o % (4 * n) == 0 &&
    (decide (0x21000 ≤ o ∧ o < 0x22000) || decide (0x2A000 ≤ o ∧ o < 0x2C000))

/-- A write of some words (R478 to R480, R482). Log entry 13 (DESIGN CHOICE). -/
def State.barWrite (s : State) (a : Agent) (o : Nat) (ws : List Nat) : State :=
  match ws with
  | [v] => if o % 4 = 0 then s.write4 a o v else s.badAccess false
  | [lo, hi] => if o % 8 = 0 then s.write8 a o lo hi else s.badAccess false
  | ws =>
    if mailboxWrite o ws.length then ws.zipIdx.foldl (fun (s : State) x => s.write4 a (o + 4 * x.2) x.1) s else s.badAccess false

/-! ### The commands -/

/-- `READ_64_LOW` (R483). -/
def execRead64Low (a : Agent) (off : BitVec 24) (s : State) : Host.Outcome State Fault Refusal :=
  .next (match regAt off.toNat with
    | some x => if off.toNat % 4 = 0 ∧ wordsOf x.r = 2 ∧ x.word = 0 then s.readLow a x else s
    | none => s)

/-- `READ_64_HIGH` (R483). -/
def execRead64High (a : Agent) (off : BitVec 24) (s : State) : Host.Outcome State Fault Refusal :=
  .next (match regAt off.toNat with
    | some x => if off.toNat % 4 = 0 ∧ wordsOf x.r = 2 ∧ x.word = 1 then s.readHigh a x else s
    | none => s)

/-- `WRITE_64_LOW` (R484). -/
def execWrite64Low (a : Agent) (off : BitVec 24) (v : Word) (s : State) : Host.Outcome State Fault Refusal :=
  .next (match regAt off.toNat with
    | some x => if off.toNat % 4 = 0 ∧ wordsOf x.r = 2 ∧ x.word = 0 then s.writeLow a x v.toNat else s
    | none => s)

/-- `WRITE_64_HIGH` (R484). -/
def execWrite64High (a : Agent) (off : BitVec 24) (v : Word) (s : State) : Host.Outcome State Fault Refusal :=
  .next (match regAt off.toNat with
    | some x => if off.toNat % 4 = 0 ∧ wordsOf x.r = 2 ∧ x.word = 1 then s.writeHigh a x v.toNat else s
    | none => s)

/-- `BAR0_BAD_ACCESS` (R478). -/
def execBar0BadAccess (read : Bool) (s : State) : Host.Outcome State Fault Refusal :=
  .next (if s.powered .spine && s.powered .pcie then s.badAccess read else s)

/-- `REGISTER_WRITE` (R479, R480): the host reaches the device over PCIe. Log entry 13 (DESIGN CHOICE). -/
def execRegisterWrite (a : Agent) (off : BitVec 24) (data : List Word) (s : State) : Host.Outcome State Fault Refusal :=
  .next (if s.powered .spine && (a == .mgmt || s.powered .pcie) then s.barWrite a off.toNat (data.map BitVec.toNat) else s)

end Sys2Proof.Machine
end

