-- ==== Sys2Proof/Machine/Standing.lean ====
section
/-! DEFINITION. Standing programs (R442 to R446): events turned into jobs, and watched records into field outputs. Log entries: 27. -/

namespace Sys2Proof.Machine
open Sys2Proof

/-- What an event gives to the patches of R442: sources 1 to 7, none where the kind of event has no such value. -/
structure StandingEvent where
  time : Option Nat := none
  pos : Option Nat := none
  seq : Option Nat := none
  frame : Option Nat := none
  blocks : Option Nat := none
  deriving DecidableEq, Repr

/-- Standing programs run: in Run, after READY, and not paused by a switch-over (R415, R459). Log entry 27 (DEDUCED and DESIGN CHOICE). -/
def State.standingRuns (s : State) : Bool :=
  s.on F.BOOT_STATUS_READY && !s.on F.BOOT_SP_STATUS_PAUSED && !s.stopped 0x50

/-- A write of the management core (R184, R186). -/
def State.mgmtWrite (s : State) (a : Nat) (bytes : List Byte) : State :=
  match s.accessFault .mgmt true a bytes.length with
  | some u => s.addressFault .mgmt true a u
  | none => s.mergeWrite a bytes

/-- A read of the management core, with the CRC and poison checks of R174 (R181); none where a guard denies it or a check fails. Log entry 27 (DESIGN CHOICE). -/
def State.mgmtRead (s : State) (a n : Nat) : State × Option (List Byte) :=
  match s.accessFault .mgmt false a n with
  | some u => (s.addressFault .mgmt false a u, none)
  | none =>
    match s.engBlocks (chanOfAddr a) (a / 256 * 256) ((a % 256 + n + 255) / 256) with
    | (s, .inl _) => (s, none)
    | (s, .inr bs) => (s, some ((bs.drop (a % 256)).take n))

/-- The value of a patch source; what the event does not have is a free value. Log entry 27 (DEDUCED and DESIGN CHOICE). -/
def State.patchValue (s : State) (b : Binding) (e : StandingEvent) (src : Nat) : State × Nat :=
  let open_ (x : Option Nat) (f : Nat → Nat) : State × Nat :=
    match x with
    | some v => (s, f v % 2 ^ 32)
    | none => (s.draw, s.freeVal 32)
  match src with
  | 1 => open_ e.time id
  | 2 => open_ e.time (· / 2 ^ 32)
  | 3 => open_ e.pos id
  | 4 => open_ e.seq id
  | 5 => open_ e.frame id
  | 6 => open_ e.frame (· / 2 ^ 32)
  | 7 => open_ e.blocks id
  | _ => (s, b.events % 2 ^ 32)

/-- The patches of a binding laid over its template. -/
def State.patched (s : State) (b : Binding) (e : StandingEvent) (bytes : List Byte) : State × List Byte :=
  b.patches.foldl (fun (x : State × List Byte) p =>
    let src := bitsOf p 15 5
    if src = 0 then x
    else
      let (s, v) := x.1.patchValue b e src
      (s, overlay x.2 (bitsOf p 0 12 * 32 + bitsOf p 12 3 * 4) (leBytes 4 v))) (s, bytes)

/-- Binding number `i` replaced. -/
def State.setBinding (s : State) (i : Nat) (b : Binding) : State :=
  { s with boot := { s.boot with binds := s.boot.binds.set i b } }

/-- An event of binding `i` (R444): its job is placed in its ring, or dropped for want of room, or where PROD or the template can not be
read. Log entry 27 (DEDUCED and DESIGN CHOICE). -/
def State.placeEvent (s : State) (i : Nat) (e : StandingEvent) : State :=
  match s.boot.binds[i]? with
  | none => s
  | some b =>
    let b := { b with events := b.events + 1 }
    let s := s.setBinding i b
    let k := b.ring % 16
    match s.mgmtRead (s.ctrlAddr k) 4 with
    | (s, none) => s.inc F.BOOT_SP_STATUS_DROP_CNT
    | (s, some head) =>
    let prod := leNat head
    if s.ringSize k < (prod + 2 ^ 32 - s.cons k) % 2 ^ 32 + b.nent then s.inc F.BOOT_SP_STATUS_DROP_CNT
    else match s.mgmtRead b.template (32 * b.nent) with
    | (s, none) => s.inc F.BOOT_SP_STATUS_DROP_CNT
    | (s, some bytes) =>
      let (s, bytes) := s.patched b e bytes
      let s := (List.range b.nent).foldl (fun (s : State) n =>
        s.mgmtWrite (s.entryAddr k (prod + n)) ((bytes.drop (32 * n)).take 32)) s
      let s := s.mgmtWrite (s.ctrlAddr k) (leBytes 4 (prod + b.nent))
      if b.outEn then
        { s with boot := { s.boot with watches := s.boot.watches ++ [{ binding := i, k := k, ring := prod % 2 ^ 32 }] } }
      else s

/-- An event of every binding of a source, in their order. -/
def State.placeEvents (s : State) (src ix : Nat) (e : StandingEvent) : State :=
  (s.boot.binds.zipIdx.filter fun x => x.1.src == src && x.1.srcIdx == ix).foldl (fun (s : State) x => s.placeEvent x.2 e) s

/-- Some binding has a source. -/
def State.bound (s : State) (src ix : Nat) : Bool := s.boot.binds.any fun b => b.src == src && b.srcIdx == ix

/-- The management core pops a queue entry and places its jobs (R372, R444). -/
def State.triggerEvent (s : State) (q : Nat) : State :=
  if s.standingRuns && s.bound 0 q && s.reach .STL_TQ_POP q then
    match (s.tq q).entries with
    | [] => s
    | e :: _ =>
      (s.tqPop .standing q).placeEvents 0 q { time := some e.time, pos := some e.pos.toNat, seq := some e.seq }
  else s

/-- A timer binding's period has passed since it last expired. -/
def State.timerEvent (s : State) (i : Nat) : State :=
  match s.boot.binds[i]? with
  | some b =>
    if s.standingRuns && b.src == 2 && decide (b.last + b.period * 1000 ≤ s.time) then
      (s.setBinding i { b with last := b.last + b.period * 1000 }).placeEvent i {}
    else s
  | none => s

/-- A frame mailbox read: its descriptors with VALID set, from the next one on, at most `fuel` of them, up to one that can not be read (R442, R444). Log entry 27 (DEDUCED and DESIGN CHOICE). -/
def State.readBox (s : State) (m : Nat) : Nat → State
  | 0 => s
  | fuel + 1 =>
    match s.boot.boxes[m]? with
    | none => s
    | some x =>
      let a := x.base + x.next % x.entries * 32
      match s.mgmtRead a 32 with
      | (s, none) => s
      | (s, some d) =>
      if d.getD 14 0 ≠ 1 then s
      else
        let s := s.placeEvents 1 m { frame := some (leNat (d.take 8)), blocks := some (leNat ((d.drop 8).take 4)) }
        let s := s.mgmtWrite (a + 14) [0]
        let s := { s with boot := { s.boot with boxes := s.boot.boxes.set m { x with next := (x.next + 1) % x.entries } } }
        s.readBox m fuel

/-- Every mailbox that a binding names, read at a boundary. -/
def State.readBoxes (s : State) : State :=
  if s.standingRuns then
    (s.boot.boxes.zipIdx.filter fun x => s.bound 1 x.2).foldl (fun (s : State) x => s.readBox x.2 x.1.entries) s
  else s

/-- The action of a binding on its result word (R445). Log entry 27 (DEDUCED and DESIGN CHOICE). -/
def State.outputAction (s : State) (b : Binding) (w : Nat) : State :=
  if b.outSel < 16 then
    s.ifReach .STL_FOUT 0 fun s =>
      if b.outPulse then
        let s := s.setBit F.STL_FOUT_VALUE b.outSel
        { s with boot := { s.boot with
          pulses := (s.boot.pulses.filter fun p => p.1 != b.outSel) ++ [(b.outSel, s.time + b.pulse * 1000000)] } }
      else s.putBit F.STL_FOUT_VALUE b.outSel (bitOf w 0)
  else
    let k := b.outSel - 16
    s.ifReach .STL_AOUT_VALUE k fun s => (s.set (F.STL_AOUT_VALUE_CODE k) (bitsOf w 0 14)).aoutUpdate k false

/-- A watched record is in an acting state. -/
def State.acting (s : State) (w : Watch) : Bool :=
  w.state == 2 || (w.state == 1 && match s.boot.binds[w.binding]? with
    | some b => b.actProv
    | none => false)

/-- The first watched record in an acting state: its result word is read and, where it can be, acted on; on STATE 1 that is a commit (R323). Log entry 27 (DEDUCED and DESIGN CHOICE). -/
def State.standingAct (s : State) : State :=
  if !s.standingRuns then s
  else match s.boot.watches.find? s.acting with
    | none => s
    | some w =>
      let s := { s with boot := { s.boot with watches := s.boot.watches.erase w } }
      match s.boot.binds[w.binding]? with
      | none => s
      | some b =>
        match s.mgmtRead b.result 4 with
        | (s, none) => s
        | (s, some r) =>
        let s := s.outputAction b (leNat r)
        if w.state = 1 then
          { s with jobs := s.jobs.map fun j => if j.ek = w.k ∧ j.ringIndex = w.ring then { j with committed := true } else j }
        else s

/-- A pulse of FOUTi has lasted its time. -/
def State.pulseOver (s : State) (i : Nat) : State :=
  if s.boot.pulses.any fun p => p.1 == i && decide (p.2 ≤ s.time) then
    let s := { s with boot := { s.boot with pulses := s.boot.pulses.filter fun p => p.1 != i } }
    s.ifReach .STL_FOUT 0 fun s => s.clrBit F.STL_FOUT_VALUE i
  else s

/-- `STANDING_TRIGGER_EVENT` (R444). -/
def execStandingTriggerEvent (q : TqIx) (s : State) : Host.Outcome State Fault Refusal := .next (s.triggerEvent q)

/-- `STANDING_TIMER` (R442). -/
def execStandingTimer (b : BitVec 8) (s : State) : Host.Outcome State Fault Refusal := .next (s.timerEvent b.toNat)

/-- `STANDING_OUTPUT_ACTION` (R445). -/
def execStandingOutputAction (s : State) : Host.Outcome State Fault Refusal := .next s.standingAct

/-- `PULSE_END` (R445). -/
def execPulseEnd (i : Fin 16) (s : State) : Host.Outcome State Fault Refusal := .next (s.pulseOver i)

end Sys2Proof.Machine
end

