-- ==== Sys2Proof/Machine/Start.lean ====
section
/-! DEFINITION. The start sequence (R433 to R443, R447 to R451), the restart after a trip (R410, R411), and what follows a wake
from Deep sleep (R416, R427 to R429). Log entries: 2, 16, 17, 18, 19, 20, 21, 23. -/

namespace Sys2Proof.Machine
open Sys2Proof

/-! ### Failing and Fallow mode (R439, R447, R450, R451) -/

/-- A start fails at the stage in progress: firmware requests an internal reset (R439). Log entry 21 (DEDUCED). -/
def State.startFail (s : State) : State :=
  ({ s with heather := { s.heather with lastStage := s.get F.BOOT_STATUS_STAGE } }).chipReset 4 .release

/-- Fallow mode is entered with a reason (R450, R451). Log entry 19 (DESIGN CHOICE). Log entry 21 (DEDUCED). -/
def State.enterFallow (s : State) (reason : Nat) : State :=
  let s := { s with heather := { s.heather with phase := .on, fallow := reason } }
  let s := (s.set F.GLB_FALLOW_REASON_REASON reason).set F.GLB_FALLOW_REASON_FALLOW 1
  let s := ((s.domainOn .stile).fieldSafe 3)
  let s := (List.range 4).foldl (fun (s : State) k => s.set (F.STL_AOUT_STATUS_CAUSE k) 3) s
  let s := s.level
  if s.on F.PCI_LINK_SPEED then s.signal 44 else s

/-! ### Stages 1 to 4 -/

/-- Stages 1 and 2: the counters, the reset cause, the spine and the PCIe domain (R433, R447); a wake from Off is
a wake by WAKE_N (R426). -/
def State.startBegin (s : State) (link : Option (BitVec 3 × BitVec 5 × Bool)) : State :=
  let h := s.heather
  let c := h.count + 1
  let s := s.resetKeep { h with
    phase := .starting, count := c, total := h.total + 1, mainGood := true, rstLow := false, wdog := 5, save := none, dark := [] }
  let s := (s.domainsOn [.spine, .pcie]).linkIs link
  let s := if h.cause = 6 then (s.set F.PWR_STATUS_LAST_WAKE_SRC 1).signal 31 else s
  let s := (s.set F.BOOT_STATUS_RESET_CAUSE h.cause).set F.BOOT_STATUS_STAGE 2
  ((s.set F.GLB_FALLOW_REASON_LAST_STAGE h.lastStage).set F.GLB_FALLOW_REASON_ATTEMPTS (min 15 c)).set F.GLB_FALLOW_REASON_SLOT h.lastSlot

/-- The identity is recovered (R467): the derived public key has the digest that the helper data holds. -/
def State.identOk (s : State) (ident : Option (List Byte)) : Option (List Byte) :=
  match ident with
  | some key => if key.length = 1312 ∧ Config.helperDigest (s.flashBytes helperAt 65536) = some (sha3 key) then some key else none
  | none => none

/-- Stage 3: the record bank and the identity. -/
def State.startBank (s : State) (flashOk : Bool) (ident : Option (List Byte)) : State :=
  if !flashOk then s
  else
    let s := match s.bestBank with
      | some (i, b) =>
        { (s.set F.BOOT_STATUS_BANK i) with
          heather := { s.heather with wdog := b.wdog }
          boot := { s.boot with mBank := b.digest, mInteg := sha3 b.cert, seq := b.seq, certs := [(0, b.cert)] } }
      | none => s
    match s.identOk ident with
    | some key => { (s.set F.SEC_STATUS_ID_READY 1) with boot := { s.boot with ident := some key } }
    | none => s

/-- The slot that the start tries last: the one that it runs, or else the second (R449). Log entry 21 (DEDUCED). -/
def State.lastTried (s : State) : Nat :=
  match s.pickSlot s.heather.count with
  | some (i, _) => i
  | none => s.heather.count % 2

/-- Stage 4: the firmware slot, and Fallow mode for the first reason found (R449, R450, R452). Log entry 21 (DEDUCED). -/
def State.startSlot (s : State) (flashOk : Bool) : State :=
  let slot := if flashOk then s.pickSlot s.heather.count else none
  let s := match slot with
    | some (i, x) => s.runSlot i x
    | none => s
  let s := if flashOk then
      { (s.set F.GLB_FALLOW_REASON_SLOT s.lastTried) with heather := { s.heather with lastSlot := s.lastTried } }
    else s
  let reason := if !flashOk then 1 else if s.boot.mBank.isEmpty then 2 else if s.boot.ident.isNone then 3
    else if slot.isNone then 4 else if 4 ≤ s.heather.count then 5 else s.heather.fallow
  if reason = 0 then s else s.enterFallow reason

/-! ### Records (R438, R439, R443) -/

/-- The records of the bank in use, of some types, in bank order. -/
def State.bankRecords (s : State) : List BootRec :=
  match s.bank (s.get F.BOOT_STATUS_BANK) with
  | some b => parseRecords b.body.length (b.body.drop 64)
  | none => []

def State.recordsOf (s : State) (ty : Nat) : List BootRec := s.bankRecords.filter fun r => r.ty == ty

/-- Firmware stores a register during a start; a Stile register is not reached over a lost data port (R12). -/
def State.bootStore (s : State) (r : RegName) (i j v : Nat) : State :=
  if regDomain r i == .stile && s.stile.linkLost then s else s.regStore r i j v

/-- A 4-byte register write of firmware during a start, before or after the register's domain is on. -/
def State.bootWrite (s : State) (o v : Nat) : State :=
  match regAt o with
  | none => s
  | some x =>
    if wordsOf x.r = 1 then s.bootStore x.r x.i x.j v
    else if x.word = 0 then { s with mgmt := { s.mgmt with staged := some ⟨x.r, x.i, x.j, v⟩ } }
    else
      let low := match s.mgmt.staged with
        | some h => if h.is x then h.v else s.readReg x.r x.i x.j % 2 ^ 32
        | none => s.readReg x.r x.i x.j % 2 ^ 32
      ({ s with mgmt := { s.mgmt with staged := none } }).bootStore x.r x.i x.j (low + 2 ^ 32 * v)

/-- The registers that a register-value record may name (R438), by TYPE. -/
def pairAllowed (ty o : Nat) : Bool :=
  match ty with
  | 5 => match regAt o with
    | some x => [RegName.STL_PIN_FIN, .STL_PIN_ENC, .STL_PIN_OUT, .STL_PIN_STATUS].contains x.r
    | none => false
  | 6 => decide (0x40000 ≤ o ∧ o < 0x70000) && (regAt o).isSome
  | 7 => match regAt o with
    | some x => [RegName.LEA_PORT_CFG, .LEA_PORT_STATUS, .LEA_PORT_ERR, .LEA_PORT_FEC, .LEA_PORT_TX, .LEA_PORT_RX, .LEA_PORT_STAT,
        .LEA_NODE, .LEA_ROUTE, .LEA_CTRL_STAT, .LEA_STATUS, .GLB_DIST_CFG, .GLB_DIST_BASE, .GLB_DIST_LIMIT, .GLB_DIST_STAT,
        .GRS_REP_CFG, .GRS_REP_CTX, .GRS_REP_EXPELLED, .GRS_REP_STATUS, .GRS_REP_CTRL].contains x.r
    | none => false
  | 8 => match regAt o with
    | some x => [RegName.GRS_CFG, .GRS_TOL, .PCI_T3_BASE, .PCI_T3_LAT, .PCI_T3_LATE, .CHN_ADM_CFG, .CHN_K1_TMPL, .CHN_K1_CFG,
        .PWR_CFG, .PWR_WAKE_EN, .PWR_WAKE_FIN, .PWR_WAKE_TIMER, .BRK_CFG].contains x.r
    | none => false
  | _ => match regAt o with
    | some x => [RegName.CHN_ENG_RING_BASE, .CHN_ENG_CTRL_ADDR, .CHN_ENG_CPL_BASE, .CHN_ENG_CFG, .CHN_ENG_STATUS, .CHN_ENG_CONS,
        .CHN_ENG_PROD, .CHN_ENG_JOBS].contains x.r
    | none => false

/-- Some register has refused a write since the start began. Log entry 23 (DESIGN CHOICE and DEDUCED). -/
def State.refused (s : State) : Bool :=
  s.on F.STL_PIN_STATUS_CFG_REJECT || s.on F.STL_AIN_STATUS_CFG_REJECT || s.on F.GRS_STATUS_CFG_REJECT ||
    ((List.range 8).any fun q => s.on (F.STL_TQ_STAT_CFG_REJECT q)) || ((List.range 4).any fun k => s.on (F.STL_AOUT_STATUS_CFG_REJECT k)) ||
    (List.range 16).any fun k => s.on (F.CHN_ENG_STATUS_CFG_ERR k)

/-- A write that a register of Lea drops (R341, R356). -/
def State.leaDropped (s : State) (o v : Nat) : Bool :=
  match regAt o with
  | some x =>
    (x.r == .LEA_NODE && !(List.range 4).all fun p => s.leaState p == lpDISABLED) ||
      (x.r == .LEA_PORT_CFG && s.leaState x.i != lpDISABLED && s.get (F.LEA_PORT_CFG_RATE x.i) != bitsOf v 1 1)
  | none => false

/-- A register-value record applied pair by pair; the flag says that it has failed. -/
def State.applyPairs (s : State) (ty : Nat) (ps : List (Nat × Nat)) : State × Bool :=
  ps.foldl (fun (x : State × Bool) p =>
    if x.2 || !pairAllowed ty p.1 || x.1.leaDropped p.1 p.2 then (x.1, true)
    else
      let s := x.1.bootWrite p.1 p.2
      (s, s.refused)) (s, false)

/-- Records applied one after the other; the start fails at the first that fails. -/
def State.applyAll (s : State) (f : State → BootRec → State × Bool) (rs : List BootRec) : State :=
  let x := rs.foldl (fun (x : State × Bool) r => if x.2 then x else f x.1 r) (s, false)
  if x.2 then x.1.startFail else x.1

/-- SAFE and THERMAL. Log entry 20 (DESIGN CHOICE and DEDUCED). -/
def State.applySafe (s : State) (r : BootRec) : State × Bool :=
  match words32 r.body with
  | f :: outs => ((outs.take 4).zipIdx.foldl (fun (s : State) x => s.bootStore .STL_AOUT_SAFE x.2 0 x.1) (s.bootStore .STL_FOUT_SAFE 0 0 f), false)
  | [] => (s, false)

/-- THERMAL (R438). Log entry 20 (DESIGN CHOICE and DEDUCED). -/
def State.applyThermal (s : State) (r : BootRec) : State × Bool :=
  let w := words32 r.body
  (((s.regStore .THM_CFG 0 0 (w.getD 0 0)).regStore .THM_RATE 0 0 (w.getD 1 0)).regStore .THM_PWR 0 0 (w.getD 2 0), false)

/-- KEYS (R443): publisher keys by slot. -/
def State.applyKeys (s : State) (r : BootRec) : State × Bool :=
  let es := (cutEvery 1313 r.body).map fun e => (leNat (e.take 1), e.drop 1)
  let slots := es.map Prod.fst
  if slots.any (fun k => decide (7 < k)) || slots.dedup.length != slots.length then (s, true)
  else
    let s := slots.foldl (fun (s : State) k => s.setBit F.SEC_STATUS_KEY_SLOTS k) s
    ({ s with pubKeys := (s.pubKeys.filter fun p => !slots.contains p.1) ++ es }, false)

/-- GUARDS (R443): BASE, LIMIT, ATTR and INGRESS, guard by guard. Log entry 20 (DESIGN CHOICE and DEDUCED). -/
def State.applyGuards (s : State) (r : BootRec) : State × Bool :=
  let es := cutEvery 24 r.body
  if 32 < es.length then (s, true)
  else
    (es.zipIdx.foldl (fun (s : State) x =>
      let f := fun o n => leNat ((x.1.drop o).take n)
      (((s.regStore .GLB_RGN_BASE x.2 0 (f 0 8)).regStore .GLB_RGN_LIMIT x.2 0 (f 8 8)).regStore .GLB_RGN_ATTR x.2 0 (f 16 4)).regStore
        .GLB_RGN_INGRESS x.2 0 (f 20 4)) s, false)

/-! ### Stages 5 to 8 -/

/-- Record types that the device knows. Log entry 23 (DESIGN CHOICE and DEDUCED). -/
def knownType (ty : Nat) : Bool := decide (1 ≤ ty ∧ ty ≤ 0xB)

/-- Stage 5: the Stile die, the SAFE and THERMAL records, and records of unknown types. Log entry 23 (DESIGN CHOICE and DEDUCED). -/
def State.stage5 (s : State) : State :=
  let s := s.domainOn .stile
  let unknown := s.bankRecords.filter fun r => !knownType r.ty
  if unknown.any fun r => !r.optional then s.startFail
  else
    let s := s.incBy F.BOOT_STATUS_SKIPPED unknown.length
    let s := s.applyAll State.applySafe (s.recordsOf 1)
    if s.heather.phase = .starting then s.applyAll State.applyThermal (s.recordsOf 2) else s

/-- Stage 6: channel cores and stack interfaces, and the fill of the stacks (R434). -/
def State.stage6 (s : State) : State :=
  (List.range 4).foldl State.stackFill (s.domainsOn ((List.range 4).map .core ++ (List.range 4).map .stack))

/-- Stage 7: the records of the registers and keys, type by type; registers serve while firmware writes them. Log entry 23 (DESIGN CHOICE and DEDUCED). -/
def State.stage7 (s : State) : State :=
  let step (s : State) (ty : Nat) : State :=
    if s.heather.phase ≠ .starting then s
    else match ty with
      | 3 => s.applyAll State.applyKeys (s.recordsOf 3)
      | 4 => s.applyAll State.applyGuards (s.recordsOf 4)
      | ty => s.applyAll (fun s r => s.applyPairs ty (pairsOf r.body)) (s.recordsOf ty)
  let s := [8, 4, 3, 5, 6, 11, 7].foldl step ((s.domainOn .lea).set F.BOOT_STATUS_READY 1)
  if s.heather.phase = .starting then s.set F.BOOT_STATUS_READY 0 else s

/-- Stage 8: the fabric quarters. -/
def State.stage8 (s : State) : State :=
  s.domainsOn (((List.range 16).filter fun q => !s.heather.dark.contains q).map .quarter)

/-! ### Stage 9 (R441) -/

/-- Firmware re-enables Tussock `g`, whose PLL has locked, and will write its arrays. Log entry 23 (DESIGN CHOICE and DEDUCED). -/
def State.firmwareReenable (s : State) (g : Nat) : State :=
  if s.onT g && s.tskState g == tQUAR then
    ((s.set (F.TSK_CLK_STATUS_LOCKED g) 1).reenable g true).updTuss g fun t => { t with fwWrite := true }
  else s

/-- A START_PKG package loaded from the flash and posted (R260, R261, R265); the flag says that it was rejected. Log entry 20 (DESIGN CHOICE and DEDUCED). -/
def State.startPackage (s : State) (fa len ctx dest : Nat) : State × Bool :=
  let n := dest / stackSize
  let x : State := { s with mem := Memory.writeN [] 0 (s.flashBytes fa (len * 256)) }
  let reject (s : State) (r : Nat) : State × Bool :=
    (((s.set (F.CHN_LD_STATUS_REASON (n % 4)) r).set (F.CHN_LD_STATUS_REJECT (n % 4)) 1).inc (F.CHN_LD_PKG_REJECTED (n % 4)), true)
  let stripes := imageStripes (x.imgBlk 0) dest
  if stackEnd ≤ dest ∨ dest % 4096 ≠ 0 then reject s 7
  else if stripes.any (fun y => s.overlaps y.1 y.2 || decide (stackSize < dest % stackSize + y.2 * 256)) then reject s 7
  else match s.clearMagic n 0 0 dest with
  | (s, false) => (s, true)
  | (s, true) =>
    if x.headerBad 0 len then reject s 1
    else match s.pubKeys.find? fun p => p.1 == x.fieldAt 6 1 with
      | none => reject s 2
      | some (_, key) =>
        match x.buildPkg 0 len dest ctx with
        | .inl (_, reason) => reject s reason
        | .inr b =>
          let load := b.load 0 0 n [] 0
          let s := (s.countClamped n b).putImage load
          let (s, ok) := s.judge { job := 0, cmd := 0, for_ := .package, key := key, digest := b.image.digest,
                                   sig := Memory.readN x.mem ((len - 10) * 256) 2420, ready := 0 }
          if !ok then reject s 3
          else
            let s := (s.putManifest load).inc (F.CHN_LD_PKG_ACCEPTED n)
            match s.postReason ctx dest 0x4D494C4F with
            | some r => ((s.inc (F.GLB_CTX_EVENTS_REFUSED_CNT ctx)).set (F.GLB_CTX_EVENTS_LAST_REASON ctx) r, true)
            | none => ((s.post ctx dest n).effectNow ctx, false)

/-- START_PKG fails (R443): a flash range outside the package region, a context above 63, or one context twice. -/
def startPkgBad (es : List (Nat × Nat × Nat × Nat)) : Bool :=
  (es.any fun e => decide (e.1 < packageAt ∨ flashEnd < e.1 + e.2.1 * 256 ∨ 63 < e.2.2.1)) ||
    (es.map fun e => e.2.2.1).dedup.length != es.length

/-- A START_PKG record. -/
def State.applyPackages (s : State) (r : BootRec) : State × Bool :=
  let es := (cutEvery 32 r.body).map fun e =>
    let x := Config.startPkg e
    (x.1.toNat, x.2.1.toNat, x.2.2.1.toNat, x.2.2.2.toNat)
  if startPkgBad es then (s, true)
  else
    (es.foldl (fun (s : State) (e : Nat × Nat × Nat × Nat) =>
      let (s, bad) := s.startPackage e.1 e.2.1 e.2.2.1 e.2.2.2
      if bad then { s with boot := { s.boot with pkgRejected := true } } else s) s, false)

/-- Stage 9: the packages, and the Tussocks that their resident placements name. Log entry 23 (DESIGN CHOICE and DEDUCED). -/
def State.stage9 (s : State) : State :=
  let s := s.applyAll State.applyPackages (s.recordsOf 9)
  if s.heather.phase = .starting then
    ((List.range 256).filter s.tskNamed).foldl State.firmwareReenable s
  else s

/-! ### Stage 10 (R411, R442, R443) -/

/-- A binding read from its 64 bytes. -/
def bindingOf (e : List Byte) : Binding :=
  let f := fun o n => leNat ((e.drop o).take n)
  { src := f 0 1, srcIdx := f 1 1, ring := f 2 1, outEn := bitOf (f 3 1) 0, actProv := bitOf (f 3 1) 1, outPulse := bitOf (f 3 1) 2
    period := f 4 4, template := f 8 8, nent := f 0x10 2, patches := (List.range 4).map fun k => f (0x14 + 4 * k) 4
    outSel := f 0x24 1, pulse := f 0x26 2, result := f 0x28 8 }

/-- A reserved field of a binding is set: bits of RING, FLAGS and the patches, and the bytes that no field takes. -/
def bindingReserved (e : List Byte) : Bool :=
  let f := fun o n => leNat ((e.drop o).take n)
  decide (16 ≤ f 2 1 ∨ 8 ≤ f 3 1 ∨ f 0x12 2 ≠ 0 ∨ f 0x25 1 ≠ 0 ∨ f 0x30 16 ≠ 0) ||
    (List.range 4).any fun k => decide (2 ^ 20 ≤ f (0x14 + 4 * k) 4)

/-- A binding fails its check (R443). -/
def State.bindingBad (s : State) (boxes : Nat) (rings : List Nat) (b : Binding) : Bool :=
  let k := b.ring % 16
  decide (2 < b.src) || (b.src == 0 && decide (7 < b.srcIdx)) || (b.src == 1 && decide (boxes ≤ b.srcIdx)) ||
    (b.src == 2 && b.period == 0) || !rings.contains k || b.template % 32 != 0 || decide (stackEnd < b.template + 32 * b.nent) ||
    decide (b.nent < 2 ∨ 4096 < b.nent) || decide (s.ringSize k < b.nent) ||
    (b.patches.any fun p => decide (b.nent ≤ bitsOf p 0 12 ∨ 8 < bitsOf p 15 5)) ||
    (b.outEn && decide (19 < b.outSel)) || (b.outPulse && (decide (15 < b.outSel) || b.pulse == 0))

/-- A frame mailbox fails its check. -/
def boxBad (x : FrameBox) : Bool :=
  x.base % 256 != 0 || decide (stackEnd < x.base + 32 * x.entries) || !([16, 32, 64, 128, 256, 512, 1024, 2048, 4096].contains x.entries)

/-- Engines whose registers some RINGS record names. -/
def State.ringsConfigured (s : State) : List Nat :=
  ((s.recordsOf 11).flatMap fun r => pairsOf r.body).filterMap fun p => (regAt p.1).map fun x => x.i

/-- A STANDING record. -/
def State.applyStanding (s : State) (r : BootRec) : State × Bool :=
  let boxes := (Config.standingBoxes r.body).map fun x => ({ base := x.1.toNat, entries := x.2.toNat } : FrameBox)
  let es := Config.standingBindings r.body
  let binds := es.map bindingOf
  if decide (32 < boxes.length ∨ 256 < binds.length) || boxes.any boxBad || es.any bindingReserved ||
      binds.any (s.bindingBad boxes.length s.ringsConfigured) then (s, true)
  else ({ (s.set F.BOOT_SP_STATUS_BINDINGS binds.length) with boot := { s.boot with boxes := boxes, binds := binds } }, false)

/-- Slots of the journal whose record has not been reported. -/
def State.unreported (s : State) : List Nat :=
  s.journalUsed.filter fun i => s.flashBytes (journalBase + 64 * i + 0x38) 1 == [0xFF]

/-- The unreported slot with the highest SEQ. -/
def State.latestUnreported (s : State) : Option Nat :=
  s.unreported.foldl (fun b i => match b with
    | none => some i
    | some j => if s.journalSeq j < s.journalSeq i then some i else some j) none

/-- At least 16 slots of the journal stay erased (R411): the sector behind that of the latest record is erased. Log entry 16 (DESIGN CHOICE and DEDUCED). -/
def State.journalTrim (s : State) : State :=
  if s.journalUsed.length + 16 ≤ journalSlots then s
  else
    let sector := match s.journalLast with
      | some i => (i / 1024 + 1) % 4
      | none => 0
    { s with flash := Tab.clear s.flash (journalBase + sector * 65536) (journalBase + (sector + 1) * 65536) }

/-- The shutdown record reported (R411). -/
def State.reportTrip (s : State) : State :=
  let slot := s.latestUnreported
  let rec_ := match s.heather.record with
    | some r => some r
    | none => slot.map fun i => s.flashBytes (journalBase + 64 * i) 64
  match rec_ with
  | none => s
  | some r =>
    let bad := leNat (r.drop 0x3C) != crc32c (r.take 0x38)
    let s := (words32 r).zipIdx.foldl (fun (s : State) x => s.set (F.THM_TRIP_REC_RECORD x.2) x.1) s
    let s := ((s.set F.THM_STATUS_TRIP_SEEN 1).setIf bad F.THM_STATUS_JOURNAL_BAD 1).setIf s.heather.journalFull F.THM_STATUS_JOURNAL_FULL 1
    let s := s.signal 30
    let s := match slot with
      | some i => s.flashPut (journalBase + 64 * i + 0x38) [0]
      | none => s
    State.journalTrim { s with heather := { s.heather with record := none, journalFull := false } }

/-- Stage 10: STANDING, and ready (R433, R447). Log entry 23 (DESIGN CHOICE and DEDUCED). -/
def State.stage10 (s : State) : State :=
  let s := s.applyAll State.applyStanding (s.recordsOf 10)
  if s.heather.phase = .starting then
    let s := { s with heather := { s.heather with phase := .on, count := 0 } }
    ((s.set F.BOOT_STATUS_READY 1).reportTrip.signal 44).level
  else s

/-! ### The sequence -/

/-- Stage `k`, from 3 on. -/
def State.stage (s : State) (k : Nat) (flashOk : Bool) (ident : Option (List Byte)) : State :=
  match k with
  | 3 => s.startBank flashOk ident
  | 4 => s.startSlot flashOk
  | 5 => s.stage5
  | 6 => s.stage6
  | 7 => s.stage7
  | 8 => s.stage8
  | 9 => s.stage9
  | _ => s.stage10

/-- The stages of a list while the start runs on: not behind one in which it hangs, and not behind stage 5 while the readings
after a trip have not passed (R410). Log entry 23 (DESIGN CHOICE and DEDUCED). -/
def State.runStages (s : State) (flashOk : Bool) (ident : Option (List Byte)) (hang : Option Nat) (ks : List Nat) : State :=
  ks.foldl (fun (s : State) k =>
    if s.heather.phase ≠ .starting ∨ (6 ≤ k ∧ s.heather.tripped) ∨ hang.any (· < k) = true then s
    else
      let s := s.set F.BOOT_STATUS_STAGE k
      if hang = some k then s else s.stage k flashOk ident) s

/-- Device time at the end of a start that has not been reset. Log entry 2 (DESIGN CHOICE). -/
def State.timeIs (s : State) (t : Nat) : State := if s.heather.phase = .release then s else { s with time := max s.time t }

/-- A start (R433), from the internal release: with the main rails up, and after a trip only behind the restart gate. Log entry 23 (DESIGN CHOICE and DEDUCED). -/
def State.start (s : State) (flashOk : Bool) (ident : Option (List Byte)) (link : Option (BitVec 3 × BitVec 5 × Bool))
    (hang : Option Nat) (t : Nat) : State :=
  let free := match s.heather.phase with
    | .rising | .held | .release => true
    | .railsDown | .starting | .on => false
  if !free || (s.heather.tripped && !s.heather.gate) then s
  else ((s.startBegin link).runStages flashOk ident hang [3, 4, 5, 6, 7, 8, 9, 10]).timeIs t

/-- The quarters of which no sensor has a valid reading. -/
def darkQuarters (xs : List (Nat × Int)) : List Nat := (List.range 16).filter fun q => !xs.any fun x => x.1 / 8 == q && inRange x.2

/-- Firmware's readings after a trip (R410): the start goes on when every valid one lies below RESTART, which the image has set
in stage 5. -/
def State.recheck (s : State) (xs : List (Nat × Int)) (hang : Option Nat) (t : Nat) : State :=
  if s.heather.phase = .starting ∧ s.get F.BOOT_STATUS_STAGE = 5 ∧ s.heather.tripped = true ∧
      belowLimit (min 85 (s.get F.THM_RATE_RESTART)) (xs.map Prod.snd) then
    (State.runStages { s with heather := { s.heather with tripped := false, gate := false, dark := darkQuarters xs } } true none hang
      [6, 7, 8, 9, 10]).timeIs t
  else s

/-! ### Deep sleep (R416, R427 to R429) -/

/-- The wake from Deep sleep up to Run: device time, domains, the saved registers, and field setup from the image. Log entry 2 (DESIGN CHOICE). Log entry 17 (DEDUCED and DESIGN CHOICE). -/
def State.deepWake (s : State) (ticks : Nat) : State :=
  match s.waking, s.heather.save with
  | some (b, _), some save =>
    let t := s.slept + ticks * 100
    let s := { s with time := (t + 8191) / 8192 * 8192, waking := none, heather := { s.heather with save := none } }
    let s := s.domainsOn ([.spine, .stile, .pcie, .lea] ++ (List.range 4).map .core ++ (List.range 4).map .stack)
    let s := { s with regs := save.foldl (fun r (e : Nat × Nat) => Tab.insert r e.1 e.2) s.regs }
    let s := s.set F.PWR_STATUS_STATE 0
    let s := (s.recordsOf 1).foldl (fun (s : State) (r : BootRec) => (s.applySafe r).1) s
    let s := (s.recordsOf 5 ++ s.recordsOf 6).foldl (fun (s : State) (r : BootRec) => (s.applyPairs r.ty (pairsOf r.body)).1) s
    let s := (List.range 4).foldl (fun (s : State) p =>
      if s.on (F.LEA_PORT_CFG_EN p) then s.leaTo p lpTRAIN else s) s
    ((State.closeAt s false).set F.PWR_STATUS_LAST_WAKE_SRC (b + 1)).signal 31
  | _, _ => s

/-- A fabric quarter is off, and firmware can bring it up. -/
def State.quarterWaits (s : State) (q : Nat) : Bool :=
  s.powered (.core (q / 4)) && !s.powered (.quarter q) && !bitOf (s.get F.PWR_QUARTER_OFF_OFF) q &&
    !(s.quarters.any fun p => p.1 == q) && !s.heather.dark.contains q && !bitOf (s.get F.GLB_CHN_STATUS_REINIT_BUSY) (q / 4)

/-- A fabric quarter brought up after Deep sleep, in ascending order (R427, R429): its Tussocks are re-enabled, and their arrays
written. -/
def State.bringUp (s : State) (q : Nat) : State :=
  if s.on F.BOOT_STATUS_READY && s.get F.PWR_STATUS_STATE == 0 && s.quarterWaits q && (List.range q).all fun p => !s.quarterWaits p then
    (List.range 16).foldl (fun (s : State) i => s.firmwareReenable (16 * q + i)) (s.domainOn (.quarter q))
  else s

/-! ### The commands -/

/-- `START` (R433). Log entry 18 (DESIGN CHOICE). -/
def execStart (flashOk : Bool) (ident : Option (List Byte)) (link : Option (BitVec 3 × BitVec 5 × Bool))
    (hang : Option (BitVec 4)) (time : BitVec 64) (s : State) : Host.Outcome State Fault Refusal :=
  .next (s.start flashOk ident link (hang.map BitVec.toNat) time.toNat)

/-- `RESTART_RECHECK` (R410). -/
def execRestartRecheck (xs : List (Fin 160 × Int)) (hang : Option (BitVec 4)) (time : BitVec 64) (s : State) :
    Host.Outcome State Fault Refusal :=
  .next (s.recheck (xs.map fun x => (x.1.val, x.2)) (hang.map BitVec.toNat) time.toNat)

/-- `STATE_RUN_AFTER_WAKE` (R427). -/
def execStateRunAfterWake (ticks : BitVec 64) (s : State) : Host.Outcome State Fault Refusal :=
  .next (match s.waking with
    | none => s
    | some w =>
      if s.get F.PWR_STATUS_STATE = 3 then s.deepWake ticks.toNat
      else if s.wakeEnds w.2 ≤ s.time then s.runAfterWake else s)

/-- `QUARTER_BRINGUP` (R429). -/
def execQuarterBringup (q : BitVec 4) (s : State) : Host.Outcome State Fault Refusal := .next (s.bringUp q.toNat)

end Sys2Proof.Machine
end

