-- ==== Sys2Proof/Machine/Boundary.lean ====
section
/-! DEFINITION. The swath boundary (R8, R14, R248), and what time does while no command waits. Log entries: 2, 8, 19. -/

namespace Sys2Proof.Machine
open Sys2Proof

/-- The Stile die compares its copy of device time, unless a failed comparison already waits for the reload (R14). -/
def State.stileCompare (s : State) (drift : Int) : State :=
  if !s.powered .stile then s
  else
    let s := s.stileNote
    let s := { s with stile := { s.stile with skew := s.stile.skew + drift } }
    if !s.stile.linkLost && !s.stile.suspect && decide (16 < s.stile.skew.natAbs) then
      State.glbErr { s with stile := { s.stile with suspect := true, failedAt := s.swath } } 0
    else s

/-- Bit errors that stored blocks have taken, and flit errors that the next blocks meet, by place (R150, R165, R177). Log entry 2 (DESIGN CHOICE). -/
def State.arise (s : State) (flips flits : List (Nat × Ecc)) : State :=
  let new := flips.filterMap fun p =>
    let a := canon p.1 / 256 * 256
    if tagged a && p.2 != .ok then some (a, worseEcc p.2 (s.latentAt a)) else none
  { s with
    latent := (s.latent.filter fun p => !new.any fun q => q.1 == p.1) ++ new
    flits := s.flits ++ flits.filter fun p => p.2 != .ok }

/-- The reload at the boundary after a failed comparison; no time passes over a lost data port (R12). -/
def State.stileReload (s : State) : State :=
  if s.stile.suspect && !s.stile.linkLost && decide (s.stile.failedAt < s.swath) then
    let s := s.stileNote
    { s with stile := { s.stile with skew := 0, suspect := false } }
  else s

/-- What a context owes by the end of a swath: requantisation blocks, the end of an unload, its replica decision, its digest and the pass
over its image (R269, R271, R326, R327). -/
def State.ctxDue (s : State) (c : Nat) : State :=
  (((((s.rqWrite c).unloadEmpty c).replicaDecision c).digestSend c).hashDue c)

/-- What a boundary ends of the changes of a context (R272). -/
def State.ctxEnds (s : State) (c : Nat) : State := (s.replacingEnd c).oldBusyClear c

/-- Sixteen blocks of a stack returned poisoned by the sideband code within a swath: its interface has declared the stack failed (R457). -/
def State.stackDue (s : State) (n : Nat) : State :=
  if 16 ≤ (s.chan n).sideUe ∧ s.powered (.stack n) = true then s.offline n else s

/-- What the device owes by the end of a swath and its commands have not brought: the work of load and check engines (R260, R261,
R332), completion records with the timeouts of expired timers (R1, R202, R203), tokens (R320), provisional entries out of
time (R357), failed stacks (R457), drained channels (R455), contexts, a pending check fraction (R309), Tussocks ready for service (R160) and the Stile die's reload (R14). Log entry 2 (DESIGN CHOICE). -/
def State.closeSwath (s : State) : State :=
  let s := s.loadsDue
  let s := s.tests.foldl State.testDue s
  let s := (s.jobs.map Job.id).foldl State.writeCompletion s
  let s := (s.jobs.map Job.id).foldl State.tokenDecision s
  let s := s.resolveProvs (fun p => p.origin.isSome && decide (p.since + 32 ≤ s.swath)) true
  let s := (List.range 4).foldl (fun (s : State) n => (s.stackDue n).drained n) s
  let s := ((List.range 64).foldl State.ctxDue s).fractionEffect
  let s := (s.tusss.map fun p => p.1).foldl (fun (s : State) g => if s.readyForService g then s.set (F.TSK_STATE_STATE g) tSERVICE else s) s
  s.stileReload

/-- Admission of a boundary has ended, and with it the pointer changes that take effect there: the snapshot of an attestation is
taken (R475). -/
def State.admitted (s : State) : State := s.closeAll.attestSnapshot

/-- A swath boundary: what is left of the admission of the last one ends, with all that its swath owes; messages fall due, timers
expire, and the channels, the power controller, the Stile die and the management core do what they do at a boundary. Log entry 2 (DESIGN CHOICE). Log entry 19 (DESIGN CHOICE). -/
def State.boundary (s : State) (drift : Int) (flips flits : List (Nat × Ecc)) : State :=
  if !s.powered .spine then s
  else
    let s := s.admitted.closeSwath
    let s := { s with
      time := (s.time / 8192 + 1) * 8192, irq := { s.irq with due := Nat.lor s.irq.due s.irq.now, now := 0 } }
    let s := ((s.expire s.swath).releaseEnded s.swath).arise flips flits
    let s := (List.range 64).foldl State.ctxEnds s
    let s := (List.range 4).foldl State.boundaryChan s
    State.level { ((s.boundaryAbort).stileCompare drift).readBoxes with fresh := true }

/-- One nanosecond of device time without a command, never across a swath boundary; half-way through a swath the admission of
its boundary has ended (R7, R230). Log entry 2 (DESIGN CHOICE). Log entry 8 (DESIGN CHOICE). -/
def State.tick (s : State) : State :=
  if !s.powered .spine || (s.time + 1) % 8192 == 0 then s
  else
    let s := { s with time := s.time + 1 }
    if s.time % 8192 = 4096 then s.admitted else s

/-- `SWATH_BOUNDARY` (R8). Log entry 2 (DESIGN CHOICE). -/
def execSwathBoundary (drift : Int) (flips : List (BitVec 48 × Ecc)) (flits : List (Fin 20 × Ecc)) (s : State) :
    Host.Outcome State Fault Refusal :=
  .next (s.boundary drift (flips.map fun (p : BitVec 48 × Ecc) => (p.1.toNat, p.2)) (flits.map fun (p : Fin 20 × Ecc) => (p.1.val, p.2)))

/-- `STILE_TIME_RELOAD` (R14). -/
def execStileTimeReload (s : State) : Host.Outcome State Fault Refusal := .next s.stileReload

end Sys2Proof.Machine
end

