-- ==== Sys2Proof/Machine/Dispatch.lean ====
section
/-! DEFINITION. Which meaning each command has: one arm per constructor, one direct call of its meaning. -/

namespace Sys2Proof.Machine
open Sys2Proof

/-- The effect of a command on everything but the queue. -/
def exec (i : Instr) (s : State) : Host.Outcome State Fault Refusal :=
  match i with
  | .swathBoundary drift flips flits => Sys2Proof.Machine.execSwathBoundary drift flips flits s
  | .stileTimeReload => Sys2Proof.Machine.execStileTimeReload s
  | .taskIssue job => Sys2Proof.Machine.execTaskIssue job s
  | .jobTimeout job => Sys2Proof.Machine.execJobTimeout job s
  | .completionRecordWrite job => Sys2Proof.Machine.execCompletionRecordWrite job s
  | .swathMarker g w => Sys2Proof.Machine.execSwathMarker g w s
  | .markerLate g => Sys2Proof.Machine.execMarkerLate g s
  | .tussockLockLoss g => Sys2Proof.Machine.execTussockLockLoss g s
  | .tileTaskEnqueue g w0 w1 w2 w3 w4 w5 w6 w7 => Sys2Proof.Machine.execTileTaskEnqueue g w0 w1 w2 w3 w4 w5 w6 w7 s
  | .eval g c ecc => Sys2Proof.Machine.execEval g c ecc s
  | .phaseB g c ecc => Sys2Proof.Machine.execPhaseB g c ecc s
  | .shadow g ecc fails => Sys2Proof.Machine.execShadow g ecc fails s
  | .matmul g ecc cache digFail => Sys2Proof.Machine.execMatmul g ecc cache digFail s
  | .vector g ecc cache digFail => Sys2Proof.Machine.execVector g ecc cache digFail s
  | .conversion g a dev => Sys2Proof.Machine.execConversion g a dev s
  | .lookup g a ecc => Sys2Proof.Machine.execLookup g a ecc s
  | .tableEccWriteback g => Sys2Proof.Machine.execTableEccWriteback g s
  | .partialSumDelivery g digFail => Sys2Proof.Machine.execPartialSumDelivery g digFail s
  | .recomputeRerun r => Sys2Proof.Machine.execRecomputeRerun r s
  | .restoreSlot g a c marginal sensed => Sys2Proof.Machine.execRestoreSlot g a c marginal sensed s
  | .rowWrite g a c fails => Sys2Proof.Machine.execRowWrite g a c fails s
  | .checkSlot g k c => Sys2Proof.Machine.execCheckSlot g k c s
  | .checkComparison g k => Sys2Proof.Machine.execCheckComparison g k s
  | .arbitrationStart g => Sys2Proof.Machine.execArbitrationStart g s
  | .arbitrationDecide g => Sys2Proof.Machine.execArbitrationDecide g s
  | .checksumRefreshEnd g a => Sys2Proof.Machine.execChecksumRefreshEnd g a s
  | .repairWritesPlace g => Sys2Proof.Machine.execRepairWritesPlace g s
  | .repairRerun g dev => Sys2Proof.Machine.execRepairRerun g dev s
  | .tileReprogramming g => Sys2Proof.Machine.execTileReprogramming g s
  | .tokenDecision job => Sys2Proof.Machine.execTokenDecision job s
  | .provEntryTimeout e => Sys2Proof.Machine.execProvEntryTimeout e s
  | .digestSend c => Sys2Proof.Machine.execDigestSend c s
  | .replicaDecision c => Sys2Proof.Machine.execReplicaDecision c s
  | .readmit c => Sys2Proof.Machine.execReadmit c s
  | .testVector job cmd c dev => Sys2Proof.Machine.execTestVector job cmd c dev s
  | .fractionWrite v => Sys2Proof.Machine.execFractionWrite v s
  | .fractionChangeEffect => Sys2Proof.Machine.execFractionChangeEffect s
  | .horizonWrite v => Sys2Proof.Machine.execHorizonWrite v s
  | .grsClrCnt => Sys2Proof.Machine.execGrsClrCnt s
  | .grsClrPeak => Sys2Proof.Machine.execGrsClrPeak s
  | .slotExchange g => Sys2Proof.Machine.execSlotExchange g s
  | .quarantine g => Sys2Proof.Machine.execQuarantine g s
  | .tskQuarantineWrite g => Sys2Proof.Machine.execTskQuarantineWrite g s
  | .tskReenable g identity => Sys2Proof.Machine.execTskReenable g identity s
  | .reenableService g => Sys2Proof.Machine.execReenableService g s
  | .tskClrSeq g => Sys2Proof.Machine.execTskClrSeq g s
  | .bankClrEcc g => Sys2Proof.Machine.execBankClrEcc g s
  | .arrClrCnt g a => Sys2Proof.Machine.execArrClrCnt g a s
  | .convCfgWrite g a range maskEn => Sys2Proof.Machine.execConvCfgWrite g a range maskEn s
  | .convClrSat g a => Sys2Proof.Machine.execConvClrSat g a s
  | .tableClrEcc g => Sys2Proof.Machine.execTableClrEcc g s
  | .passStart g => Sys2Proof.Machine.execPassStart g s
  | .windowStage g f => Sys2Proof.Machine.execWindowStage g f s
  | .windowEnd g => Sys2Proof.Machine.execWindowEnd g s
  | .abandonReturnValid g => Sys2Proof.Machine.execAbandonReturnValid g s
  | .refgenApply g => Sys2Proof.Machine.execRefgenApply g s
  | .bringupCalibration g fs => Sys2Proof.Machine.execBringupCalibration g fs s
  | .brkStartPass g => Sys2Proof.Machine.execBrkStartPass g s
  | .brkAbort g => Sys2Proof.Machine.execBrkAbort g s
  | .brkClrCnt g => Sys2Proof.Machine.execBrkClrCnt g s
  | .trimDataRead g r => Sys2Proof.Machine.execTrimDataRead g r s
  | .trimDataWrite g v => Sys2Proof.Machine.execTrimDataWrite g v s
  | .blockArrive n job cmd a data crc tid seq link expect => Sys2Proof.Machine.execBlockArrive n job cmd a data crc tid seq link expect s
  | .pcieInboundWrite off bytes ecc => Sys2Proof.Machine.execPcieInboundWrite off bytes ecc s
  | .pcieInboundRead off len ecc => Sys2Proof.Machine.execPcieInboundRead off len ecc s
  | .t3ReadCompletion data crc tid seq link => Sys2Proof.Machine.execT3ReadCompletion data crc tid seq link s
  | .rgnFaultClear => Sys2Proof.Machine.execRgnFaultClear s
  | .bar2BaseWrite v => Sys2Proof.Machine.execBar2BaseWrite v s
  | .t3LateClr => Sys2Proof.Machine.execT3LateClr s
  | .hdgErrClr n => Sys2Proof.Machine.execHdgErrClr n s
  | .stkErrClr n => Sys2Proof.Machine.execStkErrClr n s
  | .ingressStall => Sys2Proof.Machine.execIngressStall s
  | .ingStallClr => Sys2Proof.Machine.execIngStallClr s
  | .admClrCnt n => Sys2Proof.Machine.execAdmClrCnt n s
  | .admClrPeak n => Sys2Proof.Machine.execAdmClrPeak n s
  | .job n e => Sys2Proof.Machine.execJob n e s
  | .nop n e => Sys2Proof.Machine.execNop n e s
  | .tasks job cmd => Sys2Proof.Machine.execTasks job cmd s
  | .copy job cmd ecc link => Sys2Proof.Machine.execCopy job cmd ecc link s
  | .awrite job cmd ecc => Sys2Proof.Machine.execAwrite job cmd ecc s
  | .loadpkg job cmd ecc => Sys2Proof.Machine.execLoadpkg job cmd ecc s
  | .ctxptr job cmd => Sys2Proof.Machine.execCtxptr job cmd s
  | .testpat job cmd ecc => Sys2Proof.Machine.execTestpat job cmd ecc s
  | .digest job cmd => Sys2Proof.Machine.execDigest job cmd s
  | .engCfgWrite n e r v => Sys2Proof.Machine.execEngCfgWrite n e r v s
  | .engEnable n e => Sys2Proof.Machine.execEngEnable n e s
  | .engDisable n e => Sys2Proof.Machine.execEngDisable n e s
  | .msixMessage v => Sys2Proof.Machine.execMsixMessage v s
  | .msixUnmask v => Sys2Proof.Machine.execMsixUnmask v s
  | .k1Run n e => Sys2Proof.Machine.execK1Run n e s
  | .k1Copy n e => Sys2Proof.Machine.execK1Copy n e s
  | .k1Load n e => Sys2Proof.Machine.execK1Load n e s
  | .k1Fence n e => Sys2Proof.Machine.execK1Fence n e s
  | .k1FenceClear n e => Sys2Proof.Machine.execK1FenceClear n e s
  | .k1Intr n e => Sys2Proof.Machine.execK1Intr n e s
  | .k1Nop n e => Sys2Proof.Machine.execK1Nop n e s
  | .signatureVerify => Sys2Proof.Machine.execSignatureVerify s
  | .manifestWrite job cmd => Sys2Proof.Machine.execManifestWrite job cmd s
  | .contextChangeEffect c => Sys2Proof.Machine.execContextChangeEffect c s
  | .replacingEnd c => Sys2Proof.Machine.execReplacingEnd c s
  | .oldBusyClear c => Sys2Proof.Machine.execOldBusyClear c s
  | .unloadEmpty c => Sys2Proof.Machine.execUnloadEmpty c s
  | .ctxEventsClr c => Sys2Proof.Machine.execCtxEventsClr c s
  | .ldClr n => Sys2Proof.Machine.execLdClr n s
  | .distStatClr => Sys2Proof.Machine.execDistStatClr s
  | .leaEnable p => Sys2Proof.Machine.execLeaEnable p s
  | .leaDisable p => Sys2Proof.Machine.execLeaDisable p s
  | .leaRetrain p => Sys2Proof.Machine.execLeaRetrain p s
  | .leaTrainDone p => Sys2Proof.Machine.execLeaTrainDone p s
  | .leaAlignDone p => Sys2Proof.Machine.execLeaAlignDone p s
  | .leaAttemptFail p => Sys2Proof.Machine.execLeaAttemptFail p s
  | .leaTrainFrame p kind rate node port dbuf cbuf agreed => Sys2Proof.Machine.execLeaTrainFrame p kind rate node port dbuf cbuf agreed s
  | .leaLockLoss p => Sys2Proof.Machine.execLeaLockLoss p s
  | .leaBreakEnd p => Sys2Proof.Machine.execLeaBreakEnd p s
  | .leaFrameSlot p job => Sys2Proof.Machine.execLeaFrameSlot p job s
  | .leaDataFrame p h prov addr origin jobref data crc tid seq => Sys2Proof.Machine.execLeaDataFrame p h prov addr origin jobref data crc tid seq s
  | .leaIdleFrame p h => Sys2Proof.Machine.execLeaIdleFrame p h s
  | .leaBadFrame p crcBad uncorr => Sys2Proof.Machine.execLeaBadFrame p crcBad uncorr s
  | .leaNak p h => Sys2Proof.Machine.execLeaNak p h s
  | .leaReplayTimeout p => Sys2Proof.Machine.execLeaReplayTimeout p s
  | .retryExhausted p => Sys2Proof.Machine.execRetryExhausted p s
  | .creditStall p => Sys2Proof.Machine.execCreditStall p s
  | .confirm p h m => Sys2Proof.Machine.execConfirm p h m s
  | .retract p h m => Sys2Proof.Machine.execRetract p h m s
  | .committed p h m => Sys2Proof.Machine.execCommitted p h m s
  | .digestMessage p h m body => Sys2Proof.Machine.execDigestMessage p h m body s
  | .addrFault p h m addr => Sys2Proof.Machine.execAddrFault p h m addr s
  | .leaPortStatClr p => Sys2Proof.Machine.execLeaPortStatClr p s
  | .leaCtrlStatClr => Sys2Proof.Machine.execLeaCtrlStatClr s
  | .finEdge n high samples => Sys2Proof.Machine.execFinEdge n high samples s
  | .finStuck n => Sys2Proof.Machine.execFinStuck n s
  | .finStuckEnd n => Sys2Proof.Machine.execFinStuckEnd n s
  | .encTransition e a b samples => Sys2Proof.Machine.execEncTransition e a b samples s
  | .encPosWrite e v => Sys2Proof.Machine.execEncPosWrite e v s
  | .tqPop r q => Sys2Proof.Machine.execTqPop r q s
  | .tqFlush q => Sys2Proof.Machine.execTqFlush q s
  | .tqWatermarkWrite q high low => Sys2Proof.Machine.execTqWatermarkWrite q high low s
  | .tqCopyMismatch q occ1 occ2 wr1 wr2 => Sys2Proof.Machine.execTqCopyMismatch q occ1 occ2 wr1 wr2 s
  | .finStatClr n => Sys2Proof.Machine.execFinStatClr n s
  | .encClr e => Sys2Proof.Machine.execEncClr e s
  | .tqCntClr q => Sys2Proof.Machine.execTqCntClr q s
  | .ainModeWrite v => Sys2Proof.Machine.execAinModeWrite v s
  | .ainConfigWrite r v => Sys2Proof.Machine.execAinConfigWrite r v s
  | .ainStart => Sys2Proof.Machine.execAinStart s
  | .ainInjGo => Sys2Proof.Machine.execAinInjGo s
  | .ainCalZero c => Sys2Proof.Machine.execAinCalZero c s
  | .ainCalGain c => Sys2Proof.Machine.execAinCalGain c s
  | .ainPaceTimer => Sys2Proof.Machine.execAinPaceTimer s
  | .adcStartupEnd k => Sys2Proof.Machine.execAdcStartupEnd k s
  | .adcConversionEnd k raw => Sys2Proof.Machine.execAdcConversionEnd k raw s
  | .ainResRead n r => Sys2Proof.Machine.execAinResRead n r s
  | .ainInjResRead r => Sys2Proof.Machine.execAinInjResRead r s
  | .ainCntClr => Sys2Proof.Machine.execAinCntClr s
  | .aoutStagedWrite k r v => Sys2Proof.Machine.execAoutStagedWrite k r v s
  | .aoutUpdate k => Sys2Proof.Machine.execAoutUpdate k s
  | .aoutWrapUpdate k => Sys2Proof.Machine.execAoutWrapUpdate k s
  | .aoutSync k => Sys2Proof.Machine.execAoutSync k s
  | .aoutForceSafe k => Sys2Proof.Machine.execAoutForceSafe k s
  | .aoutRelease k => Sys2Proof.Machine.execAoutRelease k s
  | .aoutPhaseEvent k => Sys2Proof.Machine.execAoutPhaseEvent k s
  | .aoutCompliance k => Sys2Proof.Machine.execAoutCompliance k s
  | .dacLockLoss => Sys2Proof.Machine.execDacLockLoss s
  | .dacRelock => Sys2Proof.Machine.execDacRelock s
  | .stileLinkLoss => Sys2Proof.Machine.execStileLinkLoss s
  | .stileLinkRestore => Sys2Proof.Machine.execStileLinkRestore s
  | .sensorConversion xs => Sys2Proof.Machine.execSensorConversion xs s
  | .sensorTimeout k => Sys2Proof.Machine.execSensorTimeout k s
  | .powerMeasurement p => Sys2Proof.Machine.execPowerMeasurement p s
  | .thmForceTrip => Sys2Proof.Machine.execThmForceTrip s
  | .restartGate xs => Sys2Proof.Machine.execRestartGate xs s
  | .restartRecheck xs hang time => Sys2Proof.Machine.execRestartRecheck xs hang time s
  | .deepSleepSensorRead xs => Sys2Proof.Machine.execDeepSleepSensorRead xs s
  | .powerRequest target wake => Sys2Proof.Machine.execPowerRequest target wake s
  | .blockAgree code => Sys2Proof.Machine.execBlockAgree code s
  | .blockRefuse code => Sys2Proof.Machine.execBlockRefuse code s
  | .delayExpired code => Sys2Proof.Machine.execDelayExpired code s
  | .wakeNLow => Sys2Proof.Machine.execWakeNLow s
  | .hostWake => Sys2Proof.Machine.execHostWake s
  | .wakeTimer => Sys2Proof.Machine.execWakeTimer s
  | .quarterBringup q => Sys2Proof.Machine.execQuarterBringup q s
  | .quarterOff q => Sys2Proof.Machine.execQuarterOff q s
  | .quarterOn q => Sys2Proof.Machine.execQuarterOn q s
  | .quarterSwitchDone q => Sys2Proof.Machine.execQuarterSwitchDone q s
  | .pwrClrCnt => Sys2Proof.Machine.execPwrClrCnt s
  | .standbyRailUp => Sys2Proof.Machine.execStandbyRailUp s
  | .standbyRailLoss => Sys2Proof.Machine.execStandbyRailLoss s
  | .mainEnable => Sys2Proof.Machine.execMainEnable s
  | .mainGoodTimeout => Sys2Proof.Machine.execMainGoodTimeout s
  | .mainGoodFall => Sys2Proof.Machine.execMainGoodFall s
  | .rstNLow => Sys2Proof.Machine.execRstNLow s
  | .start flashOk ident link hang time => Sys2Proof.Machine.execStart flashOk ident link hang time s
  | .startWatchdog => Sys2Proof.Machine.execStartWatchdog s
  | .perst link => Sys2Proof.Machine.execPerst link s
  | .standingTriggerEvent q => Sys2Proof.Machine.execStandingTriggerEvent q s
  | .standingTimer b => Sys2Proof.Machine.execStandingTimer b s
  | .standingOutputAction => Sys2Proof.Machine.execStandingOutputAction s
  | .pulseEnd n => Sys2Proof.Machine.execPulseEnd n s
  | .spClr => Sys2Proof.Machine.execSpClr s
  | .drain n => Sys2Proof.Machine.execDrain n s
  | .reopen n => Sys2Proof.Machine.execReopen n s
  | .drained n => Sys2Proof.Machine.execDrained n s
  | .reinit n => Sys2Proof.Machine.execReinit n s
  | .reinitDone n ok => Sys2Proof.Machine.execReinitDone n ok s
  | .stackFail n => Sys2Proof.Machine.execStackFail n s
  | .fwSwitch => Sys2Proof.Machine.execFwSwitch s
  | .fwSwitchDone => Sys2Proof.Machine.execFwSwitchDone s
  | .fwSwitchTimeout oldOk => Sys2Proof.Machine.execFwSwitchTimeout oldOk s
  | .bootFallow => Sys2Proof.Machine.execBootFallow s
  | .mboxRead ok => Sys2Proof.Machine.execMboxRead ok s
  | .erase ok => Sys2Proof.Machine.execErase ok s
  | .program ok => Sys2Proof.Machine.execProgram ok s
  | .verifySlot ok => Sys2Proof.Machine.execVerifySlot ok s
  | .verifyBank ok => Sys2Proof.Machine.execVerifyBank ok s
  | .reboot => Sys2Proof.Machine.execReboot s
  | .mboxFallow => Sys2Proof.Machine.execMboxFallow s
  | .mboxReserved cmd => Sys2Proof.Machine.execMboxReserved cmd s
  | .bootMboxDone => Sys2Proof.Machine.execBootMboxDone s
  | .getId => Sys2Proof.Machine.execGetId s
  | .attest => Sys2Proof.Machine.execAttest s
  | .attestSnapshot => Sys2Proof.Machine.execAttestSnapshot s
  | .getCert => Sys2Proof.Machine.execGetCert s
  | .enroll helper => Sys2Proof.Machine.execEnroll helper s
  | .secReserved cmd => Sys2Proof.Machine.execSecReserved cmd s
  | .secMboxDone => Sys2Proof.Machine.execSecMboxDone s
  | .secClrCnt => Sys2Proof.Machine.execSecClrCnt s
  | .read64Low a off => Sys2Proof.Machine.execRead64Low a off s
  | .read64High a off => Sys2Proof.Machine.execRead64High a off s
  | .write64Low a off v => Sys2Proof.Machine.execWrite64Low a off v s
  | .write64High a off v => Sys2Proof.Machine.execWrite64High a off v s
  | .bar0BadAccess read => Sys2Proof.Machine.execBar0BadAccess read s
  | .registerWrite a off data => Sys2Proof.Machine.execRegisterWrite a off data s
  | .pinFunctionWrite r v => Sys2Proof.Machine.execPinFunctionWrite r v s
  | .extest good pins shifted => Sys2Proof.Machine.execExtest good pins shifted s
  | .idcode => Sys2Proof.Machine.execIdcode s
  | .samplePreload pins shifted => Sys2Proof.Machine.execSamplePreload pins shifted s
  | .clamp good => Sys2Proof.Machine.execClamp good s
  | .highz good => Sys2Proof.Machine.execHighz good s
  | .extestPulse good pins shifted => Sys2Proof.Machine.execExtestPulse good pins shifted s
  | .extestTrain good pins shifted => Sys2Proof.Machine.execExtestTrain good pins shifted s
  | .bypass code => Sys2Proof.Machine.execBypass code s
  | .tussockPllLock g => Sys2Proof.Machine.execTussockPllLock g s
  | .tableInitDone g => Sys2Proof.Machine.execTableInitDone g s
  | .stateRunAfterWake ticks => Sys2Proof.Machine.execStateRunAfterWake ticks s
  | .k1Reserved n e => Sys2Proof.Machine.execK1Reserved n e s
  | .reservedCtrlMessage p h m msg body => Sys2Proof.Machine.execReservedCtrlMessage p h m msg body s

end Sys2Proof.Machine
end

