-- ==== Sys2Proof/Safety.lean ====
section
/-! DEFINITION. What the statements call safe, and how they say what a command leaves alone: the invariant of a state, a run that
does not stop, and the frames. -/

namespace Sys2Proof.Machine
open Sys2Proof

/-- What holds of every state of a run that starts with it: device memory is in its canonical form, so that equal memories are
equal lists. -/
def State.Inv (s : State) : Prop := Memory.wf s.mem = true

/-- A run from a state that neither faults nor is refused, however many steps it takes. -/
def State.NeverStops (s : State) : Prop := ∀ k, ∃ t, Host.Core.run Sys2Proof.core k s = .next t

/-! ### Frames -/

/-- Every register field outside a list reads in `t` as in `s`. -/
def State.RegsBut (s t : State) (fs : List Fld) : Prop := ∀ f : Fld, f.key ∉ fs.map Fld.key → t.get f = s.get f

/-- Between `s` and `t` nothing changes but register fields of a list. -/
def State.OnlyRegs (s t : State) (fs : List Fld) : Prop := t = { s with regs := t.regs } ∧ s.RegsBut t fs

/-- Between `s` and `t` nothing changes but register fields of a list and what Tussock `g` holds outside the registers. -/
def State.OnlyTuss (s t : State) (g : Nat) (fs : List Fld) : Prop :=
  t = { s with regs := t.regs, tusss := t.tusss } ∧ s.RegsBut t fs ∧ ∀ h, h ≠ g → t.tuss h = s.tuss h

/-- The two words of GLB_IRQ_EVENT. -/
def eventFlds : List Fld := [F.GLB_IRQ_EVENT_LO_EVENT, F.GLB_IRQ_EVENT_HI_EVENT]

/-- The GLB_IRQ_EVENT bit of vector `v`. -/
def State.event (s : State) (v : Nat) : Bool :=
  if v < 32 then bitOf (s.get F.GLB_IRQ_EVENT_LO_EVENT) v else bitOf (s.get F.GLB_IRQ_EVENT_HI_EVENT) (v - 32)

/-- Between `s` and `t` vector `v` has an event and no other vector has (R485 numbers 0 to 46): its event bit is set and its message falls due. -/
def State.Raised (s t : State) (v : Nat) : Prop :=
  t.irq = { s.irq with now := setMask s.irq.now v } ∧ ∀ b, b < 47 → t.event b = (s.event b || b == v)

/-- Between `s` and `t` vector `v` has an event exactly if a condition holds, and no other vector has one. -/
def State.RaisedIf (s t : State) (v : Nat) (p : Prop) : Prop :=
  (p → s.Raised t v) ∧ (¬p → t.irq = s.irq ∧ ∀ b, b < 47 → t.event b = s.event b)

/-- Between `s` and `t` quarantine cause `b` of Tussock `g` arises and no other (R158): its bit is set, and it is due unless the
Tussock is QUARANTINED or OFF. -/
def State.CauseRaised (s t : State) (g b : Nat) : Prop :=
  (∀ k, k < 4 → bitOf (t.get (F.TSK_QUAR_CAUSE_CAUSE g)) k = (bitOf (s.get (F.TSK_QUAR_CAUSE_CAUSE g)) k || k == b)) ∧
  ((t.tuss g).quarDue = true ↔ (s.tuss g).quarDue = true ∨ ¬(s.tskState g = tQUAR ∨ s.tskState g = tOFF))

/-- Between `s` and `t` no quarantine cause of Tussock `g` arises. -/
def State.NoCause (s t : State) (g : Nat) : Prop :=
  t.get (F.TSK_QUAR_CAUSE_CAUSE g) = s.get (F.TSK_QUAR_CAUSE_CAUSE g) ∧ (t.tuss g).quarDue = (s.tuss g).quarDue

/-- What the latest read of an agent was completed with. -/
def State.readData (s : State) : Agent → Nat
  | .host => s.host.readData
  | .mgmt => s.mgmt.readData

/-- Between `s` and `t` nothing changes but register fields of a list and the read data of an agent, which is `v`. -/
def State.Answers (s t : State) (a : Agent) (v : Nat) (fs : List Fld) : Prop :=
  t.readData a = v ∧ s.RegsBut t fs ∧
    t = { s with regs := t.regs, host := { s.host with readData := t.host.readData },
                 mgmt := { s.mgmt with readData := t.mgmt.readData } } ∧
    ∀ b, b ≠ a → t.readData b = s.readData b

/-! ### The commands by what gates them -/

/-- The register whose write a command is: the write has its effect only where software reaches that register. -/
def regRow : Instr → Option (RegName × Nat)
  | .ainModeWrite _ => some (.STL_AIN_CFG, 0)
  | .ainConfigWrite _ _ => some (.STL_AIN_PACE, 0)
  | .ainStart => some (.STL_AIN_CTRL, 0)
  | .ainInjGo => some (.STL_AIN_CTRL, 0)
  | .ainCalZero _ => some (.STL_AIN_CTRL, 0)
  | .ainCalGain _ => some (.STL_AIN_CTRL, 0)
  | .ainCntClr => some (.STL_AIN_CNT, 0)
  | .aoutStagedWrite k _ _ => some (.STL_AOUT_CFG, k)
  | .aoutUpdate _ => some (.STL_AOUT_CTRL, 0)
  | .aoutSync _ => some (.STL_AOUT_CTRL, 0)
  | .aoutForceSafe _ => some (.STL_AOUT_CTRL, 0)
  | .aoutRelease _ => some (.STL_AOUT_CTRL, 0)
  | .arrClrCnt g _ => some (.TSK_ARR_CTRL, g)
  | .convCfgWrite g _ _ _ => some (.TSK_CONV_CFG, g)
  | .convClrSat g _ => some (.TSK_CONV_CFG, g)
  | .tableClrEcc g => some (.TSK_CONV_STATUS, g)
  | .brkStartPass g => some (.BRK_CTRL, g)
  | .brkAbort g => some (.BRK_CTRL, g)
  | .brkClrCnt g => some (.BRK_CTRL, g)
  | .trimDataWrite g _ => some (.BRK_TRIM_DATA, g)
  | .engCfgWrite n e _ _ => some (.CHN_ENG_CFG, 4 * n + e)
  | .encPosWrite e _ => some (.STL_ENC_POS, e)
  | .tqFlush q => some (.STL_TQ_CFG, q)
  | .tqWatermarkWrite q _ _ => some (.STL_TQ_CFG, q)
  | .finStatClr i => some (.STL_FIN_STAT, i)
  | .encClr e => some (.STL_ENC_CFG, e)
  | .tqCntClr q => some (.STL_TQ_CNT, q)
  | .readmit _ => some (.GRS_REP_CTRL, 0)
  | .fractionWrite _ => some (.GRS_CFG, 0)
  | .horizonWrite _ => some (.GRS_CFG, 0)
  | .grsClrCnt => some (.GRS_CTRL, 0)
  | .grsClrPeak => some (.GRS_CTRL, 0)
  | .thmForceTrip => some (.THM_CTRL, 0)
  | .rgnFaultClear => some (.GLB_RGN_FAULT_INFO, 0)
  | .bar2BaseWrite _ => some (.PCI_BAR2_BASE, 0)
  | .t3LateClr => some (.PCI_T3_LATE, 0)
  | .hdgErrClr n => some (.CHN_HDG_ERR, n)
  | .stkErrClr n => some (.CHN_STK_ERR, n)
  | .ingStallClr => some (.PCI_ING_STALL, 0)
  | .admClrCnt n => some (.CHN_ADM_CTRL, n)
  | .admClrPeak n => some (.CHN_ADM_CTRL, n)
  | .leaEnable p => some (.LEA_PORT_CFG, p)
  | .leaDisable p => some (.LEA_PORT_CFG, p)
  | .leaRetrain p => some (.LEA_PORT_CFG, p)
  | .leaPortStatClr p => some (.LEA_PORT_STAT, p)
  | .leaCtrlStatClr => some (.LEA_CTRL_STAT, 0)
  | .ctxEventsClr c => some (.GLB_CTX_EVENTS, c)
  | .ldClr n => some (.CHN_LD_CTRL, n)
  | .distStatClr => some (.GLB_DIST_STAT, 0)
  | .pinFunctionWrite r _ => some (pinSpot r)
  | .powerRequest _ _ => some (.PWR_CTRL, 0)
  | .hostWake => some (.PWR_CTRL, 0)
  | .quarterOff _ => some (.PWR_QUARTER_OFF, 0)
  | .quarterOn _ => some (.PWR_QUARTER_OFF, 0)
  | .pwrClrCnt => some (.PWR_CTRL, 0)
  | .getId => some (.SEC_MBOX_CMD, 0)
  | .attest => some (.SEC_MBOX_CMD, 0)
  | .getCert => some (.SEC_MBOX_CMD, 0)
  | .enroll _ => some (.SEC_MBOX_CMD, 0)
  | .secReserved _ => some (.SEC_MBOX_CMD, 0)
  | .secClrCnt => some (.SEC_CTRL, 0)
  | .drain _ => some (.GLB_CHN_CTRL, 0)
  | .reopen _ => some (.GLB_CHN_CTRL, 0)
  | .reinit _ => some (.GLB_CHN_CTRL, 0)
  | .fwSwitch => some (.BOOT_CTRL, 0)
  | .bootFallow => some (.BOOT_CTRL, 0)
  | .mboxRead _ => some (.BOOT_MBOX_CMD, 0)
  | .erase _ => some (.BOOT_MBOX_CMD, 0)
  | .program _ => some (.BOOT_MBOX_CMD, 0)
  | .verifySlot _ => some (.BOOT_MBOX_CMD, 0)
  | .verifyBank _ => some (.BOOT_MBOX_CMD, 0)
  | .reboot => some (.BOOT_MBOX_CMD, 0)
  | .mboxFallow => some (.BOOT_MBOX_CMD, 0)
  | .mboxReserved _ => some (.BOOT_MBOX_CMD, 0)
  | .spClr => some (.BOOT_SP_STATUS, 0)
  | .tskQuarantineWrite g => some (.TSK_CTRL, g)
  | .tskReenable g _ => some (.TSK_CTRL, g)
  | .tskClrSeq g => some (.TSK_CTRL, g)
  | .bankClrEcc g => some (.TSK_BANK_ECC, g)
  | _ => none

/-- The power domain in which an event comes about. -/
def powerRow : Instr → Option Domain
  | .ainPaceTimer => some .stile
  | .adcStartupEnd _ => some .stile
  | .adcConversionEnd _ _ => some .stile
  | .aoutWrapUpdate _ => some .stile
  | .aoutPhaseEvent _ => some .stile
  | .aoutCompliance _ => some .stile
  | .dacLockLoss => some .stile
  | .dacRelock => some .stile
  | .stileLinkLoss => some .stile
  | .stileLinkRestore => some .stile
  | .eval g _ _ => some (.quarter (quarterOf g))
  | .phaseB g _ _ => some (.quarter (quarterOf g))
  | .conversion g _ _ => some (.quarter (quarterOf g))
  | .lookup g _ _ => some (.quarter (quarterOf g))
  | .tableEccWriteback g => some (.quarter (quarterOf g))
  | .restoreSlot g _ _ _ _ => some (.quarter (quarterOf g))
  | .rowWrite g _ _ _ => some (.quarter (quarterOf g))
  | .passStart g => some (.quarter (quarterOf g))
  | .windowStage g _ => some (.quarter (quarterOf g))
  | .windowEnd g => some (.quarter (quarterOf g))
  | .abandonReturnValid g => some (.quarter (quarterOf g))
  | .refgenApply g => some (.quarter (quarterOf g))
  | .bringupCalibration g _ => some (.quarter (quarterOf g))
  | .partialSumDelivery g _ => some (.quarter (quarterOf g))
  | .msixMessage _ => some .pcie
  | .msixUnmask _ => some .pcie
  | .finEdge _ _ _ => some .stile
  | .finStuck _ => some .stile
  | .finStuckEnd _ => some .stile
  | .encTransition _ _ _ _ => some .stile
  | .tqCopyMismatch _ _ _ _ _ => some .stile
  | .checkSlot g _ _ => some (.quarter (quarterOf g))
  | .checkComparison g _ => some (.quarter (quarterOf g))
  | .arbitrationStart g => some (.quarter (quarterOf g))
  | .arbitrationDecide g => some (.quarter (quarterOf g))
  | .checksumRefreshEnd g _ => some (.quarter (quarterOf g))
  | .repairWritesPlace g => some (.quarter (quarterOf g))
  | .repairRerun g _ => some (.quarter (quarterOf g))
  | .tileReprogramming g => some (.quarter (quarterOf g))
  | .sensorTimeout _ => some .spine
  | .powerMeasurement _ => some .spine
  | .blockArrive n _ _ _ _ _ _ _ _ _ => some (.core n)
  | .pcieInboundWrite _ _ _ => some .pcie
  | .pcieInboundRead _ _ _ => some .pcie
  | .stackFail n => some (.stack n)
  | .shadow g _ _ => some (.quarter (quarterOf g))
  | .matmul g _ _ _ => some (.quarter (quarterOf g))
  | .vector g _ _ _ => some (.quarter (quarterOf g))
  | .swathMarker g _ => some (.quarter (quarterOf g))
  | .markerLate g => some (.quarter (quarterOf g))
  | .tussockLockLoss g => some (.quarter (quarterOf g))
  | .tussockPllLock g => some (.quarter (quarterOf g))
  | .quarantine g => some (.quarter (quarterOf g))
  | .reenableService g => some (.quarter (quarterOf g))
  | .tableInitDone g => some (.quarter (quarterOf g))
  | .slotExchange g => some (.quarter (quarterOf g))
  | .t3ReadCompletion _ _ _ _ _ => some .pcie
  | .tileTaskEnqueue g _ _ _ _ _ _ _ _ => some (.quarter (quarterOf g))
  | .ingressStall => some .pcie
  | _ => none

/-- The fields that a clearing command clears. -/
def clearRow : Instr → List Fld
  | .tskClrSeq g => [F.TSK_SEQ_ERR_MISSED_CNT g, F.TSK_SEQ_ERR_CONFLICT_CNT g, F.TSK_SEQ_ERR_OVERFLOW_CNT g, F.TSK_SEQ_ERR_BAD_CNT g,
      F.TSK_SEQ_STATUS_PEAK g]
  | .bankClrEcc g => [F.TSK_BANK_ECC_CE_CNT g, F.TSK_BANK_ECC_UE_CNT g]
  | .arrClrCnt g a => [F.TSK_ARR_EVENTS_MARGINAL_CNT g a, F.TSK_ARR_EVENTS_INVALID_PAIR_CNT g a, F.TSK_ARR_EVENTS_VERIFY_FAIL_CNT g a]
  | .convClrSat g a => [F.TSK_CONV_SAT_SAT_CNT g a, F.TSK_CONV_SAT_AUX_SAT_CNT g a]
  | .tableClrEcc g => [F.TSK_TABLE_ECC_CE_CNT g, F.TSK_TABLE_ECC_UE_CNT g]
  | .brkClrCnt g => [F.BRK_CAL_CNT_ABANDON_CNT g, F.BRK_CAL_CNT_FAULT_CNT g, F.BRK_DEFER_OVERDUE_CNT g]
  | .t3LateClr => [F.PCI_T3_LATE_CNT]
  | .hdgErrClr n => [F.CHN_HDG_ERR_LINK_CE_CNT n, F.CHN_HDG_ERR_LINK_UE_CNT n, F.CHN_HDG_ERR_CRC_CNT n, F.CHN_HDG_ERR_TAG_CNT n]
  | .stkErrClr n => [F.CHN_STK_ERR_CE_CNT n, F.CHN_STK_ERR_UE_CNT n, F.CHN_STK_ERR_RMW_CNT n]
  | .ingStallClr => [F.PCI_ING_STALL_STALL_CNT]
  | .admClrCnt n => [F.CHN_ADM_ADMITTED_COUNT n, F.CHN_ADM_REFUSED_REFUSED n, F.CHN_ADM_REFUSED_THROTTLED n, F.CHN_ADM_HELD_HELD n,
      F.CHN_JOB_TIMEOUT_TIMEOUT_CNT n, F.CHN_JOB_TIMEOUT_MASKED_CNT n] ++
      (List.range 4).map (fun e => F.CHN_ENG_STATUS_BADCMD_CNT (4 * n + e)) ++
      (List.range 16).map fun k => F.CHN_ADM_SAT_REFUSED_CNT n k
  | .admClrPeak n => F.CHN_TAGS_PEAK n :: (List.range 16).map fun k => F.CHN_ADM_SAT_PEAK n k
  | .grsClrCnt => [F.GRS_ARB_CNT_CSUM_CNT, F.GRS_ARB_CNT_TRANSIENT_CNT, F.GRS_ARB_CNT_PERSIST_CNT, F.GRS_ARB_CNT_QUAR_CNT,
      F.GRS_EVT_CNT_FALSE_CNT, F.GRS_EVT_CNT_UNRES_CNT, F.GRS_EVT_CNT_LATE_CNT, F.GRS_EVT_CNT_COMMIT_RETRACT_CNT,
      F.GRS_REP_STATUS_EXPEL_CNT, F.GRS_REP_STATUS_NO_MAJ_CNT, F.GRS_REP_STATUS_FEW_CNT,
      F.GRS_REP_STATUS_PROBATION_FAIL_CNT, F.GRS_TP_STATUS_FAIL_CNT]
  | .grsClrPeak => [F.GRS_PROV_PEAK]
  | .ctxEventsClr c => [F.GLB_CTX_EVENTS_SUPERSEDED_CNT c, F.GLB_CTX_EVENTS_REFUSED_CNT c]
  | .ldClr n => [F.CHN_LD_PKG_ACCEPTED n, F.CHN_LD_PKG_REJECTED n, F.CHN_LD_CLAMP_CLAMP_CNT n]
  | .distStatClr => [F.GLB_DIST_STAT_MISS_CNT]
  | .leaPortStatClr p => [F.LEA_PORT_ERR_CRC_CNT p, F.LEA_PORT_ERR_TRY_CNT p, F.LEA_PORT_ERR_EXHAUST_CNT p,
      F.LEA_PORT_FEC_CORR_CNT p, F.LEA_PORT_FEC_UNCORR_CNT p, F.LEA_PORT_TX_FRAMES p, F.LEA_PORT_RX_FRAMES p,
      F.LEA_PORT_STAT_LEGACY_PROV_CNT p, F.LEA_PORT_STAT_DENIED_CNT p]
  | .leaCtrlStatClr => [F.LEA_CTRL_STAT_DROP_CNT, F.LEA_CTRL_STAT_LATE_FAULT_CNT]
  | .finStatClr i => [F.STL_FIN_STAT_OVR_CNT i, F.STL_FIN_STAT_SUPP_CNT i]
  | .encClr e => [F.STL_ENC_CFG_ERR_CNT e]
  | .tqCntClr q => [F.STL_TQ_CNT_OVF_CNT q, F.STL_TQ_CNT_DUP_CNT q, F.STL_TQ_CNT_LOST_CNT q]
  | .ainCntClr => [F.STL_AIN_CNT_INJ_DROP_CNT, F.STL_AIN_CNT_PACE_OVR_CNT]
  | .pwrClrCnt => [F.PWR_REFUSE_REFUSED_CNT, F.PWR_REFUSE_ABORTED_CNT, F.PWR_ENTRY_CNT_ENTERED_CNT]
  | .spClr => [F.BOOT_SP_STATUS_DROP_CNT]
  | .secClrCnt => [F.SEC_VERIFY_CNT_PASS_CNT, F.SEC_VERIFY_CNT_FAIL_CNT]
  | _ => []

end Sys2Proof.Machine
end

