-- ==== Sys2Proof/Certificates/Slice0/Obligations.lean ====
section
/-! DEFINITION. The statements: what the device's rules say of its commands, one proposition each. -/

open Sys2Proof Sys2Proof.Machine

/-- A step carries out the command at the front of the queue, on the state with the rest of the queue; with an empty queue device
time goes on by 1 ns within its swath (log entries 1, 2 and 8, DESIGN CHOICE). -/
def Obligations.StepRunsFrontCommandElseIdles : Prop :=
  (∀ (c : Instr) (rest : List Instr) (s : State), step { s with pending := c :: rest } = exec c { s with pending := rest }) ∧
  ∀ s : State, s.pending = [] →
    (s.powered .spine = false ∨ (s.time + 1) % 8192 = 0 → step s = .next s) ∧
    (s.powered .spine = true → (s.time + 1) % 8192 ≠ 0 → ∃ t, step s = .next t ∧
      ((s.time + 1) % 8192 ≠ 4096 → t = { s with time := s.time + 1 }) ∧
      ((s.time + 1) % 8192 = 4096 → t = State.admitted { s with time := s.time + 1 }))

/-- No command stops the device: every run goes on. -/
def Obligations.NoRunStops : Prop := ∀ s : State, s.NeverStops

/-- No command adds to, drops or reorders the commands that wait. -/
def Obligations.CommandsLeaveTheQueue : Prop :=
  ∀ (c : Instr) (s t : State), exec c s = .next t → t.pending = s.pending

/-- Every step keeps memory in its canonical form. -/
def Obligations.StepsKeepMemoryCanonical : Prop := ∀ s t : State, s.Inv → step s = .next t → t.Inv

/-- The invariant holds at reset, and the registers hold the reset values that the tables of the spec give. -/
def Obligations.ResetLeavesTheStatedValues : Prop :=
  State.reset.Inv ∧ State.reset.pending = [] ∧ State.reset.heather.phase = .railsDown ∧ (∀ d, State.reset.powered d = false) ∧
  (∀ g, State.reset.get (F.TSK_STATE_STATE g) = 2 ∧ State.reset.get (F.TSK_QUAR_CAUSE_CAUSE g) = 8) ∧
  (∀ k, State.reset.get (F.STL_AOUT_STATUS_IN_SAFE k) = 1 ∧ State.reset.get (F.STL_AOUT_STATUS_CAUSE k) = 1) ∧
  (∀ k, State.reset.get (F.THM_SENS_TEMP k) = 1000 ∧ State.reset.get (F.THM_SENS_BROKEN k) = 1) ∧
  State.reset.get (F.GLB_RGN_LIMIT_LIMIT 0) = 0x10003FFFF ∧ State.reset.get F.THM_CFG_THR = 100 ∧ State.reset.get F.THM_CFG_TRIP = 115 ∧
  State.reset.get F.THM_CFG_STK_THR = 85 ∧ State.reset.get F.THM_CFG_STK_TRIP = 105 ∧ State.reset.get F.THM_PWR_PWR_LIM = 300 ∧
  State.reset.get F.THM_PWR_PEAK_LIM = 360 ∧ State.reset.get F.PWR_CFG_DELAY_LIMIT = 40 ∧ State.reset.get F.PWR_WAKE_EN_EN = 3

/-- A register-write command has no effect where its register cannot be reached. -/
def Obligations.UnreachableWriteIsDropped : Prop :=
  ∀ (c : Instr) (r : RegName) (i : Nat) (s : State), regRow c = some (r, i) → s.reach r i = false → exec c s = .next s

/-- An event command has no effect while its power domain is off. -/
def Obligations.EventNeedsItsPower : Prop :=
  ∀ (c : Instr) (d : Domain) (s : State), powerRow c = some d → s.powered d = false → exec c s = .next s

/-- A clearing command sets exactly its fields to 0; those of the field inputs note the field clock (R376). -/
def Obligations.ClearingCommandsClear : Prop :=
  ∀ (c : Instr) (r : RegName) (i : Nat) (s : State), clearRow c ≠ [] → regRow c = some (r, i) → s.reach r i = true →
    ∃ t, exec c s = .next t ∧ (∀ f ∈ clearRow c, t.get f = 0) ∧ State.OnlyRegs { s with stile := t.stile } t (clearRow c) ∧
      ((∀ n, c ≠ .finStatClr n) → (∀ e, c ≠ .encClr e) → (∀ q, c ≠ .tqCntClr q) → t.stile = s.stile) ∧
      (∀ n, c = .finStatClr n → t.stile = { s.stile with fins := t.stile.fins } ∧
        t.fin n = { s.fin n with clrAt := some s.fieldClock } ∧ ∀ k, k ≠ n.val → t.fin k = s.fin k) ∧
      (∀ e, c = .encClr e → t.stile = { s.stile with encs := t.stile.encs } ∧
        t.enc e = { s.enc e with clrAt := some s.fieldClock } ∧ ∀ k, k ≠ e.val → t.enc k = s.enc k) ∧
      (∀ q, c = .tqCntClr q → t.stile = { s.stile with tqs := t.stile.tqs } ∧
        t.tq q = { s.tq q with clrAt := some s.fieldClock } ∧ ∀ k, k ≠ q.val → t.tq k = s.tq k)

/-- RGN_FAULT_CLEAR releases the record, and clears the count when there is none (log entry 12). -/
def Obligations.RegionFaultClearReleasesRecord : Prop :=
  ∀ s : State, s.reach .GLB_RGN_FAULT_INFO 0 = true →
    (s.get F.GLB_RGN_FAULT_INFO_VALID ≠ 0 → ∃ t, exec .rgnFaultClear s = .next t ∧ t.get F.GLB_RGN_FAULT_INFO_VALID = 0 ∧
      s.OnlyRegs t [F.GLB_RGN_FAULT_INFO_VALID]) ∧
    (s.get F.GLB_RGN_FAULT_INFO_VALID = 0 → ∃ t, exec .rgnFaultClear s = .next t ∧ t.get F.GLB_RGN_FAULT_INFO_FAULT_CNT = 0 ∧
      s.OnlyRegs t [F.GLB_RGN_FAULT_INFO_FAULT_CNT])

/-- R156: late markers, wrong swath numbers and loss of lock. -/
def Obligations.TussockClockFaultsQuarantine : Prop :=
  let follows (g : Nat) : List Fld := ((List.range 17).flatMap fun a => [F.TSK_ARR_STATE_PASS_THROUGH g a, F.BRK_ARR_CAL_STALE g a]) ++
    [F.BRK_STATUS_CURRENT g]
  (∀ (g : Tsk) (s : State) (x : Nat), s.onT g = true → (s.tuss g).abortDue = false → (s.tuss g).open_ = some x →
    ∃ t, exec (.markerLate g) s = .next t ∧ (t.tuss g).open_ = some (x + 1) ∧ (t.tuss g).late = (s.tuss g).late + 1 ∧
      t.get (F.TSK_CLK_STATUS_MARKER_LATE g) = 1 ∧
      t.get (F.TSK_CLK_STATUS_LATE_CNT g) = min (s.get (F.TSK_CLK_STATUS_LATE_CNT g) + 1) (2 ^ (F.TSK_CLK_STATUS_LATE_CNT g).w - 1) ∧
      (1 ≤ (s.tuss g).late → s.CauseRaised t g 2) ∧ ((s.tuss g).late = 0 → s.NoCause t g) ∧
      s.OnlyTuss t g ([F.TSK_CLK_STATUS_MARKER_LATE g, F.TSK_CLK_STATUS_LATE_CNT g, F.TSK_QUAR_CAUSE_CAUSE g] ++
        follows g)) ∧
  (∀ (g : Tsk) (w : BitVec 51) (s : State) (x : Nat), s.onT g = true → (s.tuss g).abortDue = false → s.tskState g ≠ tREEN → (s.tuss g).open_ = some x →
    ¬(w.toNat = x ∧ (s.tuss g).late ≠ 0) →
    ∃ t, exec (.swathMarker g w) s = .next t ∧ (t.tuss g).open_ = some w.toNat ∧ (t.tuss g).late = 0 ∧
      (w.toNat ≠ x + 1 → s.CauseRaised t g 2) ∧ (w.toNat = x + 1 → s.NoCause t g) ∧
      s.OnlyTuss t g (F.TSK_QUAR_CAUSE_CAUSE g :: follows g)) ∧
  (∀ (g : Tsk) (s : State), s.onT g = true →
    ∃ t, exec (.tussockLockLoss g) s = .next t ∧ t.get (F.TSK_CLK_STATUS_LOCKED g) = 0 ∧
      t.get (F.TSK_CLK_STATUS_LOCK_LOST g) = 1 ∧ s.CauseRaised t g 2 ∧
      s.OnlyTuss t g [F.TSK_CLK_STATUS_LOCKED g, F.TSK_CLK_STATUS_LOCK_LOST g, F.TSK_QUAR_CAUSE_CAUSE g])

/-- SWATH_MARKER in its other cases (R25, R160), and TUSSOCK_PLL_LOCK. -/
def Obligations.MarkerAndLockBringTussockUp : Prop :=
  (∀ (g : Tsk) (w : BitVec 51) (s : State), s.onT g = true → (s.tuss g).abortDue = false → s.tskState g ≠ tREEN → (s.tuss g).open_ = none →
    ∃ t, exec (.swathMarker g w) s = .next t ∧ (t.tuss g).open_ = some w.toNat ∧ (t.tuss g).late = 0 ∧ s.NoCause t g ∧
      (t.tuss g).trigNow = s.get (F.BRK_CFG_TRIG g) ∧
      s.OnlyTuss t g (((List.range 17).flatMap fun a => [F.TSK_ARR_STATE_PASS_THROUGH g a, F.BRK_ARR_CAL_STALE g a]) ++
        [F.BRK_STATUS_CURRENT g])) ∧
  (∀ (g : Tsk) (w : BitVec 51) (s : State), s.onT g = true → s.tskState g ≠ tREEN → (s.tuss g).open_ = some w.toNat →
    (s.tuss g).late ≠ 0 → exec (.swathMarker g w) s = .next s) ∧
  (∀ (g : Tsk) (w : BitVec 51) (s : State), s.onT g = true → (s.tuss g).abortDue = false → s.tskState g = tREEN → (s.tuss g).aligned = false →
    (s.tuss g).fwWrite = false → (s.tuss g).open_ = some (w.toNat - 1) → 0 < w.toNat →
    ∃ t, exec (.swathMarker g w) s = .next t ∧ (t.tuss g).open_ = some w.toNat ∧ (t.tuss g).aligned = true ∧
      (∀ a, a < 17 → t.arrState g a = aEMPTY ∧ t.get (F.TSK_ARR_STATE_CONTEXT g a) = 0xFF) ∧ s.NoCause t g ∧
      t = { s with regs := t.regs, tusss := t.tusss } ∧ ∀ h, h ≠ g.val → t.tuss h = s.tuss h) ∧
  (∀ (g : Tsk) (s : State), s.onT g = true →
    (s.get F.PWR_STATUS_STATE = 2 → exec (.tussockPllLock g) s = .next s) ∧
    (s.get F.PWR_STATUS_STATE ≠ 2 → ∃ t, exec (.tussockPllLock g) s = .next t ∧ t.get (F.TSK_CLK_STATUS_LOCKED g) = 1 ∧
      s.OnlyRegs t [F.TSK_CLK_STATUS_LOCKED g]))

/-- TSK_QUARANTINE_WRITE (R158), TSK_REENABLE and REENABLE_SERVICE (R160). -/
def Obligations.HostQuarantineAndReenable : Prop :=
  (∀ (g : Tsk) (s : State), s.reach .TSK_CTRL g = true →
    ∃ t, exec (.tskQuarantineWrite g) s = .next t ∧ s.CauseRaised t g 0 ∧ s.OnlyTuss t g [F.TSK_QUAR_CAUSE_CAUSE g]) ∧
  (∀ (g : Tsk) (identity : Bool) (s : State), s.reach .TSK_CTRL g = true → s.tskState g = tQUAR →
    s.on (F.TSK_CLK_STATUS_LOCKED g) = true → (s.tuss g).quarDue = false →
    ∃ t, exec (.tskReenable g identity) s = .next t ∧ t.tskState g = tREEN ∧ t.get (F.TSK_QUAR_CAUSE_CAUSE g) = 0 ∧
      (t.tuss g).tableInit = ((s.tuss g).tableInit || identity) ∧ (t.tuss g).aligned = false ∧
      s.OnlyTuss t g [F.TSK_STATE_STATE g, F.TSK_QUAR_CAUSE_CAUSE g]) ∧
  (∀ (g : Tsk) (identity : Bool) (s : State), s.reach .TSK_CTRL g = true →
    ¬(s.tskState g = tQUAR ∧ s.on (F.TSK_CLK_STATUS_LOCKED g) = true ∧ (s.tuss g).quarDue = false) →
    ∃ t, exec (.tskReenable g identity) s = .next t ∧ t.get (F.TSK_CTRL_STATUS_REENABLE_REJECT g) = 1 ∧
      s.OnlyRegs t [F.TSK_CTRL_STATUS_REENABLE_REJECT g]) ∧
  (∀ (g : Tsk) (s : State), s.runsT g = true → s.tskState g = tREEN → (s.tuss g).aligned = true →
    (s.tuss g).bringup = 2 → (s.tuss g).quarDue = false → (∀ k, k < 16 → s.arrState g (s.arrOf g k) = aVALID) →
    ∃ t, exec (.reenableService g) s = .next t ∧ t.tskState g = tSERVICE ∧ s.OnlyRegs t [F.TSK_STATE_STATE g]) ∧
  (∀ (g : Tsk) (s : State), s.readyForService g = false → exec (.reenableService g) s = .next s)

/-- QUARANTINE (R159). -/
def Obligations.QuarantineStopsTussock : Prop :=
  (∀ (g : Tsk) (s : State), s.onT g = true → (s.tuss g).quarDue = true →
    ∃ t, exec (.quarantine g) s = .next t ∧ t.tskState g = tQUAR ∧ (t.tuss g).queue = [] ∧ (t.tuss g).sums = [] ∧
      (t.tuss g).quarDue = false ∧ (t.tuss g).arb = none ∧ (t.tuss g).repair = none ∧ (t.tuss g).exchange = none ∧
      (s.get (F.TSK_QUAR_CAUSE_CAUSE g) ≠ 8 → ∀ a, a < 17 → t.arrState g a = aQUAR) ∧
      (∀ h, h ≠ g.val → t.tuss h = s.tuss h) ∧ (∀ c, (t.ctx c).wave = (s.ctx c).wave.filter fun y => y.g != g.val) ∧
      t = { s with regs := t.regs, tusss := t.tusss, jobs := t.jobs, mem := t.mem, genSets := t.genSets, ctxs := t.ctxs }) ∧
  (∀ (g : Tsk) (s : State), (s.tuss g).quarDue = false → exec (.quarantine g) s = .next s)

/-- TILE_TASK_ENQUEUE (R137 to R142, R155, R159). -/
def Obligations.TileTaskJoinsTheQueue : Prop :=
  (∀ (g : Tsk) (w0 w1 w2 w3 w4 w5 w6 w7 : Word) (s : State) (f : Sent), (s.taskQueue g).head? = some f →
    f.words ≠ [w0, w1, w2, w3, w4, w5, w6, w7].map BitVec.toNat →
    exec (.tileTaskEnqueue g w0 w1 w2 w3 w4 w5 w6 w7) s = .next s) ∧
  ∀ (g : Tsk) (w0 w1 w2 w3 w4 w5 w6 w7 : Word) (s : State) (ws : List Nat) (target : Nat),
    ws = [w0, w1, w2, w3, w4, w5, w6, w7].map BitVec.toNat → target = targetSwath s.swath (bitsOf w1.toNat 16 16) →
    s.runsT g = true → ((s.taskQueue g).head?.map Sent.words).getD ws = ws →
    let c : Instr := .tileTaskEnqueue g w0 w1 w2 w3 w4 w5 w6 w7
    let job := (s.jobOfTag (tfld ws 1 14 2) (tfld ws 1 0 14)).map Job.id
    let bad : Prop := taskBad ws = true ∨ (tfld ws 0 7 1 = 1 ∧ s.get F.GRS_CFG_FRACTION ≠ 5)
    let stopped : Prop := s.tskState g = tQUAR ∨ s.tskState g = tREEN
    let late : Prop := taskLate s.time target (tfld ws 2 0 8) = true
    (¬stopped → ¬bad → ¬late → (s.tuss g).queue.length < 16384 → ∃ t, exec c s = .next t ∧
      (t.tuss g).queue = (s.tuss g).queue ++ [{ words := ws, swath := target, job := job }] ∧
      t.get (F.TSK_SEQ_STATUS_OCCUPANCY g) = (s.tuss g).queue.length + 1 ∧
      t.get (F.TSK_SEQ_STATUS_PEAK g) = max (s.get (F.TSK_SEQ_STATUS_PEAK g)) ((s.tuss g).queue.length + 1) ∧
      State.OnlyTuss { s with flight := s.flight.erase ⟨g, ws⟩ } t g [F.TSK_SEQ_STATUS_OCCUPANCY g, F.TSK_SEQ_STATUS_PEAK g]) ∧
    (job = none → stopped → ∃ t, exec c s = .next t ∧ State.OnlyRegs { s with flight := s.flight.erase ⟨g, ws⟩ } t []) ∧
    (job = none → ¬stopped → bad → ∃ t, exec c s = .next t ∧
      t.get (F.TSK_SEQ_ERR_BAD_CNT g) = min (s.get (F.TSK_SEQ_ERR_BAD_CNT g) + 1) (2 ^ (F.TSK_SEQ_ERR_BAD_CNT g).w - 1) ∧
      State.OnlyRegs { s with flight := s.flight.erase ⟨g, ws⟩ } t [F.TSK_SEQ_ERR_BAD_CNT g]) ∧
    (job = none → ¬stopped → ¬bad → late → ∃ t, exec c s = .next t ∧
      t.get (F.TSK_SEQ_ERR_MISSED_CNT g) = min (s.get (F.TSK_SEQ_ERR_MISSED_CNT g) + 1) (2 ^ (F.TSK_SEQ_ERR_MISSED_CNT g).w - 1) ∧
      State.OnlyRegs { s with flight := s.flight.erase ⟨g, ws⟩ } t [F.TSK_SEQ_ERR_MISSED_CNT g]) ∧
    (job = none → ¬stopped → ¬bad → ¬late → 16384 ≤ (s.tuss g).queue.length → ∃ t, exec c s = .next t ∧
      t.get (F.TSK_SEQ_STATUS_OVERFLOW g) = 1 ∧
      t.get (F.TSK_SEQ_ERR_OVERFLOW_CNT g) = min (s.get (F.TSK_SEQ_ERR_OVERFLOW_CNT g) + 1) (2 ^ (F.TSK_SEQ_ERR_OVERFLOW_CNT g).w - 1) ∧
      State.OnlyRegs { s with flight := s.flight.erase ⟨g, ws⟩ } t [F.TSK_SEQ_ERR_OVERFLOW_CNT g, F.TSK_SEQ_STATUS_OVERFLOW g])

/-- TABLE_INIT_DONE (R92) and SLOT_EXCHANGE (R152, R153). -/
def Obligations.TablesAndExchange : Prop :=
  (∀ (g : Tsk) (s : State), s.runsT g = true →
    (s.tuss g).tableInit = true ∨ s.get (F.TSK_CONV_STATUS_TABLE_INIT_DONE g) = 0 →
    ∃ t, exec (.tableInitDone g) s = .next t ∧ t.get (F.TSK_CONV_STATUS_TABLE_INIT_DONE g) = 1 ∧
      (t.tuss g).tableInit = false ∧
      (∀ a, Memory.read t.mem a = if tableBase g ≤ canon a ∧ canon a < tableBase g + 0x24000 then memDefault (canon a)
        else Memory.read s.mem a) ∧
      State.OnlyTuss { s with mem := t.mem } t g [F.TSK_CONV_STATUS_TABLE_INIT_DONE g]) ∧
  (∀ (g : Tsk) (s : State) (x : Exchange) (r from_ : Nat), s.runsT g = true → (s.tuss g).exchange = some x →
    (s.tuss g).quarDue = false → r = s.reserveOf g → from_ = s.arrOf g x.slot → x.slot < 16 →
    let refused : Prop := s.arrState g r ≠ aVALID ∨
      s.get (F.TSK_ARR_STATE_CONTEXT g r) ≠ s.get (F.TSK_ARR_STATE_CONTEXT g from_) ∨ s.gangsStay g x.slot r = false
    let between : Prop := (s.tuss g).phaseOpen x.slot = true
    (refused → ∃ t, exec (.slotExchange g) s = .next t ∧ t.get (F.TSK_SWAP_SWAP_REFUSED g) = 1 ∧
      (t.tuss g).exchange = none ∧ (∀ k, k < 16 → t.arrOf g k = s.arrOf g k) ∧ t.reserveOf g = r) ∧
    (refused → x.bracken = false → ∃ t, exec (.slotExchange g) s = .next t ∧
      (t.tuss g).repair = (s.tuss g).repair.map (fun q => { q with step := 5, inPlace := true }) ∧
      s.OnlyTuss t g [F.TSK_SWAP_SWAP_REFUSED g]) ∧
    (¬refused → between → ∃ t, exec (.slotExchange g) s = .next t ∧ (t.tuss g).exchange = some { x with deferred := true } ∧
      t.get (F.TSK_SWAP_DEFER_CNT g) = (if x.deferred then s.get (F.TSK_SWAP_DEFER_CNT g) else
        min (s.get (F.TSK_SWAP_DEFER_CNT g) + 1) (2 ^ (F.TSK_SWAP_DEFER_CNT g).w - 1)) ∧
      s.OnlyTuss t g [F.TSK_SWAP_DEFER_CNT g]) ∧
    (¬refused → ¬between → r < 17 → from_ < 17 → ∃ t, exec (.slotExchange g) s = .next t ∧ (t.tuss g).exchange = none ∧
      t.arrOf g x.slot = r ∧ (∀ k, k < 16 → k ≠ x.slot → t.arrOf g k = s.arrOf g k) ∧ t.reserveOf g = from_ ∧
      t.get (F.TSK_SWAP_LAST_SLOT g) = x.slot ∧ t.get (F.TSK_SWAP_LAST_FROM g) = from_ ∧ t.get (F.TSK_SWAP_LAST_TO g) = r ∧
      t.get (F.TSK_SWAP_SWAP_CNT g) = (s.get (F.TSK_SWAP_SWAP_CNT g) + 1) % 2 ^ (F.TSK_SWAP_SWAP_CNT g).w ∧
      (∀ h, h ≠ g.val → t.tuss h = s.tuss h) ∧ t = { s with regs := t.regs, tusss := t.tusss, irq := t.irq }))

/-- Restore slots (R59). -/
def Obligations.RestoreSlotPositions : Prop :=
  (∀ g w c : Nat, c < 256 →
    (isRestoreSlot g w c = true ↔ ∃ j, j < 135 ∧ w % 16 * 256 + c = (j * 4096 / 135 + g % 30) % 4096)) ∧
  (∀ (g : Tsk) (a : Arr) (c : BitVec 8) (m : Bool) (sensed : List (Fin 260 × Fin 16 × Fin 16)) (s : State),
    isRestoreSlot g s.swath c.toNat = false ∨ (a.val, s.swath * 256 + c.toNat) ∈ (s.tuss g).used ∨ (s.tuss g).open_ ≠ some s.swath →
    exec (.restoreSlot g a c m sensed) s = .next s)

/-- RESTORE_SLOT (R46, R56, R61, R63). -/
def Obligations.RestoreAccumulatesAndRestoresRows : Prop :=
  ∀ (g : Tsk) (a : Arr) (c : BitVec 8) (m : Bool) (sensed : List (Fin 260 × Fin 16 × Fin 16)) (s : State)
    (f x ptr row : Nat), s.onT g = true → (s.tuss g).open_ = some s.swath → (a.val, s.swath * 256 + c.toNat) ∉ (s.tuss g).used →
    isRestoreSlot g s.swath c.toNat = true →
    f = restoreFraction (s.get (F.TSK_RESTORE_TEMP_TEMP g)) → x = (s.arr g a).acc + f →
    ptr = s.get (F.TSK_ARR_RESTORE_ROW_PTR g a) → row = (if s.rowUnder g a (s.swath * 256 + c.toNat) = some ptr then (ptr + 1) % 512 else ptr) →
    (x < 65536 → ∃ t, exec (.restoreSlot g a c m sensed) s = .next t ∧ t.get (F.TSK_ARR_RESTORE_FRACTION g a) = f ∧
      (t.arr g a).acc = x ∧ (t.arr g a).cells = (s.arr g a).cells ∧ s.OnlyTuss t g [F.TSK_ARR_RESTORE_FRACTION g a]) ∧
    (65536 ≤ x → ∃ t, exec (.restoreSlot g a c m sensed) s = .next t ∧ t.get (F.TSK_ARR_RESTORE_FRACTION g a) = f ∧
      (t.arr g a).acc = x - 65536 ∧
      t.get (F.TSK_ARR_RESTORE_CNT_COUNT g a) =
        (s.get (F.TSK_ARR_RESTORE_CNT_COUNT g a) + 1) % 2 ^ (F.TSK_ARR_RESTORE_CNT_COUNT g a).w ∧
      t.get (F.TSK_ARR_RESTORE_ROW_PTR g a) = (row + 1) % 512 ∧
      t.get (F.TSK_ARR_EVENTS_MARGINAL_CNT g a) = (if m then min (s.get (F.TSK_ARR_EVENTS_MARGINAL_CNT g a) + 1)
        (2 ^ (F.TSK_ARR_EVENTS_MARGINAL_CNT g a).w - 1) else s.get (F.TSK_ARR_EVENTS_MARGINAL_CNT g a)) ∧
      (m = true → t.get (F.TSK_ARR_STATUS_MARGINAL g a) = 1) ∧
      (sensed = [] → (t.arr g a).cells = (s.arr g a).cells) ∧
      (∀ h, h ≠ g.val → t.tuss h = s.tuss h) ∧ t = { s with regs := t.regs, tusss := t.tusss, chans := t.chans })

/-- EVAL (R44, R132, R140, R143) and PHASE_B (R105). -/
def Obligations.EvaluationLatchesOnItsGang : Prop :=
  ∀ (g : Tsk) (c : BitVec 8) (ecc : List Ecc) (s : State) (k : Task) (ms : List Nat), s.runsT g = true → (s.tuss g).open_ = some s.swath →
    ms = s.gangMembers g (k.fld 0 8 4) (gangOf (k.fld 0 4 2)) →
    let isEval : Prop := (s.tuss g).queue.find? (fun t =>
      t.fld 0 0 4 == 0 && t.swath == s.swath && t.fld 2 0 8 == c.toNat && !t.phaseA && !s.taskWaits g t) = some k
    let isB : Prop := (s.tuss g).queue.find? (fun t =>
      t.phaseA && s.phaseBCycle g (t.swath * 256 + t.fld 2 0 8) == s.swath * 256 + c.toNat) = some k
    let exact : Prop := s.exactTask k = true
    let sound : Prop := s.badMembers g k ms = [] ∧ s.gangValid g ms = true
    let paired : Prop := s.get F.GRS_CFG_FRACTION = 5 → s.hasPartner g k = true
    let rest := (s.tuss g).queue.erase k
    (∀ (ph : Nat) (s' : State) (xs : List Nat) (e : Evl), isEval → ¬exact → paired → sound → s.slotConflict g k ms c.toNat = false →
      ph = (if k.fld 0 6 1 = 1 then 1 else 0) → s.inputsOf g k ph ecc = (s', some xs) → e = s'.evalOf g k ph c.toNat xs →
      ∃ t, exec (.eval g c ecc) s = .next t ∧ (t.arr g e.arr).sampled = (s'.arr g e.arr).sampled ++ [e] ∧
        (∀ m ∈ e.members, (m, s'.swath * 256 + c.toNat) ∈ (t.tuss g).used) ∧
        (t.tuss g).queue = (if ph = 1 then (s'.tuss g).queue.map (fun q => if q = k then { q with phaseA := true } else q)
          else (s'.tuss g).queue.erase k) ∧
        (∀ h, h ≠ g.val → t.tuss h = s'.tuss h) ∧ t = { s' with regs := t.regs, tusss := t.tusss }) ∧
    (isEval → paired → ¬sound → k.job = none → ∃ t, exec (.eval g c ecc) s = .next t ∧ (t.tuss g).queue = rest ∧
      (t.tuss g).arrs = (s.tuss g).arrs ∧ (∀ h, h ≠ g.val → t.tuss h = s.tuss h) ∧
      t = { s with regs := t.regs, tusss := t.tusss }) ∧
    (isEval → paired → sound → (if s.exactTask k = true then s.slotTaken g k c.toNat else s.slotConflict g k ms c.toNat) = true → k.job = none →
      ∃ t, exec (.eval g c ecc) s = .next t ∧ (t.tuss g).queue = rest ∧ (t.tuss g).arrs = (s.tuss g).arrs ∧
        t.get (F.TSK_SEQ_ERR_CONFLICT_CNT g) =
          min (s.get (F.TSK_SEQ_ERR_CONFLICT_CNT g) + 1) (2 ^ (F.TSK_SEQ_ERR_CONFLICT_CNT g).w - 1) ∧
        s.OnlyTuss t g [F.TSK_SEQ_ERR_CONFLICT_CNT g, F.TSK_SEQ_STATUS_OCCUPANCY g, F.TSK_SEQ_STATUS_PEAK g]) ∧
    (∀ (s' : State) (xs : List Nat) (e : Evl), isB → sound →
      s.arraysBusy g ms (s.swath * 256 + c.toNat) = false → s.beaten g k ms (s.swath * 256 + c.toNat) = false →
      s.inputsOf g k 2 ecc = (s', some xs) → e = s'.evalOf g k 2 c.toNat xs →
      ∃ t, exec (.phaseB g c ecc) s = .next t ∧ (t.arr g e.arr).sampled = (s'.arr g e.arr).sampled ++ [e] ∧
        (∀ m ∈ e.members, (m, s'.swath * 256 + c.toNat) ∈ (t.tuss g).used) ∧ (t.tuss g).queue = (s'.tuss g).queue.erase k ∧
        (∀ h, h ≠ g.val → t.tuss h = s'.tuss h) ∧ t = { s' with regs := t.regs, tusss := t.tusss }) ∧
    (∀ (s1 s2 : State) (bs : List Byte), isEval → exact → paired → sound → s.slotTaken g k c.toNat = false →
      s.inputBlocks g k (gangOf (k.fld 0 4 2) * (1 + k.fld 0 6 1)) ecc = (s1, some bs) →
      s1.imageRead g k ((List.range (gangOf (k.fld 0 4 2))).flatMap fun i =>
        (s1.imageHolds (s1.taskImage k) g (k.fld 0 8 4 + i)).srcs) = (s2, true) →
      (k.fld 0 7 1 = 0 → s2.get F.GRS_CFG_FRACTION ≠ 5 → (∀ q ∈ (s2.tuss g).sums, ∀ x ∈ q.evals, x.task ≠ k.words) →
        ∃ t p, exec (.eval g c ecc) s = .next t ∧ (t.tuss g).sums = (s2.tuss g).sums ++ [p] ∧
          p.evals.map Evl.inputs = (if k.fld 0 6 1 = 1 then [levels8 (k.fld 0 18 1 == 1) false bs, levels8 (k.fld 0 18 1 == 1) true bs]
            else [levels4 (k.fld 0 18 1 == 1) bs]) ∧
          (∀ x ∈ p.evals, x.exact = true ∧ x.vals = s2.imageValues g k x.inputs) ∧ (t.tuss g).arrs = (s2.tuss g).arrs ∧
          (t.tuss g).queue = (s2.tuss g).queue.erase k ∧ (∀ h, h ≠ g.val → t.tuss h = s2.tuss h) ∧
          t = { s2 with regs := t.regs, tusss := t.tusss }) ∧
      (k.fld 0 7 1 = 1 → ∃ t, exec (.eval g c ecc) s = .next t ∧ (t.tuss g).sums = (s2.tuss g).sums ∧
        (t.tuss g).arrs = (s2.tuss g).arrs ∧ (t.tuss g).queue = (s2.tuss g).queue.erase k ∧ t.mem = s2.mem))

/-- CONVERSION (R73, R81 to R84), LOOKUP (R74, R97, R98, R316) and TABLE_ECC_WRITEBACK (R97). -/
def Obligations.ConversionAndLookupPassResultsOn : Prop :=
  (∀ (g : Tsk) (a : Arr) (dev : List (Fin 260 × Int)) (s : State) (e x : Evl) (rest : List Evl),
    s.runsT g = true → (s.arr g a).sampled = e :: rest → e.arr = a → x = s.coded g e (dev.map fun p => (p.1.val, p.2)) →
    ∃ t, exec (.conversion g a dev) s = .next t ∧ (t.arr g a).sampled = rest ∧
      (t.arr g a).coded = (s.arr g a).coded ++ [x] ∧ x = { e with codes := x.codes, sat := x.sat } ∧ x.codes.length = e.samples.length ∧
      t.get (F.TSK_CONV_SAT_SAT_CNT g a) = min (s.get (F.TSK_CONV_SAT_SAT_CNT g a) + (x.sat.filter (· < 256)).length)
        (2 ^ (F.TSK_CONV_SAT_SAT_CNT g a).w - 1) ∧
      t.get (F.TSK_CONV_SAT_AUX_SAT_CNT g a) = min (s.get (F.TSK_CONV_SAT_AUX_SAT_CNT g a) + (x.sat.filter (256 ≤ ·)).length)
        (2 ^ (F.TSK_CONV_SAT_AUX_SAT_CNT g a).w - 1) ∧
      s.OnlyTuss t g [F.TSK_CONV_SAT_SAT_CNT g a, F.TSK_CONV_SAT_AUX_SAT_CNT g a]) ∧
  (∀ (g : Tsk) (a : Arr) (dev : List (Fin 260 × Int)) (s : State), (s.arr g a).sampled = [] →
    exec (.conversion g a dev) s = .next s) ∧
  (∀ (g : Tsk) (a : Arr) (s : State) (e x : Evl) (rest : List Evl), s.runsT g = true → (s.arr g a).coded = e :: rest →
    x = { e with vals := s.valuesOf g e, poison := [] } →
    (e.kind = .work → e.phase ≠ 2 → ∃ t, exec (.lookup g a []) s = .next t ∧ (t.arr g a).coded = rest ∧
      (t.tuss g).sums = (s.tuss g).sums ++ [⟨[x]⟩] ∧ (t.lane g e.slot).recent.head? = some x ∧
      (∀ h, h ≠ g.val → t.tuss h = s.tuss h) ∧ t = { s with regs := t.regs, tusss := t.tusss, irq := t.irq }) ∧
    (e.kind = .rerun → ∃ t, exec (.lookup g a []) s = .next t ∧ (t.arr g a).coded = rest ∧
      (t.lane g e.slot).check = (s.lane g e.slot).check.map (fun r => { r with rerun := some x }) ∧
      (∀ h, h ≠ g.val → t.tuss h = s.tuss h) ∧ t = { s with regs := t.regs, tusss := t.tusss, irq := t.irq })) ∧
  (∀ (g : Tsk) (a : Arr) (ecc : List (BitVec 16 × Ecc)) (s : State), s.runsT g = true → (s.arr g a).coded ≠ [] →
    ecc.any (fun p => p.2 == .ue) = true →
    ∃ t, exec (.lookup g a ecc) s = .next t ∧ t.get (F.TSK_CONV_STATUS_TABLE_UE g) = 1 ∧ t.arrState g a = aQUAR) ∧
  (∀ (g : Tsk) (s : State), s.runsT g = true →
    ∃ t, exec (.tableEccWriteback g) s = .next t ∧ (t.tuss g).writeBack = (s.tuss g).writeBack.tail ∧ s.OnlyTuss t g [])

/-- ROW_WRITE (R46, R54, R55, R58, R61, R63, R212). -/
def Obligations.RowWriteWritesOneRow : Prop :=
  ∀ (g : Tsk) (a : Arr) (c : BitVec 8) (fails : List (Fin 260 × Fin 16 × Fin 16)) (s : State) (x : Nat),
    s.runsT g = true → (s.tuss g).open_ = some s.swath → x = s.swath * 256 + c.toNat →
    (∀ (w : ArrWrite) (r : RowJob) (rest : List RowJob) (n : Nat) (v : RowTurn) (bad : Bool),
      s.repairAt g a x = none → (s.arr g a).write = some w → w.rows = r :: rest → s.writeTurn g a = some v →
      bad = (r.lost || !(cellList fails).isEmpty) →
      n = (if bad then (s.get (F.TSK_ARR_WRITE_FAIL_ROWS g a) + 1) % 2 ^ (F.TSK_ARR_WRITE_FAIL_ROWS g a).w
        else s.get (F.TSK_ARR_WRITE_FAIL_ROWS g a)) →
      (s.rowMayEnd g a x v = false ∨ s.swath < r.due → exec (.rowWrite g a c fails) s = .next s) ∧
      (s.rowMayEnd g a x v = true → r.due ≤ s.swath → rest ≠ [] → ∃ t, exec (.rowWrite g a c fails) s = .next t ∧
        (t.arr g a).cells = ((s.arr g a).wrote r (cellList fails)).cells ∧
        (t.arr g a).csum = ((s.arr g a).wrote r (cellList fails)).csum ∧
        (t.arr g a).write = some { w with rows := rest, from_ := x + 1 } ∧
        (t.tuss g).used = (s.tuss g).used ++ v.cycles.map (fun y => (a.val, y)) ∧
        t.get (F.TSK_ARR_WRITE_ROWS_DONE g a) = (s.get (F.TSK_ARR_WRITE_ROWS_DONE g a) + 1) % 2 ^ (F.TSK_ARR_WRITE_ROWS_DONE g a).w ∧
        t.get (F.TSK_ARR_RESTORE_CNT_COUNT g a) =
          (s.get (F.TSK_ARR_RESTORE_CNT_COUNT g a) + 1) % 2 ^ (F.TSK_ARR_RESTORE_CNT_COUNT g a).w ∧
        t.get (F.TSK_ARR_WRITE_FAIL_ROWS g a) = n ∧
        (bad = true → t.get (F.TSK_ARR_STATUS_VERIFY_FAIL g a) = 1 ∧ t.get (F.TSK_ARR_EVENTS_VERIFY_FAIL_CNT g a) =
          min (s.get (F.TSK_ARR_EVENTS_VERIFY_FAIL_CNT g a) + 1) (2 ^ (F.TSK_ARR_EVENTS_VERIFY_FAIL_CNT g a).w - 1)) ∧
        s.OnlyTuss t g ([F.TSK_ARR_WRITE_ROWS_DONE g a, F.TSK_ARR_WRITE_FAIL_ROWS g a, F.TSK_ARR_RESTORE_CNT_COUNT g a] ++
          if bad then [F.TSK_ARR_STATUS_VERIFY_FAIL g a, F.TSK_ARR_EVENTS_VERIFY_FAIL_CNT g a] else [])) ∧
      (s.rowMayEnd g a x v = true → r.due ≤ s.swath → rest = [] → w.for_ = .firmware ∨ w.for_ = .window →
        ∃ t, exec (.rowWrite g a c fails) s = .next t ∧
          (t.arr g a).cells = ((s.arr g a).wrote r (cellList fails)).cells ∧ (t.arr g a).write = none ∧
          t.get (F.TSK_ARR_WRITE_FAIL_ROWS g a) = n ∧ t.arrState g a = (if n = 0 then aVALID else aWFAULT) ∧
          (∀ h, h ≠ g.val → t.tuss h = s.tuss h) ∧ t = { s with regs := t.regs, tusss := t.tusss })) ∧
    (∀ p : Repair, s.repairAt g a x = some p →
      (s.rowMayEnd g a x p.turn = false → exec (.rowWrite g a c fails) s = .next s) ∧
      (∀ (u : State) (r : RowJob), s.rowMayEnd g a x p.turn = true →
        (s.spend g a p.turn.cycles).readRow g a p.holds p.row = (u, r) →
        ∃ t, exec (.rowWrite g a c fails) s = .next t ∧
          (t.arr g a).cells = ((u.arr g a).wrote r (cellList fails)).cells ∧
          (t.arr g a).csum = ((u.arr g a).wrote r (cellList fails)).csum ∧
          (t.chan (chanOf g)).repairs = (u.chan (chanOf g)).repairs.erase p ∧
          t.get (F.TSK_ARR_WRITE_FAIL_ROWS g a) = u.get (F.TSK_ARR_WRITE_FAIL_ROWS g a) ∧
          t.get (F.TSK_ARR_WRITE_ROWS_DONE g a) = u.get (F.TSK_ARR_WRITE_ROWS_DONE g a) ∧ t.arrState g a = u.arrState g a ∧
          (∀ h, h ≠ g.val → t.tuss h = u.tuss h) ∧ t = { u with regs := t.regs, tusss := t.tusss, chans := t.chans }))

/-- A block's store and its read (R170, R175, R176). -/
def Obligations.StoredBlockReadsBack : Prop :=
  ∀ (m : List Host.Cell) (a : Nat) (b : Block), a % 256 = 0 → b.data.length = 256 → b.crc < 2 ^ 32 → b.tid < 2 ^ 16 →
    b.seq < 2 ^ 16 → ((∃ n, regionOf a = .stack n) ∨ ∃ g off, regionOf a = .bank g off) →
    Memory.block (Memory.putBlock m a b) a = b ∧
    ∀ x, (canon x < canon a ∨ canon a + 256 ≤ canon x) → (canon x < tagAddr a ∨ tagAddr a + 8 ≤ canon x) →
      Memory.read (Memory.putBlock m a b) x = Memory.read m x

/-- SHADOW, MATMUL and VECTOR (R130, R139, R141, R145 to R147, R174, R306, R310, R311); the order of matrix elements is that of
`Config.matIndex` and the place of a second VECTOR operand that of `vecOperandBlock` (log entries 3 and 33, DESIGN CHOICE). -/
def Obligations.TuftTasksRunAndLeaveTheQueue : Prop :=
  let outside (g block n x : Nat) : Prop := ∀ i, i < n →
    (canon x < bankAddr g (block + i) ∨ bankAddr g (block + i) + 256 ≤ canon x) ∧
    (canon x < tagAddr (bankAddr g (block + i)) ∨ tagAddr (bankAddr g (block + i)) + 8 ≤ canon x)
  (∀ (g : Tsk) (ecc : List Ecc) (fails : Fin 3) (s s1 s2 : State) (k : Task) (bs ws : List Byte) (n : Nat), s.runsT g = true →
    s.tuftTask g 1 = some k → n = gangOf (k.fld 0 4 2) * (1 + k.fld 0 6 1) →
    s.operands g k (k.fld 2 8 12) n ecc = (s1, some bs) →
    s1.operands g k (k.fld 4 0 12) (blocksOf (512 * gangOf (k.fld 0 4 2) * k.fld 3 8 9)) (ecc.drop n) = (s2, some ws) →
    ∃ t, exec (.shadow g ecc fails) s = .next t ∧ (t.tuss g).queue = (s2.tuss g).queue.erase k ∧
      (fails.val < 2 → (t.tuss g).shadow =
        shadowValues (k.fld 3 8 9) (shadowInputs (k.fld 0 18 1 == 1) (k.fld 0 6 1 == 1) bs) ws) ∧
      (fails.val = 0 → t.get (F.GRS_LANE_CNT_DIG_CNT g) = s2.get (F.GRS_LANE_CNT_DIG_CNT g)) ∧
      (fails.val ≠ 0 → t.get (F.GRS_LANE_STATUS_DIG_ERR g) = 1) ∧
      (fails.val = 2 → (t.tuss g).shadow = (s2.tuss g).shadow ∧ bitOf (t.get (F.TSK_QUAR_CAUSE_CAUSE g)) 1 = true) ∧
      (∀ h, h ≠ g.val → t.tuss h = s2.tuss h) ∧ t = { s2 with regs := t.regs, tusss := t.tusss, jobs := t.jobs, irq := t.irq }) ∧
  (∀ (g : Tsk) (ecc : List Ecc) (dig : Bool) (s s1 s2 s3 : State) (k : Task) (as_ bs cs : List Byte) (b m n l : Nat) (acc : Bool),
    s.runsT g = true → s.tuftTask g 2 = some k → b = (if k.fld 3 24 2 = 0 then 1 else 2) → m = 16 * k.fld 4 0 8 →
    n = 16 * k.fld 4 8 8 → l = 16 * k.fld 4 16 12 → acc = (k.fld 3 26 1 == 1) →
    s.operands g k (k.fld 2 8 12) (blocksOf (m * l * b)) ecc = (s1, some as_) →
    s1.operands g k (k.fld 3 0 12) (blocksOf (l * n * b)) (ecc.drop (blocksOf (m * l * b))) = (s2, some bs) →
    s2.operands g k (k.fld 3 12 12) (if acc then blocksOf (m * n * 4) else 0)
      (ecc.drop (blocksOf (m * l * b) + blocksOf (l * n * b))) = (s3, some cs) →
    ∃ t, exec (.matmul g ecc none dig) s = .next t ∧ (t.tuss g).queue = (s3.tuss g).queue.erase k ∧
      t.mem = (s3.tuftStore g (k.fld 3 12 12) k (s3.taskCmd g k) (matResult b m n l as_ bs cs acc) dig (blocksOf (m * n * 4))).mem ∧
      (∀ x, outside g (k.fld 3 12 12) (blocksOf (m * n * 4)) x → Memory.read t.mem x = Memory.read s3.mem x) ∧
      (dig = true → t.get (F.GRS_LANE_STATUS_DIG_ERR g) = 1) ∧ ∀ h, h ≠ g.val → t.tuss h = s3.tuss h) ∧
  (∀ (g : Tsk) (ecc : List Ecc) (dig : Bool) (s s1 s2 : State) (k : Task) (src operand : List Byte) (op b n m : Nat), s.runsT g = true → s.tuftTask g 3 = some k → op = k.fld 3 12 8 → op ≠ 14 →
    b = (vecBits (k.fld 3 20 4)).getD 8 → n = (k.fld 4 0 24 * b + 7) / 8 →
    m = (vecOperandLen k.words * b + 7) / 8 →
    s.operands g k (k.fld 2 8 12) (blocksOf n) ecc = (s1, some src) →
    s1.operands g k ((vecOperandBlock k.words).getD 0) (if (vecOperandBlock k.words).isSome then blocksOf m else 0)
      (ecc.drop (blocksOf n)) = (s2, some operand) →
    ∃ t, exec (.vector g ecc none dig) s = .next t ∧ (t.tuss g).queue = (s2.tuss g).queue.erase k ∧
      t.mem = (s2.tuftStore g (k.fld 3 0 12) k (s2.taskCmd g k)
        (vecResult k.words (src.take n) (operand.take m)) (dig && vecChecked op (k.fld 3 20 4)) (vecOutBlocks k.words b)).mem ∧
      (∀ x, outside g (k.fld 3 0 12) (vecOutBlocks k.words b) x → Memory.read t.mem x = Memory.read s2.mem x) ∧
      (dig = true → vecChecked op (k.fld 3 20 4) = false →
        t.get (F.GRS_LANE_CNT_DIG_CNT g) = s2.get (F.GRS_LANE_CNT_DIG_CNT g)) ∧
      ∀ h, h ≠ g.val → t.tuss h = s2.tuss h) ∧
  (∀ (g : Tsk) (ecc : List Ecc) (fails : Fin 3) (s : State), s.runsT g = true → s.tuftTask g 1 = none →
    (((s.tuss g).lanes.any fun p => p.2.check.any fun c => !c.exact.isEmpty) = true → fails.val ≠ 0 →
      ∃ t, exec (.shadow g ecc fails) s = .next t ∧ t.get (F.GRS_LANE_STATUS_DIG_ERR g) = 1 ∧
        (t.tuss g).queue = (s.tuss g).queue ∧ (∀ h, h ≠ g.val → t.tuss h = s.tuss h) ∧
        t = { s with regs := t.regs, tusss := t.tusss, irq := t.irq }) ∧
    (((s.tuss g).lanes.any fun p => p.2.check.any fun c => !c.exact.isEmpty) = false ∨ fails.val = 0 →
      exec (.shadow g ecc fails) s = .next s)) ∧
  (∀ (g : Tsk) (ecc : List Ecc) (s s1 : State) (k : Task), s.runsT g = true →
    (s.tuftTask g 1 = some k → ∀ fails, s.operands g k (k.fld 2 8 12) (gangOf (k.fld 0 4 2) * (1 + k.fld 0 6 1)) ecc = (s1, none) →
      ∃ t, exec (.shadow g ecc fails) s = .next t ∧ (t.tuss g).queue = (s1.tuss g).queue.erase k ∧ t.mem = s1.mem) ∧
    (s.tuftTask g 2 = some k → ∀ dig, s.operands g k (k.fld 2 8 12)
        (blocksOf (16 * k.fld 4 0 8 * (16 * k.fld 4 16 12) * if k.fld 3 24 2 = 0 then 1 else 2)) ecc = (s1, none) →
      ∃ t, exec (.matmul g ecc none dig) s = .next t ∧ (t.tuss g).queue = (s1.tuss g).queue.erase k ∧ t.mem = s1.mem) ∧
    (s.tuftTask g 3 = some k → ∀ dig, s.operands g k (k.fld 2 8 12)
        (blocksOf ((k.fld 4 0 24 * (vecBits (k.fld 3 20 4)).getD 8 + 7) / 8)) ecc = (s1, none) →
      ∃ t, exec (.vector g ecc none dig) s = .next t ∧ (t.tuss g).queue = (s1.tuss g).queue.erase k ∧ t.mem = s1.mem))

/-- PARTIAL_SUM_DELIVERY (R109, R148, R159; log entry 35, DESIGN CHOICE). -/
def Obligations.PartialSumsAccumulate : Prop :=
  (∀ (g : Tsk) (s s0 s1 s2 s3 s4 : State) (p : Partial) (e : Evl) (more : List Evl) (id tg rq cmd : Nat) (j : Job) (a0 a a4 : Area)
    (ds : List (Nat × Int × Bool × Bool)) (ks : List Nat), s.runsT g = true → (s.tuss g).sums.find? Partial.complete = some p →
    p.evals = e :: more → e.job = some id → tg = tfld e.task 4 0 8 → rq = tfld e.task 4 20 12 →
    s.job id = some j → j.err = none → s.tskState tg = tSERVICE → s.onT tg = true →
    s0 = (s.updTuss g fun t => { t with sums := t.sums.erase p }) → s1 = s0.taskDone e.job → cmd = j.tasksCmd g e.swath →
    s1.area id tg rq = some a0 → a = { a0 with accBlock := tfld e.task 4 8 12 } →
    ds = s1.deliveries a p.evals → ks = (ds.map fun d => a.group d.1).dedup → s1.badDelivery a e.task ds = false →
    s1.rqRead cmd a (sumBlocks e.task) = (s2, true) → (s2.updArea a).openGroups cmd a ks = (s3, true) →
    (s4, a4) = ks.foldl (fun (x : State × Area) k => x.1.beginGroup x.2 k) (s3, a) → a.head.nsrc ≤ 4096 →
    (∀ d ∈ ds, accCount (s4.accWord a4 d.1) + 1 < a.head.nsrc) →
    ∃ t a', exec (.partialSumDelivery g false) s = .next t ∧ t.area id tg rq = some a' ∧
      (t.tuss g).sums = (s.tuss g).sums.erase p ∧
      ∀ d ∈ ds, accSum (t.accWord a' d.1) = sgn 40 (unsgn 40 (accSum (s4.accWord a4 d.1) + d.2.1)) ∧
        accCount (t.accWord a' d.1) = accCount (s4.accWord a4 d.1) + 1 ∧
        accSat (t.accWord a' d.1) = (accSat (s4.accWord a4 d.1) || d.2.2.1) ∧
        accPoison (t.accWord a' d.1) = (accPoison (s4.accWord a4 d.1) || d.2.2.2)) ∧
  (∀ (g : Tsk) (dig : Bool) (s : State) (p : Partial) (e : Evl) (more : List Evl) (id : Nat), s.runsT g = true →
    (s.tuss g).sums.find? Partial.complete = some p → p.evals = e :: more → e.job = some id →
    ((∀ j, s.job id = some j → j.err ≠ none) →
      ∃ t, exec (.partialSumDelivery g dig) s = .next t ∧ (t.tuss g).sums = (s.tuss g).sums.erase p ∧
        t = { s with tusss := t.tusss, jobs := t.jobs } ∧ ∀ h, h ≠ g.val → t.tuss h = s.tuss h) ∧
    (∀ j, s.job id = some j → j.err = none → s.tskState (tfld e.task 4 0 8) ≠ tSERVICE ∨ s.onT (tfld e.task 4 0 8) = false →
      ∃ t, exec (.partialSumDelivery g dig) s = .next t ∧ (t.tuss g).sums = (s.tuss g).sums.erase p ∧ s.OnlyTuss t g []))

/-- RECOMPUTE_RERUN (R123, R213). -/
def Obligations.RecomputeRerunUsesCorrectedScale : Prop :=
  (∀ (r : BitVec 48) (s : State) (p : Production) (sc : Nat),
    s.prods.find? (fun p => p.addr == r.toNat && p.rerunScale.isSome) = some p → p.rerunScale = some sc →
    let may (j : Job) : Prop := j.err = none ∧ j.rcFirst ≤ s.swath + 1 ∧ s.swath < j.rcFirst + j.rcLen
    (∀ j, s.job p.job = some j → may j → ∃ t, exec (.recomputeRerun r) s = .next t ∧
      t.prod p.job p.addr = some { p with scale := sc, elems := 0, clipped := 0, peak := 0, ended := false, rerunScale := none, second := true } ∧
      (∀ a ∈ t.areas, a.job = p.job → a.head.outRec = p.addr → a.begun = [] ∧ a.done = [] ∧ a.codes = []) ∧
      t = { s with areas := t.areas, prods := t.prods }) ∧
    ((∀ j, s.job p.job = some j → ¬may j) → exec (.recomputeRerun r) s = .next s)) ∧
  (∀ (r : BitVec 48) (s : State), s.prods.find? (fun p => p.addr == r.toNat && p.rerunScale.isSome) = none →
    exec (.recomputeRerun r) s = .next s)

/-- FRACTION_WRITE, FRACTION_CHANGE_EFFECT (R309) and HORIZON_WRITE (R324); FRACTION_PENDING from the write on: log entry 30. -/
def Obligations.FractionAndHorizonWrites : Prop :=
  (∀ (v : BitVec 3) (s : State) (cur : Nat), s.reach .GRS_CFG 0 = true → cur = s.get F.GRS_CFG_FRACTION →
    let running : Prop := ∃ k, k < 16 ∧ s.on (F.CHN_ENG_STATUS_RUNNING k) = true
    let pending : Prop := s.on F.GRS_STATUS_FRACTION_PENDING = true
    let five : Prop := v.toNat = 5 ∨ cur = 5
    (v.toNat = cur → exec (.fractionWrite v) s = .next s) ∧
    (v.toNat ≠ cur → 6 ≤ v.toNat ∨ pending ∨ (five ∧ running) → ∃ t, exec (.fractionWrite v) s = .next t ∧
      t.get F.GRS_STATUS_CFG_REJECT = 1 ∧ s.OnlyRegs t [F.GRS_STATUS_CFG_REJECT]) ∧
    (v.toNat ≠ cur → v.toNat < 6 → ¬pending → five → ¬running → ∃ t, exec (.fractionWrite v) s = .next t ∧
      t.get F.GRS_CFG_FRACTION = v.toNat ∧ s.OnlyRegs t [F.GRS_CFG_FRACTION]) ∧
    (v.toNat ≠ cur → v.toNat < 6 → ¬pending → ¬five → ∃ t, exec (.fractionWrite v) s = .next t ∧
      t.get F.GRS_CFG_FRACTION = v.toNat ∧ t.get F.GRS_STATUS_FRACTION_PENDING = 1 ∧ t.fractionNow = cur ∧
      t = { s with regs := t.regs, fractionOld := some cur, fractionAt := s.swath } ∧
      s.RegsBut t [F.GRS_CFG_FRACTION, F.GRS_STATUS_FRACTION_PENDING])) ∧
  (∀ s : State, let ready : Prop := s.on F.GRS_STATUS_FRACTION_PENDING = true ∧
      s.fractionAt < s.swath ∧ ∀ j ∈ s.jobs, s.fractionAt < j.swath ∨ j.lastWork < s.swath
    (ready → ∃ t, exec .fractionChangeEffect s = .next t ∧ t.get F.GRS_STATUS_FRACTION_PENDING = 0 ∧
      t.fractionNow = s.get F.GRS_CFG_FRACTION ∧ t = { s with regs := t.regs, fractionOld := none, fractionAt := 0 } ∧
      s.RegsBut t [F.GRS_STATUS_FRACTION_PENDING]) ∧
    (¬ready → exec .fractionChangeEffect s = .next s)) ∧
  (∀ (v : BitVec 5) (s : State), s.reach .GRS_CFG 0 = true →
    (2 ≤ v.toNat ∧ v.toNat ≤ 16 → ∃ t, exec (.horizonWrite v) s = .next t ∧ t.get F.GRS_CFG_HORIZON = v.toNat ∧
      s.OnlyRegs t [F.GRS_CFG_HORIZON]) ∧
    (v.toNat < 2 ∨ 16 < v.toNat → ∃ t, exec (.horizonWrite v) s = .next t ∧ t.get F.GRS_STATUS_CFG_REJECT = 1 ∧
      s.OnlyRegs t [F.GRS_STATUS_CFG_REJECT]))

/-- CHECK_SLOT (R306, R313) and CHECK_COMPARISON (R308, R312). -/
def Obligations.CheckSlotsSampleAndCompare : Prop :=
  (∀ (g : Tsk) (k : Slot) (c : BitVec 8) (s : State), s.runsT g = true → s.stopped (0x30 + chanOf g) = false →
    let inForce := isCheckAt s.fractionNow g s.swath c.toNat
    let opened : Prop := (s.tuss g).open_ = some s.swath
    let calm : Prop := s.slotQuiet g k = false ∧ (s.tuss g).liveAt ≠ some (s.swath * 256 + c.toNat)
    let l := (s.lane g k).choose (s.swath * 8192 + c.toNat * 32)
    (opened → s.tskState g = tSERVICE → calm → (s.tuss g).arb = none → inForce = true → ∀ e, l.sample = some e → l.decided = false →
      ∃ t, exec (.checkSlot g k c) s = .next t ∧
        t.get (F.GRS_LANE_CNT_CHECKS g) = (s.get (F.GRS_LANE_CNT_CHECKS g) + 1) % 2 ^ (F.GRS_LANE_CNT_CHECKS g).w ∧
        (t.lane g k).check = some { sample := e, skipRerun := !s.canRerun g c.toNat e, exact := s.exactShadow g e } ∧
        (s.canRerun g c.toNat e = true →
          (t.arr g (s.again g e .rerun c.toNat).arr).sampled =
            (s.arr g (s.again g e .rerun c.toNat).arr).sampled ++ [s.again g e .rerun c.toNat]) ∧
        (∀ h, h ≠ g.val → t.tuss h = s.tuss h) ∧ t = { s with regs := t.regs, tusss := t.tusss }) ∧
    (¬opened ∨ s.tskState g ≠ tSERVICE ∨ ¬calm ∨ ((s.tuss g).arb = none ∧ inForce = false) → exec (.checkSlot g k c) s = .next s) ∧
    (∀ (x : Arb) (e : Evl), opened → s.tskState g = tSERVICE → calm → (s.tuss g).arb = some x → x.trig.slot = k.val →
      x.trig.vecs[x.started]? = some e →
      inForce = true ∨ ((checkPeriod s.fractionNow).isNone = true ∧ s.fractionNow ≠ 5 ∧
        s.cycleSpare g c.toNat (s.gangMembers g k (gangOf (tfld e.task 0 4 2))) = true) → s.canRerun g c.toNat e = true →
      ∃ t, exec (.checkSlot g k c) s = .next t ∧
        (t.tuss g).arb = some { x with started := x.started + 1 } ∧
        (t.arr g (s.again g e (.arb x.started) c.toNat).arr).sampled =
          (s.arr g (s.again g e (.arb x.started) c.toNat).arr).sampled ++ [s.again g e (.arb x.started) c.toNat] ∧
        (∀ h, h ≠ g.val → t.tuss h = s.tuss h) ∧ t = { s with regs := t.regs, tusss := t.tusss })) ∧
  (∀ (g : Tsk) (k : Slot) (s : State) (r : CheckRun) (far off : List Nat), s.onT g = true → s.stopped (0x30 + chanOf g) = false →
    (s.lane g k).check = some r →
    r.rerun.isSome = true ∨ r.skipRerun = true →
    far = (match r.rerun with | some x => farColumns (s.tolAgree + 64) r.sample.vals x.vals | none => []) →
    off = (r.exact.filter fun p => offExact r.sample.range (r.sample.vals.getD p.1 0) p.2 s.tolAgree).map Prod.fst →
    (far = [] → off = [] → ∃ t, exec (.checkComparison g k) s = .next t ∧ (t.lane g k).check = none ∧
      (t.tuss g).arbQueue = (s.tuss g).arbQueue ∧ s.OnlyTuss t g [F.GRS_LANE_STATUS_SHADOW_SET g]) ∧
    (far ≠ [] ∨ off ≠ [] → (s.tuss g).arbQueue.length + natOf (s.tuss g).arb.isSome < 5 →
      ∃ t tr, exec (.checkComparison g k) s = .next t ∧ (t.lane g k).check = none ∧
        (far ≠ [] → t.get (F.GRS_LANE_STATUS_RERUN_FAIL g) = 1) ∧ (off ≠ [] → t.get (F.GRS_LANE_STATUS_SHADOW_FAIL g) = 1) ∧
        (t.tuss g).arbQueue = (s.tuss g).arbQueue ++ [tr] ∧ tr.cols = far ++ off.filter (fun j => !far.contains j) ∧
        tr.slot = r.sample.slot ∧ tr.vecs = [r.sample] ∧
        (∀ h, h ≠ g.val → t.tuss h = s.tuss h) ∧ t = { s with regs := t.regs, tusss := t.tusss }))

/-- ARBITRATION_START (R312) and ARBITRATION_DECIDE (R315). -/
def Obligations.ArbitrationsStartAndDecide : Prop :=
  (∀ (g : Tsk) (s : State) (tr : Trigger) (rest : List Trigger), s.onT g = true → s.stopped (0x30 + chanOf g) = false →
    (s.tuss g).arb = none →
    (s.tuss g).arbQueue = tr :: rest →
    ∃ t, exec (.arbitrationStart g) s = .next t ∧ (t.tuss g).arb = some { trig := tr } ∧ (t.tuss g).arbQueue = rest ∧
      t.get (F.GRS_LANE_STATUS_ARB_ACTIVE g) = 1 ∧ t.get (F.GRS_LANE_STATUS_ARB_QUEUED g) = min rest.length 4 ∧
      s.OnlyTuss t g [F.GRS_LANE_STATUS_ARB_ACTIVE g, F.GRS_LANE_STATUS_ARB_QUEUED g]) ∧
  (∀ (g : Tsk) (s : State), (s.tuss g).arb ≠ none ∨ (s.tuss g).arbQueue = [] → exec (.arbitrationStart g) s = .next s) ∧
  (∀ (g : Tsk) (s : State), (∀ x, (s.tuss g).arb = some x → x.trig.vecs.length < x.trig.want) →
    exec (.arbitrationDecide g) s = .next s) ∧
  (∀ (g : Tsk) (s u : State) (x : Arb) (ws : List (Nat × List RowJob)), s.onT g = true → s.stopped (0x30 + chanOf g) = false →
    (s.tuss g).arb = some x → x.trig.want ≤ x.trig.vecs.length →
    s.weightsOf g (x.trig.vecs.flatMap Evl.members).dedup = (u, ws) →
    ∃ t, exec (.arbitrationDecide g) s = .next t ∧ (t.tuss g).arb = none ∧ t.get (F.GRS_ARB_LAST_VALID g) = 1 ∧
      t.get (F.GRS_ARB_LAST_ARRAY g) = x.trig.arr % 2 ^ (F.GRS_ARB_LAST_ARRAY g).w ∧
      t.get (F.GRS_ARB_LAST_TRIGGER g) = x.trig.row % 2 ^ (F.GRS_ARB_LAST_TRIGGER g).w ∧
      (u.outcome g ws x = 0 → t.get (F.GRS_ARB_LAST_OUTCOME g) = 0 ∧
        t.get F.GRS_EVT_CNT_FALSE_CNT = min (u.get F.GRS_EVT_CNT_FALSE_CNT + 1) (2 ^ F.GRS_EVT_CNT_FALSE_CNT.w - 1) ∧
        u.OnlyTuss t g [F.GRS_EVT_CNT_FALSE_CNT, F.GRS_LANE_CNT_ARB_CNT g, F.GRS_ARB_LAST_ARRAY g, F.GRS_ARB_LAST_COLUMN g,
          F.GRS_ARB_LAST_PARITY g, F.GRS_ARB_LAST_TRIGGER g, F.GRS_ARB_LAST_OUTCOME g, F.GRS_ARB_LAST_VALID g,
          F.GRS_LANE_STATUS_ARB_ACTIVE g, F.GRS_LANE_STATUS_ARB_QUEUED g]) ∧
      (u.outcome g ws x = 1 → t.get (F.GRS_ARB_LAST_OUTCOME g) = 1 ∧ t.get (F.GRS_LANE_STATUS_CSUM_REFRESH g) = 1 ∧
        (t.arr g x.trig.arr).refresh = 513) ∧
      (u.outcome g ws x = 2 → (t.get (F.GRS_ARB_LAST_OUTCOME g) = 2 ∨ t.get (F.GRS_ARB_LAST_OUTCOME g) = 3) ∧
        t.get F.GRS_ARB_CNT_TRANSIENT_CNT =
          min (u.get F.GRS_ARB_CNT_TRANSIENT_CNT + 1) (2 ^ F.GRS_ARB_CNT_TRANSIENT_CNT.w - 1)) ∧
      (u.outcome g ws x = 3 → t.get (F.GRS_ARB_LAST_OUTCOME g) = 3 ∧ t.arrState g x.trig.arr = aQUAR) ∧
      (u.outcome g ws x = 4 → t.get (F.GRS_ARB_LAST_OUTCOME g) = 4 ∧ t.get (F.GRS_LANE_STATUS_DIG_ERR g) = 1) ∧
      (u.outcome g ws x = 5 → t.get (F.GRS_ARB_LAST_OUTCOME g) = 5 ∧ bitOf (t.get (F.TSK_QUAR_CAUSE_CAUSE g)) 1 = true))

/-- CHECKSUM_REFRESH_END (R317), REPAIR_WRITES_PLACE, REPAIR_RERUN and TILE_REPROGRAMMING (R318, R319). -/
def Obligations.RepairsGoThroughTheirSteps : Prop :=
  (∀ (g : Tsk) (a : Arr) (s : State), s.onT g = true → s.stopped (0x30 + chanOf g) = false → (s.arr g a).refresh = 1 →
    ∃ t, exec (.checksumRefreshEnd g a) s = .next t ∧ (t.arr g a).refresh = 0 ∧
      (t.get (F.GRS_LANE_STATUS_CSUM_REFRESH g) = 1 ↔ ∃ b, b < 17 ∧ b ≠ a.val ∧ (s.arr g b).refresh ≠ 0) ∧
      s.OnlyTuss t g [F.GRS_LANE_STATUS_CSUM_REFRESH g]) ∧
  (∀ (g : Tsk) (a : Arr) (s : State), (s.arr g a).refresh ≠ 1 → exec (.checksumRefreshEnd g a) s = .next s) ∧
  (∀ (g : Tsk) (s : State) (r : RepairRun), s.onT g = true → s.stopped (0x30 + chanOf g) = false →
    (s.tuss g).repair = some r → r.step = 1 → (s.tuss g).window = none →
    (∀ (u : State) (rows : List RowJob), s.noReserve g = false →
      (s.updTuss g fun x => { x with repair := some { r with step := 2 }
                                     abandoned := x.abandoned.filter (· != s.reserveOf g) }).rowsFor g r.arr = (u, rows) →
      ∃ t, exec (.repairWritesPlace g) s = .next t ∧ (t.tuss g).repair = some { r with step := 2 } ∧
      t.reserveOf g = u.reserveOf g ∧ t.arrState g (s.reserveOf g) = aWRITING ∧
      t.get (F.TSK_ARR_STATE_CONTEXT g (s.reserveOf g)) = u.get (F.TSK_ARR_STATE_CONTEXT g r.arr) % 2 ^ 8 ∧
      (t.arr g (s.reserveOf g)).write = some { for_ := .repair, rows := rows, from_ := u.nextCycle } ∧ rows.length = 512 ∧
      (t.arr g (s.reserveOf g)).holds = (u.arr g r.arr).holds ∧
      (∀ x, ¬(tableBase g ≤ canon x ∧ canon x < tableBase g + 0x24000) → Memory.read t.mem x = Memory.read u.mem x) ∧
      (∀ h, h ≠ g.val → t.tuss h = u.tuss h) ∧ t = { u with regs := t.regs, tusss := t.tusss, mem := t.mem }) ∧
    (s.noReserve g = true → ∃ t, exec (.repairWritesPlace g) s = .next t ∧
      (t.tuss g).repair = some { r with step := 5, inPlace := true } ∧ t.get (F.BRK_STATUS_IN_PLACE g) = 1 ∧
      s.OnlyTuss t g [F.BRK_STATUS_IN_PLACE g])) ∧
  (∀ (g : Tsk) (dev : List (BitVec 8 × List (Fin 260 × Int))) (s : State) (r : RepairRun) (runs : List (Evl × Nat × List (Nat × Int))),
    s.runsT g = true → s.stopped (0x30 + chanOf g) = false → (s.tuss g).open_ = some s.swath →
    (s.tuss g).repair = some r → r.step = 2 → s.arrState g (s.reserveOf g) = aVALID →
    runs = (r.vecs.filter (s.mayReplace g r.arr)).zipIdx.map (fun p =>
      (p.1, (dev.map fun d => (d.1.toNat, d.2.map fun q => (q.1.val, q.2))).getD p.2 (0, []))) →
    let free : Prop := (runs.map fun p => p.2.1).Nodup ∧ ∀ p ∈ runs, s.cycleSpare g p.2.1 (s.withReserve g r.arr p.1) = true
    (¬free → exec (.repairRerun g dev) s = .next s) ∧
    (∀ (u : State) (ws : List (Nat × List RowJob)) (ok : Bool) (vs : List (Evl × List Int × List Int)) (sats : List Fld), free →
      s.weightsOf g (r.vecs.flatMap Evl.members).dedup = (u, ws) →
      vs = (runs.map fun p => (u.onReserve g r.arr p.1 p.2.2, (u.onReserve g r.arr p.1 p.2.2).vals, exactImage ws p.1)) →
      ok = u.agreeCols r.cols vs →
      sats = vs.flatMap (fun v => [F.TSK_CONV_SAT_SAT_CNT g v.1.arr, F.TSK_CONV_SAT_AUX_SAT_CNT g v.1.arr]) →
      (ok = true → ∃ t, exec (.repairRerun g dev) s = .next t ∧ (t.tuss g).repair = some { r with step := 4 } ∧
        (t.tuss g).exchange = some ⟨r.slot, false, false⟩ ∧ u.OnlyTuss t g sats) ∧
      (ok = false → ∃ t, exec (.repairRerun g dev) s = .next t ∧ u.CauseRaised t g 1 ∧ (t.tuss g).repair = some r ∧
        t.get F.GRS_STATUS_QUARANTINE = 1 ∧ t = { u with regs := t.regs, tusss := t.tusss, irq := t.irq }))) ∧
  (∀ (g : Tsk) (dev : List (BitVec 8 × List (Fin 260 × Int))) (s : State) (r : RepairRun), s.runsT g = true →
    s.stopped (0x30 + chanOf g) = false → (s.tuss g).open_ = some s.swath → (s.tuss g).repair = some r → r.step = 2 →
    (s.arrState g (s.reserveOf g) = aWRITING → exec (.repairRerun g dev) s = .next s) ∧
    (s.arrState g (s.reserveOf g) ≠ aWRITING → s.arrState g (s.reserveOf g) ≠ aVALID → ∃ t, exec (.repairRerun g dev) s = .next t ∧
      (t.tuss g).repair = some { r with step := 5, inPlace := true } ∧ s.OnlyTuss t g [F.BRK_STATUS_IN_PLACE g])) ∧
  (∀ (g : Tsk) (s u : State) (r : RepairRun) (rows : List RowJob), s.onT g = true → s.stopped (0x30 + chanOf g) = false →
    (s.tuss g).repair = some r → r.step = 5 → s.arrState g r.arr ≠ aWRITING → s.rowsFor g r.arr = (u, rows) →
    ∃ t, exec (.tileReprogramming g) s = .next t ∧ t.arrState g r.arr = aWRITING ∧
      (t.arr g r.arr).write = some { for_ := .reprogram, rows := rows, from_ := u.nextCycle } ∧
      (∀ h, h ≠ g.val → t.tuss h = u.tuss h) ∧ t = { u with regs := t.regs, tusss := t.tusss })

/-- TOKEN_DECISION (R320) and PROV_ENTRY_TIMEOUT (R322). -/
def Obligations.TokensDecideProvisionalJobs : Prop :=
  (∀ (id : Nat) (s : State) (j : Job), s.job id = some j → j.stage = .provisional → j.chan < 4 → j.eng < 4 →
    j.tDone / 8192 + j.horizon ≤ s.swath →
    ∃ t, exec (.tokenDecision id) s = .next t ∧ t.job id = none ∧
      (s.arbInvolves id = true → t.get F.GRS_STATUS_UNRESOLVED = 1 ∧
        t.get F.GRS_EVT_CNT_UNRES_CNT = min (s.get F.GRS_EVT_CNT_UNRES_CNT + 1) (2 ^ F.GRS_EVT_CNT_UNRES_CNT.w - 1)) ∧
      (s.arbInvolves id = true ∨ j.retract = true ∨ j.depBad = true ∨ j.deps ≠ [] → s.cplLost j.ek = false →
        t.event (16 + j.chan) = true)) ∧
  (∀ (id : Nat) (s : State), (∀ j, s.job id = some j → j.stage ≠ .provisional ∨ s.swath < j.tDone / 8192 + j.horizon) →
    exec (.tokenDecision id) s = .next s) ∧
  (∀ (e : Nat) (s : State) (p : Prov), p ∈ s.provs → p.id = e → p.origin ≠ none → p.since + 32 ≤ s.swath →
    (∀ q ∈ s.provs, q.id = e → q = p) →
    ∃ t, exec (.provEntryTimeout e) s = .next t ∧ t.provs = s.provs.filter (fun q => !(q.id == e)) ∧
      t.jobs = s.jobs.map (fun j => if j.deps.contains e then
        { j with deps := j.deps.filter (fun d => d != e), depBad := true } else j) ∧ t.tusss = s.tusss ∧ t.mem = s.mem)

/-- DIGEST_SEND (R327, R358), REPLICA_DECISION (R327 to R329) and READMIT (R329); the swath of the decision: log entry 7. -/
def Obligations.ReplicasReportDecideAndReadmit : Prop :=
  (∀ (c : Ctx) (s : State), s.repCompared c = true → s.get (F.GLB_CTX_STATE_STATE c) = 1 → s.swath % s.repPeriod = 0 →
    (∀ p ∈ (s.ctx c).digests, p.1 ≠ s.swath * 8 + s.get F.GRS_REP_CFG_SELF) →
    (s.repSelf = false → ∃ t, exec (.digestSend c) s = .next t ∧ t.get F.LEA_STATUS_NODE_MISMATCH = 1 ∧
      s.OnlyRegs t [F.LEA_STATUS_NODE_MISMATCH]) ∧
    (s.repSelf = true → (s.image (s.get (F.GLB_CTX_PTR_PTR c))).isSome = true → s.swath < 2 ^ 64 → ∃ t, exec (.digestSend c) s = .next t ∧
      Tab.get (fun _ => (0, 0)) (t.ctx c).digests (s.swath * 8 + s.get F.GRS_REP_CFG_SELF) = reportOf (s.digestBytes c) ∧
      t.tusss = s.tusss ∧ t.mem = s.mem ∧ ∀ d, d ≠ c.val → t.ctx d = s.ctx d)) ∧
  (∀ (c : Ctx) (s : State), s.repCompared c = false ∨ s.get (F.GLB_CTX_STATE_STATE c) ≠ 1 ∨ s.swath % s.repPeriod ≠ 0 ∨
      (∃ p ∈ (s.ctx c).digests, p.1 = s.swath * 8 + s.get F.GRS_REP_CFG_SELF) → exec (.digestSend c) s = .next s) ∧
  (∀ (c : Ctx) (s : State) (w : Nat) (counted : List (Nat × Nat)) (left : List (Nat × (Nat × Nat))), s.repCompared c = true →
    s.repSelf = true → s.swath = w + 16 → w % s.repPeriod = 0 → (s.ctx c).decided ≠ w + 1 →
    counted = ((s.ctx c).digests.filter fun p => p.1 / 8 == w && p.2.1 == s.get (F.GLB_CTX_TID_CUR_TID c) &&
      bitOf (s.get F.GRS_REP_CFG_MEMBERS) (p.1 % 8)).map (fun p => (p.1 % 8, p.2.2)) →
    left = (s.ctx c).digests.filter (fun p => decide (w < p.1 / 8)) →
    let mine := (counted.find? fun p => p.1 == s.get F.GRS_REP_CFG_SELF).map Prod.snd
    let major := counted.find? fun p => decide (counted.length < 2 * (counted.filter fun q => q.2 == p.2).length)
    (mine = none ∨ counted.length < 3 → ∃ t, exec (.replicaDecision c) s = .next t ∧ (t.ctx c).digests = left ∧
      t.get F.GRS_REP_STATUS_FEW_CNT = min (s.get F.GRS_REP_STATUS_FEW_CNT + 1) (2 ^ F.GRS_REP_STATUS_FEW_CNT.w - 1) ∧
      t = { s with regs := t.regs, ctxs := t.ctxs } ∧ s.RegsBut t [F.GRS_REP_STATUS_FEW_CNT]) ∧
    (mine ≠ none → 3 ≤ counted.length → major = none → ∃ t, exec (.replicaDecision c) s = .next t ∧
      t.get F.GRS_REP_STATUS_NO_MAJ_CNT = min (s.get F.GRS_REP_STATUS_NO_MAJ_CNT + 1) (2 ^ F.GRS_REP_STATUS_NO_MAJ_CNT.w - 1) ∧
      t = { s with regs := t.regs, ctxs := t.ctxs } ∧ s.RegsBut t [F.GRS_REP_STATUS_NO_MAJ_CNT]) ∧
    (∀ v p, mine = some v → 3 ≤ counted.length → major = some p → p.2 = v → ∃ t, exec (.replicaDecision c) s = .next t ∧
      (t.ctx c).probation = false ∧ (t.ctx c).digests = left ∧ (t.ctx c).decided = w + 1 ∧ t = { s with ctxs := t.ctxs }) ∧
    (∀ v p, mine = some v → 3 ≤ counted.length → major = some p → p.2 ≠ v → ∃ t, exec (.replicaDecision c) s = .next t ∧
      bitOf (t.get F.GRS_REP_EXPELLED_EXPELLED) c = true ∧ t.get F.GRS_STATUS_EXPEL = 1 ∧ t.event 28 = true ∧
      t.get F.GRS_REP_STATUS_EXPEL_CNT = min (s.get F.GRS_REP_STATUS_EXPEL_CNT + 1) (2 ^ F.GRS_REP_STATUS_EXPEL_CNT.w - 1))) ∧
  (∀ (c : Ctx) (s : State), s.reach .GRS_REP_CTRL 0 = true →
    (bitOf (s.get F.GRS_REP_EXPELLED_EXPELLED) c = true → ∃ t, exec (.readmit c) s = .next t ∧
      (∀ k, k < 64 → bitOf (t.get F.GRS_REP_EXPELLED_EXPELLED) k =
        (bitOf (s.get F.GRS_REP_EXPELLED_EXPELLED) k && k != c.val)) ∧
      (t.ctx c).probation = true ∧ (t.ctx c).readmitAt = some s.swath ∧ t = { s with regs := t.regs, ctxs := t.ctxs } ∧
      s.RegsBut t [F.GRS_REP_EXPELLED_EXPELLED] ∧ ∀ d, d ≠ c.val → t.ctx d = s.ctx d) ∧
    (bitOf (s.get F.GRS_REP_EXPELLED_EXPELLED) c = false → exec (.readmit c) s = .next s))

/-- BRK_START_PASS, PASS_START (R287), BRK_ABORT and ABANDON_RETURN_VALID (R291). -/
def Obligations.CalibrationPassesStartAndAbort : Prop :=
  (∀ (g : Tsk) (s : State), s.reach .BRK_CTRL g = true →
    ((s.tuss g).pass = none → ∃ t, exec (.brkStartPass g) s = .next t ∧ (t.tuss g).startPass = true ∧ s.OnlyTuss t g []) ∧
    ((s.tuss g).pass ≠ none → exec (.brkStartPass g) s = .next s)) ∧
  (∀ (g : Tsk) (s : State), s.runsT g = true →
    let due : Prop := s.tskState g = tSERVICE ∧ (s.tuss g).pass = none ∧
      ((s.on (F.BRK_CFG_AUTO g) = true ∧ ∃ a, a < 17 ∧ s.offTemp g a = true) ∨ (s.tuss g).startPass = true ∨
        s.on (F.TSK_RESTORE_TEMP_SENSOR_BROKEN g) = true)
    (due → (∃ a, a < 17 ∧ s.arrState g a ≠ aQUAR ∧ s.arrState g a ≠ aWFAULT) → ∃ t p, exec (.passStart g) s = .next t ∧
      (t.tuss g).pass = some p ∧ p.from_ = s.reserveOf g ∧ p.stamped = [] ∧ (t.tuss g).startPass = false ∧
      t.get (F.BRK_STATUS_PASS_ACTIVE g) = 1 ∧ (∀ h, h ≠ g.val → t.tuss h = s.tuss h) ∧
      t = { s with regs := t.regs, tusss := t.tusss }) ∧
    (¬due → (s.chan (chanOf g)).opened = false ∨ s.stopped (0x20 + chanOf g) = true → exec (.passStart g) s = .next s)) ∧
  (∀ (g : Tsk) (s : State), s.reach .BRK_CTRL g = true → ∃ t, exec (.brkAbort g) s = .next t ∧ (t.tuss g).abortDue = true ∧
    (t.tuss g).window = (s.tuss g).window ∧ (t.tuss g).pass = (s.tuss g).pass ∧ s.OnlyTuss t g []) ∧
  (∀ (g : Tsk) (s : State) (i : Instr), s.onT g = true → s.tskState g ≠ tREEN → (s.tuss g).abortDue = true →
    (i = .markerLate g ∧ (s.tuss g).open_ ≠ none) ∨
      (∃ w : BitVec 51, i = .swathMarker g w ∧ ((s.tuss g).open_ = some w.toNat → (s.tuss g).late = 0)) →
    ∃ t, exec i s = .next t ∧ (t.tuss g).abortDue = false ∧ (t.tuss g).window = none ∧
    (t.tuss g).pass = none ∧ (t.tuss g).ask = none ∧ t.get (F.BRK_STATUS_PASS_ACTIVE g) = 0 ∧
    t.get (F.BRK_STATUS_OVERDUE g) = 0 ∧ t.get (F.BRK_DEFER_WAIT g) = 0 ∧
    ((s.tuss g).window ≠ none → t.get (F.BRK_STATUS_ABANDONED g) = 1 ∧ t.get (F.BRK_CAL_CNT_ABANDON_CNT g) =
      min (s.get (F.BRK_CAL_CNT_ABANDON_CNT g) + 1) (2 ^ (F.BRK_CAL_CNT_ABANDON_CNT g).w - 1)) ∧
    (∀ h, h ≠ g.val → t.tuss h = s.tuss h) ∧
    t = { s with regs := t.regs, tusss := t.tusss, mem := t.mem, genSets := t.genSets }) ∧
  (∀ (g : Tsk) (s : State), s.runsT g = true → (∀ a ∈ (s.tuss g).abandoned, a < 17) →
    ∃ t, exec (.abandonReturnValid g) s = .next t ∧ (t.tuss g).abandoned = [] ∧
      (∀ a, a < 17 → t.arrState g a = if a ∈ (s.tuss g).abandoned ∧ s.arrState g a = aCAL then aVALID else s.arrState g a) ∧
      s.OnlyTuss t g (F.BRK_STATUS_IN_PLACE g :: (s.tuss g).abandoned.map fun a => F.TSK_ARR_STATE_STATE g a))

/-- WINDOW_STAGE (R46, R282 to R285, R291; log entry 37, DESIGN CHOICE and DEDUCED). -/
def Obligations.WindowStagesFollow : Prop :=
  (∀ (g : Tsk) (f : CalFinding) (s : State), (∀ w, (s.tuss g).window = some w → s.swath < w.start) →
    exec (.windowStage g f) s = .next s) ∧
  ∀ (g : Tsk) (f : CalFinding) (s s0 : State) (w : Window) (o : Nat) (ops : List (List (Nat × Int))), s.runsT g = true →
    (s.tuss g).window = some w → w.start ≤ s.swath → o = w.offset s.swath →
    s.calCycles g w.arr (f.ops.map fun d => (d.1.toNat, d.2.map fun (p : Fin 260 × Int) => (p.1.val, p.2))) = (s0, ops) →
    let rows := s0.rowTests g w.arr (f.drivers.map fun d => (d.1.val, d.2))
    (∀ (u : State) (rs : List RowJob), w.stage = 0 → w.begun = false → w.kind = .rotation ∨ w.kind = .transit →
      s0.rowsFor g (s.arrOf g w.slot) = (u, rs) →
      ∃ t, exec (.windowStage g f) s = .next t ∧ (t.tuss g).window = some { w with begun := true } ∧
        t.arrState g (s.reserveOf g) = aWRITING ∧
        (t.arr g (s.reserveOf g)).write = some { for_ := .window, rows := rs, from_ := u.nextCycle } ∧
        (∀ x, ¬(tableBase g ≤ canon x ∧ canon x < tableBase g + 0x24000) → Memory.read t.mem x = Memory.read u.mem x) ∧
        (∀ h, h ≠ g.val → t.tuss h = u.tuss h) ∧ t = { u with regs := t.regs, tusss := t.tusss, mem := t.mem }) ∧
    (w.stage = 0 → w.begun = false → w.kind = .reserve ∨ w.kind = .inPlace →
      ∃ t, exec (.windowStage g f) s = .next t ∧
        (t.tuss g).window = some { w with begun := true, released := true, stage := 2, back := s.arrState g w.arr
                                          oldSpares := s.spareWords g w.arr } ∧
        t.arrState g w.arr = aCAL ∧
        s.OnlyTuss t g [F.TSK_ARR_STATE_STATE g w.arr, F.BRK_STATUS_IN_PLACE g, F.BRK_STATUS_STEP_ARRAY g, F.BRK_STATUS_STAGE g]) ∧
    (w.stage = 0 → w.begun = true → 11 ≤ o → s.arrState g (s.reserveOf g) ≠ aWRITING →
      ∃ t, exec (.windowStage g f) s = .next t ∧ (t.tuss g).window = some { w with stage := 1 } ∧
        (t.tuss g).exchange = some ⟨w.slot, true, false⟩ ∧ s.OnlyTuss t g []) ∧
    (w.stage = 1 → w.kind = .rotation → 157 ≤ o → ∃ t, exec (.windowStage g f) s = .next t ∧ (t.tuss g).window = none ∧
      t.get (F.BRK_STATUS_ABANDONED g) = 1 ∧ t.get (F.BRK_CAL_CNT_ABANDON_CNT g) =
        min (s.get (F.BRK_CAL_CNT_ABANDON_CNT g) + 1) (2 ^ (F.BRK_CAL_CNT_ABANDON_CNT g).w - 1) ∧
      ∀ h, h ≠ g.val → t.tuss h = s.tuss h) ∧
    (w.stage = 2 → ∃ t, exec (.windowStage g f) s = .next t ∧
      (t.tuss g).window = some { w with stage := (if 15 ≤ o then 3 else 2), cal := (s0.calZero g w.arr w.cal ops).2 } ∧
      (15 ≤ o → t.get (F.BRK_STATUS_STAGE g) = 3) ∧ (∀ h, h ≠ g.val → t.tuss h = s.tuss h) ∧
      t = { s with regs := t.regs, tusss := t.tusss }) ∧
    (w.stage = 3 → 25 ≤ o → rows.2 = true → w.arr < 17 →
      ∃ t w', exec (.windowStage g f) s = .next t ∧ (t.tuss g).window = some w' ∧ w'.stage = 4 ∧ w'.rounds = 1 ∧ w'.arr = w.arr ∧
        t.get (F.BRK_STATUS_STAGE g) = 4 ∧ (∀ i, t.trim g w.arr i = rows.1.trim g w.arr i) ∧
        (∀ h, h ≠ g.val → t.tuss h = s.tuss h) ∧ t = { s with regs := t.regs, tusss := t.tusss, chans := t.chans }) ∧
    (w.stage = 3 → rows.2 = false → w.arr < 17 →
      ∃ t, exec (.windowStage g f) s = .next t ∧ (t.tuss g).window = none ∧ t.arrState g w.arr = aQUAR ∧
        t.get (F.BRK_STATUS_ARRAY_FAULT g) = 1 ∧ ∀ h, h ≠ g.val → t.tuss h = s.tuss h) ∧
    (w.stage = 4 → w.rounds < 4 → 25 + 28 * w.rounds ≤ o → ∃ t w', exec (.windowStage g f) s = .next t ∧
      (t.tuss g).window = some w' ∧ w'.stage = 4 ∧ w'.rounds = w.rounds + 1 ∧ w'.arr = w.arr ∧
      (∀ h, h ≠ g.val → t.tuss h = s.tuss h) ∧
      t = { s with regs := t.regs, tusss := t.tusss, chans := t.chans, free := t.free }) ∧
    (∀ p : State × CalRun, w.stage = 4 → w.rounds = 4 → 137 ≤ o → w.arr < 17 → p = s0.calRound g w.arr 4 6 w.cal ops →
      ∃ t w', exec (.windowStage g f) s = .next t ∧ (t.tuss g).window = some w' ∧ w'.stage = 5 ∧ w'.arr = w.arr ∧
      w'.failed = (p.1.solve g w.arr p.2).failed ∧ t.get (F.BRK_STATUS_STAGE g) = 5 ∧
      (w'.failed ≠ [] → t.get (F.BRK_STATUS_COL_FAIL g) = 1 ∧ t.get (F.BRK_LAST_FAIL_VALID g) = 1 ∧
        t.get (F.BRK_LAST_FAIL_ARRAY g) = w.arr ∧
        ∃ c ∈ w'.failed, t.get (F.BRK_LAST_FAIL_COLUMN g) = c % 2 ^ (F.BRK_LAST_FAIL_COLUMN g).w) ∧
      ∀ h, h ≠ g.val → t.tuss h = s.tuss h) ∧
    (∀ (p : State × CalRun) (ok : Bool), w.stage = 5 → 154 ≤ o → p = s0.calVerify g w.arr w.cal ops →
      ok = p.2.verified (p.1.get (F.TSK_CONV_CFG_RANGE g w.arr)) →
      ∃ t w', exec (.windowStage g f) s = .next t ∧ (t.tuss g).window = some w' ∧ w'.stage = 6 ∧ w'.arr = w.arr ∧
      w'.verified = ok ∧ t.get (F.BRK_STATUS_STAGE g) = 6 ∧
      (ok = false → t.get (F.BRK_STATUS_VERIFY_FAIL g) = 1 ∧ t.get (F.BRK_CAL_CNT_FAULT_CNT g) =
        min (s.get (F.BRK_CAL_CNT_FAULT_CNT g) + 1) (2 ^ (F.BRK_CAL_CNT_FAULT_CNT g).w - 1)) ∧
      (ok = true → t = { s with regs := t.regs, tusss := t.tusss, free := t.free }) ∧
      ∀ h, h ≠ g.val → t.tuss h = s.tuss h)

/-- WINDOW_END (R286, R294), REFGEN_APPLY (R293) and BRINGUP_CALIBRATION (R295, R296). -/
def Obligations.WindowsEndAndArraysReturn : Prop :=
  (∀ (g : Tsk) (s : State) (w : Window), s.runsT g = true → (s.tuss g).window = some w → w.stage = 6 → 158 ≤ w.offset s.swath →
    w.arr < 17 → (s.chan (chanOf g)).opened = false →
    ∃ t, exec (.windowEnd g) s = .next t ∧ (t.tuss g).window = none ∧ t.get (F.BRK_STATUS_STAGE g) = 0 ∧
      (w.verified = true → (t.tuss g).refCodes = ((s.updateGen g w.gen).tuss g).refCodes) ∧
      (w.failed = [] → w.verified = true → t.arrState g w.arr = (if w.back = aWFAULT then aWFAULT else aVALID) ∧
        t.get (F.BRK_ARR_CAL_TEMP g w.arr) = s.get (F.TSK_RESTORE_TEMP_TEMP g) % 2 ^ 8 ∧
        t.get (F.BRK_ARR_TIME_TIME g w.arr) = s.swath * 8192 % 2 ^ (F.BRK_ARR_TIME_TIME g w.arr).w) ∧
      (w.failed ≠ [] → t.arrState g w.arr = aQUAR) ∧ ∀ h, h ≠ g.val → t.tuss h = s.tuss h) ∧
  (∀ (g : Tsk) (s : State), s.runsT g = true →
    ((s.tuss g).refDue = true → ∃ t, exec (.refgenApply g) s = .next t ∧ (t.tuss g).refDue = false ∧
      (t.tuss g).refCodes = s.genCodes g (s.get (F.TSK_RESTORE_TEMP_TEMP g)) ∧ s.OnlyTuss t g []) ∧
    ((s.tuss g).refDue = false → exec (.refgenApply g) s = .next s)) ∧
  (∀ (g : Tsk) (fs : List (Arr × List CalFinding)) (s : State) (group : List Nat), s.runsT g = true → s.tskState g = tREEN →
    (s.tuss g).aligned = true → (s.tuss g).bringup < 2 → group = bringupGroup (s.tuss g).bringup →
    let accept : Prop := s.on (F.BRK_CFG_BRINGUP_RESTORED g) = true ∧
      tempGap (s.get (F.TSK_RESTORE_TEMP_TEMP g)) (s.get (F.BRK_SAVED_TEMP_TEMP g)) ≤ s.trig g
    ((s.tuss g).bringAt = none → accept → ∃ t, exec (.bringupCalibration g fs) s = .next t ∧ (t.tuss g).bringup = 2 ∧
      t.get (F.BRK_STATUS_SAVED_ACCEPTED g) = 1 ∧
      (∀ a, a < 17 → t.get (F.BRK_ARR_CAL_TEMP g a) = s.get (F.BRK_SAVED_TEMP_TEMP g) % 2 ^ 8) ∧
      (∀ h, h ≠ g.val → t.tuss h = s.tuss h) ∧ t = { s with regs := t.regs, tusss := t.tusss }) ∧
    ((s.tuss g).bringAt = none → ¬accept → ∃ t, exec (.bringupCalibration g fs) s = .next t ∧
      (t.tuss g).bringup = (s.tuss g).bringup ∧ (t.tuss g).bringAt = some s.swath ∧
      t.get (F.BRK_STATUS_SAVED_ACCEPTED g) = 0 ∧ t.get (F.BRK_STATUS_STAGE g) = 2 ∧
      (∀ a, a < 17 → t.arrState g a = if a ∈ group ∧ s.arrState g a = aVALID then aCAL else s.arrState g a) ∧
      (∀ h, h ≠ g.val → t.tuss h = s.tuss h) ∧ t = { s with regs := t.regs, tusss := t.tusss }) ∧
    (∀ w, (s.tuss g).bringAt = some w → s.swath < w + 147 → ∃ t, exec (.bringupCalibration g fs) s = .next t ∧
      t.get (F.BRK_STATUS_STAGE g) = stageAt (s.swath - w + 11) ∧ t.get (F.BRK_STATUS_STEP_ARRAY g) = group.headD 0 ∧
      s.OnlyRegs t [F.BRK_STATUS_STAGE g, F.BRK_STATUS_STEP_ARRAY g]) ∧
    (∀ w, (s.tuss g).bringAt = some w → w + 147 ≤ s.swath → ∃ t, exec (.bringupCalibration g fs) s = .next t ∧
      (t.tuss g).bringup = (s.tuss g).bringup + 1 ∧ (∀ a ∈ group, t.arrState g a ≠ aCAL) ∧ ∀ h, h ≠ g.val → t.tuss h = s.tuss h))

/-- TRIM_DATA_READ and TRIM_DATA_WRITE (R298). -/
def Obligations.TrimWordsReadAndWritten : Prop :=
  ∀ (g : Tsk) (s : State) (a i : Nat), a = s.get (F.BRK_TRIM_SEL_ARRAY g) → i = s.get (F.BRK_TRIM_SEL_INDEX g) →
    let next (t : State) : Prop := t.get (F.BRK_TRIM_SEL_INDEX g) = if s.on (F.BRK_TRIM_SEL_AUTO_INC g) then (i + 1) % 256 else i
    (∀ r : Agent, s.reach .BRK_TRIM_DATA g = true → ∃ t, exec (.trimDataRead g r) s = .next t ∧ next t ∧
      s.Answers t r (if trimMask a i = 0 then 0 else s.trim g a i) [F.BRK_TRIM_SEL_INDEX g]) ∧
    (∀ r : Agent, s.reach .BRK_TRIM_DATA g = false → ∃ t, exec (.trimDataRead g r) s = .next t ∧
      s.Answers t r 0xFFFFFFFF []) ∧
    (∀ v : Word, s.reach .BRK_TRIM_DATA g = true →
      let ok : Prop := trimMask a i ≠ 0 ∧ (if a = 17 then s.tskState g = tQUAR ∨ s.tskState g = tREEN else s.tableOpen g a = true)
      (ok → ∃ t, exec (.trimDataWrite g v) s = .next t ∧ next t ∧ t.trim g a i = Nat.land v.toNat (trimMask a i) ∧
        (∀ b k, (b, k) ≠ (a, i) → b < 17 → k < 256 → t.trim g b k = s.trim g b k) ∧ (∀ h, h ≠ g.val → t.tuss h = s.tuss h) ∧
        t = { s with regs := t.regs, tusss := t.tusss, genSets := t.genSets } ∧
        (a < 17 → t.get (F.BRK_ARR_CAL_SPARES g a) = t.sparesUsed g a) ∧
        s.RegsBut t (F.BRK_TRIM_SEL_INDEX g :: if a < 17 then [F.BRK_ARR_CAL_SPARES g a] else [])) ∧
      (¬ok → ∃ t, exec (.trimDataWrite g v) s = .next t ∧ next t ∧ t.get (F.BRK_STATUS_TRIM_WR_REJECT g) = 1 ∧
        s.OnlyRegs t [F.BRK_TRIM_SEL_INDEX g, F.BRK_STATUS_TRIM_WR_REJECT g]))

/-- BAR2_BASE_WRITE (R182), ENC_POS_WRITE (R368), TQ_WATERMARK_WRITE (R374), CONV_CFG_WRITE (R93), ENG_CFG_WRITE (R232)
and PIN_FUNCTION_WRITE (R503). -/
def Obligations.ConfigurationWritesLand : Prop :=
  (∀ (v : Word64) (s : State), s.reach .PCI_BAR2_BASE 0 = true → ∃ t, exec (.bar2BaseWrite v) s = .next t ∧
    t.get F.PCI_BAR2_BASE_BASE = bitsOf v.toNat 30 18 ∧ s.OnlyRegs t [F.PCI_BAR2_BASE_BASE]) ∧
  (∀ (e : EncIx) (v : Word) (s : State), s.reach .STL_ENC_POS e = true → ∃ t, exec (.encPosWrite e v) s = .next t ∧
    t.get (F.STL_ENC_POS_POS e) = v.toNat ∧ (t.enc e).a = (s.enc e).a ∧ (t.enc e).b = (s.enc e).b ∧
    (∀ d, d ≠ e.val → t.enc d = s.enc d) ∧ s.RegsBut t [F.STL_ENC_POS_POS e] ∧
    t = { s with regs := t.regs, stile := { s.stile with encs := t.stile.encs } }) ∧
  (∀ (q : TqIx) (high low : BitVec 7) (s : State), s.reach .STL_TQ_CFG q = true →
    let ok : Prop := 1 ≤ high.toNat ∧ high.toNat ≤ 64 ∧ low.toNat < high.toNat
    let occ := s.get (F.STL_TQ_STAT_OCC q)
    (ok → ∃ t, exec (.tqWatermarkWrite q high low) s = .next t ∧ t.get (F.STL_TQ_CFG_HIGH q) = high.toNat ∧
      t.get (F.STL_TQ_CFG_LOW q) = low.toNat ∧ (high.toNat ≤ occ → t.get (F.STL_TQ_STAT_HOLD q) = 1) ∧
      (occ ≤ low.toNat → t.get (F.STL_TQ_STAT_HOLD q) = 0) ∧
      (low.toNat < occ → occ < high.toNat → t.get (F.STL_TQ_STAT_HOLD q) = s.get (F.STL_TQ_STAT_HOLD q)) ∧
      s.OnlyRegs t [F.STL_TQ_CFG_HIGH q, F.STL_TQ_CFG_LOW q, F.STL_TQ_STAT_HOLD q]) ∧
    (¬ok → ∃ t, exec (.tqWatermarkWrite q high low) s = .next t ∧ t.get (F.STL_TQ_STAT_CFG_REJECT q) = 1 ∧
      s.OnlyRegs t [F.STL_TQ_STAT_CFG_REJECT q])) ∧
  (∀ (g : Tsk) (a : Arr) (r : BitVec 3) (m : Bool) (s : State), s.reach .TSK_CONV_CFG g = true →
    let same : Prop := s.get (F.TSK_CONV_CFG_RANGE g a) = r.toNat ∧ s.get (F.TSK_CONV_CFG_MASK_EN g a) = natOf m
    let beaten : Prop := (s.arr g a).cfgLoad = some s.time
    (beaten → ∃ t, exec (.convCfgWrite g a r m) s = .next t ∧
      t.get (F.TSK_CONV_STATUS_CFG_WR_REJECT g) = 1 ∧ s.OnlyRegs t [F.TSK_CONV_STATUS_CFG_WR_REJECT g]) ∧
    (¬beaten → s.tableOpen g a = true → ∃ t, exec (.convCfgWrite g a r m) s = .next t ∧ t.get (F.TSK_CONV_CFG_RANGE g a) = r.toNat ∧
      t.get (F.TSK_CONV_CFG_MASK_EN g a) = natOf m ∧ s.OnlyTuss t g [F.TSK_CONV_CFG_RANGE g a, F.TSK_CONV_CFG_MASK_EN g a]) ∧
    (¬beaten → s.tableOpen g a = false → same → exec (.convCfgWrite g a r m) s = .next s) ∧
    (¬beaten → s.tableOpen g a = false → ¬same → ∃ t, exec (.convCfgWrite g a r m) s = .next t ∧
      t.get (F.TSK_CONV_STATUS_CFG_WR_REJECT g) = 1 ∧ s.OnlyRegs t [F.TSK_CONV_STATUS_CFG_WR_REJECT g])) ∧
  (∀ (n : Chn) (e : Eng) (r : EngReg) (v : Word64) (s : State) (k : Nat) (f : Fld), k = 4 * n.val + e.val →
    s.reach .CHN_ENG_CFG k = true →
    (r = .ringBase ∧ f = F.CHN_ENG_RING_BASE_BASE k) ∨ (r = .ctrlAddr ∧ f = F.CHN_ENG_CTRL_ADDR_ADDR k) ∨
      (r = .cplBase ∧ f = F.CHN_ENG_CPL_BASE_BASE k) →
    (s.on (F.CHN_ENG_STATUS_RUNNING k) = false → ∃ t, exec (.engCfgWrite n e r v) s = .next t ∧
      t.get f = bitsOf v.toNat 12 36 ∧ s.OnlyRegs t [f]) ∧
    (s.on (F.CHN_ENG_STATUS_RUNNING k) = true → s.get f = bitsOf v.toNat 12 36 → exec (.engCfgWrite n e r v) s = .next s) ∧
    (s.on (F.CHN_ENG_STATUS_RUNNING k) = true → s.get f ≠ bitsOf v.toNat 12 36 → ∃ t, exec (.engCfgWrite n e r v) s = .next t ∧
      t.get (F.CHN_ENG_STATUS_CFG_ERR k) = 1 ∧ s.Raised t (20 + n.val) ∧ t = { s with regs := t.regs, irq := t.irq } ∧
      s.RegsBut t (F.CHN_ENG_STATUS_CFG_ERR k :: eventFlds))) ∧
  (∀ (n : Chn) (e : Eng) (v : Word64) (s : State) (k : Nat), k = 4 * n.val + e.val → s.reach .CHN_ENG_CFG k = true →
    s.on (F.CHN_ENG_STATUS_RUNNING k) = false → ∃ t, exec (.engCfgWrite n e .cfg v) s = .next t ∧
      t.get (F.CHN_ENG_CFG_RING_LOG2 k) = bitsOf v.toNat 0 5 ∧ t.get (F.CHN_ENG_CFG_CPL_LOG2 k) = bitsOf v.toNat 5 5 ∧
      t.get (F.CHN_ENG_CFG_FMT k) = bitsOf v.toNat 10 1 ∧
      (bitOf v.toNat 12 = false ∨ t.ringsOk k = true → t.get (F.CHN_ENG_CFG_EN k) = bitsOf v.toNat 12 1 ∧
        s.OnlyRegs t [F.CHN_ENG_CFG_RING_LOG2 k, F.CHN_ENG_CFG_CPL_LOG2 k, F.CHN_ENG_CFG_FMT k, F.CHN_ENG_CFG_EN k]) ∧
      (bitOf v.toNat 12 = true → t.ringsOk k = false → t.get (F.CHN_ENG_CFG_EN k) = 0 ∧
        t.get (F.CHN_ENG_STATUS_CFG_ERR k) = 1 ∧ s.Raised t (20 + n.val) ∧ t = { s with regs := t.regs, irq := t.irq } ∧
        s.RegsBut t ([F.CHN_ENG_CFG_RING_LOG2 k, F.CHN_ENG_CFG_CPL_LOG2 k, F.CHN_ENG_CFG_FMT k, F.CHN_ENG_CFG_EN k,
          F.CHN_ENG_STATUS_CFG_ERR k] ++ eventFlds))) ∧
  (∀ (p : PinReg) (v : Word) (s : State), s.reach (pinSpot p).1 (pinSpot p).2 = true →
    let reserved : Prop := bitsOf v.toNat 0 2 = 3 ∨ (∃ e, p = .enc e) ∧ bitsOf v.toNat 2 2 = 3
    (reserved → ∃ t, exec (.pinFunctionWrite p v) s = .next t ∧ t.get F.STL_PIN_STATUS_CFG_REJECT = 1 ∧
      s.OnlyRegs t [F.STL_PIN_STATUS_CFG_REJECT]) ∧
    (¬reserved → ∃ t, exec (.pinFunctionWrite p v) s = .next t ∧
      (∀ i, p = .fin i → t.get (F.STL_PIN_FIN_PULL i) = bitsOf v.toNat 0 2 ∧ s.OnlyRegs t [F.STL_PIN_FIN_PULL i]) ∧
      (∀ e, p = .enc e → t.get (F.STL_PIN_ENC_PULL_A e) = bitsOf v.toNat 0 2 ∧
        t.get (F.STL_PIN_ENC_PULL_B e) = bitsOf v.toNat 2 2 ∧
        s.OnlyRegs t [F.STL_PIN_ENC_PULL_A e, F.STL_PIN_ENC_PULL_B e]) ∧
      (∀ k, p = .out k → t.get (F.STL_PIN_OUT_DRIVE k) = bitsOf v.toNat 0 2 ∧ t.get (F.STL_PIN_OUT_SLOW k) = bitsOf v.toNat 2 1 ∧
        t.get (F.STL_PIN_OUT_OD k) = bitsOf v.toNat 3 1 ∧
        s.OnlyRegs t [F.STL_PIN_OUT_DRIVE k, F.STL_PIN_OUT_SLOW k, F.STL_PIN_OUT_OD k])))

/-- EXTEST to BYPASS (R501, R502); that one command models the instruction and one scan: log entry 28. -/
def Obligations.TestAccessInstructions : Prop :=
  ∀ s : State,
    (exec .idcode s = .next { s with tap := { s.tap with ir := 0x01, dr := 0x140960F7, drives := false, highz := false } }) ∧
    (∀ pins shifted : BitVec 1152, exec (.samplePreload pins shifted) s = .next { s with tap :=
      ⟨0x02, shifted.toNat, pins.toNat, shifted.toNat, false, false⟩ }) ∧
    (∀ (c : Instr) (code : Nat) (pins shifted : BitVec 1152), s.heather.rstLow = true →
      (c, code) ∈ [(.extest true pins shifted, 0x00), (.extestPulse true pins shifted, 0x06),
        (.extestTrain true pins shifted, 0x07)] →
      exec c s = .next { s with tap := ⟨code, shifted.toNat, pins.toNat, shifted.toNat, true, false⟩ }) ∧
    (s.heather.rstLow = true → exec (.clamp true) s = .next { s with tap :=
      { s.tap with ir := 0x04, dr := 0, drives := true, highz := false } }) ∧
    (s.heather.rstLow = true → exec (.highz true) s = .next { s with tap :=
      { s.tap with ir := 0x05, dr := 0, drives := false, highz := true } }) ∧
    (∀ (c : Instr) (code : Nat) (good : Bool) (pins shifted : BitVec 1152), s.heather.rstLow = false ∨ good = false →
      (c, code) ∈ [(.extest good pins shifted, 0x00), (.clamp good, 0x04), (.highz good, 0x05),
        (.extestPulse good pins shifted, 0x06), (.extestTrain good pins shifted, 0x07)] →
      exec c s = .next { s with tap := { s.tap with ir := code, dr := 0, drives := false, highz := false } }) ∧
    (∀ code : BitVec 8, exec (.bypass code) s = .next { s with tap :=
      { s.tap with ir := code.toNat, dr := 0, drives := false, highz := false } })

/-- READ64_LOW, READ64_HIGH (R483), WRITE64_LOW and WRITE64_HIGH (R484). -/
def Obligations.WordsOfA64BitRegister : Prop :=
  ∀ (a : Agent) (off : BitVec 24) (s : State) (x : RegWord), off.toNat % 4 = 0 → regAt off.toNat = some x → wordsOf x.r = 2 →
    let value := s.readReg x.r x.i x.j
    let only (t : State) : Prop := t = { s with host := t.host, mgmt := t.mgmt } ∧ ∀ b, b ≠ a → t.busOf b = s.busOf b
    (x.word = 0 → s.readable x.r x.i = true → ∃ t, exec (.read64Low a off) s = .next t ∧ only t ∧
      t.busOf a = { s.busOf a with readData := value % 2 ^ 32, held := some ⟨x.r, x.i, x.j, value / 2 ^ 32⟩ }) ∧
    (∀ h, x.word = 1 → s.readable x.r x.i = true → (s.busOf a).held = some h → (h.r, h.i, h.j) = (x.r, x.i, x.j) →
      ∃ t, exec (.read64High a off) s = .next t ∧ only t ∧ t.busOf a = { s.busOf a with readData := h.v }) ∧
    (x.word = 1 → s.readable x.r x.i = true → (∀ h, (s.busOf a).held = some h → (h.r, h.i, h.j) ≠ (x.r, x.i, x.j)) →
      ∃ t, exec (.read64High a off) s = .next t ∧ t.busOf a = { s.busOf a with readData := value / 2 ^ 32 } ∧
        t.get F.GLB_ERR_STATUS_READ_ORDER = 1 ∧ s.RaisedIf t 45 (bitOf (s.get F.GLB_ERR_MASK_EN) 3 = true) ∧
        t = { s with regs := t.regs, irq := t.irq, host := t.host, mgmt := t.mgmt } ∧
        s.RegsBut t (F.GLB_ERR_STATUS_READ_ORDER :: eventFlds) ∧ ∀ b, b ≠ a → t.busOf b = s.busOf b) ∧
    (∀ c : Instr, (x.word, c) ∈ [(0, .read64Low a off), (1, .read64High a off)] → s.readable x.r x.i = false →
      ∃ t, exec c s = .next t ∧ only t ∧ t.busOf a = { s.busOf a with readData := 0xFFFFFFFF }) ∧
    (∀ v : Word, x.word = 0 → s.reach x.r x.i = true → ∃ t, exec (.write64Low a off v) s = .next t ∧ only t ∧
      t.busOf a = { s.busOf a with staged := some ⟨x.r, x.i, x.j, v.toNat⟩ }) ∧
    (∀ (v : Word) (low : Nat) (mine : Prop), x.word = 1 → s.reach x.r x.i = true →
      x.r ∈ [.GLB_RGN_BASE, .GLB_RGN_LIMIT, .PCI_BAR2_BASE, .PCI_T3_BASE, .GLB_DIST_BASE, .GLB_DIST_LIMIT, .GRS_REP_CTX,
        .LEA_ROUTE, .CHN_K1_TMPL, .STL_AOUT_FTW] →
      (mine ↔ ∃ h, (s.busOf a).staged = some h ∧ (h.r, h.i, h.j) = (x.r, x.i, x.j)) →
      (∀ h, (s.busOf a).staged = some h → mine → low = h.v) → (¬mine → low = value % 2 ^ 32) →
      ∃ t, exec (.write64High a off v) s = .next t ∧
        (∀ d ∈ fieldsOf x.r, t.get ⟨x.r, x.i, x.j, d.lo, d.w⟩ = bitsOf (low + 2 ^ 32 * v.toNat) d.lo d.w) ∧
        s.RegsBut t ((fieldsOf x.r).map fun d => ⟨x.r, x.i, x.j, d.lo, d.w⟩) ∧
        t = { s with regs := t.regs, host := t.host, mgmt := t.mgmt } ∧ (∀ b, b ≠ a → t.busOf b = s.busOf b) ∧
        (mine → t.busOf a = { s.busOf a with staged := none }) ∧ (¬mine → t.busOf a = s.busOf a))

/-- REGISTER_WRITE and BAR0_BAD_ACCESS (R477, R478); that REGISTER_WRITE reaches the same operations as the registers' own commands:
log entry 13. -/
def Obligations.RegisterWritesByAccessKind : Prop :=
  (∀ (a : Agent) (off : BitVec 24) (v : Word) (s : State) (x : RegWord), s.powered .spine = true → s.powered .pcie = true →
    off.toNat % 4 = 0 → off.toNat < 0x38000 ∨ 0x38400 ≤ off.toNat →
    (regAt off.toNat = none → exec (.registerWrite a off [v]) s = .next s) ∧
    (regAt off.toNat = some x → s.reach x.r x.i = true →
      x.r ∈ [.TSK_ARR_STATUS, .TSK_CTRL_STATUS, .TSK_CLK_STATUS, .TSK_SWAP, .BRK_STATUS, .BRK_TRIM_SEL, .GRS_TOL, .GRS_STATUS,
        .GRS_REP_CFG, .GRS_TP_STATUS, .GRS_LANE_STATUS, .GLB_RGN_ATTR, .GLB_RGN_INGRESS, .PCI_T3_LAT, .CHN_ADM_CFG, .CHN_K1_CFG,
        .CHN_LD_STATUS, .GLB_DIST_CFG, .LEA_PORT_STATUS, .LEA_STATUS, .STL_FIN_CFG, .STL_FIN_LIM,
        .STL_TQ_STAT, .STL_FOUT, .STL_FOUT_SAFE, .STL_AIN_STATUS, .STL_AIN_OPEN, .STL_AOUT_SAFE, .STL_AOUT_STATUS,
        .THM_CFG, .THM_RATE, .THM_PWR, .THM_STATUS, .PWR_CFG, .PWR_WAKE_EN, .PWR_WAKE_TIMER, .PWR_STATUS, .GLB_CHN_STATUS,
        .BOOT_STATUS, .BOOT_MBOX_BUF, .GLB_ERR_STATUS, .GLB_ERR_MASK] →
      (x.r = .STL_TQ_STAT → (s.tq x.i).ovfAt ≠ some s.fieldClock ∧ (s.tq x.i).dupAt ≠ some s.fieldClock) →
      ∃ t, exec (.registerWrite a off [v]) s = .next t ∧
        (∀ d ∈ fieldsOf x.r, let f : Fld := ⟨x.r, x.i, x.j, d.lo, d.w⟩
          (d.acc = .rw → t.get f = bitsOf v.toNat d.lo d.w) ∧
          (d.acc = .w1c → t.get f = Nat.land (s.get f) (2 ^ d.w - 1 - bitsOf v.toNat d.lo d.w)) ∧
          (d.acc = .ro ∨ d.acc = .wo → t.get f = s.get f)) ∧
        s.OnlyRegs t ((fieldsOf x.r).map fun d => ⟨x.r, x.i, x.j, d.lo, d.w⟩))) ∧
  (∀ (c : Instr) (read : Bool) (a : Agent) (off : BitVec 24) (v : Word) (s : State), s.powered .spine = true →
    s.powered .pcie = true → off.toNat % 4 ≠ 0 →
    (c, read) ∈ [(.bar0BadAccess true, true), (.bar0BadAccess false, false), (.registerWrite a off [v], false)] →
    ∃ t, exec c s = .next t ∧ t.out = s.out ++ [if read then .completionUnsupported else .aerUnsupported] ∧
      t.get F.GLB_ERR_STATUS_BAR0_ACCESS = 1 ∧ s.RaisedIf t 45 (bitOf (s.get F.GLB_ERR_MASK_EN) 2 = true) ∧
      t = { s with regs := t.regs, irq := t.irq, out := t.out } ∧ s.RegsBut t (F.GLB_ERR_STATUS_BAR0_ACCESS :: eventFlds))

/-- Swaths (R8). -/
def Obligations.SwathsAreSpansOfDeviceTime : Prop :=
  ∀ (s : State) (n : Nat), (s.swath = n ↔ n * 8192 ≤ s.time ∧ s.time < (n + 1) * 8192) ∧
    (n + 1) * 8192 - n * 8192 = 8192 ∧ s.swath = s.time >>> 13

/-- SWATH_BOUNDARY (R8, R14, R248) and STILE_TIME_RELOAD (R14), no time passing over a lost data port (R12); that a boundary is a
command: log entry 2. -/
def Obligations.BoundariesOpenTheNextSwath : Prop :=
  (∀ (drift : Int) (flips : List (BitVec 48 × Ecc)) (flits : List (Fin 20 × Ecc)) (s : State), s.powered .spine = false →
    exec (.swathBoundary drift flips flits) s = .next s) ∧
  (∀ (drift : Int) (flips : List (BitVec 48 × Ecc)) (flits : List (Fin 20 × Ecc)) (s : State), s.powered .spine = true →
    ∃ t, exec (.swathBoundary drift flips flits) s = .next t ∧ t.time = (s.time / 8192 + 1) * 8192 ∧ t.swath = s.swath + 1 ∧
      t.pending = s.pending ∧ (∀ v, bitOf s.irq.due v || bitOf s.irq.now v → bitOf t.irq.due v = true)) ∧
  (∀ (drift : Int) (flips : List (BitVec 48 × Ecc)) (flits : List (Fin 20 × Ecc)) (s : State) (reload susp : Bool) (skew : Int),
    s.powered .spine = true → s.powered .stile = true → s.entry = none →
    reload = (s.stile.suspect && !s.stile.linkLost && decide (s.stile.failedAt < s.swath)) →
    susp = (s.stile.suspect && !reload) → skew = (if reload then 0 else s.stile.skew) + drift →
    ∃ t, exec (.swathBoundary drift flips flits) s = .next t ∧ t.stile.skew = skew ∧
      (susp = false → s.stile.linkLost = false → 16 < skew.natAbs → t.stile.suspect = true ∧ t.stile.failedAt = s.swath + 1 ∧
        t.get F.GLB_ERR_STATUS_STILE_TIME = 1) ∧
      (susp = true ∨ s.stile.linkLost = true ∨ skew.natAbs ≤ 16 → t.stile.suspect = susp ∧
        t.stile.failedAt = s.stile.failedAt)) ∧
  (∀ s : State,
    (s.stile.suspect = true → s.stile.linkLost = false → s.stile.failedAt < s.swath → ∃ t, exec .stileTimeReload s = .next t ∧
      t.stileTime = s.time ∧ t = { s with stile := { s.stile with skew := 0, suspect := false, past := t.stile.past } }) ∧
    (s.stile.suspect = false ∨ s.stile.linkLost = true ∨ s.swath ≤ s.stile.failedAt → exec .stileTimeReload s = .next s))

/-- PCIE_INBOUND_WRITE, PCIE_INBOUND_READ (R182 to R186) and INGRESS_STALL (R223). -/
def Obligations.HostTrafficThroughBar2 : Prop :=
  (∀ (off : BitVec 38) (bytes : List Byte) (ecc : List Ecc) (s : State) (a n k : Nat), s.pcieRuns = true →
    a = s.get F.PCI_BAR2_BASE_BASE * 2 ^ 30 + off.toNat → a % 256 = 0 → bytes.length = 256 → regionOf a = .stack n →
    s.powered (.stack n) = true → s.pcieFault true a 256 = none → k = (s.guardsFor .pcie true a 256).headD 0 →
    let mode := s.get (F.GLB_RGN_ATTR_TAG_MODE k)
    let way := [12 + 2 * n + n % 2, 4 + 2 * n + n % 2, n]
    ∀ b : Block, (mode = 0 → b = Block.fresh bytes (s.get (F.GLB_RGN_INGRESS_TENSOR_ID k))
        ((a - s.get (F.GLB_RGN_BASE_BASE k) * 4096) / 256)) →
      (mode = 1 → b = Block.fresh bytes (s.block a).tid (s.block a).seq) → (mode = 2 → b = { s.block a with data := bytes }) →
      (∃ t, exec (.pcieInboundWrite off bytes ecc) s = .next t ∧ t.mem = Memory.putBlock s.mem a (s.crossing b way).2 ∧
        t.latentAt a = .ok ∧ t = { (s.crossing b way).1 with mem := t.mem, latent := t.latent }) ∧
      ((∀ f ∈ s.flits, f.1 ∉ way) → s.crossing b way = (s, b))) ∧
  (∀ (off : BitVec 38) (len : BitVec 13) (ecc : List Ecc) (s : State) (a : Nat), s.pcieRuns = true →
    a = s.get F.PCI_BAR2_BASE_BASE * 2 ^ 30 + off.toNat → len ≠ 0 → s.pcieFault false a len.toNat = none →
    (∃ t bs, exec (.pcieInboundRead off len ecc) s = .next t ∧ t.out = s.out ++ [.completion bs] ∧ bs.length = len.toNat) ∧
    (((∃ n, regionOf a = .stack n) ∨ ∃ g o, regionOf a = .bank g o) → s.inCheckArea (a + len.toNat - 1) = false → (∀ e ∈ ecc, e = .ok) → s.latent = [] → s.flits = [] →
      exec (.pcieInboundRead off len ecc) s =
        .next { s with out := s.out ++ [.completion (Memory.readN s.mem a len.toNat)] })) ∧
  (∀ (c : Instr) (wr : Bool) (o : Out) (n : Nat) (off : BitVec 38) (bytes : List Byte) (len : BitVec 13) (ecc : List Ecc) (s : State)
    (a : Nat) (u : Bool), s.pcieRuns = true → a = s.get F.PCI_BAR2_BASE_BASE * 2 ^ 30 + off.toNat → n ≠ 0 →
    (c, wr, o, n) ∈ [(.pcieInboundWrite off bytes ecc, true, .aerUnsupported, bytes.length),
      (.pcieInboundRead off len ecc, false, .completionUnsupported, len.toNat)] →
    s.pcieFault wr a n = some u →
    ∃ t, exec c s = .next t ∧ t.out = s.out ++ [o] ∧ s.Raised t 46 ∧
      t.get F.GLB_RGN_FAULT_INFO_FAULT_CNT =
        min (s.get F.GLB_RGN_FAULT_INFO_FAULT_CNT + 1) (2 ^ F.GLB_RGN_FAULT_INFO_FAULT_CNT.w - 1) ∧
      t.get F.GLB_RGN_FAULT_INFO_VALID ≠ 0 ∧
      (s.get F.GLB_RGN_FAULT_INFO_VALID = 0 → t.get F.GLB_RGN_FAULT_ADDR_ADDR = a % 2 ^ 48 ∧
        t.get F.GLB_RGN_FAULT_INFO_WRITE = natOf wr ∧ t.get F.GLB_RGN_FAULT_INFO_AGENT = 0 ∧
        t.get F.GLB_RGN_FAULT_INFO_UNMAPPED = natOf u) ∧
      (s.get F.GLB_RGN_FAULT_INFO_VALID ≠ 0 → s.RegsBut t (F.GLB_RGN_FAULT_INFO_FAULT_CNT :: eventFlds)) ∧
      t = { s with regs := t.regs, irq := t.irq, out := t.out }) ∧
  (∀ s : State, s.powered .pcie = true →
    (s.stallSwath ≠ s.swath + 1 → ∃ t, exec .ingressStall s = .next t ∧ t.get F.PCI_ING_STALL_STALL_CNT =
        min (s.get F.PCI_ING_STALL_STALL_CNT + 1) (2 ^ F.PCI_ING_STALL_STALL_CNT.w - 1) ∧
      t = { s with regs := t.regs, stallSwath := s.swath + 1 } ∧ s.RegsBut t [F.PCI_ING_STALL_STALL_CNT]) ∧
    (s.stallSwath = s.swath + 1 → exec .ingressStall s = .next s))

/-- BLOCK_ARRIVE (R165, R174, R186) and T3_READ_COMPLETION (R189, R239). -/
def Obligations.BlocksArriveWithTheirTags : Prop :=
  (∀ (n : Chn) (job cmd : Nat) (x : BitVec 48) (data : List Byte) (crc : Word) (tid seq : BitVec 16) (link : Ecc)
    (expect : Option (BitVec 16 × BitVec 16)) (s : State) (a : Nat) (b : Block), s.powered (.core n) = true →
    a = x.toNat / 256 * 256 → b = ⟨data, crc.toNat, tid.toNat, seq.toNat⟩ →
    (s.accessFault (.eng n) true a 256 = none → link ≠ .ue →
      ((∃ n, regionOf a = .stack n) ∨ ∃ g o, regionOf a = .bank g o) →
      ∃ t, exec (.blockArrive n job cmd x data crc tid seq link expect) s = .next t ∧ t.tusss = s.tusss ∧ t.latentAt a = .ok ∧
        (b.check (expect.map fun p => (p.1.toNat, p.2.toNat)) = .ok → t.mem = Memory.putBlock s.mem a b ∧ t.jobs = s.jobs) ∧
        (b.good = false → b.poisoned = false → t.mem = Memory.putBlock s.mem a b.poison)) ∧
    ((∃ u, s.accessFault (.eng n) true a 256 = some u) →
      ∃ t, exec (.blockArrive n job cmd x data crc tid seq link expect) s = .next t ∧ t.mem = s.mem ∧ t.tusss = s.tusss)) ∧
  (∀ (data : List Byte) (crc : Word) (tid seq : BitVec 16) (link : Ecc) (s : State) (r : T3Read) (rest : List T3Read) (j : Job)
    (c : List Nat) (a : Nat) (b : Block), s.powered .pcie = true → s.t3 = r :: rest → s.workDue r.job r.cmd = some (j, c) →
    b = ⟨data, crc.toNat, tid.toNat, seq.toNat⟩ → a = cmdAddr c 4 + 256 * r.block →
    (∀ u : State, s.time - r.since ≤ s.get F.PCI_T3_LAT_BOUND → tfld c 0 20 2 = 1 → link ≠ .ue → a % 256 = 0 →
      State.tensorsValid { s with t3 := rest } (copyHome c) j.id r.cmd 0xFFFF [b.tid] = (u, true) →
      u.otherVersion j (tfld c 7 16 16) = false → b.check (some (tfld c 7 16 16, j.seqWanted r.cmd r.block b.seq)) = .ok →
      u.accessFault (.eng (copyHome c)) true a 256 = none →
      ((∃ n, regionOf a = .stack n) ∨ ∃ g o, regionOf a = .bank g o) →
      ∃ t, exec (.t3ReadCompletion data crc tid seq link) s = .next t ∧ t.t3 = rest ∧ t.mem = Memory.putBlock u.mem a b ∧
        t.tusss = u.tusss) ∧
    (s.get F.PCI_T3_LAT_BOUND < s.time - r.since → ∃ t, exec (.t3ReadCompletion data crc tid seq link) s = .next t ∧
      t.t3 = rest ∧ t.get F.PCI_T3_LATE_CNT = min (s.get F.PCI_T3_LATE_CNT + 1) (2 ^ F.PCI_T3_LATE_CNT.w - 1) ∧
      (∀ i ∈ t.jobs, i.id = r.job → i.stage = .running → i.err.isSome = true) ∧
      t = { s with regs := t.regs, t3 := rest, jobs := t.jobs } ∧ s.RegsBut t [F.PCI_T3_LATE_CNT]))

/-- JOB (R214, R215, R230, R242), K1_RUN, K1_COPY, K1_LOAD and K1_RESERVED (R250, R251). -/
def Obligations.HeadJobsAreAdmittedHeldOrRefused : Prop :=
  ∀ (n : Chn) (e : Eng) (c : Instr) (s r0 r s1 s2 : State) (k m : Nat) (j : Job) (fault : Option (Nat × Nat)),
    k = 4 * n.val + e.val → r0 = s.ready →
    (c = .job n e ∧ ∃ h i o f, r0.head k = (h, .job i o f) ∧ i.k1 = false) ∨ (c = .k1Run n e ∧ r0.k1Op k = some 1) ∨
      (c = .k1Copy n e ∧ r0.k1Op k = some 2) ∨ (c = .k1Load n e ∧ r0.k1Op k = some 3) ∨
      (c = .k1Reserved n e ∧ ∃ op, r0.k1Op k = some op ∧ 6 ≤ op) →
    r0.admOpen n = true → r0.nextEngine n = some e.val →
    (let asked (i : Job) (s : State) : State := (i.channels.filter (· != n.val)).foldl (fun (s : State) m => s.grants m (s.admMax m)) s
     (r0.spanNext n = none ∧ r = r0) ∨ (∃ e' i e2 i2, r0.spanNext n = some (e', i) ∧
      (asked i r0).spanTurn = some (n.val, e2, i2) ∧ r = asked i (asked i r0))) →
    r.head k = (s1, .job j m fault) → s1.slotFree k = (s2, true) → j.chan = n.val →
    let wants := (s2.usedTags n).length + j.tagCount
    let found := s2.trySlides j (s2.beta n) none (s2.slides j)
    let left := (s2.engine k).holdLeft.getD j.holdCount
    let taken (t : State) (x : Job) : Prop := t.jobs = s2.jobs ++ [x] ∧ x.id = j.id ∧ x.cmds = j.cmds ∧
      t.get (F.CHN_ENG_CONS_CONS k) = (s2.get (F.CHN_ENG_CONS_CONS k) + m) % 2 ^ 32 ∧
      t.get (F.CHN_ENG_JOBS_JOBS k) = (s2.get (F.CHN_ENG_JOBS_JOBS k) + 1) % 2 ^ 32 ∧
      t.get (F.CHN_ENG_STATUS_HELD k) = 0 ∧ (t.engine k).recs = ((s2.engine k).recs + 1) % 2 ^ 32 ∧
      (t.engine k).holdLeft = none ∧ (t.chan n).rr = (e.val + 1) % 4 ∧ (t.chan n).taken = (s2.chan n).taken + 1 ∧
      t.nextJob = s2.nextJob + 1 ∧ t.tusss = s2.tusss ∧ t.mem = s2.mem
    (∀ sl sh, fault = none → wants ≤ 16384 → found = .inr (sl, sh) → ∃ t x, exec c s = .next t ∧ taken t x ∧ x.err = j.err ∧
      x.slide = sl ∧ x.placed = sh.placed ∧ x.units = sh.units ∧ x.tags = freeTags (s2.usedTags n) 16384 0 j.tagCount ∧
      t.get (F.CHN_ADM_ADMITTED_COUNT n) = (s2.get (F.CHN_ADM_ADMITTED_COUNT n) + 1) % 2 ^ 32) ∧
    (∀ cause others, fault = none → wants ≤ 16384 → found = .inl (cause, others) → 0 < left → ∃ t, exec c s = .next t ∧
      t.jobs = s2.jobs ∧ t.get (F.CHN_ENG_STATUS_HELD k) = 1 ∧ (t.engine k).holdLeft = some (left - 1) ∧
      t.get (F.CHN_ADM_HELD_HELD n) = min (s2.get (F.CHN_ADM_HELD_HELD n) + 1) (2 ^ (F.CHN_ADM_HELD_HELD n).w - 1) ∧
      t.get (F.CHN_ENG_CONS_CONS k) = s2.get (F.CHN_ENG_CONS_CONS k) ∧ t.tusss = s2.tusss ∧ t.mem = s2.mem) ∧
    (∀ cause, fault = none →
      (16384 < wants ∧ cause = 12) ∨ (wants ≤ 16384 ∧ left = 0 ∧ ∃ others, found = .inl (cause, others)) →
      ∃ t x, exec c s = .next t ∧ taken t x ∧ x.err = some ⟨0x01, 0, 0xFFFF, s2.time⟩ ∧ x.cause = cause ∧
        t.get (F.CHN_ADM_REFUSED_REFUSED n) =
          min (s2.get (F.CHN_ADM_REFUSED_REFUSED n) + 1) (2 ^ (F.CHN_ADM_REFUSED_REFUSED n).w - 1)) ∧
    (∀ st cmd, fault = some (st, cmd) → ∃ t x, exec c s = .next t ∧ taken t x ∧
      x.err = some ⟨st, cmd, if 0x0F ≤ st ∧ st ≤ 0x12 then j.readUnit else 0xFFFF, s2.time⟩)

/-- NOP (R230, R233), K1_NOP, K1_FENCE, K1_INTR and K1_FENCE_CLEAR (R250). -/
def Obligations.HeadsThatAreNoJobsAreTaken : Prop :=
  (∀ (n : Chn) (e : Eng) (c : Instr) (h : Head) (s r s1 : State) (k : Nat), k = 4 * n.val + e.val → r = s.ready →
    r.admOpen n = true → r.head k = (s1, h) →
    (c = .nop n e ∧ r.k1Op k = none ∧ h = .nop) ∨ (c = .k1Nop n e ∧ r.k1Op k = some 0 ∧ h = .nop) ∨
      (c = .k1Fence n e ∧ r.k1Op k = some 4 ∧ h = .fence) ∨ (c = .k1Intr n e ∧ r.k1Op k = some 5 ∧ h = .intr) →
    ∃ t, exec c s = .next t ∧
      t.get (F.CHN_ENG_CONS_CONS k) = (s1.get (F.CHN_ENG_CONS_CONS k) + 1) % 2 ^ 32 ∧
      (h = .nop → s1.OnlyRegs t [F.CHN_ENG_CONS_CONS k]) ∧
      (h = .fence → (t.engine k) = { s1.engine k with fence := true } ∧ s1.RegsBut t [F.CHN_ENG_CONS_CONS k] ∧
        t = { s1 with regs := t.regs, engines := t.engines } ∧ ∀ i, i ≠ k → t.engine i = s1.engine i) ∧
      (h = .intr → s1.Raised t k ∧ s1.RegsBut t (F.CHN_ENG_CONS_CONS k :: eventFlds) ∧
        t = { s1 with regs := t.regs, irq := t.irq })) ∧
  (∀ (n : Chn) (e : Eng) (s : State) (k : Nat), k = 4 * n.val + e.val →
    ((s.engine k).fence = true → s.ringQuiet k = true → ∃ t, exec (.k1FenceClear n e) s = .next t ∧
      t.engine k = { s.engine k with fence := false } ∧ t = { s with engines := t.engines } ∧
      ∀ i, i ≠ k → t.engine i = s.engine i) ∧
    ((s.engine k).fence = false ∨ s.ringQuiet k = false → exec (.k1FenceClear n e) s = .next s))

/-- ENG_ENABLE, ENG_DISABLE (R232), MSIX_MESSAGE and MSIX_UNMASK (R248). -/
def Obligations.EnginesStartStopAndInterrupt : Prop :=
  (∀ (n : Chn) (e : Eng) (s : State) (k : Nat), k = 4 * n.val + e.val →
    let starts : Prop := s.fresh = true ∧ (s.chan n).opened = true ∧ (s.engine k).seen = true ∧ (s.engine k).en = false ∧
      s.on (F.CHN_ENG_STATUS_RUNNING k) = false
    let stops : Prop := s.fresh = true ∧ (s.chan n).opened = true ∧ (s.engine k).seen = false ∧ (s.engine k).en = true
    (starts → ∃ t, exec (.engEnable n e) s = .next t ∧ (t.engine k).en = true ∧ (t.engine k).recs = 0 ∧
      t.get (F.CHN_ENG_CONS_CONS k) = 0 ∧ t.get (F.CHN_ENG_JOBS_JOBS k) = 0 ∧ t.get (F.CHN_ENG_STATUS_RUNNING k) = 1 ∧
      (s.get (F.CHN_ENG_CTRL_ADDR_ADDR k) * 4096 + 512 ≤ stackEnd → t.jobs = s.jobs ∧ t.tusss = s.tusss)) ∧
    (¬starts → exec (.engEnable n e) s = .next s) ∧
    (stops → ∃ t, exec (.engDisable n e) s = .next t ∧ t.engine k = { (s.engine k) with en := false, holdLeft := none } ∧
      t.get (F.CHN_ENG_STATUS_HELD k) = 0 ∧
      (t.get (F.CHN_ENG_STATUS_RUNNING k) = 1 ↔ ∃ j ∈ s.jobs, 4 * j.chan + j.eng = k ∧ j.tags ≠ []) ∧
      t = { s with regs := t.regs, engines := t.engines } ∧ ∀ i, i ≠ k → t.engine i = s.engine i) ∧
    (¬stops → exec (.engDisable n e) s = .next s)) ∧
  (∀ (v : Fin 64) (s : State), s.pcieRuns = true →
    (bitOf s.irq.due v = true → ∃ t, exec (.msixMessage v) s = .next t ∧
      (∀ b, bitOf t.irq.due b = (bitOf s.irq.due b && b != v.val)) ∧
      ((s.msixEntry v).masked = false → t =
        { s with irq := { s.irq with due := t.irq.due }, out := s.out ++ [.msix v (s.msixEntry v).addr (s.msixEntry v).data] }) ∧
      ((s.msixEntry v).masked = true → (∀ b, bitOf t.irq.pba b = (bitOf s.irq.pba b || b == v.val)) ∧
        t = { s with irq := { s.irq with due := t.irq.due, pba := t.irq.pba } })) ∧
    (bitOf s.irq.due v = false → exec (.msixMessage v) s = .next s) ∧
    (∃ t, exec (.msixUnmask v) s = .next t ∧ t.msixEntry v = { s.msixEntry v with masked := false } ∧
      (∀ w, w ≠ v.val → t.msixEntry w = s.msixEntry w) ∧
      (bitOf s.irq.pba v = false → t = { s with irq := { s.irq with table := t.irq.table } }) ∧
      (bitOf s.irq.pba v = true → (∀ b, bitOf t.irq.pba b = (bitOf s.irq.pba b && b != v.val)) ∧
        t.out = s.out ++ [.msix v (s.msixEntry v).addr (s.msixEntry v).data] ∧
        t = { s with irq := { s.irq with table := t.irq.table, pba := t.irq.pba }, out := t.out })))

/-- TASK_ISSUE and TASKS (R123, R213, R222, R237, R238), COPY (R130, R226, R239) and AWRITE (R240); one block of a COPY per command:
log entry 14; its way: log entry 29. -/
def Obligations.TasksCopiesAndRowWritesOfJobs : Prop :=
  (∀ (id cmd : Nat) (s : State) (j : Job) (c : List Nat) (w : Nat), s.job id = some j → cmd ≠ 0 → j.cmds[cmd - 1]? = some c →
    cmdOp c = 2 → j.stage = .running → j.err = none → j.tags ≠ [] → j.cmdsDone.contains cmd = false →
    w = j.swath + 1 + j.slide + cmdWso c → w = s.swath + 1 →
    let allowance : Prop := j.rcFirst ≤ w ∧ w < j.rcFirst + j.rcLen
    (¬allowance ∨ s.rerunOn id = true → ∃ t, exec (.tasks id cmd) s = .next t ∧
      t.flight = s.flight ++ ((j.templates cmd).zipIdx.map fun x => (⟨tfld c 0 20 8, j.fill cmd w x⟩ : Sent)) ∧
      t.job id = some { j with openTasks := j.openTasks + (j.templates cmd).length, cmdsDone := j.cmdsDone ++ [cmd] } ∧
      t = { s with flight := t.flight, jobs := t.jobs, areas := t.areas, prods := t.prods } ∧
      (¬allowance → t.areas = s.areas ∧ t.prods = s.prods)) ∧
    (allowance → s.rerunOn id = false → ∃ t, exec (.tasks id cmd) s = .next t ∧
      t.job id = some { j with cmdsDone := j.cmdsDone ++ [cmd] } ∧ t = { s with jobs := t.jobs })) ∧
  (∀ (id : Nat) (s : State) (j : Job), s.job id = some j → j.stage = .running → j.err = none → j.tags ≠ [] →
    ∃ t, exec (.taskIssue id) s = .next t ∧
      t.flight = s.flight ++ ((List.range j.cmds.length).flatMap fun i =>
        let c := j.cmds.getD i []
        if cmdOp c = 2 ∧ j.cmdsDone.contains (i + 1) = false ∧ j.swath + 1 + j.slide + cmdWso c = s.swath + 1 ∧
            (¬(j.rcFirst ≤ s.swath + 1 ∧ s.swath + 1 < j.rcFirst + j.rcLen) ∨ s.rerunOn id = true) then
          (j.templates (i + 1)).zipIdx.map fun x => (⟨tfld c 0 20 8, j.fill (i + 1) (s.swath + 1) x⟩ : Sent)
        else []) ∧ t = { s with flight := t.flight, jobs := t.jobs, areas := t.areas, prods := t.prods }) ∧
  (∀ (id cmd : Nat) (ecc link : Ecc) (s : State) (j : Job) (c : List Nat) (n mode i src dst tag : Nat) (slots : List (Nat × Nat))
    (expect : Option (Nat × Nat)), s.workDue id cmd = some (j, c) → cmdOp c = 3 → mode = tfld c 0 20 2 → n = copyHome c →
    i = j.copied cmd + (if mode = 1 then (s.t3.filter fun r => r.job == j.id && r.cmd == cmd).length else 0) →
    src = cmdAddr c 2 + 256 * i → dst = cmdAddr c 4 + 256 * i → tag = cmdAddr c 6 + 8 * i → i < tfld c 1 0 24 →
    s.copySlots j c i = some slots → s.otherVersion j (tfld c 7 16 16) = false →
    expect = some (tfld c 7 16 16, j.seqWanted cmd i (s.block src).seq) →
    (mode = 1 → s.accessFault (.eng n) false src 256 = none → s.accessFault (.eng n) false tag 8 = none →
      ∃ t, exec (.copy id cmd ecc link) s = .next t ∧ t.t3 = s.t3 ++ [⟨j.id, cmd, i, s.time⟩] ∧
        t.out = s.out ++ [.hostRead (s.hostAddr src) 256, .hostRead (s.hostAddr tag) 8] ∧
        t = { s with t3 := t.t3, jobs := t.jobs, out := t.out }) ∧
    (mode ≠ 1 → s.unjudged (some j.id) src 256 = true → exec (.copy id cmd ecc link) s = .next s) ∧
    (∀ s1 : State, mode ≠ 1 → s.unjudged (some j.id) src 256 = false →
      s.tensorsValid n j.id cmd (unitOfAddr src) [(s.block src).tid] = (s1, false) → exec (.copy id cmd ecc link) s = .next s1) ∧
    ((∀ p ∈ s.recs, p.1 ≠ (s.block src).tid) → s.tensorsValid n j.id cmd (unitOfAddr src) [(s.block src).tid] = (s, true)) ∧
    (∀ (p : Nat × Nat) (s1 : State) (bs : List Byte), s.recs.find? (fun p => p.1 == (s.block src).tid) = some p →
      s.readBytes n j.id cmd (unitOfAddr src) p.2 32 = (s1, some bs) → bitOf (leAt bs 0x0B 1) 3 = true →
      ∃ u, s.tensorsValid n j.id cmd (unitOfAddr src) [(s.block src).tid] = (u, false) ∧ u.mem = s1.mem ∧
        ∀ x ∈ u.jobs, x.id = j.id → x.stage = .running → x.err.isSome = true) ∧
    (∀ (s0 s1 : State) (b : Block), mode ≠ 1 → s.unjudged (some j.id) src 256 = false →
      s.tensorsValid n j.id cmd (unitOfAddr src) [(s.block src).tid] = (s0, true) →
      s0.readBlock n j.id cmd (unitOfAddr src) src ecc expect = (s1, some b) →
      let moved (t : State) : Prop := exec (.copy id cmd ecc link) s = .next t ∧
        (t.job id).map (fun j => j.copied cmd) = some (i + 1) ∧ t.tusss = s1.tusss
      (mode = 0 → link ≠ .ue → s.accessFault (.eng n) true dst 256 = none →
        ((∃ n, regionOf dst = .stack n) ∨ ∃ g o, regionOf dst = .bank g o) →
        ∃ t, moved t ∧ t.mem = Memory.putBlock s1.mem dst b) ∧
      (mode = 2 → link ≠ .ue → s.accessFault (.eng n) true dst 256 = none →
        s.accessFault (.eng n) true tag 8 = none → ∃ t, moved t ∧ t.mem = s1.mem ∧
          t.out = s1.out ++ [.hostWrite (s.hostAddr dst) b.data, .hostWrite (s.hostAddr tag) b.tagBytes]) ∧
      (mode = 3 → link ≠ .ue → ∃ t, moved t ∧ t.mem = s1.mem ∧
        (t.lea (tfld c 0 22 2)).data = (s.lea (tfld c 0 22 2)).data ++
          [.data true dst (s.get F.LEA_NODE_NODE) j.ref b.data b.crc b.tid b.seq (some (j.id, cmd))])) ∧
    (∀ s0 s1 : State, mode ≠ 1 → s.unjudged (some j.id) src 256 = false →
      s.tensorsValid n j.id cmd (unitOfAddr src) [(s.block src).tid] = (s0, true) →
      s0.readBlock n j.id cmd (unitOfAddr src) src ecc expect = (s1, none) → exec (.copy id cmd ecc link) s = .next s1) ∧
    (regionOf src ≠ .host → s.accessFault (.eng n) false src 256 = none → s.latentAt src = .ok → s.flits = [] →
      ∃ s1, s1.mem = s.mem ∧ s1.tusss = s.tusss ∧
        (((s.block src).check expect = .ok ∧ s.readBlock n j.id cmd (unitOfAddr src) src .ok expect = (s1, some (s.block src))) ∨
          ((s.block src).check expect ≠ .ok ∧ s.readBlock n j.id cmd (unitOfAddr src) src .ok expect = (s1, none) ∧
            ∀ x ∈ s1.jobs, x.id = j.id → x.stage = .running → x.err.isSome = true)))) ∧
  (∀ (id cmd : Nat) (ecc : List Ecc) (s s0 s1 s2 s3 : State) (j j1 : Job) (c : List Nat) (g n a src csum : Nat) (ptr start : Nat) (i : Image)
    (dues : List Nat) (bs mask : List Byte) (mates : List Int), s.workDue id cmd = some (j, c) → cmdOp c = 4 → g = tfld c 0 20 8 → a = s.arrOf g (tfld c 0 28 4) → a < 17 →
    n = chanOf g → s.runsT g = true → s.writeFree g a = true → src = cmdAddr c 2 → csum = cmdAddr c 4 →
    ptr = (if j.ctxValid then j.image else ((j.vers.find? fun p => p.1 == cmd).map fun p => p.2).getD 0) →
    s.image ptr = some i →
    start = ((i.stripes.find? fun x => decide (x.1 ≤ src ∧ src < x.1 + x.2 * 256)).map fun x => x.1).getD 0 →
    (j.awriteSlots s.swath g src ((tfld c 1 0 10 + 1) / 2) = none → exec (.awrite id cmd ecc) s = .next s) ∧ (
    j.awriteSlots s.swath g src ((tfld c 1 0 10 + 1) / 2) = some (j1, dues) →
    s0 = s.updJob j.id (fun x => { x with used := j1.used }) →
    s0.readRows n j.id cmd src i.tid ((src - start) / 256) ecc ((tfld c 1 0 10 + 1) / 2) 0 = (s1, some bs) →
    (cmdAddr c 6 = 0 ∧ s2 = s1 ∧ mask = List.replicate 32 0xFF) ∨
      (cmdAddr c 6 ≠ 0 ∧ s1.engRead n (cmdAddr c 6) 32 = (s2, .inr mask)) →
    (csum = 0 ∧ s3 = s2) ∨ (csum ≠ 0 ∧ s2.mateSums n i src = (s3, .inr mates)) →
    csum = 0 ∨ s3.accessFault (.eng n) true csum 512 = none →
    ∃ t, exec (.awrite id cmd ecc) s = .next t ∧ t.arrState g a = aWRITING ∧
      (t.arr g a).write = some { for_ := .awrite j.id cmd, rows := (rowsOf (Image.wfmtAt i src) bs (tfld c 1 10 9) (tfld c 1 0 10)).zipIdx.map
                                   fun x => { x.1 with due := dues.getD (x.2 / 2) 0 },
                                 from_ := s.nextCycle } ∧
      (t.arr g a).holds = s3.awriteHolds g a i src (tfld c 1 10 9) (tfld c 1 0 10) ∧
      t.get (F.TSK_ARR_STATE_CONTEXT g a) = tfld c 1 23 6 ∧ t.get (F.TSK_CONV_CFG_RANGE g a) = tfld c 1 19 3 ∧
      t.get (F.TSK_CONV_CFG_MASK_EN g a) = tfld c 1 22 1 ∧
      (csum = 0 → t.mem = Memory.writeN s3.mem (tableBase g + 0x22880 + a * 0x40) mask) ∧
      (csum = 0 ∨ (tagged csum = true ∧ tagged (csum + 511) = true) → ∀ h, h ≠ g → t.tuss h = s3.tuss h)))

/-- DIGEST (R326), TESTPAT and TEST_VECTOR (R330 to R333), JOB_TIMEOUT (R203, R224) and COMPLETION_RECORD_WRITE (R202, R243, R244);
final records of check-only jobs: log entry 9. -/
def Obligations.DigestsTestPatternsAndRecordsOfJobs : Prop :=
  (∀ (id cmd : Nat) (s : State) (j : Job) (c : List Nat) (a : Nat) (bs : List Byte) (n : Nat), s.workDue id cmd = some (j, c) →
    cmdOp c = 8 → a = cmdAddr c 2 → a % 256 = 0 → bs = s.digestBytes (tfld c 0 20 6) → bs.length ≤ 256 → regionOf a = .stack n →
    s.accessFault (.eng n) true a 256 = none →
    ∃ t, exec (.digest id cmd) s = .next t ∧ Memory.readN t.mem a 256 = bs ++ List.replicate (256 - bs.length) 0 ∧
      (t.job id).map (fun x => x.cmdsDone.contains cmd) = some true ∧ t.tusss = s.tusss) ∧
  (∀ (id cmd : Nat) (ecc : List (BitVec 24 × Ecc)) (s s0 s1 : State) (j j1 : Job) (c : List Nat) (first : List Nat) (h : Block) (pkg n : Nat),
    s.workDue id cmd = some (j, c) → cmdOp c = 7 → (∀ x ∈ s.tests, (x.job, x.cmd) ≠ (id, cmd)) → pkg = cmdAddr c 2 →
    n = chanOf (tfld c 0 20 8) →
    j.packageSlots s.swath n pkg 0 1 = (j1, first) → s0 = s.updJob j.id (fun x => { x with used := j1.used }) →
    (first ≠ [s.swath] → exec (.testpat id cmd ecc) s = .next s) ∧ (first = [s.swath] → s0.readBlock n j.id cmd (unitOfAddr pkg) pkg
      ((((ecc.map fun p => (p.1.toNat, p.2)).find? fun p => p.1 == 0).map fun p => p.2).getD .ok) none = (s1, some h) →
    let f := fun o n => leNat ((h.data.drop o).take n)
    let bad : Prop := f 0 4 ≠ 0x54504C4F ∨ f 4 2 ≠ 1 ∨ f 8 4 < 11 ∨ 16777215 < f 8 4 ∨ f 0xE 2 = 0 ∨ 16383 < f 0xE 2 ∨
      (h.data.drop 0x1C).any (· != 0) = true
    (bad → ∃ t, exec (.testpat id cmd ecc) s = .next t ∧ t.get F.GRS_TP_STATUS_REASON = 1 ∧ t.get F.GRS_TP_STATUS_REJECT = 1 ∧
      t.tests = s1.tests ∧ ∀ x ∈ t.jobs, x.id = j.id → x.stage = .running → x.err.isSome = true) ∧
    (∀ s2 bs j2 dues, ¬bad → f 6 1 = 0 ∨ (f 6 1 = 1 ∧ f 7 1 ≤ 7) → s1.testKey ≠ [] →
      s1.readPackage n j.id cmd pkg (f 0xC 2) (ecc.map fun p => (p.1.toNat, p.2)) (f 8 4) 0 = (s2, some bs) → j1.packageSlots s2.swath n pkg 1 (f 8 4 - 1) = (j2, dues) →
      ∃ t x, exec (.testpat id cmd ecc) s = .next t ∧ t.tests = s2.tests ++ [x] ∧ x.job = j.id ∧ x.cmd = cmd ∧
        x.g = tfld c 0 20 8 ∧ (x.reserve = true ↔ f 6 1 = 1) ∧ x.log = cmdAddr c 4 ∧ x.n = min (tfld c 1 0 14) (f 0xE 2) ∧
        t = { s2.updJob j.id (fun x => { x with used := j2.used }) with tests := t.tests, verifs := t.verifs } ∧
        (dues.length = f 8 4 - 1 → ∃ y, t.verifs = s2.verifs ++ [y] ∧ y.job = j.id ∧ y.for_ = .test ∧ y.ready = dues.getLastD s2.swath) ∧
        (dues.length ≠ f 8 4 - 1 → t.verifs = s2.verifs)))) ∧
  (∀ (id cmd : Nat) (cyc : BitVec 8) (dev : List (Fin 260 × Int)) (s s1 : State) (x : TestRun) (j : Job) (c : List Nat) (r n m a : Nat),
    s.tests.find? (fun t => t.job == id && t.cmd == cmd) = some x → s.cmdDue id cmd = some (j, c) → x.verified = true →
    s.swath ≤ j.lastWork → x.next < x.n → x.g < 256 → n = chanOf x.g → r = s.reserveOf x.g →
    s.testRead n x x.reads = (s1, true) → regionOf (x.log + 32 * x.next) = .stack m → x.log % 32 = 0 →
    s.accessFault (.eng n) true (x.log + 32 * x.next) 32 = none →
    let vector (t : State) (slot : Nat) (failed : Bool) (taken : Nat × Nat) : Prop := exec (.testVector id cmd cyc dev) s = .next t ∧
      Memory.readN t.mem (x.log + 32 * x.next) 8 =
        leBytes 4 x.next ++ leBytes 1 a ++ leBytes 1 slot ++ leBytes 1 (natOf failed) ++ leBytes 1 0 ∧
      (failed = true → t.get F.GRS_STATUS_TP_FAIL = 1 ∧ t.get F.GRS_TP_STATUS_FAIL_CNT =
        min (s1.get F.GRS_TP_STATUS_FAIL_CNT + 1) (2 ^ F.GRS_TP_STATUS_FAIL_CNT.w - 1)) ∧
      (x.next + 1 < x.n → { x with next := x.next + 1, failed := x.failed || failed, taken := taken } ∈ t.tests) ∧
      (x.n = x.next + 1 → (∀ y ∈ t.tests, (y.job, y.cmd) ≠ (id, cmd)) ∧
        (t.job id).map (fun y => y.cmdsDone.contains cmd) = some true)
    (x.reserve = true → (s.tuss x.g).reserveTaken s.swath = true → exec (.testVector id cmd cyc dev) s = .next s) ∧
    (x.reserve = true → (s.tuss x.g).reserveTaken s.swath = false →
      x.begun = false ∨ s.arrState x.g r = aEMPTY ∨ (s.arr x.g r).holds ≠ {} → ∃ t w, exec (.testVector id cmd cyc dev) s = .next t ∧ t.arrState x.g r = aWRITING ∧
      (t.arr x.g r).write = some w ∧ w.for_ = .testpat x.job x.cmd ∧ w.rows = rowsOf 0 (Memory.readN s1.mem x.tile 65536) 0 512 ∧
      { x with begun := true } ∈ t.tests ∧ ∀ h, h ≠ x.g → t.tuss h = s1.tuss h) ∧
    (∀ (e : Evl) (s2 : State) (fails : List Nat), x.reserve = true → (s.tuss x.g).reserveTaken s.swath = false → x.begun = true →
      (s.arr x.g r).holds = {} → a = r → s.arrState x.g r = aVALID →
      s.cycleFree x.g cyc.toNat [r] = true → isRestoreSlot x.g s.swath cyc.toNat = false → (s.tuss x.g).open_ = some s.swath →
      e = s1.testEval x r 16 cyc.toNat x.range (dev.map fun p => (p.1.val, p.2)) →
      s2 = (s1.countSat x.g e).spend x.g r [s.swath * 256 + cyc.toNat] →
      fails = (List.range 256).filter (fun i =>
        let w := Memory.readN s2.mem (x.bound + x.next * 1024 + i * 4) 4
        decide (e.codes.getD i 0 < sgn 16 (leNat (w.take 2)) ∨ sgn 16 (leNat (w.drop 2)) < e.codes.getD i 0)) →
      ∃ t, vector t 0xFF (!fails.isEmpty) x.taken) ∧
    (∀ (e : Evl) (s2 u : State) (ws : List (Nat × List RowJob)) (fails : List Nat) (k done : Nat), x.reserve = false → k = x.next % 16 → a = s.arrOf x.g k →
      done = (if x.taken.1 = s.swath then x.taken.2 else 0) → s.get F.GRS_CFG_FRACTION ≠ 0 → s.get F.GRS_CFG_FRACTION ≠ 5 →
      512 * (done + 1) ≤ shadowClocks s.fractionNow → s.isCheckSlot x.g s.swath cyc.toNat = true → s.arrState x.g a = aVALID →
      (s.tuss x.g).open_ = some s.swath → (s.tuss x.g).checkAt ≠ some (s.swath * 256 + cyc.toNat) →
      s.arraysBusy x.g [a] (s.swath * 256 + cyc.toNat) = false →
      s.rowUnder x.g a (s.swath * 256 + cyc.toNat) = none →
      e = s1.testEval x a k cyc.toNat (s1.get (F.TSK_CONV_CFG_RANGE x.g a)) (dev.map fun p => (p.1.val, p.2)) →
      s2 = ((s1.countSat x.g e).spend x.g a [s.swath * 256 + cyc.toNat]).updTuss x.g (fun v =>
        { v with liveAt := some (s.swath * 256 + cyc.toNat) }) → s2.weightsOf x.g [a] = (u, ws) →
      fails = (List.range 256).filter (fun i => u.colEnabled x.g a i && decide (s2.fieldAt x.bound 2 * 4 * delta e.range <
        ((e.vals.getD i 0) * delta e.range - 64 * (exactImage ws e).getD i 0 : Int).natAbs)) →
      ∃ t, vector t k (!fails.isEmpty) (s.swath, done + 1))) ∧
  (∀ (id : Nat) (s : State) (j : Job) (e : JobErr), s.job id = some j → e = ⟨0x03, 0, 0xFFFF, (j.swath + j.cls - 1) * 8192⟩ →
    (j.expired = true → j.stage = .running → ∃ t, exec (.jobTimeout id) s = .next t ∧
      t.job id = some { j with err := some ((j.err.map fun old => old.first e).getD e) } ∧ t = { s with jobs := t.jobs }) ∧
    (j.expired = false ∨ (∀ x ∈ s.jobs, x.id = id → x.stage ≠ .running) → exec (.jobTimeout id) s = .next s)) ∧
  (∀ (id : Nat) (s s1 : State) (j : Job), s1 = s.timeout id → s1.job id = some j →
    (s1.recordDue j = false → exec (.completionRecordWrite id) s = .next s1) ∧
    (∀ (k1 : Bool) (slots size a : Nat), s1.recordDue j = true →
    slots = s1.cplSlots j.ek → k1 = s1.on (F.CHN_ENG_CFG_FMT j.ek) → size = (if k1 then 16 else 64) →
    a = s1.get (F.CHN_ENG_CPL_BASE_BASE j.ek) * 4096 + j.recNo % slots * size →
    let written : Prop := s1.cplLost j.ek = false ∧ (∃ n, regionOf a = .stack n) ∧ s1.accessFault (.eng j.chan) true a size = none
    let bytes (x : Job) (state : Nat) : List Byte :=
      if k1 then x.recordBytesK1 (natOf (j.recNo / slots % 2 = 0)) state else x.recordBytes (natOf (j.recNo / slots % 2 = 0)) state 0
    (j.err = none → j.checkOnly = false → j.retract = false → ∃ t, exec (.completionRecordWrite id) s = .next t ∧
      t.job id = some { j with tDone := s.time, stage := .provisional } ∧ t.tusss = s1.tusss ∧
      (written → Memory.readN t.mem a size = bytes { j with tDone := s.time, stage := .provisional } 1)) ∧
    (j.err = none → j.checkOnly = false → j.retract = true → ∃ t, exec (.completionRecordWrite id) s = .next t ∧ t.job id = none) ∧
    (j.err ≠ none ∨ j.checkOnly = true → ∃ t, exec (.completionRecordWrite id) s = .next t ∧ t.job id = none ∧
      (written → Memory.readN t.mem a size = bytes { j with tDone := s.time } 4) ∧
      (j.expired = true → j.errCode = 0x03 → t.get (F.CHN_JOB_TIMEOUT_TIMEOUT_CNT j.chan) =
        min (s1.get (F.CHN_JOB_TIMEOUT_TIMEOUT_CNT j.chan) + 1) (2 ^ (F.CHN_JOB_TIMEOUT_TIMEOUT_CNT j.chan).w - 1)))))

/-- LOADPKG, SIGNATURE_VERIFY, MANIFEST_WRITE (R260, R261, R471) and CTXPTR (R265, R266); the signature's judgement is
`mldsaVerify` (log entry 3). -/
def Obligations.PackagesAreBuiltVerifiedAndPosted : Prop :=
  let rejected (s t : State) (n job reason : Nat) : Prop := (t.get (F.CHN_LD_STATUS_REASON n) = reason ∧
    t.get (F.CHN_LD_STATUS_REJECT n) = 1 ∧
    t.get (F.CHN_LD_PKG_REJECTED n) = min (s.get (F.CHN_LD_PKG_REJECTED n) + 1) (2 ^ (F.CHN_LD_PKG_REJECTED n).w - 1) ∧
    ∀ x ∈ t.jobs, x.id = job → x.stage = .running → x.err.isSome = true)
  (∀ (id cmd : Nat) (ecc : List (BitVec 24 × Ecc)) (s : State) (j : Job) (c : List Nat) (n pkg dest len : Nat) (e : List (Nat × Ecc)),
    s.workDue id cmd = some (j, c) → cmdOp c = 5 → (∀ x ∈ s.loads, (x.job, x.cmd) ≠ (id, cmd)) → pkg = cmdAddr c 2 →
    dest = cmdAddr c 4 → n = loadHome c → len = tfld c 1 0 24 → e = ecc.map (fun p => (p.1.toNat, p.2)) →
    (stackEnd ≤ dest ∨ dest % 4096 ≠ 0 → ∃ t, exec (.loadpkg id cmd ecc) s = .next t ∧ rejected s t n j.id 7 ∧
      t.mem = s.mem ∧ t.loads = s.loads) ∧
    (∀ (s1 s2 s3 : State) (h : Block) (f : Nat → Nat → Nat) (stripes : List (Nat × Nat)) (slot : Nat) (key bs : List Byte)
      (b : Built) (j1 : Job) (reads writes : List Nat),
      dest < stackEnd → dest % 4096 = 0 →
      s.readBlock n j.id cmd (unitOfAddr pkg) pkg (((e.find? fun p => p.1 == 0).map fun p => p.2).getD .ok) none =
        (s1, some h) → f = (fun o n => leNat ((h.data.drop o).take n)) →
      stripes = imageStripes ((List.range 4).map fun k => f (0x20 + 4 * k) 4) dest →
      (∀ x ∈ stripes, s1.overlaps x.1 x.2 = false ∧ dest % stackSize + x.2 * 256 ≤ stackSize) →
      (s1.clearMagic n j.id cmd dest = (s2, false) → exec (.loadpkg id cmd ecc) s = .next s2) ∧ (
      s1.clearMagic n j.id cmd dest = (s2, true) → (s2.holding pkg h.data).headerBad pkg len = false → s2.pubKeys.find? (fun p => p.1 == f 6 1) = some (slot, key) →
      s2.readPackage n j.id cmd pkg (f 0xC 2) e len 0 = (s3, some bs) →
      (s3.holding pkg bs).buildPkg pkg len dest (tfld c 0 20 6) = .inr b →
      (∀ x ∈ stripes, x.2 ≠ 0 → s3.accessFault (.eng n) true x.1 (x.2 * 256) = none) →
      j.loadSlots s3.swath n pkg len b = (j1, reads, writes) →
      ∃ t, exec (.loadpkg id cmd ecc) s = .next t ∧ t.loads = s3.loads ++ [b.load j.id cmd n writes (j.lastWork + 1)] ∧
        (reads.length < len → t.verifs = s3.verifs) ∧
        (len ≤ reads.length → ∃ y w, t.verifs = s3.verifs ++ [y] ∧ reads.getLast? = some w ∧
          (y.job, y.cmd, y.for_, y.key, y.digest, y.ready) = (j.id, cmd, .package, key, b.image.digest, w) ∧
          y.sig = (bs.drop ((len - 10) * 256)).take 2420) ∧
        t = { (s3.countClamped n b).updJob j.id (fun x => { x with used := j1.used }) with loads := t.loads, verifs := t.verifs }))) ∧
  (∀ (s : State) (l : Load), s.flits = [] → (∀ x ∈ l.todo, tagged x.2.1 = true) → (s.putImage l).mem =
    (l.todo.filter fun x => decide (x.1 ≤ s.swath)).foldl
      (fun m x => Memory.putBlock m x.2.1 (Block.fresh x.2.2.2 l.image.tid x.2.2.1)) s.mem ∧
    ∀ x ∈ (s.putImage l).loads, x.job = l.job → x.cmd = l.cmd → ∀ y ∈ x.todo, s.swath < y.1) ∧
  (∀ s : State, (∀ v ∈ s.verifs, s.swath < v.ready) → exec .signatureVerify s = .next s) ∧
  (∀ (s : State) (v : Verify) (rest : List Verify), s.verifs.find? (fun v => decide (v.ready ≤ s.swath)) = some v →
    rest = s.verifs.erase v →
    let ok : Bool := mldsaVerify v.key v.digest v.sig
    let bad (t : State) : Prop := t.get F.SEC_STATUS_VERIFY_FAIL = 1 ∧ s.Raised t 43 ∧
      t.get F.SEC_VERIFY_CNT_FAIL_CNT = min (s.get F.SEC_VERIFY_CNT_FAIL_CNT + 1) (2 ^ F.SEC_VERIFY_CNT_FAIL_CNT.w - 1)
    (ok = true → ∃ t, exec .signatureVerify s = .next t ∧ t.verifs = rest ∧
      t.get F.SEC_VERIFY_CNT_PASS_CNT = min (s.get F.SEC_VERIFY_CNT_PASS_CNT + 1) (2 ^ F.SEC_VERIFY_CNT_PASS_CNT.w - 1) ∧
      (v.for_ = .package → t.tests = s.tests ∧ ∀ x ∈ t.loads, (x.job, x.cmd) = (v.job, v.cmd) → x.verified = some s.swath) ∧
      (v.for_ = .test → t.loads = s.loads ∧ ∀ x ∈ t.tests, (x.job, x.cmd) = (v.job, v.cmd) → x.verified = true) ∧
      t = { s with regs := t.regs, verifs := rest, loads := t.loads, tests := t.tests } ∧ s.RegsBut t [F.SEC_VERIFY_CNT_PASS_CNT]) ∧
    (∀ l, ok = false → v.for_ = .package → s.loads.find? (fun l => l.job == v.job && l.cmd == v.cmd) = some l →
      ∃ t, exec .signatureVerify s = .next t ∧ t.verifs = rest.filter (fun x => !(x.job == v.job && x.cmd == v.cmd)) ∧ bad t ∧
        rejected s t l.chan v.job 3 ∧
        t.loads = s.loads.filter fun x => !(x.job == v.job && x.cmd == v.cmd)) ∧
    (ok = false → v.for_ = .test → ∃ t, exec .signatureVerify s = .next t ∧ t.verifs = rest ∧ bad t ∧
      t.get F.GRS_TP_STATUS_REASON = 3 ∧ t.get F.GRS_TP_STATUS_REJECT = 1 ∧
      t.tests = s.tests.filter fun x => !(x.job == v.job && x.cmd == v.cmd))) ∧
  (∀ (id cmd : Nat) (s s1 : State) (l : Load) (j : Job) (c : List Nat),
    s.loads.find? (fun l => l.job == id && l.cmd == cmd) = some l → s.cmdDue id cmd = some (j, c) →
    let run := j.takeRun s.swath (2 ^ 32) s.swath s.swath 0
      (l.manifestBlocks.zipIdx.map fun x => writeWays l.chan (l.image.ptr + x.2 * 256))
    let verified : Prop := (∃ w, l.verified = some w ∧ w < s.swath) ∧ l.todo = [] ∧ l.manifestBlocks.length ≤ run.2.length
    (j.lastWork < s.swath ∨ ¬verified → exec (.manifestWrite id cmd) s = .next s) ∧
    (j.lastWork ≤ s.swath → l.job = id → l.cmd = cmd → rejected s (s.profileShort l) l.chan id 8 ∧ (s.profileShort l).mem = s.mem ∧
      (s.profileShort l).loads = s.loads.filter fun x => !(x.job == id && x.cmd == cmd)) ∧
    (s.swath ≤ j.lastWork → verified → s1 = (s.updJob id fun x => { x with used := run.1.used }).putManifest l →
      s1.postReason l.ctx l.image.ptr 0x4D494C4F = none → l.image.ptr ≠ 0 →
      (s.ctx l.ctx).postSwath ≠ s.swath ∨ (s.ctx l.ctx).postChan ≤ j.chan →
      ∃ t, exec (.manifestWrite id cmd) s = .next t ∧ t.mem = s1.mem ∧ (∃ i ∈ t.images, i = { l.image with valid := true, hash := i.hash, hashFrom := s.swath }) ∧
        t.get (F.CHN_LD_PKG_ACCEPTED l.chan) =
          min (s.get (F.CHN_LD_PKG_ACCEPTED l.chan) + 1) (2 ^ (F.CHN_LD_PKG_ACCEPTED l.chan).w - 1) ∧
        t.get (F.GLB_CTX_PEND_PEND l.ctx) = l.image.ptr % 2 ^ 48 ∧ t.get (F.GLB_CTX_STATE_PENDING l.ctx) = 1 ∧
        (t.job id).map (fun x => x.cmdsDone.contains cmd) = some true ∧
        t.loads = s.loads.filter fun x => !(x.job == id && x.cmd == cmd))) ∧
  (∀ (id cmd : Nat) (s : State) (j : Job) (c : List Nat) (x ptr : Nat), s.workDue id cmd = some (j, c) → cmdOp c = 6 →
    x = tfld c 0 20 6 → ptr = cmdAddr c 2 →
    (∀ s1, ptr ≠ 0 → s.image ptr ≠ none → s.readBlock (chanOfAddr ptr) j.id cmd (unitOfAddr ptr) ptr .ok none = (s1, none) →
      exec (.ctxptr id cmd) s = .next s1) ∧
    (∀ (s1 : State) (n magic : Nat), ((ptr = 0 ∨ s.image ptr = none) ∧ s1 = s ∧ n = j.chan ∧ magic = 0) ∨
      (ptr ≠ 0 ∧ s.image ptr ≠ none ∧ n = chanOfAddr ptr ∧ ∃ b, s.readBlock n j.id cmd (unitOfAddr ptr) ptr .ok none = (s1, some b) ∧
        magic = leNat (b.data.take 4)) →
    (s1.postReason x ptr magic = none → ptr ≠ 0 ∨ s.get (F.GLB_CTX_STATE_STATE x) ≠ 0 →
      (s.ctx x).postSwath ≠ s.swath ∨ (s.ctx x).postChan ≤ j.chan →
      ∃ t, exec (.ctxptr id cmd) s = .next t ∧ t.get (F.GLB_CTX_PEND_PEND x) = ptr % 2 ^ 48 ∧
        t.get (F.GLB_CTX_STATE_PENDING x) = 1 ∧ (t.ctx x).pendUnload = (ptr == 0) ∧
        (s.get (F.GLB_CTX_STATE_PENDING x) ≠ 0 → t.get (F.GLB_CTX_EVENTS_SUPERSEDED_CNT x) =
          min (s.get (F.GLB_CTX_EVENTS_SUPERSEDED_CNT x) + 1) (2 ^ (F.GLB_CTX_EVENTS_SUPERSEDED_CNT x).w - 1)) ∧
        (t.job id).map (fun y => y.cmdsDone.contains cmd) = some true ∧
        t = { s1 with regs := t.regs, ctxs := t.ctxs, jobs := t.jobs } ∧
        s1.RegsBut t [F.GLB_CTX_PEND_PEND x, F.GLB_CTX_STATE_PENDING x, F.GLB_CTX_EVENTS_SUPERSEDED_CNT x]) ∧
    (∀ r, s1.postReason x ptr magic = some r → ∃ t, exec (.ctxptr id cmd) s = .next t ∧ rejected s1 t n id r ∧
      t.get (F.GLB_CTX_EVENTS_LAST_REASON x) = r ∧ t.get (F.GLB_CTX_EVENTS_REFUSED_CNT x) =
        min (s.get (F.GLB_CTX_EVENTS_REFUSED_CNT x) + 1) (2 ^ (F.GLB_CTX_EVENTS_REFUSED_CNT x).w - 1) ∧
      t = { s1 with regs := t.regs, jobs := t.jobs })))

/-- CONTEXT_CHANGE_EFFECT (R267, R268), REPLACING_END, OLD_BUSY_CLEAR (R272) and UNLOAD_EMPTY (R271). -/
def Obligations.ContextChangesTakeEffect : Prop :=
  ∀ (c : Ctx) (s : State) (st : Nat), st = s.get (F.GLB_CTX_STATE_STATE c) →
    let due : Prop := s.fresh = true ∧ s.get (F.GLB_CTX_STATE_PENDING c) ≠ 0 ∧ s.get (F.GLB_CTX_STATE_BATCH_OPEN c) = 0 ∧ st < 2 ∧
      (s.ctx c).postSwath < s.swath ∧ s.stopped 0x40 = false
    let unload := (s.ctx c).pendUnload
    let old := s.get (F.GLB_CTX_PTR_PTR c)
    let new := s.get (F.GLB_CTX_PEND_PEND c)
    let others (t : State) : Prop := ∀ d, d ≠ c.val → t.ctx d = s.ctx d
    (¬due → exec (.contextChangeEffect c) s = .next s) ∧
    (due → s.image (if unload then old else new) = none → ∃ t, exec (.contextChangeEffect c) s = .next t ∧
      t.get (F.GLB_CTX_STATE_PENDING c) = 0 ∧ s.OnlyRegs t [F.GLB_CTX_STATE_PENDING c]) ∧
    (∀ i, due → s.image (if unload then old else new) = some i → ∃ t, exec (.contextChangeEffect c) s = .next t ∧
      t.get (F.GLB_CTX_STATE_PENDING c) = 0 ∧ t.get (F.GLB_CTX_STATE_STATE c) = (if unload then 3 else 2) ∧
      t.get (F.GLB_CTX_STATE_VERSION c) = (s.get (F.GLB_CTX_STATE_VERSION c) + 1) % 2 ^ (F.GLB_CTX_STATE_VERSION c).w ∧
      t.get (F.GLB_CTX_PTR_PTR c) = (if unload then 0 else new % 2 ^ 48) ∧
      t.get (F.GLB_CTX_TID_CUR_TID c) = (if unload then 0 else i.tid % 2 ^ 16) ∧
      (old ≠ 0 → t.get (F.GLB_CTX_STATE_OLD_BUSY c) = 1 ∧
        t.get (F.GLB_CTX_TID_OLD_TID c) = s.get (F.GLB_CTX_TID_CUR_TID c) % 2 ^ 16) ∧
      (t.ctx c).wave = s.waveItems c i unload (s.boundTo c old) ∧ (t.ctx c).effect = s.swath ∧ (t.ctx c).rqDue = (if unload then [] else s.rqItems c i (s.boundTo c old)) ∧
      (t.ctx c).olds = (s.ctx c).olds ++ (if old = 0 then [] else [(old, (s.boundTo c old).map Job.id)]) ∧ t = { s with regs := t.regs, ctxs := t.ctxs } ∧ others t ∧
      s.RegsBut t [F.GLB_CTX_STATE_PENDING c, F.GLB_CTX_STATE_STATE c, F.GLB_CTX_STATE_VERSION c, F.GLB_CTX_PTR_PTR c,
        F.GLB_CTX_TID_CUR_TID c, F.GLB_CTX_STATE_OLD_BUSY c, F.GLB_CTX_TID_OLD_TID c]) ∧
    (let done : Prop := st = 2 ∧ (s.ctx c).rqDue = [] ∧ ∀ x ∈ (s.ctx c).wave, x.last < s.swath ∧ (x.done = true ∨ s.tskState x.g ≠ tSERVICE);
      (done → ∃ t, exec (.replacingEnd c) s = .next t ∧ t.get (F.GLB_CTX_STATE_STATE c) = 1 ∧
        t.ctx c = { (s.ctx c) with wave := [] } ∧ t = { s with regs := t.regs, ctxs := t.ctxs } ∧ others t ∧
        s.RegsBut t [F.GLB_CTX_STATE_STATE c]) ∧
      (¬done → exec (.replacingEnd c) s = .next s)) ∧
    (∃ t, exec (.oldBusyClear c) s = .next t ∧ t = { s with regs := t.regs, ctxs := t.ctxs } ∧ others t ∧
      t.ctx c = { s.ctx c with olds := ((s.ctx c).olds.zipIdx.filter fun x => (x.1.2.any fun id => (s.job id).isSome) ||
        (decide (2 ≤ st) && x.2 + 1 == (s.ctx c).olds.length)).map Prod.fst } ∧
      ((t.ctx c).olds = [] → t.get (F.GLB_CTX_STATE_OLD_BUSY c) = 0 ∧ s.RegsBut t [F.GLB_CTX_STATE_OLD_BUSY c]) ∧
      ((t.ctx c).olds ≠ [] → t.regs = s.regs)) ∧
    (st ≠ 3 → exec (.unloadEmpty c) s = .next s) ∧
    (st = 3 → (∀ x ∈ (s.ctx c).wave, x.done = true ∨ x.from_ ≤ s.swath) → ∃ t, exec (.unloadEmpty c) s = .next t ∧
      t.get (F.GLB_CTX_STATE_STATE c) = 0 ∧ (t.ctx c).wave = [] ∧ others t ∧
      (∀ x ∈ (s.ctx c).wave, x.done = false → s.get (F.TSK_ARR_STATE_CONTEXT x.g (s.arrOf x.g x.slot)) = c.val →
        t.arrState x.g (s.arrOf x.g x.slot) = aEMPTY) ∧ t = { s with regs := t.regs, ctxs := t.ctxs, tusss := t.tusss })

/-- LEA_ENABLE to LEA_BREAK_END (R341 to R343), LEA_BAD_FRAME (R345), LEA_NAK, LEA_REPLAY_TIMEOUT (R346, R347), RETRY_EXHAUSTED
(R348) and CREDIT_STALL (R353); that EN takes only a port that is UP down, from when the 100 us of EXCHANGE count, and that ACK and credits
of a NAK frame count first: log entry 15. -/
def Obligations.LeaPortsTrainReplayAndFail : Prop :=
  let moved (s t : State) (p : Nat) : Prop := (t.lea p = { s.lea p with since := s.time } ∧ (∀ q, q ≠ p → t.lea q = s.lea q) ∧
    t = { s with regs := t.regs, leas := t.leas, irq := t.irq })
  let fails (s t : State) (p : Nat) (also : List Fld) : Prop := (
    let n := s.get (F.LEA_PORT_STATUS_ATTEMPTS p) + 1
    let m := if s.get (F.LEA_PORT_CFG_MAX_ATTEMPTS p) = 0 then 16 else s.get (F.LEA_PORT_CFG_MAX_ATTEMPTS p)
    t.get (F.LEA_PORT_STATUS_ATTEMPTS p) = min n 15 ∧ moved s t p ∧ s.RaisedIf t (24 + p) (also ≠ [] ∨ m ≤ n) ∧
    (n < m → t.get (F.LEA_PORT_STATUS_STATE p) = lpTRAIN ∧
      s.RegsBut t (also ++ [F.LEA_PORT_STATUS_ATTEMPTS p, F.LEA_PORT_STATUS_STATE p] ++ eventFlds)) ∧
    (m ≤ n → t.get (F.LEA_PORT_STATUS_STATE p) = lpFAULT ∧ t.get (F.LEA_PORT_STATUS_TRAIN_FAIL p) = 1 ∧
      s.RegsBut t (also ++ [F.LEA_PORT_STATUS_ATTEMPTS p, F.LEA_PORT_STATUS_STATE p, F.LEA_PORT_STATUS_TRAIN_FAIL p] ++
        eventFlds)))
  let exhausted (s t : State) (p : Nat) : Prop := (t.get (F.LEA_PORT_STATUS_STATE p) = lpDOWN ∧
    t.get (F.LEA_PORT_STATUS_EXHAUSTED p) = 1 ∧ s.Raised t (24 + p) ∧
    t.get (F.LEA_PORT_ERR_EXHAUST_CNT p) = min (s.get (F.LEA_PORT_ERR_EXHAUST_CNT p) + 1) (2 ^ (F.LEA_PORT_ERR_EXHAUST_CNT p).w - 1) ∧
    (t.lea p).data = [] ∧ (t.lea p).replay = [] ∧ t.mem = s.mem ∧
    ∀ j ∈ s.jobs, (∃ f ∈ (s.lea p).data ++ (s.lea p).replay, f.owner.map Prod.fst = some j.id) ∨
      (∃ u ∈ j.units, u.kind = 11 ∧ u.unit % 4 = p ∧ s.swath ≤ u.swath) →
      ∀ x ∈ t.jobs, x.id = j.id → x.stage = .running → x.err.isSome = true)
  let replays (s t : State) (p : Nat) (l : LeaPort) : Prop := ((t.lea p).replay = l.replay ∧ (t.lea p).resend = l.replay.length ∧
    (t.lea p).ackTime = s.time ∧ (t.lea p).episode = (match l.episode with
      | none => some ⟨1, s.time, l.replay.length⟩
      | some e => some { e with tries := e.tries + 1 }) ∧
    t.get (F.LEA_PORT_ERR_TRY_CNT p) = min (s.get (F.LEA_PORT_ERR_TRY_CNT p) + 1) (2 ^ (F.LEA_PORT_ERR_TRY_CNT p).w - 1))
  (∀ (p : Port) (s : State), s.reach .LEA_PORT_CFG p = true →
    (s.leaState p = lpDISABLED → ∃ t, exec (.leaEnable p) s = .next t ∧ t.get (F.LEA_PORT_CFG_EN p) = 1 ∧ t.leaState p = lpTRAIN ∧
      moved s t p ∧ t.irq = s.irq ∧ s.RegsBut t [F.LEA_PORT_CFG_EN p, F.LEA_PORT_STATUS_STATE p]) ∧
    (s.leaState p ≠ lpDISABLED → ∃ t, exec (.leaEnable p) s = .next t ∧ t.get (F.LEA_PORT_CFG_EN p) = 1 ∧
      s.OnlyRegs t [F.LEA_PORT_CFG_EN p]) ∧
    (s.leaState p = lpUP → ∃ t, exec (.leaDisable p) s = .next t ∧ t.get (F.LEA_PORT_CFG_EN p) = 0 ∧ t.leaState p = lpDISABLED ∧
      moved s t p ∧ t.irq = s.irq ∧ s.RegsBut t [F.LEA_PORT_CFG_EN p, F.LEA_PORT_STATUS_STATE p]) ∧
    (s.leaState p ≠ lpUP → ∃ t, exec (.leaDisable p) s = .next t ∧ t.get (F.LEA_PORT_CFG_EN p) = 0 ∧
      s.OnlyRegs t [F.LEA_PORT_CFG_EN p]) ∧
    (s.leaState p = lpDOWN ∨ s.leaState p = lpFAULT → ∃ t, exec (.leaRetrain p) s = .next t ∧ t.leaState p = lpTRAIN ∧
      moved s t p ∧ t.irq = s.irq ∧ s.RegsBut t [F.LEA_PORT_STATUS_STATE p]) ∧
    (s.leaState p ≠ lpDOWN → s.leaState p ≠ lpFAULT → exec (.leaRetrain p) s = .next s)) ∧
  (∀ (p : Port) (s : State), s.powered .lea = true → s.leaState p = lpTRAIN →
    (s.time ≤ (s.lea p).since + 40000000 → ∃ t, exec (.leaTrainDone p) s = .next t ∧ t.leaState p = lpALIGN ∧ moved s t p ∧
      t.irq = s.irq ∧ s.RegsBut t [F.LEA_PORT_STATUS_STATE p]) ∧
    ((s.lea p).since + 40000000 < s.time → ∃ t, exec (.leaTrainDone p) s = .next t ∧ fails s t p [])) ∧
  (∀ (p : Port) (s : State), s.powered .lea = true → s.leaState p = lpALIGN →
    (s.time ≤ (s.lea p).since + 1000000 → ∃ t, exec (.leaAlignDone p) s = .next t ∧ t.leaState p = lpEXCHANGE ∧
      t.lea p = { s.lea p with trainCnt := 0, agreedAt := none, since := s.time } ∧ (∀ q, q ≠ p.val → t.lea q = s.lea q) ∧
      t = { s with regs := t.regs, leas := t.leas } ∧ s.RegsBut t [F.LEA_PORT_STATUS_STATE p]) ∧
    ((s.lea p).since + 1000000 < s.time → ∃ t, exec (.leaAlignDone p) s = .next t ∧ fails s t p [])) ∧
  (∀ (p : Port) (s : State), s.powered .lea = true →
    let expired : Prop := if s.leaState p = lpEXCHANGE then ∃ a, (s.lea p).agreedAt = some a ∧ a + 100000 ≤ s.time
      else (s.lea p).since + (if s.leaState p = lpTRAIN then 40000000 else 1000000) ≤ s.time
    (s.leaState p = lpTRAIN ∨ s.leaState p = lpALIGN ∨ s.leaState p = lpEXCHANGE → expired →
      ∃ t, exec (.leaAttemptFail p) s = .next t ∧ fails s t p []) ∧
    (¬expired → exec (.leaAttemptFail p) s = .next s)) ∧
  (∀ (p : Port) (kind rate : BitVec 8) (node : BitVec 4) (port dbuf cbuf : BitVec 8) (agreed : Bool) (s : State) (n : Nat)
    (x : Nat × Nat × Nat × Nat × Nat × Nat), s.powered .lea = true → s.leaState p = lpEXCHANGE →
    x = (kind.toNat, rate.toNat, node.toNat, port.toNat, dbuf.toNat, cbuf.toNat) →
    n = (if (s.lea p).train = x then (s.lea p).trainCnt + 1 else 1) →
    let late : Prop := ∃ a, (s.lea p).agreedAt = some a ∧ a + 100000 < s.time
    (late → ∃ t, exec (.leaTrainFrame p kind rate node port dbuf cbuf agreed) s = .next t ∧ fails s t p []) ∧
    (¬late → rate.toNat ≠ s.get (F.LEA_PORT_CFG_RATE p) → ∃ t, exec (.leaTrainFrame p kind rate node port dbuf cbuf agreed) s = .next t ∧
      t.get (F.LEA_PORT_STATUS_RATE_MISMATCH p) = 1 ∧ fails s t p [F.LEA_PORT_STATUS_RATE_MISMATCH p]) ∧
    (¬late → rate.toNat = s.get (F.LEA_PORT_CFG_RATE p) → n < 3 ∨ agreed = false →
      ∃ t, exec (.leaTrainFrame p kind rate node port dbuf cbuf agreed) s = .next t ∧
        t.lea p = { (s.lea p) with
          train := x, trainCnt := n, agreedAt := if 3 ≤ n then some ((s.lea p).agreedAt.getD s.time) else (s.lea p).agreedAt } ∧ t = { s with leas := t.leas }) ∧
    (¬late → rate.toNat = s.get (F.LEA_PORT_CFG_RATE p) → 3 ≤ n → agreed = true →
      ∃ t, exec (.leaTrainFrame p kind rate node port dbuf cbuf agreed) s = .next t ∧
        t.leaState p = (if s.on (F.LEA_PORT_CFG_EN p) then lpUP else lpDISABLED) ∧ s.RaisedIf t (24 + p) (s.on (F.LEA_PORT_CFG_EN p) = true) ∧
        (t.lea p).ctrl = (if kind.toNat = 2 then [] else (s.lea p).ctrl) ∧
        t.get (F.LEA_PORT_STATUS_ATTEMPTS p) = 0 ∧ t.get (F.LEA_PORT_STATUS_PARTNER_NODE p) = node.toNat ∧
        t.get (F.LEA_PORT_STATUS_PARTNER_1100 p) = (if kind.toNat = 2 then 1 else 0) ∧ (t.lea p).dcred = dbuf.toNat ∧
        (t.lea p).ccred = cbuf.toNat ∧ (t.lea p).next = 0 ∧ (t.lea p).expect = 0 ∧ (t.lea p).replay = [] ∧
        t = { s with regs := t.regs, leas := t.leas, irq := t.irq })) ∧
  (∀ (p : Port) (s : State), s.powered .lea = true → s.leaState p = lpUP →
    ∃ t, exec (.leaLockLoss p) s = .next t ∧ t.leaState p = lpDOWN ∧ s.Raised t (24 + p) ∧ moved s t p ∧
      s.RegsBut t (F.LEA_PORT_STATUS_STATE p :: eventFlds)) ∧
  (∀ (p : Port) (s : State), s.powered .lea = true → s.leaState p = lpDOWN → s.on (F.LEA_PORT_CFG_AUTO_RETRAIN p) = true →
    ((s.lea p).since + 10000 ≤ s.time → ∃ t, exec (.leaBreakEnd p) s = .next t ∧ t.leaState p = lpTRAIN ∧ moved s t p ∧
      t.irq = s.irq ∧ s.RegsBut t [F.LEA_PORT_STATUS_STATE p]) ∧
    (s.time < (s.lea p).since + 10000 → exec (.leaBreakEnd p) s = .next s)) ∧
  (∀ (p : Port) (crcBad : Bool) (uncorr : BitVec 8) (s : State), s.powered .lea = true → s.stopped (0x60 + p) = false → s.leaState p = lpUP →
    ∃ t, exec (.leaBadFrame p crcBad uncorr) s = .next t ∧
      t.get (F.LEA_PORT_FEC_UNCORR_CNT p) =
        min (s.get (F.LEA_PORT_FEC_UNCORR_CNT p) + uncorr.toNat) (2 ^ (F.LEA_PORT_FEC_UNCORR_CNT p).w - 1) ∧
      (crcBad = true → t.get (F.LEA_PORT_ERR_CRC_CNT p) =
        min (s.get (F.LEA_PORT_ERR_CRC_CNT p) + 1) (2 ^ (F.LEA_PORT_ERR_CRC_CNT p).w - 1)) ∧
      t.lea p = (if (s.lea p).discarding then s.lea p else { (s.lea p) with nakDue := true, discarding := true }) ∧
      t = { s with regs := t.regs, leas := t.leas } ∧
      s.RegsBut t [F.LEA_PORT_FEC_UNCORR_CNT p, F.LEA_PORT_ERR_CRC_CNT p]) ∧
  (∀ (p : Port) (h : LeaHdr) (s : State) (l : LeaPort), s.powered .lea = true → s.stopped (0x60 + p) = false → s.leaState p = lpUP →
    l = (s.leaAck p h.ack.toNat).lea p → l.replay ≠ [] →
    ((∀ e, l.episode = some e → e.tries < 4) → ∃ t, exec (.leaNak p h) s = .next t ∧ replays s t p l ∧
      (t.lea p).dcred = l.dcred + h.dcred.toNat ∧ (t.lea p).ccred = l.ccred + h.ccred.toNat ∧
      t = { s with regs := t.regs, leas := t.leas, jobs := t.jobs }) ∧
    (∀ e, l.episode = some e → 4 ≤ e.tries → ∃ t, exec (.leaNak p h) s = .next t ∧ t.leaState p = lpDOWN ∧
      t.get (F.LEA_PORT_STATUS_EXHAUSTED p) = 1 ∧ s.Raised t (24 + p) ∧ (t.lea p).data = [] ∧ (t.lea p).replay = [])) ∧
  (∀ (p : Port) (s : State), s.powered .lea = true → s.stopped (0x60 + p) = false → s.leaState p = lpUP → (s.lea p).ackTime + 512 ≤ s.time →
    (s.lea p).replay ≠ [] →
    ((∀ e, (s.lea p).episode = some e → e.tries < 4) → ∃ t, exec (.leaReplayTimeout p) s = .next t ∧ replays s t p (s.lea p) ∧
      t = { s with regs := t.regs, leas := t.leas } ∧ s.RegsBut t [F.LEA_PORT_ERR_TRY_CNT p]) ∧
    (∀ e, (s.lea p).episode = some e → 4 ≤ e.tries → ∃ t, exec (.leaReplayTimeout p) s = .next t ∧ exhausted s t p)) ∧
  (∀ (p : Port) (s : State) (e : Episode), s.powered .lea = true → s.leaState p = lpUP → (s.lea p).episode = some e →
    (e.since + 10000 ≤ s.time → ∃ t, exec (.retryExhausted p) s = .next t ∧ exhausted s t p) ∧
    (s.time < e.since + 10000 → exec (.retryExhausted p) s = .next s)) ∧
  (∀ (p : Port) (s : State), s.powered .lea = true → s.leaState p = lpUP →
    ((s.lea p).dcred = 0 → (s.lea p).dryTime + 1024 ≤ s.time → ∃ t, exec (.creditStall p) s = .next t ∧
      t.get (F.LEA_PORT_STATUS_CREDIT_STALL p) = 1 ∧ s.Raised t (24 + p) ∧ t = { s with regs := t.regs, irq := t.irq } ∧
      s.RegsBut t (F.LEA_PORT_STATUS_CREDIT_STALL p :: eventFlds)) ∧
    ((s.lea p).dcred ≠ 0 ∨ s.time < (s.lea p).dryTime + 1024 → exec (.creditStall p) s = .next s))

/-- LEA_FRAME_SLOT (R340, R344, R346), LEA_IDLE_FRAME (R339), LEA_DATA_FRAME (R345, R352), and CONFIRM to RESERVED_CTRL_MESSAGE
(R354 to R359); the frames of the slot's job are found by its operand (log entry 15). -/
def Obligations.LeaFramesCarryBlocksAndMessages : Prop :=
  (∀ (p : Port) (id : Nat) (s : State), s.powered .lea = true → s.stopped (0x60 + p) = false → s.leaState p = lpEXCHANGE →
    (s.leaPassed p).1 < s.leaSlots p → ∃ t, exec (.leaFrameSlot p id) s = .next t ∧ (t.lea p).sent = .train ∧
      (t.lea p).sentAck = ((s.lea p).expect + 255) % 256 ∧ (t.lea p).sentSeq = ((s.lea p).next + 256 - (s.lea p).resend) % 256 ∧
      (t.lea p).wire.length = 280 ∧ (t.lea p).wire.drop 276 = leBytes 4 (crc32c ((t.lea p).wire.take 276)) ∧
      ((t.lea p).wire.drop 12).take 6 = (s.trainBytes p).take 6 ∧ t = { s with leas := t.leas }) ∧
  (∀ (p : Port) (c : Instr) (s : State), s.stopped (0x60 + p) = true → (∃ id, c = .leaFrameSlot p id) ∨ (∃ h, c = .leaIdleFrame p h) ∨
    (∃ h b a o r d x i q, c = .leaDataFrame p h b a o r d x i q) ∨ (∃ x u, c = .leaBadFrame p x u) ∨ (∃ h, c = .leaNak p h) ∨
    (∃ h m, c = .confirm p h m) ∨ (∃ h m, c = .retract p h m) → exec c s = .next s) ∧
  (∀ (p : Port) (id : Nat) (s : State) (l : LeaPort), s.powered .lea = true → s.stopped (0x60 + p) = false → s.leaState p = lpUP →
    l = s.lea p →
    let credit (f : LeaFrame) : Prop := match f with
      | .data .. => l.dcred ≠ 0
      | .ctrl _ => l.ccred ≠ 0
    let sends (t : State) (f : LeaFrame) : Prop := (t.lea p).sent = .frame f ∧ (t.lea p).sentAck = (l.expect + 255) % 256 ∧
      (t.lea p).sentSeq = (l.next + 256 - l.resend) % 256 ∧ (t.lea p).wire = (t.lea p).frameBytes (s.leaBody p (.frame f)) ∧
      (t.lea p).sentNak = l.nakDue ∧ (t.lea p).nakDue = false ∧ t.mem = s.mem ∧ t.tusss = s.tusss ∧
      (t.lea p).slots.1 = s.swath ∧ (t.lea p).slots.2.1 = (s.leaPassed p).1 + 1 ∧
      t.get (F.LEA_PORT_TX_FRAMES p) = (s.get (F.LEA_PORT_TX_FRAMES p) + 1) % 2 ^ 64
    let room : Prop := (s.leaPassed p).1 < s.leaSlots p
    let takes (t : State) (f : LeaFrame) : Prop := sends t f ∧ (t.lea p).replay = l.replay ++ [f] ∧
      (t.lea p).next = (l.next + 1) % 256
    (¬room → exec (.leaFrameSlot p id) s = .next s) ∧
    (∀ f, room → l.resend ≠ 0 → l.replay[l.replay.length - l.resend]? = some f → credit f →
      ∃ t, exec (.leaFrameSlot p id) s = .next t ∧ sends t f ∧ (t.lea p).resend = l.resend - 1 ∧ (t.lea p).replay = l.replay) ∧
    (∀ f rest, room → l.resend = 0 → l.replay.length < 64 → l.ctrl = f :: rest → l.ccred ≠ 0 → (∃ m, f = .ctrl m) →
      ∃ t, exec (.leaFrameSlot p id) s = .next t ∧ takes t f ∧ (t.lea p).ctrl = rest ∧ (t.lea p).ccred = l.ccred - 1) ∧
    (∀ f rest, room → l.resend = 0 → l.replay.length < 64 → l.ctrl = [] ∨ l.ccred = 0 → l.dcred ≠ 0 → s.leaHolds p id = false →
      l.chain = f :: rest → (∀ m, f ≠ .ctrl m) →
      ∃ t, exec (.leaFrameSlot p id) s = .next t ∧ takes t f ∧ (t.lea p).chain = rest ∧ (t.lea p).dcred = l.dcred - 1) ∧
    (∀ f rest, room → l.resend = 0 → l.replay.length < 64 → l.ctrl = [] ∨ l.ccred = 0 → l.dcred ≠ 0 → s.leaHolds p id = true →
      takeFrame (fun f => f.owner.map Prod.fst == some id) l.data = some (f, rest) →
      ∃ t, exec (.leaFrameSlot p id) s = .next t ∧ takes t f ∧ (t.lea p).data = rest ∧ (t.lea p).dcred = l.dcred - 1) ∧
    (room → l.resend = 0 → 64 ≤ l.replay.length ∨ (l.ctrl = [] ∧ l.data = [] ∧ l.chain = []) →
      ∃ t, exec (.leaFrameSlot p id) s = .next t ∧ (t.lea p).sent = .idle ∧ (t.lea p).replay = l.replay ∧
        t = { s with leas := t.leas })) ∧
  (∀ (p : Port) (h : LeaHdr) (s : State) (k : Nat), s.powered .lea = true → s.stopped (0x60 + p) = false → s.leaState p = lpUP → h.nak = false →
    k = (h.ack.toNat + 1 + 512 - (s.lea p).next + (s.lea p).replay.length) % 256 →
    ∃ t, exec (.leaIdleFrame p h) s = .next t ∧
      (t.lea p).replay = (if k ≤ (s.lea p).replay.length then (s.lea p).replay.drop k else (s.lea p).replay) ∧
      (t.lea p).dcred = (s.lea p).dcred + h.dcred.toNat ∧ (t.lea p).ccred = (s.lea p).ccred + h.ccred.toNat ∧
      t = { s with regs := t.regs, leas := t.leas, jobs := t.jobs } ∧ s.RegsBut t [F.LEA_PORT_FEC_CORR_CNT p]) ∧
  (∀ (p : Port) (h : LeaHdr) (prov : Bool) (addr : BitVec 40) (origin : BitVec 4) (jobref : BitVec 16) (data : List Byte) (crc : Word)
    (tid seq : BitVec 16) (s : State) (a : Nat) (b : Block) (c : Instr), s.powered .lea = true → s.stopped (0x60 + p) = false →
    s.leaState p = lpUP →
    h.nak = false → a = addr.toNat * 256 → b = ⟨data, crc.toNat, tid.toNat, seq.toNat⟩ →
    c = .leaDataFrame p h prov addr origin jobref data crc tid seq →
    (h.fseq.toNat = (s.lea p).expect → s.accessFault (.lea p) true a 256 = none → s.memPowered a = true →
      ((∃ n, regionOf a = .stack n) ∨ ∃ g o, regionOf a = .bank g o) → ∃ t, exec c s = .next t ∧
        (∀ x, x = ((s.leaAccept p h fun u => u).inboundCross p a b).2 →
          t.mem = Memory.putBlock s.mem a (if x.good || x.poisoned then x else x.poison)) ∧ t.tusss = s.tusss ∧
        (t.lea p).expect = ((s.lea p).expect + 1) % 256 ∧
        t.get (F.LEA_PORT_RX_FRAMES p) = (s.get (F.LEA_PORT_RX_FRAMES p) + 1) % 2 ^ 64) ∧
    (∀ u q, h.fseq.toNat = (s.lea p).expect → s.accessFault (.lea p) true a 256 = some u →
      s.leaFaults.contains (origin.toNat, jobref.toNat, s.swath) = false → s.routeTo origin.toNat = some q →
      s.get (F.LEA_PORT_STATUS_PARTNER_1100 q) = 0 → ∃ t, exec c s = .next t ∧ t.mem = s.mem ∧ s.Raised t 46 ∧
        t.get (F.LEA_PORT_STAT_DENIED_CNT p) =
          min (s.get (F.LEA_PORT_STAT_DENIED_CNT p) + 1) (2 ^ (F.LEA_PORT_STAT_DENIED_CNT p).w - 1) ∧
        (t.lea q).ctrl = (s.lea q).ctrl ++
          [.ctrl ⟨5, origin.toNat, s.get F.LEA_NODE_NODE, 15, jobref.toNat, leBytes 6 a⟩]) ∧
    (h.fseq.toNat ≠ (s.lea p).expect → ∃ t, exec c s = .next t ∧ t.mem = s.mem ∧ (t.lea p).expect = (s.lea p).expect ∧
      (t.lea p).discarding = true ∧ ((s.lea p).discarding = false → (t.lea p).nakDue = true))) ∧
  (∀ (p : Port) (h : LeaHdr) (m : LeaRoute) (c : Instr) (code : Nat) (body : List Byte) (s : State), s.powered .lea = true →
    s.stopped (0x60 + p) = false → s.leaState p = lpUP → h.nak = false → h.fseq.toNat = (s.lea p).expect →
    (c, code, body) ∈ [(.confirm p h m, 1, []), (.retract p h m, 2, []), (.committed p h m, 3, [])] ∨
      (c = .digestMessage p h m body ∧ code = 4) ∨ (∃ x : BitVec 48, c = .addrFault p h m x ∧ code = 5 ∧ body = leBytes 6 x.toNat) ∨
      (∃ x : BitVec 8, c = .reservedCtrlMessage p h m x body ∧ code = x.toNat ∧ (code = 0 ∨ 6 ≤ code)) →
    let plain : Prop := s.get (F.LEA_PORT_STATUS_PARTNER_1100 p) = 0 ∧ (m.origin.toNat, m.jobref.toNat) ∉ s.chainRefs
    let mine : Prop := plain ∧ m.dest.toNat = s.get F.LEA_NODE_NODE
    let drops (t : State) : Prop := t.get F.LEA_STATUS_CTRL_DROP = 1 ∧ t.get F.LEA_CTRL_STAT_DROP_CNT =
      min (s.get F.LEA_CTRL_STAT_DROP_CNT + 1) (2 ^ F.LEA_CTRL_STAT_DROP_CNT.w - 1)
    (∃ t, exec c s = .next t ∧ (t.lea p).expect = ((s.lea p).expect + 1) % 256) ∧
    (s.get (F.LEA_PORT_STATUS_PARTNER_1100 p) ≠ 0 → ∃ t, exec c s = .next t ∧ t.get F.LEA_STATUS_CTRL_DROP = 1 ∧
      t.provs = s.provs ∧ s.RegsBut t [F.LEA_STATUS_CTRL_DROP, F.LEA_PORT_FEC_CORR_CNT p, F.LEA_PORT_RX_FRAMES p]) ∧
    (mine → code = 1 → ∃ t, exec c s = .next t ∧ t.provs = s.provs.filter (fun e => !e.upstream m) ∧
      (∀ x ∈ t.jobs, ∀ e ∈ s.provs, e.upstream m = true → e.id ∉ x.deps) ∧ t.mem = s.mem ∧ t.tusss = s.tusss) ∧
    (mine → code = 2 → ∃ t, exec c s = .next t ∧ t.provs = s.provs.filter (fun e => !e.upstream m) ∧
      (∀ j ∈ s.jobs, (∃ e ∈ s.provs, e.upstream m = true ∧ e.id ∈ j.deps) →
        ∃ x ∈ t.jobs, x.id = j.id ∧ x.depBad = true) ∧ t.mem = s.mem ∧ t.tusss = s.tusss) ∧
    (mine → code = 3 → ∃ t, exec c s = .next t ∧ t.get F.GRS_STATUS_COMMIT_RETRACT = 1 ∧ s.Raised t 28 ∧
      t.get F.GRS_EVT_CNT_COMMIT_RETRACT_CNT =
        min (s.get F.GRS_EVT_CNT_COMMIT_RETRACT_CNT + 1) (2 ^ F.GRS_EVT_CNT_COMMIT_RETRACT_CNT.w - 1)) ∧
    (∀ x, mine → code = 4 → x = (body.headD 0).toNat → x < 64 → m.origin.toNat < 8 → s.repSelf = true → s.repCompared x = true →
      s.swath < periodOf body + 16 → ∃ t, exec c s = .next t ∧
        Tab.get (fun _ => (0, 0)) (t.ctx x).digests (periodOf body * 8 + m.origin.toNat) = reportOf body ∧ t.mem = s.mem) ∧
    (mine → code = 5 → (∀ j ∈ s.jobs, j.chan = m.jobref.toNat / 16384 → m.jobref.toNat % 16384 ∉ j.tags) →
      ∃ t, exec c s = .next t ∧ t.get F.LEA_CTRL_STAT_LATE_FAULT_CNT =
        min (s.get F.LEA_CTRL_STAT_LATE_FAULT_CNT + 1) (2 ^ F.LEA_CTRL_STAT_LATE_FAULT_CNT.w - 1)) ∧
    (∀ j, mine → code = 5 → s.jobOfTag (m.jobref.toNat / 16384) (m.jobref.toNat % 16384) = some j → j.stage = .running →
      ∃ t, exec c s = .next t ∧ t.mem = s.mem ∧ ∀ x ∈ t.jobs, x.id = j.id → x.stage = .running → x.err.isSome = true) ∧
    (mine → code = 0 ∨ 6 ≤ code → ∃ t, exec c s = .next t ∧ drops t ∧ t.provs = s.provs ∧ t.mem = s.mem) ∧
    (∀ q, plain → m.dest.toNat ≠ s.get F.LEA_NODE_NODE → s.routeTo m.dest.toNat = some q → m.hops.toNat ≠ 0 →
      s.get (F.LEA_PORT_STATUS_PARTNER_1100 q) = 0 → ∃ t, exec c s = .next t ∧ t.provs = s.provs ∧ t.mem = s.mem ∧
        (t.lea q).ctrl = (s.lea q).ctrl ++
          [.ctrl ⟨code, m.dest.toNat, m.origin.toNat, m.hops.toNat - 1, m.jobref.toNat, body⟩]) ∧
    (plain → m.dest.toNat ≠ s.get F.LEA_NODE_NODE → s.routeTo m.dest.toNat = none ∨ m.hops.toNat = 0 →
      ∃ t, exec c s = .next t ∧ drops t ∧ t.provs = s.provs ∧ t.mem = s.mem))

/-- FIN_EDGE (R360, R362 to R364, R370, R376), FIN_STUCK, FIN_STUCK_END (R365) and ENC_TRANSITION (R366 to R368); the time of the
first sample: log entry 5. -/
def Obligations.FieldEdgesAndEncodersAct : Prop :=
  (∀ (i : FinIx) (high : Bool) (samples : BitVec 16) (s : State) (active : Bool) (first stamp q e occ : Nat),
    s.powered .stile = true → active = (high != s.on (F.STL_FIN_CFG_POL i)) → first = s.time - 5 * (samples.toNat - 1) →
    stamp = s.stampAt first → q = s.get (F.STL_FIN_CFG_QSEL i) → e = s.encSelAt q first → occ = s.get (F.STL_TQ_STAT_OCC q) →
    let taken : Prop := s.on (F.STL_FIN_CFG_EN i) = true ∧ s.get (F.STL_FIN_CFG_FILT i) ≤ samples.toNat ∧
      s.on (F.STL_FIN_STAT_LEVEL i) ≠ active
    let wanted : Prop := bitOf (s.get (F.STL_FIN_CFG_EDGE i)) (if active then 0 else 1) = true
    let stuck : Prop := s.on (F.STL_FIN_STAT_STUCK_NOW i) = true ∨ (s.fin i).freeAt = some s.fieldClock
    let flushed : Prop := (s.tq q).flushAt = some s.fieldClock
    let goes (t : State) : Prop := exec (.finEdge i high samples) s = .next t ∧ t.get (F.STL_FIN_STAT_LEVEL i) = natOf active ∧
      (t.fin i).since = s.stileTime
    let quiet (t : State) : Prop := t = { s with regs := t.regs, stile := { s.stile with fins := t.stile.fins } } ∧
      (t.fin i).lastEvent = (s.fin i).lastEvent
    let counts (t : State) (clr : Option Nat) (f : Fld) : Prop :=
      t.get f = if clr = some s.fieldClock then s.get f else min (s.get f + 1) (2 ^ f.w - 1)
    (¬taken → exec (.finEdge i high samples) s = .next s) ∧
    (taken → stuck → ∃ t, goes t ∧ quiet t ∧
      counts t (s.fin i).clrAt (F.STL_FIN_STAT_SUPP_CNT i) ∧
      s.RegsBut t [F.STL_FIN_STAT_LEVEL i, F.STL_FIN_STAT_SUPP_CNT i]) ∧
    (taken → ¬stuck → ¬wanted → ∃ t, goes t ∧ quiet t ∧ s.RegsBut t [F.STL_FIN_STAT_LEVEL i]) ∧
    (taken → ¬stuck → wanted → s.finTooSoon i stamp = true → ∃ t, goes t ∧ s.Raised t 40 ∧ t.get (F.STL_FIN_STAT_OVR i) = 1 ∧
      counts t (s.fin i).clrAt (F.STL_FIN_STAT_OVR_CNT i) ∧
      (t.fin i).lastEvent = (s.fin i).lastEvent ∧ ∀ r, t.tq r = s.tq r) ∧
    (taken → ¬stuck → wanted → s.finTooSoon i stamp = false → ∃ t, goes t ∧ (t.fin i).lastEvent = some stamp ∧
      (s.on (F.STL_TQ_CFG_EN q) = false → t.tq q = s.tq q) ∧
      (s.on (F.STL_TQ_CFG_EN q) = true → t.get (F.STL_TQ_STAT_NEXT_SEQ q) = (s.get (F.STL_TQ_STAT_NEXT_SEQ q) + 1) % 2 ^ 16 ∧
        (flushed → t.tq q = s.tq q ∧
          t.get (F.STL_TQ_CNT_LOST_CNT q) = min (s.get (F.STL_TQ_CNT_LOST_CNT q) + 1) (2 ^ (F.STL_TQ_CNT_LOST_CNT q).w - 1)) ∧
        (¬flushed → occ < 64 → (∀ x : TqEntry, x = ⟨stamp, BitVec.ofNat 32 (s.posAt e first), i, !active, (s.stileAt first).2, e,
            s.get (F.STL_TQ_STAT_NEXT_SEQ q)⟩ → t.tq q = (s.tq q).add x s.fieldClock ∧
            ((s.tq q).burst.1 ≠ s.fieldClock → (t.tq q).entries = (s.tq q).entries ++ [x])) ∧
          t.get (F.STL_TQ_STAT_OCC q) = occ + 1) ∧
        (¬flushed → 64 ≤ occ → t.tq q = { s.tq q with ovfAt := some s.fieldClock } ∧ counts t (s.tq q).clrAt (F.STL_TQ_CNT_OVF_CNT q) ∧ t.get (F.STL_TQ_STAT_OVF q) = 1 ∧ t.event (32 + q) = true)))) ∧
  (∀ (i : FinIx) (s : State), s.powered .stile = true →
    let level := s.on (F.STL_FIN_STAT_LEVEL i)
    let now := s.on (F.STL_FIN_STAT_STUCK_NOW i)
    let ms := s.get (F.STL_FIN_LIM_STUCK i)
    let due : Prop := s.on (F.STL_FIN_CFG_EN i) = true ∧ level = true ∧ ms ≠ 0 ∧ now = false ∧
      (s.fin i).since + ms * 1000000 ≤ s.stileTime
    let ends : Prop := now = true ∧ level = false ∧ (s.fin i).since + 10000000 ≤ s.stileTime
    (due → ∃ t, exec (.finStuck i) s = .next t ∧ t.get (F.STL_FIN_STAT_STUCK_NOW i) = 1 ∧
        t.get (F.STL_FIN_STAT_STUCK_SET i) = 1 ∧ s.Raised t 40 ∧
        (∀ j, t.fin j = if j = i.val then { s.fin i with stuckAt := some s.fieldClock } else s.fin j) ∧
        t = { s with regs := t.regs, irq := t.irq, stile := { s.stile with fins := t.stile.fins } } ∧
        s.RegsBut t ([F.STL_FIN_STAT_STUCK_NOW i, F.STL_FIN_STAT_STUCK_SET i] ++ eventFlds)) ∧
    (¬due → exec (.finStuck i) s = .next s) ∧
    (ends → ∃ t, exec (.finStuckEnd i) s = .next t ∧ t.get (F.STL_FIN_STAT_STUCK_NOW i) = 0 ∧
      (∀ j, t.fin j = if j = i.val then { s.fin i with freeAt := some s.fieldClock } else s.fin j) ∧
      t = { s with regs := t.regs, stile := { s.stile with fins := t.stile.fins } } ∧
      s.RegsBut t [F.STL_FIN_STAT_STUCK_NOW i]) ∧
    (¬ends → exec (.finStuckEnd i) s = .next s)) ∧
  (∀ (e : EncIx) (a1 b1 : Bool) (samples : BitVec 8) (s : State) (mode : Nat) (a0 b0 : Bool), s.powered .stile = true →
    mode = s.get (F.STL_ENC_CFG_MODE e) → a0 = (s.enc e).a → b0 = (s.enc e).b →
    let held : Prop := s.get (F.STL_ENC_CFG_FILT_E e) ≤ samples.toNat
    let both : Prop := a0 ≠ a1 ∧ b0 ≠ b1
    let counts : Prop := ((mode = 1 ∧ a0 = false ∧ a1 = true) ∨ (mode = 2 ∧ a0 ≠ a1) ∨ (3 ≤ mode ∧ (a0 ≠ a1 ∨ b0 ≠ b1))) ∧
      (s.enc e).setAt ≠ some s.fieldClock
    let up : Prop := ((a0, b0), (a1, b1)) ∈ [((false, false), (true, false)), ((true, false), (true, true)),
      ((true, true), (false, true)), ((false, true), (false, false))]
    let dir : Prop := s.on (F.STL_ENC_CFG_DIR e) = true
    let goes (t : State) (fs : List Fld) : Prop := exec (.encTransition e a1 b1 samples) s = .next t ∧ (t.enc e).a = a1 ∧
      (t.enc e).b = b1 ∧ (t.enc e).setAt = (s.enc e).setAt ∧ (∀ d, d ≠ e.val → t.enc d = s.enc d) ∧
      t = { s with regs := t.regs, stile := { s.stile with encs := t.stile.encs } } ∧ s.RegsBut t fs
    (¬held → exec (.encTransition e a1 b1 samples) s = .next s) ∧
    (held → ¬both → ¬counts → ∃ t, goes t []) ∧
    (held → both → ∃ t, goes t [F.STL_ENC_CFG_ERR e, F.STL_ENC_CFG_ERR_CNT e] ∧ t.get (F.STL_ENC_CFG_ERR e) = 1 ∧
      t.get (F.STL_ENC_CFG_ERR_CNT e) = if (s.enc e).clrAt = some s.fieldClock then s.get (F.STL_ENC_CFG_ERR_CNT e)
        else min (s.get (F.STL_ENC_CFG_ERR_CNT e) + 1) (2 ^ (F.STL_ENC_CFG_ERR_CNT e).w - 1)) ∧
    (held → ¬both → counts → ∃ t, goes t [F.STL_ENC_POS_POS e] ∧
      ((up ↔ ¬dir) → t.get (F.STL_ENC_POS_POS e) = (s.get (F.STL_ENC_POS_POS e) + 1) % 2 ^ 32) ∧
      (¬(up ↔ ¬dir) → t.get (F.STL_ENC_POS_POS e) = (s.get (F.STL_ENC_POS_POS e) + 2 ^ 32 - 1) % 2 ^ 32)))

/-- TQ_POP (R372), TQ_FLUSH (R373) and TQ_COPY_MISMATCH (R375); one holding register per reader: log entry 5. -/
def Obligations.TriggerQueuesPopFlushAndCompare : Prop :=
  (∀ (r : Popper) (a : Agent) (q : TqIx) (s : State), (r = .host ∧ a = .host) ∨ (r ≠ .host ∧ a = .mgmt) →
    let others (t : State) : Prop := (∀ x, x ≠ r → t.popHold x = s.popHold x) ∧ (∀ p, p ≠ q.val → t.tq p = s.tq p)
    (s.reach .STL_TQ_POP q = false → ∃ t, exec (.tqPop r q) s = .next t ∧ s.Answers t a 0xFFFFFFFF []) ∧
    (s.reach .STL_TQ_POP q = true → (s.tq q).entries = [] → ∃ t, exec (.tqPop r q) s = .next t ∧ t.readData a = 0 ∧
      t.popHold r = 0 ∧ t.tq q = s.tq q ∧ others t ∧ t.regs = s.regs) ∧
    (∀ e rest, s.reach .STL_TQ_POP q = true → (s.tq q).entries = e :: rest → ∃ t, exec (.tqPop r q) s = .next t ∧
      t.readData a = e.bits % 2 ^ 32 ∧ t.popHold r = e.bits ∧ (t.tq q).entries = rest ∧
      t.get (F.STL_TQ_STAT_OCC q) = (s.get (F.STL_TQ_STAT_OCC q) - 1) % 2 ^ 7 ∧ others t ∧
      s.RegsBut t [F.STL_TQ_STAT_OCC q, F.STL_TQ_STAT_HOLD q])) ∧
  (∀ (q : TqIx) (s : State), s.reach .STL_TQ_CFG q = true → ∃ t, exec (.tqFlush q) s = .next t ∧ (t.tq q).entries = [] ∧
    t.get (F.STL_TQ_STAT_OCC q) = 0 ∧
    t.get (F.STL_TQ_CNT_LOST_CNT q) =
      min (s.get (F.STL_TQ_CNT_LOST_CNT q) + s.get (F.STL_TQ_STAT_OCC q)) (2 ^ (F.STL_TQ_CNT_LOST_CNT q).w - 1) ∧
    (∀ p, p ≠ q.val → t.tq p = s.tq p) ∧ t = { s with regs := t.regs, stile := { s.stile with tqs := t.stile.tqs } } ∧
    s.RegsBut t [F.STL_TQ_STAT_OCC q, F.STL_TQ_STAT_HOLD q, F.STL_TQ_CNT_LOST_CNT q]) ∧
  (∀ (q : TqIx) (o1 o2 : BitVec 7) (w1 w2 : BitVec 6) (s : State), s.powered .stile = true →
    (o1 = o2 → w1 = w2 → exec (.tqCopyMismatch q o1 o2 w1 w2) s = .next s) ∧
    (o1 ≠ o2 ∨ w1 ≠ w2 → ∃ t, exec (.tqCopyMismatch q o1 o2 w1 w2) s = .next t ∧
      t.tq q = { s.tq q with entries := [], occ2 := 0, wr1 := 0, wr2 := 0, dupAt := some s.fieldClock } ∧
      t.get (F.STL_TQ_STAT_OCC q) = 0 ∧ t.get (F.STL_TQ_STAT_DUP_ERR q) = 1 ∧ s.Raised t (32 + q.val) ∧
      t.get (F.STL_TQ_CNT_LOST_CNT q) =
        min (s.get (F.STL_TQ_CNT_LOST_CNT q) + if (s.tq q).flushAt = some s.fieldClock then 0 else o1.toNat)
          (2 ^ (F.STL_TQ_CNT_LOST_CNT q).w - 1) ∧
      t.get (F.STL_TQ_CNT_DUP_CNT q) = (if (s.tq q).clrAt = some s.fieldClock then s.get (F.STL_TQ_CNT_DUP_CNT q)
        else min (s.get (F.STL_TQ_CNT_DUP_CNT q) + 1) (2 ^ (F.STL_TQ_CNT_DUP_CNT q).w - 1)) ∧
      (∀ p, p ≠ q.val → t.tq p = s.tq p) ∧
      s.RegsBut t ([F.STL_TQ_STAT_OCC q, F.STL_TQ_STAT_HOLD q, F.STL_TQ_STAT_DUP_ERR q, F.STL_TQ_CNT_LOST_CNT q,
        F.STL_TQ_CNT_DUP_CNT q] ++ eventFlds)))

/-- AIN_MODE_WRITE, AIN_CONFIG_WRITE (R381, R384, R392), AIN_START, AIN_PACE_TIMER (R383), AIN_INJ_GO (R389), AIN_CAL_ZERO,
AIN_CAL_GAIN (R390, R391), ADC_STARTUP_END (R379), ADC_CONVERSION_END (R385 to R389), AIN_RES_READ and AIN_INJ_RES_READ (R386); that
START waits during a pass, and that an empty mask begins none: log entry 5. -/
def Obligations.AnalogueInputsConvertAndCalibrate : Prop :=
  let holds (t : State) (r : RegName) (i v : Nat) : Prop := (∀ d ∈ fieldsOf r, t.get ⟨r, i, 0, d.lo, d.w⟩ = bitsOf v d.lo d.w)
  let flds (r : RegName) (i : Nat) : List Fld := (fieldsOf r).map fun d => ⟨r, i, 0, d.lo, d.w⟩
  let busy (s : State) : Prop := (s.get F.STL_AIN_CFG_MODE ≠ 0 ∨ s.get F.STL_AIN_STATUS_BUSY ≠ 0)
  let rejects (s : State) (c : Instr) : Prop := (∃ t, exec c s = .next t ∧ t.get F.STL_AIN_STATUS_CFG_REJECT = 1 ∧
    s.OnlyRegs t [F.STL_AIN_STATUS_CFG_REJECT])
  let begins (s t : State) : Prop := (s.get F.STL_AIN_MASK_MASK = 0 → t.stile.ain.passes = s.stile.ain.passes) ∧
    (s.get F.STL_AIN_MASK_MASK ≠ 0 → ∃ p, t.stile.ain.passes = s.stile.ain.passes ++ [p] ∧ p.mask = s.get F.STL_AIN_MASK_MASK ∧
    p.n = (maskChannels (s.get F.STL_AIN_MASK_MASK)).length ∧ t.get F.STL_AIN_STATUS_SEQ_LEN = p.n)
  let counts (s t : State) (f bit : Fld) : Prop := (t.get f = min (s.get f + 1) (2 ^ f.w - 1) ∧ t.get bit = 1 ∧ s.Raised t 41)
  (∀ (v : Word) (s : State), s.reach .STL_AIN_CFG 0 = true →
    let off : Prop := bitsOf v.toNat 0 2 = 0
    (busy s → ¬off → rejects s (.ainModeWrite v)) ∧
    (busy s → off → ∃ t, exec (.ainModeWrite v) s = .next t ∧ t.get F.STL_AIN_CFG_MODE = 0 ∧ t.stile.ain.passes = [] ∧
      t.stile.ain.due = [] ∧ t.stile.ain.cal = none ∧ t.stile.ain.startWaits = 0 ∧
      (s.stile.ain.cal ≠ none → t.get F.STL_AIN_STATUS_CAL_ERR = 1 ∧ t.get F.STL_AIN_STATUS_CAL_BUSY = 0)) ∧
    (¬busy s → off → ∃ t, exec (.ainModeWrite v) s = .next t ∧ holds t .STL_AIN_CFG 0 v.toNat ∧
      s.OnlyRegs t (flds .STL_AIN_CFG 0)) ∧
    (¬busy s → ¬off → scanRefused v.toNat (s.get F.STL_AIN_MASK_MASK) = true → rejects s (.ainModeWrite v)) ∧
    (¬busy s → ¬off → scanRefused v.toNat (s.get F.STL_AIN_MASK_MASK) = false → ∃ t, exec (.ainModeWrite v) s = .next t ∧
      holds t .STL_AIN_CFG 0 v.toNat ∧ (bitsOf v.toNat 0 2 ≠ 2 → t.stile.ain.passes = [] ∧ t.stile.ain.due = []))) ∧
  (∀ (r : AinCfgReg) (v : Word) (s : State) (x : RegName) (i : Nat) (bad : Prop), s.reach .STL_AIN_PACE 0 = true →
    (r = .pace ∧ x = .STL_AIN_PACE ∧ i = 0 ∧ (bad ↔ (bitsOf v.toNat 24 2 = 1 ∧ 23 < bitsOf v.toNat 26 5) ∨
        (bitsOf v.toNat 24 2 = 2 ∧ 3 < bitsOf v.toNat 26 5))) ∨
      (r = .inj ∧ x = .STL_AIN_INJ ∧ i = 0 ∧ (bad ↔ 23 < bitsOf v.toNat 7 5)) ∨
      (∃ c, r = .chcfg c ∧ x = .STL_AIN_CHCFG ∧ i = c.val ∧ (bad ↔ bitsOf v.toNat 1 2 = 3 ∨ bitsOf v.toNat 3 2 = 3)) →
    (busy s ∨ bad → rejects s (.ainConfigWrite r v)) ∧
    (¬busy s → ¬bad → ∃ t, exec (.ainConfigWrite r v) s = .next t ∧ holds t x i v.toNat ∧
      s.RegsBut t (F.STL_AIN_STATUS_BUSY :: flds x i) ∧ (r ≠ .inj → s.OnlyRegs t (flds x i)))) ∧
  (∀ s : State, s.reach .STL_AIN_CTRL 0 = true → s.get F.STL_AIN_CFG_MODE = 1 →
    let starting : Prop := ∃ k, k < 2 ∧ s.convEn k = true ∧ s.stile.ain.adc k = .startup none
    (starting ∨ s.stile.ain.passes ≠ [] → ∃ t, exec .ainStart s = .next t ∧
      t = { s with stile := { s.stile with ain := { s.stile.ain with startWaits := s.stile.ain.startWaits + 1 } } }) ∧
    (¬starting → s.stile.ain.passes = [] → ∃ t, exec .ainStart s = .next t ∧ begins s t)) ∧
  (∀ s : State, s.powered .stile = true → s.get F.STL_AIN_CFG_MODE = 3 → s.get F.STL_AIN_PACE_SRC = 0 →
    s.stile.ain.paceAt ≤ s.stileTime → ∃ t, exec .ainPaceTimer s = .next t ∧
      t.stile.ain.paceAt = s.stile.ain.paceAt + 10 * s.get F.STL_AIN_PACE_PERIOD ∧ (s.stile.ain.passes = [] → begins s t) ∧
      (s.stile.ain.passes ≠ [] → counts s t F.STL_AIN_CNT_PACE_OVR_CNT F.STL_AIN_STATUS_PACE_OVR)) ∧
  (∀ (s : State) (k : Nat) (c : Conv), s.reach .STL_AIN_CTRL 0 = true → k = s.get F.STL_AIN_INJ_CONV →
    c = s.newConv { pass := 0, entry := 0, ch := s.get F.STL_AIN_INJ_CH, conv := k } true →
    ((s.stile.ain.adc k).isRunning = true → ∃ t, exec .ainInjGo s = .next t ∧
      counts s t F.STL_AIN_CNT_INJ_DROP_CNT F.STL_AIN_STATUS_INJ_DROP ∧ t = { s with regs := t.regs, irq := t.irq }) ∧
    (∀ p, (s.stile.ain.adc k = .down ∧ p = .startup (some c)) ∨ (s.stile.ain.adc k = .idle ∧ p = .running c) →
      ∃ t, exec .ainInjGo s = .next t ∧ t.stile.ain.adc k = p ∧ t.get F.STL_AIN_STATUS_BUSY = 1 ∧
        s.RegsBut t [F.STL_AIN_STATUS_BUSY])) ∧
  (∀ (c : Instr) (ch : AinCh) (gain : Bool) (s : State), s.reach .STL_AIN_CTRL 0 = true →
    (c, gain) ∈ [(.ainCalZero ch, false), (.ainCalGain ch, true)] →
    let ok : Prop := s.get F.STL_AIN_STATUS_CAL_BUSY = 0 ∧ s.get F.STL_AIN_CFG_MODE ≠ 0 ∧ bitOf (s.get F.STL_AIN_MASK_MASK) ch = true
    (¬ok → rejects s c) ∧
    (ok → ∃ t, exec c s = .next t ∧ t.get F.STL_AIN_STATUS_CAL_BUSY = 1 ∧
      t.stile.ain.cal = some { ch := ch, gain := gain, cnt0 := 0, cnt1 := 0, sum0 := 0, sum1 := 0, low := 0, high := 0 } ∧
      s.RegsBut t [F.STL_AIN_STATUS_CAL_BUSY])) ∧
  (∀ (k : Fin 2) (s : State), s.powered .stile = true →
    (s.stileTime < s.stile.ain.up k → exec (.adcStartupEnd k) s = .next s) ∧
    (∀ c, s.stile.ain.adc k = .startup (some c) → s.stile.ain.up k ≤ s.stileTime → ∃ t, exec (.adcStartupEnd k) s = .next t ∧
      t.stile.ain.adc k = .running { c with acq := s.stileTime } ∧ t = { s with stile := t.stile }) ∧
    (s.stile.ain.adc k = .startup none → s.stile.ain.up k ≤ s.stileTime → s.get F.STL_AIN_CFG_MODE ≠ 2 → s.stile.ain.startWaits = 0 →
      ∃ t, exec (.adcStartupEnd k) s = .next t ∧ t.stile.ain.adc k = .idle ∧ s.RegsBut t [F.STL_AIN_STATUS_BUSY]) ∧
    (s.stile.ain.adc k = .startup none → s.stile.ain.up k ≤ s.stileTime → s.get F.STL_AIN_CFG_MODE = 1 → s.stile.ain.startWaits ≠ 0 →
      s.stile.ain.passes = [] → s.convEn (1 - k) = false ∨ s.stile.ain.adc (1 - k) ≠ .startup none →
      ∃ t, exec (.adcStartupEnd k) s = .next t ∧ begins s t ∧ t.stile.ain.startWaits = s.stile.ain.startWaits - 1)) ∧
  (∀ (k : Fin 2) (raw : BitVec 16) (s : State) (c : Conv) (fmt : Nat) (y : Int), s.powered .stile = true →
    s.stile.ain.adc k = .running c → fmt = s.get (F.STL_AIN_CHCFG_FMT c.ch) →
    y = adcCorrect fmt c.ofs c.gain (if fmt = 0 then (raw.toNat : Int) else raw.toInt) →
    (s.stileTime < c.acq + 200 → exec (.adcConversionEnd k raw) s = .next s) ∧
    (c.injected = true → c.acq + 200 ≤ s.stileTime → ∃ t, exec (.adcConversionEnd k raw) s = .next t ∧ t.get F.STL_AIN_INJ_RES_DATA = unsgn 16 y ∧
      t.get F.STL_AIN_INJ_RES_CH = c.ch % 16 ∧ t.get F.STL_AIN_INJ_RES_CONV = k.val ∧ t.get F.STL_AIN_INJ_RES_NEW = 1 ∧
      t.get F.STL_AIN_STATUS_INJ_DONE = 1 ∧ t.event 41 = true) ∧
    (∀ p, c.injected = false → c.acq + 200 ≤ s.stileTime → s.stile.ain.passes.find? (fun p => p.id == c.pass) = some p → p.vals.length + 1 = p.n →
      (∀ x ∈ p.vals, x.1 ≠ c.entry) → c.entry < 16 → s.get F.STL_AIN_CFG_OVS = 0 → s.stile.ain.groupCnt = 0 →
      (∀ x ∈ p.vals, x.1 < 16) →
      ∃ t, exec (.adcConversionEnd k raw) s = .next t ∧
        t.get (F.STL_AIN_RES_DATA c.entry) = placeResult (s.get F.STL_AIN_CFG_ALIGN) fmt y ∧
        t.get (F.STL_AIN_ENT_NEW c.entry) = 1 ∧ t.get (F.STL_AIN_ENT_CH c.entry) = c.ch % 16 ∧
        t.get (F.STL_AIN_ENT_CONV c.entry) = k.val ∧ t.get F.STL_AIN_STATUS_PASS_DONE = 1)) ∧
  (∀ (r : Agent) (s : State) (c : Instr) (x : RegName) (i : Nat) (new : Fld),
    (∃ n, c = .ainResRead n r ∧ x = .STL_AIN_RES ∧ i = n.val ∧ new = F.STL_AIN_ENT_NEW n) ∨
      (c = .ainInjResRead r ∧ x = .STL_AIN_INJ_RES ∧ i = 0 ∧ new = F.STL_AIN_INJ_RES_NEW) →
    (s.reach x i = true → ∃ t, exec c s = .next t ∧ t.get new = 0 ∧ s.Answers t r (s.readReg x i 0) [new]) ∧
    (s.reach x i = false → ∃ t, exec c s = .next t ∧ s.Answers t r 0xFFFFFFFF []))

/-- AOUT_STAGED_WRITE, AOUT_UPDATE, AOUT_WRAP_UPDATE, AOUT_SYNC (R395, R397), AOUT_FORCE_SAFE, AOUT_RELEASE, DAC_LOCK_LOSS,
DAC_RELOCK, STILE_LINK_LOSS, STILE_LINK_RESTORE (R399), AOUT_PHASE_EVENT (R383, R398) and AOUT_COMPLIANCE (R400); phase events that no command has taken are taken together: log entry 5. -/
def Obligations.AnalogueOutputsFollowTheirRules : Prop :=
  let holds (t : State) (r : RegName) (i v : Nat) : Prop := (∀ d ∈ fieldsOf r, t.get ⟨r, i, 0, d.lo, d.w⟩ = bitsOf v d.lo d.w)
  let flds (r : RegName) (i : Nat) : List Fld := (fieldsOf r).map fun d => ⟨r, i, 0, d.lo, d.w⟩
  let only (s t : State) (k : Nat) (fs : List Fld) : Prop :=
    (t = { s with regs := t.regs, stile := { s.stile with aouts := t.stile.aouts } } ∧ s.RegsBut t fs ∧
      ∀ j, j ≠ k → t.aout j = s.aout j)
  let applied (s t : State) (k : Nat) (sync : Bool) : Prop :=
    ((t.aout k).src = s.get (F.STL_AOUT_CFG_SRC k) ∧ (t.aout k).gain = s.get (F.STL_AOUT_CFG_GAIN k) ∧
      (t.aout k).connect = s.get (F.STL_AOUT_CFG_CONNECT k) ∧ (t.aout k).code = s.get (F.STL_AOUT_VALUE_CODE k) ∧
      (t.aout k).ftw = s.get (F.STL_AOUT_FTW_FTW k) ∧ (t.aout k).amp = s.get (F.STL_AOUT_SHAPE_AMP k) ∧
      (t.aout k).offset = s.get (F.STL_AOUT_SHAPE_OFFSET k) ∧ (t.aout k).pofs = s.get (F.STL_AOUT_PHASE_POFS k) ∧
      (t.aout k).acc = (if sync then 0 else ((s.aout k).acc + (s.aout k).ftw * (s.dacClock - (s.aout k).clk)) % 2 ^ 48) ∧
      (t.aout k).clk = s.dacClock ∧ (t.aout k).mark = s.dacClock ∧
      (t.aout k).owed = (s.aoutJump k (s.aoutNow k) (t.aout k)).owed ∧ (t.aout k).causes = (s.aout k).causes ∧
      t.get (F.STL_AOUT_STATUS_UPD_PENDING k) = 0)
  let safe (s t : State) (k cause : Nat) : Prop :=
    (t.get (F.STL_AOUT_STATUS_IN_SAFE k) = (if s.get (F.STL_AOUT_STATUS_IN_SAFE k) = 0 then 1 else s.get (F.STL_AOUT_STATUS_IN_SAFE k)) ∧
      t.get (F.STL_AOUT_STATUS_CAUSE k) = (if s.get (F.STL_AOUT_STATUS_CAUSE k) = 0 then cause else s.get (F.STL_AOUT_STATUS_CAUSE k)))
  let safeFlds (k : Nat) : List Fld := [F.STL_AOUT_STATUS_IN_SAFE k, F.STL_AOUT_STATUS_CAUSE k]
  let enters (s : State) : Prop := ∃ k, k < 4 ∧ s.get (F.STL_AOUT_STATUS_IN_SAFE k) = 0
  (∀ (k : AoutIx) (r : AoutReg) (v : Word64) (x : RegName) (s : State), s.reach .STL_AOUT_CFG k = true →
    (r, x) ∈ [(.cfg, .STL_AOUT_CFG), (.value, .STL_AOUT_VALUE), (.ftw, .STL_AOUT_FTW), (.shape, .STL_AOUT_SHAPE), (.phase, .STL_AOUT_PHASE)] →
    let bad : Prop := r = .cfg ∧ 1 < bitsOf v.toNat 0 2
    (bad → ∃ t, exec (.aoutStagedWrite k r v) s = .next t ∧ t.get (F.STL_AOUT_STATUS_CFG_REJECT k) = 1 ∧
      s.OnlyRegs t [F.STL_AOUT_STATUS_CFG_REJECT k]) ∧
    (¬bad → ∃ t, exec (.aoutStagedWrite k r v) s = .next t ∧ holds t x k v.toNat ∧ only s t k (flds x k) ∧
      t.aout k = if r = .cfg ∨ r = .phase then { s.aout k with owed := s.phaseDue k s.dacClock, mark := s.dacClock } else s.aout k)) ∧
  (∀ (k : AoutIx) (s : State), s.reach .STL_AOUT_CTRL 0 = true →
    let wait : Prop := s.get (F.STL_AOUT_STATUS_IN_SAFE k) ≠ 0 ∨ (s.get (F.STL_AOUT_CFG_UPD_WRAP k) ≠ 0 ∧ (s.aout k).src = 1)
    (wait → ∃ t, exec (.aoutUpdate k) s = .next t ∧ t.get (F.STL_AOUT_STATUS_UPD_PENDING k) = 1 ∧
      t.aout k = { (s.aout k).rebase s.dacClock with owed := s.phaseDue k s.dacClock } ∧ only s t k [F.STL_AOUT_STATUS_UPD_PENDING k]) ∧
    (¬wait → ∃ t, exec (.aoutUpdate k) s = .next t ∧ applied s t k false ∧ only s t k [F.STL_AOUT_STATUS_UPD_PENDING k])) ∧
  (∀ (k : AoutIx) (s : State), s.powered .stile = true → s.get (F.STL_AOUT_STATUS_UPD_PENDING k) ≠ 0 →
    s.get (F.STL_AOUT_STATUS_IN_SAFE k) = 0 →
    (2 ^ 48 ≤ (s.aout k).acc + (s.aout k).ftw * (s.dacClock - (s.aout k).clk) → ∃ t, exec (.aoutWrapUpdate k) s = .next t ∧
      applied s t k false ∧ only s t k [F.STL_AOUT_STATUS_UPD_PENDING k]) ∧
    ((s.aout k).acc + (s.aout k).ftw * (s.dacClock - (s.aout k).clk) < 2 ^ 48 → exec (.aoutWrapUpdate k) s = .next s)) ∧
  (∀ (k : AoutIx) (s : State), s.reach .STL_AOUT_CTRL 0 = true →
    (∃ t, exec (.aoutSync k) s = .next t ∧ (t.aout k).owed = (s.aoutJump k (s.aoutNow k) (t.aout k)).owed ∧
      t.aout k = { s.aout k with acc := 0, clk := s.dacClock, mark := s.dacClock, owed := (t.aout k).owed } ∧
      only s t k []) ∧
    (∃ t, exec (.aoutForceSafe k) s = .next t ∧ safe s t k 6 ∧ s.RaisedIf t 42 (s.get (F.STL_AOUT_STATUS_IN_SAFE k) = 0) ∧
      t = { s with regs := t.regs, irq := t.irq } ∧ s.RegsBut t (safeFlds k ++ eventFlds)) ∧
    ((s.aout k).causes = 0 → ∃ t, exec (.aoutRelease k) s = .next t ∧ t.get (F.STL_AOUT_STATUS_IN_SAFE k) = 0 ∧
      t.get (F.STL_AOUT_STATUS_CAUSE k) = 0 ∧ applied s t k true ∧ only s t k (F.STL_AOUT_STATUS_UPD_PENDING k :: safeFlds k)) ∧
    ((s.aout k).causes ≠ 0 → ∃ t, exec (.aoutRelease k) s = .next t ∧ t.get (F.STL_AOUT_STATUS_RELEASE_REJECT k) = 1 ∧
      s.OnlyRegs t [F.STL_AOUT_STATUS_RELEASE_REJECT k])) ∧
  (∀ s : State, s.powered .stile = true →
    let hold (t : State) (c : Nat) : Prop := (∀ k, k < 4 → safe s t k c ∧ t.aout k = { s.aout k with causes := setMask (s.aout k).causes c })
    let ends (t : State) (c : Nat) : Prop := (∀ k, k < 4 → t.aout k = { s.aout k with causes := clrMask (s.aout k).causes c })
    let all : List Fld := [0, 1, 2, 3].flatMap safeFlds ++ eventFlds
    (∃ t, exec .dacLockLoss s = .next t ∧ hold t 4 ∧ s.RaisedIf t 42 (enters s) ∧ s.RegsBut t all ∧
      t = { s with regs := t.regs, irq := t.irq, stile := { s.stile with aouts := t.stile.aouts, dacUnlocked := true } }) ∧
    (∃ t, exec .stileLinkLoss s = .next t ∧ hold t 5 ∧ t.get (glbErrFld 1) = 1 ∧
      (∀ b, b < 47 → (t.event b = true ↔ s.event b = true ∨ (b = 42 ∧ enters s) ∨ (b = 45 ∧ bitOf (s.get F.GLB_ERR_MASK_EN) 1 = true))) ∧
      s.RegsBut t (glbErrFld 1 :: all) ∧
      t = { s with regs := t.regs, irq := t.irq, stile := { s.stile with aouts := t.stile.aouts, linkLost := true } }) ∧
    (∃ t, exec .dacRelock s = .next t ∧ ends t 4 ∧
      t = { s with stile := { s.stile with aouts := t.stile.aouts, dacUnlocked := false } }) ∧
    (∃ t, exec .stileLinkRestore s = .next t ∧ ends t 5 ∧
      t = { s with stile := { s.stile with aouts := t.stile.aouts, linkLost := false } })) ∧
  (∀ (k : AoutIx) (s : State), s.powered .stile = true →
    let arises : Prop := (s.aout k).owed = true ∨
      (s.get (F.STL_AOUT_CFG_TRIG_EN k) ≠ 0 ∧ (s.aout k).passes (s.get (F.STL_AOUT_PHASE_TRIG k)) s.dacClock = true)
    let paces : Prop := s.get F.STL_AIN_PACE_SRC = 2 ∧ s.get F.STL_AIN_PACE_SEL = k.val ∧ s.get F.STL_AIN_CFG_MODE = 3
    (¬arises → exec (.aoutPhaseEvent k) s = .next s) ∧
    (arises → ¬paces → ∃ t, exec (.aoutPhaseEvent k) s = .next t ∧
      t.aout k = { s.aout k with owed := false, mark := s.dacClock } ∧ only s t k []) ∧
    (arises → paces → s.stile.ain.passes = [] → s.get F.STL_AIN_MASK_MASK ≠ 0 → ∃ t, exec (.aoutPhaseEvent k) s = .next t ∧ ∃ p, t.stile.ain.passes = [p] ∧
      p.mask = s.get F.STL_AIN_MASK_MASK ∧ t.aout k = { s.aout k with owed := false, mark := s.dacClock }) ∧
    (arises → paces → s.stile.ain.passes ≠ [] → ∃ t, exec (.aoutPhaseEvent k) s = .next t ∧
      t.get F.STL_AIN_CNT_PACE_OVR_CNT = min (s.get F.STL_AIN_CNT_PACE_OVR_CNT + 1) (2 ^ F.STL_AIN_CNT_PACE_OVR_CNT.w - 1) ∧
      t.get F.STL_AIN_STATUS_PACE_OVR = 1 ∧ s.Raised t 41) ∧
    (∃ t, exec (.aoutCompliance k) s = .next t ∧ t.get (F.STL_AOUT_STATUS_COMPLIANCE k) = 1 ∧ s.Raised t 42 ∧
      s.RegsBut t (F.STL_AOUT_STATUS_COMPLIANCE k :: eventFlds) ∧ t = { s with regs := t.regs, irq := t.irq }))

/-- SENSOR_CONVERSION (R61, R401 to R405, R407), SENSOR_TIMEOUT (R403), POWER_MEASUREMENT (R406), THM_FORCE_TRIP (R407 to R409),
RESTART_GATE (R410) and DEEP_SLEEP_SENSOR_READ (R417), the time of its trip: log entry 16; a restore temperature below 0 °C: log entry 35, DESIGN CHOICE. -/
def Obligations.HeatThrottlesAndTrips : Prop :=
  let lim (s : State) (k : Nat) : Int := (if k < 128 then 8 * max 90 (min 115 (s.get F.THM_CFG_TRIP : Int))
    else if k < 160 then 8 * min 105 (s.get F.THM_CFG_STK_TRIP : Int) else 920)
  let serves (s : State) (k code : Nat) (r : Int) : Prop := (-320 ≤ r ∧ r ≤ 1200 ∧
    ((s.sensor k).broken = true → 2000 ≤ (s.sensor k).good + 1 ∧
      ((s.sensor k).moved = true ∨ ((s.sensor k).reported = true ∧ code ≠ (s.sensor k).code ∧ 0 < (s.sensor k).good))) ∧
    ((s.sensor k).broken = false → ¬((s.sensor k).reported = true ∧ code = (s.sensor k).code ∧ 2000 ≤ (s.sensor k).same + 1)))
  let broken (t : State) (k : Nat) : Prop := (t.temp k = 1000 ∧ t.get (F.THM_SENS_BROKEN k) = 1 ∧ (t.sensor k).broken = true)
  let tripped (s t : State) (cause k : Nat) (temp : Int) (time : Nat) : Prop :=
    (t.get F.PWR_STATUS_STATE = 4 ∧ (∀ d, t.powered d = false) ∧ t.jobs = [] ∧ t.mem = [] ∧ t.heather.phase = .railsDown ∧
      t.heather.mayRise = false ∧ t.heather.tripped = true ∧ t.heather.gate = false ∧
      t.heather.restart = min 85 (s.kept F.THM_RATE_RESTART) ∧ t.pending = s.pending ∧
      (s.powered .stile = true → t.out = s.out ++ [.safeOutputs (s.get F.STL_FOUT_SAFE_VALUE) (s.get F.STL_FOUT_SAFE_OE)]) ∧
      ∃ rec, t.heather.record = some rec ∧ rec.take 18 = leBytes 4 0x54524950 ++ leBytes 2 1 ++ leBytes 1 cause ++ leBytes 1 k ++
          leBytes 8 time ++ leBytes 2 (unsgn 16 temp) ∧
        (∀ i, s.journalNext = some i → t.flash = (s.flashPut (journalBase + 64 * i) rec).flash ∧ t.heather.journalFull = false) ∧
        (s.journalNext = none → t.flash = s.flash ∧ t.heather.journalFull = true))
  (∀ (xs : List (Sens × BitVec 16 × Int)) (s : State), s.powered .spine = true → (xs.map fun x => x.1).Nodup →
    let hot : (Sens × BitVec 16 × Int) → Prop := fun x => serves s x.1 x.2.1.toNat x.2.2 ∧ lim s x.1 ≤ x.2.2
    let coolRest : Prop := ∀ j : Sens, (∀ x ∈ xs, x.1 ≠ j) → s.get (F.THM_SENS_BROKEN j) = 0 → s.temp j < lim s j
    let near : List Nat := xs.flatMap fun x => if x.1.val < 128 then [2 * x.1.val, 2 * x.1.val + 1] else []
    (coolRest → (∀ x ∈ xs, ¬hot x) → ∃ t, exec (.sensorConversion xs) s = .next t ∧
      (∀ x ∈ xs, (serves s x.1 x.2.1.toNat x.2.2 → t.temp x.1 = x.2.2 ∧ t.get (F.THM_SENS_BROKEN x.1) = 0 ∧
          t.get (F.THM_SENS_WHY x.1) = 0 ∧ (t.sensor x.1).broken = false) ∧
        (¬serves s x.1 x.2.1.toNat x.2.2 → broken t x.1) ∧
        ((s.sensor x.1).broken = false → ¬serves s x.1 x.2.1.toNat x.2.2 → t.get F.THM_STATUS_BROKEN_SET = 1 ∧ t.event 30 = true ∧
          t.get (F.THM_SENS_WHY x.1) = (if x.2.2 < -320 ∨ 1200 < x.2.2 then 1 else 2)) ∧
        (∀ h t0 r0 l, (s.sensor x.1).hist = h ++ (t0, r0) :: l → (∀ y ∈ h, s.time < y.1 + 1000000) → t0 + 1000000 ≤ s.time →
          t.get (F.THM_SENS_RATE x.1) = unsgn 16 (x.2.2 - r0)) ∧
        (x.1.val < 128 → ∀ g, g / 2 = x.1.val → s.onT g = true →
          t.get (F.TSK_RESTORE_TEMP_TEMP g) = min 255 ((t.temp x.1 + 7) / 8).toNat ∧
          t.get (F.TSK_RESTORE_TEMP_SENSOR_BROKEN g) = t.get (F.THM_SENS_BROKEN x.1))) ∧
      (∀ n, n < 4 → s.powered (.core n) = true →
        ((∃ k ∈ dieSensors n ++ stackSensors n, (t.sensor k).reported = false) → t.get (F.CHN_ADM_BUDGET_THM n) = 0) ∧
        (∀ tc ts rr : Int, (∀ k ∈ dieSensors n ++ stackSensors n, (t.sensor k).reported = true ∧ t.get (F.THM_SENS_BROKEN k) = 0) →
          (∃ k ∈ dieSensors n, t.temp k = tc) → (∀ k ∈ dieSensors n, t.temp k ≤ tc) →
          (∃ k ∈ stackSensors n, t.temp k = ts) → (∀ k ∈ stackSensors n, t.temp k ≤ ts) →
          (∃ k ∈ dieSensors n ++ stackSensors n, t.rate k = rr) → (∀ k ∈ dieSensors n ++ stackSensors n, t.rate k ≤ rr) →
          let rl : Int := max 4 (min 64 (s.get F.THM_RATE_RATE_LIM : Int))
          let fc : Int := (1280 - 8 * (tc - 8 * min 110 (s.get F.THM_CFG_THR : Int))) / 5
          let fs : Int := (1280 - 8 * (ts - 8 * (s.get F.THM_CFG_STK_THR : Int))) / 5
          let fr : Int := if rl < rr then 256 * (2 * rl - rr) / rl else 256
          (t.get (F.CHN_ADM_BUDGET_THM n) : Int) = max 0 (min 256 (min fc (min fs fr))))) ∧
      (t.get F.THM_STATUS_THROTTLE = 1 ↔ ∃ n, n < 4 ∧ t.betaThm n < 256) ∧
      (∀ j : Nat, (∀ x ∈ xs, x.1.val ≠ j) → t.sensor j = s.sensor j) ∧ (∀ g, g ∉ near → t.tuss g = s.tuss g) ∧
      s.RegsBut t (eventFlds ++ [F.THM_STATUS_BROKEN_SET, F.THM_STATUS_BROKEN_NOW, F.THM_STATUS_THROTTLE, F.THM_STATUS_RATE_EXCESS] ++
        (List.range 4).map F.CHN_ADM_BUDGET_THM ++
        (xs.flatMap fun x => [F.THM_SENS_TEMP x.1, F.THM_SENS_BROKEN x.1, F.THM_SENS_WHY x.1, F.THM_SENS_RATE x.1]) ++
        near.flatMap fun g => [F.TSK_RESTORE_TEMP_TEMP g, F.TSK_RESTORE_TEMP_SENSOR_BROKEN g, F.BRK_STATUS_CURRENT g] ++
          (List.range 17).map (F.BRK_ARR_CAL_STALE g)) ∧
      t = { s with regs := t.regs, irq := t.irq, sensors := t.sensors, tusss := t.tusss, heather := { s.heather with mirror := t.heather.mirror } }) ∧
    (coolRest → ∀ x ∈ xs, hot x → (∀ y ∈ xs, hot y → y = x) → ∃ t, exec (.sensorConversion xs) s = .next t ∧
      tripped s t (if x.1.val < 128 then 1 else if x.1.val < 160 then 2 else 3) x.1 x.2.2 s.tripTime)) ∧
  (∀ (k : Sens) (s : State), s.powered .spine = true → ∃ t, exec (.sensorTimeout k) s = .next t ∧ broken t k ∧
    t.get (F.THM_SENS_WHY k) = 3 ∧ (t.sensor k).good = 0 ∧ (t.sensor k).moved = false ∧ ((s.sensor k).broken = false → t.get F.THM_STATUS_BROKEN_SET = 1 ∧ s.Raised t 30) ∧
    ∀ j, j ≠ k.val → t.sensor j = s.sensor j) ∧
  (∀ (p : BitVec 10) (s : State), s.powered .spine = true →
    let lo : Int := min 300 (s.get F.THM_PWR_PWR_LIM : Int)
    let hi : Int := min 360 (s.get F.THM_PWR_PEAK_LIM : Int)
    ∃ t, exec (.powerMeasurement p) s = .next t ∧ t.get F.THM_POWER_P = p.toNat ∧
      (lo < hi → (t.get F.THM_POWER_BETA_PWR : Int) = max 0 (min 256 (256 * (hi - p.toNat) / (hi - lo))) ∧ t.free = s.free) ∧
      (∀ n, n < 4 → s.powered (.core n) = true → t.get (F.CHN_ADM_BUDGET_PWR n) = t.get F.THM_POWER_BETA_PWR) ∧
      s.RegsBut t ([F.THM_POWER_P, F.THM_POWER_BETA_PWR] ++ (List.range 4).map F.CHN_ADM_BUDGET_PWR) ∧
      t = { s with regs := t.regs, free := t.free }) ∧
  (∀ s : State, s.reach .THM_CTRL 0 = true → ∃ t, exec .thmForceTrip s = .next t ∧ tripped s t 4 0xFF 0 s.tripTime) ∧
  (∀ (xs : List (Fin 4 × Int)) (s : State),
    let valid (x : Fin 4 × Int) : Prop := -320 ≤ x.2 ∧ x.2 ≤ 1200
    (s.heather.tripped = true → (∀ x ∈ xs, valid x → x.2 < 8 * (s.heather.restart : Int)) →
      exec (.restartGate xs) s = .next { s with heather := { s.heather with gate := true } }) ∧
    (s.heather.tripped = true → (∃ x ∈ xs, valid x ∧ 8 * (s.heather.restart : Int) ≤ x.2) →
      exec (.restartGate xs) s = .next { s with heather := { s.heather with gate := false } }) ∧
    (s.heather.tripped = false → exec (.restartGate xs) s = .next s) ∧
    (s.get F.PWR_STATUS_STATE ≠ 3 → exec (.deepSleepSensorRead xs) s = .next s) ∧
    (s.get F.PWR_STATUS_STATE = 3 → (∀ x ∈ xs, valid x → x.2 < 920) → ∃ t, exec (.deepSleepSensorRead xs) s = .next t ∧
      t = { s with heather := { s.heather with mirror := t.heather.mirror, reads := s.heather.reads + 1 } } ∧
      t.heather.mirror = ((xs.map fun x => (x.1.val, x.2)).filter fun x => inRange x.2).foldl mirrorRead s.heather.mirror) ∧
    (∀ x ∈ xs, s.get F.PWR_STATUS_STATE = 3 → valid x → 920 ≤ x.2 → (∀ y ∈ xs, valid y → 920 ≤ y.2 → y = x) →
      ∃ t, exec (.deepSleepSensorRead xs) s = .next t ∧
        tripped s t 3 (160 + x.1.val) x.2 (s.slept + 10000000 * (s.heather.reads + 1))))

/-- POWER_REQUEST (R418, R423), BLOCK_AGREE (R419, R421), BLOCK_REFUSE (R422), DELAY_EXPIRED (R420), WAKE_N_LOW, HOST_WAKE,
WAKE_TIMER (R424, R426), STATE_RUN_AFTER_WAKE (R416, R427, R428), QUARTER_BRINGUP (R429), QUARTER_OFF, QUARTER_ON and
QUARTER_SWITCH_DONE (R430). -/
def Obligations.PowerStatesAreEnteredAndLeft : Prop :=
  let real (d : Domain) : Prop := ((∀ q, d = .quarter q → q < 16) ∧ (∀ n, d = .core n ∨ d = .stack n → n < 4))
  let handshake (s t : State) : Prop := (t = { s with regs := t.regs, irq := t.irq, entry := t.entry, chans := t.chans })
  let rolled (s t : State) (block stage target expired : Nat) : Prop :=
    (t.entry = none ∧ t.get F.PWR_STATUS_ENTERING = 0 ∧ t.get F.PWR_STATUS_STAGE = 0 ∧ t.get F.PWR_LAST_REFUSE_BLOCK = block ∧
      t.get F.PWR_LAST_REFUSE_STAGE = stage % 16 ∧ t.get F.PWR_LAST_REFUSE_TARGET = target % 8 ∧ t.get F.PWR_LAST_REFUSE_VALID = 1 ∧
      t.get F.PWR_LAST_REFUSE_DELAY_EXPIRED = expired ∧ (∀ n, n < 4 → (t.chan n).closing = false) ∧
      s.RaisedIf t 31 (s.get F.PWR_CFG_IRQ_REFUSE ≠ 0) ∧ handshake s t ∧
      s.RegsBut t ([F.PWR_STATUS_ENTERING, F.PWR_STATUS_STAGE, F.PWR_LAST_REFUSE_BLOCK, F.PWR_LAST_REFUSE_STAGE, F.PWR_LAST_REFUSE_TARGET,
        F.PWR_LAST_REFUSE_VALID, F.PWR_LAST_REFUSE_DELAY_EXPIRED, F.PWR_REFUSE_REFUSED_CNT, F.PWR_REFUSE_ABORTED_CNT,
        F.PWR_STATUS_WAKE_DURING_ENTRY] ++ eventFlds))
  let counted (s t : State) (f : Fld) : Prop := (t.get f = min (s.get f + 1) (2 ^ f.w - 1))
  let aborted (s t : State) (stage target : Nat) : Prop := (rolled s t 1 stage target 0 ∧ counted s t F.PWR_REFUSE_ABORTED_CNT ∧
    t.get F.PWR_STATUS_WAKE_DURING_ENTRY = 1)
  let allowed (s : State) (x b : Nat) : Prop := (b < 4 ∧ bitOf (s.kept F.PWR_WAKE_EN_EN) b = true ∧
    (b = 2 → s.kept F.PWR_WAKE_TIMER_US ≠ 0) ∧ (x = 3 → b = 0 ∨ b = 2))
  (∀ (x : BitVec 3) (w : Option (Fin 4)) (s : State), s.reach .PWR_CTRL 0 = true →
    let ok : Prop := 1 ≤ x.toNat ∧ x.toNat ≤ 4 ∧ s.get F.PWR_STATUS_STATE = 0 ∧ s.entry = none ∧
      (x.toNat = 4 ∨ ∃ b, allowed s x.toNat b)
    let fires : Prop := ∃ b, w = some b ∧ bitOf (s.get F.PWR_WAKE_EN_EN) b = true
    (¬ok → ∃ t, exec (.powerRequest x w) s = .next t ∧ t.get F.PWR_STATUS_REQ_REJECT = 1 ∧ s.OnlyRegs t [F.PWR_STATUS_REQ_REJECT]) ∧
    (ok → fires → ∃ t, exec (.powerRequest x w) s = .next t ∧ aborted s t 0 x.toNat) ∧
    (ok → ¬fires → ∃ t, exec (.powerRequest x w) s = .next t ∧ t.get F.PWR_STATUS_ENTERING = 1 ∧ t.get F.PWR_STATUS_STAGE = 1 ∧
      t.entry = some { target := x.toNat, since := s.time } ∧ (∀ n, n < 4 → (t.chan n).closing = true) ∧
      s.RegsBut t [F.PWR_STATUS_ENTERING, F.PWR_STATUS_STAGE] ∧ handshake s t ∧ t.irq = s.irq)) ∧
  (∀ (code : BitVec 8) (s : State), s.entry = none → ∀ c ∈ [Instr.blockAgree code, .blockRefuse code, .delayExpired code],
    exec c s = .next s) ∧
  (∀ (code : BitVec 8) (s : State) (e e' : PwrEntry), s.entry = some e →
    let asked : Prop := ∃ b ∈ e.asking, b.2 = code.toNat
    let agrees : Prop := asked ∧ s.blockIdle code.toNat = true ∧ s.blockRefuses code.toNat = false
    let refuses : Prop := asked ∧ (s.blockRefuses code.toNat = true ∨ mayRefuse e.target code.toNat = true)
    let late : Prop := asked ∧ (s.blockIdle code.toNat = false ∨ code.toNat = 0x50) ∧ e.since + max 1 (s.get F.PWR_CFG_DELAY_LIMIT) * 1000000 < s.time
    (¬agrees → exec (.blockAgree code) s = .next s) ∧ (¬refuses → exec (.blockRefuse code) s = .next s) ∧
    (¬late → exec (.delayExpired code) s = .next s) ∧
    (refuses → ∃ t, exec (.blockRefuse code) s = .next t ∧ rolled s t code.toNat e.stage e.target 0 ∧ counted s t F.PWR_REFUSE_REFUSED_CNT) ∧
    (late → ∃ t, exec (.delayExpired code) s = .next t ∧ rolled s t code.toNat e.stage e.target 1 ∧ counted s t F.PWR_REFUSE_REFUSED_CNT) ∧
    (agrees → e' = { e with agreed := e.agreed ++ [code.toNat] } →
      let sameAsk : Prop := e'.asking = e.asking.filter (fun b => b.2 != code.toNat) ∧ e'.asking ≠ []
      (sameAsk → exec (.blockAgree code) s = .next { s with entry := some e' }) ∧
      (¬sameAsk → e.wake ≠ none → ∃ t, exec (.blockAgree code) s = .next t ∧ aborted s t (s.get F.PWR_STATUS_STAGE) e.target) ∧
      (¬sameAsk → e.wake = none → e'.asking ≠ [] → ∃ t, exec (.blockAgree code) s = .next t ∧
        t.entry = some { e' with since := s.time } ∧ t.get F.PWR_STATUS_STAGE = e'.stage % 16 ∧ s.RegsBut t [F.PWR_STATUS_STAGE] ∧
        handshake s t ∧ t.irq = s.irq ∧ t.chans = s.chans) ∧
      (¬sameAsk → e.wake = none → e'.asking = [] → 1 ≤ e.target → e.target ≤ 4 → ∃ t, exec (.blockAgree code) s = .next t ∧
        t.get F.PWR_STATUS_STATE = e.target ∧ t.entry = none ∧
        (e.target < 4 → t.slept = s.time ∧ t.waking = none) ∧
        (e.target = 1 → counted s t F.PWR_ENTRY_CNT_ENTERED_CNT ∧ t = { s with regs := t.regs, entry := none, waking := none, slept := s.time } ∧
          s.RegsBut t [F.PWR_ENTRY_CNT_ENTERED_CNT, F.PWR_STATUS_ENTERING, F.PWR_STATUS_STAGE, F.PWR_STATUS_STATE]) ∧
        (e.target = 2 → t.powered .lea = false ∧
          (∀ g, g < 256 → s.onT g = true → t.get (F.TSK_CLK_STATUS_LOCKED g) = 0) ∧ t.jobs = s.jobs ∧ t.tusss = s.tusss ∧ t.mem = s.mem) ∧
        (e.target = 3 → (∀ d, real d → t.powered d = false) ∧ t.heather.reads = 0 ∧ ∃ saved, t.heather.save = some saved ∧ ∀ f : Fld, f.r ∈ savedRegs → Tab.find saved f.key = Tab.find s.regs f.key) ∧
        (e.target = 4 → (∀ d, t.powered d = false) ∧ t.heather.phase = .railsDown ∧ t.heather.mayRise = false)))) ∧
  (∀ (c : Instr) (b : Nat) (s : State), (c = .wakeNLow ∧ b = 0) ∨ (c = .hostWake ∧ b = 1 ∧ s.reach .PWR_CTRL 0 = true) ∨
      (c = .wakeTimer ∧ b = 2 ∧ (s.get F.PWR_STATUS_STATE = 3 ∨ ((s.get F.PWR_STATUS_STATE = 1 ∨ s.get F.PWR_STATUS_STATE = 2) ∧
        s.get F.PWR_WAKE_TIMER_US ≠ 0 ∧ s.slept + s.get F.PWR_WAKE_TIMER_US * 1000 ≤ s.time))) →
    (∀ e, s.entry = some e →
      (bitOf (s.get F.PWR_WAKE_EN_EN) b = true → e.wake = none → exec c s = .next { s with entry := some { e with wake := some b } }) ∧
      (bitOf (s.get F.PWR_WAKE_EN_EN) b = false ∨ e.wake ≠ none → exec c s = .next s)) ∧
    (s.entry = none →
      let x : Nat := s.get F.PWR_STATUS_STATE
      (x = 0 → exec c s = .next s) ∧
      (x = 4 → b ≠ 0 → exec c s = .next s) ∧
      (x = 4 → b = 0 → exec c s = .next { s with heather := { s.heather with mayRise := true, cause := 6 } }) ∧
      (1 ≤ x → x ≤ 3 → s.waking ≠ none ∨ ¬allowed s x b → exec c s = .next s) ∧
      (x = 3 → s.waking = none → allowed s x b → exec c s = .next { s with waking := some (b, s.time) }) ∧
      (x = 1 ∨ x = 2 → s.waking = none → allowed s x b → ∃ t, exec c s = .next t ∧ t.waking = some (b, s.time) ∧
        t.get F.PWR_STATUS_LAST_WAKE_SRC = b + 1 ∧ s.Raised t 31 ∧ s.RegsBut t (F.PWR_STATUS_LAST_WAKE_SRC :: eventFlds) ∧
        t = { s with regs := t.regs, irq := t.irq, waking := some (b, s.time) }))) ∧
  (∀ (ticks : Word64) (s : State),
    (s.waking = none → exec (.stateRunAfterWake ticks) s = .next s) ∧
    (∀ b since, s.waking = some (b, since) → s.get F.PWR_STATUS_STATE ≠ 3 →
      s.time < since + (if s.get F.PWR_STATUS_STATE = 1 then 2000 else 200000) → exec (.stateRunAfterWake ticks) s = .next s) ∧
    (∀ b since, s.waking = some (b, since) → s.get F.PWR_STATUS_STATE = 1 ∨ s.get F.PWR_STATUS_STATE = 2 →
      since + (if s.get F.PWR_STATUS_STATE = 1 then 2000 else 200000) ≤ s.time → ∃ t, exec (.stateRunAfterWake ticks) s = .next t ∧
      t.get F.PWR_STATUS_STATE = 0 ∧ t.waking = none ∧ (∀ n, n < 4 → (t.chan n).closing = false) ∧
      t = { s with regs := t.regs, waking := none, chans := t.chans, leas := t.leas } ∧
      (s.get F.PWR_STATUS_STATE = 1 → t.leas = s.leas ∧ s.RegsBut t [F.PWR_STATUS_STATE]) ∧
      (s.get F.PWR_STATUS_STATE = 2 → t.powered .lea = true ∧
        (∀ p, p < 4 → s.get (F.LEA_PORT_CFG_EN p) ≠ 0 → t.get (F.LEA_PORT_STATUS_STATE p) = 1 ∧ (t.lea p).since = s.time) ∧
        (∀ g, g < 256 → s.onT g = true → t.get (F.TSK_CLK_STATUS_LOCKED g) = 1) ∧
        s.RegsBut t (F.PWR_STATUS_STATE :: F.PWR_DOMAIN_LEA :: (List.range 4).map F.LEA_PORT_STATUS_STATE ++
          (List.range 256).map F.TSK_CLK_STATUS_LOCKED))) ∧
    (∀ b since saved, s.waking = some (b, since) → s.get F.PWR_STATUS_STATE = 3 → s.heather.save = some saved → ∃ t, exec (.stateRunAfterWake ticks) s = .next t ∧
      t.get F.PWR_STATUS_LAST_WAKE_SRC = (b + 1) % 16 ∧ t.event 31 = true ∧ (∀ n, n < 4 → (t.chan n).closing = false) ∧
      (s.heather.phase = .on → (∀ regs, ∀ ty ∈ [1, 5, 6], State.recordsOf { s with regs := regs } ty = []) → t.get F.PWR_STATUS_STATE = 0 ∧ t.waking = none ∧ t.heather.save = none ∧
        t.time = (s.slept + ticks.toNat * 100 + 8191) / 8192 * 8192 ∧
        ((∀ e ∈ saved, e.1 / 2 ^ 24 ≠ RegName.PWR_DOMAIN.ctorIdx) → ∀ d ∈ [.spine, .stile, .pcie, .lea, .core 0, .core 1, .core 2, .core 3, .stack 0, .stack 1, .stack 2, .stack 3],
          t.powered d = true) ∧
        (∀ (f : Fld) (v : Nat), f.r ∈ savedRegs → (f.key, v) ∈ saved → (∀ v', (f.key, v') ∈ saved → v' = v) → t.get f = v) ∧
        (∀ p, p < 4 → t.get (F.LEA_PORT_CFG_EN p) ≠ 0 → t.get (F.LEA_PORT_STATUS_STATE p) = 1 ∧ (t.lea p).since = t.time) ∧ t.jobs = s.jobs ∧ t.mem = s.mem))) ∧
  (∀ (q : BitVec 4) (off : Bool) (c : Instr) (s : State), s.reach .PWR_QUARTER_OFF 0 = true →
    (c, off) ∈ [(.quarterOff q, true), (.quarterOn q, false)] →
    let same : Prop := bitOf (s.get F.PWR_QUARTER_OFF_OFF) q.toNat = off
    let ok : Prop := s.entry = none ∧ (off = true → ∀ g, g / 16 = q.toNat → s.get (F.TSK_STATE_STATE g) = 2)
    (same → s.entry = none → exec c s = .next s) ∧
    (s.entry ≠ none ∨ (¬same ∧ ¬ok) → ∃ t, exec c s = .next t ∧ t.get F.PWR_STATUS_REQ_REJECT = 1 ∧ s.OnlyRegs t [F.PWR_STATUS_REQ_REJECT]) ∧
    (¬same → ok → ∃ t, exec c s = .next t ∧
      (∀ p, p < 16 → bitOf (t.get F.PWR_QUARTER_OFF_OFF) p = (if p = q.toNat then off else bitOf (s.get F.PWR_QUARTER_OFF_OFF) p)) ∧
      t.quarters = (s.quarters.filter fun p => p.1 != q.toNat) ++ [(q.toNat, !off)] ∧ s.RegsBut t [F.PWR_QUARTER_OFF_OFF] ∧
      t = { s with regs := t.regs, quarters := t.quarters })) ∧
  (∀ (q : BitVec 4) (s : State),
    (s.quarters.find? (fun p => p.1 == q.toNat) = none → exec (.quarterSwitchDone q) s = .next s) ∧
    (∀ p on, s.quarters.find? (fun p => p.1 == q.toNat) = some (p, on) → ∃ t, exec (.quarterSwitchDone q) s = .next t ∧
      t.quarters = (s.quarters.filter fun p => p.1 != q.toNat) ∧
      t.powered (.quarter q.toNat) = (if on then s.powered (.quarter q.toNat) || s.powered (.core (q.toNat / 4)) else false) ∧
      (∀ d, real d → d ≠ .quarter q.toNat → t.powered d = s.powered d) ∧
      (on = false → s.powered (.quarter q.toNat) = true → ∀ g, g / 16 = q.toNat → t.tuss g = {}) ∧
      t.jobs = s.jobs ∧ t.time = s.time ∧ t.irq = s.irq ∧
      ∀ a, ¬(tskBase (16 * q.toNat) ≤ a ∧ a < tskBase (16 * q.toNat + 16)) → Memory.readN t.mem a 1 = Memory.readN s.mem a 1)) ∧
  (∀ (q : BitVec 4) (s : State),
    let waits (p : Nat) : Prop := (s.powered (.core (p / 4)) = true ∧ s.powered (.quarter p) = false ∧
      bitOf (s.get F.PWR_QUARTER_OFF_OFF) p = false ∧ (∀ x ∈ s.quarters, x.1 ≠ p) ∧ p ∉ s.heather.dark ∧
      bitOf (s.get F.GLB_CHN_STATUS_REINIT_BUSY) (p / 4) = false)
    let ok : Prop := s.get F.BOOT_STATUS_READY ≠ 0 ∧ s.get F.PWR_STATUS_STATE = 0 ∧ waits q.toNat ∧ ∀ p, p < q.toNat → ¬waits p
    (¬ok → exec (.quarterBringup q) s = .next s) ∧
    (ok → ∃ t, exec (.quarterBringup q) s = .next t ∧ t.powered (.quarter q.toNat) = true ∧
      (∀ g, g / 16 = q.toNat → (s.tuss g).quarDue = false →
        t.get (F.TSK_STATE_STATE g) = 3 ∧ t.get (F.TSK_QUAR_CAUSE_CAUSE g) = 0 ∧ t.get (F.TSK_CLK_STATUS_LOCKED g) = 1 ∧
        (t.tuss g).tableInit = true ∧ (t.tuss g).fwWrite = true) ∧
      t = { s with regs := t.regs, tusss := t.tusss } ∧ ∀ g, g / 16 ≠ q.toNat → t.tuss g = s.tuss g))

/-- STANDBY_RAIL_UP, STANDBY_RAIL_LOSS, MAIN_ENABLE, MAIN_GOOD_TIMEOUT, MAIN_GOOD_FALL (R494, R495), RST_N_LOW, PERST (R431), START
(R410, R426, R433, R447, R449, R450, R451), START_WATCHDOG (R448), RESTART_RECHECK (R410, R411), DRAIN, REOPEN, DRAINED (R455), REINIT,
REINIT_DONE (R456) and STACK_FAIL (R457). -/
def Obligations.RailsStartsAndChannelService : Prop :=
  let reset (s : State) (h : Heather) : State := { State.reset with
    pending := s.pending, free := s.free, out := s.out, nextJob := s.nextJob, flash := s.flash, genSets := s.genSets, heather := h }
  let bits (s t : State) (f : Fld) (n : Nat) (v : Bool) : Prop :=
    (∀ p, p < 4 → bitOf (t.get f) p = (if p = n then v else bitOf (s.get f) p))
  let levels : List Fld := [F.GLB_LEVEL_LEVEL, F.GLB_LEVEL_TSK, F.GLB_LEVEL_IN_PLACE, F.GLB_LEVEL_CHANNEL, F.GLB_LEVEL_QUARTER,
    F.GLB_LEVEL_LEA, F.GLB_LEVEL_PKG] ++ eventFlds
  let off (t : State) (n : Nat) : Prop := (t.powered (.core n) = false ∧ t.powered (.stack n) = false ∧
    ∀ q, q / 4 = n → t.powered (.quarter q) = false)
  let gone (s t : State) (n : Nat) : Prop := (t.event 45 = true ∧ off t n ∧ t.get (glbErrFld 4) = 1 ∧
    ((∀ j ∈ s.jobs, j.holdsIn n = true → j.stage = .running ∧ j.chan ≠ n ∧ j.err = none) → (s.jobs.map Job.id).Nodup →
      bits s t F.GLB_CHN_STATUS_OFFLINE n true ∧ bits s t F.GLB_CHN_STATUS_STACK_FAIL n true ∧
      (s.powered .lea = true → t.get (F.LEA_PORT_STATUS_STATE n) = lpDISABLED) ∧
      (s.powered (.core n) = true → ∀ j ∈ t.jobs, j.chan ≠ n) ∧
      ∀ j ∈ s.jobs, j.holdsIn n = true → ∃ j' ∈ t.jobs, j'.id = j.id ∧ j'.err = some ⟨0x15, j.errCmd, n, s.time⟩))
  (∀ s : State,
    exec .standbyRailUp s = .next { State.reset with pending := s.pending, free := s.free, out := s.out, nextJob := s.nextJob, flash := s.flash, heather := { mayRise := true, tripped := s.heather.tripped } } ∧
    exec .standbyRailLoss s = .next { State.reset with pending := s.pending, free := s.free, out := s.out, nextJob := s.nextJob, flash := s.flash, heather := { mayRise := false, tripped := s.heather.tripped } } ∧
    (s.heather.phase = .railsDown ∧ s.heather.mayRise = true → exec .mainEnable s =
      .next { s with heather := { s.heather with phase := .rising, mayRise := false, mainEn := true, mainGood := false } }) ∧
    (¬(s.heather.phase = .railsDown ∧ s.heather.mayRise = true) → exec .mainEnable s = .next s) ∧
    (s.heather.phase = .rising ∧ s.heather.mainGood = false → exec .mainGoodTimeout s =
      .next { s with heather := { s.heather with phase := .railsDown, mayRise := true, mainEn := false } }) ∧
    (¬(s.heather.phase = .rising ∧ s.heather.mainGood = false) → exec .mainGoodTimeout s = .next s) ∧
    (s.heather.mainEn = false → exec .mainGoodFall s = .next s) ∧
    (s.heather.mainEn = true → ∃ t, exec .mainGoodFall s = .next t ∧ (∀ d, t.powered d = false) ∧ t.jobs = [] ∧ t.mem = [] ∧
      t.flash = s.flash ∧ t.heather.cause = 1 ∧ t.heather.phase = .railsDown ∧ t.heather.mayRise = true ∧ t.heather.mainEn = false ∧
      t.heather.count = s.heather.count ∧
      (s.powered .stile = true → t.out = s.out ++ [.safeOutputs (s.get F.STL_FOUT_SAFE_VALUE) (s.get F.STL_FOUT_SAFE_OE)])) ∧
    (let restarts : Prop := s.heather.phase = .railsDown ∧ s.heather.tripped = true ∧ s.get F.PWR_STATUS_STATE = 4
     (restarts → exec .rstNLow s = .next { s with heather := { s.heather with mayRise := true, cause := 1, rstLow := true } }) ∧
     (¬restarts → s.heather.phase = .railsDown ∨ s.heather.phase = .rising →
      exec .rstNLow s = .next { s with heather := { s.heather with rstLow := true } })) ∧
    (¬(s.heather.phase = .railsDown ∨ s.heather.phase = .rising) → exec .rstNLow s =
      .next (reset s { s.heather with cause := 1, phase := .held, save := none, rstLow := true })) ∧
    (s.heather.phase ≠ .starting ∨ s.time + 1000000 < s.heather.wdog * 1000000000 → exec .startWatchdog s = .next s) ∧
    (s.heather.phase = .starting → s.heather.wdog * 1000000000 ≤ s.time + 1000000 → exec .startWatchdog s =
      .next (reset s { s.heather with cause := 2, phase := .release, save := none, lastStage := s.get F.BOOT_STATUS_STAGE }))) ∧
  (∀ (link : Option (BitVec 3 × BitVec 5 × Bool)) (s : State), (s.powered .pcie = false → exec (.perst link) s = .next s) ∧
    (s.powered .pcie = true → ∃ t, exec (.perst link) s = .next t ∧
      (t.get F.PCI_LINK_SPEED, t.get F.PCI_LINK_WIDTH, t.get F.PCI_LINK_FLIT) =
        (match link with | some (a, b, c) => (a.toNat, b.toNat, natOf c) | none => (0, 0, 0)) ∧
      (∀ f : Fld, regDomain f.r f.i = .pcie → f.r ≠ .PCI_LINK → t.get f = f.rst) ∧
      (∀ f : Fld, regDomain f.r f.i ≠ .pcie → t.get f = s.get f) ∧ t.irq.table = [] ∧
      t = { s with regs := t.regs, host := {}, irq := { s.irq with table := [], pba := 0, due := 0, now := 0 } })) ∧
  (∀ (flashOk : Bool) (ident : Option (List Byte)) (link : Option (BitVec 3 × BitVec 5 × Bool)) (hang : Option (BitVec 4)) (time : Word64)
      (s : State),
    let free : Prop := (s.heather.phase = .rising ∨ s.heather.phase = .held ∨ s.heather.phase = .release) ∧
      (s.heather.tripped = true → s.heather.gate = true)
    let begun (t : State) : Prop := (t.heather.total = s.heather.total + 1 ∧ t.heather.count = s.heather.count + 1 ∧ t.time = time.toNat ∧
      t.get F.BOOT_STATUS_RESET_CAUSE = s.heather.cause % 16 ∧ t.get F.GLB_FALLOW_REASON_ATTEMPTS = min 15 (s.heather.count + 1) ∧
      t.powered .spine = true ∧ t.powered .pcie = true ∧ t.mem = [] ∧ t.jobs = [] ∧ t.flash = s.flash ∧
      (s.heather.cause = 6 → t.get F.PWR_STATUS_LAST_WAKE_SRC = 1 ∧ t.event 31 = true))
    (¬free → exec (.start flashOk ident link hang time) s = .next s) ∧
    (free → hang = some 3 → ∃ t, exec (.start flashOk ident link hang time) s = .next t ∧ begun t ∧ t.heather.phase = .starting ∧
      t.get F.BOOT_STATUS_STAGE = 3) ∧
    (free → hang = none → flashOk = false → ∃ t, exec (.start flashOk ident link hang time) s = .next t ∧ begun t ∧
      t.heather.phase = .on ∧ t.heather.fallow = 1 ∧ t.get F.GLB_FALLOW_REASON_REASON = 1 ∧ t.get F.GLB_FALLOW_REASON_FALLOW = 1 ∧
      t.get F.GLB_LEVEL_LEVEL = 2 ∧ t.powered .stile = true ∧ t.powered .lea = false ∧ (∀ n, off t n) ∧
      (∀ k, k < 4 → t.get (F.STL_AOUT_STATUS_IN_SAFE k) = 1 ∧ t.get (F.STL_AOUT_STATUS_CAUSE k) = 3) ∧
      (t.get F.PCI_LINK_SPEED ≠ 0 → t.event 44 = true)) ∧
    (∀ u v : State, free → hang = none → flashOk = true →
      u = (s.startBegin link).runStages true ident none [3, 4, 5, 6, 7, 8, 9] → u.heather.phase = .starting → u.heather.tripped = false →
      v = u.set F.BOOT_STATUS_STAGE 10 → (v.applyAll State.applyStanding (v.recordsOf 10)).heather.phase = .starting →
      ∃ t, exec (.start flashOk ident link hang time) s = .next t ∧ t.heather.phase = .on ∧ t.heather.count = 0 ∧
        t.get F.BOOT_STATUS_READY = 1 ∧ t.get F.BOOT_STATUS_STAGE = 10 ∧ t.event 44 = true) ∧
    (∀ (i k : Nat) (b : BankInfo) (x : SlotInfo) (key : List Byte), free → s.heather.tripped = false → hang = none → flashOk = true →
      s.bestBank = some (i, b) → s.identOk ident = some key → s.pickSlot (s.heather.count + 1) = some (k, x) →
      s.heather.count + 1 < 4 → s.heather.fallow = 0 → (∀ r ∈ parseRecords b.body.length (b.body.drop 64), r.ty = 1 ∨ r.ty = 2) →
      ∃ t, exec (.start flashOk ident link hang time) s = .next t ∧ t.heather.phase = .on ∧ t.heather.count = 0 ∧
        t.heather.total = s.heather.total + 1 ∧ t.heather.wdog = b.wdog ∧ t.time = time.toNat ∧ t.get F.BOOT_STATUS_READY = 1 ∧
        t.get F.BOOT_STATUS_STAGE = 10 ∧ t.get F.BOOT_STATUS_BANK = i ∧ t.get F.BOOT_STATUS_SLOT = k ∧
        t.get F.BOOT_STATUS_RESET_CAUSE = s.heather.cause % 16 ∧ t.get F.SEC_STATUS_ID_READY = 1 ∧ t.get F.SEC_STATUS_TP_KEY = 1 ∧
        t.get F.GLB_FALLOW_REASON_FALLOW = 0 ∧ t.event 44 = true ∧
        (∀ n, n < 4 → t.powered (.core n) = true ∧ t.powered (.stack n) = true) ∧ t.powered .spine = true ∧ t.powered .pcie = true ∧
        t.powered .stile = true ∧ t.powered .lea = true ∧ ∀ q, q < 16 → t.powered (.quarter q) = true)) ∧
  (∀ (xs : List (Fin 160 × Int)) (time : Word64) (s : State),
    let ok : Prop := s.heather.phase = .starting ∧ s.get F.BOOT_STATUS_STAGE = 5 ∧ s.heather.tripped = true ∧
      ∀ x ∈ xs, -320 ≤ x.2 → x.2 ≤ 1200 → x.2 < 8 * (min 85 (s.get F.THM_RATE_RESTART) : Nat)
    (∀ hang, ¬ok → exec (.restartRecheck xs hang time) s = .next s) ∧
    (ok → (∀ regs ty, 3 ≤ ty → ty ≤ 11 → State.recordsOf { s with regs := regs } ty = []) → ∃ t, exec (.restartRecheck xs none time) s = .next t ∧
      t.heather.phase = .on ∧ t.get F.BOOT_STATUS_READY = 1 ∧ t.get F.BOOT_STATUS_STAGE = 10 ∧ t.heather.count = 0 ∧
      t.heather.tripped = false ∧ t.time = max s.time time.toNat ∧ t.event 44 = true ∧
      (∀ n, n < 4 → t.powered (.core n) = true ∧ t.powered (.stack n) = true) ∧ t.powered .lea = true ∧
      (∀ q, q < 16 → (∃ x ∈ xs, x.1.val / 8 = q ∧ -320 ≤ x.2 ∧ x.2 ≤ 1200) → t.powered (.quarter q) = true) ∧
      (s.heather.record ≠ none → t.get F.THM_STATUS_TRIP_SEEN = 1 ∧ t.event 30 = true ∧ t.heather.record = none))) ∧
  (∀ (n : Chn) (s : State), s.reach .GLB_CHN_CTRL 0 = true →
    (∃ t, exec (.drain n) s = .next t ∧ bits s t F.GLB_CHN_CTRL_DRAIN n true ∧ s.OnlyRegs t [F.GLB_CHN_CTRL_DRAIN]) ∧
    (∃ t, exec (.reopen n) s = .next t ∧ bits s t F.GLB_CHN_CTRL_DRAIN n false ∧ bits s t F.GLB_CHN_STATUS_DRAINED n false ∧
      s.RegsBut t (F.GLB_CHN_CTRL_DRAIN :: F.GLB_CHN_STATUS_DRAINED :: levels) ∧ t = { s with regs := t.regs, irq := t.irq }) ∧
    (let ok : Prop := bitOf (s.get F.GLB_CHN_STATUS_DRAINED) n = true ∧ bitOf (s.get F.GLB_CHN_STATUS_REINIT_BUSY) n = false
     (¬ok → exec (.reinit n) s = .next s) ∧
     (ok → ∃ t, exec (.reinit n) s = .next t ∧ bits s t F.GLB_CHN_STATUS_REINIT_BUSY n true ∧ off t n ∧
      (s.powered (.core n) = true → ∀ j ∈ t.jobs, j.chan ≠ n) ∧ t.get F.GLB_LEVEL_CHANNEL = 1))) ∧
  (∀ (n : Chn) (s : State),
    let found : Prop := s.get F.BOOT_STATUS_READY ≠ 0 ∧ bitOf (s.get F.GLB_CHN_CTRL_DRAIN) n = true ∧
      bitOf (s.get F.GLB_CHN_STATUS_DRAINED) n = false ∧ ((s.chan n).drain = true ∨ s.powered (.core n) = false) ∧
      ∀ j ∈ s.jobs, j.holdsIn n = false ∧ (j.chan ≠ n ∨ j.stage ≠ .provisional)
    (¬found → exec (.drained n) s = .next s) ∧
    (found → ∃ t, exec (.drained n) s = .next t ∧ bits s t F.GLB_CHN_STATUS_DRAINED n true ∧ t.event (20 + n) = true ∧
      s.RegsBut t (F.GLB_CHN_STATUS_DRAINED :: levels) ∧ t = { s with regs := t.regs, irq := t.irq } ∧
      (s.powered .spine = true → t.get F.GLB_LEVEL_CHANNEL = 1 ∧
        t.get F.GLB_LEVEL_LEVEL = (if s.get F.GLB_FALLOW_REASON_FALLOW = 0 then 1 else 2)))) ∧
  (∀ (n : Chn) (ok : Bool) (s : State),
    (bitOf (s.get F.GLB_CHN_STATUS_REINIT_BUSY) n = false → exec (.reinitDone n ok) s = .next s) ∧
    (bitOf (s.get F.GLB_CHN_STATUS_REINIT_BUSY) n = true → ok = true → ∃ t, exec (.reinitDone n ok) s = .next t ∧
      bits s t F.GLB_CHN_STATUS_REINIT_BUSY n false ∧ bits s t F.GLB_CHN_STATUS_OFFLINE n false ∧ t.powered (.core n) = true ∧
      t.powered (.stack n) = true ∧ (∀ q, q / 4 = n.val → bitOf (s.get F.PWR_QUARTER_OFF_OFF) q = false → q ∉ s.heather.dark →
        t.powered (.quarter q) = true) ∧
      (bitOf (s.get F.GLB_CHN_STATUS_OFFLINE) n = true → t.mem = (s.stackFill n).mem) ∧
      (bitOf (s.get F.GLB_CHN_STATUS_OFFLINE) n = false → t.mem = s.mem)) ∧
    (bitOf (s.get F.GLB_CHN_STATUS_REINIT_BUSY) n = true → ok = false → ∃ t, exec (.reinitDone n ok) s = .next t ∧ gone s t n) ∧
    (s.powered (.stack n) = false → exec (.stackFail n) s = .next s) ∧
    (s.powered (.stack n) = true → ∃ t, exec (.stackFail n) s = .next t ∧ gone s t n))

/-- FW_SWITCH, FW_SWITCH_DONE, FW_SWITCH_TIMEOUT (R459), BOOT_FALLOW (R450), MBOX_READ, ERASE, PROGRAM, VERIFY_SLOT, VERIFY_BANK, REBOOT
(R452), MBOX_FALLOW, MBOX_RESERVED, BOOT_MBOX_DONE (R460), GET_ID, ATTEST, GET_CERT, ENROLL (R470), SEC_RESERVED, SEC_MBOX_DONE (R473)
and ATTEST_SNAPSHOT (R475). -/
def Obligations.MailboxesSwitchFirmwareAndAttest : Prop :=
  let reset (s : State) (h : Heather) : State := { State.reset with
    pending := s.pending, free := s.free, out := s.out, nextJob := s.nextJob, flash := s.flash, genSets := s.genSets, heather := h }
  let toFallow (s : State) : State := reset s { s.heather with cause := 4, phase := .release, save := none, fallow := 6 }
  let busy (s t : State) (cmd result : Nat) (fs : List Fld) : Prop := (t.get F.BOOT_MBOX_STATUS_BUSY = 1 ∧
    s.RegsBut t (F.BOOT_MBOX_STATUS_BUSY :: fs) ∧
    t = { s with regs := t.regs, flash := t.flash, free := t.free, boot := { s.boot with mbox := some ⟨cmd, result, s.time⟩ } })
  let holds (t : State) (f : Nat → Fld) (bs : List Byte) : Prop :=
    (bs.length ≤ 8192 → ∀ i, 4 * i + 4 ≤ bs.length → t.get (f i) = leNat ((bs.drop (4 * i)).take 4))
  (∀ s : State, s.reach .BOOT_CTRL 0 = true →
    exec .bootFallow s = .next (toFallow s) ∧
    let other : Nat := 1 - s.get F.BOOT_STATUS_SLOT
    let ok : Prop := s.get F.BOOT_STATUS_READY ≠ 0 ∧ s.boot.switch = none ∧ (s.slotInfo other).isSome = true
    ∃ t, exec .fwSwitch s = .next t ∧ (¬ok → t = s) ∧ (ok → t.get F.BOOT_STATUS_SWITCH_BUSY = 1 ∧ t.get F.BOOT_SP_STATUS_PAUSED = 1 ∧
      s.RegsBut t [F.BOOT_STATUS_SWITCH_BUSY, F.BOOT_SP_STATUS_PAUSED] ∧
      t = { s with regs := t.regs, boot := { s.boot with switch := some (s.time, other) } })) ∧
  (∀ (s : State) (oldOk : Bool), s.boot.switch = none → exec .fwSwitchDone s = .next s ∧ exec (.fwSwitchTimeout oldOk) s = .next s) ∧
  (∀ (s : State) (t0 i : Nat), s.boot.switch = some (t0, i) →
    let ended (t : State) : Prop := (t.get F.BOOT_STATUS_SWITCH_BUSY = 0 ∧ t.get F.BOOT_SP_STATUS_PAUSED = 0 ∧ t.boot.switch = none)
    (t0 + 1000000000 < s.time → exec .fwSwitchDone s = .next s ∧
      exec (.fwSwitchTimeout false) s = .next (reset s { s.heather with cause := 5, phase := .release, save := none }) ∧
      ∃ t, exec (.fwSwitchTimeout true) s = .next t ∧ ended t ∧ t.get F.BOOT_STATUS_SWITCH_FAIL = 1 ∧
        s.RegsBut t [F.BOOT_STATUS_SWITCH_BUSY, F.BOOT_SP_STATUS_PAUSED, F.BOOT_STATUS_SWITCH_FAIL] ∧
        t = { s with regs := t.regs, boot := { s.boot with switch := none } }) ∧
    (s.time ≤ t0 + 1000000000 → (∀ oldOk, exec (.fwSwitchTimeout oldOk) s = .next s) ∧
      ∃ t, exec .fwSwitchDone s = .next t ∧ (s.slotInfo i = none → t = s) ∧
        ∀ x, s.slotInfo i = some x → ended t ∧ t.get F.BOOT_STATUS_SLOT = i % 2 ∧ t.get F.BOOT_STATUS_SWITCH_DONE = 1 ∧ s.Raised t 44 ∧
          t.boot.mFw = x.digest ∧ t.boot.version = x.version ∧ t.boot.binds = s.boot.binds ∧ t.jobs = s.jobs ∧ t.tusss = s.tusss)) ∧
  (∀ (s : State) (ok : Bool) (cmd : BitVec 8), s.reach .BOOT_MBOX_CMD 0 = true →
    let all : List Instr := [.mboxRead ok, .erase ok, .program ok, .verifySlot ok, .verifyBank ok, .reboot, .mboxFallow, .mboxReserved cmd]
    let a : Nat := s.get F.BOOT_MBOX_ARG_ADDR
    let flag : Nat := s.get F.BOOT_MBOX_ARG_FLAG
    let meet (x n y m : Nat) : Prop := x < y + m ∧ y < x + n
    let refused (x n : Nat) : Prop := meet x n 0x2400000 0x40000 ∨ (s.get F.GLB_FALLOW_REASON_FALLOW = 0 ∧
      (meet x n (0x400000 + s.get F.BOOT_STATUS_SLOT * 0x1000000) 0x1000000 ∨ meet x n (s.get F.BOOT_STATUS_BANK * 0x200000) 0x200000))
    let changes (c : Instr) (code x n : Nat) (now : State → Prop) : Prop :=
      ((refused x n → ∃ t, exec c s = .next t ∧ busy s t code 1 [] ∧ t.flash = s.flash ∧ t.free = s.free) ∧
       (¬refused x n → flashEnd < x + n → ∃ t, exec c s = .next t ∧ busy s t code 2 [] ∧ t.flash = s.flash ∧ t.free = s.free) ∧
       (¬refused x n → x + n ≤ flashEnd → ∃ t, exec c s = .next t ∧ busy s t code (if ok then 0 else 2) [] ∧
        (ok = true → now t ∧ t.free = s.free) ∧
        ∀ y, ¬(x ≤ y ∧ y < x + n) → t.flashBytes y 1 = s.flashBytes y 1))
    (1 < s.get F.PWR_STATUS_STATE → ∀ c ∈ all, exec c s = .next s) ∧
    (s.get F.PWR_STATUS_STATE ≤ 1 → s.get F.BOOT_MBOX_STATUS_BUSY ≠ 0 → ∀ c ∈ all, ∃ t, exec c s = .next t ∧
      t.get F.BOOT_MBOX_STATUS_REJECT = 1 ∧ s.OnlyRegs t [F.BOOT_MBOX_STATUS_REJECT]) ∧
    (s.get F.PWR_STATUS_STATE ≤ 1 → s.get F.BOOT_MBOX_STATUS_BUSY = 0 →
      (ok = true ∧ a + 4096 ≤ flashEnd → ∃ t, exec (.mboxRead ok) s = .next t ∧ t.flash = s.flash ∧ t.free = s.free ∧
        busy s t 1 0 ((List.range 1024).map F.BOOT_MBOX_BUF_DATA) ∧
        ∀ i, i < 1024 → t.get (F.BOOT_MBOX_BUF_DATA i) = leNat (s.flashBytes (a + 4 * i) 4)) ∧
      (¬(ok = true ∧ a + 4096 ≤ flashEnd) → ∃ t, exec (.mboxRead ok) s = .next t ∧ busy s t 1 2 [] ∧ t.flash = s.flash ∧ t.free = s.free) ∧
      changes (.erase ok) 2 (a / 65536 * 65536) 65536 (fun t => ∀ i, i < 65536 → t.flashBytes (a / 65536 * 65536 + i) 1 = [0xFF]) ∧
      (a % 4096 ≠ 0 → ∃ t, exec (.program ok) s = .next t ∧ busy s t 3 1 [] ∧ t.flash = s.flash ∧ t.free = s.free) ∧
      (a % 4096 = 0 → changes (.program ok) 3 a 4096
        (fun t => ∀ i, i < 1024 → t.flashBytes (a + 4 * i) 4 = leBytes 4 (s.get (F.BOOT_MBOX_BUF_DATA i)))) ∧
      (∃ t, exec (.verifySlot ok) s = .next t ∧ t.flash = s.flash ∧ t.free = s.free ∧
        busy s t 4 (if ok = false then 2 else if (s.slotInfo flag).isSome then 0 else 3) []) ∧
      (∃ t, exec (.verifyBank ok) s = .next t ∧ t.flash = s.flash ∧ t.free = s.free ∧
        busy s t 5 (if ok = false then 2 else if (s.bank flag).isSome then 0 else 3) []) ∧
      (∃ t, exec (.mboxReserved cmd) s = .next t ∧ busy s t cmd.toNat 4 [] ∧ t.flash = s.flash ∧ t.free = s.free) ∧
      exec .mboxFallow s = .next (toFallow s) ∧
      exec .reboot s = .next (reset s (if flag = 1 then { s.heather with cause := 3, phase := .release, save := none, count := 0, fallow := 0 }
        else { s.heather with cause := 3, phase := .release, save := none })))) ∧
  (∀ s : State, (s.boot.mbox = none → exec .bootMboxDone s = .next s) ∧
    (∀ x, s.boot.mbox = some x → ∃ t, exec .bootMboxDone s = .next t ∧ t.get F.BOOT_MBOX_STATUS_BUSY = 0 ∧
      t.get F.BOOT_MBOX_STATUS_DONE = 1 ∧ t.get F.BOOT_MBOX_STATUS_RESULT = x.result % 8 ∧ s.Raised t 44 ∧
      s.RegsBut t ([F.BOOT_MBOX_STATUS_BUSY, F.BOOT_MBOX_STATUS_DONE, F.BOOT_MBOX_STATUS_RESULT] ++ eventFlds) ∧
      t = { s with regs := t.regs, irq := t.irq, boot := { s.boot with mbox := none } })) ∧
  (∀ (s : State) (helper : List Byte) (cmd : BitVec 8), s.reach .SEC_MBOX_CMD 0 = true →
    let all : List Instr := [.getId, .attest, .getCert, .enroll helper, .secReserved cmd]
    let closed : Prop := s.get F.SEC_MBOX_STATUS_BUSY ≠ 0 ∨ s.stopped 0x51 = true
    let begun (t : State) (c result : Nat) : Prop := (t.get F.SEC_MBOX_STATUS_BUSY = 1 ∧ t.boot.sec = some ⟨c, result, s.time⟩ ∧
      t = { s with regs := t.regs, flash := t.flash, boot := { s.boot with sec := t.boot.sec, nonce := t.boot.nonce, snapped := t.boot.snapped } })
    let plain (t : State) (c result : Nat) : Prop := (begun t c result ∧ t.flash = s.flash ∧ s.RegsBut t [F.SEC_MBOX_STATUS_BUSY])
    (closed → ∀ c ∈ all, ∃ t, exec c s = .next t ∧ t.get F.SEC_MBOX_STATUS_REJECT = 1 ∧ s.OnlyRegs t [F.SEC_MBOX_STATUS_REJECT]) ∧
    (¬closed →
      (s.boot.ident = none → (∃ t, exec .getId s = .next t ∧ plain t 1 2) ∧ ∃ t, exec .attest s = .next t ∧ plain t 2 2) ∧
      (∀ key, s.boot.ident = some key →
        (∃ t, exec .getId s = .next t ∧ begun t 1 0 ∧ holds t F.SEC_MBOX_BUF_DATA ((sha3 key).take 16 ++ key)) ∧
        ∃ t, exec .attest s = .next t ∧ plain t 2 0 ∧ t.boot.snapped = false ∧
          t.boot.nonce = (List.range 8).flatMap fun i => leBytes 4 (s.get (F.SEC_MBOX_BUF_DATA i))) ∧
      (∀ found, s.boot.certs.find? (fun c => c.1 == s.get F.SEC_MBOX_ARG_INDEX) = found → ∃ t, exec .getCert s = .next t ∧
        match found with
        | some c => begun t 3 0 ∧ holds t F.SEC_MBOX_BUF_DATA c.2
        | none => plain t 3 1) ∧
      (s.get F.GLB_FALLOW_REASON_FALLOW ≠ 0 ∧ s.get F.GLB_FALLOW_REASON_REASON = 3 → ∃ t, exec (.enroll helper) s = .next t ∧ begun t 4 0 ∧
        t.flash = (s.flashPut 0x2440000 (helper.take 65536)).flash) ∧
      (¬(s.get F.GLB_FALLOW_REASON_FALLOW ≠ 0 ∧ s.get F.GLB_FALLOW_REASON_REASON = 3) → ∃ t, exec (.enroll helper) s = .next t ∧ plain t 4 1) ∧
      ∃ t, exec (.secReserved cmd) s = .next t ∧ plain t cmd.toNat 3)) ∧
  (∀ s : State, (s.boot.sec = none → exec .secMboxDone s = .next s ∧ exec .attestSnapshot s = .next s) ∧
    (∀ x, s.boot.sec = some x →
      let waits : Prop := x.cmd = 2 ∧ x.result = 0 ∧ s.boot.snapped = false
      (waits → exec .secMboxDone s = .next s) ∧
      (¬waits → exec .attestSnapshot s = .next s ∧ ∃ t, exec .secMboxDone s = .next t ∧ t.get F.SEC_MBOX_STATUS_BUSY = 0 ∧
        t.get F.SEC_MBOX_STATUS_DONE = 1 ∧ t.get F.SEC_MBOX_STATUS_RESULT = x.result % 8 ∧ s.Raised t 43 ∧
        s.RegsBut t ([F.SEC_MBOX_STATUS_BUSY, F.SEC_MBOX_STATUS_DONE, F.SEC_MBOX_STATUS_RESULT] ++ eventFlds) ∧
        t = { s with regs := t.regs, irq := t.irq, boot := { s.boot with sec := none } }) ∧
      (∀ key, waits → s.boot.ident = some key → s.swath * 8192 ≤ x.since → exec .attestSnapshot s = .next s) ∧
      (∀ key, waits → s.boot.ident = some key → x.since < s.swath * 8192 → ∃ t rest, exec .attestSnapshot s = .next t ∧
        s.attestReport key = leBytes 4 0x54414C4F ++ leBytes 2 1 ++
          leBytes 1 ((List.range 64).filter fun c => s.get (F.GLB_CTX_STATE_STATE c) != 0).length ++
          leBytes 1 (s.get F.GLB_FALLOW_REASON_FALLOW + 2 * s.get F.GLB_FALLOW_REASON_REASON) ++ (sha3 key).take 16 ++ s.boot.nonce ++
          leBytes 8 (s.swath * 8192) ++ leBytes 2 0xA1 ++ leBytes 2 s.boot.version ++ leBytes 4 s.boot.seq ++ rest ∧
        holds t F.SEC_MBOX_BUF_DATA (s.attestReport key ++ (List.range 2420).map (Config.identitySign key (sha3 (s.attestReport key)))) ∧
        t.boot.snapped = true ∧ t.flash = s.flash ∧ t.jobs = s.jobs ∧ t.mem = s.mem ∧ t.irq = s.irq)))

/-- STANDING_TRIGGER_EVENT (R372, R444), STANDING_TIMER (R442), STANDING_OUTPUT_ACTION and PULSE_END (R445). -/
def Obligations.StandingProgramsPlaceJobsAndAct : Prop :=
  let runs (s : State) : Prop := s.get F.BOOT_STATUS_READY ≠ 0 ∧ s.get F.BOOT_SP_STATUS_PAUSED = 0 ∧ s.stopped 0x50 = false
  let mapped (s : State) (a n : Nat) : Prop := s.accessFault .mgmt true a n = none
  let sound (s : State) (a n : Nat) : Prop := s.flits = [] ∧ s.accessFault .mgmt false a n = none ∧
    ∀ x, x % 256 = 0 → x < a + n → a < x + 256 → (∃ m, regionOf x = .stack m) ∧ (s.block x).good = true ∧ s.latentAt x = .ok
  let counted (s t : State) (f : Fld) : Prop := (t.get f = min (s.get f + 1) (2 ^ f.w - 1))
  let placed (s t : State) (i : Nat) (b : Binding) : Prop :=
    (let k := b.ring % 16
     let prod := leNat (Memory.readN s.mem (s.ctrlAddr k) 4)
     let room : Prop := (prod + 2 ^ 32 - s.cons k) % 2 ^ 32 + b.nent ≤ s.ringSize k
     (∃ b', t.boot.binds[i]? = some b' ∧ b'.events = b.events + 1) ∧
     let dropped : Prop := counted s t F.BOOT_SP_STATUS_DROP_CNT ∧ t.mem = s.mem ∧ t.boot.watches = s.boot.watches
     (sound s (s.ctrlAddr k) 4 → ¬room → dropped) ∧ (s.accessFault .mgmt false (s.ctrlAddr k) 4 ≠ none → dropped) ∧
     (sound s (s.ctrlAddr k) 4 → s.accessFault .mgmt false b.template (32 * b.nent) ≠ none → dropped) ∧
     (sound s (s.ctrlAddr k) 4 → mapped s (s.ctrlAddr k) 4 → room → sound s b.template (32 * b.nent) → s.ctrlAddr k + 4 ≤ stackEnd →
      (∀ n, n < b.nent → mapped s (s.entryAddr k (prod + n)) 32 ∧ s.entryAddr k (prod + n) + 32 ≤ stackEnd) →
      (∀ a, a = s.ctrlAddr k ∨ (∃ n, n < b.nent ∧ a = s.entryAddr k (prod + n)) → (s.block (a / 256 * 256)).good = true) →
      Memory.readN t.mem (s.ctrlAddr k) 4 = leBytes 4 (prod + b.nent) ∧
      t.get F.BOOT_SP_STATUS_DROP_CNT = s.get F.BOOT_SP_STATUS_DROP_CNT ∧
      t.boot.watches = s.boot.watches ++ (if b.outEn then [{ binding := i, k := k, ring := prod % 2 ^ 32 }] else []) ∧
      ((∀ p ∈ b.patches, bitsOf p 15 5 = 0) → (∀ n, n < b.nent → s.entryAddr k (prod + n) / 256 ≠ s.ctrlAddr k / 256) →
        ∀ n, n < b.nent → Memory.readN t.mem (s.entryAddr k (prod + n)) 32 = Memory.readN s.mem (b.template + 32 * n) 32)))
  (∀ (q : TqIx) (s : State),
    (¬runs s ∨ (∀ b ∈ s.boot.binds, ¬(b.src = 0 ∧ b.srcIdx = q)) ∨ s.reach .STL_TQ_POP q = false ∨ (s.tq q).entries = [] →
      exec (.standingTriggerEvent q) s = .next s) ∧
    (∀ b e rest, runs s → s.boot.binds = [b] → b.src = 0 → b.srcIdx = q → s.reach .STL_TQ_POP q = true → (s.tq q).entries = e :: rest →
      ∃ t, exec (.standingTriggerEvent q) s = .next t ∧ (t.tq q).entries = rest ∧ placed s t 0 b)) ∧
  (∀ (i : BitVec 8) (b : Binding) (s : State), s.boot.binds[i.toNat]? = some b →
    let due : Prop := runs s ∧ b.src = 2 ∧ b.last + b.period * 1000 ≤ s.time
    (¬due → exec (.standingTimer i) s = .next s) ∧
    (due → ∃ t, exec (.standingTimer i) s = .next t ∧ placed s t i.toNat b ∧
      ∃ b', t.boot.binds[i.toNat]? = some b' ∧ b'.last = b.last + b.period * 1000)) ∧
  (∀ (s : State),
    (¬runs s ∨ s.boot.watches.find? s.acting = none → exec .standingOutputAction s = .next s) ∧
    (∀ w b, runs s → s.boot.watches.find? s.acting = some w → s.boot.binds[w.binding]? = some b → s.accessFault .mgmt false b.result 4 ≠ none →
      ∃ t, exec .standingOutputAction s = .next t ∧ t.boot.watches = s.boot.watches.erase w ∧ t.mem = s.mem ∧ t.jobs = s.jobs ∧
        t.stile = s.stile) ∧
    (∀ w b, runs s → s.boot.watches.find? s.acting = some w → s.boot.binds[w.binding]? = some b → sound s b.result 4 →
      let word : Nat := leNat (Memory.readN s.mem b.result 4)
      ∃ t, exec .standingOutputAction s = .next t ∧ t.boot.watches = s.boot.watches.erase w ∧ t.mem = s.mem ∧
        (b.outSel < 16 → s.reach .STL_FOUT 0 = true →
          (∀ x, x < 16 → bitOf (t.get F.STL_FOUT_VALUE) x =
            (if x = b.outSel then b.outPulse || bitOf word 0 else bitOf (s.get F.STL_FOUT_VALUE) x)) ∧
          (b.outPulse = true → (b.outSel, s.time + b.pulse * 1000000) ∈ t.boot.pulses) ∧ s.RegsBut t [F.STL_FOUT_VALUE]) ∧
        (∀ k, k < 4 → b.outSel = 16 + k → s.reach .STL_AOUT_VALUE k = true →
          t.get (F.STL_AOUT_VALUE_CODE k) = bitsOf word 0 14 ∧
          (s.get (F.STL_AOUT_STATUS_IN_SAFE k) = 0 → s.get (F.STL_AOUT_CFG_UPD_WRAP k) = 0 → (t.aout k).code = bitsOf word 0 14) ∧
          s.RegsBut t [F.STL_AOUT_VALUE_CODE k, F.STL_AOUT_STATUS_UPD_PENDING k]) ∧
        (w.state = 1 → ∀ j ∈ t.jobs, j.ek = w.k → j.ringIndex = w.ring → j.committed = true) ∧
        (w.state ≠ 1 → t.jobs = s.jobs))) ∧
  (∀ (i : Fin 16) (s : State),
    let ended : Prop := ∃ p ∈ s.boot.pulses, p.1 = i.val ∧ p.2 ≤ s.time
    (¬ended → exec (.pulseEnd i) s = .next s) ∧
    (ended → ∃ t, exec (.pulseEnd i) s = .next t ∧ t.boot.pulses = s.boot.pulses.filter (fun p => p.1 != i.val) ∧
      (s.reach .STL_FOUT 0 = true → bitOf (t.get F.STL_FOUT_VALUE) i = false) ∧ s.RegsBut t [F.STL_FOUT_VALUE] ∧
      t = { s with regs := t.regs, boot := { s.boot with pulses := t.boot.pulses } }))
end

