-- ==== Sys2Proof/Laws/State.lean ====
section
/-! SUPPORT. What each plain update of the state leaves alone: one lemma for every update and every field that it does not
write, true by unfolding, so that no later proof unfolds a record update. -/

namespace Sys2Proof.Machine
open Sys2Proof

variable (s : State)


/-! ### `State.set` writes `regs` -/

@[simp] theorem State.set_pending (f : Fld) (v : Nat) : (s.set f v).pending = s.pending := rfl
@[simp] theorem State.set_free (f : Fld) (v : Nat) : (s.set f v).free = s.free := rfl
@[simp] theorem State.set_time (f : Fld) (v : Nat) : (s.set f v).time = s.time := rfl
@[simp] theorem State.set_mem (f : Fld) (v : Nat) : (s.set f v).mem = s.mem := rfl
@[simp] theorem State.set_irq (f : Fld) (v : Nat) : (s.set f v).irq = s.irq := rfl
@[simp] theorem State.set_host (f : Fld) (v : Nat) : (s.set f v).host = s.host := rfl
@[simp] theorem State.set_mgmt (f : Fld) (v : Nat) : (s.set f v).mgmt = s.mgmt := rfl
@[simp] theorem State.set_out (f : Fld) (v : Nat) : (s.set f v).out = s.out := rfl
@[simp] theorem State.set_stile (f : Fld) (v : Nat) : (s.set f v).stile = s.stile := rfl
@[simp] theorem State.set_jobs (f : Fld) (v : Nat) : (s.set f v).jobs = s.jobs := rfl
@[simp] theorem State.set_nextJob (f : Fld) (v : Nat) : (s.set f v).nextJob = s.nextJob := rfl
@[simp] theorem State.set_engines (f : Fld) (v : Nat) : (s.set f v).engines = s.engines := rfl
@[simp] theorem State.set_flight (f : Fld) (v : Nat) : (s.set f v).flight = s.flight := rfl
@[simp] theorem State.set_t3 (f : Fld) (v : Nat) : (s.set f v).t3 = s.t3 := rfl
@[simp] theorem State.set_chans (f : Fld) (v : Nat) : (s.set f v).chans = s.chans := rfl
@[simp] theorem State.set_provs (f : Fld) (v : Nat) : (s.set f v).provs = s.provs := rfl
@[simp] theorem State.set_nextProv (f : Fld) (v : Nat) : (s.set f v).nextProv = s.nextProv := rfl
@[simp] theorem State.set_stallSwath (f : Fld) (v : Nat) : (s.set f v).stallSwath = s.stallSwath := rfl
@[simp] theorem State.set_tusss (f : Fld) (v : Nat) : (s.set f v).tusss = s.tusss := rfl
@[simp] theorem State.set_areas (f : Fld) (v : Nat) : (s.set f v).areas = s.areas := rfl
@[simp] theorem State.set_prods (f : Fld) (v : Nat) : (s.set f v).prods = s.prods := rfl
@[simp] theorem State.set_genSets (f : Fld) (v : Nat) : (s.set f v).genSets = s.genSets := rfl
@[simp] theorem State.set_leas (f : Fld) (v : Nat) : (s.set f v).leas = s.leas := rfl
@[simp] theorem State.set_leaFaults (f : Fld) (v : Nat) : (s.set f v).leaFaults = s.leaFaults := rfl
@[simp] theorem State.set_chainRefs (f : Fld) (v : Nat) : (s.set f v).chainRefs = s.chainRefs := rfl
@[simp] theorem State.set_legacyRefs (f : Fld) (v : Nat) : (s.set f v).legacyRefs = s.legacyRefs := rfl
@[simp] theorem State.set_commits (f : Fld) (v : Nat) : (s.set f v).commits = s.commits := rfl
@[simp] theorem State.set_images (f : Fld) (v : Nat) : (s.set f v).images = s.images := rfl
@[simp] theorem State.set_verifs (f : Fld) (v : Nat) : (s.set f v).verifs = s.verifs := rfl
@[simp] theorem State.set_loads (f : Fld) (v : Nat) : (s.set f v).loads = s.loads := rfl
@[simp] theorem State.set_tests (f : Fld) (v : Nat) : (s.set f v).tests = s.tests := rfl
@[simp] theorem State.set_pubKeys (f : Fld) (v : Nat) : (s.set f v).pubKeys = s.pubKeys := rfl
@[simp] theorem State.set_testKey (f : Fld) (v : Nat) : (s.set f v).testKey = s.testKey := rfl
@[simp] theorem State.set_fractionOld (f : Fld) (v : Nat) : (s.set f v).fractionOld = s.fractionOld := rfl
@[simp] theorem State.set_fractionAt (f : Fld) (v : Nat) : (s.set f v).fractionAt = s.fractionAt := rfl
@[simp] theorem State.set_ctxs (f : Fld) (v : Nat) : (s.set f v).ctxs = s.ctxs := rfl
@[simp] theorem State.set_sensors (f : Fld) (v : Nat) : (s.set f v).sensors = s.sensors := rfl
@[simp] theorem State.set_heather (f : Fld) (v : Nat) : (s.set f v).heather = s.heather := rfl
@[simp] theorem State.set_entry (f : Fld) (v : Nat) : (s.set f v).entry = s.entry := rfl
@[simp] theorem State.set_waking (f : Fld) (v : Nat) : (s.set f v).waking = s.waking := rfl
@[simp] theorem State.set_slept (f : Fld) (v : Nat) : (s.set f v).slept = s.slept := rfl
@[simp] theorem State.set_quarters (f : Fld) (v : Nat) : (s.set f v).quarters = s.quarters := rfl
@[simp] theorem State.set_boot (f : Fld) (v : Nat) : (s.set f v).boot = s.boot := rfl
@[simp] theorem State.set_flash (f : Fld) (v : Nat) : (s.set f v).flash = s.flash := rfl
@[simp] theorem State.set_latent (f : Fld) (v : Nat) : (s.set f v).latent = s.latent := rfl
@[simp] theorem State.set_flits (f : Fld) (v : Nat) : (s.set f v).flits = s.flits := rfl
@[simp] theorem State.set_recs (f : Fld) (v : Nat) : (s.set f v).recs = s.recs := rfl
@[simp] theorem State.set_fresh (f : Fld) (v : Nat) : (s.set f v).fresh = s.fresh := rfl
@[simp] theorem State.set_tap (f : Fld) (v : Nat) : (s.set f v).tap = s.tap := rfl

/-! ### `State.resetRegs` writes `regs` -/

@[simp] theorem State.resetRegs_pending (r : RegName) (i0 i1 : Nat) : (s.resetRegs r i0 i1).pending = s.pending := rfl
@[simp] theorem State.resetRegs_free (r : RegName) (i0 i1 : Nat) : (s.resetRegs r i0 i1).free = s.free := rfl
@[simp] theorem State.resetRegs_time (r : RegName) (i0 i1 : Nat) : (s.resetRegs r i0 i1).time = s.time := rfl
@[simp] theorem State.resetRegs_mem (r : RegName) (i0 i1 : Nat) : (s.resetRegs r i0 i1).mem = s.mem := rfl
@[simp] theorem State.resetRegs_irq (r : RegName) (i0 i1 : Nat) : (s.resetRegs r i0 i1).irq = s.irq := rfl
@[simp] theorem State.resetRegs_host (r : RegName) (i0 i1 : Nat) : (s.resetRegs r i0 i1).host = s.host := rfl
@[simp] theorem State.resetRegs_mgmt (r : RegName) (i0 i1 : Nat) : (s.resetRegs r i0 i1).mgmt = s.mgmt := rfl
@[simp] theorem State.resetRegs_out (r : RegName) (i0 i1 : Nat) : (s.resetRegs r i0 i1).out = s.out := rfl
@[simp] theorem State.resetRegs_stile (r : RegName) (i0 i1 : Nat) : (s.resetRegs r i0 i1).stile = s.stile := rfl
@[simp] theorem State.resetRegs_jobs (r : RegName) (i0 i1 : Nat) : (s.resetRegs r i0 i1).jobs = s.jobs := rfl
@[simp] theorem State.resetRegs_nextJob (r : RegName) (i0 i1 : Nat) : (s.resetRegs r i0 i1).nextJob = s.nextJob := rfl
@[simp] theorem State.resetRegs_engines (r : RegName) (i0 i1 : Nat) : (s.resetRegs r i0 i1).engines = s.engines := rfl
@[simp] theorem State.resetRegs_flight (r : RegName) (i0 i1 : Nat) : (s.resetRegs r i0 i1).flight = s.flight := rfl
@[simp] theorem State.resetRegs_t3 (r : RegName) (i0 i1 : Nat) : (s.resetRegs r i0 i1).t3 = s.t3 := rfl
@[simp] theorem State.resetRegs_chans (r : RegName) (i0 i1 : Nat) : (s.resetRegs r i0 i1).chans = s.chans := rfl
@[simp] theorem State.resetRegs_provs (r : RegName) (i0 i1 : Nat) : (s.resetRegs r i0 i1).provs = s.provs := rfl
@[simp] theorem State.resetRegs_nextProv (r : RegName) (i0 i1 : Nat) : (s.resetRegs r i0 i1).nextProv = s.nextProv := rfl
@[simp] theorem State.resetRegs_stallSwath (r : RegName) (i0 i1 : Nat) : (s.resetRegs r i0 i1).stallSwath = s.stallSwath := rfl
@[simp] theorem State.resetRegs_tusss (r : RegName) (i0 i1 : Nat) : (s.resetRegs r i0 i1).tusss = s.tusss := rfl
@[simp] theorem State.resetRegs_areas (r : RegName) (i0 i1 : Nat) : (s.resetRegs r i0 i1).areas = s.areas := rfl
@[simp] theorem State.resetRegs_prods (r : RegName) (i0 i1 : Nat) : (s.resetRegs r i0 i1).prods = s.prods := rfl
@[simp] theorem State.resetRegs_genSets (r : RegName) (i0 i1 : Nat) : (s.resetRegs r i0 i1).genSets = s.genSets := rfl
@[simp] theorem State.resetRegs_leas (r : RegName) (i0 i1 : Nat) : (s.resetRegs r i0 i1).leas = s.leas := rfl
@[simp] theorem State.resetRegs_leaFaults (r : RegName) (i0 i1 : Nat) : (s.resetRegs r i0 i1).leaFaults = s.leaFaults := rfl
@[simp] theorem State.resetRegs_chainRefs (r : RegName) (i0 i1 : Nat) : (s.resetRegs r i0 i1).chainRefs = s.chainRefs := rfl
@[simp] theorem State.resetRegs_legacyRefs (r : RegName) (i0 i1 : Nat) : (s.resetRegs r i0 i1).legacyRefs = s.legacyRefs := rfl
@[simp] theorem State.resetRegs_commits (r : RegName) (i0 i1 : Nat) : (s.resetRegs r i0 i1).commits = s.commits := rfl
@[simp] theorem State.resetRegs_images (r : RegName) (i0 i1 : Nat) : (s.resetRegs r i0 i1).images = s.images := rfl
@[simp] theorem State.resetRegs_verifs (r : RegName) (i0 i1 : Nat) : (s.resetRegs r i0 i1).verifs = s.verifs := rfl
@[simp] theorem State.resetRegs_loads (r : RegName) (i0 i1 : Nat) : (s.resetRegs r i0 i1).loads = s.loads := rfl
@[simp] theorem State.resetRegs_tests (r : RegName) (i0 i1 : Nat) : (s.resetRegs r i0 i1).tests = s.tests := rfl
@[simp] theorem State.resetRegs_pubKeys (r : RegName) (i0 i1 : Nat) : (s.resetRegs r i0 i1).pubKeys = s.pubKeys := rfl
@[simp] theorem State.resetRegs_testKey (r : RegName) (i0 i1 : Nat) : (s.resetRegs r i0 i1).testKey = s.testKey := rfl
@[simp] theorem State.resetRegs_fractionOld (r : RegName) (i0 i1 : Nat) : (s.resetRegs r i0 i1).fractionOld = s.fractionOld := rfl
@[simp] theorem State.resetRegs_fractionAt (r : RegName) (i0 i1 : Nat) : (s.resetRegs r i0 i1).fractionAt = s.fractionAt := rfl
@[simp] theorem State.resetRegs_ctxs (r : RegName) (i0 i1 : Nat) : (s.resetRegs r i0 i1).ctxs = s.ctxs := rfl
@[simp] theorem State.resetRegs_sensors (r : RegName) (i0 i1 : Nat) : (s.resetRegs r i0 i1).sensors = s.sensors := rfl
@[simp] theorem State.resetRegs_heather (r : RegName) (i0 i1 : Nat) : (s.resetRegs r i0 i1).heather = s.heather := rfl
@[simp] theorem State.resetRegs_entry (r : RegName) (i0 i1 : Nat) : (s.resetRegs r i0 i1).entry = s.entry := rfl
@[simp] theorem State.resetRegs_waking (r : RegName) (i0 i1 : Nat) : (s.resetRegs r i0 i1).waking = s.waking := rfl
@[simp] theorem State.resetRegs_slept (r : RegName) (i0 i1 : Nat) : (s.resetRegs r i0 i1).slept = s.slept := rfl
@[simp] theorem State.resetRegs_quarters (r : RegName) (i0 i1 : Nat) : (s.resetRegs r i0 i1).quarters = s.quarters := rfl
@[simp] theorem State.resetRegs_boot (r : RegName) (i0 i1 : Nat) : (s.resetRegs r i0 i1).boot = s.boot := rfl
@[simp] theorem State.resetRegs_flash (r : RegName) (i0 i1 : Nat) : (s.resetRegs r i0 i1).flash = s.flash := rfl
@[simp] theorem State.resetRegs_latent (r : RegName) (i0 i1 : Nat) : (s.resetRegs r i0 i1).latent = s.latent := rfl
@[simp] theorem State.resetRegs_flits (r : RegName) (i0 i1 : Nat) : (s.resetRegs r i0 i1).flits = s.flits := rfl
@[simp] theorem State.resetRegs_recs (r : RegName) (i0 i1 : Nat) : (s.resetRegs r i0 i1).recs = s.recs := rfl
@[simp] theorem State.resetRegs_fresh (r : RegName) (i0 i1 : Nat) : (s.resetRegs r i0 i1).fresh = s.fresh := rfl
@[simp] theorem State.resetRegs_tap (r : RegName) (i0 i1 : Nat) : (s.resetRegs r i0 i1).tap = s.tap := rfl

/-! ### `State.draw` writes `free` -/

@[simp] theorem State.draw_pending : (s.draw).pending = s.pending := rfl
@[simp] theorem State.draw_time : (s.draw).time = s.time := rfl
@[simp] theorem State.draw_regs : (s.draw).regs = s.regs := rfl
@[simp] theorem State.draw_mem : (s.draw).mem = s.mem := rfl
@[simp] theorem State.draw_irq : (s.draw).irq = s.irq := rfl
@[simp] theorem State.draw_host : (s.draw).host = s.host := rfl
@[simp] theorem State.draw_mgmt : (s.draw).mgmt = s.mgmt := rfl
@[simp] theorem State.draw_out : (s.draw).out = s.out := rfl
@[simp] theorem State.draw_stile : (s.draw).stile = s.stile := rfl
@[simp] theorem State.draw_jobs : (s.draw).jobs = s.jobs := rfl
@[simp] theorem State.draw_nextJob : (s.draw).nextJob = s.nextJob := rfl
@[simp] theorem State.draw_engines : (s.draw).engines = s.engines := rfl
@[simp] theorem State.draw_flight : (s.draw).flight = s.flight := rfl
@[simp] theorem State.draw_t3 : (s.draw).t3 = s.t3 := rfl
@[simp] theorem State.draw_chans : (s.draw).chans = s.chans := rfl
@[simp] theorem State.draw_provs : (s.draw).provs = s.provs := rfl
@[simp] theorem State.draw_nextProv : (s.draw).nextProv = s.nextProv := rfl
@[simp] theorem State.draw_stallSwath : (s.draw).stallSwath = s.stallSwath := rfl
@[simp] theorem State.draw_tusss : (s.draw).tusss = s.tusss := rfl
@[simp] theorem State.draw_areas : (s.draw).areas = s.areas := rfl
@[simp] theorem State.draw_prods : (s.draw).prods = s.prods := rfl
@[simp] theorem State.draw_genSets : (s.draw).genSets = s.genSets := rfl
@[simp] theorem State.draw_leas : (s.draw).leas = s.leas := rfl
@[simp] theorem State.draw_leaFaults : (s.draw).leaFaults = s.leaFaults := rfl
@[simp] theorem State.draw_chainRefs : (s.draw).chainRefs = s.chainRefs := rfl
@[simp] theorem State.draw_legacyRefs : (s.draw).legacyRefs = s.legacyRefs := rfl
@[simp] theorem State.draw_commits : (s.draw).commits = s.commits := rfl
@[simp] theorem State.draw_images : (s.draw).images = s.images := rfl
@[simp] theorem State.draw_verifs : (s.draw).verifs = s.verifs := rfl
@[simp] theorem State.draw_loads : (s.draw).loads = s.loads := rfl
@[simp] theorem State.draw_tests : (s.draw).tests = s.tests := rfl
@[simp] theorem State.draw_pubKeys : (s.draw).pubKeys = s.pubKeys := rfl
@[simp] theorem State.draw_testKey : (s.draw).testKey = s.testKey := rfl
@[simp] theorem State.draw_fractionOld : (s.draw).fractionOld = s.fractionOld := rfl
@[simp] theorem State.draw_fractionAt : (s.draw).fractionAt = s.fractionAt := rfl
@[simp] theorem State.draw_ctxs : (s.draw).ctxs = s.ctxs := rfl
@[simp] theorem State.draw_sensors : (s.draw).sensors = s.sensors := rfl
@[simp] theorem State.draw_heather : (s.draw).heather = s.heather := rfl
@[simp] theorem State.draw_entry : (s.draw).entry = s.entry := rfl
@[simp] theorem State.draw_waking : (s.draw).waking = s.waking := rfl
@[simp] theorem State.draw_slept : (s.draw).slept = s.slept := rfl
@[simp] theorem State.draw_quarters : (s.draw).quarters = s.quarters := rfl
@[simp] theorem State.draw_boot : (s.draw).boot = s.boot := rfl
@[simp] theorem State.draw_flash : (s.draw).flash = s.flash := rfl
@[simp] theorem State.draw_latent : (s.draw).latent = s.latent := rfl
@[simp] theorem State.draw_flits : (s.draw).flits = s.flits := rfl
@[simp] theorem State.draw_recs : (s.draw).recs = s.recs := rfl
@[simp] theorem State.draw_fresh : (s.draw).fresh = s.fresh := rfl
@[simp] theorem State.draw_tap : (s.draw).tap = s.tap := rfl

/-! ### `State.send` writes `out` -/

@[simp] theorem State.send_pending (o : Out) : (s.send o).pending = s.pending := rfl
@[simp] theorem State.send_free (o : Out) : (s.send o).free = s.free := rfl
@[simp] theorem State.send_time (o : Out) : (s.send o).time = s.time := rfl
@[simp] theorem State.send_regs (o : Out) : (s.send o).regs = s.regs := rfl
@[simp] theorem State.send_mem (o : Out) : (s.send o).mem = s.mem := rfl
@[simp] theorem State.send_irq (o : Out) : (s.send o).irq = s.irq := rfl
@[simp] theorem State.send_host (o : Out) : (s.send o).host = s.host := rfl
@[simp] theorem State.send_mgmt (o : Out) : (s.send o).mgmt = s.mgmt := rfl
@[simp] theorem State.send_stile (o : Out) : (s.send o).stile = s.stile := rfl
@[simp] theorem State.send_jobs (o : Out) : (s.send o).jobs = s.jobs := rfl
@[simp] theorem State.send_nextJob (o : Out) : (s.send o).nextJob = s.nextJob := rfl
@[simp] theorem State.send_engines (o : Out) : (s.send o).engines = s.engines := rfl
@[simp] theorem State.send_flight (o : Out) : (s.send o).flight = s.flight := rfl
@[simp] theorem State.send_t3 (o : Out) : (s.send o).t3 = s.t3 := rfl
@[simp] theorem State.send_chans (o : Out) : (s.send o).chans = s.chans := rfl
@[simp] theorem State.send_provs (o : Out) : (s.send o).provs = s.provs := rfl
@[simp] theorem State.send_nextProv (o : Out) : (s.send o).nextProv = s.nextProv := rfl
@[simp] theorem State.send_stallSwath (o : Out) : (s.send o).stallSwath = s.stallSwath := rfl
@[simp] theorem State.send_tusss (o : Out) : (s.send o).tusss = s.tusss := rfl
@[simp] theorem State.send_areas (o : Out) : (s.send o).areas = s.areas := rfl
@[simp] theorem State.send_prods (o : Out) : (s.send o).prods = s.prods := rfl
@[simp] theorem State.send_genSets (o : Out) : (s.send o).genSets = s.genSets := rfl
@[simp] theorem State.send_leas (o : Out) : (s.send o).leas = s.leas := rfl
@[simp] theorem State.send_leaFaults (o : Out) : (s.send o).leaFaults = s.leaFaults := rfl
@[simp] theorem State.send_chainRefs (o : Out) : (s.send o).chainRefs = s.chainRefs := rfl
@[simp] theorem State.send_legacyRefs (o : Out) : (s.send o).legacyRefs = s.legacyRefs := rfl
@[simp] theorem State.send_commits (o : Out) : (s.send o).commits = s.commits := rfl
@[simp] theorem State.send_images (o : Out) : (s.send o).images = s.images := rfl
@[simp] theorem State.send_verifs (o : Out) : (s.send o).verifs = s.verifs := rfl
@[simp] theorem State.send_loads (o : Out) : (s.send o).loads = s.loads := rfl
@[simp] theorem State.send_tests (o : Out) : (s.send o).tests = s.tests := rfl
@[simp] theorem State.send_pubKeys (o : Out) : (s.send o).pubKeys = s.pubKeys := rfl
@[simp] theorem State.send_testKey (o : Out) : (s.send o).testKey = s.testKey := rfl
@[simp] theorem State.send_fractionOld (o : Out) : (s.send o).fractionOld = s.fractionOld := rfl
@[simp] theorem State.send_fractionAt (o : Out) : (s.send o).fractionAt = s.fractionAt := rfl
@[simp] theorem State.send_ctxs (o : Out) : (s.send o).ctxs = s.ctxs := rfl
@[simp] theorem State.send_sensors (o : Out) : (s.send o).sensors = s.sensors := rfl
@[simp] theorem State.send_heather (o : Out) : (s.send o).heather = s.heather := rfl
@[simp] theorem State.send_entry (o : Out) : (s.send o).entry = s.entry := rfl
@[simp] theorem State.send_waking (o : Out) : (s.send o).waking = s.waking := rfl
@[simp] theorem State.send_slept (o : Out) : (s.send o).slept = s.slept := rfl
@[simp] theorem State.send_quarters (o : Out) : (s.send o).quarters = s.quarters := rfl
@[simp] theorem State.send_boot (o : Out) : (s.send o).boot = s.boot := rfl
@[simp] theorem State.send_flash (o : Out) : (s.send o).flash = s.flash := rfl
@[simp] theorem State.send_latent (o : Out) : (s.send o).latent = s.latent := rfl
@[simp] theorem State.send_flits (o : Out) : (s.send o).flits = s.flits := rfl
@[simp] theorem State.send_recs (o : Out) : (s.send o).recs = s.recs := rfl
@[simp] theorem State.send_fresh (o : Out) : (s.send o).fresh = s.fresh := rfl
@[simp] theorem State.send_tap (o : Out) : (s.send o).tap = s.tap := rfl

/-! ### `State.setTuss` writes `tusss` -/

@[simp] theorem State.setTuss_pending (g : Nat) (t : Tuss) : (s.setTuss g t).pending = s.pending := rfl
@[simp] theorem State.setTuss_free (g : Nat) (t : Tuss) : (s.setTuss g t).free = s.free := rfl
@[simp] theorem State.setTuss_time (g : Nat) (t : Tuss) : (s.setTuss g t).time = s.time := rfl
@[simp] theorem State.setTuss_regs (g : Nat) (t : Tuss) : (s.setTuss g t).regs = s.regs := rfl
@[simp] theorem State.setTuss_mem (g : Nat) (t : Tuss) : (s.setTuss g t).mem = s.mem := rfl
@[simp] theorem State.setTuss_irq (g : Nat) (t : Tuss) : (s.setTuss g t).irq = s.irq := rfl
@[simp] theorem State.setTuss_host (g : Nat) (t : Tuss) : (s.setTuss g t).host = s.host := rfl
@[simp] theorem State.setTuss_mgmt (g : Nat) (t : Tuss) : (s.setTuss g t).mgmt = s.mgmt := rfl
@[simp] theorem State.setTuss_out (g : Nat) (t : Tuss) : (s.setTuss g t).out = s.out := rfl
@[simp] theorem State.setTuss_stile (g : Nat) (t : Tuss) : (s.setTuss g t).stile = s.stile := rfl
@[simp] theorem State.setTuss_jobs (g : Nat) (t : Tuss) : (s.setTuss g t).jobs = s.jobs := rfl
@[simp] theorem State.setTuss_nextJob (g : Nat) (t : Tuss) : (s.setTuss g t).nextJob = s.nextJob := rfl
@[simp] theorem State.setTuss_engines (g : Nat) (t : Tuss) : (s.setTuss g t).engines = s.engines := rfl
@[simp] theorem State.setTuss_flight (g : Nat) (t : Tuss) : (s.setTuss g t).flight = s.flight := rfl
@[simp] theorem State.setTuss_t3 (g : Nat) (t : Tuss) : (s.setTuss g t).t3 = s.t3 := rfl
@[simp] theorem State.setTuss_chans (g : Nat) (t : Tuss) : (s.setTuss g t).chans = s.chans := rfl
@[simp] theorem State.setTuss_provs (g : Nat) (t : Tuss) : (s.setTuss g t).provs = s.provs := rfl
@[simp] theorem State.setTuss_nextProv (g : Nat) (t : Tuss) : (s.setTuss g t).nextProv = s.nextProv := rfl
@[simp] theorem State.setTuss_stallSwath (g : Nat) (t : Tuss) : (s.setTuss g t).stallSwath = s.stallSwath := rfl
@[simp] theorem State.setTuss_areas (g : Nat) (t : Tuss) : (s.setTuss g t).areas = s.areas := rfl
@[simp] theorem State.setTuss_prods (g : Nat) (t : Tuss) : (s.setTuss g t).prods = s.prods := rfl
@[simp] theorem State.setTuss_genSets (g : Nat) (t : Tuss) : (s.setTuss g t).genSets = s.genSets := rfl
@[simp] theorem State.setTuss_leas (g : Nat) (t : Tuss) : (s.setTuss g t).leas = s.leas := rfl
@[simp] theorem State.setTuss_leaFaults (g : Nat) (t : Tuss) : (s.setTuss g t).leaFaults = s.leaFaults := rfl
@[simp] theorem State.setTuss_chainRefs (g : Nat) (t : Tuss) : (s.setTuss g t).chainRefs = s.chainRefs := rfl
@[simp] theorem State.setTuss_legacyRefs (g : Nat) (t : Tuss) : (s.setTuss g t).legacyRefs = s.legacyRefs := rfl
@[simp] theorem State.setTuss_commits (g : Nat) (t : Tuss) : (s.setTuss g t).commits = s.commits := rfl
@[simp] theorem State.setTuss_images (g : Nat) (t : Tuss) : (s.setTuss g t).images = s.images := rfl
@[simp] theorem State.setTuss_verifs (g : Nat) (t : Tuss) : (s.setTuss g t).verifs = s.verifs := rfl
@[simp] theorem State.setTuss_loads (g : Nat) (t : Tuss) : (s.setTuss g t).loads = s.loads := rfl
@[simp] theorem State.setTuss_tests (g : Nat) (t : Tuss) : (s.setTuss g t).tests = s.tests := rfl
@[simp] theorem State.setTuss_pubKeys (g : Nat) (t : Tuss) : (s.setTuss g t).pubKeys = s.pubKeys := rfl
@[simp] theorem State.setTuss_testKey (g : Nat) (t : Tuss) : (s.setTuss g t).testKey = s.testKey := rfl
@[simp] theorem State.setTuss_fractionOld (g : Nat) (t : Tuss) : (s.setTuss g t).fractionOld = s.fractionOld := rfl
@[simp] theorem State.setTuss_fractionAt (g : Nat) (t : Tuss) : (s.setTuss g t).fractionAt = s.fractionAt := rfl
@[simp] theorem State.setTuss_ctxs (g : Nat) (t : Tuss) : (s.setTuss g t).ctxs = s.ctxs := rfl
@[simp] theorem State.setTuss_sensors (g : Nat) (t : Tuss) : (s.setTuss g t).sensors = s.sensors := rfl
@[simp] theorem State.setTuss_heather (g : Nat) (t : Tuss) : (s.setTuss g t).heather = s.heather := rfl
@[simp] theorem State.setTuss_entry (g : Nat) (t : Tuss) : (s.setTuss g t).entry = s.entry := rfl
@[simp] theorem State.setTuss_waking (g : Nat) (t : Tuss) : (s.setTuss g t).waking = s.waking := rfl
@[simp] theorem State.setTuss_slept (g : Nat) (t : Tuss) : (s.setTuss g t).slept = s.slept := rfl
@[simp] theorem State.setTuss_quarters (g : Nat) (t : Tuss) : (s.setTuss g t).quarters = s.quarters := rfl
@[simp] theorem State.setTuss_boot (g : Nat) (t : Tuss) : (s.setTuss g t).boot = s.boot := rfl
@[simp] theorem State.setTuss_flash (g : Nat) (t : Tuss) : (s.setTuss g t).flash = s.flash := rfl
@[simp] theorem State.setTuss_latent (g : Nat) (t : Tuss) : (s.setTuss g t).latent = s.latent := rfl
@[simp] theorem State.setTuss_flits (g : Nat) (t : Tuss) : (s.setTuss g t).flits = s.flits := rfl
@[simp] theorem State.setTuss_recs (g : Nat) (t : Tuss) : (s.setTuss g t).recs = s.recs := rfl
@[simp] theorem State.setTuss_fresh (g : Nat) (t : Tuss) : (s.setTuss g t).fresh = s.fresh := rfl
@[simp] theorem State.setTuss_tap (g : Nat) (t : Tuss) : (s.setTuss g t).tap = s.tap := rfl

/-! ### `State.updTuss` writes `tusss` -/

@[simp] theorem State.updTuss_pending (g : Nat) (u : Tuss → Tuss) : (s.updTuss g u).pending = s.pending := rfl
@[simp] theorem State.updTuss_free (g : Nat) (u : Tuss → Tuss) : (s.updTuss g u).free = s.free := rfl
@[simp] theorem State.updTuss_time (g : Nat) (u : Tuss → Tuss) : (s.updTuss g u).time = s.time := rfl
@[simp] theorem State.updTuss_regs (g : Nat) (u : Tuss → Tuss) : (s.updTuss g u).regs = s.regs := rfl
@[simp] theorem State.updTuss_mem (g : Nat) (u : Tuss → Tuss) : (s.updTuss g u).mem = s.mem := rfl
@[simp] theorem State.updTuss_irq (g : Nat) (u : Tuss → Tuss) : (s.updTuss g u).irq = s.irq := rfl
@[simp] theorem State.updTuss_host (g : Nat) (u : Tuss → Tuss) : (s.updTuss g u).host = s.host := rfl
@[simp] theorem State.updTuss_mgmt (g : Nat) (u : Tuss → Tuss) : (s.updTuss g u).mgmt = s.mgmt := rfl
@[simp] theorem State.updTuss_out (g : Nat) (u : Tuss → Tuss) : (s.updTuss g u).out = s.out := rfl
@[simp] theorem State.updTuss_stile (g : Nat) (u : Tuss → Tuss) : (s.updTuss g u).stile = s.stile := rfl
@[simp] theorem State.updTuss_jobs (g : Nat) (u : Tuss → Tuss) : (s.updTuss g u).jobs = s.jobs := rfl
@[simp] theorem State.updTuss_nextJob (g : Nat) (u : Tuss → Tuss) : (s.updTuss g u).nextJob = s.nextJob := rfl
@[simp] theorem State.updTuss_engines (g : Nat) (u : Tuss → Tuss) : (s.updTuss g u).engines = s.engines := rfl
@[simp] theorem State.updTuss_flight (g : Nat) (u : Tuss → Tuss) : (s.updTuss g u).flight = s.flight := rfl
@[simp] theorem State.updTuss_t3 (g : Nat) (u : Tuss → Tuss) : (s.updTuss g u).t3 = s.t3 := rfl
@[simp] theorem State.updTuss_chans (g : Nat) (u : Tuss → Tuss) : (s.updTuss g u).chans = s.chans := rfl
@[simp] theorem State.updTuss_provs (g : Nat) (u : Tuss → Tuss) : (s.updTuss g u).provs = s.provs := rfl
@[simp] theorem State.updTuss_nextProv (g : Nat) (u : Tuss → Tuss) : (s.updTuss g u).nextProv = s.nextProv := rfl
@[simp] theorem State.updTuss_stallSwath (g : Nat) (u : Tuss → Tuss) : (s.updTuss g u).stallSwath = s.stallSwath := rfl
@[simp] theorem State.updTuss_areas (g : Nat) (u : Tuss → Tuss) : (s.updTuss g u).areas = s.areas := rfl
@[simp] theorem State.updTuss_prods (g : Nat) (u : Tuss → Tuss) : (s.updTuss g u).prods = s.prods := rfl
@[simp] theorem State.updTuss_genSets (g : Nat) (u : Tuss → Tuss) : (s.updTuss g u).genSets = s.genSets := rfl
@[simp] theorem State.updTuss_leas (g : Nat) (u : Tuss → Tuss) : (s.updTuss g u).leas = s.leas := rfl
@[simp] theorem State.updTuss_leaFaults (g : Nat) (u : Tuss → Tuss) : (s.updTuss g u).leaFaults = s.leaFaults := rfl
@[simp] theorem State.updTuss_chainRefs (g : Nat) (u : Tuss → Tuss) : (s.updTuss g u).chainRefs = s.chainRefs := rfl
@[simp] theorem State.updTuss_legacyRefs (g : Nat) (u : Tuss → Tuss) : (s.updTuss g u).legacyRefs = s.legacyRefs := rfl
@[simp] theorem State.updTuss_commits (g : Nat) (u : Tuss → Tuss) : (s.updTuss g u).commits = s.commits := rfl
@[simp] theorem State.updTuss_images (g : Nat) (u : Tuss → Tuss) : (s.updTuss g u).images = s.images := rfl
@[simp] theorem State.updTuss_verifs (g : Nat) (u : Tuss → Tuss) : (s.updTuss g u).verifs = s.verifs := rfl
@[simp] theorem State.updTuss_loads (g : Nat) (u : Tuss → Tuss) : (s.updTuss g u).loads = s.loads := rfl
@[simp] theorem State.updTuss_tests (g : Nat) (u : Tuss → Tuss) : (s.updTuss g u).tests = s.tests := rfl
@[simp] theorem State.updTuss_pubKeys (g : Nat) (u : Tuss → Tuss) : (s.updTuss g u).pubKeys = s.pubKeys := rfl
@[simp] theorem State.updTuss_testKey (g : Nat) (u : Tuss → Tuss) : (s.updTuss g u).testKey = s.testKey := rfl
@[simp] theorem State.updTuss_fractionOld (g : Nat) (u : Tuss → Tuss) : (s.updTuss g u).fractionOld = s.fractionOld := rfl
@[simp] theorem State.updTuss_fractionAt (g : Nat) (u : Tuss → Tuss) : (s.updTuss g u).fractionAt = s.fractionAt := rfl
@[simp] theorem State.updTuss_ctxs (g : Nat) (u : Tuss → Tuss) : (s.updTuss g u).ctxs = s.ctxs := rfl
@[simp] theorem State.updTuss_sensors (g : Nat) (u : Tuss → Tuss) : (s.updTuss g u).sensors = s.sensors := rfl
@[simp] theorem State.updTuss_heather (g : Nat) (u : Tuss → Tuss) : (s.updTuss g u).heather = s.heather := rfl
@[simp] theorem State.updTuss_entry (g : Nat) (u : Tuss → Tuss) : (s.updTuss g u).entry = s.entry := rfl
@[simp] theorem State.updTuss_waking (g : Nat) (u : Tuss → Tuss) : (s.updTuss g u).waking = s.waking := rfl
@[simp] theorem State.updTuss_slept (g : Nat) (u : Tuss → Tuss) : (s.updTuss g u).slept = s.slept := rfl
@[simp] theorem State.updTuss_quarters (g : Nat) (u : Tuss → Tuss) : (s.updTuss g u).quarters = s.quarters := rfl
@[simp] theorem State.updTuss_boot (g : Nat) (u : Tuss → Tuss) : (s.updTuss g u).boot = s.boot := rfl
@[simp] theorem State.updTuss_flash (g : Nat) (u : Tuss → Tuss) : (s.updTuss g u).flash = s.flash := rfl
@[simp] theorem State.updTuss_latent (g : Nat) (u : Tuss → Tuss) : (s.updTuss g u).latent = s.latent := rfl
@[simp] theorem State.updTuss_flits (g : Nat) (u : Tuss → Tuss) : (s.updTuss g u).flits = s.flits := rfl
@[simp] theorem State.updTuss_recs (g : Nat) (u : Tuss → Tuss) : (s.updTuss g u).recs = s.recs := rfl
@[simp] theorem State.updTuss_fresh (g : Nat) (u : Tuss → Tuss) : (s.updTuss g u).fresh = s.fresh := rfl
@[simp] theorem State.updTuss_tap (g : Nat) (u : Tuss → Tuss) : (s.updTuss g u).tap = s.tap := rfl

/-! ### `State.updArr` writes `tusss` -/

@[simp] theorem State.updArr_pending (g a : Nat) (u : Arr17 → Arr17) : (s.updArr g a u).pending = s.pending := rfl
@[simp] theorem State.updArr_free (g a : Nat) (u : Arr17 → Arr17) : (s.updArr g a u).free = s.free := rfl
@[simp] theorem State.updArr_time (g a : Nat) (u : Arr17 → Arr17) : (s.updArr g a u).time = s.time := rfl
@[simp] theorem State.updArr_regs (g a : Nat) (u : Arr17 → Arr17) : (s.updArr g a u).regs = s.regs := rfl
@[simp] theorem State.updArr_mem (g a : Nat) (u : Arr17 → Arr17) : (s.updArr g a u).mem = s.mem := rfl
@[simp] theorem State.updArr_irq (g a : Nat) (u : Arr17 → Arr17) : (s.updArr g a u).irq = s.irq := rfl
@[simp] theorem State.updArr_host (g a : Nat) (u : Arr17 → Arr17) : (s.updArr g a u).host = s.host := rfl
@[simp] theorem State.updArr_mgmt (g a : Nat) (u : Arr17 → Arr17) : (s.updArr g a u).mgmt = s.mgmt := rfl
@[simp] theorem State.updArr_out (g a : Nat) (u : Arr17 → Arr17) : (s.updArr g a u).out = s.out := rfl
@[simp] theorem State.updArr_stile (g a : Nat) (u : Arr17 → Arr17) : (s.updArr g a u).stile = s.stile := rfl
@[simp] theorem State.updArr_jobs (g a : Nat) (u : Arr17 → Arr17) : (s.updArr g a u).jobs = s.jobs := rfl
@[simp] theorem State.updArr_nextJob (g a : Nat) (u : Arr17 → Arr17) : (s.updArr g a u).nextJob = s.nextJob := rfl
@[simp] theorem State.updArr_engines (g a : Nat) (u : Arr17 → Arr17) : (s.updArr g a u).engines = s.engines := rfl
@[simp] theorem State.updArr_flight (g a : Nat) (u : Arr17 → Arr17) : (s.updArr g a u).flight = s.flight := rfl
@[simp] theorem State.updArr_t3 (g a : Nat) (u : Arr17 → Arr17) : (s.updArr g a u).t3 = s.t3 := rfl
@[simp] theorem State.updArr_chans (g a : Nat) (u : Arr17 → Arr17) : (s.updArr g a u).chans = s.chans := rfl
@[simp] theorem State.updArr_provs (g a : Nat) (u : Arr17 → Arr17) : (s.updArr g a u).provs = s.provs := rfl
@[simp] theorem State.updArr_nextProv (g a : Nat) (u : Arr17 → Arr17) : (s.updArr g a u).nextProv = s.nextProv := rfl
@[simp] theorem State.updArr_stallSwath (g a : Nat) (u : Arr17 → Arr17) : (s.updArr g a u).stallSwath = s.stallSwath := rfl
@[simp] theorem State.updArr_areas (g a : Nat) (u : Arr17 → Arr17) : (s.updArr g a u).areas = s.areas := rfl
@[simp] theorem State.updArr_prods (g a : Nat) (u : Arr17 → Arr17) : (s.updArr g a u).prods = s.prods := rfl
@[simp] theorem State.updArr_genSets (g a : Nat) (u : Arr17 → Arr17) : (s.updArr g a u).genSets = s.genSets := rfl
@[simp] theorem State.updArr_leas (g a : Nat) (u : Arr17 → Arr17) : (s.updArr g a u).leas = s.leas := rfl
@[simp] theorem State.updArr_leaFaults (g a : Nat) (u : Arr17 → Arr17) : (s.updArr g a u).leaFaults = s.leaFaults := rfl
@[simp] theorem State.updArr_chainRefs (g a : Nat) (u : Arr17 → Arr17) : (s.updArr g a u).chainRefs = s.chainRefs := rfl
@[simp] theorem State.updArr_legacyRefs (g a : Nat) (u : Arr17 → Arr17) : (s.updArr g a u).legacyRefs = s.legacyRefs := rfl
@[simp] theorem State.updArr_commits (g a : Nat) (u : Arr17 → Arr17) : (s.updArr g a u).commits = s.commits := rfl
@[simp] theorem State.updArr_images (g a : Nat) (u : Arr17 → Arr17) : (s.updArr g a u).images = s.images := rfl
@[simp] theorem State.updArr_verifs (g a : Nat) (u : Arr17 → Arr17) : (s.updArr g a u).verifs = s.verifs := rfl
@[simp] theorem State.updArr_loads (g a : Nat) (u : Arr17 → Arr17) : (s.updArr g a u).loads = s.loads := rfl
@[simp] theorem State.updArr_tests (g a : Nat) (u : Arr17 → Arr17) : (s.updArr g a u).tests = s.tests := rfl
@[simp] theorem State.updArr_pubKeys (g a : Nat) (u : Arr17 → Arr17) : (s.updArr g a u).pubKeys = s.pubKeys := rfl
@[simp] theorem State.updArr_testKey (g a : Nat) (u : Arr17 → Arr17) : (s.updArr g a u).testKey = s.testKey := rfl
@[simp] theorem State.updArr_fractionOld (g a : Nat) (u : Arr17 → Arr17) : (s.updArr g a u).fractionOld = s.fractionOld := rfl
@[simp] theorem State.updArr_fractionAt (g a : Nat) (u : Arr17 → Arr17) : (s.updArr g a u).fractionAt = s.fractionAt := rfl
@[simp] theorem State.updArr_ctxs (g a : Nat) (u : Arr17 → Arr17) : (s.updArr g a u).ctxs = s.ctxs := rfl
@[simp] theorem State.updArr_sensors (g a : Nat) (u : Arr17 → Arr17) : (s.updArr g a u).sensors = s.sensors := rfl
@[simp] theorem State.updArr_heather (g a : Nat) (u : Arr17 → Arr17) : (s.updArr g a u).heather = s.heather := rfl
@[simp] theorem State.updArr_entry (g a : Nat) (u : Arr17 → Arr17) : (s.updArr g a u).entry = s.entry := rfl
@[simp] theorem State.updArr_waking (g a : Nat) (u : Arr17 → Arr17) : (s.updArr g a u).waking = s.waking := rfl
@[simp] theorem State.updArr_slept (g a : Nat) (u : Arr17 → Arr17) : (s.updArr g a u).slept = s.slept := rfl
@[simp] theorem State.updArr_quarters (g a : Nat) (u : Arr17 → Arr17) : (s.updArr g a u).quarters = s.quarters := rfl
@[simp] theorem State.updArr_boot (g a : Nat) (u : Arr17 → Arr17) : (s.updArr g a u).boot = s.boot := rfl
@[simp] theorem State.updArr_flash (g a : Nat) (u : Arr17 → Arr17) : (s.updArr g a u).flash = s.flash := rfl
@[simp] theorem State.updArr_latent (g a : Nat) (u : Arr17 → Arr17) : (s.updArr g a u).latent = s.latent := rfl
@[simp] theorem State.updArr_flits (g a : Nat) (u : Arr17 → Arr17) : (s.updArr g a u).flits = s.flits := rfl
@[simp] theorem State.updArr_recs (g a : Nat) (u : Arr17 → Arr17) : (s.updArr g a u).recs = s.recs := rfl
@[simp] theorem State.updArr_fresh (g a : Nat) (u : Arr17 → Arr17) : (s.updArr g a u).fresh = s.fresh := rfl
@[simp] theorem State.updArr_tap (g a : Nat) (u : Arr17 → Arr17) : (s.updArr g a u).tap = s.tap := rfl

/-! ### `State.updLane` writes `tusss` -/

@[simp] theorem State.updLane_pending (g k : Nat) (u : SlotLane → SlotLane) : (s.updLane g k u).pending = s.pending := rfl
@[simp] theorem State.updLane_free (g k : Nat) (u : SlotLane → SlotLane) : (s.updLane g k u).free = s.free := rfl
@[simp] theorem State.updLane_time (g k : Nat) (u : SlotLane → SlotLane) : (s.updLane g k u).time = s.time := rfl
@[simp] theorem State.updLane_regs (g k : Nat) (u : SlotLane → SlotLane) : (s.updLane g k u).regs = s.regs := rfl
@[simp] theorem State.updLane_mem (g k : Nat) (u : SlotLane → SlotLane) : (s.updLane g k u).mem = s.mem := rfl
@[simp] theorem State.updLane_irq (g k : Nat) (u : SlotLane → SlotLane) : (s.updLane g k u).irq = s.irq := rfl
@[simp] theorem State.updLane_host (g k : Nat) (u : SlotLane → SlotLane) : (s.updLane g k u).host = s.host := rfl
@[simp] theorem State.updLane_mgmt (g k : Nat) (u : SlotLane → SlotLane) : (s.updLane g k u).mgmt = s.mgmt := rfl
@[simp] theorem State.updLane_out (g k : Nat) (u : SlotLane → SlotLane) : (s.updLane g k u).out = s.out := rfl
@[simp] theorem State.updLane_stile (g k : Nat) (u : SlotLane → SlotLane) : (s.updLane g k u).stile = s.stile := rfl
@[simp] theorem State.updLane_jobs (g k : Nat) (u : SlotLane → SlotLane) : (s.updLane g k u).jobs = s.jobs := rfl
@[simp] theorem State.updLane_nextJob (g k : Nat) (u : SlotLane → SlotLane) : (s.updLane g k u).nextJob = s.nextJob := rfl
@[simp] theorem State.updLane_engines (g k : Nat) (u : SlotLane → SlotLane) : (s.updLane g k u).engines = s.engines := rfl
@[simp] theorem State.updLane_flight (g k : Nat) (u : SlotLane → SlotLane) : (s.updLane g k u).flight = s.flight := rfl
@[simp] theorem State.updLane_t3 (g k : Nat) (u : SlotLane → SlotLane) : (s.updLane g k u).t3 = s.t3 := rfl
@[simp] theorem State.updLane_chans (g k : Nat) (u : SlotLane → SlotLane) : (s.updLane g k u).chans = s.chans := rfl
@[simp] theorem State.updLane_provs (g k : Nat) (u : SlotLane → SlotLane) : (s.updLane g k u).provs = s.provs := rfl
@[simp] theorem State.updLane_nextProv (g k : Nat) (u : SlotLane → SlotLane) : (s.updLane g k u).nextProv = s.nextProv := rfl
@[simp] theorem State.updLane_stallSwath (g k : Nat) (u : SlotLane → SlotLane) : (s.updLane g k u).stallSwath = s.stallSwath := rfl
@[simp] theorem State.updLane_areas (g k : Nat) (u : SlotLane → SlotLane) : (s.updLane g k u).areas = s.areas := rfl
@[simp] theorem State.updLane_prods (g k : Nat) (u : SlotLane → SlotLane) : (s.updLane g k u).prods = s.prods := rfl
@[simp] theorem State.updLane_genSets (g k : Nat) (u : SlotLane → SlotLane) : (s.updLane g k u).genSets = s.genSets := rfl
@[simp] theorem State.updLane_leas (g k : Nat) (u : SlotLane → SlotLane) : (s.updLane g k u).leas = s.leas := rfl
@[simp] theorem State.updLane_leaFaults (g k : Nat) (u : SlotLane → SlotLane) : (s.updLane g k u).leaFaults = s.leaFaults := rfl
@[simp] theorem State.updLane_chainRefs (g k : Nat) (u : SlotLane → SlotLane) : (s.updLane g k u).chainRefs = s.chainRefs := rfl
@[simp] theorem State.updLane_legacyRefs (g k : Nat) (u : SlotLane → SlotLane) : (s.updLane g k u).legacyRefs = s.legacyRefs := rfl
@[simp] theorem State.updLane_commits (g k : Nat) (u : SlotLane → SlotLane) : (s.updLane g k u).commits = s.commits := rfl
@[simp] theorem State.updLane_images (g k : Nat) (u : SlotLane → SlotLane) : (s.updLane g k u).images = s.images := rfl
@[simp] theorem State.updLane_verifs (g k : Nat) (u : SlotLane → SlotLane) : (s.updLane g k u).verifs = s.verifs := rfl
@[simp] theorem State.updLane_loads (g k : Nat) (u : SlotLane → SlotLane) : (s.updLane g k u).loads = s.loads := rfl
@[simp] theorem State.updLane_tests (g k : Nat) (u : SlotLane → SlotLane) : (s.updLane g k u).tests = s.tests := rfl
@[simp] theorem State.updLane_pubKeys (g k : Nat) (u : SlotLane → SlotLane) : (s.updLane g k u).pubKeys = s.pubKeys := rfl
@[simp] theorem State.updLane_testKey (g k : Nat) (u : SlotLane → SlotLane) : (s.updLane g k u).testKey = s.testKey := rfl
@[simp] theorem State.updLane_fractionOld (g k : Nat) (u : SlotLane → SlotLane) : (s.updLane g k u).fractionOld = s.fractionOld := rfl
@[simp] theorem State.updLane_fractionAt (g k : Nat) (u : SlotLane → SlotLane) : (s.updLane g k u).fractionAt = s.fractionAt := rfl
@[simp] theorem State.updLane_ctxs (g k : Nat) (u : SlotLane → SlotLane) : (s.updLane g k u).ctxs = s.ctxs := rfl
@[simp] theorem State.updLane_sensors (g k : Nat) (u : SlotLane → SlotLane) : (s.updLane g k u).sensors = s.sensors := rfl
@[simp] theorem State.updLane_heather (g k : Nat) (u : SlotLane → SlotLane) : (s.updLane g k u).heather = s.heather := rfl
@[simp] theorem State.updLane_entry (g k : Nat) (u : SlotLane → SlotLane) : (s.updLane g k u).entry = s.entry := rfl
@[simp] theorem State.updLane_waking (g k : Nat) (u : SlotLane → SlotLane) : (s.updLane g k u).waking = s.waking := rfl
@[simp] theorem State.updLane_slept (g k : Nat) (u : SlotLane → SlotLane) : (s.updLane g k u).slept = s.slept := rfl
@[simp] theorem State.updLane_quarters (g k : Nat) (u : SlotLane → SlotLane) : (s.updLane g k u).quarters = s.quarters := rfl
@[simp] theorem State.updLane_boot (g k : Nat) (u : SlotLane → SlotLane) : (s.updLane g k u).boot = s.boot := rfl
@[simp] theorem State.updLane_flash (g k : Nat) (u : SlotLane → SlotLane) : (s.updLane g k u).flash = s.flash := rfl
@[simp] theorem State.updLane_latent (g k : Nat) (u : SlotLane → SlotLane) : (s.updLane g k u).latent = s.latent := rfl
@[simp] theorem State.updLane_flits (g k : Nat) (u : SlotLane → SlotLane) : (s.updLane g k u).flits = s.flits := rfl
@[simp] theorem State.updLane_recs (g k : Nat) (u : SlotLane → SlotLane) : (s.updLane g k u).recs = s.recs := rfl
@[simp] theorem State.updLane_fresh (g k : Nat) (u : SlotLane → SlotLane) : (s.updLane g k u).fresh = s.fresh := rfl
@[simp] theorem State.updLane_tap (g k : Nat) (u : SlotLane → SlotLane) : (s.updLane g k u).tap = s.tap := rfl

/-! ### `State.updCtx` writes `ctxs` -/

@[simp] theorem State.updCtx_pending (c : Nat) (u : Ctx64 → Ctx64) : (s.updCtx c u).pending = s.pending := rfl
@[simp] theorem State.updCtx_free (c : Nat) (u : Ctx64 → Ctx64) : (s.updCtx c u).free = s.free := rfl
@[simp] theorem State.updCtx_time (c : Nat) (u : Ctx64 → Ctx64) : (s.updCtx c u).time = s.time := rfl
@[simp] theorem State.updCtx_regs (c : Nat) (u : Ctx64 → Ctx64) : (s.updCtx c u).regs = s.regs := rfl
@[simp] theorem State.updCtx_mem (c : Nat) (u : Ctx64 → Ctx64) : (s.updCtx c u).mem = s.mem := rfl
@[simp] theorem State.updCtx_irq (c : Nat) (u : Ctx64 → Ctx64) : (s.updCtx c u).irq = s.irq := rfl
@[simp] theorem State.updCtx_host (c : Nat) (u : Ctx64 → Ctx64) : (s.updCtx c u).host = s.host := rfl
@[simp] theorem State.updCtx_mgmt (c : Nat) (u : Ctx64 → Ctx64) : (s.updCtx c u).mgmt = s.mgmt := rfl
@[simp] theorem State.updCtx_out (c : Nat) (u : Ctx64 → Ctx64) : (s.updCtx c u).out = s.out := rfl
@[simp] theorem State.updCtx_stile (c : Nat) (u : Ctx64 → Ctx64) : (s.updCtx c u).stile = s.stile := rfl
@[simp] theorem State.updCtx_jobs (c : Nat) (u : Ctx64 → Ctx64) : (s.updCtx c u).jobs = s.jobs := rfl
@[simp] theorem State.updCtx_nextJob (c : Nat) (u : Ctx64 → Ctx64) : (s.updCtx c u).nextJob = s.nextJob := rfl
@[simp] theorem State.updCtx_engines (c : Nat) (u : Ctx64 → Ctx64) : (s.updCtx c u).engines = s.engines := rfl
@[simp] theorem State.updCtx_flight (c : Nat) (u : Ctx64 → Ctx64) : (s.updCtx c u).flight = s.flight := rfl
@[simp] theorem State.updCtx_t3 (c : Nat) (u : Ctx64 → Ctx64) : (s.updCtx c u).t3 = s.t3 := rfl
@[simp] theorem State.updCtx_chans (c : Nat) (u : Ctx64 → Ctx64) : (s.updCtx c u).chans = s.chans := rfl
@[simp] theorem State.updCtx_provs (c : Nat) (u : Ctx64 → Ctx64) : (s.updCtx c u).provs = s.provs := rfl
@[simp] theorem State.updCtx_nextProv (c : Nat) (u : Ctx64 → Ctx64) : (s.updCtx c u).nextProv = s.nextProv := rfl
@[simp] theorem State.updCtx_stallSwath (c : Nat) (u : Ctx64 → Ctx64) : (s.updCtx c u).stallSwath = s.stallSwath := rfl
@[simp] theorem State.updCtx_tusss (c : Nat) (u : Ctx64 → Ctx64) : (s.updCtx c u).tusss = s.tusss := rfl
@[simp] theorem State.updCtx_areas (c : Nat) (u : Ctx64 → Ctx64) : (s.updCtx c u).areas = s.areas := rfl
@[simp] theorem State.updCtx_prods (c : Nat) (u : Ctx64 → Ctx64) : (s.updCtx c u).prods = s.prods := rfl
@[simp] theorem State.updCtx_genSets (c : Nat) (u : Ctx64 → Ctx64) : (s.updCtx c u).genSets = s.genSets := rfl
@[simp] theorem State.updCtx_leas (c : Nat) (u : Ctx64 → Ctx64) : (s.updCtx c u).leas = s.leas := rfl
@[simp] theorem State.updCtx_leaFaults (c : Nat) (u : Ctx64 → Ctx64) : (s.updCtx c u).leaFaults = s.leaFaults := rfl
@[simp] theorem State.updCtx_chainRefs (c : Nat) (u : Ctx64 → Ctx64) : (s.updCtx c u).chainRefs = s.chainRefs := rfl
@[simp] theorem State.updCtx_legacyRefs (c : Nat) (u : Ctx64 → Ctx64) : (s.updCtx c u).legacyRefs = s.legacyRefs := rfl
@[simp] theorem State.updCtx_commits (c : Nat) (u : Ctx64 → Ctx64) : (s.updCtx c u).commits = s.commits := rfl
@[simp] theorem State.updCtx_images (c : Nat) (u : Ctx64 → Ctx64) : (s.updCtx c u).images = s.images := rfl
@[simp] theorem State.updCtx_verifs (c : Nat) (u : Ctx64 → Ctx64) : (s.updCtx c u).verifs = s.verifs := rfl
@[simp] theorem State.updCtx_loads (c : Nat) (u : Ctx64 → Ctx64) : (s.updCtx c u).loads = s.loads := rfl
@[simp] theorem State.updCtx_tests (c : Nat) (u : Ctx64 → Ctx64) : (s.updCtx c u).tests = s.tests := rfl
@[simp] theorem State.updCtx_pubKeys (c : Nat) (u : Ctx64 → Ctx64) : (s.updCtx c u).pubKeys = s.pubKeys := rfl
@[simp] theorem State.updCtx_testKey (c : Nat) (u : Ctx64 → Ctx64) : (s.updCtx c u).testKey = s.testKey := rfl
@[simp] theorem State.updCtx_fractionOld (c : Nat) (u : Ctx64 → Ctx64) : (s.updCtx c u).fractionOld = s.fractionOld := rfl
@[simp] theorem State.updCtx_fractionAt (c : Nat) (u : Ctx64 → Ctx64) : (s.updCtx c u).fractionAt = s.fractionAt := rfl
@[simp] theorem State.updCtx_sensors (c : Nat) (u : Ctx64 → Ctx64) : (s.updCtx c u).sensors = s.sensors := rfl
@[simp] theorem State.updCtx_heather (c : Nat) (u : Ctx64 → Ctx64) : (s.updCtx c u).heather = s.heather := rfl
@[simp] theorem State.updCtx_entry (c : Nat) (u : Ctx64 → Ctx64) : (s.updCtx c u).entry = s.entry := rfl
@[simp] theorem State.updCtx_waking (c : Nat) (u : Ctx64 → Ctx64) : (s.updCtx c u).waking = s.waking := rfl
@[simp] theorem State.updCtx_slept (c : Nat) (u : Ctx64 → Ctx64) : (s.updCtx c u).slept = s.slept := rfl
@[simp] theorem State.updCtx_quarters (c : Nat) (u : Ctx64 → Ctx64) : (s.updCtx c u).quarters = s.quarters := rfl
@[simp] theorem State.updCtx_boot (c : Nat) (u : Ctx64 → Ctx64) : (s.updCtx c u).boot = s.boot := rfl
@[simp] theorem State.updCtx_flash (c : Nat) (u : Ctx64 → Ctx64) : (s.updCtx c u).flash = s.flash := rfl
@[simp] theorem State.updCtx_latent (c : Nat) (u : Ctx64 → Ctx64) : (s.updCtx c u).latent = s.latent := rfl
@[simp] theorem State.updCtx_flits (c : Nat) (u : Ctx64 → Ctx64) : (s.updCtx c u).flits = s.flits := rfl
@[simp] theorem State.updCtx_recs (c : Nat) (u : Ctx64 → Ctx64) : (s.updCtx c u).recs = s.recs := rfl
@[simp] theorem State.updCtx_fresh (c : Nat) (u : Ctx64 → Ctx64) : (s.updCtx c u).fresh = s.fresh := rfl
@[simp] theorem State.updCtx_tap (c : Nat) (u : Ctx64 → Ctx64) : (s.updCtx c u).tap = s.tap := rfl

/-! ### `State.setChan` writes `chans` -/

@[simp] theorem State.setChan_pending (n : Nat) (x : Chan) : (s.setChan n x).pending = s.pending := rfl
@[simp] theorem State.setChan_free (n : Nat) (x : Chan) : (s.setChan n x).free = s.free := rfl
@[simp] theorem State.setChan_time (n : Nat) (x : Chan) : (s.setChan n x).time = s.time := rfl
@[simp] theorem State.setChan_regs (n : Nat) (x : Chan) : (s.setChan n x).regs = s.regs := rfl
@[simp] theorem State.setChan_mem (n : Nat) (x : Chan) : (s.setChan n x).mem = s.mem := rfl
@[simp] theorem State.setChan_irq (n : Nat) (x : Chan) : (s.setChan n x).irq = s.irq := rfl
@[simp] theorem State.setChan_host (n : Nat) (x : Chan) : (s.setChan n x).host = s.host := rfl
@[simp] theorem State.setChan_mgmt (n : Nat) (x : Chan) : (s.setChan n x).mgmt = s.mgmt := rfl
@[simp] theorem State.setChan_out (n : Nat) (x : Chan) : (s.setChan n x).out = s.out := rfl
@[simp] theorem State.setChan_stile (n : Nat) (x : Chan) : (s.setChan n x).stile = s.stile := rfl
@[simp] theorem State.setChan_jobs (n : Nat) (x : Chan) : (s.setChan n x).jobs = s.jobs := rfl
@[simp] theorem State.setChan_nextJob (n : Nat) (x : Chan) : (s.setChan n x).nextJob = s.nextJob := rfl
@[simp] theorem State.setChan_engines (n : Nat) (x : Chan) : (s.setChan n x).engines = s.engines := rfl
@[simp] theorem State.setChan_flight (n : Nat) (x : Chan) : (s.setChan n x).flight = s.flight := rfl
@[simp] theorem State.setChan_t3 (n : Nat) (x : Chan) : (s.setChan n x).t3 = s.t3 := rfl
@[simp] theorem State.setChan_provs (n : Nat) (x : Chan) : (s.setChan n x).provs = s.provs := rfl
@[simp] theorem State.setChan_nextProv (n : Nat) (x : Chan) : (s.setChan n x).nextProv = s.nextProv := rfl
@[simp] theorem State.setChan_stallSwath (n : Nat) (x : Chan) : (s.setChan n x).stallSwath = s.stallSwath := rfl
@[simp] theorem State.setChan_tusss (n : Nat) (x : Chan) : (s.setChan n x).tusss = s.tusss := rfl
@[simp] theorem State.setChan_areas (n : Nat) (x : Chan) : (s.setChan n x).areas = s.areas := rfl
@[simp] theorem State.setChan_prods (n : Nat) (x : Chan) : (s.setChan n x).prods = s.prods := rfl
@[simp] theorem State.setChan_genSets (n : Nat) (x : Chan) : (s.setChan n x).genSets = s.genSets := rfl
@[simp] theorem State.setChan_leas (n : Nat) (x : Chan) : (s.setChan n x).leas = s.leas := rfl
@[simp] theorem State.setChan_leaFaults (n : Nat) (x : Chan) : (s.setChan n x).leaFaults = s.leaFaults := rfl
@[simp] theorem State.setChan_chainRefs (n : Nat) (x : Chan) : (s.setChan n x).chainRefs = s.chainRefs := rfl
@[simp] theorem State.setChan_legacyRefs (n : Nat) (x : Chan) : (s.setChan n x).legacyRefs = s.legacyRefs := rfl
@[simp] theorem State.setChan_commits (n : Nat) (x : Chan) : (s.setChan n x).commits = s.commits := rfl
@[simp] theorem State.setChan_images (n : Nat) (x : Chan) : (s.setChan n x).images = s.images := rfl
@[simp] theorem State.setChan_verifs (n : Nat) (x : Chan) : (s.setChan n x).verifs = s.verifs := rfl
@[simp] theorem State.setChan_loads (n : Nat) (x : Chan) : (s.setChan n x).loads = s.loads := rfl
@[simp] theorem State.setChan_tests (n : Nat) (x : Chan) : (s.setChan n x).tests = s.tests := rfl
@[simp] theorem State.setChan_pubKeys (n : Nat) (x : Chan) : (s.setChan n x).pubKeys = s.pubKeys := rfl
@[simp] theorem State.setChan_testKey (n : Nat) (x : Chan) : (s.setChan n x).testKey = s.testKey := rfl
@[simp] theorem State.setChan_fractionOld (n : Nat) (x : Chan) : (s.setChan n x).fractionOld = s.fractionOld := rfl
@[simp] theorem State.setChan_fractionAt (n : Nat) (x : Chan) : (s.setChan n x).fractionAt = s.fractionAt := rfl
@[simp] theorem State.setChan_ctxs (n : Nat) (x : Chan) : (s.setChan n x).ctxs = s.ctxs := rfl
@[simp] theorem State.setChan_sensors (n : Nat) (x : Chan) : (s.setChan n x).sensors = s.sensors := rfl
@[simp] theorem State.setChan_heather (n : Nat) (x : Chan) : (s.setChan n x).heather = s.heather := rfl
@[simp] theorem State.setChan_entry (n : Nat) (x : Chan) : (s.setChan n x).entry = s.entry := rfl
@[simp] theorem State.setChan_waking (n : Nat) (x : Chan) : (s.setChan n x).waking = s.waking := rfl
@[simp] theorem State.setChan_slept (n : Nat) (x : Chan) : (s.setChan n x).slept = s.slept := rfl
@[simp] theorem State.setChan_quarters (n : Nat) (x : Chan) : (s.setChan n x).quarters = s.quarters := rfl
@[simp] theorem State.setChan_boot (n : Nat) (x : Chan) : (s.setChan n x).boot = s.boot := rfl
@[simp] theorem State.setChan_flash (n : Nat) (x : Chan) : (s.setChan n x).flash = s.flash := rfl
@[simp] theorem State.setChan_latent (n : Nat) (x : Chan) : (s.setChan n x).latent = s.latent := rfl
@[simp] theorem State.setChan_flits (n : Nat) (x : Chan) : (s.setChan n x).flits = s.flits := rfl
@[simp] theorem State.setChan_recs (n : Nat) (x : Chan) : (s.setChan n x).recs = s.recs := rfl
@[simp] theorem State.setChan_fresh (n : Nat) (x : Chan) : (s.setChan n x).fresh = s.fresh := rfl
@[simp] theorem State.setChan_tap (n : Nat) (x : Chan) : (s.setChan n x).tap = s.tap := rfl

/-! ### `State.setEngine` writes `engines` -/

@[simp] theorem State.setEngine_pending (k : Nat) (e : Engine) : (s.setEngine k e).pending = s.pending := rfl
@[simp] theorem State.setEngine_free (k : Nat) (e : Engine) : (s.setEngine k e).free = s.free := rfl
@[simp] theorem State.setEngine_time (k : Nat) (e : Engine) : (s.setEngine k e).time = s.time := rfl
@[simp] theorem State.setEngine_regs (k : Nat) (e : Engine) : (s.setEngine k e).regs = s.regs := rfl
@[simp] theorem State.setEngine_mem (k : Nat) (e : Engine) : (s.setEngine k e).mem = s.mem := rfl
@[simp] theorem State.setEngine_irq (k : Nat) (e : Engine) : (s.setEngine k e).irq = s.irq := rfl
@[simp] theorem State.setEngine_host (k : Nat) (e : Engine) : (s.setEngine k e).host = s.host := rfl
@[simp] theorem State.setEngine_mgmt (k : Nat) (e : Engine) : (s.setEngine k e).mgmt = s.mgmt := rfl
@[simp] theorem State.setEngine_out (k : Nat) (e : Engine) : (s.setEngine k e).out = s.out := rfl
@[simp] theorem State.setEngine_stile (k : Nat) (e : Engine) : (s.setEngine k e).stile = s.stile := rfl
@[simp] theorem State.setEngine_jobs (k : Nat) (e : Engine) : (s.setEngine k e).jobs = s.jobs := rfl
@[simp] theorem State.setEngine_nextJob (k : Nat) (e : Engine) : (s.setEngine k e).nextJob = s.nextJob := rfl
@[simp] theorem State.setEngine_flight (k : Nat) (e : Engine) : (s.setEngine k e).flight = s.flight := rfl
@[simp] theorem State.setEngine_t3 (k : Nat) (e : Engine) : (s.setEngine k e).t3 = s.t3 := rfl
@[simp] theorem State.setEngine_chans (k : Nat) (e : Engine) : (s.setEngine k e).chans = s.chans := rfl
@[simp] theorem State.setEngine_provs (k : Nat) (e : Engine) : (s.setEngine k e).provs = s.provs := rfl
@[simp] theorem State.setEngine_nextProv (k : Nat) (e : Engine) : (s.setEngine k e).nextProv = s.nextProv := rfl
@[simp] theorem State.setEngine_stallSwath (k : Nat) (e : Engine) : (s.setEngine k e).stallSwath = s.stallSwath := rfl
@[simp] theorem State.setEngine_tusss (k : Nat) (e : Engine) : (s.setEngine k e).tusss = s.tusss := rfl
@[simp] theorem State.setEngine_areas (k : Nat) (e : Engine) : (s.setEngine k e).areas = s.areas := rfl
@[simp] theorem State.setEngine_prods (k : Nat) (e : Engine) : (s.setEngine k e).prods = s.prods := rfl
@[simp] theorem State.setEngine_genSets (k : Nat) (e : Engine) : (s.setEngine k e).genSets = s.genSets := rfl
@[simp] theorem State.setEngine_leas (k : Nat) (e : Engine) : (s.setEngine k e).leas = s.leas := rfl
@[simp] theorem State.setEngine_leaFaults (k : Nat) (e : Engine) : (s.setEngine k e).leaFaults = s.leaFaults := rfl
@[simp] theorem State.setEngine_chainRefs (k : Nat) (e : Engine) : (s.setEngine k e).chainRefs = s.chainRefs := rfl
@[simp] theorem State.setEngine_legacyRefs (k : Nat) (e : Engine) : (s.setEngine k e).legacyRefs = s.legacyRefs := rfl
@[simp] theorem State.setEngine_commits (k : Nat) (e : Engine) : (s.setEngine k e).commits = s.commits := rfl
@[simp] theorem State.setEngine_images (k : Nat) (e : Engine) : (s.setEngine k e).images = s.images := rfl
@[simp] theorem State.setEngine_verifs (k : Nat) (e : Engine) : (s.setEngine k e).verifs = s.verifs := rfl
@[simp] theorem State.setEngine_loads (k : Nat) (e : Engine) : (s.setEngine k e).loads = s.loads := rfl
@[simp] theorem State.setEngine_tests (k : Nat) (e : Engine) : (s.setEngine k e).tests = s.tests := rfl
@[simp] theorem State.setEngine_pubKeys (k : Nat) (e : Engine) : (s.setEngine k e).pubKeys = s.pubKeys := rfl
@[simp] theorem State.setEngine_testKey (k : Nat) (e : Engine) : (s.setEngine k e).testKey = s.testKey := rfl
@[simp] theorem State.setEngine_fractionOld (k : Nat) (e : Engine) : (s.setEngine k e).fractionOld = s.fractionOld := rfl
@[simp] theorem State.setEngine_fractionAt (k : Nat) (e : Engine) : (s.setEngine k e).fractionAt = s.fractionAt := rfl
@[simp] theorem State.setEngine_ctxs (k : Nat) (e : Engine) : (s.setEngine k e).ctxs = s.ctxs := rfl
@[simp] theorem State.setEngine_sensors (k : Nat) (e : Engine) : (s.setEngine k e).sensors = s.sensors := rfl
@[simp] theorem State.setEngine_heather (k : Nat) (e : Engine) : (s.setEngine k e).heather = s.heather := rfl
@[simp] theorem State.setEngine_entry (k : Nat) (e : Engine) : (s.setEngine k e).entry = s.entry := rfl
@[simp] theorem State.setEngine_waking (k : Nat) (e : Engine) : (s.setEngine k e).waking = s.waking := rfl
@[simp] theorem State.setEngine_slept (k : Nat) (e : Engine) : (s.setEngine k e).slept = s.slept := rfl
@[simp] theorem State.setEngine_quarters (k : Nat) (e : Engine) : (s.setEngine k e).quarters = s.quarters := rfl
@[simp] theorem State.setEngine_boot (k : Nat) (e : Engine) : (s.setEngine k e).boot = s.boot := rfl
@[simp] theorem State.setEngine_flash (k : Nat) (e : Engine) : (s.setEngine k e).flash = s.flash := rfl
@[simp] theorem State.setEngine_latent (k : Nat) (e : Engine) : (s.setEngine k e).latent = s.latent := rfl
@[simp] theorem State.setEngine_flits (k : Nat) (e : Engine) : (s.setEngine k e).flits = s.flits := rfl
@[simp] theorem State.setEngine_recs (k : Nat) (e : Engine) : (s.setEngine k e).recs = s.recs := rfl
@[simp] theorem State.setEngine_fresh (k : Nat) (e : Engine) : (s.setEngine k e).fresh = s.fresh := rfl
@[simp] theorem State.setEngine_tap (k : Nat) (e : Engine) : (s.setEngine k e).tap = s.tap := rfl

/-! ### `State.updJob` writes `jobs` -/

@[simp] theorem State.updJob_pending (id : Nat) (u : Job → Job) : (s.updJob id u).pending = s.pending := rfl
@[simp] theorem State.updJob_free (id : Nat) (u : Job → Job) : (s.updJob id u).free = s.free := rfl
@[simp] theorem State.updJob_time (id : Nat) (u : Job → Job) : (s.updJob id u).time = s.time := rfl
@[simp] theorem State.updJob_regs (id : Nat) (u : Job → Job) : (s.updJob id u).regs = s.regs := rfl
@[simp] theorem State.updJob_mem (id : Nat) (u : Job → Job) : (s.updJob id u).mem = s.mem := rfl
@[simp] theorem State.updJob_irq (id : Nat) (u : Job → Job) : (s.updJob id u).irq = s.irq := rfl
@[simp] theorem State.updJob_host (id : Nat) (u : Job → Job) : (s.updJob id u).host = s.host := rfl
@[simp] theorem State.updJob_mgmt (id : Nat) (u : Job → Job) : (s.updJob id u).mgmt = s.mgmt := rfl
@[simp] theorem State.updJob_out (id : Nat) (u : Job → Job) : (s.updJob id u).out = s.out := rfl
@[simp] theorem State.updJob_stile (id : Nat) (u : Job → Job) : (s.updJob id u).stile = s.stile := rfl
@[simp] theorem State.updJob_nextJob (id : Nat) (u : Job → Job) : (s.updJob id u).nextJob = s.nextJob := rfl
@[simp] theorem State.updJob_engines (id : Nat) (u : Job → Job) : (s.updJob id u).engines = s.engines := rfl
@[simp] theorem State.updJob_flight (id : Nat) (u : Job → Job) : (s.updJob id u).flight = s.flight := rfl
@[simp] theorem State.updJob_t3 (id : Nat) (u : Job → Job) : (s.updJob id u).t3 = s.t3 := rfl
@[simp] theorem State.updJob_chans (id : Nat) (u : Job → Job) : (s.updJob id u).chans = s.chans := rfl
@[simp] theorem State.updJob_provs (id : Nat) (u : Job → Job) : (s.updJob id u).provs = s.provs := rfl
@[simp] theorem State.updJob_nextProv (id : Nat) (u : Job → Job) : (s.updJob id u).nextProv = s.nextProv := rfl
@[simp] theorem State.updJob_stallSwath (id : Nat) (u : Job → Job) : (s.updJob id u).stallSwath = s.stallSwath := rfl
@[simp] theorem State.updJob_tusss (id : Nat) (u : Job → Job) : (s.updJob id u).tusss = s.tusss := rfl
@[simp] theorem State.updJob_areas (id : Nat) (u : Job → Job) : (s.updJob id u).areas = s.areas := rfl
@[simp] theorem State.updJob_prods (id : Nat) (u : Job → Job) : (s.updJob id u).prods = s.prods := rfl
@[simp] theorem State.updJob_genSets (id : Nat) (u : Job → Job) : (s.updJob id u).genSets = s.genSets := rfl
@[simp] theorem State.updJob_leas (id : Nat) (u : Job → Job) : (s.updJob id u).leas = s.leas := rfl
@[simp] theorem State.updJob_leaFaults (id : Nat) (u : Job → Job) : (s.updJob id u).leaFaults = s.leaFaults := rfl
@[simp] theorem State.updJob_chainRefs (id : Nat) (u : Job → Job) : (s.updJob id u).chainRefs = s.chainRefs := rfl
@[simp] theorem State.updJob_legacyRefs (id : Nat) (u : Job → Job) : (s.updJob id u).legacyRefs = s.legacyRefs := rfl
@[simp] theorem State.updJob_commits (id : Nat) (u : Job → Job) : (s.updJob id u).commits = s.commits := rfl
@[simp] theorem State.updJob_images (id : Nat) (u : Job → Job) : (s.updJob id u).images = s.images := rfl
@[simp] theorem State.updJob_verifs (id : Nat) (u : Job → Job) : (s.updJob id u).verifs = s.verifs := rfl
@[simp] theorem State.updJob_loads (id : Nat) (u : Job → Job) : (s.updJob id u).loads = s.loads := rfl
@[simp] theorem State.updJob_tests (id : Nat) (u : Job → Job) : (s.updJob id u).tests = s.tests := rfl
@[simp] theorem State.updJob_pubKeys (id : Nat) (u : Job → Job) : (s.updJob id u).pubKeys = s.pubKeys := rfl
@[simp] theorem State.updJob_testKey (id : Nat) (u : Job → Job) : (s.updJob id u).testKey = s.testKey := rfl
@[simp] theorem State.updJob_fractionOld (id : Nat) (u : Job → Job) : (s.updJob id u).fractionOld = s.fractionOld := rfl
@[simp] theorem State.updJob_fractionAt (id : Nat) (u : Job → Job) : (s.updJob id u).fractionAt = s.fractionAt := rfl
@[simp] theorem State.updJob_ctxs (id : Nat) (u : Job → Job) : (s.updJob id u).ctxs = s.ctxs := rfl
@[simp] theorem State.updJob_sensors (id : Nat) (u : Job → Job) : (s.updJob id u).sensors = s.sensors := rfl
@[simp] theorem State.updJob_heather (id : Nat) (u : Job → Job) : (s.updJob id u).heather = s.heather := rfl
@[simp] theorem State.updJob_entry (id : Nat) (u : Job → Job) : (s.updJob id u).entry = s.entry := rfl
@[simp] theorem State.updJob_waking (id : Nat) (u : Job → Job) : (s.updJob id u).waking = s.waking := rfl
@[simp] theorem State.updJob_slept (id : Nat) (u : Job → Job) : (s.updJob id u).slept = s.slept := rfl
@[simp] theorem State.updJob_quarters (id : Nat) (u : Job → Job) : (s.updJob id u).quarters = s.quarters := rfl
@[simp] theorem State.updJob_boot (id : Nat) (u : Job → Job) : (s.updJob id u).boot = s.boot := rfl
@[simp] theorem State.updJob_flash (id : Nat) (u : Job → Job) : (s.updJob id u).flash = s.flash := rfl
@[simp] theorem State.updJob_latent (id : Nat) (u : Job → Job) : (s.updJob id u).latent = s.latent := rfl
@[simp] theorem State.updJob_flits (id : Nat) (u : Job → Job) : (s.updJob id u).flits = s.flits := rfl
@[simp] theorem State.updJob_recs (id : Nat) (u : Job → Job) : (s.updJob id u).recs = s.recs := rfl
@[simp] theorem State.updJob_fresh (id : Nat) (u : Job → Job) : (s.updJob id u).fresh = s.fresh := rfl
@[simp] theorem State.updJob_tap (id : Nat) (u : Job → Job) : (s.updJob id u).tap = s.tap := rfl

/-! ### `State.updLea` writes `leas` -/

@[simp] theorem State.updLea_pending (p : Nat) (u : LeaPort → LeaPort) : (s.updLea p u).pending = s.pending := rfl
@[simp] theorem State.updLea_free (p : Nat) (u : LeaPort → LeaPort) : (s.updLea p u).free = s.free := rfl
@[simp] theorem State.updLea_time (p : Nat) (u : LeaPort → LeaPort) : (s.updLea p u).time = s.time := rfl
@[simp] theorem State.updLea_regs (p : Nat) (u : LeaPort → LeaPort) : (s.updLea p u).regs = s.regs := rfl
@[simp] theorem State.updLea_mem (p : Nat) (u : LeaPort → LeaPort) : (s.updLea p u).mem = s.mem := rfl
@[simp] theorem State.updLea_irq (p : Nat) (u : LeaPort → LeaPort) : (s.updLea p u).irq = s.irq := rfl
@[simp] theorem State.updLea_host (p : Nat) (u : LeaPort → LeaPort) : (s.updLea p u).host = s.host := rfl
@[simp] theorem State.updLea_mgmt (p : Nat) (u : LeaPort → LeaPort) : (s.updLea p u).mgmt = s.mgmt := rfl
@[simp] theorem State.updLea_out (p : Nat) (u : LeaPort → LeaPort) : (s.updLea p u).out = s.out := rfl
@[simp] theorem State.updLea_stile (p : Nat) (u : LeaPort → LeaPort) : (s.updLea p u).stile = s.stile := rfl
@[simp] theorem State.updLea_jobs (p : Nat) (u : LeaPort → LeaPort) : (s.updLea p u).jobs = s.jobs := rfl
@[simp] theorem State.updLea_nextJob (p : Nat) (u : LeaPort → LeaPort) : (s.updLea p u).nextJob = s.nextJob := rfl
@[simp] theorem State.updLea_engines (p : Nat) (u : LeaPort → LeaPort) : (s.updLea p u).engines = s.engines := rfl
@[simp] theorem State.updLea_flight (p : Nat) (u : LeaPort → LeaPort) : (s.updLea p u).flight = s.flight := rfl
@[simp] theorem State.updLea_t3 (p : Nat) (u : LeaPort → LeaPort) : (s.updLea p u).t3 = s.t3 := rfl
@[simp] theorem State.updLea_chans (p : Nat) (u : LeaPort → LeaPort) : (s.updLea p u).chans = s.chans := rfl
@[simp] theorem State.updLea_provs (p : Nat) (u : LeaPort → LeaPort) : (s.updLea p u).provs = s.provs := rfl
@[simp] theorem State.updLea_nextProv (p : Nat) (u : LeaPort → LeaPort) : (s.updLea p u).nextProv = s.nextProv := rfl
@[simp] theorem State.updLea_stallSwath (p : Nat) (u : LeaPort → LeaPort) : (s.updLea p u).stallSwath = s.stallSwath := rfl
@[simp] theorem State.updLea_tusss (p : Nat) (u : LeaPort → LeaPort) : (s.updLea p u).tusss = s.tusss := rfl
@[simp] theorem State.updLea_areas (p : Nat) (u : LeaPort → LeaPort) : (s.updLea p u).areas = s.areas := rfl
@[simp] theorem State.updLea_prods (p : Nat) (u : LeaPort → LeaPort) : (s.updLea p u).prods = s.prods := rfl
@[simp] theorem State.updLea_genSets (p : Nat) (u : LeaPort → LeaPort) : (s.updLea p u).genSets = s.genSets := rfl
@[simp] theorem State.updLea_leaFaults (p : Nat) (u : LeaPort → LeaPort) : (s.updLea p u).leaFaults = s.leaFaults := rfl
@[simp] theorem State.updLea_chainRefs (p : Nat) (u : LeaPort → LeaPort) : (s.updLea p u).chainRefs = s.chainRefs := rfl
@[simp] theorem State.updLea_legacyRefs (p : Nat) (u : LeaPort → LeaPort) : (s.updLea p u).legacyRefs = s.legacyRefs := rfl
@[simp] theorem State.updLea_commits (p : Nat) (u : LeaPort → LeaPort) : (s.updLea p u).commits = s.commits := rfl
@[simp] theorem State.updLea_images (p : Nat) (u : LeaPort → LeaPort) : (s.updLea p u).images = s.images := rfl
@[simp] theorem State.updLea_verifs (p : Nat) (u : LeaPort → LeaPort) : (s.updLea p u).verifs = s.verifs := rfl
@[simp] theorem State.updLea_loads (p : Nat) (u : LeaPort → LeaPort) : (s.updLea p u).loads = s.loads := rfl
@[simp] theorem State.updLea_tests (p : Nat) (u : LeaPort → LeaPort) : (s.updLea p u).tests = s.tests := rfl
@[simp] theorem State.updLea_pubKeys (p : Nat) (u : LeaPort → LeaPort) : (s.updLea p u).pubKeys = s.pubKeys := rfl
@[simp] theorem State.updLea_testKey (p : Nat) (u : LeaPort → LeaPort) : (s.updLea p u).testKey = s.testKey := rfl
@[simp] theorem State.updLea_fractionOld (p : Nat) (u : LeaPort → LeaPort) : (s.updLea p u).fractionOld = s.fractionOld := rfl
@[simp] theorem State.updLea_fractionAt (p : Nat) (u : LeaPort → LeaPort) : (s.updLea p u).fractionAt = s.fractionAt := rfl
@[simp] theorem State.updLea_ctxs (p : Nat) (u : LeaPort → LeaPort) : (s.updLea p u).ctxs = s.ctxs := rfl
@[simp] theorem State.updLea_sensors (p : Nat) (u : LeaPort → LeaPort) : (s.updLea p u).sensors = s.sensors := rfl
@[simp] theorem State.updLea_heather (p : Nat) (u : LeaPort → LeaPort) : (s.updLea p u).heather = s.heather := rfl
@[simp] theorem State.updLea_entry (p : Nat) (u : LeaPort → LeaPort) : (s.updLea p u).entry = s.entry := rfl
@[simp] theorem State.updLea_waking (p : Nat) (u : LeaPort → LeaPort) : (s.updLea p u).waking = s.waking := rfl
@[simp] theorem State.updLea_slept (p : Nat) (u : LeaPort → LeaPort) : (s.updLea p u).slept = s.slept := rfl
@[simp] theorem State.updLea_quarters (p : Nat) (u : LeaPort → LeaPort) : (s.updLea p u).quarters = s.quarters := rfl
@[simp] theorem State.updLea_boot (p : Nat) (u : LeaPort → LeaPort) : (s.updLea p u).boot = s.boot := rfl
@[simp] theorem State.updLea_flash (p : Nat) (u : LeaPort → LeaPort) : (s.updLea p u).flash = s.flash := rfl
@[simp] theorem State.updLea_latent (p : Nat) (u : LeaPort → LeaPort) : (s.updLea p u).latent = s.latent := rfl
@[simp] theorem State.updLea_flits (p : Nat) (u : LeaPort → LeaPort) : (s.updLea p u).flits = s.flits := rfl
@[simp] theorem State.updLea_recs (p : Nat) (u : LeaPort → LeaPort) : (s.updLea p u).recs = s.recs := rfl
@[simp] theorem State.updLea_fresh (p : Nat) (u : LeaPort → LeaPort) : (s.updLea p u).fresh = s.fresh := rfl
@[simp] theorem State.updLea_tap (p : Nat) (u : LeaPort → LeaPort) : (s.updLea p u).tap = s.tap := rfl

/-! ### `State.setSensor` writes `sensors` -/

@[simp] theorem State.setSensor_pending (k : Nat) (x : Sensor) : (s.setSensor k x).pending = s.pending := rfl
@[simp] theorem State.setSensor_free (k : Nat) (x : Sensor) : (s.setSensor k x).free = s.free := rfl
@[simp] theorem State.setSensor_time (k : Nat) (x : Sensor) : (s.setSensor k x).time = s.time := rfl
@[simp] theorem State.setSensor_regs (k : Nat) (x : Sensor) : (s.setSensor k x).regs = s.regs := rfl
@[simp] theorem State.setSensor_mem (k : Nat) (x : Sensor) : (s.setSensor k x).mem = s.mem := rfl
@[simp] theorem State.setSensor_irq (k : Nat) (x : Sensor) : (s.setSensor k x).irq = s.irq := rfl
@[simp] theorem State.setSensor_host (k : Nat) (x : Sensor) : (s.setSensor k x).host = s.host := rfl
@[simp] theorem State.setSensor_mgmt (k : Nat) (x : Sensor) : (s.setSensor k x).mgmt = s.mgmt := rfl
@[simp] theorem State.setSensor_out (k : Nat) (x : Sensor) : (s.setSensor k x).out = s.out := rfl
@[simp] theorem State.setSensor_stile (k : Nat) (x : Sensor) : (s.setSensor k x).stile = s.stile := rfl
@[simp] theorem State.setSensor_jobs (k : Nat) (x : Sensor) : (s.setSensor k x).jobs = s.jobs := rfl
@[simp] theorem State.setSensor_nextJob (k : Nat) (x : Sensor) : (s.setSensor k x).nextJob = s.nextJob := rfl
@[simp] theorem State.setSensor_engines (k : Nat) (x : Sensor) : (s.setSensor k x).engines = s.engines := rfl
@[simp] theorem State.setSensor_flight (k : Nat) (x : Sensor) : (s.setSensor k x).flight = s.flight := rfl
@[simp] theorem State.setSensor_t3 (k : Nat) (x : Sensor) : (s.setSensor k x).t3 = s.t3 := rfl
@[simp] theorem State.setSensor_chans (k : Nat) (x : Sensor) : (s.setSensor k x).chans = s.chans := rfl
@[simp] theorem State.setSensor_provs (k : Nat) (x : Sensor) : (s.setSensor k x).provs = s.provs := rfl
@[simp] theorem State.setSensor_nextProv (k : Nat) (x : Sensor) : (s.setSensor k x).nextProv = s.nextProv := rfl
@[simp] theorem State.setSensor_stallSwath (k : Nat) (x : Sensor) : (s.setSensor k x).stallSwath = s.stallSwath := rfl
@[simp] theorem State.setSensor_tusss (k : Nat) (x : Sensor) : (s.setSensor k x).tusss = s.tusss := rfl
@[simp] theorem State.setSensor_areas (k : Nat) (x : Sensor) : (s.setSensor k x).areas = s.areas := rfl
@[simp] theorem State.setSensor_prods (k : Nat) (x : Sensor) : (s.setSensor k x).prods = s.prods := rfl
@[simp] theorem State.setSensor_genSets (k : Nat) (x : Sensor) : (s.setSensor k x).genSets = s.genSets := rfl
@[simp] theorem State.setSensor_leas (k : Nat) (x : Sensor) : (s.setSensor k x).leas = s.leas := rfl
@[simp] theorem State.setSensor_leaFaults (k : Nat) (x : Sensor) : (s.setSensor k x).leaFaults = s.leaFaults := rfl
@[simp] theorem State.setSensor_chainRefs (k : Nat) (x : Sensor) : (s.setSensor k x).chainRefs = s.chainRefs := rfl
@[simp] theorem State.setSensor_legacyRefs (k : Nat) (x : Sensor) : (s.setSensor k x).legacyRefs = s.legacyRefs := rfl
@[simp] theorem State.setSensor_commits (k : Nat) (x : Sensor) : (s.setSensor k x).commits = s.commits := rfl
@[simp] theorem State.setSensor_images (k : Nat) (x : Sensor) : (s.setSensor k x).images = s.images := rfl
@[simp] theorem State.setSensor_verifs (k : Nat) (x : Sensor) : (s.setSensor k x).verifs = s.verifs := rfl
@[simp] theorem State.setSensor_loads (k : Nat) (x : Sensor) : (s.setSensor k x).loads = s.loads := rfl
@[simp] theorem State.setSensor_tests (k : Nat) (x : Sensor) : (s.setSensor k x).tests = s.tests := rfl
@[simp] theorem State.setSensor_pubKeys (k : Nat) (x : Sensor) : (s.setSensor k x).pubKeys = s.pubKeys := rfl
@[simp] theorem State.setSensor_testKey (k : Nat) (x : Sensor) : (s.setSensor k x).testKey = s.testKey := rfl
@[simp] theorem State.setSensor_fractionOld (k : Nat) (x : Sensor) : (s.setSensor k x).fractionOld = s.fractionOld := rfl
@[simp] theorem State.setSensor_fractionAt (k : Nat) (x : Sensor) : (s.setSensor k x).fractionAt = s.fractionAt := rfl
@[simp] theorem State.setSensor_ctxs (k : Nat) (x : Sensor) : (s.setSensor k x).ctxs = s.ctxs := rfl
@[simp] theorem State.setSensor_heather (k : Nat) (x : Sensor) : (s.setSensor k x).heather = s.heather := rfl
@[simp] theorem State.setSensor_entry (k : Nat) (x : Sensor) : (s.setSensor k x).entry = s.entry := rfl
@[simp] theorem State.setSensor_waking (k : Nat) (x : Sensor) : (s.setSensor k x).waking = s.waking := rfl
@[simp] theorem State.setSensor_slept (k : Nat) (x : Sensor) : (s.setSensor k x).slept = s.slept := rfl
@[simp] theorem State.setSensor_quarters (k : Nat) (x : Sensor) : (s.setSensor k x).quarters = s.quarters := rfl
@[simp] theorem State.setSensor_boot (k : Nat) (x : Sensor) : (s.setSensor k x).boot = s.boot := rfl
@[simp] theorem State.setSensor_flash (k : Nat) (x : Sensor) : (s.setSensor k x).flash = s.flash := rfl
@[simp] theorem State.setSensor_latent (k : Nat) (x : Sensor) : (s.setSensor k x).latent = s.latent := rfl
@[simp] theorem State.setSensor_flits (k : Nat) (x : Sensor) : (s.setSensor k x).flits = s.flits := rfl
@[simp] theorem State.setSensor_recs (k : Nat) (x : Sensor) : (s.setSensor k x).recs = s.recs := rfl
@[simp] theorem State.setSensor_fresh (k : Nat) (x : Sensor) : (s.setSensor k x).fresh = s.fresh := rfl
@[simp] theorem State.setSensor_tap (k : Nat) (x : Sensor) : (s.setSensor k x).tap = s.tap := rfl

/-! ### `State.withAin` writes `stile` -/

@[simp] theorem State.withAin_pending (a : AinScan) : (s.withAin a).pending = s.pending := rfl
@[simp] theorem State.withAin_free (a : AinScan) : (s.withAin a).free = s.free := rfl
@[simp] theorem State.withAin_time (a : AinScan) : (s.withAin a).time = s.time := rfl
@[simp] theorem State.withAin_regs (a : AinScan) : (s.withAin a).regs = s.regs := rfl
@[simp] theorem State.withAin_mem (a : AinScan) : (s.withAin a).mem = s.mem := rfl
@[simp] theorem State.withAin_irq (a : AinScan) : (s.withAin a).irq = s.irq := rfl
@[simp] theorem State.withAin_host (a : AinScan) : (s.withAin a).host = s.host := rfl
@[simp] theorem State.withAin_mgmt (a : AinScan) : (s.withAin a).mgmt = s.mgmt := rfl
@[simp] theorem State.withAin_out (a : AinScan) : (s.withAin a).out = s.out := rfl
@[simp] theorem State.withAin_jobs (a : AinScan) : (s.withAin a).jobs = s.jobs := rfl
@[simp] theorem State.withAin_nextJob (a : AinScan) : (s.withAin a).nextJob = s.nextJob := rfl
@[simp] theorem State.withAin_engines (a : AinScan) : (s.withAin a).engines = s.engines := rfl
@[simp] theorem State.withAin_flight (a : AinScan) : (s.withAin a).flight = s.flight := rfl
@[simp] theorem State.withAin_t3 (a : AinScan) : (s.withAin a).t3 = s.t3 := rfl
@[simp] theorem State.withAin_chans (a : AinScan) : (s.withAin a).chans = s.chans := rfl
@[simp] theorem State.withAin_provs (a : AinScan) : (s.withAin a).provs = s.provs := rfl
@[simp] theorem State.withAin_nextProv (a : AinScan) : (s.withAin a).nextProv = s.nextProv := rfl
@[simp] theorem State.withAin_stallSwath (a : AinScan) : (s.withAin a).stallSwath = s.stallSwath := rfl
@[simp] theorem State.withAin_tusss (a : AinScan) : (s.withAin a).tusss = s.tusss := rfl
@[simp] theorem State.withAin_areas (a : AinScan) : (s.withAin a).areas = s.areas := rfl
@[simp] theorem State.withAin_prods (a : AinScan) : (s.withAin a).prods = s.prods := rfl
@[simp] theorem State.withAin_genSets (a : AinScan) : (s.withAin a).genSets = s.genSets := rfl
@[simp] theorem State.withAin_leas (a : AinScan) : (s.withAin a).leas = s.leas := rfl
@[simp] theorem State.withAin_leaFaults (a : AinScan) : (s.withAin a).leaFaults = s.leaFaults := rfl
@[simp] theorem State.withAin_chainRefs (a : AinScan) : (s.withAin a).chainRefs = s.chainRefs := rfl
@[simp] theorem State.withAin_legacyRefs (a : AinScan) : (s.withAin a).legacyRefs = s.legacyRefs := rfl
@[simp] theorem State.withAin_commits (a : AinScan) : (s.withAin a).commits = s.commits := rfl
@[simp] theorem State.withAin_images (a : AinScan) : (s.withAin a).images = s.images := rfl
@[simp] theorem State.withAin_verifs (a : AinScan) : (s.withAin a).verifs = s.verifs := rfl
@[simp] theorem State.withAin_loads (a : AinScan) : (s.withAin a).loads = s.loads := rfl
@[simp] theorem State.withAin_tests (a : AinScan) : (s.withAin a).tests = s.tests := rfl
@[simp] theorem State.withAin_pubKeys (a : AinScan) : (s.withAin a).pubKeys = s.pubKeys := rfl
@[simp] theorem State.withAin_testKey (a : AinScan) : (s.withAin a).testKey = s.testKey := rfl
@[simp] theorem State.withAin_fractionOld (a : AinScan) : (s.withAin a).fractionOld = s.fractionOld := rfl
@[simp] theorem State.withAin_fractionAt (a : AinScan) : (s.withAin a).fractionAt = s.fractionAt := rfl
@[simp] theorem State.withAin_ctxs (a : AinScan) : (s.withAin a).ctxs = s.ctxs := rfl
@[simp] theorem State.withAin_sensors (a : AinScan) : (s.withAin a).sensors = s.sensors := rfl
@[simp] theorem State.withAin_heather (a : AinScan) : (s.withAin a).heather = s.heather := rfl
@[simp] theorem State.withAin_entry (a : AinScan) : (s.withAin a).entry = s.entry := rfl
@[simp] theorem State.withAin_waking (a : AinScan) : (s.withAin a).waking = s.waking := rfl
@[simp] theorem State.withAin_slept (a : AinScan) : (s.withAin a).slept = s.slept := rfl
@[simp] theorem State.withAin_quarters (a : AinScan) : (s.withAin a).quarters = s.quarters := rfl
@[simp] theorem State.withAin_boot (a : AinScan) : (s.withAin a).boot = s.boot := rfl
@[simp] theorem State.withAin_flash (a : AinScan) : (s.withAin a).flash = s.flash := rfl
@[simp] theorem State.withAin_latent (a : AinScan) : (s.withAin a).latent = s.latent := rfl
@[simp] theorem State.withAin_flits (a : AinScan) : (s.withAin a).flits = s.flits := rfl
@[simp] theorem State.withAin_recs (a : AinScan) : (s.withAin a).recs = s.recs := rfl
@[simp] theorem State.withAin_fresh (a : AinScan) : (s.withAin a).fresh = s.fresh := rfl
@[simp] theorem State.withAin_tap (a : AinScan) : (s.withAin a).tap = s.tap := rfl

/-! ### `State.setAout` writes `stile` -/

@[simp] theorem State.setAout_pending (k : Nat) (o : Aout) : (s.setAout k o).pending = s.pending := rfl
@[simp] theorem State.setAout_free (k : Nat) (o : Aout) : (s.setAout k o).free = s.free := rfl
@[simp] theorem State.setAout_time (k : Nat) (o : Aout) : (s.setAout k o).time = s.time := rfl
@[simp] theorem State.setAout_regs (k : Nat) (o : Aout) : (s.setAout k o).regs = s.regs := rfl
@[simp] theorem State.setAout_mem (k : Nat) (o : Aout) : (s.setAout k o).mem = s.mem := rfl
@[simp] theorem State.setAout_irq (k : Nat) (o : Aout) : (s.setAout k o).irq = s.irq := rfl
@[simp] theorem State.setAout_host (k : Nat) (o : Aout) : (s.setAout k o).host = s.host := rfl
@[simp] theorem State.setAout_mgmt (k : Nat) (o : Aout) : (s.setAout k o).mgmt = s.mgmt := rfl
@[simp] theorem State.setAout_out (k : Nat) (o : Aout) : (s.setAout k o).out = s.out := rfl
@[simp] theorem State.setAout_jobs (k : Nat) (o : Aout) : (s.setAout k o).jobs = s.jobs := rfl
@[simp] theorem State.setAout_nextJob (k : Nat) (o : Aout) : (s.setAout k o).nextJob = s.nextJob := rfl
@[simp] theorem State.setAout_engines (k : Nat) (o : Aout) : (s.setAout k o).engines = s.engines := rfl
@[simp] theorem State.setAout_flight (k : Nat) (o : Aout) : (s.setAout k o).flight = s.flight := rfl
@[simp] theorem State.setAout_t3 (k : Nat) (o : Aout) : (s.setAout k o).t3 = s.t3 := rfl
@[simp] theorem State.setAout_chans (k : Nat) (o : Aout) : (s.setAout k o).chans = s.chans := rfl
@[simp] theorem State.setAout_provs (k : Nat) (o : Aout) : (s.setAout k o).provs = s.provs := rfl
@[simp] theorem State.setAout_nextProv (k : Nat) (o : Aout) : (s.setAout k o).nextProv = s.nextProv := rfl
@[simp] theorem State.setAout_stallSwath (k : Nat) (o : Aout) : (s.setAout k o).stallSwath = s.stallSwath := rfl
@[simp] theorem State.setAout_tusss (k : Nat) (o : Aout) : (s.setAout k o).tusss = s.tusss := rfl
@[simp] theorem State.setAout_areas (k : Nat) (o : Aout) : (s.setAout k o).areas = s.areas := rfl
@[simp] theorem State.setAout_prods (k : Nat) (o : Aout) : (s.setAout k o).prods = s.prods := rfl
@[simp] theorem State.setAout_genSets (k : Nat) (o : Aout) : (s.setAout k o).genSets = s.genSets := rfl
@[simp] theorem State.setAout_leas (k : Nat) (o : Aout) : (s.setAout k o).leas = s.leas := rfl
@[simp] theorem State.setAout_leaFaults (k : Nat) (o : Aout) : (s.setAout k o).leaFaults = s.leaFaults := rfl
@[simp] theorem State.setAout_chainRefs (k : Nat) (o : Aout) : (s.setAout k o).chainRefs = s.chainRefs := rfl
@[simp] theorem State.setAout_legacyRefs (k : Nat) (o : Aout) : (s.setAout k o).legacyRefs = s.legacyRefs := rfl
@[simp] theorem State.setAout_commits (k : Nat) (o : Aout) : (s.setAout k o).commits = s.commits := rfl
@[simp] theorem State.setAout_images (k : Nat) (o : Aout) : (s.setAout k o).images = s.images := rfl
@[simp] theorem State.setAout_verifs (k : Nat) (o : Aout) : (s.setAout k o).verifs = s.verifs := rfl
@[simp] theorem State.setAout_loads (k : Nat) (o : Aout) : (s.setAout k o).loads = s.loads := rfl
@[simp] theorem State.setAout_tests (k : Nat) (o : Aout) : (s.setAout k o).tests = s.tests := rfl
@[simp] theorem State.setAout_pubKeys (k : Nat) (o : Aout) : (s.setAout k o).pubKeys = s.pubKeys := rfl
@[simp] theorem State.setAout_testKey (k : Nat) (o : Aout) : (s.setAout k o).testKey = s.testKey := rfl
@[simp] theorem State.setAout_fractionOld (k : Nat) (o : Aout) : (s.setAout k o).fractionOld = s.fractionOld := rfl
@[simp] theorem State.setAout_fractionAt (k : Nat) (o : Aout) : (s.setAout k o).fractionAt = s.fractionAt := rfl
@[simp] theorem State.setAout_ctxs (k : Nat) (o : Aout) : (s.setAout k o).ctxs = s.ctxs := rfl
@[simp] theorem State.setAout_sensors (k : Nat) (o : Aout) : (s.setAout k o).sensors = s.sensors := rfl
@[simp] theorem State.setAout_heather (k : Nat) (o : Aout) : (s.setAout k o).heather = s.heather := rfl
@[simp] theorem State.setAout_entry (k : Nat) (o : Aout) : (s.setAout k o).entry = s.entry := rfl
@[simp] theorem State.setAout_waking (k : Nat) (o : Aout) : (s.setAout k o).waking = s.waking := rfl
@[simp] theorem State.setAout_slept (k : Nat) (o : Aout) : (s.setAout k o).slept = s.slept := rfl
@[simp] theorem State.setAout_quarters (k : Nat) (o : Aout) : (s.setAout k o).quarters = s.quarters := rfl
@[simp] theorem State.setAout_boot (k : Nat) (o : Aout) : (s.setAout k o).boot = s.boot := rfl
@[simp] theorem State.setAout_flash (k : Nat) (o : Aout) : (s.setAout k o).flash = s.flash := rfl
@[simp] theorem State.setAout_latent (k : Nat) (o : Aout) : (s.setAout k o).latent = s.latent := rfl
@[simp] theorem State.setAout_flits (k : Nat) (o : Aout) : (s.setAout k o).flits = s.flits := rfl
@[simp] theorem State.setAout_recs (k : Nat) (o : Aout) : (s.setAout k o).recs = s.recs := rfl
@[simp] theorem State.setAout_fresh (k : Nat) (o : Aout) : (s.setAout k o).fresh = s.fresh := rfl
@[simp] theorem State.setAout_tap (k : Nat) (o : Aout) : (s.setAout k o).tap = s.tap := rfl

/-! ### `State.setFin` writes `stile` -/

@[simp] theorem State.setFin_pending (i : Nat) (x : FinState) : (s.setFin i x).pending = s.pending := rfl
@[simp] theorem State.setFin_free (i : Nat) (x : FinState) : (s.setFin i x).free = s.free := rfl
@[simp] theorem State.setFin_time (i : Nat) (x : FinState) : (s.setFin i x).time = s.time := rfl
@[simp] theorem State.setFin_regs (i : Nat) (x : FinState) : (s.setFin i x).regs = s.regs := rfl
@[simp] theorem State.setFin_mem (i : Nat) (x : FinState) : (s.setFin i x).mem = s.mem := rfl
@[simp] theorem State.setFin_irq (i : Nat) (x : FinState) : (s.setFin i x).irq = s.irq := rfl
@[simp] theorem State.setFin_host (i : Nat) (x : FinState) : (s.setFin i x).host = s.host := rfl
@[simp] theorem State.setFin_mgmt (i : Nat) (x : FinState) : (s.setFin i x).mgmt = s.mgmt := rfl
@[simp] theorem State.setFin_out (i : Nat) (x : FinState) : (s.setFin i x).out = s.out := rfl
@[simp] theorem State.setFin_jobs (i : Nat) (x : FinState) : (s.setFin i x).jobs = s.jobs := rfl
@[simp] theorem State.setFin_nextJob (i : Nat) (x : FinState) : (s.setFin i x).nextJob = s.nextJob := rfl
@[simp] theorem State.setFin_engines (i : Nat) (x : FinState) : (s.setFin i x).engines = s.engines := rfl
@[simp] theorem State.setFin_flight (i : Nat) (x : FinState) : (s.setFin i x).flight = s.flight := rfl
@[simp] theorem State.setFin_t3 (i : Nat) (x : FinState) : (s.setFin i x).t3 = s.t3 := rfl
@[simp] theorem State.setFin_chans (i : Nat) (x : FinState) : (s.setFin i x).chans = s.chans := rfl
@[simp] theorem State.setFin_provs (i : Nat) (x : FinState) : (s.setFin i x).provs = s.provs := rfl
@[simp] theorem State.setFin_nextProv (i : Nat) (x : FinState) : (s.setFin i x).nextProv = s.nextProv := rfl
@[simp] theorem State.setFin_stallSwath (i : Nat) (x : FinState) : (s.setFin i x).stallSwath = s.stallSwath := rfl
@[simp] theorem State.setFin_tusss (i : Nat) (x : FinState) : (s.setFin i x).tusss = s.tusss := rfl
@[simp] theorem State.setFin_areas (i : Nat) (x : FinState) : (s.setFin i x).areas = s.areas := rfl
@[simp] theorem State.setFin_prods (i : Nat) (x : FinState) : (s.setFin i x).prods = s.prods := rfl
@[simp] theorem State.setFin_genSets (i : Nat) (x : FinState) : (s.setFin i x).genSets = s.genSets := rfl
@[simp] theorem State.setFin_leas (i : Nat) (x : FinState) : (s.setFin i x).leas = s.leas := rfl
@[simp] theorem State.setFin_leaFaults (i : Nat) (x : FinState) : (s.setFin i x).leaFaults = s.leaFaults := rfl
@[simp] theorem State.setFin_chainRefs (i : Nat) (x : FinState) : (s.setFin i x).chainRefs = s.chainRefs := rfl
@[simp] theorem State.setFin_legacyRefs (i : Nat) (x : FinState) : (s.setFin i x).legacyRefs = s.legacyRefs := rfl
@[simp] theorem State.setFin_commits (i : Nat) (x : FinState) : (s.setFin i x).commits = s.commits := rfl
@[simp] theorem State.setFin_images (i : Nat) (x : FinState) : (s.setFin i x).images = s.images := rfl
@[simp] theorem State.setFin_verifs (i : Nat) (x : FinState) : (s.setFin i x).verifs = s.verifs := rfl
@[simp] theorem State.setFin_loads (i : Nat) (x : FinState) : (s.setFin i x).loads = s.loads := rfl
@[simp] theorem State.setFin_tests (i : Nat) (x : FinState) : (s.setFin i x).tests = s.tests := rfl
@[simp] theorem State.setFin_pubKeys (i : Nat) (x : FinState) : (s.setFin i x).pubKeys = s.pubKeys := rfl
@[simp] theorem State.setFin_testKey (i : Nat) (x : FinState) : (s.setFin i x).testKey = s.testKey := rfl
@[simp] theorem State.setFin_fractionOld (i : Nat) (x : FinState) : (s.setFin i x).fractionOld = s.fractionOld := rfl
@[simp] theorem State.setFin_fractionAt (i : Nat) (x : FinState) : (s.setFin i x).fractionAt = s.fractionAt := rfl
@[simp] theorem State.setFin_ctxs (i : Nat) (x : FinState) : (s.setFin i x).ctxs = s.ctxs := rfl
@[simp] theorem State.setFin_sensors (i : Nat) (x : FinState) : (s.setFin i x).sensors = s.sensors := rfl
@[simp] theorem State.setFin_heather (i : Nat) (x : FinState) : (s.setFin i x).heather = s.heather := rfl
@[simp] theorem State.setFin_entry (i : Nat) (x : FinState) : (s.setFin i x).entry = s.entry := rfl
@[simp] theorem State.setFin_waking (i : Nat) (x : FinState) : (s.setFin i x).waking = s.waking := rfl
@[simp] theorem State.setFin_slept (i : Nat) (x : FinState) : (s.setFin i x).slept = s.slept := rfl
@[simp] theorem State.setFin_quarters (i : Nat) (x : FinState) : (s.setFin i x).quarters = s.quarters := rfl
@[simp] theorem State.setFin_boot (i : Nat) (x : FinState) : (s.setFin i x).boot = s.boot := rfl
@[simp] theorem State.setFin_flash (i : Nat) (x : FinState) : (s.setFin i x).flash = s.flash := rfl
@[simp] theorem State.setFin_latent (i : Nat) (x : FinState) : (s.setFin i x).latent = s.latent := rfl
@[simp] theorem State.setFin_flits (i : Nat) (x : FinState) : (s.setFin i x).flits = s.flits := rfl
@[simp] theorem State.setFin_recs (i : Nat) (x : FinState) : (s.setFin i x).recs = s.recs := rfl
@[simp] theorem State.setFin_fresh (i : Nat) (x : FinState) : (s.setFin i x).fresh = s.fresh := rfl
@[simp] theorem State.setFin_tap (i : Nat) (x : FinState) : (s.setFin i x).tap = s.tap := rfl

/-! ### `State.setTq` writes `stile` -/

@[simp] theorem State.setTq_pending (q : Nat) (x : Tq) : (s.setTq q x).pending = s.pending := rfl
@[simp] theorem State.setTq_free (q : Nat) (x : Tq) : (s.setTq q x).free = s.free := rfl
@[simp] theorem State.setTq_time (q : Nat) (x : Tq) : (s.setTq q x).time = s.time := rfl
@[simp] theorem State.setTq_regs (q : Nat) (x : Tq) : (s.setTq q x).regs = s.regs := rfl
@[simp] theorem State.setTq_mem (q : Nat) (x : Tq) : (s.setTq q x).mem = s.mem := rfl
@[simp] theorem State.setTq_irq (q : Nat) (x : Tq) : (s.setTq q x).irq = s.irq := rfl
@[simp] theorem State.setTq_host (q : Nat) (x : Tq) : (s.setTq q x).host = s.host := rfl
@[simp] theorem State.setTq_mgmt (q : Nat) (x : Tq) : (s.setTq q x).mgmt = s.mgmt := rfl
@[simp] theorem State.setTq_out (q : Nat) (x : Tq) : (s.setTq q x).out = s.out := rfl
@[simp] theorem State.setTq_jobs (q : Nat) (x : Tq) : (s.setTq q x).jobs = s.jobs := rfl
@[simp] theorem State.setTq_nextJob (q : Nat) (x : Tq) : (s.setTq q x).nextJob = s.nextJob := rfl
@[simp] theorem State.setTq_engines (q : Nat) (x : Tq) : (s.setTq q x).engines = s.engines := rfl
@[simp] theorem State.setTq_flight (q : Nat) (x : Tq) : (s.setTq q x).flight = s.flight := rfl
@[simp] theorem State.setTq_t3 (q : Nat) (x : Tq) : (s.setTq q x).t3 = s.t3 := rfl
@[simp] theorem State.setTq_chans (q : Nat) (x : Tq) : (s.setTq q x).chans = s.chans := rfl
@[simp] theorem State.setTq_provs (q : Nat) (x : Tq) : (s.setTq q x).provs = s.provs := rfl
@[simp] theorem State.setTq_nextProv (q : Nat) (x : Tq) : (s.setTq q x).nextProv = s.nextProv := rfl
@[simp] theorem State.setTq_stallSwath (q : Nat) (x : Tq) : (s.setTq q x).stallSwath = s.stallSwath := rfl
@[simp] theorem State.setTq_tusss (q : Nat) (x : Tq) : (s.setTq q x).tusss = s.tusss := rfl
@[simp] theorem State.setTq_areas (q : Nat) (x : Tq) : (s.setTq q x).areas = s.areas := rfl
@[simp] theorem State.setTq_prods (q : Nat) (x : Tq) : (s.setTq q x).prods = s.prods := rfl
@[simp] theorem State.setTq_genSets (q : Nat) (x : Tq) : (s.setTq q x).genSets = s.genSets := rfl
@[simp] theorem State.setTq_leas (q : Nat) (x : Tq) : (s.setTq q x).leas = s.leas := rfl
@[simp] theorem State.setTq_leaFaults (q : Nat) (x : Tq) : (s.setTq q x).leaFaults = s.leaFaults := rfl
@[simp] theorem State.setTq_chainRefs (q : Nat) (x : Tq) : (s.setTq q x).chainRefs = s.chainRefs := rfl
@[simp] theorem State.setTq_legacyRefs (q : Nat) (x : Tq) : (s.setTq q x).legacyRefs = s.legacyRefs := rfl
@[simp] theorem State.setTq_commits (q : Nat) (x : Tq) : (s.setTq q x).commits = s.commits := rfl
@[simp] theorem State.setTq_images (q : Nat) (x : Tq) : (s.setTq q x).images = s.images := rfl
@[simp] theorem State.setTq_verifs (q : Nat) (x : Tq) : (s.setTq q x).verifs = s.verifs := rfl
@[simp] theorem State.setTq_loads (q : Nat) (x : Tq) : (s.setTq q x).loads = s.loads := rfl
@[simp] theorem State.setTq_tests (q : Nat) (x : Tq) : (s.setTq q x).tests = s.tests := rfl
@[simp] theorem State.setTq_pubKeys (q : Nat) (x : Tq) : (s.setTq q x).pubKeys = s.pubKeys := rfl
@[simp] theorem State.setTq_testKey (q : Nat) (x : Tq) : (s.setTq q x).testKey = s.testKey := rfl
@[simp] theorem State.setTq_fractionOld (q : Nat) (x : Tq) : (s.setTq q x).fractionOld = s.fractionOld := rfl
@[simp] theorem State.setTq_fractionAt (q : Nat) (x : Tq) : (s.setTq q x).fractionAt = s.fractionAt := rfl
@[simp] theorem State.setTq_ctxs (q : Nat) (x : Tq) : (s.setTq q x).ctxs = s.ctxs := rfl
@[simp] theorem State.setTq_sensors (q : Nat) (x : Tq) : (s.setTq q x).sensors = s.sensors := rfl
@[simp] theorem State.setTq_heather (q : Nat) (x : Tq) : (s.setTq q x).heather = s.heather := rfl
@[simp] theorem State.setTq_entry (q : Nat) (x : Tq) : (s.setTq q x).entry = s.entry := rfl
@[simp] theorem State.setTq_waking (q : Nat) (x : Tq) : (s.setTq q x).waking = s.waking := rfl
@[simp] theorem State.setTq_slept (q : Nat) (x : Tq) : (s.setTq q x).slept = s.slept := rfl
@[simp] theorem State.setTq_quarters (q : Nat) (x : Tq) : (s.setTq q x).quarters = s.quarters := rfl
@[simp] theorem State.setTq_boot (q : Nat) (x : Tq) : (s.setTq q x).boot = s.boot := rfl
@[simp] theorem State.setTq_flash (q : Nat) (x : Tq) : (s.setTq q x).flash = s.flash := rfl
@[simp] theorem State.setTq_latent (q : Nat) (x : Tq) : (s.setTq q x).latent = s.latent := rfl
@[simp] theorem State.setTq_flits (q : Nat) (x : Tq) : (s.setTq q x).flits = s.flits := rfl
@[simp] theorem State.setTq_recs (q : Nat) (x : Tq) : (s.setTq q x).recs = s.recs := rfl
@[simp] theorem State.setTq_fresh (q : Nat) (x : Tq) : (s.setTq q x).fresh = s.fresh := rfl
@[simp] theorem State.setTq_tap (q : Nat) (x : Tq) : (s.setTq q x).tap = s.tap := rfl

/-! ### `State.setMsix` writes `irq` -/

@[simp] theorem State.setMsix_pending (v : Nat) (e : MsixEntry) : (s.setMsix v e).pending = s.pending := rfl
@[simp] theorem State.setMsix_free (v : Nat) (e : MsixEntry) : (s.setMsix v e).free = s.free := rfl
@[simp] theorem State.setMsix_time (v : Nat) (e : MsixEntry) : (s.setMsix v e).time = s.time := rfl
@[simp] theorem State.setMsix_regs (v : Nat) (e : MsixEntry) : (s.setMsix v e).regs = s.regs := rfl
@[simp] theorem State.setMsix_mem (v : Nat) (e : MsixEntry) : (s.setMsix v e).mem = s.mem := rfl
@[simp] theorem State.setMsix_host (v : Nat) (e : MsixEntry) : (s.setMsix v e).host = s.host := rfl
@[simp] theorem State.setMsix_mgmt (v : Nat) (e : MsixEntry) : (s.setMsix v e).mgmt = s.mgmt := rfl
@[simp] theorem State.setMsix_out (v : Nat) (e : MsixEntry) : (s.setMsix v e).out = s.out := rfl
@[simp] theorem State.setMsix_stile (v : Nat) (e : MsixEntry) : (s.setMsix v e).stile = s.stile := rfl
@[simp] theorem State.setMsix_jobs (v : Nat) (e : MsixEntry) : (s.setMsix v e).jobs = s.jobs := rfl
@[simp] theorem State.setMsix_nextJob (v : Nat) (e : MsixEntry) : (s.setMsix v e).nextJob = s.nextJob := rfl
@[simp] theorem State.setMsix_engines (v : Nat) (e : MsixEntry) : (s.setMsix v e).engines = s.engines := rfl
@[simp] theorem State.setMsix_flight (v : Nat) (e : MsixEntry) : (s.setMsix v e).flight = s.flight := rfl
@[simp] theorem State.setMsix_t3 (v : Nat) (e : MsixEntry) : (s.setMsix v e).t3 = s.t3 := rfl
@[simp] theorem State.setMsix_chans (v : Nat) (e : MsixEntry) : (s.setMsix v e).chans = s.chans := rfl
@[simp] theorem State.setMsix_provs (v : Nat) (e : MsixEntry) : (s.setMsix v e).provs = s.provs := rfl
@[simp] theorem State.setMsix_nextProv (v : Nat) (e : MsixEntry) : (s.setMsix v e).nextProv = s.nextProv := rfl
@[simp] theorem State.setMsix_stallSwath (v : Nat) (e : MsixEntry) : (s.setMsix v e).stallSwath = s.stallSwath := rfl
@[simp] theorem State.setMsix_tusss (v : Nat) (e : MsixEntry) : (s.setMsix v e).tusss = s.tusss := rfl
@[simp] theorem State.setMsix_areas (v : Nat) (e : MsixEntry) : (s.setMsix v e).areas = s.areas := rfl
@[simp] theorem State.setMsix_prods (v : Nat) (e : MsixEntry) : (s.setMsix v e).prods = s.prods := rfl
@[simp] theorem State.setMsix_genSets (v : Nat) (e : MsixEntry) : (s.setMsix v e).genSets = s.genSets := rfl
@[simp] theorem State.setMsix_leas (v : Nat) (e : MsixEntry) : (s.setMsix v e).leas = s.leas := rfl
@[simp] theorem State.setMsix_leaFaults (v : Nat) (e : MsixEntry) : (s.setMsix v e).leaFaults = s.leaFaults := rfl
@[simp] theorem State.setMsix_chainRefs (v : Nat) (e : MsixEntry) : (s.setMsix v e).chainRefs = s.chainRefs := rfl
@[simp] theorem State.setMsix_legacyRefs (v : Nat) (e : MsixEntry) : (s.setMsix v e).legacyRefs = s.legacyRefs := rfl
@[simp] theorem State.setMsix_commits (v : Nat) (e : MsixEntry) : (s.setMsix v e).commits = s.commits := rfl
@[simp] theorem State.setMsix_images (v : Nat) (e : MsixEntry) : (s.setMsix v e).images = s.images := rfl
@[simp] theorem State.setMsix_verifs (v : Nat) (e : MsixEntry) : (s.setMsix v e).verifs = s.verifs := rfl
@[simp] theorem State.setMsix_loads (v : Nat) (e : MsixEntry) : (s.setMsix v e).loads = s.loads := rfl
@[simp] theorem State.setMsix_tests (v : Nat) (e : MsixEntry) : (s.setMsix v e).tests = s.tests := rfl
@[simp] theorem State.setMsix_pubKeys (v : Nat) (e : MsixEntry) : (s.setMsix v e).pubKeys = s.pubKeys := rfl
@[simp] theorem State.setMsix_testKey (v : Nat) (e : MsixEntry) : (s.setMsix v e).testKey = s.testKey := rfl
@[simp] theorem State.setMsix_fractionOld (v : Nat) (e : MsixEntry) : (s.setMsix v e).fractionOld = s.fractionOld := rfl
@[simp] theorem State.setMsix_fractionAt (v : Nat) (e : MsixEntry) : (s.setMsix v e).fractionAt = s.fractionAt := rfl
@[simp] theorem State.setMsix_ctxs (v : Nat) (e : MsixEntry) : (s.setMsix v e).ctxs = s.ctxs := rfl
@[simp] theorem State.setMsix_sensors (v : Nat) (e : MsixEntry) : (s.setMsix v e).sensors = s.sensors := rfl
@[simp] theorem State.setMsix_heather (v : Nat) (e : MsixEntry) : (s.setMsix v e).heather = s.heather := rfl
@[simp] theorem State.setMsix_entry (v : Nat) (e : MsixEntry) : (s.setMsix v e).entry = s.entry := rfl
@[simp] theorem State.setMsix_waking (v : Nat) (e : MsixEntry) : (s.setMsix v e).waking = s.waking := rfl
@[simp] theorem State.setMsix_slept (v : Nat) (e : MsixEntry) : (s.setMsix v e).slept = s.slept := rfl
@[simp] theorem State.setMsix_quarters (v : Nat) (e : MsixEntry) : (s.setMsix v e).quarters = s.quarters := rfl
@[simp] theorem State.setMsix_boot (v : Nat) (e : MsixEntry) : (s.setMsix v e).boot = s.boot := rfl
@[simp] theorem State.setMsix_flash (v : Nat) (e : MsixEntry) : (s.setMsix v e).flash = s.flash := rfl
@[simp] theorem State.setMsix_latent (v : Nat) (e : MsixEntry) : (s.setMsix v e).latent = s.latent := rfl
@[simp] theorem State.setMsix_flits (v : Nat) (e : MsixEntry) : (s.setMsix v e).flits = s.flits := rfl
@[simp] theorem State.setMsix_recs (v : Nat) (e : MsixEntry) : (s.setMsix v e).recs = s.recs := rfl
@[simp] theorem State.setMsix_fresh (v : Nat) (e : MsixEntry) : (s.setMsix v e).fresh = s.fresh := rfl
@[simp] theorem State.setMsix_tap (v : Nat) (e : MsixEntry) : (s.setMsix v e).tap = s.tap := rfl

/-! ### `State.setBinding` writes `boot` -/

@[simp] theorem State.setBinding_pending (i : Nat) (b : Binding) : (s.setBinding i b).pending = s.pending := rfl
@[simp] theorem State.setBinding_free (i : Nat) (b : Binding) : (s.setBinding i b).free = s.free := rfl
@[simp] theorem State.setBinding_time (i : Nat) (b : Binding) : (s.setBinding i b).time = s.time := rfl
@[simp] theorem State.setBinding_regs (i : Nat) (b : Binding) : (s.setBinding i b).regs = s.regs := rfl
@[simp] theorem State.setBinding_mem (i : Nat) (b : Binding) : (s.setBinding i b).mem = s.mem := rfl
@[simp] theorem State.setBinding_irq (i : Nat) (b : Binding) : (s.setBinding i b).irq = s.irq := rfl
@[simp] theorem State.setBinding_host (i : Nat) (b : Binding) : (s.setBinding i b).host = s.host := rfl
@[simp] theorem State.setBinding_mgmt (i : Nat) (b : Binding) : (s.setBinding i b).mgmt = s.mgmt := rfl
@[simp] theorem State.setBinding_out (i : Nat) (b : Binding) : (s.setBinding i b).out = s.out := rfl
@[simp] theorem State.setBinding_stile (i : Nat) (b : Binding) : (s.setBinding i b).stile = s.stile := rfl
@[simp] theorem State.setBinding_jobs (i : Nat) (b : Binding) : (s.setBinding i b).jobs = s.jobs := rfl
@[simp] theorem State.setBinding_nextJob (i : Nat) (b : Binding) : (s.setBinding i b).nextJob = s.nextJob := rfl
@[simp] theorem State.setBinding_engines (i : Nat) (b : Binding) : (s.setBinding i b).engines = s.engines := rfl
@[simp] theorem State.setBinding_flight (i : Nat) (b : Binding) : (s.setBinding i b).flight = s.flight := rfl
@[simp] theorem State.setBinding_t3 (i : Nat) (b : Binding) : (s.setBinding i b).t3 = s.t3 := rfl
@[simp] theorem State.setBinding_chans (i : Nat) (b : Binding) : (s.setBinding i b).chans = s.chans := rfl
@[simp] theorem State.setBinding_provs (i : Nat) (b : Binding) : (s.setBinding i b).provs = s.provs := rfl
@[simp] theorem State.setBinding_nextProv (i : Nat) (b : Binding) : (s.setBinding i b).nextProv = s.nextProv := rfl
@[simp] theorem State.setBinding_stallSwath (i : Nat) (b : Binding) : (s.setBinding i b).stallSwath = s.stallSwath := rfl
@[simp] theorem State.setBinding_tusss (i : Nat) (b : Binding) : (s.setBinding i b).tusss = s.tusss := rfl
@[simp] theorem State.setBinding_areas (i : Nat) (b : Binding) : (s.setBinding i b).areas = s.areas := rfl
@[simp] theorem State.setBinding_prods (i : Nat) (b : Binding) : (s.setBinding i b).prods = s.prods := rfl
@[simp] theorem State.setBinding_genSets (i : Nat) (b : Binding) : (s.setBinding i b).genSets = s.genSets := rfl
@[simp] theorem State.setBinding_leas (i : Nat) (b : Binding) : (s.setBinding i b).leas = s.leas := rfl
@[simp] theorem State.setBinding_leaFaults (i : Nat) (b : Binding) : (s.setBinding i b).leaFaults = s.leaFaults := rfl
@[simp] theorem State.setBinding_chainRefs (i : Nat) (b : Binding) : (s.setBinding i b).chainRefs = s.chainRefs := rfl
@[simp] theorem State.setBinding_legacyRefs (i : Nat) (b : Binding) : (s.setBinding i b).legacyRefs = s.legacyRefs := rfl
@[simp] theorem State.setBinding_commits (i : Nat) (b : Binding) : (s.setBinding i b).commits = s.commits := rfl
@[simp] theorem State.setBinding_images (i : Nat) (b : Binding) : (s.setBinding i b).images = s.images := rfl
@[simp] theorem State.setBinding_verifs (i : Nat) (b : Binding) : (s.setBinding i b).verifs = s.verifs := rfl
@[simp] theorem State.setBinding_loads (i : Nat) (b : Binding) : (s.setBinding i b).loads = s.loads := rfl
@[simp] theorem State.setBinding_tests (i : Nat) (b : Binding) : (s.setBinding i b).tests = s.tests := rfl
@[simp] theorem State.setBinding_pubKeys (i : Nat) (b : Binding) : (s.setBinding i b).pubKeys = s.pubKeys := rfl
@[simp] theorem State.setBinding_testKey (i : Nat) (b : Binding) : (s.setBinding i b).testKey = s.testKey := rfl
@[simp] theorem State.setBinding_fractionOld (i : Nat) (b : Binding) : (s.setBinding i b).fractionOld = s.fractionOld := rfl
@[simp] theorem State.setBinding_fractionAt (i : Nat) (b : Binding) : (s.setBinding i b).fractionAt = s.fractionAt := rfl
@[simp] theorem State.setBinding_ctxs (i : Nat) (b : Binding) : (s.setBinding i b).ctxs = s.ctxs := rfl
@[simp] theorem State.setBinding_sensors (i : Nat) (b : Binding) : (s.setBinding i b).sensors = s.sensors := rfl
@[simp] theorem State.setBinding_heather (i : Nat) (b : Binding) : (s.setBinding i b).heather = s.heather := rfl
@[simp] theorem State.setBinding_entry (i : Nat) (b : Binding) : (s.setBinding i b).entry = s.entry := rfl
@[simp] theorem State.setBinding_waking (i : Nat) (b : Binding) : (s.setBinding i b).waking = s.waking := rfl
@[simp] theorem State.setBinding_slept (i : Nat) (b : Binding) : (s.setBinding i b).slept = s.slept := rfl
@[simp] theorem State.setBinding_quarters (i : Nat) (b : Binding) : (s.setBinding i b).quarters = s.quarters := rfl
@[simp] theorem State.setBinding_flash (i : Nat) (b : Binding) : (s.setBinding i b).flash = s.flash := rfl
@[simp] theorem State.setBinding_latent (i : Nat) (b : Binding) : (s.setBinding i b).latent = s.latent := rfl
@[simp] theorem State.setBinding_flits (i : Nat) (b : Binding) : (s.setBinding i b).flits = s.flits := rfl
@[simp] theorem State.setBinding_recs (i : Nat) (b : Binding) : (s.setBinding i b).recs = s.recs := rfl
@[simp] theorem State.setBinding_fresh (i : Nat) (b : Binding) : (s.setBinding i b).fresh = s.fresh := rfl
@[simp] theorem State.setBinding_tap (i : Nat) (b : Binding) : (s.setBinding i b).tap = s.tap := rfl

end Sys2Proof.Machine
end

