-- ==== Sys2Proof/Laws/Tab.lean ====
section
/-! SUPPORT. The laws of sparse tables: what a read gives after a write, an erasure or a clearing, and that each
keeps the canonical form. -/

namespace Sys2Proof.Machine

variable {α : Type}

theorem Tab.find_insert_same (t : List (Nat × α)) (a : Nat) (x : α) : Tab.find (Tab.insert t a x) a = some x := by
  induction t with
  | nil => simp [Tab.insert, Tab.find]
  | cons p t ih =>
    obtain ⟨k, v⟩ := p
    simp only [Tab.insert]
    split
    · simp [Tab.find]
    · split
      · simp [Tab.find]
      · rename_i h; simp [Tab.find, h, ih]

theorem Tab.find_insert_ne (t : List (Nat × α)) {a b : Nat} (x : α) (h : a ≠ b) :
    Tab.find (Tab.insert t a x) b = Tab.find t b := by
  induction t with
  | nil => simp [Tab.insert, Tab.find, h]
  | cons p t ih =>
    obtain ⟨k, v⟩ := p
    simp only [Tab.insert]
    split
    · simp [Tab.find, h]
    · split
      · rename_i hk; subst hk; simp [Tab.find, h]
      · simp [Tab.find, ih]

theorem Tab.find_erase_same (t : List (Nat × α)) (a : Nat) : Tab.find (Tab.erase t a) a = none := by
  induction t with
  | nil => rfl
  | cons p t ih =>
    obtain ⟨k, v⟩ := p
    simp only [Tab.erase]
    split
    · exact ih
    · rename_i h; simp [Tab.find, h, ih]

theorem Tab.find_erase_ne (t : List (Nat × α)) {a b : Nat} (h : a ≠ b) :
    Tab.find (Tab.erase t a) b = Tab.find t b := by
  induction t with
  | nil => rfl
  | cons p t ih =>
    obtain ⟨k, v⟩ := p
    simp only [Tab.erase]
    split
    · rename_i hk; subst hk; simp [Tab.find, h, ih]
    · simp [Tab.find, ih]

variable [DecidableEq α]

/-- A read of the key written gives the value written. -/
@[simp] theorem Tab.get_set_same (d : Nat → α) (t : List (Nat × α)) (a : Nat) (x : α) :
    Tab.get d (Tab.set d t a x) a = x := by
  unfold Tab.get Tab.set
  split <;> rename_i h
  · split at h
    · rw [Tab.find_erase_same] at h; cases h
    · rw [Tab.find_insert_same] at h; cases h; rfl
  · split at h
    · rename_i hx; exact hx.symm
    · rw [Tab.find_insert_same] at h; cases h

/-- A write leaves every other key alone. -/
theorem Tab.get_set_ne (d : Nat → α) (t : List (Nat × α)) {a b : Nat} (x : α) (h : a ≠ b) :
    Tab.get d (Tab.set d t a x) b = Tab.get d t b := by
  unfold Tab.get Tab.set
  split
  · rename_i hx
    split at hx
    · rw [Tab.find_erase_ne t h] at hx; rw [hx]
    · rw [Tab.find_insert_ne t x h] at hx; rw [hx]
  · rename_i hx
    split at hx
    · rw [Tab.find_erase_ne t h] at hx; rw [hx]
    · rw [Tab.find_insert_ne t x h] at hx; rw [hx]

theorem Tab.get_set (d : Nat → α) (t : List (Nat × α)) (a b : Nat) (x : α) :
    Tab.get d (Tab.set d t a x) b = if a = b then x else Tab.get d t b := by
  by_cases h : a = b
  · subst h; simp
  · simp [h, Tab.get_set_ne d t x h]

theorem Tab.wfFrom_mono (d : Nat → α) (t : List (Nat × α)) {lo lo' : Nat} (h : lo' ≤ lo)
    (hw : Tab.wfFrom d lo t = true) : Tab.wfFrom d lo' t = true := by
  cases t with
  | nil => rfl
  | cons p t =>
    obtain ⟨k, v⟩ := p
    simp only [Tab.wfFrom, Bool.and_eq_true, decide_eq_true_eq] at hw ⊢
    exact ⟨⟨by omega, hw.1.2⟩, hw.2⟩

theorem Tab.wfFrom_erase (d : Nat → α) (t : List (Nat × α)) (a lo : Nat) (hw : Tab.wfFrom d lo t = true) :
    Tab.wfFrom d lo (Tab.erase t a) = true := by
  induction t generalizing lo with
  | nil => rfl
  | cons p t ih =>
    obtain ⟨k, v⟩ := p
    simp only [Tab.wfFrom, Bool.and_eq_true, decide_eq_true_eq] at hw
    simp only [Tab.erase]
    split
    · exact Tab.wfFrom_mono d _ (by omega) (ih (k + 1) hw.2)
    · simp only [Tab.wfFrom, Bool.and_eq_true, decide_eq_true_eq]
      exact ⟨hw.1, ih (k + 1) hw.2⟩

theorem Tab.wfFrom_insert (d : Nat → α) (t : List (Nat × α)) (a lo : Nat) (x : α) (hx : x ≠ d a) (hlo : lo ≤ a)
    (hw : Tab.wfFrom d lo t = true) : Tab.wfFrom d lo (Tab.insert t a x) = true := by
  induction t generalizing lo with
  | nil => simp [Tab.insert, Tab.wfFrom, hx, hlo]
  | cons p t ih =>
    obtain ⟨k, v⟩ := p
    simp only [Tab.wfFrom, Bool.and_eq_true, decide_eq_true_eq] at hw
    simp only [Tab.insert]
    split
    · simp only [Tab.wfFrom, Bool.and_eq_true, decide_eq_true_eq]
      exact ⟨⟨hlo, hx⟩, ⟨⟨by omega, hw.1.2⟩, hw.2⟩⟩
    · split
      · rename_i hk; subst hk
        simp only [Tab.wfFrom, Bool.and_eq_true, decide_eq_true_eq]
        exact ⟨⟨hlo, hx⟩, hw.2⟩
      · simp only [Tab.wfFrom, Bool.and_eq_true, decide_eq_true_eq]
        exact ⟨hw.1, ih (k + 1) (by omega) hw.2⟩

/-- A write keeps the canonical form. -/
theorem Tab.wf_set (d : Nat → α) (t : List (Nat × α)) (a : Nat) (x : α) (hw : Tab.wf d t = true) :
    Tab.wf d (Tab.set d t a x) = true := by
  unfold Tab.set Tab.wf
  split
  · exact Tab.wfFrom_erase d t a 0 hw
  · rename_i h; exact Tab.wfFrom_insert d t a 0 x h (Nat.zero_le _) hw

/-- A write of several keys keeps the canonical form. -/
theorem Tab.wf_setList (d : Nat → α) (xs : List α) (t : List (Nat × α)) (a : Nat) (hw : Tab.wf d t = true) :
    Tab.wf d (Tab.setList d t a xs) = true := by
  induction xs generalizing t a with
  | nil => exact hw
  | cons x xs ih => exact ih _ _ (Tab.wf_set d t a x hw)

theorem Tab.wfFrom_clear (d : Nat → α) (t : List (Nat × α)) (a b lo : Nat) (hw : Tab.wfFrom d lo t = true) :
    Tab.wfFrom d lo (Tab.clear t a b) = true := by
  induction t generalizing lo with
  | nil => rfl
  | cons p t ih =>
    obtain ⟨k, v⟩ := p
    simp only [Tab.wfFrom, Bool.and_eq_true, decide_eq_true_eq] at hw
    simp only [Tab.clear]
    split
    · exact Tab.wfFrom_mono d _ (by omega) (ih (k + 1) hw.2)
    · simp only [Tab.wfFrom, Bool.and_eq_true, decide_eq_true_eq]
      exact ⟨hw.1, ih (k + 1) hw.2⟩

/-- A clearing keeps the canonical form. -/
theorem Tab.wf_clear (d : Nat → α) (t : List (Nat × α)) (a b : Nat) (hw : Tab.wf d t = true) :
    Tab.wf d (Tab.clear t a b) = true := Tab.wfFrom_clear d t a b 0 hw

omit [DecidableEq α] in
/-- A clearing returns exactly the keys of its range to the default. -/
theorem Tab.get_clear (d : Nat → α) (t : List (Nat × α)) (lo hi a : Nat) :
    Tab.get d (Tab.clear t lo hi) a = if lo ≤ a ∧ a < hi then d a else Tab.get d t a := by
  induction t with
  | nil => simp [Tab.clear, Tab.get, Tab.find]
  | cons p t ih =>
    obtain ⟨k, v⟩ := p
    simp only [Tab.clear]
    split
    · rename_i h
      rw [ih]
      split
      · rfl
      · rename_i hn
        have : k ≠ a := by rintro rfl; exact hn h
        simp [Tab.get, Tab.find, this]
    · rename_i h
      unfold Tab.get at ih ⊢
      by_cases hk : k = a
      · subst hk; simp [Tab.find, h]
      · simp only [Tab.find, hk, if_false]; exact ih

/-- A write of several keys leaves every key outside them alone. -/
theorem Tab.get_setList_out (d : Nat → α) (xs : List α) (t : List (Nat × α)) (a b : Nat)
    (h : b < a ∨ a + xs.length ≤ b) : Tab.get d (Tab.setList d t a xs) b = Tab.get d t b := by
  induction xs generalizing t a with
  | nil => rfl
  | cons x xs ih =>
    simp only [List.length_cons] at h
    rw [Tab.setList, ih _ _ (by omega), Tab.get_set_ne d t x (by omega)]

/-- A read of several keys just written gives the values written. -/
theorem Tab.getList_setList (d : Nat → α) (xs : List α) (t : List (Nat × α)) (a : Nat) :
    Tab.getList d (Tab.setList d t a xs) a xs.length = xs := by
  induction xs generalizing t a with
  | nil => rfl
  | cons x xs ih =>
    simp only [Tab.setList, List.length_cons, Tab.getList]
    rw [Tab.get_setList_out d xs _ _ a (Or.inl (Nat.lt_succ_self a)), Tab.get_set_same]
    congr 1
    exact ih _ _

end Sys2Proof.Machine
end

