-- ==== Sys2Proof/Laws/Ops.lean ====
section
/-! SUPPORT. The laws of the shared operations: what a register field reads after a write, counters, interrupts, and the
frames' composition. -/

namespace Sys2Proof.Machine
open Sys2Proof

/-! ### Register fields -/

theorem RegName.idx_inj {a b : RegName} (h : a.ctorIdx = b.ctorIdx) : a = b := by
  rw [← RegName.ofNat_ctorIdx a, ← RegName.ofNat_ctorIdx b, h]

/-- Two fields have one key exactly if they are the same field, up to the ranges of indices. -/
theorem Fld.key_iff (f g : Fld) : f.key = g.key ↔
    f.r = g.r ∧ f.i % 4096 = g.i % 4096 ∧ f.j % 64 = g.j % 64 ∧ f.lo % 64 = g.lo % 64 := by
  constructor
  · intro h
    simp only [Fld.key] at h
    refine ⟨RegName.idx_inj ?_, ?_, ?_, ?_⟩ <;> omega
  · rintro ⟨h1, h2, h3, h4⟩
    simp only [Fld.key, h1, h2, h3, h4]

/-- A field just set reads as the value, modulo its width. -/
@[simp] theorem State.get_set_same (s : State) (f : Fld) (v : Nat) : (s.set f v).get f = v % 2 ^ f.w := by
  simp [State.get, State.set]

theorem Tab.get_set_other {α : Type} [DecidableEq α] (d e : Nat → α) (t : List (Nat × α)) {a b : Nat} (x : α) (h : a ≠ b) :
    Tab.get d (Tab.set e t a x) b = Tab.get d t b := by
  have : Tab.find (Tab.set e t a x) b = Tab.find t b := by
    unfold Tab.set
    split
    · exact Tab.find_erase_ne t h
    · exact Tab.find_insert_ne t x h
  simp only [Tab.get, this]

/-- A field set leaves every field of another key alone. -/
theorem State.get_set_ne (s : State) {f g : Fld} (v : Nat) (h : f.key ≠ g.key) : (s.set f v).get g = s.get g := by
  simp only [State.get, State.set]
  exact Tab.get_set_other _ _ _ _ h

/-- The value that `inc` leaves: one more, held at the highest. -/
theorem State.inc_eq (s : State) (f : Fld) : s.inc f = s.set f (min (s.get f + 1) (2 ^ f.w - 1)) := by
  unfold State.inc
  split
  · rw [Nat.min_eq_left (by omega)]
  · rw [Nat.min_eq_right (by omega)]

/-- The value that `incBy` leaves: `n` more, held at the highest. -/
theorem State.incBy_eq (s : State) (f : Fld) (n : Nat) : s.incBy f n = s.set f (min (s.get f + n) (2 ^ f.w - 1)) := by
  unfold State.incBy
  split
  · rw [Nat.min_eq_left (by omega)]
  · rw [Nat.min_eq_right (by omega)]

theorem min_mod_top (a w : Nat) : min a (2 ^ w - 1) % 2 ^ w = min a (2 ^ w - 1) := by
  have : 0 < 2 ^ w := Nat.two_pow_pos w
  exact Nat.mod_eq_of_lt (by omega)

@[simp] theorem State.get_inc_same (s : State) (f : Fld) : (s.inc f).get f = min (s.get f + 1) (2 ^ f.w - 1) := by
  rw [State.inc_eq, State.get_set_same, min_mod_top]

@[simp] theorem State.get_incBy_same (s : State) (f : Fld) (n : Nat) :
    (s.incBy f n).get f = min (s.get f + n) (2 ^ f.w - 1) := by
  rw [State.incBy_eq, State.get_set_same, min_mod_top]

/-- An update of any other part of the state leaves every register field alone. -/
theorem State.get_congr {s t : State} (h : t.regs = s.regs) (f : Fld) : t.get f = s.get f := by simp only [State.get, h]

/-! ### Frames -/

theorem State.RegsBut.refl (s : State) (fs : List Fld) : s.RegsBut s fs := fun _ _ => rfl

theorem State.RegsBut.trans {s t u : State} {fs : List Fld} (h : s.RegsBut t fs) (k : t.RegsBut u fs) : s.RegsBut u fs :=
  fun f hf => (k f hf).trans (h f hf)

theorem State.RegsBut.mono {s t : State} {fs gs : List Fld} (h : s.RegsBut t fs) (sub : ∀ f ∈ fs, f ∈ gs) : s.RegsBut t gs :=
  fun f hf => h f (fun hm => hf (by
    obtain ⟨x, hx, e⟩ := List.mem_map.1 hm
    exact List.mem_map.2 ⟨x, sub x hx, e⟩))

theorem State.RegsBut.congr {s t : State} (fs : List Fld) (h : t.regs = s.regs) : s.RegsBut t fs :=
  fun f _ => State.get_congr h f

/-- A write of a listed field keeps the fields outside the list. -/
theorem State.RegsBut.set {s t : State} {fs : List Fld} (h : s.RegsBut t fs) {f : Fld} (v : Nat) (hf : f ∈ fs) :
    s.RegsBut (t.set f v) fs := fun x hx => by
  rw [State.get_set_ne t v (fun e => hx (List.mem_map.2 ⟨f, hf, e⟩))]
  exact h x hx

theorem State.RegsBut.inc {s t : State} {fs : List Fld} (h : s.RegsBut t fs) {f : Fld} (hf : f ∈ fs) :
    s.RegsBut (t.inc f) fs := by rw [State.inc_eq]; exact h.set _ hf

theorem State.RegsBut.incBy {s t : State} {fs : List Fld} (h : s.RegsBut t fs) {f : Fld} (n : Nat) (hf : f ∈ fs) :
    s.RegsBut (t.incBy f n) fs := by rw [State.incBy_eq]; exact h.set _ hf

theorem State.OnlyRegs.refl (s : State) (fs : List Fld) : s.OnlyRegs s fs := ⟨rfl, .refl s fs⟩

theorem State.OnlyRegs.set {s t : State} {fs : List Fld} (h : s.OnlyRegs t fs) {f : Fld} (v : Nat) (hf : f ∈ fs) :
    s.OnlyRegs (t.set f v) fs := ⟨by rw [h.1]; rfl, h.2.set v hf⟩

theorem State.OnlyRegs.inc {s t : State} {fs : List Fld} (h : s.OnlyRegs t fs) {f : Fld} (hf : f ∈ fs) :
    s.OnlyRegs (t.inc f) fs := by rw [State.inc_eq]; exact h.set _ hf

theorem State.OnlyRegs.incBy {s t : State} {fs : List Fld} (h : s.OnlyRegs t fs) {f : Fld} (n : Nat) (hf : f ∈ fs) :
    s.OnlyRegs (t.incBy f n) fs := by rw [State.incBy_eq]; exact h.set _ hf

theorem State.OnlyRegs.setIf {s t : State} {fs : List Fld} (h : s.OnlyRegs t fs) (c : Bool) {f : Fld} (v : Nat) (hf : f ∈ fs) :
    s.OnlyRegs (t.setIf c f v) fs := by unfold State.setIf; split; exacts [h.set v hf, h]

theorem State.OnlyRegs.foldl {s t : State} {fs : List Fld} {β : Type} (l : List β) (u : β → Fld) (v : β → Nat)
    (h : s.OnlyRegs t fs) (hf : ∀ x ∈ l, u x ∈ fs) : s.OnlyRegs (l.foldl (fun s x => s.set (u x) (v x)) t) fs := by
  induction l generalizing t with
  | nil => exact h
  | cons x l ih =>
    exact ih (h.set _ (hf x (List.mem_cons_self ..))) (fun y hy => hf y (List.mem_cons_of_mem _ hy))

/-! ### Tussocks -/

/-- Any change to Tussock `g`: how it reads afterwards. -/
@[simp] theorem State.tuss_updTuss (s : State) (g : Nat) (u : Tuss → Tuss) : (s.updTuss g u).tuss g = u (s.tuss g) := by
  simp [State.updTuss, State.setTuss, State.tuss]

theorem State.tuss_updTuss_ne (s : State) {g h : Nat} (u : Tuss → Tuss) (hh : h ≠ g) :
    (s.updTuss g u).tuss h = s.tuss h := by
  simp only [State.updTuss, State.setTuss, State.tuss]
  exact Tab.get_set_ne _ _ _ (Ne.symm hh)

@[simp] theorem State.tuss_setTuss (s : State) (g : Nat) (t : Tuss) : (s.setTuss g t).tuss g = t := by
  simp [State.setTuss, State.tuss]

/-- A register write leaves every Tussock's other parts alone. -/
@[simp] theorem State.tuss_set (s : State) (f : Fld) (v g : Nat) : (s.set f v).tuss g = s.tuss g := rfl

/-- A change to a Tussock leaves every register field alone. -/
@[simp] theorem State.get_updTuss (s : State) (g : Nat) (u : Tuss → Tuss) (f : Fld) : (s.updTuss g u).get f = s.get f := rfl

theorem State.OnlyRegs.onlyTuss {s t : State} {fs : List Fld} (h : s.OnlyRegs t fs) (g : Nat) : s.OnlyTuss t g fs :=
  ⟨by rw [h.1], h.2, fun k _ => by rw [h.1]; rfl⟩

theorem State.OnlyTuss.refl (s : State) (g : Nat) (fs : List Fld) : s.OnlyTuss s g fs := ⟨rfl, .refl s fs, fun _ _ => rfl⟩

theorem State.OnlyTuss.set {s t : State} {g : Nat} {fs : List Fld} (h : s.OnlyTuss t g fs) {f : Fld} (v : Nat) (hf : f ∈ fs) :
    s.OnlyTuss (t.set f v) g fs := ⟨by rw [h.1]; rfl, h.2.1.set v hf, fun k hk => (h.2.2 k hk)⟩

theorem State.OnlyTuss.inc {s t : State} {g : Nat} {fs : List Fld} (h : s.OnlyTuss t g fs) {f : Fld} (hf : f ∈ fs) :
    s.OnlyTuss (t.inc f) g fs := by rw [State.inc_eq]; exact h.set _ hf

theorem State.OnlyTuss.raise {s t : State} {g : Nat} {fs : List Fld} (h : s.OnlyTuss t g fs) {f : Fld} (v : Nat) (hf : f ∈ fs) :
    s.OnlyTuss (t.raise f v) g fs := by unfold State.raise; split; exacts [h.set v hf, h]

theorem State.OnlyTuss.setBit {s t : State} {g : Nat} {fs : List Fld} (h : s.OnlyTuss t g fs) {f : Fld} (b : Nat) (hf : f ∈ fs) :
    s.OnlyTuss (t.setBit f b) g fs := by unfold State.setBit; split; exacts [h, h.set _ hf]

theorem State.OnlyTuss.upd {s t : State} {g : Nat} {fs : List Fld} (h : s.OnlyTuss t g fs) (u : Tuss → Tuss) :
    s.OnlyTuss (t.updTuss g u) g fs :=
  ⟨by rw [h.1]; rfl, h.2.1, fun k hk => (State.tuss_updTuss_ne t u hk).trans (h.2.2 k hk)⟩

theorem State.OnlyTuss.foldl {s t : State} {g : Nat} {fs : List Fld} {β : Type} (l : List β) (u : β → Fld) (v : β → Nat)
    (h : s.OnlyTuss t g fs) (hf : ∀ x ∈ l, u x ∈ fs) : s.OnlyTuss (l.foldl (fun s x => s.set (u x) (v x)) t) g fs := by
  induction l generalizing t with
  | nil => exact h
  | cons x l ih =>
    exact ih (h.set _ (hf x (List.mem_cons_self ..))) (fun y hy => hf y (List.mem_cons_of_mem _ hy))

/-! ### Bits and interrupts -/

theorem bitOf_testBit (x k : Nat) : bitOf x k = x.testBit k := by
  rw [Nat.testBit_eq_decide_div_mod_eq]
  unfold bitOf
  rw [Bool.eq_iff_iff]
  simp

/-- A clear bit set by addition: that bit reads as set, every other as before. -/
theorem bitOf_add_pow {x b : Nat} (h : bitOf x b = false) (k : Nat) : bitOf (x + 2 ^ b) k = (bitOf x k || k == b) := by
  have hor : x + 2 ^ b = x ||| 2 ^ b := by
    have hx : x = 2 ^ (b + 1) * (x / 2 ^ (b + 1)) + x % 2 ^ (b + 1) := (Nat.div_add_mod x (2 ^ (b + 1))).symm
    have hlt : x % 2 ^ (b + 1) < 2 ^ b := by
      have h0 : x / 2 ^ b % 2 = 0 := by
        have : x / 2 ^ b % 2 ≠ 1 := by simpa [bitOf] using h
        omega
      have h1 : x % 2 ^ (b + 1) = x % 2 ^ b + 2 ^ b * (x / 2 ^ b % 2) := by rw [Nat.pow_succ, Nat.mod_mul]
      rw [h1, h0]
      simpa using Nat.mod_lt x (Nat.two_pow_pos b)
    have h2 : x % 2 ^ (b + 1) + 2 ^ b = 2 ^ b ||| (x % 2 ^ (b + 1)) := by
      rw [Nat.add_comm]
      have := Nat.two_pow_add_eq_or_of_lt hlt 1
      simpa using this
    have h3 : x % 2 ^ (b + 1) + 2 ^ b < 2 ^ (b + 1) := by have := Nat.pow_succ 2 b; omega
    apply Nat.eq_of_testBit_eq
    intro i
    conv_lhs => rw [hx, Nat.add_assoc, Nat.testBit_two_pow_mul_add _ h3]
    rw [Nat.testBit_or]
    conv_rhs => rw [hx, Nat.testBit_two_pow_mul_add _ (Nat.lt_trans hlt (Nat.pow_lt_pow_right (by omega) (Nat.lt_succ_self b)))]
    split
    · rw [h2, Nat.testBit_or, Bool.or_comm]
    · rename_i hi
      rw [Nat.testBit_two_pow_of_ne (by omega), Bool.or_false]
  rw [hor, bitOf_testBit, bitOf_testBit, Nat.testBit_or, Nat.testBit_two_pow]
  congr 1
  by_cases hk : b = k
  · simp [hk]
  · simp [hk]; omega

theorem bitOf_mod {x w k : Nat} (h : k < w) : bitOf (x % 2 ^ w) k = bitOf x k := by
  rw [bitOf_testBit, bitOf_testBit, Nat.testBit_mod_two_pow]
  simp [h]

/-- A bit of a field set: that bit reads as set, every other as before. -/
theorem State.bit_setBit (s : State) (f : Fld) (b k : Nat) (hb : k < f.w) :
    bitOf ((s.setBit f b).get f) k = (bitOf (s.get f) k || k == b) := by
  unfold State.setBit
  split
  · rename_i h
    by_cases hk : k = b
    · subst hk; simp [h]
    · simp [hk]
  · rename_i h
    rw [State.get_set_same, bitOf_mod hb, bitOf_add_pow (by simpa using h)]

theorem State.get_setBit_ne (s : State) {f g : Fld} (b : Nat) (h : f.key ≠ g.key) : (s.setBit f b).get g = s.get g := by
  unfold State.setBit; split; exacts [rfl, State.get_set_ne s _ h]

theorem State.setBit_regs_eq (s : State) (f : Fld) (b : Nat) : s.setBit f b = { s with regs := (s.setBit f b).regs } := by
  unfold State.setBit; split <;> rfl

theorem State.RegsBut.setBit {s t : State} {fs : List Fld} (h : s.RegsBut t fs) {f : Fld} (b : Nat) (hf : f ∈ fs) :
    s.RegsBut (t.setBit f b) fs := by unfold State.setBit; split; exacts [h, h.set _ hf]

/-- An event of a vector: its bit and its message, and no other vector's. -/
theorem State.signal_raised (s : State) (v : Nat) : s.Raised (s.signal v) v := by
  unfold State.Raised State.signal
  split
  · rename_i hv
    refine ⟨?_, fun b hb => ?_⟩
    · rw [State.setBit_regs_eq]
    · have e1 : ∀ (u : State) (q : Irq), ({ u with irq := q } : State).event b = u.event b := fun _ _ => rfl
      rw [e1]
      unfold State.event
      split
      · exact State.bit_setBit s F.GLB_IRQ_EVENT_LO_EVENT v b (by simpa [F.GLB_IRQ_EVENT_LO_EVENT])
      · rename_i hb2
        rw [State.get_setBit_ne s v (by decide)]
        have : (b == v) = false := by simp; omega
        simp [this]
  · rename_i hv
    refine ⟨?_, fun b hb => ?_⟩
    · rw [State.setBit_regs_eq]
    · have e1 : ∀ (u : State) (q : Irq), ({ u with irq := q } : State).event b = u.event b := fun _ _ => rfl
      rw [e1]
      unfold State.event
      split
      · rw [State.get_setBit_ne s _ (by decide)]
        have : (b == v) = false := by simp; omega
        simp [this]
      · rw [State.bit_setBit s F.GLB_IRQ_EVENT_HI_EVENT (v - 32) (b - 32) (by simp [F.GLB_IRQ_EVENT_HI_EVENT]; omega)]
        congr 1
        rw [Bool.eq_iff_iff]
        simp; omega

/-- An event of a vector changes only the event words and the interrupt state. -/
theorem State.signal_parts (s : State) (v : Nat) :
    s.signal v = { s with regs := (s.signal v).regs, irq := (s.signal v).irq } := by
  unfold State.signal
  split <;> (rw [State.setBit_regs_eq])

theorem State.RegsBut.signal {s t : State} {fs : List Fld} (h : s.RegsBut t fs) (v : Nat) (sub : ∀ f ∈ eventFlds, f ∈ fs) :
    s.RegsBut (t.signal v) fs := by
  unfold State.signal
  split
  · exact State.RegsBut.setBit h v (sub _ (by simp [eventFlds]))
  · exact State.RegsBut.setBit h (v - 32) (sub _ (by simp [eventFlds]))

end Sys2Proof.Machine
end

