-- ==== Sys2Proof/WellFormed.lean ====
section
/-! DEFINITION. Which commands are well formed: whole blocks and keys, lists that name each place once, accesses within their
window and its alignment, and codes that the row is for. The environment sends no other; `exec` is total all the same. -/

namespace Sys2Proof

/-- No key stands twice. -/
def distinct {α : Type} [DecidableEq α] (xs : List α) : Bool := decide xs.Nodup

/-- A stage of the start (R433). -/
def stageOk (n : BitVec 4) : Bool := decide (1 ≤ n.toNat) && decide (n.toNat ≤ 10)

/-- SPEED and WIDTH of a PCIe link as PCI_LINK spells them: generations 3 to 6, 1 to 16 lanes (R179). -/
def linkOk (l : BitVec 3 × BitVec 5 × Bool) : Bool :=
  decide (3 ≤ l.1.toNat) && decide (l.1.toNat ≤ 6) && [1, 2, 4, 8, 16].contains l.2.1.toNat

/-- A cache read lies within the bank's 4,096 blocks (R128). -/
def CacheRead.wf (c : CacheRead) : Bool := decide (c.block + c.count ≤ 4096) && decide (c.scaleBlock < 4096)

/-- A calibration finding names each column of an operation and each cell pair once. -/
def CalFinding.wf (f : CalFinding) : Bool :=
  f.ops.all (fun d => distinct (d.2.map Prod.fst)) && distinct (f.sensed.map fun c => (c.1, c.2.1))

/-- The well-formed commands. -/
def Instr.wf : Instr → Bool
  | .swathBoundary .. => true
  | .stileTimeReload => true
  | .taskIssue .. => true
  | .jobTimeout .. => true
  | .completionRecordWrite .. => true
  | .swathMarker .. => true
  | .markerLate .. => true
  | .tussockLockLoss .. => true
  | .tileTaskEnqueue .. => true
  | .eval .. => true
  | .phaseB .. => true
  | .shadow .. => true
  | .matmul _ _ cache _ => cache.all CacheRead.wf
  | .vector _ _ cache _ => cache.all CacheRead.wf
  | .conversion _ _ dev => distinct (dev.map Prod.fst)
  | .lookup _ _ ecc => distinct (ecc.map Prod.fst)
  | .tableEccWriteback .. => true
  | .partialSumDelivery .. => true
  | .recomputeRerun .. => true
  | .restoreSlot _ _ _ _ sensed => distinct (sensed.map Prod.fst)
  | .rowWrite _ _ _ fails => distinct (fails.map Prod.fst)
  | .checkSlot .. => true
  | .checkComparison .. => true
  | .arbitrationStart .. => true
  | .arbitrationDecide .. => true
  | .checksumRefreshEnd .. => true
  | .repairWritesPlace .. => true
  | .repairRerun _ dev => dev.all fun d => distinct (d.2.map Prod.fst)
  | .tileReprogramming .. => true
  | .tokenDecision .. => true
  | .provEntryTimeout .. => true
  | .digestSend .. => true
  | .replicaDecision .. => true
  | .readmit .. => true
  | .testVector _ _ _ dev => distinct (dev.map Prod.fst)
  | .fractionWrite .. => true
  | .fractionChangeEffect => true
  | .horizonWrite .. => true
  | .grsClrCnt => true
  | .grsClrPeak => true
  | .slotExchange .. => true
  | .quarantine .. => true
  | .tskQuarantineWrite .. => true
  | .tskReenable .. => true
  | .reenableService .. => true
  | .tskClrSeq .. => true
  | .bankClrEcc .. => true
  | .arrClrCnt .. => true
  | .convCfgWrite .. => true
  | .convClrSat .. => true
  | .tableClrEcc .. => true
  | .passStart .. => true
  | .windowStage _ f => f.wf
  | .windowEnd .. => true
  | .abandonReturnValid .. => true
  | .refgenApply .. => true
  | .bringupCalibration _ fs => distinct (fs.map Prod.fst) && fs.all fun p => p.2.all CalFinding.wf
  | .brkStartPass .. => true
  | .brkAbort .. => true
  | .brkClrCnt .. => true
  | .trimDataRead .. => true
  | .trimDataWrite .. => true
  | .blockArrive _ _ _ a data _ _ _ _ _ => data.length == 256 && a.toNat % 256 == 0
  | .pcieInboundWrite off bytes _ => decide (0 < bytes.length) && decide (bytes.length ≤ 4096) && decide (off.toNat + bytes.length ≤ 2 ^ 38)
  | .pcieInboundRead off len _ => decide (0 < len.toNat) && decide (len.toNat ≤ 4096) && decide (off.toNat + len.toNat ≤ 2 ^ 38)
  | .t3ReadCompletion data _ _ _ _ => data.length == 256
  | .rgnFaultClear => true
  | .bar2BaseWrite .. => true
  | .t3LateClr => true
  | .hdgErrClr .. => true
  | .stkErrClr .. => true
  | .ingressStall => true
  | .ingStallClr => true
  | .admClrCnt .. => true
  | .admClrPeak .. => true
  | .job .. => true
  | .nop .. => true
  | .tasks .. => true
  | .copy .. => true
  | .awrite .. => true
  | .loadpkg _ _ ecc => distinct (ecc.map Prod.fst)
  | .ctxptr .. => true
  | .testpat _ _ ecc => distinct (ecc.map Prod.fst)
  | .digest .. => true
  | .engCfgWrite .. => true
  | .engEnable .. => true
  | .engDisable .. => true
  | .msixMessage .. => true
  | .msixUnmask .. => true
  | .k1Run .. => true
  | .k1Copy .. => true
  | .k1Load .. => true
  | .k1Fence .. => true
  | .k1FenceClear .. => true
  | .k1Intr .. => true
  | .k1Nop .. => true
  | .signatureVerify => true
  | .manifestWrite .. => true
  | .contextChangeEffect .. => true
  | .replacingEnd .. => true
  | .oldBusyClear .. => true
  | .unloadEmpty .. => true
  | .ctxEventsClr .. => true
  | .ldClr .. => true
  | .distStatClr => true
  | .leaEnable .. => true
  | .leaDisable .. => true
  | .leaRetrain .. => true
  | .leaTrainDone .. => true
  | .leaAlignDone .. => true
  | .leaAttemptFail .. => true
  | .leaTrainFrame .. => true
  | .leaLockLoss .. => true
  | .leaBreakEnd .. => true
  | .leaFrameSlot .. => true
  | .leaDataFrame _ _ _ _ _ _ data _ _ _ => data.length == 256
  | .leaIdleFrame .. => true
  | .leaBadFrame .. => true
  | .leaNak .. => true
  | .leaReplayTimeout .. => true
  | .retryExhausted .. => true
  | .creditStall .. => true
  | .confirm .. => true
  | .retract .. => true
  | .committed .. => true
  | .digestMessage _ _ _ body => body.length == 76
  | .addrFault .. => true
  | .leaPortStatClr .. => true
  | .leaCtrlStatClr => true
  | .finEdge _ _ samples => samples != 0
  | .finStuck .. => true
  | .finStuckEnd .. => true
  | .encTransition _ _ _ samples => samples != 0
  | .encPosWrite .. => true
  | .tqPop .. => true
  | .tqFlush .. => true
  | .tqWatermarkWrite .. => true
  | .tqCopyMismatch .. => true
  | .finStatClr .. => true
  | .encClr .. => true
  | .tqCntClr .. => true
  | .ainModeWrite .. => true
  | .ainConfigWrite .. => true
  | .ainStart => true
  | .ainInjGo => true
  | .ainCalZero .. => true
  | .ainCalGain .. => true
  | .ainPaceTimer => true
  | .adcStartupEnd .. => true
  | .adcConversionEnd .. => true
  | .ainResRead .. => true
  | .ainInjResRead .. => true
  | .ainCntClr => true
  | .aoutStagedWrite .. => true
  | .aoutUpdate .. => true
  | .aoutWrapUpdate .. => true
  | .aoutSync .. => true
  | .aoutForceSafe .. => true
  | .aoutRelease .. => true
  | .aoutPhaseEvent .. => true
  | .aoutCompliance .. => true
  | .dacLockLoss => true
  | .dacRelock => true
  | .stileLinkLoss => true
  | .stileLinkRestore => true
  | .sensorConversion xs => distinct (xs.map Prod.fst)
  | .sensorTimeout .. => true
  | .powerMeasurement .. => true
  | .thmForceTrip => true
  | .restartGate xs => distinct (xs.map Prod.fst)
  | .restartRecheck xs hang _ => distinct (xs.map Prod.fst) && hang.all stageOk
  | .deepSleepSensorRead xs => distinct (xs.map Prod.fst)
  | .powerRequest .. => true
  | .blockAgree .. => true
  | .blockRefuse .. => true
  | .delayExpired .. => true
  | .wakeNLow => true
  | .hostWake => true
  | .wakeTimer => true
  | .quarterBringup .. => true
  | .quarterOff .. => true
  | .quarterOn .. => true
  | .quarterSwitchDone .. => true
  | .pwrClrCnt => true
  | .standbyRailUp => true
  | .standbyRailLoss => true
  | .mainEnable => true
  | .mainGoodTimeout => true
  | .mainGoodFall => true
  | .rstNLow => true
  | .start _ ident link hang _ => ident.all (fun k => k.length == 1312) && link.all linkOk && hang.all stageOk
  | .startWatchdog => true
  | .perst link => link.all linkOk
  | .standingTriggerEvent .. => true
  | .standingTimer .. => true
  | .standingOutputAction => true
  | .pulseEnd .. => true
  | .spClr => true
  | .drain .. => true
  | .reopen .. => true
  | .drained .. => true
  | .reinit .. => true
  | .reinitDone .. => true
  | .stackFail .. => true
  | .fwSwitch => true
  | .fwSwitchDone => true
  | .fwSwitchTimeout .. => true
  | .bootFallow => true
  | .mboxRead .. => true
  | .erase .. => true
  | .program .. => true
  | .verifySlot .. => true
  | .verifyBank .. => true
  | .reboot => true
  | .mboxFallow => true
  | .mboxReserved cmd => cmd == 0 || decide (7 < cmd.toNat)
  | .bootMboxDone => true
  | .getId => true
  | .attest => true
  | .attestSnapshot => true
  | .getCert => true
  | .enroll .. => true
  | .secReserved cmd => cmd == 0 || decide (4 < cmd.toNat)
  | .secMboxDone => true
  | .secClrCnt => true
  | .read64Low _ off => off.toNat % 8 == 0
  | .read64High _ off => off.toNat % 8 == 4
  | .write64Low _ off _ => off.toNat % 8 == 0
  | .write64High _ off _ => off.toNat % 8 == 4
  | .bar0BadAccess .. => true
  | .registerWrite _ off data => off.toNat % 4 == 0 && decide (0 < data.length) && decide (data.length ≤ 64)
  | .pinFunctionWrite .. => true
  | .extest .. => true
  | .idcode => true
  | .samplePreload .. => true
  | .clamp .. => true
  | .highz .. => true
  | .extestPulse .. => true
  | .extestTrain .. => true
  | .bypass .. => true
  | .tussockPllLock .. => true
  | .tableInitDone .. => true
  | .stateRunAfterWake .. => true
  | .k1Reserved .. => true
  | .reservedCtrlMessage .. => true

end Sys2Proof
end

