-- ==== Sys2Proof/Tests/Slice0.lean ====
section
/-! SUPPORT. The author's own tests: ill-formed commands that the checks turn away, a state and operands that meet the hypotheses
of each statement (`witness_<statement>`, one fact per clause), and small results worked out by hand from the spec.
A clause whose hypotheses rest on a constant of Config without a body (the parameters of a vector operation), or on a signature
that verifies (a computation too long for a test), is shown without these; its witness shows the other hypotheses. -/

namespace Sys2Proof.Tests
open Sys2Proof Sys2Proof.Machine
set_option Elab.async false

/-- A state with register fields set. -/
def withs (s : State) (fs : List (Fld × Nat)) : State := fs.foldl (fun s p => s.set p.1 p.2) s

/-- Every domain on, ready and in Run. -/
def live : State :=
  withs { State.reset with heather := { phase := .on, mainEn := true, mainGood := true, mayRise := false } }
    [(F.PWR_DOMAIN_QUARTER, 0xFFFF), (F.PWR_DOMAIN_CORE, 15), (F.PWR_DOMAIN_STACK, 15), (F.PWR_DOMAIN_PCIE, 1),
     (F.PWR_DOMAIN_LEA, 1), (F.PWR_DOMAIN_STILE, 1), (F.BOOT_STATUS_READY, 1)]

/-- `live` with fields set. -/
def liveW (fs : List (Fld × Nat)) : State := withs live fs

/-- `live` with fields set and Tussock `g` replaced. -/
def liveT (g : Nat) (t : Tuss) (fs : List (Fld × Nat)) : State := (liveW fs).setTuss g t

/-- A finding of a calibration that changes nothing. -/
def noFinding : CalFinding := ⟨[], [], []⟩

/-! ### Ill-formed commands -/

theorem test_wf_refuses_lists_that_name_a_place_twice :
    Instr.wf (.conversion 0 0 [(3, 1), (3, 2)]) = false ∧ Instr.wf (.lookup 0 0 [(1, .ce), (1, .ue)]) = false ∧
    Instr.wf (.restoreSlot 0 0 0 false [(4, 1, 1), (4, 2, 2)]) = false ∧
    Instr.wf (.rowWrite 0 0 9 [(4, 1, 1), (4, 2, 2)]) = false ∧ Instr.wf (.repairRerun 0 [(20, [(5, 1), (5, 1)])]) = false ∧
    Instr.wf (.testVector 1 1 0 [(5, 1), (5, 1)]) = false ∧ Instr.wf (.loadpkg 1 1 [(2, .ce), (2, .ce)]) = false ∧
    Instr.wf (.testpat 1 1 [(2, .ce), (2, .ce)]) = false ∧ Instr.wf (.sensorConversion [(7, 1, 0), (7, 2, 0)]) = false ∧
    Instr.wf (.restartGate [(1, 0), (1, 0)]) = false ∧ Instr.wf (.deepSleepSensorRead [(1, 0), (1, 0)]) = false ∧
    Instr.wf (.restartRecheck [(1, 0), (1, 0)] none 0) = false := by decide +kernel

theorem test_wf_refuses_findings_that_name_a_place_twice :
    Instr.wf (.windowStage 0 { noFinding with ops := [(20, [(1, 5), (2, 5)]), (21, [(259, 0), (259, 0)])] }) = false ∧
    Instr.wf (.windowStage 0 { noFinding with sensed := [(7, 3, 1, 2), (7, 3, 4, 2)] }) = false ∧
    Instr.wf (.bringupCalibration 0 [(1, [noFinding]), (1, [noFinding])]) = false ∧
    Instr.wf (.bringupCalibration 0 [(1, [noFinding, { noFinding with ops := [(0, [(4, 0), (4, 1)])] }])]) = false ∧
    Instr.wf (.windowStage 0 { noFinding with drivers := [(1, 2, 3)], sensed := [(7, 3, 1, 2), (7, 4, 1, 2)] }) = true := by decide +kernel

theorem test_wf_refuses_sizes :
    Instr.wf (.matmul 0 [] (some ⟨4095, 2, 0, 0, false, 0⟩) false) = false ∧
    Instr.wf (.vector 0 [] (some ⟨0, 1, 4096, 0, false, 0⟩) false) = false ∧
    Instr.wf (.blockArrive 0 1 1 0 [] 0 0 0 .ok none) = false ∧
    Instr.wf (.blockArrive 0 1 1 8 (List.replicate 256 0) 0 0 0 .ok none) = false ∧
    Instr.wf (.pcieInboundWrite 0 [] []) = false ∧ Instr.wf (.pcieInboundRead 0 0 []) = false ∧
    Instr.wf (.pcieInboundRead 0 4097 []) = false ∧ Instr.wf (.pcieInboundWrite 0x3FFFFFFFFF [0, 0] []) = false ∧
    Instr.wf (.pcieInboundRead 0x3FFFFFFFFF 2 []) = false ∧ Instr.wf (.t3ReadCompletion [] 0 0 0 .ok) = false ∧
    Instr.wf (.leaDataFrame 0 ⟨0, 0, false, 0, 0, 0⟩ false 0 0 0 [] 0 0 0) = false ∧
    Instr.wf (.digestMessage 0 ⟨0, 0, false, 0, 0, 0⟩ ⟨0, 0, 0, 0⟩ []) = false ∧
    Instr.wf (.start true (some []) none none 0) = false := by decide +kernel

theorem test_wf_refuses_codes_and_offsets :
    Instr.wf (.finEdge 0 true 0) = false ∧ Instr.wf (.encTransition 0 true true 0) = false ∧
    Instr.wf (.start true none (some (2, 16, true)) none 0) = false ∧ Instr.wf (.start true none (some (5, 3, true)) none 0) = false ∧
    Instr.wf (.start true none none (some 11) 0) = false ∧ Instr.wf (.restartRecheck [] (some 0) 0) = false ∧
    Instr.wf (.perst (some (7, 1, false))) = false ∧ Instr.wf (.mboxReserved 7) = false ∧ Instr.wf (.secReserved 4) = false ∧
    Instr.wf (.read64Low .host 4) = false ∧ Instr.wf (.read64High .host 8) = false ∧ Instr.wf (.write64Low .host 4 0) = false ∧
    Instr.wf (.write64High .host 8 0) = false ∧ Instr.wf (.registerWrite .host 2 [0]) = false ∧
    Instr.wf (.registerWrite .host 0 []) = false := by decide +kernel

/-! ### The machine as a whole -/

theorem witness_StepRunsFrontCommandElseIdles :
    State.reset.pending = [] ∧ State.reset.powered .spine = false ∧ live.pending = [] ∧ live.powered .spine = true ∧
    (live.time + 1) % 8192 ≠ 0 ∧ ({ live with time := 4095 }.time + 1) % 8192 = 4096 ∧
    ({ live with time := 8191 }.time + 1) % 8192 = 0 := by decide +kernel

theorem witness_CommandsLeaveTheQueue : exec .stileTimeReload { State.reset with pending := [.idcode] } =
    .next { State.reset with pending := [.idcode] } := rfl

theorem witness_StepsKeepMemoryCanonical : State.reset.Inv ∧ step State.reset = .next State.reset := ⟨rfl, rfl⟩

theorem witness_UnreachableWriteIsDropped :
    regRow (.fractionWrite 2) = some (.GRS_CFG, 0) ∧ State.reset.reach .GRS_CFG 0 = false ∧
    regRow (.tskClrSeq 255) = some (.TSK_CTRL, 255) ∧ (liveW [(F.PWR_DOMAIN_QUARTER, 0x7FFF)]).reach .TSK_CTRL 255 = false ∧
    regRow .ainStart = some (.STL_AIN_CTRL, 0) ∧
    { live with stile := { live.stile with linkLost := true } }.reach .STL_AIN_CTRL 0 = false := by decide +kernel

theorem witness_EventNeedsItsPower :
    powerRow (.eval 255 0 []) = some (.quarter 15) ∧ (liveW [(F.PWR_DOMAIN_QUARTER, 0x7FFF)]).powered (.quarter 15) = false ∧
    powerRow .dacLockLoss = some .stile ∧ State.reset.powered .stile = false ∧
    powerRow (.sensorTimeout 3) = some .spine ∧ State.reset.powered .spine = false := by decide +kernel

theorem witness_ClearingCommandsClear :
    clearRow (.admClrCnt 3) ≠ [] ∧ regRow (.admClrCnt 3) = some (.CHN_ADM_CTRL, 3) ∧ live.reach .CHN_ADM_CTRL 3 = true ∧
    clearRow .secClrCnt ≠ [] ∧ regRow .secClrCnt = some (.SEC_CTRL, 0) ∧ live.reach .SEC_CTRL 0 = true := by decide +kernel

theorem witness_RegionFaultClearReleasesRecord :
    (liveW [(F.GLB_RGN_FAULT_INFO_VALID, 1)]).reach .GLB_RGN_FAULT_INFO 0 = true ∧
    (liveW [(F.GLB_RGN_FAULT_INFO_VALID, 1)]).get F.GLB_RGN_FAULT_INFO_VALID ≠ 0 ∧ live.reach .GLB_RGN_FAULT_INFO 0 = true ∧
    live.get F.GLB_RGN_FAULT_INFO_VALID = 0 := by decide +kernel

/-! ### The Tussocks -/

theorem witness_TussockClockFaultsQuarantine :
    (liveT 3 { open_ := some 5 } []).onT 3 = true ∧ ((liveT 3 { open_ := some 5 } []).tuss 3).abortDue = false ∧ ((liveT 3 { open_ := some 5 } []).tuss 3).open_ = some 5 ∧
    ((liveT 3 { open_ := some 5 } []).tuss 3).late = 0 ∧ ((liveT 3 { open_ := some 5, late := 1 } []).tuss 3).late = 1 ∧
    (liveT 3 { open_ := some 5 } []).tskState 3 ≠ tREEN ∧ ¬((6 : Nat) = 5 ∧ (0 : Nat) ≠ 0) ∧ ¬((9 : Nat) = 5 ∧ (0 : Nat) ≠ 0) := by
  decide +kernel

theorem witness_MarkerAndLockBringTussockUp :
    live.onT 255 = true ∧ (live.tuss 255).abortDue = false ∧ live.tskState 255 ≠ tREEN ∧ (live.tuss 255).open_ = none ∧
    ((liveT 0 { open_ := some 6, late := 1 } []).tuss 0).open_ = some (6 : BitVec 51).toNat ∧
    ((liveT 0 { open_ := some 6, late := 1 } []).tuss 0).late ≠ 0 ∧
    (liveT 0 { open_ := some 6 } [(F.TSK_STATE_STATE 0, 3)]).tskState 0 = tREEN ∧
    ((liveT 0 { open_ := some 6 } []).tuss 0).aligned = false ∧ ((liveT 0 { open_ := some 6 } []).tuss 0).fwWrite = false ∧
    ((liveT 0 { open_ := some 6 } []).tuss 0).open_ = some ((7 : BitVec 51).toNat - 1) ∧ 0 < (7 : BitVec 51).toNat ∧
    (liveW [(F.PWR_STATUS_STATE, 2)]).onT 0 = true ∧ (liveW [(F.PWR_STATUS_STATE, 2)]).get F.PWR_STATUS_STATE = 2 ∧
    live.get F.PWR_STATUS_STATE ≠ 2 := by
  decide +kernel

/-- A Tussock 7 that waits for its last step of a re-enable. -/
def reenabled : State :=
  liveT 7 { aligned := true, bringup := 2 } ((F.TSK_STATE_STATE 7, 3) :: (List.range 17).map fun a => (F.TSK_ARR_STATE_STATE 7 a, aVALID))

theorem witness_HostQuarantineAndReenable :
    live.reach .TSK_CTRL 7 = true ∧ (liveW [(F.TSK_CLK_STATUS_LOCKED 7, 1)]).tskState 7 = tQUAR ∧
    (liveW [(F.TSK_CLK_STATUS_LOCKED 7, 1)]).on (F.TSK_CLK_STATUS_LOCKED 7) = true ∧ (live.tuss 7).quarDue = false ∧
    ¬(live.tskState 7 = tQUAR ∧ live.on (F.TSK_CLK_STATUS_LOCKED 7) = true ∧ (live.tuss 7).quarDue = false) ∧
    reenabled.runsT 7 = true ∧ reenabled.tskState 7 = tREEN ∧ (reenabled.tuss 7).aligned = true ∧ (reenabled.tuss 7).bringup = 2 ∧
    (reenabled.tuss 7).quarDue = false ∧ (∀ k, k < 16 → reenabled.arrState 7 (reenabled.arrOf 7 k) = aVALID) ∧
    live.readyForService 7 = false := by decide +kernel

theorem witness_QuarantineStopsTussock :
    (liveT 9 { quarDue := true } []).onT 9 = true ∧ ((liveT 9 { quarDue := true } []).tuss 9).quarDue = true ∧
    (liveT 9 { quarDue := true } [(F.TSK_QUAR_CAUSE_CAUSE 9, 1)]).get (F.TSK_QUAR_CAUSE_CAUSE 9) ≠ 8 ∧
    (live.tuss 9).quarDue = false := by decide +kernel

/-- `live` with Tussock 2 in SERVICE. -/
def inService : State := liveW [(F.TSK_STATE_STATE 2, 1)]

theorem witness_TileTaskJoinsTheQueue :
    inService.runsT 2 = true ∧ ¬(inService.tskState 2 = tQUAR ∨ inService.tskState 2 = tREEN) ∧
    taskBad [1, 0x10000, 0, 0x100, 0, 0, 0, 0] = false ∧ taskBad [15, 0, 0, 0, 0, 0, 0, 0] = true ∧
    ((inService.jobOfTag 0 0).map Job.id) = none ∧
    taskLate inService.time (targetSwath inService.swath 1) 0 = false ∧
    taskLate 8191 (targetSwath 0 0) 0 = true ∧ (inService.tuss 2).queue.length < 16384 ∧
    (live.tskState 2 = tQUAR) ∧
    16384 ≤ ((inService.setTuss 2 { queue := List.replicate 16384 ⟨[], 0, none, false⟩ }).tuss 2).queue.length := by
  decide +kernel

theorem witness_TablesAndExchange :
    live.runsT 4 = true ∧ live.get (F.TSK_CONV_STATUS_TABLE_INIT_DONE 4) = 0 ∧
    ((liveT 4 { exchange := some ⟨15, false, false⟩ } []).tuss 4).exchange = some ⟨15, false, false⟩ ∧
    ((liveT 4 { exchange := some ⟨15, false, false⟩ } []).tuss 4).quarDue = false ∧
    (liveT 4 { exchange := some ⟨15, false, false⟩ } []).arrState 4 (live.reserveOf 4) ≠ aVALID ∧
    (liveW [(F.TSK_ARR_STATE_STATE 4 16, aVALID)]).arrState 4 ((liveW [(F.TSK_ARR_STATE_STATE 4 16, aVALID)]).reserveOf 4) = aVALID ∧
    live.get (F.TSK_ARR_STATE_CONTEXT 4 (live.reserveOf 4)) = live.get (F.TSK_ARR_STATE_CONTEXT 4 (live.arrOf 4 15)) ∧
    (liveW [(F.TSK_ARR_STATE_STATE 4 16, aVALID)]).gangsStay 4 15 16 = true ∧
    (live.tuss 4).phaseOpen 15 = false ∧
    ((liveT 4 { queue := [⟨[0x000, 0, 0, 0, 0, 0, 0, 0], 0, none, true⟩] } []).tuss 4).phaseOpen 0 = true ∧
    live.reserveOf 4 < 17 ∧ live.arrOf 4 15 < 17 := by decide +kernel

/-! ### The arrays -/

theorem witness_RestoreSlotPositions :
    isRestoreSlot 5 0 5 = true ∧ isRestoreSlot 5 live.swath (6 : BitVec 8).toNat = false ∧ (255 : Nat) < 256 ∧
    (16, live.swath * 256 + (5 : BitVec 8).toNat) ∈ ((liveT 5 { open_ := some 0, used := [(16, 5)] } []).tuss 5).used ∧
    (live.tuss 5).open_ ≠ some live.swath := by decide +kernel

theorem witness_RestoreAccumulatesAndRestoresRows :
    (liveT 5 { open_ := some 0 } []).onT 5 = true ∧ ((liveT 5 { open_ := some 0 } []).tuss 5).open_ = some (liveT 5 { open_ := some 0 } []).swath ∧
    ((0 : Nat), live.swath * 256 + (5 : BitVec 8).toNat) ∉ ((liveT 5 { open_ := some 0 } []).tuss 5).used ∧
    isRestoreSlot 5 live.swath (5 : BitVec 8).toNat = true ∧
    (live.arr 5 0).acc + restoreFraction (live.get (F.TSK_RESTORE_TEMP_TEMP 5)) < 65536 ∧
    65536 ≤ ((liveT 5 { open_ := some 0, arrs := [(16, { acc := 65535 })] } []).arr 5 16).acc + restoreFraction (live.get (F.TSK_RESTORE_TEMP_TEMP 5)) := by
  decide +kernel


/-! ### Evaluations -/

/-- `s` with blocks of 256 zero bytes at addresses: payload as unwritten, and a tag with the checksum of 256 zero bytes. -/
def withBlocks (s : State) (as_ : List Nat) : State :=
  as_.foldl (fun s a => { s with mem := Memory.writeN s.mem (tagAddr a) (leBytes 4 0xB872B190 ++ [0, 0, 0, 0]) }) s

/-- An EVAL task of slot 1 in cycle 20 with its input in block 4; a single phase (`ph` 0), two phases (`ph` 1), or a single
phase with CHECK set (`ph` 2). -/
def evalTask1 (ph : Nat) : Task := ⟨[0x100 + 64 * ph, 0, 20 + 0x400, 0x100, 0, 0, 0, 0], 0, none, false⟩

/-- The single phase in a restore slot, cycle 3. -/
def evalTask3 : Task := ⟨[0x100, 0, 3 + 0x400, 0x100, 0, 0, 0, 0], 0, none, false⟩

/-- `live` with arrays of Tussock 3 VALID, an EVAL task queued and its input stored. -/
def evalState (ph : Nat) : State :=
  withBlocks (liveT 3 { open_ := some 0, queue := [evalTask1 ph] } (((List.range 17).map fun a => (F.TSK_ARR_STATE_STATE 3 a, aVALID)) ++ [(F.TSK_ARR_STATE_CONTEXT 3 1, 0)]))
    [bankAddr 3 4, bankAddr 3 5]

/-- The same with phase A latched. -/
def phaseBState : State := (evalState 1).setTuss 3 { open_ := some 0, queue := [{ evalTask1 1 with phaseA := true }] }

set_option maxRecDepth 100000 in
theorem witness_EvaluationLatchesOnItsGang :
    (evalState 0).runsT 3 = true ∧ ((evalState 0).tuss 3).open_ = some (evalState 0).swath ∧ (evalState 0).gangMembers 3 1 1 = [1] ∧
    ((evalState 0).tuss 3).queue.find? (fun t =>
      t.fld 0 0 4 == 0 && t.swath == (evalState 0).swath && t.fld 2 0 8 == (20 : BitVec 8).toNat && !t.phaseA &&
        !(evalState 0).taskWaits 3 t) = some (evalTask1 0) ∧
    (evalState 0).exactTask (evalTask1 0) = false ∧
    (evalState 0).badMembers 3 (evalTask1 0) [1] = [] ∧ (evalState 0).gangValid 3 [1] = true ∧
    (evalState 0).get F.GRS_CFG_FRACTION ≠ 5 ∧ (evalState 0).slotConflict 3 (evalTask1 0) [1] 20 = false ∧
    ((evalState 0).inputsOf 3 (evalTask1 0) 0 []).2.isSome = true ∧ ((evalState 1).inputsOf 3 (evalTask1 1) 1 []).2.isSome = true ∧
    (liveT 3 { queue := [evalTask1 0] } []).badMembers 3 (evalTask1 0) [1] = [1] ∧ (evalTask1 0).job = none ∧
    ((evalState 0).setTuss 3 { queue := [evalTask1 0], used := [(1, 20)] }).slotConflict 3 (evalTask1 0) [1] 20 = true ∧
    (phaseBState.tuss 3).queue.find? (fun t =>
      t.phaseA && phaseBState.phaseBCycle 3 (t.swath * 256 + t.fld 2 0 8) == phaseBState.swath * 256 + (21 : BitVec 8).toNat) =
        some { evalTask1 1 with phaseA := true } ∧
    phaseBState.arraysBusy 3 [1] 21 = false ∧ phaseBState.beaten 3 { evalTask1 1 with phaseA := true } [1] 21 = false ∧
    (phaseBState.inputsOf 3 { evalTask1 1 with phaseA := true } 2 []).2.isSome = true := by decide +kernel

/-- `evalState 0` with a requantisation block in bank 0, block 0, that asks for exact mode, and its input record at address 0. -/
def exactState : State :=
  { evalState 0 with mem := Memory.putBlock (withBlocks (evalState 0) [0]).mem (bankAddr 0 0) (Block.fresh ([0, 0, 1] ++ List.replicate 253 0) 0 0) }

set_option maxRecDepth 100000 in
theorem witness_EvaluationLatchesOnItsGang_exact :
    exactState.exactTask (evalTask1 0) = true ∧ (exactState.tuss 3).queue.find? (fun t =>
      t.fld 0 0 4 == 0 && t.swath == exactState.swath && t.fld 2 0 8 == (20 : BitVec 8).toNat && !t.phaseA &&
        !exactState.taskWaits 3 t) = some (evalTask1 0) ∧
    exactState.get F.GRS_CFG_FRACTION ≠ 5 ∧ exactState.badMembers 3 (evalTask1 0) [1] = [] ∧ exactState.gangValid 3 [1] = true ∧
    exactState.slotTaken 3 (evalTask1 0) 20 = false ∧
    (exactState.inputBlocks 3 (evalTask1 0) (gangOf ((evalTask1 0).fld 0 4 2) * (1 + (evalTask1 0).fld 0 6 1)) []).2.isSome = true ∧
    ((List.range (gangOf ((evalTask1 0).fld 0 4 2))).flatMap fun i =>
      (exactState.imageHolds (exactState.taskImage (evalTask1 0)) 3 ((evalTask1 0).fld 0 8 4 + i)).srcs) = [] ∧
    (exactState.imageRead 3 (evalTask1 0) []).2 = true ∧ (evalTask1 0).fld 0 7 1 = 0 ∧ (exactState.tuss 3).sums = [] := by decide +kernel

/-- `exactState` with another task in its queue. -/
def exactWith (k : Task) : State := exactState.setTuss 3 { open_ := some 0, queue := [k] }

set_option maxRecDepth 100000 in
theorem witness_EvaluationLatchesOnItsGang_exact_check :
    (evalTask1 2).fld 0 7 1 = 1 ∧ (exactWith (evalTask1 2)).exactTask (evalTask1 2) = true ∧
    (exactWith (evalTask1 2)).badMembers 3 (evalTask1 2) [1] = [] ∧ (exactWith (evalTask1 2)).gangValid 3 [1] = true ∧
    (exactWith (evalTask1 2)).taskWaits 3 (evalTask1 2) = false ∧ (exactWith (evalTask1 2)).slotTaken 3 (evalTask1 2) 20 = false ∧
    ((exactWith (evalTask1 2)).inputBlocks 3 (evalTask1 2) 1 []).2.isSome = true ∧
    (exactWith evalTask3).exactTask evalTask3 = true ∧ (exactWith evalTask3).taskWaits 3 evalTask3 = false ∧
    (exactWith evalTask3).badMembers 3 evalTask3 [1] = [] ∧ (exactWith evalTask3).gangValid 3 [1] = true ∧
    evalTask3.job = none ∧ (exactWith evalTask3).slotTaken 3 evalTask3 3 = true := by decide +kernel

/-- An evaluation of slot 1 of array 1. -/
def evl1 (k : EvalKind) : Evl := ⟨[0x100, 0, 20, 0x100, 0, 0, 0, 0], none, k, 0, 1, 1, [1], 0, 20, 0, [1], [7, 9], [], [], [], [], false⟩

theorem witness_ConversionAndLookupPassResultsOn :
    (liveT 3 { arrs := [(1, { sampled := [evl1 .work] })] } []).runsT 3 = true ∧
    ((liveT 3 { arrs := [(1, { sampled := [evl1 .work] })] } []).arr 3 1).sampled = [evl1 .work] ∧ (live.arr 3 16).sampled = [] ∧
    ((liveT 3 { arrs := [(1, { coded := [evl1 .work] })] } []).arr 3 1).coded = evl1 .work :: [] ∧ (evl1 .work).phase ≠ 2 ∧
    ((liveT 3 { arrs := [(1, { coded := [evl1 .rerun] })] } []).arr 3 1).coded = evl1 .rerun :: [] ∧
    [((65535 : BitVec 16), Ecc.ue)].any (fun p => p.2 == .ue) = true := by decide +kernel

/-- `live` with array 0 of Tussock 3 under a write, for `w`, of these rows, and these repairs placed. -/
def rowState (w : WriteFor) (rows : List RowJob) (reps : List Repair) : State :=
  (liveT 3 { open_ := some 0, arrs := [(0, { write := some ⟨w, rows, 0⟩ })] } []).setChan 0 { repairs := reps }

/-- A row that has been read, and one whose blocks failed their checks. -/
def row511 : RowJob := { row := 511, ws := [] }
def lost511 : RowJob := { row := 511, ws := [], lost := true }

/-- A repair of row 7 placed in cycles 20 to 24 of swath 0. -/
def repair7 : Repair := ⟨3, 0, 7, 0, (List.range 5).map fun i => (0, 20 + i), false, {}⟩

/-- The cycle in which the row under write of array 0 ends, if the operations of the array leave it five. -/
def rowEnd (s : State) : Option (Nat × Bool) := (s.writeTurn 3 0).map fun v => (v.last, s.rowMayEnd 3 0 v.last v)

theorem witness_RowWriteWritesOneRow :
    (rowState .window [row511, row511] []).runsT 3 = true ∧
    ((rowState .window [row511, row511] []).tuss 3).open_ = some (rowState .window [row511, row511] []).swath ∧
    (rowState .window [row511, row511] []).repairAt 3 0 5 = none ∧
    ((rowState .window [row511, row511] []).arr 3 0).write = some ⟨.window, row511 :: [row511], 0⟩ ∧
    rowEnd (rowState .window [row511, row511] []) = some (5, true) ∧ rowEnd (rowState .firmware [lost511] []) = some (5, true) ∧
    rowEnd (rowState .window [{ row511 with due := 1 }] []) = some (5, true) ∧
    ((rowState .window [row511] []).writeTurn 3 0).map ((rowState .window [row511] []).rowMayEnd 3 0 4) = some false ∧
    rowEnd (rowState (.awrite 0 0) [row511] []) = some (0, false) := by decide +kernel

theorem witness_RowWriteWritesOneRow_repair :
    (rowState .window [row511] [repair7]).repairAt 3 0 24 = some repair7 ∧
    (rowState .window [row511] [repair7]).rowMayEnd 3 0 24 repair7.turn = true ∧
    ((rowState .window [row511] [repair7]).setTuss 3 { open_ := some 0, used := [(0, 24)] }).rowMayEnd 3 0 24 repair7.turn = false := by
  decide +kernel

/-! ### Blocks and Tuft tasks -/

set_option maxRecDepth 100000 in
theorem witness_StoredBlockReadsBack :
    0xFF00 % 256 = 0 ∧ (⟨List.replicate 256 1#8, 0xFFFFFFFF, 0xFFFF, 0xFFFF⟩ : Block).data.length = 256 ∧
    (⟨List.replicate 256 1#8, 0xFFFFFFFF, 0xFFFF, 0xFFFF⟩ : Block).crc < 2 ^ 32 ∧ regionOf 0xFF00 = .stack 0 ∧
    regionOf (bankAddr 255 4095) = .bank 255 0xFFF00 := by decide +kernel

/-- A SHADOW task of one column: input block 4, weight blocks from block 8. -/
def shadow1 : Task := ⟨[1, 0, 0x400, 0x100, 8, 0, 0, 0], 0, none, false⟩

/-- A MATMUL of 16 by 16 by 16 INT8 elements: operands in blocks 4 and 5, result from block 8, no accumulation. -/
def matmul1 : Task := ⟨[2, 0, 0x400, 5 + 8 * 4096, 0x10101, 0, 0, 0], 0, none, false⟩

/-- A VECTOR operation 1 of 16 INT8 elements of block 4, result in block 8. -/
def vector1 : Task := ⟨[3, 0, 0x400, 8 + 0x1000, 16, 0, 0, 0], 0, none, false⟩

/-- `live` with a Tuft task queued in Tussock 3 and blocks 4 to 9 of its bank stored. -/
def tuftState (k : Task) : State :=
  withBlocks (liveT 3 { queue := [k] } []) ((List.range 6).map fun i => bankAddr 3 (4 + i))

/-- The second of two reads of blocks succeeds. -/
def reads2 (s : State) (k : Task) (a m b n : Nat) : Bool :=
  match s.operands 3 k a m [] with
  | (s1, some _) => (s1.operands 3 k b n []).2.isSome
  | _ => false

set_option maxRecDepth 100000 in
theorem witness_TuftTasksRunAndLeaveTheQueue :
    (tuftState shadow1).runsT 3 = true ∧ (tuftState shadow1).tuftTask 3 1 = some shadow1 ∧ (shadow1.fld 2 8 12, shadow1.fld 4 0 12, shadow1.fld 3 8 9) = (4, 8, 1) ∧
    gangOf (shadow1.fld 0 4 2) = 1 ∧ reads2 (tuftState shadow1) shadow1 4 1 8 (blocksOf 512) = true ∧
    (tuftState matmul1).tuftTask 3 2 = some matmul1 ∧ matmul1.fld 3 0 12 = 5 ∧ matmul1.fld 3 12 12 = 8 ∧
    reads2 (tuftState matmul1) matmul1 4 (blocksOf 256) 5 (blocksOf 256) = true ∧
    (tuftState vector1).tuftTask 3 3 = some vector1 ∧ vector1.fld 3 12 8 = 1 ∧
    ((tuftState vector1).operands 3 vector1 4 1 []).2.isSome = true ∧
    (liveT 3 { queue := [shadow1] } []).tuftTask 3 1 = some shadow1 ∧
    ((liveT 3 { queue := [shadow1] } []).operands 3 shadow1 4 1 []).2 = none ∧
    ((liveT 3 { queue := [vector1] } []).operands 3 vector1 4 1 []).2 = none ∧
    (liveT 3 { queue := [matmul1] } []).tuftTask 3 2 = some matmul1 ∧
    ((liveT 3 { queue := [matmul1] } []).operands 3 matmul1 4 (blocksOf (16 * 16)) []).2 = none ∧
    vecChecked 1 6 = false ∧ vecChecked 1 0 = true := by decide +kernel

/-- Tussock 3 with a check of slot 2 whose exact values are computed. -/
def laneState : State := liveT 3 { lanes := [(2, { check := some { sample := evl1 .work, exact := [(5, 7)] } })] } []

theorem witness_TuftTasksRunAndLeaveTheQueue_lane :
    laneState.runsT 3 = true ∧ laneState.tuftTask 3 1 = none ∧
    ((laneState.tuss 3).lanes.any fun p => p.2.check.any fun c => !c.exact.isEmpty) = true ∧
    live.tuftTask 3 1 = none ∧ ((live.tuss 3).lanes.any fun p => p.2.check.any fun c => !c.exact.isEmpty) = false := by decide +kernel

/-! ### Combining -/

/-- A job of channel 1, engine 2, with identity 7. -/
def job7 : Job :=
  { id := 7, chan := 1, eng := 2, ringIndex := 0, recNo := 0, k1 := false, hdr := [5, 0, 1, 0, 0, 0, 0, 0], cmds := [], prof := [],
    swath := 0, tRead := 0, tags := [4095], openTasks := 1 }

/-- An accumulator area of job 7 in Tussock 3: one INT4 output, `n` sources, output record 0x4000. -/
def area7 (n : Nat) : Area :=
  { job := 7, g := 3, rq := 1, accBlock := 10, sx := some 0x3F800000,
    head := { wfmt := 0, xfmt := 0, exact := false, nout := 1, nsrc := n, inRec := 0x4100, outRec := 0x4000, e0 := 0, nelem := 32,
              outBlock := 20, outTid := 5, outSeq0 := 0, fmt := 0 } }

/-- The evaluation of an EVAL task of job 7 that column 0 of array 1 adds to element 0 of the area in Tussock 3. -/
def evl7 : Evl := ⟨[0x100, 0, 20, 0x100, 3 + 10 * 256 + 0x100000, 0, 0, 0], some 7, .work, 0, 1, 1, [1], 0, 20, 0, [1], [5], [5], [320], [], [], false⟩

/-- Its partial sum waits in Tussock 3, which is in SERVICE; the first blocks of its requantisation block are stored. -/
def sumState (j : Job) : State :=
  withBlocks { liveT 3 { sums := [⟨[evl7]⟩] } [(F.TSK_STATE_STATE 3, 1)] with jobs := [j], areas := [area7 2] }
    ((List.range 8).map fun i => bankAddr 3 (1 + i))

/-- The state in which `sumState` adds the sum up. -/
def sumState1 : State := ((sumState job7).updTuss 3 fun t => { t with sums := t.sums.erase ⟨[evl7]⟩ }).taskDone (some 7)

/-- The same with group 0 begun. -/
def sumState4 : State := ((sumState1.updArea (area7 2)).beginGroup (area7 2) 0).1

set_option maxRecDepth 100000 in
theorem witness_PartialSumsAccumulate :
    (sumState job7).runsT 3 = true ∧ ((sumState job7).tuss 3).sums.find? Partial.complete = some ⟨[evl7]⟩ ∧
    ((sumState job7).job 7).all (fun j => j.err.isNone) = true ∧ ((sumState job7).job 7).isSome = true ∧
    tfld evl7.task 4 0 8 = 3 ∧ tfld evl7.task 4 20 12 = 1 ∧ tfld evl7.task 4 8 12 = (area7 2).accBlock ∧
    (sumState job7).tskState 3 = tSERVICE ∧ sumState1.area 7 3 1 = some (area7 2) ∧
    sumState1.badDelivery (area7 2) evl7.task (sumState1.deliveries (area7 2) [evl7]) = false ∧
    (sumState1.rqRead 1 (area7 2) (sumBlocks evl7.task)).2 = true ∧ sumBlocks evl7.task = [] ∧
    (sumState1.deliveries (area7 2) [evl7]).map Prod.fst = [0] ∧
    ((sumState1.updArea (area7 2)).openGroups 1 (area7 2) [0]).2 = true ∧
    accCount (sumState4.accWord { area7 2 with begun := [0] } 0) + 1 < 2 ∧
    ((sumState { job7 with err := some ⟨0x12, 0, 0, 0⟩ }).job 7).all (fun j => j.err.isSome) = true ∧
    ((sumState { job7 with id := 8 }).job 7) = none ∧ ((sumState job7).set (F.TSK_STATE_STATE 3) 2).tskState 3 ≠ tSERVICE := by
  decide +kernel

/-- `live` with a production of job 7 that waits for its rerun with scale 1.0, in swath 1; the job's allowance is swaths 2 and 3. -/
def rerunState (j : Job) : State :=
  { live with
    time := 8192, jobs := [j], areas := [area7 0]
    prods := [{ job := 7, addr := 0x4000, tid := 5, scale := 0x40000000, rerunScale := some 0x3F800000 }] }

/-- Job 7 with an allowance of two swaths, at offset 1. -/
def rcJob : Job := { job7 with hdr := [5, 0, 0x2001000, 0, 0, 0, 0, 0] }

theorem witness_RecomputeRerunUsesCorrectedScale :
    (rerunState rcJob).prods.find? (fun p => p.addr == (0x4000 : BitVec 48).toNat && p.rerunScale.isSome) =
      some { job := 7, addr := 0x4000, tid := 5, scale := 0x40000000, rerunScale := some 0x3F800000 } ∧
    (rerunState rcJob).job 7 = some rcJob ∧ rcJob.err = none ∧ rcJob.rcFirst ≤ (rerunState rcJob).swath + 1 ∧
    (rerunState rcJob).swath < rcJob.rcFirst + rcJob.rcLen ∧ ¬((rerunState job7).swath < job7.rcFirst + job7.rcLen ∧ job7.rcLen ≠ 0) ∧
    (rerunState { job7 with id := 8 }).job 7 = none ∧
    live.prods.find? (fun p => p.addr == (0x4000 : BitVec 48).toNat && p.rerunScale.isSome) = none := by decide +kernel

/-! ### Checking -/

theorem witness_FractionAndHorizonWrites :
    live.reach .GRS_CFG 0 = true ∧ live.get F.GRS_CFG_FRACTION ≠ (0 : BitVec 3).toNat ∧ live.get F.GRS_CFG_FRACTION < 5 ∧
    live.on F.GRS_STATUS_FRACTION_PENDING = false ∧ (∀ k, k < 16 → live.on (F.CHN_ENG_STATUS_RUNNING k) = false) ∧
    (liveW [(F.CHN_ENG_STATUS_RUNNING 15, 1)]).on (F.CHN_ENG_STATUS_RUNNING 15) = true ∧
    (liveW [(F.GRS_STATUS_FRACTION_PENDING, 1)]).on F.GRS_STATUS_FRACTION_PENDING = true ∧ live.jobs = [] ∧
    ({ liveW [(F.GRS_STATUS_FRACTION_PENDING, 1)] with jobs := [job7], time := 3 * 8192, fractionAt := 2 }.jobs.all fun j =>
      2 < j.swath ∨ j.lastWork < 3) = true ∧
    (2 : BitVec 5).toNat = 2 ∧ (16 : BitVec 5).toNat = 16 ∧ (1 : BitVec 5).toNat < 2 ∧ 16 < (17 : BitVec 5).toNat := by
  decide +kernel

/-- An evaluation of slot 1 latched in cycle 20 with its values. -/
def evlV (v : Int) : Evl := { evl1 .work with vals := List.replicate 256 v }

/-- `live` with Tussock 3 in SERVICE, its arrays VALID, and the lane of slot 1, the arbitration and its queue given. -/
def checkState (l : SlotLane) (a : Option Arb) (q : List Trigger) : State :=
  liveT 3 { open_ := some 0, lanes := [(1, l)], arb := a, arbQueue := q }
    ((F.TSK_STATE_STATE 3, 1) :: (List.range 17).map fun a => (F.TSK_ARR_STATE_STATE 3 a, aVALID))

/-- The first cycle of swath 0 that is a check slot of Tussock 3 in force. -/
def checkCycle (s : State) : Option Nat := (List.range 256).find? fun c => isCheckAt s.fractionNow 3 s.swath c

/-- A trigger on slot 1 that has its vector. -/
def trig1 : Trigger := ⟨1, 1, 1, [0], none, [evlV 5], 1, []⟩

theorem witness_CheckSlotsSampleAndCompare :
    checkCycle (checkState {} none []) = some 127 ∧ (checkState { recent := [evlV 5] } none []).runsT 3 = true ∧ live.stopped (0x30 + chanOf 3) = false ∧
    (checkState { recent := [evlV 5] } none []).slotQuiet 3 1 = false ∧
    ((checkState { recent := [evlV 5] } none []).tuss 3).liveAt ≠ some 127 ∧
    (liveW [(F.TSK_ARR_STATE_STATE 3 1, aCAL)]).slotQuiet 3 1 = true ∧
    (checkState { recent := [evlV 5] } none []).tskState 3 = tSERVICE ∧
    (((checkState { recent := [evlV 5] } none []).lane 3 1).choose (127 * 32)).sample = some (evlV 5) ∧
    (((checkState { recent := [evlV 5] } none []).lane 3 1).choose (127 * 32)).decided = false ∧
    (checkState {} none []).canRerun 3 127 (evlV 5) = true ∧ ((checkState {} none []).tuss 3).open_ = some (checkState {} none []).swath ∧ live.tskState 3 ≠ tSERVICE ∧
    isCheckAt (checkState {} none []).fractionNow 3 0 0 = false ∧
    ((checkState {} (some { trig := trig1 }) []).tuss 3).arb = some { trig := trig1 } ∧ trig1.slot = 1 ∧
    trig1.vecs[0]? = some (evlV 5) ∧
    (checkPeriod (withs (checkState {} none []) [(F.GRS_CFG_FRACTION, 0)]).fractionNow).isNone = true ∧
    (withs (checkState {} none []) [(F.GRS_CFG_FRACTION, 0)]).cycleSpare 3 20
      ((withs (checkState {} none []) [(F.GRS_CFG_FRACTION, 0)]).gangMembers 3 1 (gangOf (tfld (evlV 5).task 0 4 2))) = true ∧
    (withs (checkState {} none []) [(F.GRS_CFG_FRACTION, 0)]).canRerun 3 20 (evlV 5) = true ∧
    ((checkState { check := some { sample := evlV 5, rerun := some (evlV 5) } } none []).lane 3 1).check =
      some { sample := evlV 5, rerun := some (evlV 5) } ∧
    farColumns (live.tolAgree + 64) (evlV 5).vals (evlV 5).vals = [] ∧
    farColumns (live.tolAgree + 64) (evlV 100000).vals (evlV 5).vals ≠ [] ∧
    offExact 0 100000 0 live.tolAgree = true := by decide +kernel

/-- What an arbitration of slot 1 decides on the vector `e`. -/
def decides (tr : Trigger) : Nat :=
  ((checkState {} none []).weightsOf 3 [1]).1.outcome 3 ((checkState {} none []).weightsOf 3 [1]).2 { trig := tr }

theorem witness_ArbitrationsStartAndDecide :
    ((checkState {} none [trig1]).tuss 3).arb = none ∧ ((checkState {} none [trig1]).tuss 3).arbQueue = trig1 :: [] ∧
    (checkState {} none [trig1]).onT 3 = true ∧ (live.tuss 3).arbQueue = [] ∧ (live.tuss 3).arb = none ∧
    ({ trig1 with want := 2 } : Trigger).vecs.length < 2 ∧
    ((checkState {} (some { trig := trig1 }) []).tuss 3).arb = some { trig := trig1 } ∧ trig1.want ≤ trig1.vecs.length ∧
    (trig1.vecs.flatMap Evl.members).dedup = [1] ∧
    decides { trig1 with cols := [] } = 0 ∧ decides { trig1 with vecs := [evlV 100000] } = 5 := by decide +kernel

/-- `live` with a repair in Tussock 3 and its arrays VALID or in state `st` (the reserve). -/
def repairState (r : RepairRun) (st : Nat) : State :=
  liveT 3 { open_ := some 0, repair := some r, arrs := [(16, { refresh := 1 })] }
    [(F.TSK_ARR_STATE_STATE 3 (live.reserveOf 3), st), (F.TSK_ARR_STATE_STATE 3 1, aVALID)]

/-- A repair of array 1 that has its one vector to run again. -/
def rerun1 : RepairRun := { arr := 1, slot := 1, step := 2, vecs := [evlV 5] }

theorem witness_RepairsGoThroughTheirSteps :
    (repairState { arr := 1, slot := 1 } aVALID).runsT 3 = true ∧ live.stopped (0x30 + chanOf 3) = false ∧ ((repairState { arr := 1, slot := 1 } aVALID).arr 3 16).refresh = 1 ∧
    ((repairState { arr := 1, slot := 1 } aVALID).arr 3 0).refresh ≠ 1 ∧
    ((repairState { arr := 1, slot := 1 } aVALID).tuss 3).repair = some { arr := 1, slot := 1 } ∧
    ((repairState { arr := 1, slot := 1 } aVALID).tuss 3).window = none ∧
    (repairState { arr := 1, slot := 1 } aVALID).noReserve 3 = false ∧ (repairState { arr := 1, slot := 1 } aQUAR).noReserve 3 = true ∧
    (repairState { arr := 1, slot := 1, step := 2 } aVALID).arrState 3 (live.reserveOf 3) ≠ aWRITING ∧
    (repairState { arr := 1, slot := 1, step := 2 } aVALID).agreeCols [] [] = true ∧
    ((repairState rerun1 aVALID).tuss 3).open_ = some (repairState rerun1 aVALID).swath ∧
    rerun1.vecs.filter ((repairState rerun1 aVALID).mayReplace 3 1) = [evlV 5] ∧
    (repairState rerun1 aVALID).cycleSpare 3 20 ((repairState rerun1 aVALID).withReserve 3 1 (evlV 5)) = true ∧
    (repairState rerun1 aVALID).cycleSpare 3 3 ((repairState rerun1 aVALID).withReserve 3 1 (evlV 5)) = false ∧
    live.agreeCols [0] [(evlV 5, [100000], [0])] = false ∧
    ((repairState { arr := 1, slot := 1, step := 5 } aVALID).tuss 3).repair = some { arr := 1, slot := 1, step := 5 } ∧
    (repairState { arr := 1, slot := 1, step := 5 } aVALID).arrState 3 1 ≠ aWRITING := by decide +kernel

theorem witness_TokensDecideProvisionalJobs :
    ({ live with jobs := [{ job7 with stage := .provisional }], time := 3 * 8192 } : State).job 7 = some { job7 with stage := .provisional } ∧
    job7.chan < 4 ∧ job7.eng < 4 ∧ job7.tDone / 8192 + job7.horizon ≤ 3 ∧ ({ live with jobs := [job7] } : State).cplLost job7.ek = false ∧
    ({ checkState {} (some { trig := { trig1 with vecs := [evl7] } }) [] with jobs := [job7] } : State).arbInvolves 7 = true ∧
    ({ job7 with stage := .provisional } : Job).tDone / 8192 + job7.horizon > 2 ∧ job7.stage ≠ .provisional ∧
    (⟨9, 5, 1, some 4, 0⟩ : Prov) ∈ [(⟨9, 5, 1, some 4, 0⟩ : Prov)] ∧ (⟨9, 5, 1, some 4, 0⟩ : Prov).since + 32 ≤ 32 := by decide +kernel

/-- `live` with context 63 compared and READY, `ds` the digests it holds and an image of it, in swath `w`. -/
def replicaState (ds : List (Nat × (Nat × Nat))) (w : Nat) : State :=
  { liveW [(F.GRS_REP_CFG_EN, 1), (F.GRS_REP_CTX_CTX, 2 ^ 63), (F.GLB_CTX_STATE_STATE 63, 1), (F.GRS_REP_CFG_MEMBERS, 7)] with
    ctxs := [(63, { digests := ds })], time := w * 8192, images := [{ ptr := 0, ctx := 63, tid := 0, layers := [], stripes := [], valid := true }] }

/-- What REPLICA_DECISION counts in such a state for the period that began at swath `w`. -/
def counted (s : State) (w : Nat) : List (Nat × Nat) :=
  ((s.ctx 63).digests.filter fun p => p.1 / 8 == w && p.2.1 == s.get (F.GLB_CTX_TID_CUR_TID 63) &&
    bitOf (s.get F.GRS_REP_CFG_MEMBERS) (p.1 % 8)).map (fun p => (p.1 % 8, p.2.2))

theorem witness_ReplicasReportDecideAndReadmit :
    (replicaState [] 0).repCompared 63 = true ∧ (replicaState [] 0).get (F.GLB_CTX_STATE_STATE 63) = 1 ∧
    live.get (F.GLB_CTX_STATE_STATE 0) ≠ 1 ∧ (replicaState [] 0).swath % (replicaState [] 0).repPeriod = 0 ∧
    ((replicaState [] 0).ctx 63).digests = [] ∧ (replicaState [] 0).repSelf = true ∧
    ((replicaState [] 0).image ((replicaState [] 0).get (F.GLB_CTX_PTR_PTR 63))).isSome = true ∧ (replicaState [] 0).swath < 2 ^ 64 ∧
    ((replicaState [] 0).set F.GRS_REP_CFG_SELF 1).repSelf = false ∧ live.repCompared 0 = false ∧
    (replicaState [] 17).swath % (replicaState [] 17).repPeriod ≠ 0 ∧
    (∃ p ∈ ((replicaState [(128, (0, 5))] 16).ctx 63).digests, p.1 = 16 * 8 + (replicaState [] 16).get F.GRS_REP_CFG_SELF) ∧
    (replicaState [] 16).swath = 0 + 16 ∧ ((replicaState [] 16).ctx 63).decided ≠ 0 + 1 ∧
    counted (replicaState [(0, (0, 5)), (9, (0, 5))] 16) 0 = [(0, 5)] ∧
    counted (replicaState [(0, (0, 5)), (1, (0, 5)), (2, (0, 5))] 16) 0 = [(0, 5), (1, 5), (2, 5)] ∧
    counted (replicaState [(0, (0, 6)), (1, (0, 5)), (2, (0, 5))] 16) 0 = [(0, 6), (1, 5), (2, 5)] ∧
    counted (replicaState [(0, (0, 6)), (1, (0, 5)), (2, (0, 4))] 16) 0 = [(0, 6), (1, 5), (2, 4)] ∧
    (replicaState [] 16).get F.GRS_REP_CFG_SELF = 0 ∧ live.reach .GRS_REP_CTRL 0 = true ∧
    bitOf ((liveW [(F.GRS_REP_EXPELLED_EXPELLED, 2 ^ 63)]).get F.GRS_REP_EXPELLED_EXPELLED) 63 = true := by decide +kernel

/-! ### Calibration -/

/-- `live` with a window in Tussock 3 and the time given as a swath. -/
def windowState (w : Window) (swath : Nat) (fs : List (Fld × Nat)) : State :=
  { liveT 3 { window := some w } fs with time := swath * 8192 }

theorem witness_CalibrationPassesStartAndAbort :
    live.reach .BRK_CTRL 3 = true ∧ (live.tuss 3).pass = none ∧ ((liveT 3 { pass := some { from_ := 16 } } []).tuss 3).pass ≠ none ∧
    (liveT 3 { startPass := true } [(F.TSK_STATE_STATE 3, 1)]).runsT 3 = true ∧
    (liveT 3 { startPass := true } [(F.TSK_STATE_STATE 3, 1)]).tskState 3 = tSERVICE ∧
    ((liveT 3 { startPass := true } [(F.TSK_STATE_STATE 3, 1)]).tuss 3).pass = none ∧
    ((liveT 3 { startPass := true } []).tuss 3).startPass = true ∧
    (live.arrState 3 16 ≠ aQUAR ∧ live.arrState 3 16 ≠ aWFAULT) ∧ live.tskState 3 ≠ tSERVICE ∧ (live.chan (chanOf 3)).opened = false ∧
    (liveT 3 { abortDue := true, open_ := some 5, window := some { kind := .rotation, slot := 1, arr := 1, start := 0 } } []).onT 3 = true ∧
    (liveT 3 { abortDue := true, open_ := some 5 } []).tskState 3 ≠ tREEN ∧
    ((liveT 3 { abortDue := true, open_ := some 5 } []).tuss 3).abortDue = true ∧
    ((liveT 3 { abortDue := true, open_ := some 5 } []).tuss 3).open_ ≠ none ∧
    ((liveT 3 { abortDue := true, open_ := some 5 } []).tuss 3).open_ ≠ some (6 : BitVec 51).toNat ∧
    ((windowState { kind := .rotation, slot := 1, arr := 1, start := 0 } 0 []).tuss 3).window ≠ none ∧
    (∀ a ∈ ((liveT 3 { abandoned := [0, 16] } []).tuss 3).abandoned, a < 17) := by decide +kernel

theorem witness_WindowStagesFollow :
    ((windowState { kind := .rotation, slot := 1, arr := 1, start := 5 } 4 []).tuss 3).window =
      some { kind := .rotation, slot := 1, arr := 1, start := 5 } ∧ (windowState { kind := .transit, slot := 1, arr := 1, start := 5 } 4 []).swath = 4 ∧
    (windowState { kind := .rotation, slot := 1, arr := 1, start := 5 } 5 []).runsT 3 = true ∧
    ((windowState { kind := .rotation, slot := 1, arr := 1, start := 5 } 5 []).calCycles 3 1 []).2 = [] ∧
    ((windowState { kind := .rotation, slot := 1, arr := 1, start := 5 } 5 []).rowsFor 3 1).2.length = 512 ∧
    Window.offset { kind := .rotation, slot := 1, arr := 1, start := 5 } 16 = 11 ∧
    Window.offset { kind := .inPlace, slot := 1, arr := 1, start := 5 } 5 = 11 ∧
    live.arrState 3 (live.reserveOf 3) ≠ aWRITING ∧ Window.offset { kind := .rotation, slot := 1, arr := 1, start := 5 } 162 = 157 := by
  decide +kernel

/-- Row tests that find the first `n` rows' drivers off. -/
def badDrivers (n : Nat) : List (Nat × Int × Int) := (List.range n).map fun r => (r, 100000, 0)

theorem witness_WindowStagesFollow_results :
    (live.rowTests 3 16 []).2 = true ∧ (live.rowTests 3 16 (badDrivers 8)).2 = true ∧ (live.rowTests 3 16 (badDrivers 9)).2 = false ∧
    (live.calVerify 3 16 {} []).2.verified 0 = false ∧ (live.calVerify 3 16 { verN := 1 } []).2.verified 0 = true := by decide +kernel

/-- Tussock 7 in bring-up, its first group begun with swath 0, in swath `w`. -/
def bringing (w : Nat) : State :=
  { liveT 7 { aligned := true, bringAt := some 0 } [(F.TSK_STATE_STATE 7, 3)] with time := w * 8192 }

theorem witness_WindowsEndAndArraysReturn :
    ((windowState { kind := .rotation, slot := 1, arr := 16, start := 0, stage := 6, verified := true } 158 []).tuss 3).window =
      some { kind := .rotation, slot := 1, arr := 16, start := 0, stage := 6, verified := true } ∧
    Window.offset { kind := .rotation, slot := 1, arr := 16, start := 0 } 158 = 158 ∧
    ((windowState { kind := .rotation, slot := 1, arr := 16, start := 0 } 158 []).chan (chanOf 3)).opened = false ∧
    ((liveT 3 { refDue := true } []).tuss 3).refDue = true ∧ (live.tuss 3).refDue = false ∧ live.runsT 3 = true ∧
    (liveT 7 { aligned := true } [(F.TSK_STATE_STATE 7, 3)]).tskState 7 = tREEN ∧
    ((liveT 7 { aligned := true } [(F.TSK_STATE_STATE 7, 3)]).tuss 7).aligned = true ∧
    ((liveT 7 { aligned := true, bringup := 1 } []).tuss 7).bringup < 2 ∧
    ((liveT 7 { aligned := true } []).tuss 7).bringAt = none ∧
    (bringing 146).swath < 0 + 147 ∧ ((bringing 147).tuss 7).bringAt = some 0 ∧ 0 + 147 ≤ (bringing 147).swath ∧
    bringupGroup 1 ≠ [] ∧
    (liveW [(F.BRK_CFG_BRINGUP_RESTORED 7, 1), (F.TSK_RESTORE_TEMP_TEMP 7, 50), (F.BRK_SAVED_TEMP_TEMP 7, 51)]).on
      (F.BRK_CFG_BRINGUP_RESTORED 7) = true ∧ tempGap 50 51 ≤ live.trig 7 ∧
    live.on (F.BRK_CFG_BRINGUP_RESTORED 7) = false := by decide +kernel

theorem witness_TrimWordsReadAndWritten :
    live.reach .BRK_TRIM_DATA 3 = true ∧ State.reset.reach .BRK_TRIM_DATA 3 = false ∧ trimMask 16 0x4D ≠ 0 ∧ trimMask 16 0x4E = 0 ∧
    trimMask 17 7 ≠ 0 ∧ trimMask 17 8 = 0 ∧ live.tskState 3 = tQUAR ∧ live.tableOpen 3 16 = true ∧
    (liveW [(F.TSK_ARR_STATE_STATE 3 16, aVALID)]).tableOpen 3 16 = false ∧
    (liveW [(F.BRK_TRIM_SEL_ARRAY 3, 17), (F.BRK_TRIM_SEL_INDEX 3, 255)]).get (F.BRK_TRIM_SEL_ARRAY 3) = 17 := by decide +kernel

/-! ### Registers -/

theorem witness_ConfigurationWritesLand :
    live.reach .PCI_BAR2_BASE 0 = true ∧ live.reach .STL_ENC_POS 3 = true ∧ live.reach .STL_TQ_CFG 3 = true ∧
    (1 ≤ (64 : BitVec 7).toNat ∧ (64 : BitVec 7).toNat ≤ 64 ∧ (63 : BitVec 7).toNat < (64 : BitVec 7).toNat) ∧
    ¬(1 ≤ (65 : BitVec 7).toNat ∧ (65 : BitVec 7).toNat ≤ 64) ∧ ¬((1 : BitVec 7).toNat < (1 : BitVec 7).toNat) ∧
    live.reach .TSK_CONV_CFG 255 = true ∧ live.tableOpen 255 16 = true ∧ (live.arr 255 16).cfgLoad ≠ some live.time ∧
    ((liveT 255 { arrs := [(16, { cfgLoad := some 0 })] } []).arr 255 16).cfgLoad = some live.time ∧
    (liveW [(F.TSK_ARR_STATE_STATE 255 16, aVALID)]).tableOpen 255 16 = false ∧
    (liveW [(F.TSK_ARR_STATE_STATE 255 16, aVALID)]).get (F.TSK_CONV_CFG_RANGE 255 16) ≠ (7 : BitVec 3).toNat ∧
    live.reach .CHN_ENG_CFG 15 = true ∧ live.on (F.CHN_ENG_STATUS_RUNNING 15) = false ∧
    (liveW [(F.CHN_ENG_STATUS_RUNNING 15, 1)]).on (F.CHN_ENG_STATUS_RUNNING 15) = true ∧
    live.get (F.CHN_ENG_RING_BASE_BASE 15) = bitsOf 0 12 36 ∧ live.get (F.CHN_ENG_RING_BASE_BASE 15) ≠ bitsOf 0x1000 12 36 ∧
    bitOf 0x1046 12 = true ∧ (liveW [(F.CHN_ENG_CFG_RING_LOG2 15, 6), (F.CHN_ENG_CFG_CPL_LOG2 15, 4)]).ringsOk 15 = true ∧
    (liveW [(F.CHN_ENG_CFG_RING_LOG2 15, 5), (F.CHN_ENG_CFG_CPL_LOG2 15, 4)]).ringsOk 15 = false ∧
    live.reach (pinSpot (.out 15)).1 (pinSpot (.out 15)).2 = true ∧ bitsOf 3 0 2 = 3 ∧ bitsOf 12 2 2 = 3 ∧ bitsOf 2 0 2 ≠ 3 := by
  decide +kernel

/-- RST_N held low. -/
def heldReset : State := { State.reset with heather := { State.reset.heather with rstLow := true } }

theorem witness_TestAccessInstructions :
    heldReset.heather.rstLow = true ∧ State.reset.heather.rstLow = false := by decide

theorem witness_WordsOfA64BitRegister :
    (regAt 0x30100).isSome = true ∧
    ((regAt 0x30100).map fun x => (wordsOf x.r, x.word, live.readable x.r x.i, live.reach x.r x.i, State.reset.readable x.r x.i)) =
      some (2, 0, true, true, false) := by decide +kernel

theorem witness_RegisterWritesByAccessKind :
    live.powered .spine = true ∧ live.powered .pcie = true ∧ (0x37FFC : BitVec 24).toNat < 0x38000 ∧
    (live.tq 3).ovfAt ≠ some live.fieldClock ∧ (live.tq 3).dupAt ≠ some live.fieldClock ∧ 0x38400 ≤ (0x38400 : BitVec 24).toNat ∧ (0xFFFFFE : BitVec 24).toNat % 4 ≠ 0 := by decide +kernel

theorem witness_BoundariesOpenTheNextSwath :
    State.reset.powered .spine = false ∧ live.powered .spine = true ∧ live.powered .stile = true ∧ live.entry = none ∧
    live.stile.suspect = false ∧ 16 < (live.stile.skew + -17).natAbs ∧ (live.stile.skew + 16).natAbs ≤ 16 ∧
    ({ live with stile := { suspect := true, failedAt := 1 }, time := 2 * 8192 } : State).swath = 2 ∧ live.stile.linkLost = false := by decide +kernel

/-! ### Memory traffic -/

/-- `live` with guard 0 open to the host. -/
def hostState : State := liveW [(F.GLB_RGN_ATTR_PCI_RD 0, 1), (F.GLB_RGN_ATTR_PCI_WR 0, 1)]

theorem witness_HostTrafficThroughBar2 :
    hostState.latent = [] ∧ hostState.flits = [] ∧ ((1, Ecc.ue) ∈ ({ hostState with flits := [(1, Ecc.ue)] } : State).flits) ∧
    hostState.pcieRuns = true ∧ hostState.inCheckArea (0x1000 + 4096 - 1) = false ∧ live.powered .pcie = true ∧ hostState.get F.PCI_BAR2_BASE_BASE * 2 ^ 30 + (0x1000 : BitVec 38).toNat = 0x1000 ∧
    regionOf 0x1000 = .stack 0 ∧ live.powered (.stack 0) = true ∧ hostState.pcieFault true 0x1000 256 = none ∧
    (hostState.guardsFor .pcie true 0x1000 256) = [0] ∧ hostState.pcieFault false 0x1000 4096 = none ∧
    live.pcieFault true 0x1000 256 = some false ∧
    live.pcieFault false 0x1000 4096 = some false ∧ live.stallSwath ≠ live.swath + 1 ∧
    ({ live with stallSwath := 1 } : State).stallSwath = live.swath + 1 ∧ live.get F.GLB_RGN_FAULT_INFO_VALID = 0 ∧
    (liveW [(F.GLB_RGN_FAULT_INFO_VALID, 1)]).get F.GLB_RGN_FAULT_INFO_VALID ≠ 0 := by decide +kernel

/-! ### Rings -/

/-- Bytes stored at an address, with a block tag at `tag` of checksum `crc`, TENSOR_ID `tid` and SEQ 0. -/
def withBlock (s : State) (a : Nat) (ws : List Nat) (crc tid : Nat) : State :=
  { s with mem := Memory.writeN (Memory.writeN s.mem a (ws.flatMap fun w => leBytes 4 w)) (tagAddr a) (leBytes 4 crc ++ leBytes 4 tid) }

/-- Engine 15 runs with `n` entries submitted on a ring at 0x100000 whose first block holds words `ws`, in admission. -/
def ringState (k1 : Nat) (n : Nat) (ws : List Nat) (crc : Nat) : State :=
  withBlock { liveW [(F.CHN_ENG_RING_BASE_BASE 15, 0x100), (F.CHN_ENG_CFG_RING_LOG2 15, 6), (F.CHN_ENG_CFG_CPL_LOG2 15, 4),
      (F.CHN_ENG_CFG_FMT 15, k1), (F.CHN_ENG_CFG_EN 15, 1), (F.CHN_ADM_BUDGET_EFFECTIVE 3, 256)] with
    engines := [(15, { en := true, seen := true, prod := n })], chans := [(3, { opened := true })] } 0x100000 ws crc 0

/-- The state after the head of engine 15's ring was read and its slot looked for, with the head's job and fault. -/
def atHead (s : State) : Option (State × Job × Option (Nat × Nat)) :=
  match s.head 15 with
  | (s1, .job j _ f) =>
    match s1.slotFree 15 with
    | (s2, true) => if j.chan = 3 then some (s2, j, f) else none
    | _ => none
  | _ => none

/-- Its head is a job without fault that fits at some slide. -/
def fitsAt (s : State) : Bool := (atHead s).any fun (s2, j, f) => f.isNone &&
  decide ((s2.usedTags 3).length + j.tagCount ≤ 16384) && match s2.trySlides j (s2.beta 3) none (s2.slides j) with
    | .inr _ => true
    | _ => false

/-- Its head is a job without fault that fits at no slide, with `left` holds left. -/
def fitsNot (s : State) (left : Nat) : Bool := (atHead s).any fun (s2, j, f) => f.isNone &&
  decide ((s2.usedTags 3).length + j.tagCount ≤ 16384) && decide ((s2.engine 15).holdLeft.getD j.holdCount = left) &&
  match s2.trySlides j (s2.beta 3) none (s2.slides j) with
    | .inl _ => true
    | _ => false

/-- A job of one NOP, of one swath, with one tag and no hold. -/
def ring1 : State := ringState 0 2 [0x401, 0x1001, 1] 0x7C9DF70C

set_option maxRecDepth 100000 in
theorem witness_HeadJobsAreAdmittedHeldOrRefused :
    ring1.spanNext 3 = none ∧ ring1.admOpen 3 = true ∧ ring1.nextEngine 3 = some 3 ∧ (atHead ring1).any (fun x => !x.2.1.k1) = true ∧ fitsAt ring1 = true ∧
    fitsNot (ring1.set (F.CHN_ADM_BUDGET_EFFECTIVE 3) 0) 0 = true ∧
    fitsNot ((ringState 0 2 [0x100401, 0x1001, 1] 0xCCD33A98).set (F.CHN_ADM_BUDGET_EFFECTIVE 3) 0) 1 = true ∧
    (atHead { ringState 0 2 [0x401, 0x4000001, 1] 0x57EC364 with jobs := [{ job7 with chan := 3, tags := [0] }] }).any (fun x =>
      x.2.2.isNone && decide (16384 < (x.1.usedTags 3).length + x.2.1.tagCount)) = true ∧
    (atHead (ringState 0 2 [9] 0x9D212832)).map (fun x => x.2.2) = some (some (2, 0)) ∧
    (ringState 1 1 [6] 0x780D43AA).k1Op 15 = some 6 ∧ (ringState 1 1 [6] 0x780D43AA).nextEngine 3 = some 3 ∧
    (atHead (ringState 1 1 [6] 0x780D43AA)).map (fun x => x.2.2) = some (some (2, 0)) ∧
    (ringState 1 1 [1] 0x64C3CB34).k1Op 15 = some 1 ∧ (ringState 1 1 [1] 0x64C3CB34).nextEngine 3 = some 3 ∧
    (ringState 1 1 [3] 0xD84D488D).k1Op 15 = some 3 ∧ (ringState 1 1 [3] 0xD84D488D).nextEngine 3 = some 3 ∧
    (ringState 1 1 [4294965250, 0, 16, 7] 0xB2798892).k1Op 15 = some 2 ∧ (ringState 1 1 [4294965250, 0, 16, 7] 0xB2798892).nextEngine 3 = some 3 := by
  decide +kernel

set_option maxRecDepth 100000 in
theorem witness_HeadsThatAreNoJobsAreTaken :
    (ringState 0 1 [] 0xB872B190).admOpen 3 = true ∧ ((ringState 0 1 [] 0xB872B190).head 15).2 = .nop ∧ (ringState 0 1 [] 0xB872B190).k1Op 15 = none ∧
    (ringState 1 1 [] 0xB872B190).k1Op 15 = some 0 ∧ ((ringState 1 1 [] 0xB872B190).head 15).2 = .nop ∧
    (ringState 1 1 [4] 0xC483C013).k1Op 15 = some 4 ∧ ((ringState 1 1 [4] 0xC483C013).head 15).2 = .fence ∧
    (ringState 1 1 [5] 0x1832BAB7).k1Op 15 = some 5 ∧ ((ringState 1 1 [5] 0x1832BAB7).head 15).2 = .intr ∧
    (({ live with engines := [(15, { fence := true })] } : State).engine 15).fence = true ∧ live.ringQuiet 15 = true ∧
    (live.engine 15).fence = false := by decide +kernel

theorem witness_EnginesStartStopAndInterrupt :
    ({ live with fresh := true } : State).fresh = true ∧
    (({ live with engines := [(15, { seen := true })], chans := [(3, { opened := true })] } : State).chan 3).opened = true ∧
    (({ live with engines := [(15, { seen := true })] } : State).engine 15).seen = true ∧
    (({ live with engines := [(15, { seen := true })] } : State).engine 15).en = false ∧
    live.on (F.CHN_ENG_STATUS_RUNNING 15) = false ∧
    (({ live with engines := [(15, { en := true })] } : State).engine 15).en = true ∧
    (({ live with engines := [(15, { en := true })] } : State).engine 15).seen = false ∧ live.pcieRuns = true ∧
    bitOf ({ live with irq := { due := 2 ^ 63 } } : State).irq.due 63 = true ∧ bitOf live.irq.due 63 = false ∧
    (live.msixEntry 63).masked = true ∧
    (({ live with irq := { table := [(63, { masked := false })] } } : State).msixEntry 63).masked = false ∧
    bitOf live.irq.pba 63 = false ∧ bitOf ({ live with irq := { pba := 2 ^ 63 } } : State).irq.pba 63 = true := by decide +kernel

/-! ### Work of jobs -/

/-- Blocks stored with their tags: address, words, checksum, and TENSOR_ID with SEQ above it. -/
def withTagged (s : State) (bs : List (Nat × List Nat × Nat × Nat)) : State :=
  bs.foldl (fun s b => withBlock s b.1 b.2.1 b.2.2.1 b.2.2.2) s

/-- Job 7 with one body command, its class 10 and its work 5 swaths from swath 1 on. -/
def jobWith (c : List Nat) : Job := { job7 with hdr := [1 + 10 * 256, 1, 5, 0, 0, 0, 0, 0], cmds := [c] }

/-- `live` with guard 1 open to every engine over the host aperture. -/
def hostGuard : State :=
  liveW [(F.GLB_RGN_ATTR_EN 1, 1), (F.GLB_RGN_ATTR_ENG_RD 1, 15), (F.GLB_RGN_ATTR_ENG_WR 1, 15),
    (F.GLB_RGN_BASE_BASE 1, hostBase / 4096), (F.GLB_RGN_LIMIT_LIMIT 1, (hostBase + 4096) / 4096)]

/-- `hostGuard` in swath `w` with a job. -/
def jobState (w : Nat) (j : Job) : State := { hostGuard with time := w * 8192, jobs := [j] }

/-- The command of a job as the statements read it from `cmdDue`. -/
def dueOp (s : State) (op : Nat) : Bool := (s.workDue 7 1).any fun x => decide (cmdOp x.2 = op)

/-- A slot, or `n` slots, of a kind of R235 in the first work swath. -/
def slots1 (n kind unit : Nat) : Nat := kind * 2 ^ 12 + unit * 2 ^ 16 + n * 2 ^ 32
def slot1 (kind unit : Nat) : Nat := slots1 1 kind unit

/-- A COPY of one block in a mode, with the slots of its first way reserved. -/
def copyJob (mode src dst tag : Nat) : Job :=
  { jobWith [3 + mode * 2 ^ 20, 1, src % 2 ^ 32, src / 2 ^ 32, dst % 2 ^ 32, dst / 2 ^ 32, tag % 2 ^ 32, tag / 2 ^ 32] with
    prof := ((copyWays mode 0 src dst).headD []).map fun x => slot1 x.1 x.2 }

/-- What the statement asks of a COPY from an address. -/
def copyDue (s : State) (src : Nat) : Bool := (s.workDue 7 1).any fun x =>
  decide (cmdOp x.2 = 3) && decide (x.1.copied 1 < tfld x.2 1 0 24) && (s.copySlots x.1 x.2 0).isSome &&
    !s.otherVersion x.1 (tfld x.2 7 16 16) && decide (cmdAddr x.2 2 = src)

/-- A job whose one TASKS command has one template, in the last swath of its recompute allowance. -/
def tasksJob : Job := { jobWith [2 + 3 * 2 ^ 20, 1, 0, 0] with lists := [(1, [[0x100, 0, 0, 0, 0, 0, 0, 0]])] }

/-- `live` with the record of tensor 0 at 0x3000, INVALID. -/
def invalidState : State :=
  { live with
    recs := [(0, 0x3000)]
    mem := Memory.putBlock live.mem 0x3000 (Block.fresh (List.replicate 11 0 ++ [8] ++ List.replicate 244 0) 0 0) }

/-- Job 7 with a recompute allowance and an EVAL task whose results make block 20 of bank 3, of a production that is not judged. -/
def waitState : State :=
  let s := jobState 1 { tasksJob with
    hdr := [1 + 10 * 256, 1, 0x1000005, 0, 0, 0, 0, 0], lists := [(1, [[0x100, 0, 0, 0, 3 + 0x100000, 0, 0, 0]])] }
  { s with
    mem := Memory.putBlock s.mem (bankAddr 3 1)
      (Block.fresh (List.replicate 16 0 ++ leBytes 8 0x4000 ++ leBytes 4 0 ++ leBytes 4 512 ++ leBytes 2 20 ++ List.replicate 222 0) 0 0)
    prods := [{ job := 7, addr := 0x4000, tid := 5, scale := 0x3F800000, once := true }] }

set_option maxRecDepth 100000 in
theorem witness_TasksCopiesAndRowWritesOfJobs :
    (jobState 0 tasksJob).swath + 1 = tasksJob.swath + 1 + tasksJob.slide + cmdWso [2 + 3 * 2 ^ 20, 1, 0, 0] ∧ tasksJob.tags ≠ [] ∧
    cmdOp [2 + 3 * 2 ^ 20, 1, 0, 0] = 2 ∧ ¬(tasksJob.rcFirst ≤ 1 ∧ 1 < tasksJob.rcFirst + tasksJob.rcLen) ∧
    (let j := { tasksJob with hdr := [1 + 10 * 256, 1, 0x1000005, 0, 0, 0, 0, 0] }
     (j.rcFirst ≤ 1 ∧ 1 < j.rcFirst + j.rcLen) ∧ (jobState 0 j).rerunOn 7 = false ∧
       ({ jobState 0 j with prods := [{ job := 7, addr := 0, tid := 0, scale := 0, rerunScale := some 1 }] } : State).rerunOn 7 = true) ∧
    copyDue (withBlocks (jobState 1 (copyJob 0 0x1000 0x2000 0)) [0x1000]) 0x1000 = true ∧
    copyDue (jobState 1 (copyJob 1 hostBase (bankAddr 3 4) (hostBase + 8))) hostBase = true ∧
    hostGuard.accessFault (.eng 0) false hostBase 256 = none ∧ hostGuard.accessFault (.eng 0) false (hostBase + 8) 8 = none ∧
    copyDue (withBlocks (jobState 1 (copyJob 2 0x1000 hostBase (hostBase + 8))) [0x1000]) 0x1000 = true ∧
    hostGuard.accessFault (.eng 0) true hostBase 256 = none ∧ hostGuard.accessFault (.eng 0) true (hostBase + 8) 8 = none ∧
    copyDue (withBlocks (jobState 1 (copyJob 3 0x1000 0x2000 0)) [0x1000]) 0x1000 = true ∧
    ((withBlocks live [0x1000]).block 0x1000).check (some (0, ((withBlocks live [0x1000]).block 0x1000).seq)) = .ok ∧
    (live.block 0x1000).check (some (0, (live.block 0x1000).seq)) ≠ .ok ∧ live.accessFault (.eng 0) false 0x1000 256 = none ∧
    live.accessFault (.eng 0) true 0x2000 256 = none ∧ live.latentAt 0x1000 = .ok ∧ live.flits = [] ∧
    ((withBlocks live [0x1000]).tensorsValid 0 7 1 0 [0]).2 = true ∧ (invalidState.tensorsValid 0 7 1 0 [0]).2 = false ∧
    invalidState.recs.find? (fun p => p.1 == 0) = some (0, 0x3000) ∧
    (match (invalidState.readBytes 0 7 1 0 0x3000 32).2 with
      | some bs => bitOf (leAt bs 0x0B 1) 3
      | none => false) = true ∧
    (jobState 1 tasksJob).unjudged (some 7) 0x1000 256 = false ∧ waitState.unjudged (some 7) (bankAddr 3 20) 256 = true ∧
    (live.readBlock 0 7 1 0 0x1000 .ok (some (0, (live.block 0x1000).seq))).2 = none ∧ regionOf 0x1000 = .stack 0 := by decide +kernel

/-- An image of one stripe at 0x30000. -/
def image1 : Image := { ptr := 0x30000, ctx := 5, tid := 0, layers := [], stripes := [(0x30000, 4)], valid := true }

/-- An AWRITE of one row from the image's first block that holds rows, without mask and checksums, with the slots of a way. -/
def awriteJob : Job :=
  { jobWith [4 + 3 * 2 ^ 20, 1, 0x30100, 0, 0, 0, 0, 0] with
    vers := [(1, 0x30000)], prof := ((readWays 0x30100 (0, .local_ 3)).headD []).map fun x => slot1 x.1 x.2 }

/-- The state in which it is due. -/
def awriteState : State :=
  { withTagged (jobState 1 awriteJob) [(0x30100, [], 0xB872B190, 0x10000)] with images := [image1] }

set_option maxRecDepth 100000 in
theorem witness_RowWritesOfJobs :
    dueOp awriteState 4 = true ∧ awriteState.arrOf 3 0 < 17 ∧ awriteState.runsT 3 = true ∧
    (awriteJob.awriteSlots 1 3 0x30100 1).map (fun x => x.2) = some [1] ∧
    ({ awriteJob with prof := [] }.awriteSlots 1 3 0x30100 1).isNone = true ∧
    awriteState.writeFree 3 (awriteState.arrOf 3 0) = true ∧ awriteState.image 0x30000 = some image1 ∧
    ((image1.stripes.find? fun x => decide (x.1 ≤ 0x30100 ∧ 0x30100 < x.1 + x.2 * 256)).map fun x => x.1) = some 0x30000 ∧
    (awriteState.readRows 0 7 1 0x30100 0 1 [] 1 0).2.isSome = true := by decide +kernel

/-- An unlisted stack byte below the banks' alias reads 0. -/
theorem memDefault_low {a : Nat} (h : a < stackEnd) : memDefault a = 0 := by
  have hc : canon a = a := by
    unfold canon; rw [if_neg]; simp only [stackEnd, stackSize] at h; simp only [aliasBase]; omega
  have hr : regionOf a = .stack (a / stackSize) := by
    simp only [regionOf, hc]
    rw [if_pos h]
  unfold memDefault
  rw [if_neg (by simp only [stackEnd, stackSize] at h; simp only [tagBase]; omega), hr]

/-- Bytes of a stretch that lists no cell read as the default. -/
theorem getList_unlisted (m : List Host.Cell) (n a : Nat) (hl : a + n ≤ stackEnd)
    (h : (m.all fun c => decide (c.1 < a ∨ a + n ≤ c.1)) = true) : Tab.getList memDefault m a n = List.replicate n 0 := by
  induction n generalizing a with
  | zero => rfl
  | succ n ih =>
    have hf : ∀ t : List Host.Cell, (t.all fun c => decide (c.1 < a ∨ a + (n + 1) ≤ c.1)) = true → Tab.find t a = none := by
      intro t ht
      induction t with
      | nil => rfl
      | cons c t it =>
        simp only [List.all_cons, Bool.and_eq_true, decide_eq_true_eq] at ht
        obtain ⟨k, v⟩ := c
        have : k ≠ a := by have := ht.1; simp only at this; omega
        simp only [Tab.find, if_neg this]
        exact it ht.2
    simp only [Tab.getList, Tab.get, hf m h, memDefault_low (by omega : a < stackEnd), List.replicate_succ]
    rw [ih (a + 1) (by omega)]
    simp only [List.all_eq_true, decide_eq_true_eq] at h ⊢
    intro c hc
    have := h c hc
    omega

set_option maxRecDepth 100000 in
/-- The checksum of 256 zero bytes. -/
theorem crc_zeros : crc32c (List.replicate 256 0) = 0xB872B190 := by decide +kernel

/-- A stack block of unlisted payload under the tag of zeros has the checksum of its payload. -/
theorem zeros_good (s : State) (a : Nat) (hl : a + 256 ≤ stackEnd)
    (hm : (s.mem.all fun c => decide (c.1 < a ∨ a + 256 ≤ c.1)) = true) (ht : (s.block a).crc = 0xB872B190) :
    (s.block a).good = true := by
  have hc : canon a = a := by
    unfold canon; rw [if_neg]; simp only [stackEnd, stackSize] at hl; simp only [aliasBase]; omega
  have hd : (s.block a).data = List.replicate 256 0 := by
    show Tab.getList memDefault s.mem (canon a) 256 = _
    rw [hc]; exact getList_unlisted s.mem 256 a hl hm
  unfold Block.good; rw [hd, crc_zeros, ht]; rfl

/-- It passes its checks. -/
theorem zeros_check (s : State) (a tid seq : Nat) (hl : a + 256 ≤ stackEnd)
    (hm : (s.mem.all fun c => decide (c.1 < a ∨ a + 256 ≤ c.1)) = true)
    (ht : ((s.block a).crc, (s.block a).tid, (s.block a).seq) = (0xB872B190, tid, seq)) :
    (s.block a).check (some (tid, seq)) = .ok := by
  simp only [Prod.mk.injEq] at ht
  simp only [Block.check, zeros_good s a hl hm ht.1, ht.2.1, ht.2.2, and_self, if_true]

/-- Where no bit error and no flit error is about, a block of a stack comes as it is stored and its fetch changes nothing. -/
theorem fetched_clean (s : State) (n a job : Nat) (own : Bool) (hs : a < stackEnd) (hl : s.latent = []) (hf : s.flits = []) :
    s.fetched n a .ok job own = (s, s.block a) := by
  have hx : ∀ (b : Block) (xs : List Nat), s.crossing b xs = (s, b) := by
    intro b xs
    induction xs with
    | nil => rfl
    | cons x xs ih => simp only [State.crossing, hf, List.find?_nil]; exact ih
  have he : s.foundAt a .ok = .ok := by simp only [State.foundAt, State.latentAt, hl, List.find?_nil, Option.map_none, Option.getD_none, worseEcc]
  have hc : canon a = a := by
    unfold canon; rw [if_neg]; simp only [stackEnd, stackSize] at hs; simp only [aliasBase]; omega
  have hr : regionOf a = .stack (a / stackSize) := by
    simp only [regionOf, hc]
    rw [if_pos hs]
  unfold State.fetched
  simp only [he, State.blockAs, State.eccRead, hr]
  exact hx _ _

/-- A block of a stack that passes its checks is read and changes nothing, where no provisional entry stands and nothing is in
error. -/
theorem readBlock_good (s : State) (n job cmd unit a : Nat) (e : Option (Nat × Nat)) (own : Bool) (hs : a < stackEnd)
    (hp : s.provs = [] ∧ s.latent = [] ∧ s.flits = [])
    (ha : s.accessFault (.eng n) false a 256 = none) (hc : (s.block a).check e = .ok) :
    s.readBlock n job cmd unit a .ok e own = (s, some (s.block a)) := by
  simp only [State.readBlock, ha, fetched_clean s n a _ _ hs hp.2.1 hp.2.2, hc, State.provRead, State.provsOf, hp.1, List.filter_nil,
    List.isEmpty_nil, if_true]

/-- Blocks that pass their checks are read one after the other. -/
theorem readBlocks_good (s : State) (n job cmd unit : Nat) (hp : s.provs = [] ∧ s.latent = [] ∧ s.flits = []) (k a : Nat)
    (hs : a + k * 256 ≤ stackEnd)
    (h : ∀ x, x < k → s.accessFault (.eng n) false (a + x * 256) 256 = none ∧ (s.block (a + x * 256)).good = true) :
    ∃ bs, s.readBlocks n job cmd unit a [] k = (s, some bs) := by
  induction k generalizing a with
  | zero => exact ⟨[], by simp only [State.readBlocks]⟩
  | succ k ih =>
    obtain ⟨h0, g0⟩ := h 0 (by omega)
    rw [Nat.zero_mul, Nat.add_zero] at h0 g0
    obtain ⟨bs, hb⟩ := ih (a + 256) (by omega) fun x hx => by
      have := h (x + 1) (by omega)
      rwa [show a + (x + 1) * 256 = a + 256 + x * 256 by omega] at this
    refine ⟨(s.block a).data ++ bs, ?_⟩
    have hc : (s.block a).check none = .ok := by simp only [Block.check, g0, if_true]
    simp only [State.readBlocks, List.headD_nil, List.tail_nil, readBlock_good s n job cmd unit a none true (by omega) hp h0 hc, hb]

/-- A package whose blocks pass their checks reads whole and changes nothing, where no provisional entry stands. -/
theorem readPackage_good (s : State) (n job cmd pkg tid : Nat) (hp : s.provs = [] ∧ s.latent = [] ∧ s.flits = []) (k i : Nat)
    (hs : pkg + (i + k) * 256 ≤ stackEnd)
    (h : ∀ x, i ≤ x → x < i + k → s.accessFault (.eng n) false (pkg + x * 256) 256 = none ∧
      (s.block (pkg + x * 256)).check (some (tid, x % 65536)) = .ok) :
    ∃ bs, s.readPackage n job cmd pkg tid [] k i = (s, some bs) := by
  induction k generalizing i with
  | zero => exact ⟨[], rfl⟩
  | succ k ih =>
    obtain ⟨ha, hc⟩ := h i (Nat.le_refl i) (by omega)
    obtain ⟨bs, hb⟩ := ih (i + 1) (by rw [show i + 1 + k = i + (k + 1) by omega]; exact hs) fun x hx hk => h x (by omega) (by omega)
    refine ⟨(s.block (pkg + i * 256)).data ++ bs, ?_⟩
    simp only [State.readPackage, List.find?_nil, Option.map_none, Option.getD_none,
      readBlock_good s n job cmd _ _ _ _ (Nat.lt_of_lt_of_le (by omega) hs) hp ha hc, hb]

/-- A model package of one layer of one weight: a header, and the layer record, the placement and the scale in the blocks behind it. -/
def pkgBlocks : List (Nat × List Nat × Nat × Nat) :=
  [(0x20000, [0x4B504C4F, 0x1, 0xE, 0x0, 0x1, 0xB, 0x0, 0x1, 0x5], 0x67114239, 0x0),
   (0x20100, [], 0xB872B190, 0x10000),
   (0x20200, [], 0xB872B190, 0x20000),
   (0x20300, [], 0xB872B190, 0x30000),
   (0x20400, [], 0xB872B190, 0x40000),
   (0x20500, [], 0xB872B190, 0x50000),
   (0x20600, [], 0xB872B190, 0x60000),
   (0x20700, [], 0xB872B190, 0x70000),
   (0x20800, [], 0xB872B190, 0x80000),
   (0x20900, [], 0xB872B190, 0x90000),
   (0x20A00, [], 0xB872B190, 0xA0000),
   (0x20B00, [0x100, 0x10001, 0x10000, 0xC, 0xC, 0x1, 0xD], 0x9FD50282, 0xB0000),
   (0x20C00, [0x0, 0x0, 0x10000, 0x1], 0xB2E607F6, 0xC0000),
   (0x20D00, [0x0, 0x3F800000], 0x93884204, 0xD0000)]

/-- A test-pattern package in reserve mode with one vector. -/
def testBlocks : List (Nat × List Nat × Nat × Nat) :=
  [(0x20000, [0x54504C4F, 0x10001, 0xB, 0x10000], 0x2CD8446A, 0x0),
   (0x20100, [], 0xB872B190, 0x10000),
   (0x20200, [], 0xB872B190, 0x20000),
   (0x20300, [], 0xB872B190, 0x30000),
   (0x20400, [], 0xB872B190, 0x40000),
   (0x20500, [], 0xB872B190, 0x50000),
   (0x20600, [], 0xB872B190, 0x60000),
   (0x20700, [], 0xB872B190, 0x70000),
   (0x20800, [], 0xB872B190, 0x80000),
   (0x20900, [], 0xB872B190, 0x90000),
   (0x20A00, [], 0xB872B190, 0xA0000)]

/-- Job 7 with a TESTPAT on Tussock 3, its log at 0x40000, and slots of stack 0 for 11 blocks. -/
def testpatJob : Job := { jobWith [7 + 3 * 2 ^ 20, 1, 0x20000, 0, 0x40000, 0, 0, 0] with prof := [slots1 11 9 0] }

/-- `live` in swath 1 with that job, the slot of the package's first block taken. -/
def testpatState (bs : List (Nat × List Nat × Nat × Nat)) : State :=
  { withTagged (jobState 1 { testpatJob with used := [(1, (9, 0))] }) bs with testKey := [1] }

/-- Header fields of a package block. -/
def headerField (s : State) (o n : Nat) : Option Nat :=
  match s.readBlock 0 7 1 (unitOfAddr 0x20000) 0x20000 .ok none with
  | (_, some h) => some (leNat ((h.data.drop o).take n))
  | _ => none

set_option maxRecDepth 100000 in
theorem testpat_blocks : ((List.range 11).all fun x =>
    decide ((testpatState testBlocks).accessFault (.eng 0) false (0x20000 + x * 256) 256 = none) && (x == 0 ||
      (((testpatState testBlocks).mem.all fun c => decide (c.1 < 0x20000 + x * 256 ∨ 0x20000 + x * 256 + 256 ≤ c.1)) &&
        decide ((((testpatState testBlocks).block (0x20000 + x * 256)).crc, ((testpatState testBlocks).block (0x20000 + x * 256)).tid,
          ((testpatState testBlocks).block (0x20000 + x * 256)).seq) = (0xB872B190, 0, x % 65536))))) = true := by decide +kernel

set_option maxRecDepth 100000 in
theorem testpat_first : ((testpatState testBlocks).block 0x20000).check (some (0, 0)) = .ok := by decide +kernel

/-- The whole package reads after its header. -/
theorem testpat_reads : ∃ bs, (testpatState testBlocks).readPackage 0 7 1 0x20000 0 [] 11 0 = (testpatState testBlocks, some bs) := by
  refine readPackage_good _ 0 7 1 0x20000 0 ⟨rfl, rfl, rfl⟩ 11 0 (by simp only [stackEnd, stackSize]; omega) fun x _ hx => ?_
  have hz := testpat_blocks
  simp only [List.all_eq_true, List.mem_range, decide_eq_true_eq, Bool.or_eq_true, Bool.and_eq_true, beq_iff_eq] at hz
  obtain ⟨hg, h0 | ⟨hm, ht⟩⟩ := hz x (by omega)
  · subst h0; exact ⟨hg, testpat_first⟩
  · exact ⟨hg, zeros_check _ _ 0 _ (by simp only [stackEnd, stackSize]; omega)
      (by simpa only [List.all_eq_true, decide_eq_true_eq] using hm) ht⟩

/-- A verified test of job 7. -/
def test7 (reserve begun : Bool) : TestRun :=
  { job := 7, cmd := 1, g := 3, reserve := reserve, range := 0, vec := 0x20100, bound := 0x20300, tile := 0x20800, log := 0x40000,
    n := 1, verified := true, begun := begun }

/-- Cells at `n` addresses from an address on, whose bytes are the tags of blocks of zeros. -/
def zeroTags : Nat → Nat → List Host.Cell
  | _, 0 => []
  | a, n + 1 => (a, [0x90, 0xB1, 0x72, 0xB8, 0, 0, 0, 0].getD (a % 8) 0) :: zeroTags (a + 1) n

theorem zeroTags_find (n a x : Nat) (h : a ≤ x) (hx : x < a + n) :
    Tab.find (zeroTags a n) x = some ([0x90, 0xB1, 0x72, 0xB8, 0, 0, 0, 0].getD (x % 8) 0) := by
  induction n generalizing a with
  | zero => omega
  | succ n ih =>
    simp only [zeroTags, Tab.find]
    by_cases hax : a = x
    · subst hax; rw [if_pos rfl]
    · rw [if_neg hax]; exact ih (a + 1) (by omega) (by omega)

theorem zeroTags_low (n a : Nat) : ∀ c ∈ zeroTags a n, a ≤ c.1 := by
  induction n generalizing a with
  | zero => intro c h; cases h
  | succ n ih =>
    intro c h
    rcases List.mem_cons.1 h with rfl | h
    · exact Nat.le_refl a
    · have := ih (a + 1) c h; omega

/-- `testpatState` with that test, Tussock 3 in swath 1 with VALID arrays, and blocks of zeros from 0x20000 on. -/
def vectorState (reserve begun : Bool) : State :=
  let s := withs (testpatState []) ((List.range 17).map fun a => (F.TSK_ARR_STATE_STATE 3 a, aVALID))
  { s.setTuss 3 { open_ := some 1 } with tests := [test7 reserve begun], mem := zeroTags (tagAddr 0x20000) 2112 }

set_option maxRecDepth 100000 in
theorem vectorState_open (reserve begun : Bool) : ((List.range 264).all fun x =>
    decide ((vectorState reserve begun).accessFault (.eng 0) false (0x20000 + x * 256) 256 = none)) = true := by
  cases reserve <;> cases begun <;> decide +kernel

theorem vectorState_parts (reserve begun : Bool) : (vectorState reserve begun).mem = zeroTags (tagAddr 0x20000) 2112 ∧
    (vectorState reserve begun).provs = [] ∧ (vectorState reserve begun).latent = [] ∧ (vectorState reserve begun).flits = [] :=
  ⟨rfl, rfl, rfl, rfl⟩

theorem tagAddr_stack (a : Nat) (h : a < stackEnd) : tagAddr a = tagBase + a / 256 * 8 := by
  have hc : canon a = a := by
    unfold canon; rw [if_neg]; simp only [stackEnd, stackSize] at h; simp only [aliasBase]; omega
  have hr : regionOf a = .stack (a / stackSize) := by
    simp only [regionOf, hc]
    rw [if_pos h]
  unfold tagAddr
  simp only [hr]

theorem vectorState_crc (reserve begun : Bool) (x : Nat) (hx : x < 264) : ((vectorState reserve begun).block (0x20000 + x * 256)).crc = 0xB872B190 := by
  have ht := tagAddr_stack (0x20000 + x * 256) (by simp only [stackEnd, stackSize]; omega)
  have h0 := tagAddr_stack 0x20000 (by simp only [stackEnd, stackSize]; omega)
  have hc : canon (tagAddr (0x20000 + x * 256)) = tagAddr (0x20000 + x * 256) := by
    unfold canon; rw [if_neg]; rw [ht]; simp only [tagBase, aliasBase]; omega
  have hg : ∀ i, i < 4 → Tab.get memDefault (zeroTags (tagAddr 0x20000) 2112) (tagAddr (0x20000 + x * 256) + i) =
      [0x90, 0xB1, 0x72, 0xB8, 0, 0, 0, 0].getD i 0 := by
    intro i hi
    have : (tagAddr (0x20000 + x * 256) + i) % 8 = i := by rw [ht]; simp only [tagBase]; omega
    rw [Tab.get, zeroTags_find 2112 (tagAddr 0x20000) _ (by rw [ht, h0]; omega) (by rw [ht, h0]; omega), this]
  simp only [State.block, (vectorState_parts reserve begun).1, Memory.block, Block.ofBytes, Memory.readN, hc]
  have h1 := hg 0 (by omega); have h2 := hg 1 (by omega); have h3 := hg 2 (by omega); have h4 := hg 3 (by omega)
  simp only [Nat.add_zero] at h1
  simp only [Tab.getList, h1, h2, h3, h4, Nat.add_assoc, Nat.reduceAdd, List.take_succ_cons, List.take_zero]
  decide

/-- Up to 264 of the blocks are read. -/
theorem vectorState_reads (reserve begun : Bool) (unit b k : Nat) (h : b + k ≤ 264) :
    ∃ bs, (vectorState reserve begun).readBlocks 0 7 1 unit (0x20000 + b * 256) [] k = (vectorState reserve begun, some bs) := by
  refine readBlocks_good _ 0 7 1 _ (vectorState_parts reserve begun).2 k _ (by simp only [stackEnd, stackSize]; omega) fun x hx => ?_
  have hz := vectorState_open reserve begun
  simp only [List.all_eq_true, List.mem_range, decide_eq_true_eq] at hz
  have ha : (vectorState reserve begun).accessFault (.eng 0) false (0x20000 + (b + x) * 256) 256 = none := hz (b + x) (by omega)
  have hc := vectorState_crc reserve begun (b + x) (by omega)
  rw [show 0x20000 + (b + x) * 256 = 0x20000 + b * 256 + x * 256 by omega] at ha hc
  refine ⟨ha, zeros_good _ _ (by simp only [stackEnd, stackSize]; omega) ?_ hc⟩
  simp only [List.all_eq_true, decide_eq_true_eq, (vectorState_parts reserve begun).1]
  intro c h
  have := zeroTags_low 2112 (tagAddr 0x20000) c h
  rw [tagAddr_stack 0x20000 (by simp only [stackEnd, stackSize]; omega)] at this
  simp only [tagBase] at this
  omega

/-- A test reads one stretch of blocks after the other. -/
theorem testRead_cons (s : State) (n : Nat) (t : TestRun) (a k : Nat) (rest : List (Nat × Nat))
    (h : ∃ bs, s.readBlocks n t.job t.cmd (unitOfAddr a) a [] k = (s, some bs)) :
    s.testRead n t ((a, k) :: rest) = s.testRead n t rest := by
  obtain ⟨bs, h⟩ := h
  simp only [State.testRead, h]

/-- One stretch of a test's blocks. -/
theorem vectorState_step (reserve begun : Bool) (b k : Nat) (h : b + k ≤ 264) (rest : List (Nat × Nat)) :
    (vectorState reserve begun).testRead 0 (test7 reserve begun) ((0x20000 + b * 256, k) :: rest) =
      (vectorState reserve begun).testRead 0 (test7 reserve begun) rest :=
  testRead_cons _ _ _ _ _ _ (vectorState_reads reserve begun _ b k h)

theorem tests_read :
    (vectorState true false).testRead 0 (test7 true false) (test7 true false).reads = (vectorState true false, true) ∧
    (vectorState true true).testRead 0 (test7 true true) (test7 true true).reads = (vectorState true true, true) ∧
    (vectorState false false).testRead 0 (test7 false false) (test7 false false).reads = (vectorState false false, true) := by
  have h1 : (test7 true false).reads = [(0x20000 + 8 * 256, 256)] := by decide
  have h2 : (test7 true true).reads = [(0x20000 + 1 * 256, 2), (0x20000 + 3 * 256, 4)] := by decide
  have h3 : (test7 false false).reads = [(0x20000 + 1 * 256, 2), (0x20000 + 3 * 256, 1)] := by decide
  rw [h1, h2, h3, vectorState_step _ _ _ _ (by omega), vectorState_step _ _ _ _ (by omega), vectorState_step _ _ _ _ (by omega),
    vectorState_step _ _ _ _ (by omega), vectorState_step _ _ _ _ (by omega)]
  simp only [State.testRead, and_self]

set_option maxRecDepth 100000 in
theorem witness_DigestsTestPatternsAndRecordsOfJobs :
    dueOp (jobState 1 (jobWith [8 + 63 * 2 ^ 20, 0, 0x1000, 0, 0, 0, 0, 0])) 8 = true ∧ (live.digestBytes 63).length ≤ 256 ∧
    live.accessFault (.eng 1) true 0x1000 256 = none ∧ dueOp (jobState 1 testpatJob) 7 = true ∧
    ((testpatJob.packageSlots 1 0 0x20000 0 1).1.used, (testpatJob.packageSlots 1 0 0x20000 0 1).2) = ([(1, (9, 0))], [1]) ∧
    ({ testpatJob with prof := [] }.packageSlots 1 0 0x20000 0 1).2 ≠ [1] ∧
    ({ testpatJob with used := [(1, (9, 0))] }.packageSlots 1 0 0x20000 1 10).2.length = 10 ∧
    headerField (testpatState testBlocks) 0 4 = some 0x54504C4F ∧ headerField (testpatState testBlocks) 8 4 = some 11 ∧
    headerField (testpatState testBlocks) 0xE 2 = some 1 ∧ headerField (testpatState testBlocks) 6 1 = some 1 ∧
    headerField (testpatState [(0x20000, [], 0xB872B190, 0)]) 0 4 = some 0 ∧
    (vectorState true true).tests.find? (fun t => t.job == 7 && t.cmd == 1) = some (test7 true true) ∧ dueOp (vectorState true true) 7 = true ∧
    (vectorState true true).swath ≤ (jobWith []).lastWork ∧ ((vectorState true true).tuss 3).open_ = some (vectorState true true).swath ∧
    ((vectorState true true).tuss 3).reserveTaken (vectorState true true).swath = false ∧
    ((vectorState true true).arr 3 ((vectorState true true).reserveOf 3)).holds = {} ∧
    (({ repair := some { arr := 1, slot := 1, step := 2 } } : Tuss).reserveTaken 1) = true ∧
    ((vectorState false false).tuss 3).checkAt = none ∧
    (vectorState true true).cycleFree 3 9 [(vectorState true true).reserveOf 3] = true ∧ isRestoreSlot 3 1 9 = false ∧
    (vectorState true true).arrState 3 ((vectorState true true).reserveOf 3) = aVALID ∧
    (vectorState false false).get F.GRS_CFG_FRACTION ≠ 0 ∧ (vectorState false false).get F.GRS_CFG_FRACTION ≠ 5 ∧
    512 * (0 + 1) ≤ shadowClocks (vectorState false false).fractionNow ∧
    ((List.range 256).any fun c => (vectorState false false).isCheckSlot 3 1 c &&
      !(vectorState false false).arraysBusy 3 [0] (1 * 256 + c) && ((vectorState false false).rowUnder 3 0 (1 * 256 + c)).isNone) = true ∧
    (vectorState false false).arrState 3 ((vectorState false false).arrOf 3 0) = aVALID ∧ (test7 false false).taken.1 ≠ 1 ∧
    regionOf 0x40000 = .stack 0 ∧ (vectorState false false).accessFault (.eng 0) true 0x40000 32 = none ∧ (test7 true true).log % 32 = 0 ∧
    ({ jobWith [0] with expired := true }).stage = .running ∧ (jobWith [0]).expired = false ∧
    ((State.timeout (jobState 9 { jobWith [0] with expired := true }) 7).job 7).any (fun j =>
      (jobState 9 j).recordDue j && decide (j.errCode = 0x03)) = true ∧
    (jobState 9 (jobWith [0])).finished (jobWith [0]) = false ∧
    (jobState 9 { jobWith [0] with openTasks := 0 }).finished { jobWith [0] with openTasks := 0 } = true ∧
    (jobState 9 { jobWith [0] with openTasks := 0 }).recordDue { jobWith [0] with openTasks := 0 } = true ∧
    (jobWith [0]).checkOnly = false ∧ (jobWith [8]).checkOnly = true ∧
    (jobState 9 { jobWith [8] with openTasks := 0, cmdsDone := [1] }).recordDue { jobWith [8] with openTasks := 0, cmdsDone := [1] } = true ∧
    (jobState 9 { jobWith [0] with err := some ⟨3, 0, 0xFFFF, 0⟩ }).recordDue { jobWith [0] with err := some ⟨3, 0, 0xFFFF, 0⟩ } = true ∧
    live.cplLost 6 = false ∧ live.accessFault (.eng 1) true 0 64 = none := by decide +kernel

set_option maxRecDepth 100000 in
theorem witness_BlocksArriveWithTheirTags :
    live.powered (.core 1) = true ∧ live.accessFault (.eng 1) true 0x1000 256 = none ∧
    (⟨List.replicate 256 0, 0xB872B190, 5, 6⟩ : Block).check (some (5, 6)) = .ok ∧
    (⟨List.replicate 256 0, 0, 5, 6⟩ : Block).good = false ∧ (⟨List.replicate 256 0, 0, 5, 6⟩ : Block).poisoned = false ∧
    (live.accessFault (.eng 1) true (2 ^ 47 - 256) 256).isSome = true ∧
    dueOp (jobState 1 (copyJob 1 hostBase (bankAddr 3 4) (hostBase + 8))) 3 = true ∧
    tfld [3 + 2 ^ 20] 0 20 2 = 1 ∧ live.get F.PCI_T3_LAT_BOUND < 2 ^ 40 ∧
    (⟨List.replicate 256 0, 0xB872B190, 0, 6⟩ : Block).check (some (0, (job7.seqWanted 1 0 6))) = .ok ∧
    live.accessFault (.eng 1) true (bankAddr 3 4) 256 = none := by decide +kernel

/-! ### Packages and contexts -/

/-- Job 7 with a LOADPKG for context 5, and slots of stack 0 for 100 blocks. -/
def loadJob (dest : Nat) : Job :=
  { jobWith [5 + 5 * 2 ^ 20, 14, 0x20000, 0, dest, 0, 0, 0] with prof := [slots1 100 9 0] }

/-- `live` in swath 1 with that job, and the publisher key. -/
def loadpkgState (dest : Nat) : State :=
  { withTagged (jobState 1 (loadJob dest)) pkgBlocks with pubKeys := [(0, [1])] }

/-- The state in which the LOADPKG is due. -/
def loadState : State := loadpkgState 0x30000

set_option maxRecDepth 100000 in
theorem loadState_zeros : ((List.range 11).all fun x => x == 0 ||
    ((loadState.mem.all fun c => decide (c.1 < 0x20000 + x * 256 ∨ 0x20000 + x * 256 + 256 ≤ c.1)) &&
      decide (((loadState.block (0x20000 + x * 256)).crc, (loadState.block (0x20000 + x * 256)).tid,
        (loadState.block (0x20000 + x * 256)).seq) = (0xB872B190, 0, x % 65536)))) = true := by decide +kernel

set_option maxRecDepth 100000 in
theorem loadState_rest : ([0, 11, 12, 13].all fun x =>
    decide ((loadState.block (0x20000 + x * 256)).check (some (0, x % 65536)) = .ok)) = true := by decide +kernel

set_option maxRecDepth 100000 in
theorem loadState_guards : ((List.range 14).all fun x =>
    decide (loadState.accessFault (.eng 0) false (0x20000 + x * 256) 256 = none)) = true := by decide +kernel

theorem loadState_empty : loadState.images = [] ∧ loadState.provs = [] ∧ loadState.latent = [] ∧ loadState.flits = [] := by decide +kernel

theorem loadState_reads : ∃ bs, loadState.readPackage 0 7 1 0x20000 0 [] 14 0 = (loadState, some bs) := by
  refine readPackage_good loadState 0 7 1 0x20000 0 loadState_empty.2 14 0 (by simp only [stackEnd, stackSize]; omega) fun x _ hx => ?_
  have hg := loadState_guards
  have hz := loadState_zeros
  have hr := loadState_rest
  simp only [List.all_eq_true, List.mem_range, decide_eq_true_eq, Bool.or_eq_true, Bool.and_eq_true, beq_iff_eq] at hg hz hr
  refine ⟨hg x (by omega), ?_⟩
  by_cases h : 0 < x ∧ x < 11
  · obtain h0 | ⟨hm, ht⟩ := hz x h.2
    · omega
    · exact zeros_check loadState _ 0 _ (by simp only [stackEnd, stackSize]; omega)
        (by simpa only [List.all_eq_true, decide_eq_true_eq] using hm) ht
  · exact hr x (by simp only [List.mem_cons, List.not_mem_nil, or_false]; omega)

set_option maxRecDepth 100000 in
theorem loadState_header :
    (loadState.block 0x20000).check none = .ok ∧
    (let f := fun o n => leNat (((loadState.block 0x20000).data.drop o).take n)
     (f 0xC 2, f 6 1, (List.range 4).map fun k => f (0x20 + 4 * k) 4) = (0, 0, [5, 0, 0, 0])) ∧ loadState.fieldAt 0x30000 4 = 0 ∧
    loadState.headerBad 0x20000 14 = false ∧ (loadState.pubKeys.find? fun p => p.1 == 0) = some (0, [1]) ∧
    (imageStripes [5, 0, 0, 0] 0x30000).all (fun x => !loadState.overlaps x.1 x.2 &&
      decide (0x30000 % stackSize + x.2 * 256 ≤ stackSize)) = true ∧
    (imageStripes [5, 0, 0, 0] 0x30000).all (fun x => x.2 == 0 ||
      (loadState.accessFault (.eng 0) true x.1 (x.2 * 256)).isNone) = true := by decide +kernel

set_option maxRecDepth 100000 in
theorem loadState_builds : (match loadState.buildPkg 0x20000 14 0x30000 5 with
    | .inr _ => true
    | .inl _ => false) = true := by decide +kernel

/-- Clearing the magic where there is none, with no image, changes nothing. -/
theorem clearMagic_same (s : State) (n job cmd a : Nat) (hi : s.images = []) (hf : s.fieldAt a 4 = 0) :
    s.clearMagic n job cmd a = (s, true) := by
  have h : ({ s with images := s.images.filter fun i => i.ptr != a } : State) = s := by cases s; simp_all
  unfold State.clearMagic
  simp only [hf, h]
  rfl

/-- Bytes held of a package in a stack are the stack's own. -/
theorem holding_stack (s : State) (bs : List Byte) : s.holding 0x20000 bs = s := if_neg (by decide)

theorem loadState_built : ∃ b, loadState.buildPkg 0x20000 14 0x30000 5 = .inr b := by
  have h := loadState_builds
  generalize loadState.buildPkg 0x20000 14 0x30000 5 = x at h
  cases x with
  | inr b => exact ⟨b, rfl⟩
  | inl _ => cases h

theorem witness_PackageOfAGoodLoad :
    loadState.readBlock 0 7 1 (unitOfAddr 0x20000) 0x20000 .ok none = (loadState, some (loadState.block 0x20000)) ∧
    loadState.clearMagic 0 7 1 0x30000 = (loadState, true) ∧
    (loadState.holding 0x20000 (loadState.block 0x20000).data).headerBad 0x20000 14 = false ∧
    ∃ bs b, loadState.readPackage 0 7 1 0x20000 0 [] 14 0 = (loadState, some bs) ∧
      (loadState.holding 0x20000 bs).buildPkg 0x20000 14 0x30000 5 = .inr b := by
  have hg := loadState_guards
  simp only [List.all_eq_true, List.mem_range, decide_eq_true_eq] at hg
  obtain ⟨bs, hb⟩ := loadState_reads
  obtain ⟨b, hx⟩ := loadState_built
  exact ⟨readBlock_good loadState 0 7 1 _ _ _ _ (by decide) loadState_empty.2 (hg 0 (by omega)) loadState_header.1,
    clearMagic_same _ _ _ _ _ loadState_empty.1 loadState_header.2.2.1, by rw [holding_stack]; exact loadState_header.2.2.2.1,
    bs, b, hb, by rw [holding_stack]; exact hx⟩

/-- An image of context 5 stands at the destination, and no engine may write there. -/
def lockedState : State := { (jobState 1 (loadJob 0x30000)).set (F.GLB_RGN_ATTR_ENG_WR 0) 0 with
  mem := Memory.writeN live.mem 0x30000 (leBytes 4 0x4D494C4F) }

set_option maxRecDepth 100000 in
theorem witness_PackagesAreBuiltVerifiedAndPosted_slots :
    (lockedState.clearMagic 0 7 1 0x30000).2 = false ∧
    ((loadJob 0x30000).takeRun 1 2176 (loadJob 0x30000).lastWork 1 0 ((List.range 14).map fun i =>
      readWays (0x20000 + i * 256) (0, .core))).2.length = 14 ∧
    ({ loadJob 0x30000 with prof := [] }.takeRun 1 2176 (loadJob 0x30000).lastWork 1 0 ((List.range 14).map fun i =>
      readWays (0x20000 + i * 256) (0, .core))).2.length < 14 := by decide +kernel

/-- A load of job 7 verified in swath 0, with an image of no resident placements. -/
def load7 : Load := { job := 7, cmd := 1, chan := 0, ctx := 5, image := image1, manifest := leBytes 4 0x4D494C4F, verified := some 0 }

/-- That load waits in swath `w`. -/
def posting (w : Nat) : State := { jobState w (loadJob 0x30000) with loads := [load7] }

set_option maxRecDepth 100000 in
theorem witness_PackagesAreBuiltVerifiedAndPosted :
    dueOp (loadpkgState 0x30000) 5 = true ∧ stackEnd ≤ stackEnd ∧ 0x30001 % 4096 ≠ 0 ∧ 0x30000 < stackEnd ∧ 0x30000 % 4096 = 0 ∧
    (⟨7, 1, .package, [], [], [], 1⟩ : Verify).ready ≤ (jobState 1 job7).swath ∧
    (posting 1).loads.find? (fun l => l.job == 7 && l.cmd == 1) = some load7 ∧ load7.todo = [] ∧
    dueOp (posting 1) 5 = true ∧ 0 < (posting 1).swath ∧ (posting 1).swath ≤ (loadJob 0x30000).lastWork ∧
    (loadJob 0x30000).lastWork < (posting 6).swath ∧ load7.manifestBlocks.length = 1 ∧
    ((loadJob 0x30000).takeRun 1 (2 ^ 32) 1 1 0 (load7.manifestBlocks.zipIdx.map fun (x : List Byte × Nat) =>
      writeWays load7.chan (load7.image.ptr + x.2 * 256))).2.length = 1 ∧
    ({ loadJob 0x30000 with prof := [] }.takeRun 1 (2 ^ 32) 1 1 0 (load7.manifestBlocks.zipIdx.map fun (x : List Byte × Nat) =>
      writeWays load7.chan (load7.image.ptr + x.2 * 256))).2.length = 0 ∧
    ((posting 1).putManifest load7).postReason 5 0x30000 0x4D494C4F = none ∧
    ((jobState 1 job7).ctx 5).postSwath ≠ (jobState 1 job7).swath ∧
    dueOp (jobState 1 (jobWith [6 + 5 * 2 ^ 20, 0, 0x30000, 0, 0, 0, 0, 0])) 6 = true ∧
    (match ((jobState 1 (jobWith [6])).putManifest load7).readBlock (chanOfAddr 0x30000) 7 1 (unitOfAddr 0x30000) 0x30000 .ok none with
      | (_, some b) => decide (leNat (b.data.take 4) = 0x4D494C4F)
      | _ => false) = true ∧
    ((jobState 1 (jobWith [6])).putManifest load7).postReason 5 0x30000 0x4D494C4F = none ∧
    ({ live with images := [image1] } : State).image 0x30000 ≠ none ∧
    (({ live with images := [image1] } : State).readBlock (chanOfAddr 0x30000) 7 1 (unitOfAddr 0x30000) 0x30000 .ok none).2 = none ∧
    (liveW [(F.GLB_CTX_STATE_STATE 5, 1)]).get (F.GLB_CTX_STATE_STATE 5) ≠ 0 ∧ live.postReason 5 0 0 = none ∧
    live.postReason 5 0x30000 0 = some 9 := by decide +kernel

/-- Context 5 with a change to `image1` pending. -/
def changeState : State :=
  { liveW [(F.GLB_CTX_STATE_PENDING 5, 1), (F.GLB_CTX_PEND_PEND 5, 0x30000)] with images := [image1], fresh := true, time := 8192 }

theorem witness_ContextChangesTakeEffect :
    changeState.fresh = true ∧ live.fresh = false ∧ (changeState.ctx 5).postSwath < changeState.swath ∧
    changeState.stopped 0x40 = false ∧ (changeState.ctx 5).rqDue = [] ∧
    changeState.get (F.GLB_CTX_STATE_PENDING 5) ≠ 0 ∧ changeState.get (F.GLB_CTX_STATE_BATCH_OPEN 5) = 0 ∧
    changeState.get (F.GLB_CTX_STATE_STATE 5) < 2 ∧ changeState.image (changeState.get (F.GLB_CTX_PEND_PEND 5)) = some image1 ∧
    (liveW [(F.GLB_CTX_STATE_PENDING 5, 1)]).image 0 = none ∧ live.get (F.GLB_CTX_STATE_PENDING 5) = 0 ∧
    (liveW [(F.GLB_CTX_STATE_STATE 5, 2)]).get (F.GLB_CTX_STATE_STATE 5) = 2 ∧ (live.ctx 5).wave = [] ∧ (live.ctx 5).olds = [] ∧
    (liveW [(F.GLB_CTX_STATE_STATE 5, 3)]).get (F.GLB_CTX_STATE_STATE 5) = 3 := by decide +kernel

/-! ### Lea links -/

/-- `live` with port 1 in a state, its contents given, at device time `time`. -/
def leaS (st : Nat) (l : LeaPort) (time : Nat) (fs : List (Fld × Nat)) : State :=
  { liveW ((F.LEA_PORT_STATUS_STATE 1, st) :: fs) with leas := [(1, l)], time := time }

/-- A control frame, and a data frame of job 7. -/
def ctrlF : LeaFrame := .ctrl ⟨1, 2, 0, 15, 7, []⟩
def dataF : LeaFrame := .data true 0x1000 0 7 (List.replicate 256 0) 0xB872B190 0 0 (some (7, 1))

theorem witness_LeaPortsTrainReplayAndFail :
    live.reach .LEA_PORT_CFG 1 = true ∧ live.leaState 1 = lpDISABLED ∧ (leaS lpUP {} 0 []).leaState 1 ≠ lpDISABLED ∧
    (leaS lpUP {} 0 []).leaState 1 = lpUP ∧ live.stopped (0x60 + 1) = false ∧
    (leaS lpUP {} 0 [(F.LEA_PORT_CFG_EN 1, 1)]).on (F.LEA_PORT_CFG_EN 1) = true ∧ live.on (F.LEA_PORT_CFG_EN 1) = false ∧
    (leaS lpFAULT {} 0 []).leaState 1 = lpFAULT ∧ (leaS lpDOWN {} 0 []).leaState 1 = lpDOWN ∧ live.leaState 1 ≠ lpDOWN ∧
    (leaS lpTRAIN {} 0 []).powered .lea = true ∧ (leaS lpTRAIN {} 0 []).leaState 1 = lpTRAIN ∧
    (leaS lpALIGN {} 0 []).leaState 1 = lpALIGN ∧ (leaS lpEXCHANGE {} 0 []).leaState 1 = lpEXCHANGE ∧
    (leaS lpEXCHANGE { train := (1, 0, 2, 3, 4, 5), trainCnt := 2 } 0 []).get (F.LEA_PORT_CFG_RATE 1) = (0 : BitVec 8).toNat ∧
    (255 : BitVec 8).toNat ≠ live.get (F.LEA_PORT_CFG_RATE 1) ∧
    ((leaS lpEXCHANGE { train := (1, 0, 2, 3, 4, 5), trainCnt := 2 } 0 []).lea 1).train = (1, 0, 2, 3, 4, 5) ∧
    3 ≤ ((leaS lpEXCHANGE { train := (1, 0, 2, 3, 4, 5), trainCnt := 2 } 0 []).lea 1).trainCnt + 1 ∧
    (leaS lpDOWN {} 0 [(F.LEA_PORT_CFG_AUTO_RETRAIN 1, 1)]).on (F.LEA_PORT_CFG_AUTO_RETRAIN 1) = true ∧
    (((leaS lpUP { replay := [ctrlF], next := 1 } 0 []).leaAck 1 255).lea 1).replay = [ctrlF] ∧
    (((leaS lpUP { replay := [ctrlF], next := 1 } 0 []).leaAck 1 255).lea 1).episode = none ∧
    (((leaS lpUP { replay := [ctrlF], next := 1, episode := some ⟨4, 0, 1⟩ } 0 []).leaAck 1 255).lea 1).episode = some ⟨4, 0, 1⟩ ∧
    (leaS lpDOWN {} 9999 []).time < ((leaS lpDOWN {} 9999 []).lea 1).since + 10000 := by decide +kernel

theorem witness_LeaPortsTrainReplayAndFail_times :
    (leaS lpTRAIN {} 40000000 []).time ≤ ((leaS lpTRAIN {} 40000000 []).lea 1).since + 40000000 ∧
    ((leaS lpTRAIN {} 40000001 []).lea 1).since + 40000000 < (leaS lpTRAIN {} 40000001 []).time ∧
    (leaS lpALIGN {} 1000000 []).time ≤ ((leaS lpALIGN {} 1000000 []).lea 1).since + 1000000 ∧
    ((leaS lpALIGN {} 1000001 []).lea 1).since + 1000000 < (leaS lpALIGN {} 1000001 []).time ∧
    ((leaS lpEXCHANGE { agreedAt := some 0 } 100001 []).lea 1).agreedAt = some 0 ∧
    0 + 100000 < (leaS lpEXCHANGE { agreedAt := some 0 } 100001 []).time ∧
    ¬(0 + 100000 < (leaS lpEXCHANGE { agreedAt := some 0 } 100000 []).time) ∧ ((leaS lpEXCHANGE {} 100001 []).lea 1).agreedAt = none ∧
    ((leaS lpTRAIN {} 40000000 []).lea 1).since + 40000000 ≤ (leaS lpTRAIN {} 40000000 []).time ∧
    ((leaS lpALIGN {} 1000000 []).lea 1).since + 1000000 ≤ (leaS lpALIGN {} 1000000 []).time ∧
    0 + 100000 ≤ (leaS lpEXCHANGE { agreedAt := some 0 } 100000 []).time ∧
    ¬(((leaS lpTRAIN {} 39999999 []).lea 1).since + 40000000 ≤ (leaS lpTRAIN {} 39999999 []).time) ∧
    ((leaS lpDOWN {} 10000 []).lea 1).since + 10000 ≤ (leaS lpDOWN {} 10000 []).time ∧
    ((leaS lpUP { replay := [ctrlF], next := 1 } 512 []).lea 1).ackTime + 512 ≤ 512 ∧
    ((leaS lpUP { episode := some ⟨1, 0, 1⟩ } 10000 []).lea 1).episode = some ⟨1, 0, 1⟩ ∧
    (⟨1, 0, 1⟩ : Episode).since + 10000 ≤ (leaS lpUP { episode := some ⟨1, 0, 1⟩ } 10000 []).time ∧
    (leaS lpUP { episode := some ⟨1, 0, 1⟩ } 9999 []).time < (⟨1, 0, 1⟩ : Episode).since + 10000 ∧
    ((leaS lpUP {} 1024 []).lea 1).dcred = 0 ∧ ((leaS lpUP {} 1024 []).lea 1).dryTime + 1024 ≤ 1024 ∧
    ((leaS lpUP { dcred := 1 } 0 []).lea 1).dcred ≠ 0 := by decide +kernel

/-- The header of a frame with FSEQ 0 that acknowledges nothing. -/
def hdr0 : LeaHdr := ⟨0, 255, false, 0, 0, 0⟩

/-- A job that holds the frame slots of port 1 in swath 0. -/
def slotJob : Job := { job7 with units := [⟨1, 11, 1, 0, 1⟩] }

/-- Guard 0 open to Lea, routes to nodes 1 and 2 over port 1. -/
def leaOpen (fs : List (Fld × Nat)) : State :=
  leaS lpUP {} 0 (fs ++ [(F.GLB_RGN_ATTR_LEA_WR 0, 1), (⟨.LEA_ROUTE, 0, 0, 6, 1⟩, 1), (⟨.LEA_ROUTE, 0, 0, 4, 2⟩, 1)])

theorem witness_LeaFramesCarryBlocksAndMessages :
    (leaS lpEXCHANGE {} 8192 []).leaState 1 = lpEXCHANGE ∧
    ((leaS lpEXCHANGE {} 8192 []).leaPassed 1).1 < (leaS lpEXCHANGE {} 8192 []).leaSlots 1 ∧
    (leaS lpUP {} 0 []).stopped (0x60 + 1) = false ∧
    ({ leaS lpUP {} 0 [] with entry := some { target := 1, agreed := [0x61] } } : State).stopped (0x60 + 1) = true ∧
    (leaS lpUP {} 0 []).leaState 1 = lpUP ∧ (leaS lpUP {} 0 []).powered .lea = true ∧
    ((leaS lpUP { replay := [ctrlF, dataF], resend := 1, dcred := 1 } 0 []).lea 1).replay[2 - 1]? = some dataF ∧
    ((leaS lpUP { ctrl := [ctrlF], ccred := 1 } 0 []).lea 1).ctrl = ctrlF :: [] ∧
    ((leaS lpUP { data := [dataF], dcred := 1 } 0 []).lea 1).ctrl = [] ∧
    ({ leaS lpUP { data := [dataF], dcred := 1 } 0 [] with jobs := [slotJob] } : State).leaHolds 1 7 = true ∧
    takeFrame (fun f => f.owner.map Prod.fst == some 7) [dataF] = some (dataF, []) ∧
    ((leaS lpUP {} 0 []).leaPassed 1).1 < (leaS lpUP {} 0 []).leaSlots 1 ∧
    ¬(((leaS lpUP { slots := (0, 3200, []) } 8191 []).leaPassed 1).1 < (leaS lpUP { slots := (0, 3200, []) } 8191 []).leaSlots 1) ∧
    ((leaS lpUP { slots := (0, 3200, []) } 8192 []).leaPassed 1).1 < (leaS lpUP { slots := (0, 3200, []) } 8192 []).leaSlots 1 ∧
    (0 : BitVec 4).toNat < 8 ∧ (replicaState [] 0).swath < periodOf (List.replicate 52 0) + 16 ∧
    64 ≤ ((leaS lpUP { replay := List.replicate 64 ctrlF } 0 []).lea 1).replay.length ∧ hdr0.nak = false ∧
    hdr0.fseq.toNat = ((leaOpen []).lea 1).expect ∧ (leaOpen []).accessFault (.lea 1) true 0x1000 256 = none ∧
    (leaOpen []).memPowered 0x1000 = true ∧ (leaS lpUP {} 0 []).accessFault (.lea 1) true 0x1000 256 = some false ∧
    (leaOpen []).leaFaults.contains (1, 7, (leaOpen []).swath) = false ∧ (leaOpen []).routeTo 1 = some 1 ∧
    (leaOpen []).get (F.LEA_PORT_STATUS_PARTNER_1100 1) = 0 ∧ hdr0.fseq.toNat ≠ ((leaS lpUP { expect := 1 } 0 []).lea 1).expect ∧
    (leaOpen [(F.LEA_PORT_STATUS_PARTNER_1100 1, 1)]).get (F.LEA_PORT_STATUS_PARTNER_1100 1) ≠ 0 ∧
    (leaOpen []).chainRefs = [] ∧ (0 : BitVec 4).toNat = (leaOpen []).get F.LEA_NODE_NODE ∧
    (1 : BitVec 4).toNat ≠ (leaOpen []).get F.LEA_NODE_NODE ∧ (leaOpen []).routeTo 3 = none ∧
    (1 : BitVec 8).toNat ≠ 0 ∧ (replicaState [] 0).repSelf = true ∧ (replicaState [] 0).repCompared 63 = true ∧
    ({ leaOpen [] with jobs := [job7] } : State).jobOfTag ((16384 + 4095) / 16384) ((16384 + 4095) % 16384) = some job7 ∧
    job7.stage = .running ∧ 6 ≤ (255 : BitVec 8).toNat := by decide +kernel

/-! ### Field inputs -/

/-- `live` with encoder 3 in a state, at device time `time`. -/
def encS (e : EncState) (time : Nat) (fs : List (Fld × Nat)) : State :=
  { liveW fs with time := time, stile := { encs := [(3, e)] } }

/-- `live` with input 11 enabled for rising edges into queue 7, a level and its stuck bit, at device time `time`. -/
def finS (level stuck : Nat) (time : Nat) (f : FinState) (q : Tq) (fs : List (Fld × Nat)) : State :=
  { liveW ([(F.STL_FIN_CFG_EN 11, 1), (F.STL_FIN_CFG_EDGE 11, 1), (F.STL_FIN_CFG_QSEL 11, 7), (F.STL_FIN_STAT_LEVEL 11, level),
      (F.STL_FIN_STAT_STUCK_NOW 11, stuck), (F.STL_FIN_LIM_STUCK 11, 1), (F.STL_TQ_CFG_EN 7, 1)] ++ fs) with
    time := time, stile := { fins := [(11, f)], tqs := [(7, q)] } }

theorem witness_FieldEdgesAndEncodersAct :
    (finS 0 0 100 {} {} []).powered .stile = true ∧ (finS 0 0 100 {} {} []).on (F.STL_FIN_CFG_EN 11) = true ∧
    (finS 0 0 100 {} {} []).get (F.STL_FIN_CFG_FILT 11) ≤ (65535 : BitVec 16).toNat ∧
    (finS 0 0 100 {} {} []).get (F.STL_FIN_CFG_QSEL 11) = 7 ∧ (finS 0 0 100 {} {} []).on (F.STL_FIN_STAT_LEVEL 11) = false ∧
    (finS 0 1 100 {} {} []).on (F.STL_FIN_STAT_STUCK_NOW 11) = true ∧ bitOf ((finS 0 0 100 {} {} []).get (F.STL_FIN_CFG_EDGE 11)) 0 = true ∧
    bitOf ((finS 1 0 100 {} {} []).get (F.STL_FIN_CFG_EDGE 11)) 1 = false ∧
    (finS 0 0 100 { lastEvent := some 90 } {} [(F.STL_FIN_LIM_MIN_PERIOD 11, 1)]).finTooSoon 11 ((finS 0 0 100 {} {} []).stampAt 95) = true ∧
    (finS 0 0 100 {} {} []).finTooSoon 11 ((finS 0 0 100 {} {} []).stampAt 95) = false ∧ (finS 0 0 100 {} {} []).encSelAt 7 95 = 0 ∧
    ((finS 0 0 100 {} {} []).tq 7).burst.1 ≠ (finS 0 0 100 {} {} []).fieldClock ∧
    ((finS 0 0 100 { clrAt := some 20 } {} []).fin 11).clrAt = some (finS 0 0 100 { clrAt := some 20 } {} []).fieldClock ∧ (finS 0 0 100 {} {} []).on (F.STL_TQ_CFG_EN 7) = true ∧
    (finS 0 0 100 {} {} []).get (F.STL_TQ_STAT_OCC 7) < 64 ∧ 64 ≤ (finS 0 0 100 {} {} [(F.STL_TQ_STAT_OCC 7, 64)]).get (F.STL_TQ_STAT_OCC 7) ∧
    (live.on (F.STL_FIN_CFG_EN 11) = false) ∧ (finS 1 0 1000000 {} {} []).on (F.STL_FIN_STAT_LEVEL 11) = true ∧
    (finS 1 0 1000000 {} {} []).get (F.STL_FIN_LIM_STUCK 11) ≠ 0 ∧
    ((finS 1 0 1000000 {} {} []).fin 11).since + 1 * 1000000 ≤ (finS 1 0 1000000 {} {} []).stileTime ∧
    ((finS 0 1 10000000 {} {} []).fin 11).since + 10000000 ≤ (finS 0 1 10000000 {} {} []).stileTime ∧
    ((finS 0 0 100 { freeAt := some 20 } {} []).fin 11).freeAt = some (finS 0 0 100 { freeAt := some 20 } {} []).fieldClock ∧
    ((finS 0 0 100 {} { flushAt := some 20 } []).tq 7).flushAt = some (finS 0 0 100 {} { flushAt := some 20 } []).fieldClock ∧
    (finS 0 0 100 {} {} []).on (F.STL_FIN_STAT_STUCK_NOW 11) = false ∧ ((finS 0 0 100 {} {} []).fin 11).freeAt = none ∧
    ((finS 0 0 100 {} {} []).tq 7).flushAt = none ∧
    ¬((finS 0 0 100 {} {} [(F.STL_FIN_CFG_FILT 11, 3)]).get (F.STL_FIN_CFG_FILT 11) ≤ (2 : BitVec 16).toNat) ∧
    (encS {} 100 [(F.STL_ENC_CFG_FILT_E 3, 2)]).get (F.STL_ENC_CFG_FILT_E 3) ≤ (2 : BitVec 8).toNat ∧
    ¬((encS {} 100 [(F.STL_ENC_CFG_FILT_E 3, 2)]).get (F.STL_ENC_CFG_FILT_E 3) ≤ (1 : BitVec 8).toNat) ∧
    (((encS {} 100 []).enc 3).a ≠ true ∧ ((encS {} 100 []).enc 3).b ≠ true) ∧
    (((encS { b := true } 100 []).enc 3).a = false ∧ ((encS { b := true } 100 []).enc 3).b = true) ∧
    ((encS {} 100 []).enc 3).setAt ≠ some (encS {} 100 []).fieldClock ∧
    ((encS { setAt := some 20 } 100 []).enc 3).setAt = some (encS { setAt := some 20 } 100 []).fieldClock ∧
    (encS {} 100 [(F.STL_ENC_CFG_DIR 3, 1)]).on (F.STL_ENC_CFG_DIR 3) = true ∧
    (liveW [(F.STL_ENC_CFG_MODE 3, 2)]).get (F.STL_ENC_CFG_MODE 3) = 2 ∧ live.powered .stile = true ∧
    live.get (F.STL_ENC_CFG_MODE 3) = 0 ∧ (liveW [(F.STL_ENC_CFG_MODE 3, 1)]).get (F.STL_ENC_CFG_MODE 3) = 1 ∧
    (liveW [(F.STL_ENC_CFG_MODE 3, 3)]).get (F.STL_ENC_CFG_MODE 3) = 3 := by decide +kernel

theorem witness_TriggerQueuesPopFlushAndCompare :
    State.reset.reach .STL_TQ_POP 7 = false ∧ live.reach .STL_TQ_POP 7 = true ∧ (live.tq 7).entries = [] ∧
    ((finS 0 0 0 {} { entries := [⟨1, 2, 11, false, false, 0, 3⟩] } []).tq 7).entries = ⟨1, 2, 11, false, false, 0, 3⟩ :: [] ∧
    live.reach .STL_TQ_CFG 7 = true ∧ (64 : BitVec 7) ≠ 63 ∧
    ((finS 0 0 100 {} { flushAt := some 20 } []).tq 7).flushAt = some (finS 0 0 100 {} { flushAt := some 20 } []).fieldClock ∧
    (live.tq 7).flushAt ≠ some live.fieldClock ∧ (Popper.host ≠ .mgmt) := by decide +kernel

/-! ### Converters -/

/-- `live` with the scan given and fields set, at a device time. -/
def ainS (a : AinScan) (fs : List (Fld × Nat)) (time : Nat := 0) : State := { liveW fs with stile := { ain := a }, time := time }

/-- An injected and a scan conversion of channel 15. -/
def conv15 (inj : Bool) : Conv := ⟨1, 15, 15, inj, 0, 0x8000, 0⟩

theorem witness_AnalogueInputsConvertAndCalibrate :
    live.reach .STL_AIN_CFG 0 = true ∧ (live.get F.STL_AIN_CFG_MODE = 0 ∧ live.get F.STL_AIN_STATUS_BUSY = 0) ∧
    (liveW [(F.STL_AIN_CFG_MODE, 3)]).get F.STL_AIN_CFG_MODE ≠ 0 ∧ scanRefused 1 0 = true ∧ scanRefused 5 1 = false ∧
    live.reach .STL_AIN_PACE 0 = true ∧ bitsOf (0x61000000 : Word).toNat 24 2 = 1 ∧ 23 < bitsOf (0x61000000 : Word).toNat 26 5 ∧
    ¬(23 < bitsOf (0xB80 : Word).toNat 7 5) ∧ 23 < bitsOf (0xC00 : Word).toNat 7 5 ∧ bitsOf (6 : Word).toNat 1 2 = 3 ∧
    live.reach .STL_AIN_CTRL 0 = true ∧ (liveW [(F.STL_AIN_CFG_MODE, 1)]).get F.STL_AIN_CFG_MODE = 1 ∧ live.stile.ain.passes = [] ∧
    (ainS { passes := [⟨1, 0x8000, 1, 0, []⟩] } []).stile.ain.passes ≠ [] ∧ (liveW [(F.STL_AIN_MASK_MASK, 0)]).get F.STL_AIN_MASK_MASK = 0 ∧
    (liveW [(F.STL_AIN_MASK_MASK, 0x8000)]).get F.STL_AIN_MASK_MASK ≠ 0 ∧
    (ainS { adc1 := .startup none } [(F.STL_AIN_CFG_CONV_EN, 2)]).convEn 1 = true ∧
    (ainS { adc1 := .startup none } []).stile.ain.adc 1 = .startup none ∧ (ainS { adc1 := .idle } []).stile.ain.adc 1 = .idle ∧
    (liveW [(F.STL_AIN_CFG_MODE, 3)]).get F.STL_AIN_PACE_SRC = 0 ∧ live.stile.ain.paceAt ≤ live.stileTime ∧
    ((ainS { adc0 := .running (conv15 true) } []).stile.ain.adc 0).isRunning = true ∧ live.stile.ain.adc 0 = .down ∧
    (liveW [(F.STL_AIN_STATUS_CAL_BUSY, 1)]).get F.STL_AIN_STATUS_CAL_BUSY ≠ 0 ∧
    (liveW [(F.STL_AIN_CFG_MODE, 3), (F.STL_AIN_MASK_MASK, 0x8000)]).get F.STL_AIN_STATUS_CAL_BUSY = 0 ∧
    bitOf ((liveW [(F.STL_AIN_CFG_MODE, 3), (F.STL_AIN_MASK_MASK, 0x8000)]).get F.STL_AIN_MASK_MASK) 15 = true ∧
    (ainS { adc1 := .startup (some (conv15 true)) } []).stile.ain.adc 1 = .startup (some (conv15 true)) ∧
    (ainS { adc0 := .running (conv15 false), passes := [⟨1, 0x8000, 1, 0, []⟩] } []).stile.ain.passes.find? (fun p => p.id == 1) =
      some ⟨1, 0x8000, 1, 0, []⟩ ∧ live.get F.STL_AIN_CFG_OVS = 0 ∧
    (ainS { adc1 := .startup none, up1 := 2000 } [] 1999).stileTime < (ainS { adc1 := .startup none, up1 := 2000 } []).stile.ain.up 1 ∧
    (ainS { adc1 := .startup none, up1 := 2000 } []).stile.ain.up 1 ≤ (ainS { adc1 := .startup none, up1 := 2000 } [] 2000).stileTime ∧
    (ainS { adc1 := .startup none } []).stile.ain.startWaits = 0 ∧
    (ainS { adc1 := .startup none, startWaits := 2 } [(F.STL_AIN_CFG_MODE, 1)] 2000).stile.ain.startWaits ≠ 0 ∧
    (ainS { adc1 := .startup none, startWaits := 2 } [(F.STL_AIN_CFG_MODE, 1)] 2000).stile.ain.adc (1 - 1) ≠ .startup none ∧ live.get F.STL_AIN_CFG_MODE ≠ 2 ∧
    (ainS { adc0 := .running (conv15 false) } [] 199).stileTime < (conv15 false).acq + 200 ∧
    (conv15 false).acq + 200 ≤ (ainS { adc0 := .running (conv15 false) } [] 200).stileTime ∧
    (⟨1, 0x8000, 1, 0, []⟩ : Pass).vals.length + 1 = (⟨1, 0x8000, 1, 0, []⟩ : Pass).n ∧ (conv15 false).entry < 16 ∧
    (ainS { adc0 := .running (conv15 false) } []).stile.ain.groupCnt = 0 ∧ live.reach .STL_AIN_RES 15 = true ∧
    live.reach .STL_AIN_INJ_RES 0 = true ∧ State.reset.reach .STL_AIN_RES 15 = false := by decide +kernel

/-- `live` at a device time with output 3 given and fields set. -/
def aoutS (time : Nat) (o : Aout) (fs : List (Fld × Nat)) : State := { liveW fs with time := time, stile := { aouts := [(3, o)] } }

theorem witness_AnalogueOutputsFollowTheirRules :
    live.reach .STL_AOUT_CFG 3 = true ∧ 1 < bitsOf (2 : Word64).toNat 0 2 ∧ ¬(1 < bitsOf (1 : Word64).toNat 0 2) ∧
    live.reach .STL_AOUT_CTRL 0 = true ∧ (liveW [(F.STL_AOUT_STATUS_IN_SAFE 3, 1)]).get (F.STL_AOUT_STATUS_IN_SAFE 3) ≠ 0 ∧
    (liveW [(F.STL_AOUT_STATUS_IN_SAFE 3, 0)]).get (F.STL_AOUT_STATUS_IN_SAFE 3) = 0 ∧ (live.aout 3).src ≠ 1 ∧
    (aoutS 2 { ftw := 2 ^ 47 } [(F.STL_AOUT_STATUS_UPD_PENDING 3, 1)]).get (F.STL_AOUT_STATUS_UPD_PENDING 3) ≠ 0 ∧
    2 ^ 48 ≤ ((aoutS 2 { ftw := 2 ^ 47 } []).aout 3).acc + 2 ^ 47 * ((aoutS 2 { ftw := 2 ^ 47 } []).dacClock - 0) ∧
    ((aoutS 0 {} []).aout 3).acc + 0 < 2 ^ 48 ∧ (live.aout 3).causes = 0 ∧ ((aoutS 0 { causes := 16 } []).aout 3).causes ≠ 0 ∧
    live.powered .stile = true ∧ (liveW [(F.STL_AOUT_CFG_TRIG_EN 3, 1)]).get (F.STL_AOUT_CFG_TRIG_EN 3) ≠ 0 ∧
    ((aoutS 2 { ftw := 2 ^ 47 } []).aout 3).passes 1 (aoutS 2 { ftw := 2 ^ 47 } []).dacClock = true ∧
    ((aoutS 0 { owed := true } []).aout 3).owed = true ∧ (live.aout 3).owed = false ∧ (live.get F.STL_AIN_PACE_SRC ≠ 2) ∧
    (liveW [(F.STL_AIN_MASK_MASK, 0x8000)]).stile.ain.passes = [] ∧
    (liveW [(F.STL_AIN_PACE_SRC, 2), (F.STL_AIN_PACE_SEL, 3), (F.STL_AIN_CFG_MODE, 3)]).get F.STL_AIN_PACE_SEL = 3 := by decide +kernel

/-! ### Heat -/

theorem witness_HeatThrottlesAndTrips :
    live.powered .spine = true ∧ (([(5, 0, 400)] : List (Sens × BitVec 16 × Int)).map fun x => x.1).Nodup ∧
    (live.sensor 5).broken = false ∧ (live.sensor 5).reported = false ∧ (400 : Int) < 8 * max 90 (min 115 (live.get F.THM_CFG_TRIP : Int)) ∧
    8 * max 90 (min 115 (live.get F.THM_CFG_TRIP : Int)) ≤ (1000 : Int) ∧ (-320 ≤ (1000 : Int) ∧ (1000 : Int) ≤ 1200) ∧
    ((List.range 164).all fun k => live.get (F.THM_SENS_BROKEN k) == 1) = true ∧
    ({ live with sensors := [(5, { hist := [(0, 100)] })], time := 1000000 } : State).sensor 5 = { hist := [(0, 100)] } ∧
    min 300 (live.get F.THM_PWR_PWR_LIM : Int) < min 360 (live.get F.THM_PWR_PEAK_LIM : Int) ∧ live.reach .THM_CTRL 0 = true ∧
    ({ live with heather := { tripped := true } } : State).heather.tripped = true ∧ (679 : Int) < 8 * (({ live with heather := { tripped := true, restart := 85 } } : State).heather.restart : Int) ∧
    8 * (({ live with heather := { tripped := true, restart := 85 } } : State).heather.restart : Int) ≤ 680 ∧ (-320 ≤ (920 : Int) ∧ (920 : Int) ≤ 1200) ∧
    live.get F.PWR_STATUS_STATE ≠ 3 ∧     live.heather.tripped = false ∧ (liveW [(F.PWR_STATUS_STATE, 3)]).get F.PWR_STATUS_STATE = 3 := by decide +kernel

/-! ### Power states -/

/-- An erased flash reads 0xFF everywhere. -/
theorem flash_erased (s : State) (h : s.flash = []) (a n : Nat) : s.flashBytes a n = List.replicate n 0xFF := by
  unfold State.flashBytes
  rw [h]
  induction n generalizing a with
  | zero => rfl
  | succ n ih => rw [Tab.getList, ih (a + 1)]; rfl

/-- Every record of erased bytes has the type 0xFFFF. -/
theorem records_erased (fuel n : Nat) : ∀ r ∈ parseRecords fuel (List.replicate n 0xFF), r.ty = 65535 := by
  induction fuel generalizing n with
  | zero => intro r hr; cases hr
  | succ fuel ih =>
    intro r hr
    unfold parseRecords at hr
    split at hr
    · cases hr
    · rename_i hn
      rw [List.length_replicate] at hn
      simp only [List.drop_replicate, List.mem_cons] at hr
      obtain rfl | hr := hr
      · have h2 : (List.replicate n (0xFF : Byte)).take 2 = [0xFF, 0xFF] := by
          rw [List.take_replicate, Nat.min_eq_left (by omega)]; rfl
        simp only [h2]
        decide
      · exact ih _ r hr

/-- With the flash erased the bank holds no record of a type of R438. -/
theorem recordsOf_erased (s : State) (h : s.flash = []) {ty : Nat} (ht : ty < 65535) : s.recordsOf ty = [] := by
  have hb : ∀ r ∈ s.bankRecords, r.ty = 65535 := by
    unfold State.bankRecords
    cases hk : s.bank (s.get F.BOOT_STATUS_BANK) with
    | none => intro r hr; cases hr
    | some b =>
      have : ∃ n, b.body = List.replicate n 0xFF := by
        unfold State.bank at hk
        simp only at hk
        split at hk
        · cases hk
        · split at hk
          · simp only [Option.some.injEq] at hk
            rw [← hk]
            exact ⟨_, flash_erased s h _ _⟩
          · cases hk
      obtain ⟨n, hn⟩ := this
      simp only [hn, List.drop_replicate]
      exact records_erased _ _
  unfold State.recordsOf
  rw [List.filter_eq_nil_iff]
  intro r hr
  have := hb r hr
  simp only [beq_iff_eq, this]
  omega

/-- An entry into a state in progress that has not been agreed to by any block. -/
def entryS (x : Nat) (agreed : List Nat) (wake : Option Nat) (time : Nat) : State :=
  { liveW [(F.PWR_WAKE_EN_EN, 15)] with entry := some { target := x, agreed := agreed, wake := wake }, time := time }

/-- The device in a power state with all wake sources enabled, a wake under way with its source and instant, at a device time. -/
def sleepS (x : Nat) (w : Option (Nat × Nat)) (time : Nat := 0) : State :=
  { liveW [(F.PWR_STATUS_STATE, x), (F.PWR_WAKE_EN_EN, 15), (F.PWR_WAKE_TIMER_US, 1)] with waking := w, time := time }

/-- In Deep sleep with registers saved. -/
def deepS : State := { sleepS 3 (some (0, 0)) with heather := { (sleepS 3 none).heather with save := some [(F.PWR_WAKE_EN_EN.key, 1)] } }

theorem witness_PowerStatesAreEnteredAndLeft :
    live.reach .PWR_CTRL 0 = true ∧ live.get F.PWR_STATUS_STATE = 0 ∧ live.entry = none ∧ ¬(1 ≤ (0 : BitVec 3).toNat) ∧
    ¬((5 : BitVec 3).toNat ≤ 4) ∧ (entryS 1 [] none 0).entry ≠ none ∧ bitOf ((liveW [(F.PWR_WAKE_EN_EN, 15)]).kept F.PWR_WAKE_EN_EN) 3 = true ∧
    bitOf ((liveW [(F.PWR_WAKE_EN_EN, 15)]).get F.PWR_WAKE_EN_EN) 3 = true ∧
    (PwrEntry.asking { target := 1 }).map Prod.snd ≠ [] ∧ (entryS 1 [] none 0).blockIdle 0x10 = true ∧
    (entryS 1 [] none 0).blockRefuses 0x10 = false ∧ (PwrEntry.asking { target := 1 }).any (fun b => b.2 == 0x10) = true ∧
    ({ live with boot := { switch := some (0, 1) } } : State).blockRefuses 0x50 = true ∧
    0 + max 1 (live.get F.PWR_CFG_DELAY_LIMIT) * 1000000 < 2 ^ 40 ∧ (sleepS 1 none).get F.PWR_STATUS_STATE = 1 ∧
    (sleepS 3 none).get F.PWR_STATUS_STATE = 3 ∧ (sleepS 4 none).get F.PWR_STATUS_STATE = 4 ∧ (sleepS 2 (some (0, 0))).waking ≠ none ∧
    (sleepS 2 none).waking = none ∧ (sleepS 2 (some (0, 0)) 199999).time < 0 + 200000 ∧ 0 + 200000 ≤ (sleepS 2 (some (0, 0)) 200000).time ∧
    (sleepS 1 (some (3, 0)) 1999).time < 0 + 2000 ∧ 0 + 2000 ≤ (sleepS 1 (some (3, 0)) 2000).time ∧
    (sleepS 1 none 1000).get F.PWR_WAKE_TIMER_US ≠ 0 ∧
    (sleepS 1 none 1000).slept + (sleepS 1 none 1000).get F.PWR_WAKE_TIMER_US * 1000 ≤ (sleepS 1 none 1000).time ∧
    (entryS 1 [] none 0).entry.isSome = true ∧ live.entry = none ∧ deepS.waking = some (0, 0) ∧ deepS.heather.save = some [(F.PWR_WAKE_EN_EN.key, 1)] ∧
    deepS.heather.phase = .on ∧ deepS.flash = [] ∧ F.PWR_WAKE_EN_EN.key / 2 ^ 24 ≠ RegName.PWR_DOMAIN.ctorIdx ∧
    F.PWR_WAKE_EN_EN.r ∈ savedRegs ∧ live.reach .PWR_QUARTER_OFF 0 = true ∧
    bitOf (live.get F.PWR_QUARTER_OFF_OFF) 15 = false ∧
    ((List.range 256).all fun g => g / 16 != 15 || live.get (F.TSK_STATE_STATE g) == 2) = true ∧
    (liveW [(F.TSK_STATE_STATE 255, 1)]).get (F.TSK_STATE_STATE 255) ≠ 2 ∧
    ({ live with quarters := [(15, false)] } : State).quarters.find? (fun p => p.1 == 15) = some (15, false) ∧
    live.quarters.find? (fun p => p.1 == 15) = none ∧
    live.get F.BOOT_STATUS_READY ≠ 0 ∧ (liveW [(F.PWR_DOMAIN_QUARTER, 0x7FFF)]).powered (.quarter 15) = false ∧
    (∀ p, p < 15 → (liveW [(F.PWR_DOMAIN_QUARTER, 0x7FFF)]).powered (.quarter p) = true) ∧
    live.powered (.core 3) = true ∧ 15 ∉ live.heather.dark ∧ bitOf (live.get F.GLB_CHN_STATUS_REINIT_BUSY) 3 = false := by decide +kernel

theorem witness_NoRecordsAfterDeepSleep (regs : List (Nat × Nat)) (ty : Nat) (h : ty ∈ [1, 5, 6]) :
    State.recordsOf { deepS with regs := regs } ty = [] :=
  recordsOf_erased _ rfl (by simp only [List.mem_cons, List.not_mem_nil, or_false] at h; omega)

/-! ### Rails, starts and channels -/

/-- A phase of Heather island. -/
def phaseS (h : Heather) : State := { State.reset with heather := h }

/-- A start that waits for the recheck of stage 5, after a trip. -/
def recheckS : State :=
  withs (phaseS { phase := .starting, tripped := true, mainEn := true }) [(F.BOOT_STATUS_STAGE, 5)]

theorem witness_RailsStartsAndChannelService :
    (State.reset.heather.phase = .railsDown ∧ State.reset.heather.mayRise = true) ∧
    ((phaseS { phase := .rising }).heather.phase = .rising ∧ (phaseS { phase := .rising }).heather.mainGood = false) ∧
    State.reset.heather.mainEn = false ∧ live.heather.mainEn = true ∧ live.heather.phase = .on ∧
    (phaseS { phase := .starting }).heather.phase = .starting ∧
    (let s : State := { phaseS { phase := .starting } with time := 4999000000 }; s.heather.wdog * 1000000000 ≤ s.time + 1000000) ∧
    (let s : State := { phaseS { phase := .starting } with time := 4998999999 }; s.time + 1000000 < s.heather.wdog * 1000000000) ∧ State.reset.powered .pcie = false ∧ live.powered .pcie = true ∧
    (phaseS { phase := .release, tripped := true }).heather.gate = false ∧
    (phaseS { phase := .held }).heather.tripped = false ∧
    (withs (phaseS { phase := .railsDown, tripped := true }) [(F.PWR_STATUS_STATE, 4)]).get F.PWR_STATUS_STATE = 4 ∧
    (phaseS { phase := .railsDown, tripped := true }).heather.tripped = true ∧ State.reset.heather.tripped = false ∧
    (phaseS { phase := .release, cause := 6 }).heather.cause = 6 ∧ (phaseS { phase := .release }).heather.count + 1 < 4 ∧
    (phaseS { phase := .release }).heather.fallow = 0 ∧ recheckS.heather.phase = .starting ∧ recheckS.get F.BOOT_STATUS_STAGE = 5 ∧
    recheckS.heather.tripped = true ∧ (679 : Int) < 8 * (min 85 (recheckS.get F.THM_RATE_RESTART) : Nat) ∧ recheckS.flash = [] ∧
    live.reach .GLB_CHN_CTRL 0 = true ∧ bitOf ((liveW [(F.GLB_CHN_STATUS_DRAINED, 8)]).get F.GLB_CHN_STATUS_DRAINED) 3 = true ∧
    bitOf (live.get F.GLB_CHN_STATUS_REINIT_BUSY) 3 = false ∧ live.get F.BOOT_STATUS_READY ≠ 0 ∧
    bitOf ((liveW [(F.GLB_CHN_CTRL_DRAIN, 8)]).get F.GLB_CHN_CTRL_DRAIN) 3 = true ∧
    (({ live with chans := [(3, { drain := true })] } : State).chan 3).drain = true ∧ live.jobs = [] ∧
    bitOf ((liveW [(F.GLB_CHN_STATUS_REINIT_BUSY, 8)]).get F.GLB_CHN_STATUS_REINIT_BUSY) 3 = true ∧
    State.reset.powered (.stack 3) = false ∧ live.powered (.stack 3) = true ∧
    slotJob.holdsIn 1 = true ∧ slotJob.holdsIn 3 = false ∧ slotJob.chan ≠ 3 ∧ ({ slotJob with chan := 0, units := [⟨1, 11, 1, 0, 1⟩] } : Job).holdsIn 1 = true := by decide +kernel

theorem witness_NoRecordsAtTheRecheck (regs : List (Nat × Nat)) (ty : Nat) (_ : 3 ≤ ty) (h : ty ≤ 11) :
    State.recordsOf { recheckS with regs := regs } ty = [] := recordsOf_erased _ rfl (by omega)

/-! ### Mailboxes and standing programs -/

/-- The erased flash holds no firmware in either slot. -/
theorem slotInfo_erased (s : State) (h : s.flash = []) (i : Nat) : s.slotInfo i = none := by
  unfold State.slotInfo
  simp only [flash_erased s h, List.take_replicate, List.drop_replicate]
  rw [if_pos]
  exact Or.inl (by decide)

theorem witness_MailboxesSwitchFirmwareAndAttest :
    live.reach .BOOT_CTRL 0 = true ∧ live.boot.switch = none ∧
    ({ live with boot := { switch := some (0, 1) }, time := 1000000001 } : State).boot.switch = some (0, 1) ∧
    (0 : Nat) + 1000000000 < 1000000001 ∧ live.time ≤ 1000000000 ∧ live.flash = [] ∧ live.reach .BOOT_MBOX_CMD 0 = true ∧
    1 < (liveW [(F.PWR_STATUS_STATE, 2)]).get F.PWR_STATUS_STATE ∧ (liveW [(F.PWR_STATUS_STATE, 1)]).get F.PWR_STATUS_STATE ≤ 1 ∧
    (liveW [(F.BOOT_MBOX_STATUS_BUSY, 1)]).get F.BOOT_MBOX_STATUS_BUSY ≠ 0 ∧ live.get F.BOOT_MBOX_STATUS_BUSY = 0 ∧
    (liveW [(F.BOOT_MBOX_ARG_ADDR, 0x2400000)]).get F.BOOT_MBOX_ARG_ADDR = 0x2400000 ∧
    (liveW [(F.BOOT_MBOX_ARG_ADDR, 0x1FFF)]).get F.BOOT_MBOX_ARG_ADDR % 4096 ≠ 0 ∧
    (liveW [(F.BOOT_MBOX_ARG_ADDR, 0x3000000)]).get F.BOOT_MBOX_ARG_ADDR % 4096 = 0 ∧ live.boot.mbox = none ∧
    ({ live with boot := { mbox := some ⟨5, 3, 0⟩ } } : State).boot.mbox = some ⟨5, 3, 0⟩ ∧ live.reach .SEC_MBOX_CMD 0 = true ∧
    (liveW [(F.SEC_MBOX_STATUS_BUSY, 1)]).get F.SEC_MBOX_STATUS_BUSY ≠ 0 ∧ live.get F.SEC_MBOX_STATUS_BUSY = 0 ∧ live.boot.ident = none ∧
    live.stopped 0x51 = false ∧ ({ live with entry := some { target := 1, agreed := [0x51] } } : State).stopped 0x51 = true ∧
    ({ live with boot := { ident := some [1] } } : State).boot.ident = some [1] ∧
    ({ live with boot := { certs := [(0, [2])] } } : State).boot.certs.find? (fun c => c.1 == live.get F.SEC_MBOX_ARG_INDEX) = some (0, [2]) ∧
    live.boot.certs.find? (fun c => c.1 == live.get F.SEC_MBOX_ARG_INDEX) = none ∧
    (liveW [(F.GLB_FALLOW_REASON_FALLOW, 1), (F.GLB_FALLOW_REASON_REASON, 3)]).get F.GLB_FALLOW_REASON_REASON = 3 ∧ live.boot.sec = none ∧
    ({ live with boot := { sec := some ⟨2, 0, 0⟩, ident := some [1] }, time := 8192 } : State).boot.sec = some ⟨2, 0, 0⟩ ∧
    (0 : Nat) < ({ live with time := 8192 } : State).swath * 8192 ∧ live.swath * 8192 ≤ 0 := by decide +kernel

theorem witness_NoSlotVerifiesInAnErasedFlash : live.slotInfo 1 = none := slotInfo_erased _ rfl 1

/-- The addresses of a VERIFY or an ERASE and a PROGRAM that are taken lie below the end of every flash. -/
theorem witness_FlashAddressesInside : 0x3000000 + 65536 ≤ flashEnd := by
  unfold flashEnd
  exact Nat.le_trans (by decide) (Nat.le_max_left _ _)

/-- A binding of one entry on ring 15, its template at 0x5000 and its result at 0x6000, of a source. -/
def bindS (src ix : Nat) : Binding :=
  { src := src, srcIdx := ix, ring := 15, outEn := true, actProv := true, outPulse := true, period := 1, template := 0x5000, nent := 1,
    patches := [], outSel := 15, pulse := 1, result := 0x6000 }

/-- `live` with a standing program: engine 15's ring at 0x100000 and its control block at 0x200000, both without error. -/
def standS (b : Binding) (ws : List Watch) (time : Nat) : State :=
  { withBlocks (liveW [(F.CHN_ENG_RING_BASE_BASE 15, 0x100), (F.CHN_ENG_CTRL_ADDR_ADDR 15, 0x200), (F.CHN_ENG_CFG_RING_LOG2 15, 6)])
      [0x100000, 0x200000, 0x5000, 0x6000] with
    boot := { binds := [b], watches := ws, pulses := [(15, 1000000)] }, time := time
    stile := { tqs := [(7, { entries := [⟨1, 2, 11, false, false, 0, 3⟩] })] } }

set_option maxRecDepth 100000 in
theorem witness_StandingProgramsPlaceJobsAndAct :
    (standS (bindS 0 7) [] 0).get F.BOOT_STATUS_READY ≠ 0 ∧ (standS (bindS 0 7) [] 0).get F.BOOT_SP_STATUS_PAUSED = 0 ∧
    (standS (bindS 0 7) [] 0).stopped 0x50 = false ∧
    (standS (bindS 0 7) [] 0).flits = [] ∧ (standS (bindS 0 7) [] 0).accessFault .mgmt false 0x200000 4 = none ∧
    (standS (bindS 0 7) [] 0).latentAt 0x200000 = .ok ∧ regionOf 0x200000 = .stack 0 ∧
    (standS (bindS 0 7) [] 0).accessFault .mgmt false 0x5000 32 = none ∧ ((standS (bindS 0 7) [] 0).block 0x5000).good = true ∧
    ((standS (bindS 0 7) [] 0).block 0x6000).good = true ∧ (standS (bindS 0 7) [] 0).accessFault .mgmt false 0x6000 4 = none ∧
    (liveW [(F.GLB_CHN_STATUS_OFFLINE, 1)]).accessFault .mgmt false 0x6000 4 ≠ none ∧ (standS (bindS 0 7) [] 0).boot.binds = [bindS 0 7] ∧
    (standS (bindS 0 7) [] 0).reach .STL_TQ_POP 7 = true ∧
    ((standS (bindS 0 7) [] 0).tq 7).entries = ⟨1, 2, 11, false, false, 0, 3⟩ :: [] ∧ (live.tq 0).entries = [] ∧
    (standS (bindS 0 7) [] 0).accessFault .mgmt true ((standS (bindS 0 7) [] 0).ctrlAddr 15) 4 = none ∧
    (leNat (Memory.readN (standS (bindS 0 7) [] 0).mem 0x200000 4) + 2 ^ 32 - (standS (bindS 0 7) [] 0).cons 15) % 2 ^ 32 + 1 ≤
      (standS (bindS 0 7) [] 0).ringSize 15 ∧ (standS (bindS 0 7) [] 0).ctrlAddr 15 = 0x200000 ∧
    (standS (bindS 0 7) [] 0).entryAddr 15 0 = 0x100000 ∧ ((standS (bindS 0 7) [] 0).block 0x100000).good = true ∧
    ((standS (bindS 0 7) [] 0).block 0x200000).good = true ∧ (standS (bindS 0 7) [] 0).accessFault .mgmt true 0x5000 32 = none ∧
    0x100000 / 256 ≠ 0x200000 / 256 ∧ (standS (bindS 2 0) [] 1000).boot.binds[0]? = some (bindS 2 0) ∧
    (bindS 2 0).last + (bindS 2 0).period * 1000 ≤ (standS (bindS 2 0) [] 1000).time ∧
    (standS (bindS 0 7) [⟨0, 15, 0, 1⟩] 0).boot.watches.find? (standS (bindS 0 7) [⟨0, 15, 0, 1⟩] 0).acting = some ⟨0, 15, 0, 1⟩ ∧
    live.boot.watches.find? live.acting = none ∧ live.accessFault .mgmt true 0x6000 4 = none ∧ live.reach .STL_FOUT 0 = true ∧
    live.reach .STL_AOUT_VALUE 3 = true ∧ ((15, 1000000) : Nat × Nat) ∈ (standS (bindS 0 7) [] 1000000).boot.pulses ∧
    live.boot.pulses = [] := by decide +kernel

end Sys2Proof.Tests
end

/-! Proofs of the statements on device time (R8). -/

namespace Sys2Proof.Machine
open Sys2Proof

/-- `State.swath` divides, R8 shifts: 13 bits are a factor of 8,192. -/
theorem State.swath_eq_time_shiftRight (s : State) : s.swath = s.time >>> 13 :=
  calc s.swath = s.time / 2 ^ 13 := rfl
    _ = s.time >>> 13 := (Nat.shiftRight_eq_div_pow s.time 13).symm

/-- The lower bound of R8's span. -/
theorem State.le_swath_iff (s : State) (n : Nat) : n ≤ s.swath ↔ n * 8192 ≤ s.time :=
  Nat.le_div_iff_mul_le (by decide)

/-- The upper bound of R8's span, exclusive. -/
theorem State.swath_lt_iff (s : State) (n : Nat) : s.swath < n ↔ s.time < n * 8192 :=
  Nat.div_lt_iff_lt_mul (by decide)

/-- R8's span, from its two bounds: swath n is the one reached whose successor is not. -/
theorem State.swath_eq_iff (s : State) (n : Nat) :
    s.swath = n ↔ n * 8192 ≤ s.time ∧ s.time < (n + 1) * 8192 := by
  rw [← s.le_swath_iff, ← s.swath_lt_iff, Nat.lt_succ_iff]
  exact ⟨fun h => ⟨h.ge, h.le⟩, fun ⟨hge, hle⟩ => hle.antisymm hge⟩

/-- The length of R8's span. -/
theorem swath_span (n : Nat) : (n + 1) * 8192 - n * 8192 = 8192 := by
  rw [Nat.succ_mul, Nat.add_sub_cancel_left]

/-- Settles O39, from the bounds of a swath, its length and its number as a shift of device time. -/
theorem swathsAreSpansOfDeviceTime : Obligations.SwathsAreSpansOfDeviceTime :=
  fun s n => ⟨s.swath_eq_iff n, swath_span n, s.swath_eq_time_shiftRight⟩

end Sys2Proof.Machine

/-! Proofs of the statements on the clock of a Tussock (R25, R156): first what the shared operations of a swath's opening and of a
quarantine cause do, then the three commands. -/

namespace Sys2Proof.Machine
open Sys2Proof

/-! ### Frames -/

theorem Fld.key_ne_of_reg {f g : Fld} (h : f.r ≠ g.r) : f.key ≠ g.key := fun hkey => h ((Fld.key_iff f g).1 hkey).1

theorem Fld.key_ne_of_lo {f g : Fld} (h : f.lo % 64 ≠ g.lo % 64) : f.key ≠ g.key := fun hkey =>
  have ⟨_, _, _, hlo⟩ := (Fld.key_iff f g).1 hkey
  h hlo

/-- A frame whose fields lie in other registers tells that a field reads as before. -/
theorem State.RegsBut.get_of_reg_ne {s t : State} {fs : List Fld} (h : s.RegsBut t fs) {f : Fld} (hf : ∀ x ∈ fs, x.r ≠ f.r) :
    t.get f = s.get f :=
  h f fun hm => by
    obtain ⟨x, hx, hkey⟩ := List.mem_map.1 hm
    exact Fld.key_ne_of_reg (hf x hx) hkey

theorem State.OnlyRegs.tuss_eq {s t : State} {fs : List Fld} (h : s.OnlyRegs t fs) (g : Nat) : t.tuss g = s.tuss g := by
  rw [h.1]; rfl

theorem State.OnlyRegs.trans {s t u : State} {fs : List Fld} (h : s.OnlyRegs t fs) (k : t.OnlyRegs u fs) : s.OnlyRegs u fs :=
  ⟨by rw [k.1, h.1], h.2.trans k.2⟩

theorem State.OnlyTuss.trans_onlyRegs {s t u : State} {g : Nat} {fs : List Fld} (h : s.OnlyTuss t g fs) (k : t.OnlyRegs u fs) :
    s.OnlyTuss u g fs :=
  ⟨by rw [k.1, h.1], h.2.1.trans k.2, fun i hi => (k.tuss_eq i).trans (h.2.2 i hi)⟩

theorem State.OnlyTuss.mono {s t : State} {g : Nat} {fs gs : List Fld} (h : s.OnlyTuss t g fs) (sub : ∀ f ∈ fs, f ∈ gs) :
    s.OnlyTuss t g gs :=
  ⟨h.1, h.2.1.mono sub, h.2.2⟩

/-- Writes of listed fields one after the other, each value read from the state as it then is. -/
theorem State.onlyRegs_foldl_set (s : State) {fs : List Fld} {β : Type} (l : List β) (u : β → Fld) (v : State → β → Nat)
    (hf : ∀ x ∈ l, u x ∈ fs) : s.OnlyRegs (l.foldl (fun s x => s.set (u x) (v s x)) s) fs := by
  induction l generalizing s with
  | nil => exact .refl s fs
  | cons x l ih =>
    obtain ⟨hx, hl⟩ := List.forall_mem_cons.1 hf
    exact ((State.OnlyRegs.refl s fs).set _ hx).trans (ih _ hl)

/-! ### A swath opens -/

/-- The registers that follow the opening of a swath: PASS_THROUGH and STALE of every array, and CURRENT. -/
def swathFlds (g : Nat) : List Fld :=
  ((List.range 17).flatMap fun a => [F.TSK_ARR_STATE_PASS_THROUGH g a, F.BRK_ARR_CAL_STALE g a]) ++ [F.BRK_STATUS_CURRENT g]

theorem passThrough_mem_swathFlds (g : Nat) : ∀ a ∈ List.range 17, F.TSK_ARR_STATE_PASS_THROUGH g a ∈ swathFlds g :=
  fun a ha => List.mem_append_left _ (List.mem_flatMap.2 ⟨a, ha, by simp⟩)

theorem stale_mem_swathFlds (g : Nat) : ∀ a ∈ List.range 17, F.BRK_ARR_CAL_STALE g a ∈ swathFlds g :=
  fun a ha => List.mem_append_left _ (List.mem_flatMap.2 ⟨a, ha, by simp⟩)

theorem current_mem_swathFlds (g : Nat) : F.BRK_STATUS_CURRENT g ∈ swathFlds g :=
  List.mem_append_right _ (List.mem_singleton.2 rfl)

/-- The registers that hold those fields. -/
def swathRegs : List RegName := [.TSK_ARR_STATE, .BRK_ARR_CAL, .BRK_STATUS]

theorem reg_of_mem_swathFlds {g : Nat} {f : Fld} (h : f ∈ swathFlds g) : f.r ∈ swathRegs := by
  obtain hf | hf := List.mem_append.1 h
  · obtain ⟨a, -, hf⟩ := List.mem_flatMap.1 hf
    obtain rfl | rfl : f = F.TSK_ARR_STATE_PASS_THROUGH g a ∨ f = F.BRK_ARR_CAL_STALE g a := by simpa using hf
    · exact (by decide : RegName.TSK_ARR_STATE ∈ swathRegs)
    · exact (by decide : RegName.BRK_ARR_CAL ∈ swathRegs)
  · obtain rfl := List.mem_singleton.1 hf
    exact (by decide : RegName.BRK_STATUS ∈ swathRegs)

theorem State.brkCurrent_onlyRegs (s : State) (g : Nat) : s.OnlyRegs (s.brkCurrent g) (swathFlds g) :=
  (s.onlyRegs_foldl_set _ _ _ (stale_mem_swathFlds g)).set _ (current_mem_swathFlds g)

/-- Without an ABORT, the opening of a swath latches TRIG, lets registers follow, and begins the Tussock's new swath. -/
theorem State.openSwath_parts (s : State) (g w : Nat) (habort : (s.tuss g).abortDue = false) :
    ∃ u, (s.updTuss g fun t => { t with trigNow := s.get (F.BRK_CFG_TRIG g) }).OnlyRegs u (swathFlds g) ∧
      s.openSwath g w = u.updTuss g fun t => { t with
        open_ := some w
        used := t.used.filter fun p => decide (u.keptFrom g p.1 ≤ p.2)
        passed := t.passed.filter fun p => decide (u.keptFrom g p.1 ≤ p.2) } := by
  have habortNow : s.abortNow g = s := if_neg (by simp [habort])
  refine ⟨_, ?_, by rw [State.openSwath, habortNow]⟩
  exact (State.brkCurrent_onlyRegs _ g).trans (State.onlyRegs_foldl_set _ _ _ _ (passThrough_mem_swathFlds g))

@[simp] theorem State.open_openSwath (s : State) (g w : Nat) : ((s.openSwath g w).tuss g).open_ = some w := by
  simp [State.openSwath]

theorem State.openSwath_onlyTuss (s : State) (g w : Nat) (habort : (s.tuss g).abortDue = false) :
    s.OnlyTuss (s.openSwath g w) g (swathFlds g) := by
  obtain ⟨u, hu, heq⟩ := s.openSwath_parts g w habort
  rw [heq]
  exact (((State.OnlyTuss.refl s g _).upd _).trans_onlyRegs hu).upd _

theorem State.late_openSwath (s : State) (g w : Nat) (habort : (s.tuss g).abortDue = false) :
    ((s.openSwath g w).tuss g).late = (s.tuss g).late := by
  obtain ⟨u, hu, heq⟩ := s.openSwath_parts g w habort
  simp [heq, hu.tuss_eq g]

theorem State.quarDue_openSwath (s : State) (g w : Nat) (habort : (s.tuss g).abortDue = false) :
    ((s.openSwath g w).tuss g).quarDue = (s.tuss g).quarDue := by
  obtain ⟨u, hu, heq⟩ := s.openSwath_parts g w habort
  simp [heq, hu.tuss_eq g]

/-- A register that does not follow the opening of a swath reads as before. -/
theorem State.get_openSwath (s : State) (g w : Nat) (habort : (s.tuss g).abortDue = false) {f : Fld} (hf : f.r ∉ swathRegs) :
    (s.openSwath g w).get f = s.get f :=
  have ⟨_, hregs, _⟩ := s.openSwath_onlyTuss g w habort
  hregs.get_of_reg_ne fun _ hx hr => hf (hr ▸ reg_of_mem_swathFlds hx)

/-! ### A quarantine cause arises -/

@[simp] theorem State.tuss_setBit (s : State) (f : Fld) (b g : Nat) : (s.setBit f b).tuss g = s.tuss g := by
  rw [State.setBit_regs_eq]; rfl

/-- R158 in one equation: the cause is recorded, and due unless the Tussock is QUARANTINED or OFF. -/
theorem State.raiseCause_eq (s : State) (g b : Nat) :
    s.raiseCause g b = if s.tskState g = tQUAR ∨ s.tskState g = tOFF then s.setBit (F.TSK_QUAR_CAUSE_CAUSE g) b
      else (s.setBit (F.TSK_QUAR_CAUSE_CAUSE g) b).updTuss g fun t => { t with quarDue := true } := by
  have hstate : (s.setBit (F.TSK_QUAR_CAUSE_CAUSE g) b).tskState g = s.tskState g :=
    s.get_setBit_ne b (Fld.key_ne_of_reg (by decide : RegName.TSK_QUAR_CAUSE ≠ .TSK_STATE))
  rw [State.raiseCause, hstate]

theorem State.OnlyTuss.raiseCause {s t : State} {g : Nat} {fs : List Fld} (h : s.OnlyTuss t g fs) (b : Nat)
    (hf : F.TSK_QUAR_CAUSE_CAUSE g ∈ fs) : s.OnlyTuss (t.raiseCause g b) g fs := by
  rw [State.raiseCause_eq]
  split
  · exact h.setBit b hf
  · exact (h.setBit b hf).upd _

/-- A cause changes nothing of its Tussock's memory but that a quarantine is due. -/
theorem State.tuss_raiseCause (s : State) (g b : Nat) :
    (s.raiseCause g b).tuss g = { s.tuss g with
      quarDue := (s.tuss g).quarDue || !decide (s.tskState g = tQUAR ∨ s.tskState g = tOFF) } := by
  rw [State.raiseCause_eq]
  split
  next hout => simp [hout]
  next hin => simp [hin]

/-- A cause leaves every register but TSK_QUAR_CAUSE alone. -/
theorem State.get_raiseCause (s : State) (g b : Nat) {f : Fld} (hf : RegName.TSK_QUAR_CAUSE ≠ f.r) :
    (s.raiseCause g b).get f = s.get f :=
  have ⟨_, hregs, _⟩ := (State.OnlyTuss.refl s g [F.TSK_QUAR_CAUSE_CAUSE g]).raiseCause b (List.mem_singleton.2 rfl)
  hregs.get_of_reg_ne fun _ hx => List.mem_singleton.1 hx ▸ hf

theorem State.raiseCause_causeRaised (s : State) (g b : Nat) : s.CauseRaised (s.raiseCause g b) g b := by
  constructor
  · intro k hk
    have hcause : (s.raiseCause g b).get (F.TSK_QUAR_CAUSE_CAUSE g) =
        (s.setBit (F.TSK_QUAR_CAUSE_CAUSE g) b).get (F.TSK_QUAR_CAUSE_CAUSE g) := by
      rw [State.raiseCause_eq]
      split
      · rfl
      · exact State.get_updTuss ..
    rw [hcause]
    exact s.bit_setBit _ b k hk
  · simp [State.tuss_raiseCause]

/-- A cause that arises after a part of a command in which none arose, the Tussock staying in its state. -/
theorem State.NoCause.causeRaised {s t u : State} {g b : Nat} (h : s.NoCause t g) (hstate : t.tskState g = s.tskState g)
    (k : t.CauseRaised u g b) : s.CauseRaised u g b := by
  obtain ⟨hcause, hdue⟩ := h
  unfold State.CauseRaised at k ⊢
  rwa [hcause, hdue, hstate] at k

/-! ### A late marker -/

/-- What a late marker does before the question whether it is a cause: the swath opens by the Tussock's own count, and the marker is
counted. -/
def State.countLate (s : State) (g w : Nat) : State :=
  (((s.openSwath g w).updTuss g fun t => { t with late := t.late + 1 }).set (F.TSK_CLK_STATUS_MARKER_LATE g) 1).inc
    (F.TSK_CLK_STATUS_LATE_CNT g)

@[simp] theorem State.tuss_countLate (s : State) (g w : Nat) :
    (s.countLate g w).tuss g = { (s.openSwath g w).tuss g with late := ((s.openSwath g w).tuss g).late + 1 } := by
  simp [State.countLate, State.inc_eq]

theorem State.markerLate_eq (s : State) (g x : Nat) (hopen : (s.tuss g).open_ = some x) (habort : (s.tuss g).abortDue = false) :
    s.markerLate g = if 1 ≤ (s.tuss g).late then (s.countLate g (x + 1)).raiseCause g 2 else s.countLate g (x + 1) := by
  have hlate : ((s.countLate g (x + 1)).tuss g).late = (s.tuss g).late + 1 := by simp [s.late_openSwath g _ habort]
  have hsecond : 2 ≤ ((s.countLate g (x + 1)).tuss g).late ↔ 1 ≤ (s.tuss g).late := by omega
  simp only [State.markerLate, hopen, ← hsecond, State.countLate]

section
variable {s : State} {g w : Nat}

theorem State.get_countLate (habort : (s.tuss g).abortDue = false) {f : Fld} (hf : f.r ∉ .TSK_CLK_STATUS :: swathRegs) :
    (s.countLate g w).get f = s.get f := by
  obtain ⟨hclk, hswath⟩ := List.ne_and_not_mem_of_not_mem_cons hf
  rw [State.countLate, State.inc_eq, State.get_set_ne _ _ (Fld.key_ne_of_reg (Ne.symm hclk)),
    State.get_set_ne _ _ (Fld.key_ne_of_reg (Ne.symm hclk)), State.get_updTuss, s.get_openSwath g w habort hswath]

theorem State.tskState_countLate (habort : (s.tuss g).abortDue = false) : (s.countLate g w).tskState g = s.tskState g :=
  State.get_countLate habort (by decide : RegName.TSK_STATE ∉ .TSK_CLK_STATUS :: swathRegs)

theorem State.markerLateBit_countLate : (s.countLate g w).get (F.TSK_CLK_STATUS_MARKER_LATE g) = 1 := by
  have hkey : (F.TSK_CLK_STATUS_LATE_CNT g).key ≠ (F.TSK_CLK_STATUS_MARKER_LATE g).key :=
    Fld.key_ne_of_lo (by simp [F.TSK_CLK_STATUS_LATE_CNT, F.TSK_CLK_STATUS_MARKER_LATE])
  rw [State.countLate, State.inc_eq, State.get_set_ne _ _ hkey, State.get_set_same]
  rfl

theorem State.lateCnt_countLate (habort : (s.tuss g).abortDue = false) :
    (s.countLate g w).get (F.TSK_CLK_STATUS_LATE_CNT g) =
      min (s.get (F.TSK_CLK_STATUS_LATE_CNT g) + 1) (2 ^ (F.TSK_CLK_STATUS_LATE_CNT g).w - 1) := by
  have hkey : (F.TSK_CLK_STATUS_MARKER_LATE g).key ≠ (F.TSK_CLK_STATUS_LATE_CNT g).key :=
    Fld.key_ne_of_lo (by simp [F.TSK_CLK_STATUS_MARKER_LATE, F.TSK_CLK_STATUS_LATE_CNT])
  rw [State.countLate, State.get_inc_same, State.get_set_ne _ _ hkey, State.get_updTuss,
    s.get_openSwath g w habort (by decide : RegName.TSK_CLK_STATUS ∉ swathRegs)]

theorem State.countLate_onlyTuss (habort : (s.tuss g).abortDue = false) {fs : List Fld} (hswath : ∀ f ∈ swathFlds g, f ∈ fs)
    (hbit : F.TSK_CLK_STATUS_MARKER_LATE g ∈ fs) (hcnt : F.TSK_CLK_STATUS_LATE_CNT g ∈ fs) :
    s.OnlyTuss (s.countLate g w) g fs :=
  ((((s.openSwath_onlyTuss g w habort).mono hswath).upd _).set 1 hbit).inc hcnt

theorem State.countLate_noCause (habort : (s.tuss g).abortDue = false) : s.NoCause (s.countLate g w) g :=
  ⟨State.get_countLate habort (by decide : RegName.TSK_QUAR_CAUSE ∉ .TSK_CLK_STATUS :: swathRegs), by simp [s.quarDue_openSwath g w habort]⟩

end

theorem exec_markerLate (g : Tsk) (s : State) (hon : s.onT g = true) : exec (.markerLate g) s = .next (s.markerLate g) :=
  congrArg Host.Outcome.next (if_pos hon)

/-- R156 on MARKER_LATE: the second late marker in a row is a cause, the first is none. -/
theorem markerLate_spec (g : Tsk) (s : State) (x : Nat) (hon : s.onT g = true) (habort : (s.tuss g).abortDue = false)
    (hopen : (s.tuss g).open_ = some x) :
    ∃ t, exec (.markerLate g) s = .next t ∧ (t.tuss g).open_ = some (x + 1) ∧ (t.tuss g).late = (s.tuss g).late + 1 ∧
      t.get (F.TSK_CLK_STATUS_MARKER_LATE g) = 1 ∧
      t.get (F.TSK_CLK_STATUS_LATE_CNT g) = min (s.get (F.TSK_CLK_STATUS_LATE_CNT g) + 1) (2 ^ (F.TSK_CLK_STATUS_LATE_CNT g).w - 1) ∧
      (1 ≤ (s.tuss g).late → s.CauseRaised t g 2) ∧ ((s.tuss g).late = 0 → s.NoCause t g) ∧
      s.OnlyTuss t g ([F.TSK_CLK_STATUS_MARKER_LATE g, F.TSK_CLK_STATUS_LATE_CNT g, F.TSK_QUAR_CAUSE_CAUSE g] ++ swathFlds g) := by
  refine ⟨_, exec_markerLate g s hon, ?_⟩
  have hframe := State.countLate_onlyTuss (w := x + 1) (fs := [F.TSK_CLK_STATUS_MARKER_LATE g, F.TSK_CLK_STATUS_LATE_CNT g,
    F.TSK_QUAR_CAUSE_CAUSE g] ++ swathFlds g) habort (fun f hf => List.mem_append_right _ hf) (by simp) (by simp)
  have hnone : s.NoCause (s.countLate g (x + 1)) g := State.countLate_noCause habort
  rw [s.markerLate_eq g x hopen habort]
  split
  next hsecond =>
    refine ⟨by simp [State.tuss_raiseCause], by simp [State.tuss_raiseCause, s.late_openSwath g _ habort], ?_, ?_,
      fun _ => hnone.causeRaised (State.tskState_countLate habort) (State.raiseCause_causeRaised _ _ _), by omega, hframe.raiseCause 2 (by simp)⟩
    · rw [State.get_raiseCause _ _ _ (by decide : RegName.TSK_QUAR_CAUSE ≠ .TSK_CLK_STATUS), State.markerLateBit_countLate]
    · rw [State.get_raiseCause _ _ _ (by decide : RegName.TSK_QUAR_CAUSE ≠ .TSK_CLK_STATUS), State.lateCnt_countLate habort]
  next hfirst =>
    exact ⟨by simp, by simp [s.late_openSwath g _ habort], State.markerLateBit_countLate, State.lateCnt_countLate habort,
      fun h => absurd h hfirst, fun _ => hnone, hframe⟩

/-! ### A swath marker -/

/-- A swath opens at its marker: the count of late ones begins anew. -/
def State.openOnTime (s : State) (g w : Nat) : State := (s.openSwath g w).updTuss g fun t => { t with late := 0 }

theorem State.reenableAlign_of_ne (s : State) (g : Nat) (h : s.tskState g ≠ tREEN) : s.reenableAlign g = s :=
  if_neg fun hr => h hr.1

theorem State.get_openOnTime (s : State) (g w : Nat) (habort : (s.tuss g).abortDue = false) {f : Fld} (hf : f.r ∉ swathRegs) :
    (s.openOnTime g w).get f = s.get f :=
  (State.get_updTuss ..).trans (s.get_openSwath g w habort hf)

theorem State.tskState_openOnTime (s : State) (g w : Nat) (habort : (s.tuss g).abortDue = false) :
    (s.openOnTime g w).tskState g = s.tskState g :=
  s.get_openOnTime g w habort (by decide : RegName.TSK_STATE ∉ swathRegs)

theorem State.openOnTime_noCause (s : State) (g w : Nat) (habort : (s.tuss g).abortDue = false) : s.NoCause (s.openOnTime g w) g :=
  ⟨s.get_openOnTime g w habort (by decide : RegName.TSK_QUAR_CAUSE ∉ swathRegs),
    by simp [State.openOnTime, s.quarDue_openSwath g w habort]⟩

/-- A marker that opens a swath, in a Tussock that is not REENABLING: a wrong number is a cause. -/
theorem State.marker_eq (s : State) (g w x : Nat) (habort : (s.tuss g).abortDue = false) (hstate : s.tskState g ≠ tREEN)
    (hopen : (s.tuss g).open_ = some x) (hnew : ¬(w = x ∧ (s.tuss g).late ≠ 0)) :
    s.marker g w = if w = x + 1 then s.openOnTime g w else (s.openOnTime g w).raiseCause g 2 := by
  have halign : (s.openOnTime g w).reenableAlign g = s.openOnTime g w :=
    State.reenableAlign_of_ne _ g (by rwa [s.tskState_openOnTime g w habort])
  have hmarker : s.marker g w = if w = x + 1 then (s.openOnTime g w).reenableAlign g
      else ((s.openOnTime g w).reenableAlign g).raiseCause g 2 := by
    simp only [State.marker, hopen, if_neg hnew, State.openOnTime]
  rw [hmarker, halign]

theorem exec_swathMarker (g : Tsk) (w : BitVec 51) (s : State) (hon : s.onT g = true) :
    exec (.swathMarker g w) s = .next (s.marker g w.toNat) :=
  congrArg Host.Outcome.next (if_pos hon)

/-- R156 on SWATH_MARKER: a number other than the one that the Tussock expects is a cause. -/
theorem swathMarker_spec (g : Tsk) (w : BitVec 51) (s : State) (x : Nat) (hon : s.onT g = true)
    (habort : (s.tuss g).abortDue = false) (hstate : s.tskState g ≠ tREEN) (hopen : (s.tuss g).open_ = some x)
    (hnew : ¬(w.toNat = x ∧ (s.tuss g).late ≠ 0)) :
    ∃ t, exec (.swathMarker g w) s = .next t ∧ (t.tuss g).open_ = some w.toNat ∧ (t.tuss g).late = 0 ∧
      (w.toNat ≠ x + 1 → s.CauseRaised t g 2) ∧ (w.toNat = x + 1 → s.NoCause t g) ∧
      s.OnlyTuss t g (F.TSK_QUAR_CAUSE_CAUSE g :: swathFlds g) := by
  refine ⟨_, exec_swathMarker g w s hon, ?_⟩
  have hframe : s.OnlyTuss (s.openOnTime g w.toNat) g (F.TSK_QUAR_CAUSE_CAUSE g :: swathFlds g) :=
    ((s.openSwath_onlyTuss g w.toNat habort).mono fun f hf => List.mem_cons_of_mem _ hf).upd _
  have hnone := s.openOnTime_noCause g w.toNat habort
  rw [s.marker_eq g w.toNat x habort hstate hopen hnew]
  split
  next hexpected => exact ⟨by simp [State.openOnTime], by simp [State.openOnTime], fun h => absurd hexpected h, fun _ => hnone, hframe⟩
  next hwrong =>
    exact ⟨by simp [State.tuss_raiseCause, State.openOnTime], by simp [State.tuss_raiseCause, State.openOnTime],
      fun _ => hnone.causeRaised (s.tskState_openOnTime g w.toNat habort) (State.raiseCause_causeRaised _ _ _),
      fun h => absurd h hwrong, hframe.raiseCause 2 (by simp)⟩

/-! ### A lost lock -/

/-- LOCKED falls and LOCK_LOST is set. -/
def State.loseLock (s : State) (g : Nat) : State :=
  (s.set (F.TSK_CLK_STATUS_LOCKED g) 0).set (F.TSK_CLK_STATUS_LOCK_LOST g) 1

theorem State.get_loseLock (s : State) (g : Nat) {f : Fld} (hf : RegName.TSK_CLK_STATUS ≠ f.r) :
    (s.loseLock g).get f = s.get f := by
  rw [State.loseLock, State.get_set_ne _ _ (Fld.key_ne_of_reg hf), State.get_set_ne _ _ (Fld.key_ne_of_reg hf)]

theorem State.locked_loseLock (s : State) (g : Nat) : (s.loseLock g).get (F.TSK_CLK_STATUS_LOCKED g) = 0 := by
  have hkey : (F.TSK_CLK_STATUS_LOCK_LOST g).key ≠ (F.TSK_CLK_STATUS_LOCKED g).key :=
    Fld.key_ne_of_lo (by simp [F.TSK_CLK_STATUS_LOCK_LOST, F.TSK_CLK_STATUS_LOCKED])
  rw [State.loseLock, State.get_set_ne _ _ hkey, State.get_set_same]
  rfl

theorem State.lockLost_loseLock (s : State) (g : Nat) : (s.loseLock g).get (F.TSK_CLK_STATUS_LOCK_LOST g) = 1 :=
  State.get_set_same ..

theorem exec_tussockLockLoss (g : Tsk) (s : State) (hon : s.onT g = true) :
    exec (.tussockLockLoss g) s = .next ((s.loseLock g).raiseCause g 2) :=
  congrArg Host.Outcome.next (if_pos hon)

/-- R156 on TUSSOCK_LOCK_LOSS. -/
theorem tussockLockLoss_spec (g : Tsk) (s : State) (hon : s.onT g = true) :
    ∃ t, exec (.tussockLockLoss g) s = .next t ∧ t.get (F.TSK_CLK_STATUS_LOCKED g) = 0 ∧
      t.get (F.TSK_CLK_STATUS_LOCK_LOST g) = 1 ∧ s.CauseRaised t g 2 ∧
      s.OnlyTuss t g [F.TSK_CLK_STATUS_LOCKED g, F.TSK_CLK_STATUS_LOCK_LOST g, F.TSK_QUAR_CAUSE_CAUSE g] := by
  have hnone : s.NoCause (s.loseLock g) g := ⟨s.get_loseLock g (by decide : RegName.TSK_CLK_STATUS ≠ .TSK_QUAR_CAUSE), rfl⟩
  have hstate : (s.loseLock g).tskState g = s.tskState g := s.get_loseLock g (by decide : RegName.TSK_CLK_STATUS ≠ .TSK_STATE)
  refine ⟨_, exec_tussockLockLoss g s hon, ?_, ?_, hnone.causeRaised hstate (State.raiseCause_causeRaised _ _ _),
    (((State.OnlyTuss.refl s g _).set 0 (by simp)).set 1 (by simp)).raiseCause 2 (by simp)⟩
  · rw [State.get_raiseCause _ _ _ (by decide : RegName.TSK_QUAR_CAUSE ≠ .TSK_CLK_STATUS), State.locked_loseLock]
  · rw [State.get_raiseCause _ _ _ (by decide : RegName.TSK_QUAR_CAUSE ≠ .TSK_CLK_STATUS), State.lockLost_loseLock]

/-- Settles O10, from what each of its three commands does. -/
theorem tussockClockFaultsQuarantine : Obligations.TussockClockFaultsQuarantine :=
  ⟨markerLate_spec, swathMarker_spec, tussockLockLoss_spec⟩

end Sys2Proof.Machine

/-! ### Footprints

What an operation changes is stated as a set of parts of the state. `State.Only s ps t` says that `t` differs from `s` in the parts `ps` alone
and that canonical memory stays canonical; such facts compose, and every operation of the model has one. -/

namespace Sys2Proof.Machine
open Sys2Proof
/-- The parts of the state that a command can change: its components, the fields of one register, and what one Tussock holds. -/
inductive Part where
  | pending | free | time | mem | latent | flits | irq | host | mgmt | out | stile | jobs
  | nextJob | engines | flight | t3 | chans | fresh | provs | nextProv | stallSwath | areas | recs | prods
  | genSets | leas | leaFaults | chainRefs | legacyRefs | commits | images | verifs | loads | tests | pubKeys | testKey
  | fractionOld | fractionAt | ctxs | sensors | heather | entry | waking | slept | quarters | boot | flash | tap
  | reg (r : RegName)
  | tuss (g : Nat)

/-- A part is in `t` what it is in `s`. -/
def Part.Same (s t : State) : Part → Prop
  | .pending => t.pending = s.pending
  | .free => t.free = s.free
  | .time => t.time = s.time
  | .mem => t.mem = s.mem
  | .latent => t.latent = s.latent
  | .flits => t.flits = s.flits
  | .irq => t.irq = s.irq
  | .host => t.host = s.host
  | .mgmt => t.mgmt = s.mgmt
  | .out => t.out = s.out
  | .stile => t.stile = s.stile
  | .jobs => t.jobs = s.jobs
  | .nextJob => t.nextJob = s.nextJob
  | .engines => t.engines = s.engines
  | .flight => t.flight = s.flight
  | .t3 => t.t3 = s.t3
  | .chans => t.chans = s.chans
  | .fresh => t.fresh = s.fresh
  | .provs => t.provs = s.provs
  | .nextProv => t.nextProv = s.nextProv
  | .stallSwath => t.stallSwath = s.stallSwath
  | .areas => t.areas = s.areas
  | .recs => t.recs = s.recs
  | .prods => t.prods = s.prods
  | .genSets => t.genSets = s.genSets
  | .leas => t.leas = s.leas
  | .leaFaults => t.leaFaults = s.leaFaults
  | .chainRefs => t.chainRefs = s.chainRefs
  | .legacyRefs => t.legacyRefs = s.legacyRefs
  | .commits => t.commits = s.commits
  | .images => t.images = s.images
  | .verifs => t.verifs = s.verifs
  | .loads => t.loads = s.loads
  | .tests => t.tests = s.tests
  | .pubKeys => t.pubKeys = s.pubKeys
  | .testKey => t.testKey = s.testKey
  | .fractionOld => t.fractionOld = s.fractionOld
  | .fractionAt => t.fractionAt = s.fractionAt
  | .ctxs => t.ctxs = s.ctxs
  | .sensors => t.sensors = s.sensors
  | .heather => t.heather = s.heather
  | .entry => t.entry = s.entry
  | .waking => t.waking = s.waking
  | .slept => t.slept = s.slept
  | .quarters => t.quarters = s.quarters
  | .boot => t.boot = s.boot
  | .flash => t.flash = s.flash
  | .tap => t.tap = s.tap
  | .reg r => ∀ f : Fld, f.r = r → t.get f = s.get f
  | .tuss g => t.tuss g = s.tuss g

/-- Every register, and every Tussock. -/
def Part.regs : Set Part := Set.range Part.reg
def Part.tusss : Set Part := Set.range Part.tuss

/-- Between `s` and `t` nothing changes but the parts of a footprint, and canonical memory stays canonical. -/
structure State.Only (s : State) (ps : Set Part) (t : State) : Prop where
  same : ∀ p, p ∉ ps → p.Same s t
  regs : (∀ r, Part.reg r ∉ ps) → t.regs = s.regs
  tusss : (∀ g, Part.tuss g ∉ ps) → t.tusss = s.tusss
  inv : s.Inv → t.Inv

/-- `State.Only` of the state that a function answers beside its result. It is a definition of its own so that the kernel
compares two such goals by their arguments, and never by evaluating the function. -/
def State.OnlyFst {α : Type} (t : State) (ps : Set Part) (u : State × α) : Prop := t.Only ps u.1

theorem State.onlyFst_mk {α : Type} {t u : State} {ps : Set Part} {y : α} : t.OnlyFst ps (u, y) ↔ t.Only ps u := Iff.rfl

/-! Membership in a footprint, and inclusion of one, come down to the parts that it lists. -/

section
variable {p q : Part} {ps qs rs : Set Part}

@[simp ↓] theorem Part.sub_self : ps ⊆ ps ↔ True := iff_true_intro subset_rfl
@[simp ↓] theorem Part.sub_union_left : ps ⊆ ps ∪ qs ↔ True := iff_true_intro Set.subset_union_left
@[simp ↓] theorem Part.sub_union_right : qs ⊆ ps ∪ qs ↔ True := iff_true_intro Set.subset_union_right
@[simp ↓] theorem Part.sub_insert : ps ⊆ insert p ps ↔ True := iff_true_intro (Set.subset_insert p ps)
@[simp ↓ 1100] theorem Part.empty_sub : ∅ ⊆ ps ↔ True := iff_true_intro (Set.empty_subset ps)
@[simp ↓ 1100] theorem Part.singleton_sub : {p} ⊆ ps ↔ p ∈ ps := Set.singleton_subset_iff
@[simp ↓ 1100] theorem Part.insert_sub : insert p qs ⊆ ps ↔ p ∈ ps ∧ qs ⊆ ps := Set.insert_subset_iff
@[simp ↓ 1100] theorem Part.union_sub : qs ∪ rs ⊆ ps ↔ qs ⊆ ps ∧ rs ⊆ ps := Set.union_subset_iff
@[simp ↓] theorem Part.mem_one : p ∈ ({q} : Set Part) ↔ p = q := Iff.rfl
@[simp ↓] theorem Part.mem_more : p ∈ insert q qs ↔ p = q ∨ p ∈ qs := Iff.rfl
@[simp ↓ 1100] theorem Part.mem_first : p ∈ insert p qs ↔ True := iff_true_intro (Set.mem_insert p qs)
@[simp ↓] theorem Part.mem_or : p ∈ qs ∪ rs ↔ p ∈ qs ∨ p ∈ rs := Iff.rfl

end

@[simp ↓] theorem Part.mem_regs {p : Part} : p ∈ Part.regs ↔ ∃ r, p = .reg r := by simp [Part.regs, eq_comm]
@[simp ↓] theorem Part.mem_tusss {p : Part} : p ∈ Part.tusss ↔ ∃ g, p = .tuss g := by simp [Part.tusss, eq_comm]
@[simp ↓ 1100] theorem Part.reg_mem_regs (r : RegName) : Part.reg r ∈ Part.regs ↔ True := iff_true_intro (Set.mem_range_self r)
@[simp ↓ 1100] theorem Part.tuss_mem_tusss (g : Nat) : Part.tuss g ∈ Part.tusss ↔ True := iff_true_intro (Set.mem_range_self g)
@[simp ↓ 900] theorem Part.regs_sub {ps : Set Part} : Part.regs ⊆ ps ↔ ∀ r, .reg r ∈ ps := Set.range_subset_iff
@[simp ↓ 900] theorem Part.tusss_sub {ps : Set Part} : Part.tusss ⊆ ps ↔ ∀ g, .tuss g ∈ ps := Set.range_subset_iff

/-- What an event of an interrupt vector changes. -/
def Part.event : Set Part := {.irq, .reg .GLB_IRQ_EVENT_HI, .reg .GLB_IRQ_EVENT_LO}
@[simp ↓] theorem Part.mem_event {p : Part} : p ∈ Part.event ↔ p ∈ ({.irq, .reg .GLB_IRQ_EVENT_HI, .reg .GLB_IRQ_EVENT_LO} : Set Part) := Iff.rfl
@[simp ↓ 900] theorem Part.event_sub {ps : Set Part} : Part.event ⊆ ps ↔ {.irq, .reg .GLB_IRQ_EVENT_HI, .reg .GLB_IRQ_EVENT_LO} ⊆ ps := Iff.rfl

/-- What a write into blocks of memory changes, tags, links and table words with it. -/
def Part.merge : Set Part := {.chans, .flits, .latent, .mem, .out, .reg .CHN_HDG_ERR, .reg .CHN_STK_ERR, .reg .TSK_BANK_ECC, .reg .TSK_CONV_STATUS} ∪ Part.tusss
@[simp ↓] theorem Part.mem_merge {p : Part} : p ∈ Part.merge ↔ p ∈ ({.chans, .flits, .latent, .mem, .out, .reg .CHN_HDG_ERR, .reg .CHN_STK_ERR, .reg .TSK_BANK_ECC, .reg .TSK_CONV_STATUS} ∪ Part.tusss : Set Part) := Iff.rfl
@[simp ↓ 900] theorem Part.merge_sub {ps : Set Part} : Part.merge ⊆ ps ↔ {.chans, .flits, .latent, .mem, .out, .reg .CHN_HDG_ERR, .reg .CHN_STK_ERR, .reg .TSK_BANK_ECC, .reg .TSK_CONV_STATUS} ∪ Part.tusss ⊆ ps := Iff.rfl
@[simp ↓] theorem Part.tusss_sub_merge : Part.tusss ⊆ Part.merge ↔ True := by simp

/-- What the read of a block changes. -/
def Part.fetch : Set Part := {.chans, .flits, .free, .latent, .mem, .out, .reg .CHN_HDG_ERR, .reg .CHN_STK_ERR, .reg .TSK_BANK_ECC}
@[simp ↓] theorem Part.mem_fetch {p : Part} : p ∈ Part.fetch ↔ p ∈ ({.chans, .flits, .free, .latent, .mem, .out, .reg .CHN_HDG_ERR, .reg .CHN_STK_ERR, .reg .TSK_BANK_ECC} : Set Part) := Iff.rfl
@[simp ↓ 900] theorem Part.fetch_sub {ps : Set Part} : Part.fetch ⊆ ps ↔ {.chans, .flits, .free, .latent, .mem, .out, .reg .CHN_HDG_ERR, .reg .CHN_STK_ERR, .reg .TSK_BANK_ECC} ⊆ ps := Iff.rfl

/-- What a write under a guard changes. -/
def Part.gwrite : Set Part := {.reg .GLB_RGN_FAULT_ADDR, .reg .GLB_RGN_FAULT_INFO} ∪ Part.event ∪ Part.merge
@[simp ↓] theorem Part.mem_gwrite {p : Part} : p ∈ Part.gwrite ↔ p ∈ ({.reg .GLB_RGN_FAULT_ADDR, .reg .GLB_RGN_FAULT_INFO} ∪ Part.event ∪ Part.merge : Set Part) := Iff.rfl
@[simp ↓ 900] theorem Part.gwrite_sub {ps : Set Part} : Part.gwrite ⊆ ps ↔ {.reg .GLB_RGN_FAULT_ADDR, .reg .GLB_RGN_FAULT_INFO} ∪ Part.event ∪ Part.merge ⊆ ps := Iff.rfl
@[simp ↓] theorem Part.event_sub_gwrite : Part.event ⊆ Part.gwrite ↔ True := by simp
@[simp ↓] theorem Part.merge_sub_gwrite : Part.merge ⊆ Part.gwrite ↔ True := by simp
@[simp ↓] theorem Part.tusss_sub_gwrite : Part.tusss ⊆ Part.gwrite ↔ True := by simp

/-- What a read under a guard changes. -/
def Part.read : Set Part := {.reg .GLB_RGN_FAULT_ADDR, .reg .GLB_RGN_FAULT_INFO} ∪ Part.event ∪ Part.fetch
@[simp ↓] theorem Part.mem_read {p : Part} : p ∈ Part.read ↔ p ∈ ({.reg .GLB_RGN_FAULT_ADDR, .reg .GLB_RGN_FAULT_INFO} ∪ Part.event ∪ Part.fetch : Set Part) := Iff.rfl
@[simp ↓ 900] theorem Part.read_sub {ps : Set Part} : Part.read ⊆ ps ↔ {.reg .GLB_RGN_FAULT_ADDR, .reg .GLB_RGN_FAULT_INFO} ∪ Part.event ∪ Part.fetch ⊆ ps := Iff.rfl
@[simp ↓] theorem Part.event_sub_read : Part.event ⊆ Part.read ↔ True := by simp
@[simp ↓] theorem Part.fetch_sub_read : Part.fetch ⊆ Part.read ↔ True := by simp

/-- What a token changes. -/
def Part.token : Set Part := {.areas, .boot, .commits, .engines, .jobs, .leas, .prods, .provs, .reg .CHN_ENG_STATUS, .reg .CHN_TAGS, .reg .GRS_EVT_CNT, .reg .GRS_PROV, .reg .GRS_STATUS, .reg .LEA_CTRL_STAT, .reg .LEA_STATUS} ∪ Part.gwrite
@[simp ↓] theorem Part.mem_token {p : Part} : p ∈ Part.token ↔ p ∈ ({.areas, .boot, .commits, .engines, .jobs, .leas, .prods, .provs, .reg .CHN_ENG_STATUS, .reg .CHN_TAGS, .reg .GRS_EVT_CNT, .reg .GRS_PROV, .reg .GRS_STATUS, .reg .LEA_CTRL_STAT, .reg .LEA_STATUS} ∪ Part.gwrite : Set Part) := Iff.rfl
@[simp ↓ 900] theorem Part.token_sub {ps : Set Part} : Part.token ⊆ ps ↔ {.areas, .boot, .commits, .engines, .jobs, .leas, .prods, .provs, .reg .CHN_ENG_STATUS, .reg .CHN_TAGS, .reg .GRS_EVT_CNT, .reg .GRS_PROV, .reg .GRS_STATUS, .reg .LEA_CTRL_STAT, .reg .LEA_STATUS} ∪ Part.gwrite ⊆ ps := Iff.rfl
@[simp ↓] theorem Part.gwrite_sub_token : Part.gwrite ⊆ Part.token ↔ True := by simp
@[simp ↓] theorem Part.event_sub_token : Part.event ⊆ Part.token ↔ True := by simp
@[simp ↓] theorem Part.merge_sub_token : Part.merge ⊆ Part.token ↔ True := by simp
@[simp ↓] theorem Part.tusss_sub_token : Part.tusss ⊆ Part.token ↔ True := by simp

/-- What the decision on a head job changes. -/
def Part.grant : Set Part := {.engines, .jobs, .nextJob, .reg .CHN_ADM_ADMITTED, .reg .CHN_ADM_HELD, .reg .CHN_ADM_REFUSED, .reg .CHN_ADM_SAT, .reg .CHN_ENG_CONS, .reg .CHN_ENG_JOBS, .reg .CHN_ENG_STATUS, .reg .CHN_TAGS, .reg .GLB_CTX_STATE} ∪ Part.read
@[simp ↓] theorem Part.mem_grant {p : Part} : p ∈ Part.grant ↔ p ∈ ({.engines, .jobs, .nextJob, .reg .CHN_ADM_ADMITTED, .reg .CHN_ADM_HELD, .reg .CHN_ADM_REFUSED, .reg .CHN_ADM_SAT, .reg .CHN_ENG_CONS, .reg .CHN_ENG_JOBS, .reg .CHN_ENG_STATUS, .reg .CHN_TAGS, .reg .GLB_CTX_STATE} ∪ Part.read : Set Part) := Iff.rfl
@[simp ↓ 900] theorem Part.grant_sub {ps : Set Part} : Part.grant ⊆ ps ↔ {.engines, .jobs, .nextJob, .reg .CHN_ADM_ADMITTED, .reg .CHN_ADM_HELD, .reg .CHN_ADM_REFUSED, .reg .CHN_ADM_SAT, .reg .CHN_ENG_CONS, .reg .CHN_ENG_JOBS, .reg .CHN_ENG_STATUS, .reg .CHN_TAGS, .reg .GLB_CTX_STATE} ∪ Part.read ⊆ ps := Iff.rfl
@[simp ↓] theorem Part.read_sub_grant : Part.read ⊆ Part.grant ↔ True := by simp
@[simp ↓] theorem Part.fetch_sub_grant : Part.fetch ⊆ Part.grant ↔ True := by simp
@[simp ↓] theorem Part.event_sub_grant : Part.event ⊆ Part.grant ↔ True := by simp



theorem Part.Same.trans {s t u : State} {p : Part} (h : p.Same s t) (k : p.Same t u) : p.Same s u := by
  cases p
  case reg r => exact fun f hf => (k f hf).trans (h f hf)
  all_goals exact Eq.trans k h

theorem Part.Same.symm {s t : State} {p : Part} (h : p.Same s t) : p.Same t s := by
  cases p
  case reg r => exact fun f hf => (h f hf).symm
  all_goals exact Eq.symm h

/-- An update of no register and no Tussock keeps every part that it does not name. -/
theorem Part.Same.refl (s : State) (p : Part) : p.Same s s := by
  cases p
  case reg r => exact fun f hf => rfl
  all_goals exact rfl

namespace State.Only

variable {s t u : State} {ps qs : Set Part}

theorem refl (s : State) (ps : Set Part) : s.Only ps s := ⟨fun p _ => .refl s p, fun _ => rfl, fun _ => rfl, id⟩

theorem trans (h : s.Only ps t) (k : t.Only ps u) : s.Only ps u :=
  ⟨fun p hp => (h.same p hp).trans (k.same p hp), fun hp => (k.regs hp).trans (h.regs hp),
   fun hp => (k.tusss hp).trans (h.tusss hp), fun hi => k.inv (h.inv hi)⟩

theorem mono (h : s.Only ps t) (sub : ps ⊆ qs) : s.Only qs t :=
  ⟨fun p hp => h.same p (fun hq => hp (sub hq)), fun hp => h.regs fun r hr => hp r (sub hr),
   fun hp => h.tusss fun r hr => hp r (sub hr), h.inv⟩

theorem mem_eq (h : s.Only ps t) (hm : Part.mem ∉ ps) : t.mem = s.mem := h.same _ hm

theorem symm (h : s.Only ps t) (hm : t.mem = s.mem) : t.Only ps s :=
  ⟨fun p hp => (h.same p hp).symm, fun hp => (h.regs hp).symm, fun hp => (h.tusss hp).symm,
   fun hi => by rw [State.Inv, ← hm]; exact hi⟩

/-- An update within a footprint that leaves memory alone does not matter to it. -/
theorem iff (h : t.Only qs u) (sub : qs ⊆ ps) (hm : Part.mem ∉ qs) : s.Only ps u ↔ s.Only ps t :=
  ⟨fun k => k.trans ((h.symm (h.mem_eq hm)).mono sub), fun k => k.trans (h.mono sub)⟩

/-- What is said of the state of a pair holds of its name. -/
theorem of_fst_trans {α β : Type} {p : State × α} {y : α} {w : State × β} (heq : p = (u, y)) (h : s.Only ps p.1)
    (k : u.OnlyFst ps w) : s.OnlyFst ps w := by
  rw [heq] at h
  exact h.trans k

theorem of_fst {α : Type} {p : State × α} {y : α} (heq : p = (u, y)) (h : s.Only ps p.1) : s.Only ps u := by rwa [heq] at h

theorem of_sub (h : t.Only qs u) (sub : qs ⊆ ps) (k : s.Only ps t) : s.Only ps u := k.trans (h.mono sub)

end State.Only

@[simp] theorem State.only_refl (s : State) (ps : Set Part) : s.Only ps s ↔ True := iff_true_intro (.refl s ps)

@[simp ↓] theorem State.only_ite {s t u : State} {ps : Set Part} (c : Prop) [Decidable c] :
    s.Only ps (if c then t else u) ↔ if c then s.Only ps t else s.Only ps u := by split <;> rfl

@[simp ↓] theorem State.only_ite_fst {α : Type} {s : State} {p q : State × α} {ps : Set Part} (c : Prop) [Decidable c] :
    s.Only ps (if c then p else q).1 ↔ if c then s.Only ps p.1 else s.Only ps q.1 := by split <;> rfl

@[simp ↓] theorem State.only_foldl {s t : State} {ps : Set Part} {β : Type} {l : List β} {f : State → β → State}
    (hf : ∀ u x, State.Only u ps (f u x)) (h : s.Only ps t) : s.Only ps (l.foldl f t) := by
  induction l generalizing t with
  | nil => exact h
  | cons x l ih => exact ih (h.trans (hf t x))

/-- A memory is canonical if another is. -/
def Memory.Keeps (m m' : List Host.Cell) : Prop := Memory.wf m = true → Memory.wf m' = true

section
variable {m m' : List Host.Cell} {a lo hi : Nat}

@[simp] theorem Memory.keeps_self : Memory.Keeps m m := id
@[simp] theorem Memory.keeps_write {b : Byte} (h : Memory.Keeps m m') : Memory.Keeps m (Memory.write m' a b) :=
  fun k => Tab.wf_set _ _ _ _ (h k)
@[simp] theorem Memory.keeps_writeN {bs : List Byte} (h : Memory.Keeps m m') : Memory.Keeps m (Memory.writeN m' a bs) :=
  fun k => Tab.wf_setList _ _ _ _ (h k)
@[simp] theorem Memory.keeps_fill (h : Memory.Keeps m m') : Memory.Keeps m (Memory.fill m' lo hi) :=
  fun k => Tab.wf_clear _ _ _ _ (h k)
@[simp] theorem Memory.keeps_putBlock {b : Block} (h : Memory.Keeps m m') : Memory.Keeps m (Memory.putBlock m' a b) :=
  Memory.keeps_writeN (Memory.keeps_writeN h)

end

/-- Spares the question whether a part may change where it does not. -/
@[simp ↓ 1100] theorem eq_self_or {α : Type} (x : α) (p : Prop) : (x = x ∨ p) ↔ True := iff_true_intro (.inl rfl)

theorem State.only_foldl_fst {α β : Type} {s : State} {ps : Set Part} {l : List β} {f : State × α → β → State × α} {p : State × α}
    (hf : ∀ q x, s.Only ps q.1 → s.Only ps (f q x).1) (h : s.Only ps p.1) : s.Only ps (l.foldl f p).1 := by
  induction l generalizing p with
  | nil => exact h
  | cons x l ih => exact ih (hf p x h)

@[simp ↓] theorem State.only_mk {s t : State} {ps : Set Part} {x_free x_time x_regs x_mem x_latent x_flits x_irq x_host x_mgmt x_out x_stile x_jobs x_nextJob x_engines x_flight x_t3 x_chans x_fresh x_provs x_nextProv x_stallSwath x_tusss x_areas x_recs x_prods x_genSets x_leas x_leaFaults x_chainRefs x_legacyRefs x_commits x_images x_verifs x_loads x_tests x_pubKeys x_testKey x_fractionOld x_fractionAt x_ctxs x_sensors x_heather x_entry x_waking x_slept x_quarters x_boot x_flash x_tap}
    (h_free : x_free = t.free ∨ Part.free ∈ ps) (h_time : x_time = t.time ∨ Part.time ∈ ps) (h_regs : x_regs = t.regs ∨ Part.regs ⊆ ps) (h_mem : x_mem = t.mem) (h_latent : x_latent = t.latent ∨ Part.latent ∈ ps) (h_flits : x_flits = t.flits ∨ Part.flits ∈ ps) (h_irq : x_irq = t.irq ∨ Part.irq ∈ ps) (h_host : x_host = t.host ∨ Part.host ∈ ps) (h_mgmt : x_mgmt = t.mgmt ∨ Part.mgmt ∈ ps) (h_out : x_out = t.out ∨ Part.out ∈ ps) (h_stile : x_stile = t.stile ∨ Part.stile ∈ ps) (h_jobs : x_jobs = t.jobs ∨ Part.jobs ∈ ps) (h_nextJob : x_nextJob = t.nextJob ∨ Part.nextJob ∈ ps) (h_engines : x_engines = t.engines ∨ Part.engines ∈ ps) (h_flight : x_flight = t.flight ∨ Part.flight ∈ ps) (h_t3 : x_t3 = t.t3 ∨ Part.t3 ∈ ps) (h_chans : x_chans = t.chans ∨ Part.chans ∈ ps) (h_fresh : x_fresh = t.fresh ∨ Part.fresh ∈ ps) (h_provs : x_provs = t.provs ∨ Part.provs ∈ ps) (h_nextProv : x_nextProv = t.nextProv ∨ Part.nextProv ∈ ps) (h_stallSwath : x_stallSwath = t.stallSwath ∨ Part.stallSwath ∈ ps) (h_tusss : x_tusss = t.tusss ∨ Part.tusss ⊆ ps) (h_areas : x_areas = t.areas ∨ Part.areas ∈ ps) (h_recs : x_recs = t.recs ∨ Part.recs ∈ ps) (h_prods : x_prods = t.prods ∨ Part.prods ∈ ps) (h_genSets : x_genSets = t.genSets ∨ Part.genSets ∈ ps) (h_leas : x_leas = t.leas ∨ Part.leas ∈ ps) (h_leaFaults : x_leaFaults = t.leaFaults ∨ Part.leaFaults ∈ ps) (h_chainRefs : x_chainRefs = t.chainRefs ∨ Part.chainRefs ∈ ps) (h_legacyRefs : x_legacyRefs = t.legacyRefs ∨ Part.legacyRefs ∈ ps) (h_commits : x_commits = t.commits ∨ Part.commits ∈ ps) (h_images : x_images = t.images ∨ Part.images ∈ ps) (h_verifs : x_verifs = t.verifs ∨ Part.verifs ∈ ps) (h_loads : x_loads = t.loads ∨ Part.loads ∈ ps) (h_tests : x_tests = t.tests ∨ Part.tests ∈ ps) (h_pubKeys : x_pubKeys = t.pubKeys ∨ Part.pubKeys ∈ ps) (h_testKey : x_testKey = t.testKey ∨ Part.testKey ∈ ps) (h_fractionOld : x_fractionOld = t.fractionOld ∨ Part.fractionOld ∈ ps) (h_fractionAt : x_fractionAt = t.fractionAt ∨ Part.fractionAt ∈ ps) (h_ctxs : x_ctxs = t.ctxs ∨ Part.ctxs ∈ ps) (h_sensors : x_sensors = t.sensors ∨ Part.sensors ∈ ps) (h_heather : x_heather = t.heather ∨ Part.heather ∈ ps) (h_entry : x_entry = t.entry ∨ Part.entry ∈ ps) (h_waking : x_waking = t.waking ∨ Part.waking ∈ ps) (h_slept : x_slept = t.slept ∨ Part.slept ∈ ps) (h_quarters : x_quarters = t.quarters ∨ Part.quarters ∈ ps) (h_boot : x_boot = t.boot ∨ Part.boot ∈ ps) (h_flash : x_flash = t.flash ∨ Part.flash ∈ ps) (h_tap : x_tap = t.tap ∨ Part.tap ∈ ps) :
    s.Only ps (State.mk t.pending x_free x_time x_regs x_mem x_latent x_flits x_irq x_host x_mgmt x_out x_stile x_jobs x_nextJob x_engines x_flight x_t3 x_chans x_fresh x_provs x_nextProv x_stallSwath x_tusss x_areas x_recs x_prods x_genSets x_leas x_leaFaults x_chainRefs x_legacyRefs x_commits x_images x_verifs x_loads x_tests x_pubKeys x_testKey x_fractionOld x_fractionAt x_ctxs x_sensors x_heather x_entry x_waking x_slept x_quarters x_boot x_flash x_tap) ↔ s.Only ps t := by
  subst h_mem
  have h : t.Only ps (State.mk t.pending x_free x_time x_regs t.mem x_latent x_flits x_irq x_host x_mgmt x_out x_stile x_jobs x_nextJob x_engines x_flight x_t3 x_chans x_fresh x_provs x_nextProv x_stallSwath x_tusss x_areas x_recs x_prods x_genSets x_leas x_leaFaults x_chainRefs x_legacyRefs x_commits x_images x_verifs x_loads x_tests x_pubKeys x_testKey x_fractionOld x_fractionAt x_ctxs x_sensors x_heather x_entry x_waking x_slept x_quarters x_boot x_flash x_tap) := by
    refine ⟨fun p hp => ?_, fun h => h_regs.resolve_right fun sub => h .GLB_ID (sub ⟨_, rfl⟩),
      fun h => h_tusss.resolve_right fun sub => h 0 (sub ⟨_, rfl⟩), id⟩
    cases p
    case reg r => exact fun f _ => State.get_congr (h_regs.resolve_right fun sub => hp (sub ⟨_, rfl⟩)) f
    case tuss g => exact congrArg (fun x => Tab.get (fun _ => ({} : Tuss)) x g) (h_tusss.resolve_right fun sub => hp (sub ⟨_, rfl⟩))
    case pending => rfl
    case mem => rfl
    case free => exact h_free.resolve_right hp
    case time => exact h_time.resolve_right hp
    case latent => exact h_latent.resolve_right hp
    case flits => exact h_flits.resolve_right hp
    case irq => exact h_irq.resolve_right hp
    case host => exact h_host.resolve_right hp
    case mgmt => exact h_mgmt.resolve_right hp
    case out => exact h_out.resolve_right hp
    case stile => exact h_stile.resolve_right hp
    case jobs => exact h_jobs.resolve_right hp
    case nextJob => exact h_nextJob.resolve_right hp
    case engines => exact h_engines.resolve_right hp
    case flight => exact h_flight.resolve_right hp
    case t3 => exact h_t3.resolve_right hp
    case chans => exact h_chans.resolve_right hp
    case fresh => exact h_fresh.resolve_right hp
    case provs => exact h_provs.resolve_right hp
    case nextProv => exact h_nextProv.resolve_right hp
    case stallSwath => exact h_stallSwath.resolve_right hp
    case areas => exact h_areas.resolve_right hp
    case recs => exact h_recs.resolve_right hp
    case prods => exact h_prods.resolve_right hp
    case genSets => exact h_genSets.resolve_right hp
    case leas => exact h_leas.resolve_right hp
    case leaFaults => exact h_leaFaults.resolve_right hp
    case chainRefs => exact h_chainRefs.resolve_right hp
    case legacyRefs => exact h_legacyRefs.resolve_right hp
    case commits => exact h_commits.resolve_right hp
    case images => exact h_images.resolve_right hp
    case verifs => exact h_verifs.resolve_right hp
    case loads => exact h_loads.resolve_right hp
    case tests => exact h_tests.resolve_right hp
    case pubKeys => exact h_pubKeys.resolve_right hp
    case testKey => exact h_testKey.resolve_right hp
    case fractionOld => exact h_fractionOld.resolve_right hp
    case fractionAt => exact h_fractionAt.resolve_right hp
    case ctxs => exact h_ctxs.resolve_right hp
    case sensors => exact h_sensors.resolve_right hp
    case heather => exact h_heather.resolve_right hp
    case entry => exact h_entry.resolve_right hp
    case waking => exact h_waking.resolve_right hp
    case slept => exact h_slept.resolve_right hp
    case quarters => exact h_quarters.resolve_right hp
    case boot => exact h_boot.resolve_right hp
    case flash => exact h_flash.resolve_right hp
    case tap => exact h_tap.resolve_right hp
  exact ⟨fun k => k.trans (h.symm rfl), fun k => k.trans h⟩

/-- The same for an update that writes memory and keeps it canonical. -/
@[simp ↓] theorem State.only_mk_mem {s t : State} {ps : Set Part} {x_free x_time x_regs x_mem x_latent x_flits x_irq x_host x_mgmt x_out x_stile x_jobs x_nextJob x_engines x_flight x_t3 x_chans x_fresh x_provs x_nextProv x_stallSwath x_tusss x_areas x_recs x_prods x_genSets x_leas x_leaFaults x_chainRefs x_legacyRefs x_commits x_images x_verifs x_loads x_tests x_pubKeys x_testKey x_fractionOld x_fractionAt x_ctxs x_sensors x_heather x_entry x_waking x_slept x_quarters x_boot x_flash x_tap}
    (h_free : x_free = t.free ∨ Part.free ∈ ps) (h_time : x_time = t.time ∨ Part.time ∈ ps) (h_regs : x_regs = t.regs ∨ Part.regs ⊆ ps) (h_latent : x_latent = t.latent ∨ Part.latent ∈ ps) (h_flits : x_flits = t.flits ∨ Part.flits ∈ ps) (h_irq : x_irq = t.irq ∨ Part.irq ∈ ps) (h_host : x_host = t.host ∨ Part.host ∈ ps) (h_mgmt : x_mgmt = t.mgmt ∨ Part.mgmt ∈ ps) (h_out : x_out = t.out ∨ Part.out ∈ ps) (h_stile : x_stile = t.stile ∨ Part.stile ∈ ps) (h_jobs : x_jobs = t.jobs ∨ Part.jobs ∈ ps) (h_nextJob : x_nextJob = t.nextJob ∨ Part.nextJob ∈ ps) (h_engines : x_engines = t.engines ∨ Part.engines ∈ ps) (h_flight : x_flight = t.flight ∨ Part.flight ∈ ps) (h_t3 : x_t3 = t.t3 ∨ Part.t3 ∈ ps) (h_chans : x_chans = t.chans ∨ Part.chans ∈ ps) (h_fresh : x_fresh = t.fresh ∨ Part.fresh ∈ ps) (h_provs : x_provs = t.provs ∨ Part.provs ∈ ps) (h_nextProv : x_nextProv = t.nextProv ∨ Part.nextProv ∈ ps) (h_stallSwath : x_stallSwath = t.stallSwath ∨ Part.stallSwath ∈ ps) (h_tusss : x_tusss = t.tusss ∨ Part.tusss ⊆ ps) (h_areas : x_areas = t.areas ∨ Part.areas ∈ ps) (h_recs : x_recs = t.recs ∨ Part.recs ∈ ps) (h_prods : x_prods = t.prods ∨ Part.prods ∈ ps) (h_genSets : x_genSets = t.genSets ∨ Part.genSets ∈ ps) (h_leas : x_leas = t.leas ∨ Part.leas ∈ ps) (h_leaFaults : x_leaFaults = t.leaFaults ∨ Part.leaFaults ∈ ps) (h_chainRefs : x_chainRefs = t.chainRefs ∨ Part.chainRefs ∈ ps) (h_legacyRefs : x_legacyRefs = t.legacyRefs ∨ Part.legacyRefs ∈ ps) (h_commits : x_commits = t.commits ∨ Part.commits ∈ ps) (h_images : x_images = t.images ∨ Part.images ∈ ps) (h_verifs : x_verifs = t.verifs ∨ Part.verifs ∈ ps) (h_loads : x_loads = t.loads ∨ Part.loads ∈ ps) (h_tests : x_tests = t.tests ∨ Part.tests ∈ ps) (h_pubKeys : x_pubKeys = t.pubKeys ∨ Part.pubKeys ∈ ps) (h_testKey : x_testKey = t.testKey ∨ Part.testKey ∈ ps) (h_fractionOld : x_fractionOld = t.fractionOld ∨ Part.fractionOld ∈ ps) (h_fractionAt : x_fractionAt = t.fractionAt ∨ Part.fractionAt ∈ ps) (h_ctxs : x_ctxs = t.ctxs ∨ Part.ctxs ∈ ps) (h_sensors : x_sensors = t.sensors ∨ Part.sensors ∈ ps) (h_heather : x_heather = t.heather ∨ Part.heather ∈ ps) (h_entry : x_entry = t.entry ∨ Part.entry ∈ ps) (h_waking : x_waking = t.waking ∨ Part.waking ∈ ps) (h_slept : x_slept = t.slept ∨ Part.slept ∈ ps) (h_quarters : x_quarters = t.quarters ∨ Part.quarters ∈ ps) (h_boot : x_boot = t.boot ∨ Part.boot ∈ ps) (h_flash : x_flash = t.flash ∨ Part.flash ∈ ps) (h_tap : x_tap = t.tap ∨ Part.tap ∈ ps) (hm : Part.mem ∈ ps) (h_mem : Memory.Keeps t.mem x_mem) (k : s.Only ps t) :
    s.Only ps (State.mk t.pending x_free x_time x_regs x_mem x_latent x_flits x_irq x_host x_mgmt x_out x_stile x_jobs x_nextJob x_engines x_flight x_t3 x_chans x_fresh x_provs x_nextProv x_stallSwath x_tusss x_areas x_recs x_prods x_genSets x_leas x_leaFaults x_chainRefs x_legacyRefs x_commits x_images x_verifs x_loads x_tests x_pubKeys x_testKey x_fractionOld x_fractionAt x_ctxs x_sensors x_heather x_entry x_waking x_slept x_quarters x_boot x_flash x_tap) := by
  refine k.trans ⟨fun p hp => ?_, fun h => h_regs.resolve_right fun sub => h .GLB_ID (sub ⟨_, rfl⟩),
    fun h => h_tusss.resolve_right fun sub => h 0 (sub ⟨_, rfl⟩), h_mem⟩
  cases p
  case reg r => exact fun f _ => State.get_congr (h_regs.resolve_right fun sub => hp (sub ⟨_, rfl⟩)) f
  case tuss g => exact congrArg (fun x => Tab.get (fun _ => ({} : Tuss)) x g) (h_tusss.resolve_right fun sub => hp (sub ⟨_, rfl⟩))
  case pending => rfl
  case mem => exact absurd hm hp
  case free => exact h_free.resolve_right hp
  case time => exact h_time.resolve_right hp
  case latent => exact h_latent.resolve_right hp
  case flits => exact h_flits.resolve_right hp
  case irq => exact h_irq.resolve_right hp
  case host => exact h_host.resolve_right hp
  case mgmt => exact h_mgmt.resolve_right hp
  case out => exact h_out.resolve_right hp
  case stile => exact h_stile.resolve_right hp
  case jobs => exact h_jobs.resolve_right hp
  case nextJob => exact h_nextJob.resolve_right hp
  case engines => exact h_engines.resolve_right hp
  case flight => exact h_flight.resolve_right hp
  case t3 => exact h_t3.resolve_right hp
  case chans => exact h_chans.resolve_right hp
  case fresh => exact h_fresh.resolve_right hp
  case provs => exact h_provs.resolve_right hp
  case nextProv => exact h_nextProv.resolve_right hp
  case stallSwath => exact h_stallSwath.resolve_right hp
  case areas => exact h_areas.resolve_right hp
  case recs => exact h_recs.resolve_right hp
  case prods => exact h_prods.resolve_right hp
  case genSets => exact h_genSets.resolve_right hp
  case leas => exact h_leas.resolve_right hp
  case leaFaults => exact h_leaFaults.resolve_right hp
  case chainRefs => exact h_chainRefs.resolve_right hp
  case legacyRefs => exact h_legacyRefs.resolve_right hp
  case commits => exact h_commits.resolve_right hp
  case images => exact h_images.resolve_right hp
  case verifs => exact h_verifs.resolve_right hp
  case loads => exact h_loads.resolve_right hp
  case tests => exact h_tests.resolve_right hp
  case pubKeys => exact h_pubKeys.resolve_right hp
  case testKey => exact h_testKey.resolve_right hp
  case fractionOld => exact h_fractionOld.resolve_right hp
  case fractionAt => exact h_fractionAt.resolve_right hp
  case ctxs => exact h_ctxs.resolve_right hp
  case sensors => exact h_sensors.resolve_right hp
  case heather => exact h_heather.resolve_right hp
  case entry => exact h_entry.resolve_right hp
  case waking => exact h_waking.resolve_right hp
  case slept => exact h_slept.resolve_right hp
  case quarters => exact h_quarters.resolve_right hp
  case boot => exact h_boot.resolve_right hp
  case flash => exact h_flash.resolve_right hp
  case tap => exact h_tap.resolve_right hp

@[simp ↓] theorem State.only_set {s t : State} {ps : Set Part} {f : Fld} {v : Nat} (h : Part.reg f.r ∈ ps) :
    s.Only ps (t.set f v) ↔ s.Only ps t := by
  refine State.Only.iff (qs := {.reg f.r}) ⟨fun p hp => ?_, fun hp => absurd rfl (hp f.r), fun _ => rfl, id⟩ (by simpa using h) (by simp)
  cases p
  case reg r => exact fun g hg => State.get_set_ne _ _ fun he => hp (by rw [((Fld.key_iff f g).1 he).1, hg]; rfl)
  all_goals rfl

@[simp ↓] theorem State.only_setTuss {s t : State} {ps : Set Part} {g : Nat} {x : Tuss} (h : Part.tuss g ∈ ps) :
    s.Only ps (t.setTuss g x) ↔ s.Only ps t := by
  refine State.Only.iff (qs := {.tuss g}) ⟨fun p hp => ?_, fun _ => rfl, fun hp => absurd rfl (hp g), id⟩ (by simpa using h) (by simp)
  cases p
  case tuss k => exact Tab.get_set_ne _ _ _ fun he => hp (he ▸ rfl)
  case reg r => exact fun _ _ => rfl
  all_goals rfl

@[simp ↓] theorem State.only_answer {s t : State} {ps : Set Part} {a : Agent} {v : Nat} (h : {.host, .mgmt} ⊆ ps) :
    s.Only ps (t.answer a v) ↔ s.Only ps t := by
  obtain ⟨h1, h2⟩ : Part.host ∈ ps ∧ Part.mgmt ∈ ps := by simpa [Set.insert_subset_iff] using h
  cases a <;> simp [State.answer, h1, h2]

/-- A command answers a next state, and what it changes lies in a footprint. -/
def State.Keeps (ps : Set Part) (f : State → Host.Outcome State Fault Refusal) : Prop := ∀ t, ∃ u, f t = .next u ∧ t.Only ps u

theorem State.Keeps.mono {ps qs : Set Part} {f : State → Host.Outcome State Fault Refusal} (h : State.Keeps ps f) (sub : ps ⊆ qs) :
    State.Keeps qs f := fun t =>
  have ⟨u, hu, k⟩ := h t
  ⟨u, hu, k.mono sub⟩

@[simp ↓] theorem State.only_act {s t : State} {ps : Set Part} {f : State → Host.Outcome State Fault Refusal} (h : State.Keeps ps f)
    (k : s.Only ps t) : s.Only ps (t.act f) := by
  obtain ⟨u, hu, hk⟩ := h t
  rw [State.act, hu]
  exact k.trans hk

@[simp ↓] theorem State.only_actIf {s t : State} {ps : Set Part} {c : Bool} {f : State → Host.Outcome State Fault Refusal}
    (h : State.Keeps ps f) (k : s.Only ps t) : s.Only ps (t.actIf c f) := by
  unfold State.actIf; split
  · exact State.only_act h k
  · exact k

/-! Commands with a gate. -/

section
variable {s t : State} {ps : Set Part} {r : RegName} {i g p : Nat} {f : State → State}

@[simp ↓] theorem State.only_ifReach : s.Only ps (t.ifReach r i f) ↔ if t.reach r i then s.Only ps (f t) else s.Only ps t :=
  State.only_ite _
@[simp ↓] theorem State.only_ifStile : s.Only ps (t.ifStile f) ↔ if t.powered .stile then s.Only ps (f t) else s.Only ps t :=
  State.only_ite _
@[simp ↓] theorem State.only_ifPowered : s.Only ps (t.ifPowered g f) ↔ if t.onT g then s.Only ps (f t) else s.Only ps t :=
  State.only_ite _
@[simp ↓] theorem State.only_ifT : s.Only ps (t.ifT g f) ↔ if t.runsT g then s.Only ps (f t) else s.Only ps t :=
  State.only_ite _
@[simp ↓] theorem State.only_ifGorse :
    s.Only ps (t.ifGorse g f) ↔ if t.onT g && !t.stopped (0x30 + chanOf g) then s.Only ps (f t) else s.Only ps t :=
  State.only_ite _
@[simp ↓] theorem State.only_ifPort : s.Only ps (t.ifPort p f) ↔ if t.stopped (0x60 + p) then s.Only ps t else s.Only ps (f t) :=
  State.only_ite _
@[simp ↓] theorem State.only_ifCycle : s.Only ps (t.ifCycle g f) ↔
    if t.runsT g then (if (t.tuss g).open_ = some t.swath then s.Only ps (f t) else s.Only ps t) else s.Only ps t := by
  simp [State.ifCycle]
@[simp ↓] theorem State.only_ifAnyCycle : s.Only ps (t.ifAnyCycle g f) ↔
    if t.onT g then (if (t.tuss g).open_ = some t.swath then s.Only ps (f t) else s.Only ps t) else s.Only ps t := by
  simp [State.ifAnyCycle]

end

end Sys2Proof.Machine


/-! ### The footprint of every operation

One lemma for each function of the model on states, in the model's order, under the model's own headings: what the function changes.
`State.only_f` speaks of the function `State.f`, `keeps_execX` of the command `.x`. A function whose kernel evaluation would not end is first
written with the functions that it calls left open (`State.fBy`). -/

namespace Sys2Proof.Machine
open Sys2Proof

/-! #### Register fields -/

@[simp ↓] theorem State.only_inc {s t : State} {ps : Set Part} {f : Fld} (sub : {.reg f.r} ⊆ ps) :
    s.Only ps (t.inc f) ↔ s.Only ps t :=
  State.Only.iff (by
    unfold State.inc; simp) sub (by simp)

@[simp ↓] theorem State.only_incBy {s t : State} {ps : Set Part} {f : Fld} {n : ℕ} (sub : {.reg f.r} ⊆ ps) :
    s.Only ps (t.incBy f n) ↔ s.Only ps t :=
  State.Only.iff (by
    unfold State.incBy; simp) sub (by simp)

@[simp ↓] theorem State.only_incMod {s t : State} {ps : Set Part} {f : Fld} (sub : {.reg f.r} ⊆ ps) :
    s.Only ps (t.incMod f) ↔ s.Only ps t :=
  State.Only.iff (by
    unfold State.incMod; simp) sub (by simp)

@[simp ↓] theorem State.only_setIf {s t : State} {ps : Set Part} {c : Bool} {f : Fld} {v : ℕ} (sub : {.reg f.r} ⊆ ps) :
    s.Only ps (t.setIf c f v) ↔ s.Only ps t :=
  State.Only.iff (by
    unfold State.setIf; simp) sub (by simp)

@[simp ↓] theorem State.only_setBit {s t : State} {ps : Set Part} {f : Fld} {b : ℕ} (sub : {.reg f.r} ⊆ ps) :
    s.Only ps (t.setBit f b) ↔ s.Only ps t :=
  State.Only.iff (by
    unfold State.setBit; simp) sub (by simp)

@[simp ↓] theorem State.only_clrBit {s t : State} {ps : Set Part} {f : Fld} {b : ℕ} (sub : {.reg f.r} ⊆ ps) :
    s.Only ps (t.clrBit f b) ↔ s.Only ps t :=
  State.Only.iff (by
    unfold State.clrBit; simp) sub (by simp)

@[simp ↓] theorem State.only_putBit {s t : State} {ps : Set Part} {f : Fld} {b : ℕ} {v : Bool} (sub : {.reg f.r} ⊆ ps) :
    s.Only ps (t.putBit f b v) ↔ s.Only ps t :=
  State.Only.iff (by
    unfold State.putBit; simp) sub (by simp)

@[simp ↓] theorem State.only_raise {s t : State} {ps : Set Part} {f : Fld} {v : ℕ} (sub : {.reg f.r} ⊆ ps) :
    s.Only ps (t.raise f v) ↔ s.Only ps t :=
  State.Only.iff (by
    unfold State.raise; simp) sub (by simp)

@[simp ↓] theorem State.only_resetRegs {s t : State} {ps : Set Part} {r : RegName} {i0 i1 : ℕ} (sub : Part.regs ⊆ ps) :
    s.Only ps (t.resetRegs r i0 i1) ↔ s.Only ps t := by
  refine State.Only.iff ⟨fun p hp => ?_, fun h => absurd ⟨r, rfl⟩ (h r), fun _ => rfl, id⟩ sub (by simp)
  cases p
  case reg q => simp at hp
  all_goals rfl

/-! #### Whole registers -/

@[simp ↓] theorem State.only_writeField {s t : State} {ps : Set Part} {r : RegName} {i : ℕ} {j : ℕ} {v : ℕ} {lo : ℕ} {hi : ℕ} {d : FieldDesc} (sub : Part.regs ⊆ ps) :
    s.Only ps (t.writeField r i j v lo hi d) ↔ s.Only ps t :=
  State.Only.iff (by
    unfold State.writeField; repeat' split
    all_goals simp) sub (by simp)

@[simp ↓] theorem State.only_writeReg {s t : State} {ps : Set Part} {r : RegName} {i : ℕ} {j : ℕ} {v : ℕ} {lo : ℕ} {hi : ℕ} (sub : Part.regs ⊆ ps) :
    s.Only ps (t.writeReg r i j v lo hi) ↔ s.Only ps t :=
  State.Only.iff (by
    unfold State.writeReg; simp) sub (by simp)

/-! #### Free values -/

@[simp ↓] theorem State.only_draw {s t : State} {ps : Set Part} (sub : {.free} ⊆ ps) :
    s.Only ps (t.draw) ↔ s.Only ps t :=
  State.Only.iff (by
    unfold State.draw; simp) sub (by simp)

/-! #### Interrupts and errors -/

@[simp ↓] theorem State.only_signal {s t : State} {ps : Set Part} {v : ℕ} (sub : Part.event ⊆ ps) :
    s.Only ps (t.signal v) ↔ s.Only ps t :=
  State.Only.iff (by
    unfold State.signal; simp [F.GLB_IRQ_EVENT_LO_EVENT, F.GLB_IRQ_EVENT_HI_EVENT]) sub (by simp)

@[simp ↓] theorem State.only_glbErr {s t : State} {ps : Set Part} {b : ℕ} (sub : {.reg .GLB_ERR_STATUS} ∪ Part.event ⊆ ps) :
    s.Only ps (t.glbErr b) ↔ s.Only ps t :=
  State.Only.iff (by
    unfold State.glbErr; simp [F.GLB_ERR_MASK_EN, glbErrFld]) sub (by simp)

@[simp ↓] theorem State.only_send {s t : State} {ps : Set Part} {o : Out} (sub : {.out} ⊆ ps) :
    s.Only ps (t.send o) ↔ s.Only ps t :=
  State.Only.iff (by
    unfold State.send; simp) sub (by simp)

/-! #### Power domains and reachable registers -/

@[simp ↓] theorem State.only_resetDomainRegs {s t : State} {ps : Set Part} {d : Domain} (sub : Part.regs ⊆ ps) :
    s.Only ps (t.resetDomainRegs d) ↔ s.Only ps t :=
  State.Only.iff (by
    unfold State.resetDomainRegs
    all_goals
      refine State.only_foldl (fun u x => ?_) (by simp [*])
      repeat' split
    all_goals simp [*]) sub (by simp)

/-! #### Time -/

@[simp ↓] theorem State.only_stileNote {s t : State} {ps : Set Part} (sub : {.stile} ⊆ ps) :
    s.Only ps (t.stileNote) ↔ s.Only ps t :=
  State.Only.iff (by
    unfold State.stileNote; simp) sub (by simp)

/-! #### The field analogue inputs: scan, injected conversions, averaging and system calibration -/

@[simp ↓] theorem State.only_withAin {s t : State} {ps : Set Part} {a : AinScan} (sub : {.stile} ⊆ ps) :
    s.Only ps (t.withAin a) ↔ s.Only ps t :=
  State.Only.iff (by
    unfold State.withAin; simp) sub (by simp)

@[simp ↓] theorem State.only_setAdc {s t : State} {ps : Set Part} {k₀ : ℕ} {p : AdcPhase} (sub : {.stile} ⊆ ps) :
    s.Only ps (t.setAdc k₀ p) ↔ s.Only ps t :=
  State.Only.iff (by
    unfold State.setAdc; simp) sub (by simp)

@[simp ↓] theorem State.only_settleAdc {s t : State} {ps : Set Part} {k₀ : ℕ} (sub : {.stile} ⊆ ps) :
    s.Only ps (t.settleAdc k₀) ↔ s.Only ps t :=
  State.Only.iff (by
    unfold State.settleAdc; split <;> simp) sub (by simp)

@[simp ↓] theorem State.only_ainBusy {s t : State} {ps : Set Part} (sub : {.reg .STL_AIN_STATUS} ⊆ ps) :
    s.Only ps (t.ainBusy) ↔ s.Only ps t :=
  State.Only.iff (by
    unfold State.ainBusy; simp [F.STL_AIN_STATUS_BUSY]) sub (by simp)

@[simp ↓] theorem State.only_startConv {s t : State} {ps : Set Part} {d : ConvDue} {injected : Bool} {paced : Bool} (sub : {.stile} ⊆ ps) :
    s.Only ps (t.startConv d injected paced) ↔ s.Only ps t :=
  State.Only.iff (by
    unfold State.startConv; simp) sub (by simp)

@[simp ↓] theorem State.only_beginPass {s t : State} {ps : Set Part} (sub : {.stile, .reg .STL_AIN_STATUS} ∪ Part.event ⊆ ps) :
    s.Only ps (t.beginPass) ↔ s.Only ps t :=
  State.Only.iff (by
    unfold State.beginPass; simp [F.STL_AIN_MASK_MASK, F.STL_AIN_STATUS_SEQ_LEN, F.STL_AIN_STATUS_CAL_ERR, F.STL_AIN_STATUS_CAL_BUSY]) sub (by simp)

@[simp ↓] theorem State.only_beginFor {s t : State} {ps : Set Part} {k₀ n : ℕ} (sub : {.stile, .reg .STL_AIN_STATUS} ∪ Part.event ⊆ ps) :
    s.Only ps (t.beginFor k₀ n) ↔ s.Only ps t :=
  State.Only.iff (by
    induction n generalizing t with
    | zero => exact .refl t _
    | succ n ih =>
      unfold State.beginFor; split
      · exact .refl t _
      · exact .trans (by simp) ih) sub (by simp)

@[simp ↓] theorem State.only_feed {s t : State} {ps : Set Part} {k₀ : ℕ} (sub : {.stile, .reg .STL_AIN_STATUS} ∪ Part.event ⊆ ps) :
    s.Only ps (t.feed k₀) ↔ s.Only ps t :=
  State.Only.iff (by
    unfold State.feed; dsimp only; repeat' split
    all_goals simp [*]) sub (by simp)

@[simp ↓] theorem State.only_contFeed {s t : State} {ps : Set Part} (sub : {.stile, .reg .STL_AIN_STATUS} ∪ Part.event ⊆ ps) :
    s.Only ps (t.contFeed) ↔ s.Only ps t :=
  State.Only.iff (by
    unfold State.contFeed; simp) sub (by simp)

@[simp ↓] theorem State.only_startPass {s t : State} {ps : Set Part} (sub : {.stile, .reg .STL_AIN_STATUS} ∪ Part.event ⊆ ps) :
    s.Only ps (t.startPass) ↔ s.Only ps t :=
  State.Only.iff (by
    unfold State.startPass; simp) sub (by simp)

@[simp ↓] theorem State.only_calAbort {s t : State} {ps : Set Part} (sub : {.stile, .reg .STL_AIN_STATUS} ∪ Part.event ⊆ ps) :
    s.Only ps (t.calAbort) ↔ s.Only ps t :=
  State.Only.iff (by
    unfold State.calAbort; split <;> simp [F.STL_AIN_STATUS_CAL_ERR, F.STL_AIN_STATUS_CAL_BUSY]) sub (by simp)

@[simp ↓] theorem State.only_ainOff {s t : State} {ps : Set Part} (sub : {.stile, .reg .STL_AIN_CFG, .reg .STL_AIN_STATUS} ∪ Part.event ⊆ ps) :
    s.Only ps (t.ainOff) ↔ s.Only ps t :=
  State.Only.iff (by
    unfold State.ainOff; simp [F.STL_AIN_CFG_MODE]) sub (by simp)

@[simp ↓] theorem State.only_setAinCfg {s t : State} {ps : Set Part} {v : ℕ} (sub : Part.regs ⊆ ps) :
    s.Only ps (t.setAinCfg v) ↔ s.Only ps t :=
  State.Only.iff (by
    unfold State.setAinCfg; simp) sub (by simp)

@[simp ↓] theorem State.only_ainModeWrite {s t : State} {ps : Set Part} {v : ℕ} (sub : {.irq, .stile} ∪ Part.regs ⊆ ps) :
    s.Only ps (t.ainModeWrite v) ↔ s.Only ps t :=
  State.Only.iff (by
    unfold State.ainModeWrite; simp [F.STL_AIN_CFG_MODE, F.STL_AIN_STATUS_BUSY, F.STL_AIN_STATUS_CFG_REJECT, F.STL_AIN_MASK_MASK, F.STL_AIN_PACE_PERIOD]) sub (by simp)

@[simp ↓] theorem State.only_ainMaskWrite {s t : State} {ps : Set Part} {v : ℕ} (sub : {.stile, .reg .STL_AIN_STATUS, .reg .STL_AIN_MASK} ∪ Part.event ⊆ ps) :
    s.Only ps (t.ainMaskWrite v) ↔ s.Only ps t :=
  State.Only.iff (by
    unfold State.ainMaskWrite; simp [F.STL_AIN_CFG_INTERLEAVE, F.STL_AIN_STATUS_CFG_REJECT, F.STL_AIN_MASK_MASK, F.STL_AIN_CFG_MODE]) sub (by simp)

@[simp ↓] theorem State.only_ainConfigWrite {s t : State} {ps : Set Part} {r : AinCfgReg} {v : ℕ} (sub : {.stile} ∪ Part.regs ⊆ ps) :
    s.Only ps (t.ainConfigWrite r v) ↔ s.Only ps t :=
  State.Only.iff (by
    unfold State.ainConfigWrite; repeat' split
    all_goals simp [F.STL_AIN_STATUS_CFG_REJECT]) sub (by simp)

@[simp ↓] theorem State.only_paceEvent {s t : State} {ps : Set Part} (sub : {.stile, .reg .STL_AIN_STATUS, .reg .STL_AIN_CNT} ∪ Part.event ⊆ ps) :
    s.Only ps (t.paceEvent) ↔ s.Only ps t :=
  State.Only.iff (by
    unfold State.paceEvent; simp [F.STL_AIN_CFG_MODE, F.STL_AIN_CNT_PACE_OVR_CNT, F.STL_AIN_STATUS_PACE_OVR]) sub (by simp)

@[simp ↓] theorem State.only_startNext {s t : State} {ps : Set Part} (sub : {.stile, .reg .STL_AIN_STATUS} ∪ Part.event ⊆ ps) :
    s.Only ps (t.startNext) ↔ s.Only ps t :=
  State.Only.iff (by
    unfold State.startNext; simp [F.STL_AIN_CFG_MODE]) sub (by simp)

@[simp ↓] theorem State.only_ainStart {s t : State} {ps : Set Part} (sub : {.stile, .reg .STL_AIN_STATUS, .reg .STL_AIN_CNT} ∪ Part.event ⊆ ps) :
    s.Only ps (t.ainStart) ↔ s.Only ps t :=
  State.Only.iff (by
    unfold State.ainStart; simp [F.STL_AIN_CFG_MODE, F.STL_AIN_PACE_SRC]) sub (by simp)

@[simp ↓] theorem State.only_injRequest {s t : State} {ps : Set Part} (sub : {.stile, .reg .STL_AIN_STATUS, .reg .STL_AIN_CNT} ∪ Part.event ⊆ ps) :
    s.Only ps (t.injRequest) ↔ s.Only ps t :=
  State.Only.iff (by
    unfold State.injRequest; simp [F.STL_AIN_INJ_CONV, F.STL_AIN_CNT_INJ_DROP_CNT, F.STL_AIN_STATUS_INJ_DROP]) sub (by simp)

@[simp ↓] theorem State.only_calStart {s t : State} {ps : Set Part} {c : ℕ} {gain : Bool} (sub : {.stile, .reg .STL_AIN_STATUS} ⊆ ps) :
    s.Only ps (t.calStart c gain) ↔ s.Only ps t :=
  State.Only.iff (by
    unfold State.calStart; simp [F.STL_AIN_STATUS_CAL_BUSY, F.STL_AIN_CFG_MODE, F.STL_AIN_MASK_MASK, F.STL_AIN_STATUS_CFG_REJECT]) sub (by simp)

@[simp ↓] theorem State.only_ainCalWrite {s t : State} {ps : Set Part} {c : ℕ} {k₀ : ℕ} {v : ℕ} (sub : {.stile} ∪ Part.regs ⊆ ps) :
    s.Only ps (t.ainCalWrite c k₀ v) ↔ s.Only ps t :=
  State.Only.iff (by
    unfold State.ainCalWrite; simp [F.STL_AIN_STATUS_CFG_REJECT]) sub (by simp)

@[simp ↓] theorem State.only_calUndo {s t : State} {ps : Set Part} {c : ℕ} (sub : Part.regs ⊆ ps) :
    s.Only ps (t.calUndo c) ↔ s.Only ps t :=
  State.Only.iff (by
    unfold State.calUndo; simp) sub (by simp)

@[simp ↓] theorem State.only_calWritten {s t : State} {ps : Set Part} {c : ℕ} (sub : {.stile} ⊆ ps) :
    s.Only ps (t.calWritten c) ↔ s.Only ps t :=
  State.Only.iff (by
    unfold State.calWritten; simp) sub (by simp)

@[simp ↓] theorem State.only_calEnd {s t : State} {ps : Set Part} {c : CalStep} (sub : {.stile, .irq} ∪ Part.regs ⊆ ps) :
    s.Only ps (t.calEnd c) ↔ s.Only ps t :=
  State.Only.iff (by
    unfold State.calEnd; dsimp only; repeat' split
    all_goals simp [F.STL_AIN_STATUS_CAL_BUSY, F.STL_AIN_STATUS_CAL_ERR, F.STL_AIN_CAL_GAIN, F.STL_AIN_STATUS_CAL_DONE, F.STL_AIN_CAL_OFS, *]) sub (by simp)

@[simp ↓] theorem State.only_calFeed {s t : State} {ps : Set Part} {ch : ℕ} {k₀ : ℕ} {r : ℤ} {lo : ℤ} {hi : ℤ} (sub : {.stile, .irq} ∪ Part.regs ⊆ ps) :
    s.Only ps (t.calFeed ch k₀ r lo hi) ↔ s.Only ps t :=
  State.Only.iff (by
    unfold State.calFeed; split <;> simp) sub (by simp)

@[simp ↓] theorem State.only_writeResult {s t : State} {ps : Set Part} {sums : List (ℕ × ℤ)} {n : ℕ} {ch : ℕ} {conv : ℕ} (sub : {.reg .STL_AIN_ENT, .reg .STL_AIN_RES} ⊆ ps) :
    s.Only ps (t.writeResult sums n ch conv) ↔ s.Only ps t :=
  State.Only.iff (by
    unfold State.writeResult; split <;> simp [F.STL_AIN_ENT_NEW, F.STL_AIN_ENT_OVW, F.STL_AIN_RES_DATA, F.STL_AIN_ENT_CH, F.STL_AIN_ENT_CONV]) sub (by simp)

@[simp ↓] theorem State.only_passEnd {s t : State} {ps : Set Part} {p : Pass} (sub : {.stile, .reg .STL_AIN_ENT, .reg .STL_AIN_RES, .reg .STL_AIN_PASS_TIME, .reg .STL_AIN_STATUS} ∪ Part.event ⊆ ps) :
    s.Only ps (t.passEnd p) ↔ s.Only ps t :=
  State.Only.iff (by
    unfold State.passEnd; simp [F.STL_AIN_CFG_OVS, F.STL_AIN_STATUS_PASS_DONE, F.STL_AIN_PASS_TIME_TIME, F.STL_AIN_CFG_IRQ_PASS]) sub (by simp)

@[simp ↓] theorem State.only_passValue {s t : State} {ps : Set Part} {c : Conv} {k₀ : ℕ} {y : ℤ} (sub : {.stile, .reg .STL_AIN_ENT, .reg .STL_AIN_RES, .reg .STL_AIN_PASS_TIME, .reg .STL_AIN_STATUS} ∪ Part.event ⊆ ps) :
    s.Only ps (t.passValue c k₀ y) ↔ s.Only ps t :=
  State.Only.iff (by
    unfold State.passValue; dsimp only; repeat' split
    all_goals simp [*]) sub (by simp)

@[simp ↓] theorem State.only_convEnd {s t : State} {ps : Set Part} {k₀ : ℕ} {raw : ℕ} (sub : {.irq, .stile} ∪ Part.regs ⊆ ps) :
    s.Only ps (t.convEnd k₀ raw) ↔ s.Only ps t :=
  State.Only.iff (by
    unfold State.convEnd; split <;> simp [F.STL_AIN_CHCFG_FMT, F.STL_AIN_CHCFG_OW_P, F.STL_AIN_CHCFG_OW_N, F.STL_AIN_OPEN_CH, F.STL_AIN_STATUS_OPEN, F.STL_AIN_INJ_RES_DATA, F.STL_AIN_INJ_RES_CH, F.STL_AIN_INJ_RES_CONV, F.STL_AIN_INJ_RES_NEW, F.STL_AIN_STATUS_INJ_DONE]) sub (by simp)

@[simp ↓] theorem State.only_startupEnd {s t : State} {ps : Set Part} {k₀ : ℕ} (sub : {.stile, .reg .STL_AIN_STATUS} ∪ Part.event ⊆ ps) :
    s.Only ps (t.startupEnd k₀) ↔ s.Only ps t :=
  State.Only.iff (by
    unfold State.startupEnd; repeat' split
    all_goals simp [F.STL_AIN_CFG_MODE]) sub (by simp)

/-! #### The commands -/

@[simp ↓] theorem keeps_execAinModeWrite {ps : Set Part} {v : Word} (sub : {.irq, .stile} ∪ Part.regs ⊆ ps) : State.Keeps ps (execAinModeWrite v) :=
  State.Keeps.mono (fun t => by
    exact ⟨_, rfl, by simp⟩) sub

@[simp ↓] theorem keeps_execAinConfigWrite {ps : Set Part} {r : AinCfgReg} {v : Word} (sub : {.stile} ∪ Part.regs ⊆ ps) : State.Keeps ps (execAinConfigWrite r v) :=
  State.Keeps.mono (fun t => by
    exact ⟨_, rfl, by simp⟩) sub

@[simp ↓] theorem keeps_execAinStart {ps : Set Part} (sub : {.stile, .reg .STL_AIN_STATUS, .reg .STL_AIN_CNT} ∪ Part.event ⊆ ps) : State.Keeps ps execAinStart :=
  State.Keeps.mono (fun t => by
    exact ⟨_, rfl, by simp⟩) sub

@[simp ↓] theorem keeps_execAinInjGo {ps : Set Part} (sub : {.stile, .reg .STL_AIN_STATUS, .reg .STL_AIN_CNT} ∪ Part.event ⊆ ps) : State.Keeps ps execAinInjGo :=
  State.Keeps.mono (fun t => by
    exact ⟨_, rfl, by simp⟩) sub

@[simp ↓] theorem keeps_execAinCalZero {ps : Set Part} {c : AinCh} (sub : {.stile, .reg .STL_AIN_STATUS} ⊆ ps) : State.Keeps ps (execAinCalZero c) :=
  State.Keeps.mono (fun t => by
    exact ⟨_, rfl, by simp⟩) sub

@[simp ↓] theorem keeps_execAinCalGain {ps : Set Part} {c : AinCh} (sub : {.stile, .reg .STL_AIN_STATUS} ⊆ ps) : State.Keeps ps (execAinCalGain c) :=
  State.Keeps.mono (fun t => by
    exact ⟨_, rfl, by simp⟩) sub

@[simp ↓] theorem keeps_execAinPaceTimer {ps : Set Part} (sub : {.stile, .reg .STL_AIN_STATUS, .reg .STL_AIN_CNT} ∪ Part.event ⊆ ps) : State.Keeps ps execAinPaceTimer :=
  State.Keeps.mono (fun t => by
    exact ⟨_, rfl, by simp [F.STL_AIN_CFG_MODE, F.STL_AIN_PACE_SRC]⟩) sub

@[simp ↓] theorem keeps_execAdcStartupEnd {ps : Set Part} {k₀ : Fin 2} (sub : {.stile, .reg .STL_AIN_STATUS} ∪ Part.event ⊆ ps) : State.Keeps ps (execAdcStartupEnd k₀) :=
  State.Keeps.mono (fun t => by
    exact ⟨_, rfl, by simp⟩) sub

@[simp ↓] theorem keeps_execAdcConversionEnd {ps : Set Part} {k₀ : Fin 2} {raw : BitVec 16} (sub : {.irq, .stile} ∪ Part.regs ⊆ ps) : State.Keeps ps (execAdcConversionEnd k₀ raw) :=
  State.Keeps.mono (fun t => by
    exact ⟨_, rfl, by simp⟩) sub

@[simp ↓] theorem keeps_execAinResRead {ps : Set Part} {n : AinCh} {r : Agent} (sub : {.host, .mgmt, .reg .STL_AIN_ENT} ⊆ ps) : State.Keeps ps (execAinResRead n r) :=
  State.Keeps.mono (fun t => by
    exact ⟨_, rfl, by simp [F.STL_AIN_ENT_NEW]⟩) sub

@[simp ↓] theorem keeps_execAinInjResRead {ps : Set Part} {r : Agent} (sub : {.host, .mgmt, .reg .STL_AIN_INJ_RES} ⊆ ps) : State.Keeps ps (execAinInjResRead r) :=
  State.Keeps.mono (fun t => by
    exact ⟨_, rfl, by simp [F.STL_AIN_INJ_RES_NEW]⟩) sub

@[simp ↓] theorem keeps_execAinCntClr {ps : Set Part} (sub : {.reg .STL_AIN_CNT} ⊆ ps) : State.Keeps ps execAinCntClr :=
  State.Keeps.mono (fun t => by
    exact ⟨_, rfl, by simp [F.STL_AIN_CNT_INJ_DROP_CNT, F.STL_AIN_CNT_PACE_OVR_CNT]⟩) sub

/-! #### The field analogue outputs: staged fields and updates, synthesis, phase events and the safe state -/

@[simp ↓] theorem State.only_setAout {s t : State} {ps : Set Part} {k₀ : ℕ} {o : Aout} (sub : {.stile} ⊆ ps) :
    s.Only ps (t.setAout k₀ o) ↔ s.Only ps t :=
  State.Only.iff (by
    unfold State.setAout; simp) sub (by simp)

@[simp ↓] theorem State.only_aoutApply {s t : State} {ps : Set Part} {k₀ : ℕ} {sync : Bool} (sub : {.stile, .reg .STL_AOUT_STATUS} ⊆ ps) :
    s.Only ps (t.aoutApply k₀ sync) ↔ s.Only ps t :=
  State.Only.iff (by
    unfold State.aoutApply; simp [F.STL_AOUT_STATUS_UPD_PENDING]) sub (by simp)

@[simp ↓] theorem State.only_aoutUpdate {s t : State} {ps : Set Part} {k₀ : ℕ} {sync : Bool} (sub : {.stile, .reg .STL_AOUT_STATUS} ⊆ ps) :
    s.Only ps (t.aoutUpdate k₀ sync) ↔ s.Only ps t :=
  State.Only.iff (by
    unfold State.aoutUpdate; simp [F.STL_AOUT_STATUS_IN_SAFE, F.STL_AOUT_CFG_UPD_WRAP, F.STL_AOUT_STATUS_UPD_PENDING]) sub (by simp)

@[simp ↓] theorem State.only_aoutSync {s t : State} {ps : Set Part} {k₀ : ℕ} (sub : {.stile} ⊆ ps) :
    s.Only ps (t.aoutSync k₀) ↔ s.Only ps t :=
  State.Only.iff (by
    unfold State.aoutSync; simp) sub (by simp)

@[simp ↓] theorem State.only_aoutSafe {s t : State} {ps : Set Part} {k₀ : ℕ} {cause : ℕ} (sub : {.stile, .reg .STL_AOUT_STATUS} ∪ Part.event ⊆ ps) :
    s.Only ps (t.aoutSafe k₀ cause) ↔ s.Only ps t :=
  State.Only.iff (by
    unfold State.aoutSafe; dsimp only; repeat' split
    all_goals simp [F.STL_AOUT_STATUS_CAUSE, F.STL_AOUT_STATUS_IN_SAFE, *]) sub (by simp)

@[simp ↓] theorem State.only_allAoutSafe {s t : State} {ps : Set Part} {cause : ℕ} (sub : {.stile, .reg .STL_AOUT_STATUS} ∪ Part.event ⊆ ps) :
    s.Only ps (t.allAoutSafe cause) ↔ s.Only ps t :=
  State.Only.iff (by
    unfold State.allAoutSafe; simp) sub (by simp)

@[simp ↓] theorem State.only_aoutCauseEnds {s t : State} {ps : Set Part} {k₀ : ℕ} {cause : ℕ} (sub : {.stile} ⊆ ps) :
    s.Only ps (t.aoutCauseEnds k₀ cause) ↔ s.Only ps t :=
  State.Only.iff (by
    unfold State.aoutCauseEnds; simp) sub (by simp)

@[simp ↓] theorem State.only_allCauseEnds {s t : State} {ps : Set Part} {cause : ℕ} (sub : {.stile} ⊆ ps) :
    s.Only ps (t.allCauseEnds cause) ↔ s.Only ps t :=
  State.Only.iff (by
    unfold State.allCauseEnds; simp) sub (by simp)

@[simp ↓] theorem State.only_aoutRelease {s t : State} {ps : Set Part} {k₀ : ℕ} (sub : {.stile, .reg .STL_AOUT_STATUS} ⊆ ps) :
    s.Only ps (t.aoutRelease k₀) ↔ s.Only ps t :=
  State.Only.iff (by
    unfold State.aoutRelease; simp [F.STL_AOUT_STATUS_IN_SAFE, F.STL_AOUT_STATUS_CAUSE, F.STL_AOUT_STATUS_RELEASE_REJECT]) sub (by simp)

@[simp ↓] theorem State.only_aoutNote {s t : State} {ps : Set Part} {k₀ : ℕ} (sub : {.stile} ⊆ ps) :
    s.Only ps (t.aoutNote k₀) ↔ s.Only ps t :=
  State.Only.iff (by
    unfold State.aoutNote; simp) sub (by simp)

@[simp ↓] theorem State.only_aoutWrite {s t : State} {ps : Set Part} {k₀ : ℕ} {r : AoutReg} {v : ℕ} (sub : {.stile} ∪ Part.regs ⊆ ps) :
    s.Only ps (t.aoutWrite k₀ r v) ↔ s.Only ps t :=
  State.Only.iff (by
    unfold State.aoutWrite; split <;> simp [F.STL_AOUT_STATUS_CFG_REJECT]) sub (by simp)

@[simp ↓] theorem State.only_aoutCtrl {s t : State} {ps : Set Part} {v : ℕ} (sub : {.stile, .reg .STL_AOUT_STATUS} ∪ Part.event ⊆ ps) :
    s.Only ps (t.aoutCtrl v) ↔ s.Only ps t :=
  State.Only.iff (by
    unfold State.aoutCtrl; simp [F.STL_AOUT_STATUS_RELEASE_REJECT]) sub (by simp)

/-! #### The commands -/

@[simp ↓] theorem keeps_execAoutStagedWrite {ps : Set Part} {k₀ : AoutIx} {r : AoutReg} {v : Word64} (sub : {.stile} ∪ Part.regs ⊆ ps) : State.Keeps ps (execAoutStagedWrite k₀ r v) :=
  State.Keeps.mono (fun t => by
    exact ⟨_, rfl, by simp⟩) sub

@[simp ↓] theorem keeps_execAoutUpdate {ps : Set Part} {k₀ : AoutIx} (sub : {.stile, .reg .STL_AOUT_STATUS} ⊆ ps) : State.Keeps ps (execAoutUpdate k₀) :=
  State.Keeps.mono (fun t => by
    exact ⟨_, rfl, by simp⟩) sub

@[simp ↓] theorem keeps_execAoutWrapUpdate {ps : Set Part} {k₀ : AoutIx} (sub : {.stile, .reg .STL_AOUT_STATUS} ⊆ ps) : State.Keeps ps (execAoutWrapUpdate k₀) :=
  State.Keeps.mono (fun t => by
    exact ⟨_, rfl, by simp [F.STL_AOUT_STATUS_UPD_PENDING, F.STL_AOUT_STATUS_IN_SAFE]⟩) sub

@[simp ↓] theorem keeps_execAoutSync {ps : Set Part} {k₀ : AoutIx} (sub : {.stile} ⊆ ps) : State.Keeps ps (execAoutSync k₀) :=
  State.Keeps.mono (fun t => by
    exact ⟨_, rfl, by simp⟩) sub

@[simp ↓] theorem keeps_execAoutForceSafe {ps : Set Part} {k₀ : AoutIx} (sub : {.stile, .reg .STL_AOUT_STATUS} ∪ Part.event ⊆ ps) : State.Keeps ps (execAoutForceSafe k₀) :=
  State.Keeps.mono (fun t => by
    exact ⟨_, rfl, by simp⟩) sub

@[simp ↓] theorem keeps_execAoutRelease {ps : Set Part} {k₀ : AoutIx} (sub : {.stile, .reg .STL_AOUT_STATUS} ⊆ ps) : State.Keeps ps (execAoutRelease k₀) :=
  State.Keeps.mono (fun t => by
    exact ⟨_, rfl, by simp⟩) sub

@[simp ↓] theorem keeps_execAoutPhaseEvent {ps : Set Part} {k₀ : AoutIx} (sub : {.stile, .reg .STL_AIN_STATUS, .reg .STL_AIN_CNT} ∪ Part.event ⊆ ps) : State.Keeps ps (execAoutPhaseEvent k₀) :=
  State.Keeps.mono (fun t => by
    exact ⟨_, rfl, by simp [F.STL_AIN_PACE_SRC, F.STL_AIN_PACE_SEL]⟩) sub

@[simp ↓] theorem keeps_execAoutCompliance {ps : Set Part} {k₀ : AoutIx} (sub : {.reg .STL_AOUT_STATUS} ∪ Part.event ⊆ ps) : State.Keeps ps (execAoutCompliance k₀) :=
  State.Keeps.mono (fun t => by
    exact ⟨_, rfl, by simp [F.STL_AOUT_STATUS_COMPLIANCE]⟩) sub

@[simp ↓] theorem keeps_execDacLockLoss {ps : Set Part} (sub : {.stile, .reg .STL_AOUT_STATUS} ∪ Part.event ⊆ ps) : State.Keeps ps execDacLockLoss :=
  State.Keeps.mono (fun t => by
    exact ⟨_, rfl, by simp⟩) sub

@[simp ↓] theorem keeps_execDacRelock {ps : Set Part} (sub : {.stile} ⊆ ps) : State.Keeps ps execDacRelock :=
  State.Keeps.mono (fun t => by
    exact ⟨_, rfl, by simp⟩) sub

@[simp ↓] theorem keeps_execStileLinkLoss {ps : Set Part} (sub : {.stile, .reg .GLB_ERR_STATUS, .reg .STL_AOUT_STATUS} ∪ Part.event ⊆ ps) : State.Keeps ps execStileLinkLoss :=
  State.Keeps.mono (fun t => by
    exact ⟨_, rfl, by simp⟩) sub

@[simp ↓] theorem keeps_execStileLinkRestore {ps : Set Part} (sub : {.stile} ⊆ ps) : State.Keeps ps execStileLinkRestore :=
  State.Keeps.mono (fun t => by
    exact ⟨_, rfl, by simp⟩) sub

/-! #### Tussocks and arrays in the state -/

@[simp ↓] theorem State.only_updTuss {s t : State} {ps : Set Part} {g : ℕ} {f : Tuss → Tuss} (sub : {.tuss g} ⊆ ps) :
    s.Only ps (t.updTuss g f) ↔ s.Only ps t :=
  State.Only.iff (by
    unfold State.updTuss; simp) sub (by simp)

@[simp ↓] theorem State.only_updArr {s t : State} {ps : Set Part} {g : ℕ} {a : ℕ} {f : Arr17 → Arr17} (sub : {.tuss g} ⊆ ps) :
    s.Only ps (t.updArr g a f) ↔ s.Only ps t :=
  State.Only.iff (by
    unfold State.updArr; simp) sub (by simp)

/-! #### Table SRAM -/

@[simp ↓] theorem State.only_writeTableWords {s t : State} {ps : Set Part} {g : ℕ} {off : ℕ} {bs : List Byte} (sub : {.mem, .tuss g, .reg .TSK_CONV_STATUS} ⊆ ps) (k : s.Only ps t) :
    s.Only ps (t.writeTableWords g off bs) :=
  State.Only.of_sub (by
    clear k
    fun_induction State.writeTableWords t g off bs with
    | case1 t off b0 b1 b2 b3 rest u ih =>
      refine .trans ?_ ih
      unfold u; split
      · exact .refl t _
      · simp [F.TSK_CONV_STATUS_TABLE_WR_REJECT]
    | case2 => exact .refl _ _) sub k

@[simp ↓] theorem State.only_writeTable {s t : State} {ps : Set Part} {g : ℕ} {off : ℕ} {bytes : List Byte} (sub : {.mem, .tuss g, .reg .TSK_CONV_STATUS} ⊆ ps) (k : s.Only ps t) :
    s.Only ps (t.writeTable g off bytes) :=
  State.Only.of_sub (by
    unfold State.writeTable; simp [F.TSK_CONV_STATUS_TABLE_INIT_DONE, F.TSK_CONV_STATUS_TABLE_WR_REJECT]) sub k

/-! #### Shared operations on jobs: looking them up, ending one with an error -/

@[simp ↓] theorem State.only_updJob {s t : State} {ps : Set Part} {id : ℕ} {f : Job → Job} (sub : {.jobs} ⊆ ps) :
    s.Only ps (t.updJob id f) ↔ s.Only ps t :=
  State.Only.iff (by
    unfold State.updJob; simp) sub (by simp)

@[simp ↓] theorem State.only_setEngine {s t : State} {ps : Set Part} {k₀ : ℕ} {e : Engine} (sub : {.engines} ⊆ ps) :
    s.Only ps (t.setEngine k₀ e) ↔ s.Only ps t :=
  State.Only.iff (by
    unfold State.setEngine; simp) sub (by simp)

@[simp ↓] theorem State.only_setChan {s t : State} {ps : Set Part} {n : ℕ} {c : Chan} (sub : {.chans} ⊆ ps) :
    s.Only ps (t.setChan n c) ↔ s.Only ps t :=
  State.Only.iff (by
    unfold State.setChan; simp) sub (by simp)

@[simp ↓] theorem State.only_jobErr {s t : State} {ps : Set Part} {id : ℕ} {e : JobErr} (sub : {.jobs} ⊆ ps) :
    s.Only ps (t.jobErr id e) ↔ s.Only ps t :=
  State.Only.iff (by
    unfold State.jobErr; simp) sub (by simp)

@[simp ↓] theorem State.only_jobFail {s t : State} {ps : Set Part} {id : ℕ} {status : ℕ} {cmd : ℕ} {unit : ℕ} (sub : {.jobs} ⊆ ps) :
    s.Only ps (t.jobFail id status cmd unit) ↔ s.Only ps t :=
  State.Only.iff (by
    unfold State.jobFail; simp) sub (by simp)

@[simp ↓] theorem State.only_releaseEnded {s t : State} {ps : Set Part} {w : ℕ} (sub : {.jobs} ⊆ ps) :
    s.Only ps (t.releaseEnded w) ↔ s.Only ps t :=
  State.Only.iff (by
    unfold State.releaseEnded; simp) sub (by simp)

@[simp ↓] theorem State.only_cmdDone {s t : State} {ps : Set Part} {id : ℕ} {cmd : ℕ} (sub : {.jobs} ⊆ ps) :
    s.Only ps (t.cmdDone id cmd) ↔ s.Only ps t :=
  State.Only.iff (by
    unfold State.cmdDone; simp) sub (by simp)

@[simp ↓] theorem State.only_provCount {s t : State} {ps : Set Part} (sub : {.reg .GRS_PROV} ⊆ ps) :
    s.Only ps (t.provCount) ↔ s.Only ps t :=
  State.Only.iff (by
    unfold State.provCount; simp [F.GRS_PROV_IN_USE, F.GRS_PROV_PEAK]) sub (by simp)

@[simp ↓] theorem State.only_provNote {s t : State} {ps : Set Part} {tid : ℕ} {job : ℕ} {origin : Option ℕ} (sub : {.provs, .nextProv, .reg .GRS_STATUS, .reg .GRS_PROV} ⊆ ps) :
    s.Only ps (t.provNote tid job origin) ↔ s.Only ps t :=
  State.Only.iff (by
    unfold State.provNote; simp [F.GRS_STATUS_PROV_OVF]) sub (by simp)

@[simp ↓] theorem State.only_provRead {s t : State} {ps : Set Part} {job : ℕ} {tid : ℕ} (sub : {.jobs} ⊆ ps) :
    s.Only ps (t.provRead job tid) ↔ s.Only ps t :=
  State.Only.iff (by
    unfold State.provRead; simp) sub (by simp)

/-! #### Region guards -/

@[simp ↓] theorem State.only_addressFault {s t : State} {ps : Set Part} {who : Accessor} {wr : Bool} {a : ℕ} {unmapped : Bool} (sub : {.reg .GLB_RGN_FAULT_INFO, .reg .GLB_RGN_FAULT_ADDR} ∪ Part.event ⊆ ps) :
    s.Only ps (t.addressFault who wr a unmapped) ↔ s.Only ps t :=
  State.Only.iff (by
    unfold State.addressFault; split <;> simp [F.GLB_RGN_FAULT_INFO_VALID, F.GLB_RGN_FAULT_ADDR_ADDR, F.GLB_RGN_FAULT_INFO_WRITE, F.GLB_RGN_FAULT_INFO_AGENT, F.GLB_RGN_FAULT_INFO_CHANNEL, F.GLB_RGN_FAULT_INFO_UNMAPPED, F.GLB_RGN_FAULT_INFO_FAULT_CNT]) sub (by simp)

/-! #### Blocks in memory -/

@[simp ↓] theorem State.only_scrubbed {s t : State} {ps : Set Part} {a : ℕ} (sub : {.latent} ⊆ ps) :
    s.Only ps (t.scrubbed a) ↔ s.Only ps t :=
  State.Only.iff (by
    unfold State.scrubbed; simp) sub (by simp)

@[simp ↓] theorem State.only_putRaw {s t : State} {ps : Set Part} {a : ℕ} {bytes : List Byte} (sub : {.mem, .out, .reg .TSK_CONV_STATUS} ∪ Part.tusss ⊆ ps) (k : s.Only ps t) :
    s.Only ps (t.putRaw a bytes) :=
  State.Only.of_sub (by
    unfold State.putRaw; split
    all_goals simp) sub k

@[simp ↓] theorem State.only_putBlock {s t : State} {ps : Set Part} {a : ℕ} {b : Block} (sub : {.mem, .latent, .out, .reg .TSK_CONV_STATUS} ∪ Part.tusss ⊆ ps) (k : s.Only ps t) :
    s.Only ps (t.putBlock a b) :=
  State.Only.of_sub (by
    unfold State.putBlock; split
    all_goals simp) sub k

@[simp ↓] theorem State.only_putBlock_tagged {s t : State} {ps : Set Part} {a : ℕ} {b : Block} (ha : tagged a = true) (sub : {.mem, .latent} ⊆ ps)
    (k : s.Only ps t) : s.Only ps (t.putBlock a b) :=
  State.Only.of_sub (by
    unfold State.putBlock; rw [if_pos ha]; simp) sub k

@[simp ↓] theorem State.only_sideUe {s t : State} {ps : Set Part} {n : ℕ} (sub : {.chans, .reg .CHN_STK_ERR} ⊆ ps) :
    s.Only ps (t.sideUe n) ↔ s.Only ps t :=
  State.Only.iff (by
    unfold State.sideUe; simp [F.CHN_STK_ERR_UE_CNT]) sub (by simp)

@[simp ↓] theorem State.only_eccRead {s t : State} {ps : Set Part} {a : ℕ} {e : Ecc} (sub : {.latent, .chans, .mem, .reg .CHN_STK_ERR, .reg .TSK_BANK_ECC} ⊆ ps) (k : s.Only ps t) :
    s.Only ps (t.eccRead a e) :=
  State.Only.of_sub (by
    unfold State.eccRead; split <;> simp [tagged, *, F.CHN_STK_ERR_CE_CNT, F.TSK_BANK_ECC_CE_CNT, F.TSK_BANK_ECC_UE_CNT]) sub k

@[simp ↓] theorem State.only_flitNote {s t : State} {ps : Set Part} {n : ℕ} {e : Ecc} {b : Block} (sub : {.reg .CHN_HDG_ERR} ⊆ ps) :
    s.Only ps (t.flitNote n e b).1 ↔ s.Only ps t :=
  State.Only.iff (by
    unfold State.flitNote; split <;> simp [F.CHN_HDG_ERR_LINK_CE_CNT, F.CHN_HDG_ERR_LINK_UE_CNT]) sub (by simp)

@[simp ↓] theorem State.only_crossing {s t : State} {ps : Set Part} {b : Block} {xs : List ℕ} (sub : {.flits, .reg .CHN_HDG_ERR} ⊆ ps) :
    s.Only ps (t.crossing b xs).1 ↔ s.Only ps t :=
  State.Only.iff (by
    induction xs generalizing t b with
    | nil => exact .refl t _
    | cons x xs ih =>
      unfold State.crossing; dsimp only; split
      · exact ih
      · exact .trans (by simp) ih) sub (by simp)

@[simp ↓] theorem State.only_hostBlock {s t : State} {ps : Set Part} {a : ℕ} (sub : {.free, .out} ⊆ ps) :
    s.Only ps (t.hostBlock a).1 ↔ s.Only ps t :=
  State.Only.iff (by
    unfold State.hostBlock; simp) sub (by simp)

@[simp ↓] theorem State.only_fetched {s t : State} {ps : Set Part} {n : ℕ} {a : ℕ} {e : Ecc} {job : ℕ} {own : Bool} (sub : Part.fetch ⊆ ps) (k : s.Only ps t) :
    s.Only ps (t.fetched n a e job own).1 :=
  State.Only.of_sub (by
    unfold State.fetched; split <;> simp) sub k

@[simp ↓] theorem State.only_countCheck {s t : State} {ps : Set Part} {n : ℕ} {c : TagCheck} (sub : {.reg .CHN_HDG_ERR} ⊆ ps) :
    s.Only ps (t.countCheck n c) ↔ s.Only ps t :=
  State.Only.iff (by
    unfold State.countCheck; split <;> simp [F.CHN_HDG_ERR_CRC_CNT, F.CHN_HDG_ERR_TAG_CNT]) sub (by simp)

@[simp ↓] theorem State.only_readBlock {s t : State} {ps : Set Part} {n : ℕ} {job : ℕ} {cmd : ℕ} {unit : ℕ} {a : ℕ} {e : Ecc} {expect : Option (ℕ × ℕ)} {own : Bool} (sub : {.jobs} ∪ Part.read ⊆ ps) (k : s.Only ps t) :
    s.Only ps (t.readBlock n job cmd unit a e expect own).1 :=
  State.Only.of_sub (by
    unfold State.readBlock; split <;> simp) sub k

@[simp ↓] theorem State.only_engBlocks {s t : State} {ps : Set Part} {n base k₀ : ℕ} (sub : Part.fetch ⊆ ps) (k : s.Only ps t) :
    s.Only ps (t.engBlocks n base k₀).1 :=
  State.Only.of_sub (by
    clear k
    induction k₀ generalizing t base with
    | zero => exact .refl t _
    | succ n ih =>
      unfold State.engBlocks; dsimp only; split
      · simp
      · split
        all_goals
          rename_i heq
          exact .of_fst heq (.trans (by simp) ih)) sub k

@[simp ↓] theorem State.only_engRead {s t : State} {ps : Set Part} {n : ℕ} {a : ℕ} {len : ℕ} (sub : Part.read ⊆ ps) (k : s.Only ps t) :
    s.Only ps (t.engRead n a len).1 :=
  State.Only.of_sub (by
    unfold State.engRead; repeat' split
    · exact .refl t _
    · simp
    all_goals
      rename_i heq
      exact .of_fst heq (by simp)) sub k

@[simp ↓] theorem State.only_writeBlock {s t : State} {ps : Set Part} {n : ℕ} {job : ℕ} {cmd : ℕ} {unit : ℕ} {a : ℕ} {b : Block} {expect : Option (ℕ × ℕ)} (sub : {.jobs, .mem, .out, .latent, .provs, .nextProv, .reg .GLB_RGN_FAULT_INFO, .reg .GLB_RGN_FAULT_ADDR, .reg .TSK_CONV_STATUS, .reg .GRS_STATUS, .reg .GRS_PROV, .reg .CHN_HDG_ERR} ∪ Part.event ∪ Part.tusss ⊆ ps) (k : s.Only ps t) :
    s.Only ps (t.writeBlock n job cmd unit a b expect) :=
  State.Only.of_sub (by
    unfold State.writeBlock; split <;> simp) sub k

@[simp ↓] theorem State.only_mayAccess {s t : State} {ps : Set Part} {n : ℕ} {job : ℕ} {cmd : ℕ} {unit : ℕ} {wr : Bool} {a : ℕ} {len : ℕ} (sub : {.jobs, .reg .GLB_RGN_FAULT_INFO, .reg .GLB_RGN_FAULT_ADDR} ∪ Part.event ⊆ ps) :
    s.Only ps (t.mayAccess n job cmd unit wr a len).1 ↔ s.Only ps t :=
  State.Only.iff (by
    unfold State.mayAccess; split <;> simp) sub (by simp)

@[simp ↓] theorem State.only_mergeCount {s t : State} {ps : Set Part} {a : ℕ} {e : Ecc} {badCrc : Bool} (sub : {.chans, .reg .CHN_STK_ERR, .reg .TSK_BANK_ECC, .reg .CHN_HDG_ERR} ⊆ ps) :
    s.Only ps (t.mergeCount a e badCrc) ↔ s.Only ps t :=
  State.Only.iff (by
    unfold State.mergeCount; repeat' split
    all_goals simp [F.CHN_STK_ERR_RMW_CNT, F.TSK_BANK_ECC_UE_CNT, F.CHN_HDG_ERR_CRC_CNT, F.CHN_STK_ERR_CE_CNT, F.TSK_BANK_ECC_CE_CNT]) sub (by simp)

@[simp ↓] theorem State.only_mergePart {s t : State} {ps : Set Part} {a : ℕ} {bytes : List Byte} (sub : Part.merge ⊆ ps) (k : s.Only ps t) :
    s.Only ps (t.mergePart a bytes) :=
  State.Only.of_sub (by
    unfold State.mergePart; simp) sub k

@[simp ↓] theorem State.only_mergeParts {s t : State} {ps : Set Part} {a : ℕ} {bytes : List Byte} {fuel : ℕ} (sub : Part.merge ⊆ ps) (k : s.Only ps t) :
    s.Only ps (t.mergeParts a bytes fuel) :=
  State.Only.of_sub (by
    clear k
    induction fuel generalizing t a bytes with
    | zero => exact .refl t _
    | succ n ih =>
      unfold State.mergeParts; dsimp only; split
      · simp
      · exact .trans (by simp) ih) sub k

@[simp ↓] theorem State.only_mergeWrite {s t : State} {ps : Set Part} {a : ℕ} {bytes : List Byte} (sub : Part.merge ⊆ ps) (k : s.Only ps t) :
    s.Only ps (t.mergeWrite a bytes) :=
  State.Only.of_sub (by
    unfold State.mergeWrite; simp) sub k

/-! #### Parts of the state -/

@[simp ↓] theorem State.only_updLane {s t : State} {ps : Set Part} {g : ℕ} {k₀ : ℕ} {f : SlotLane → SlotLane} (sub : {.tuss g} ⊆ ps) :
    s.Only ps (t.updLane g k₀ f) ↔ s.Only ps t :=
  State.Only.iff (by
    unfold State.updLane; simp) sub (by simp)

@[simp ↓] theorem State.only_updCtx {s t : State} {ps : Set Part} {c : ℕ} {f : Ctx64 → Ctx64} (sub : {.ctxs} ⊆ ps) :
    s.Only ps (t.updCtx c f) ↔ s.Only ps t :=
  State.Only.iff (by
    unfold State.updCtx; simp) sub (by simp)

@[simp ↓] theorem State.only_shrinkBit {s t : State} {ps : Set Part} {n : ℕ} (sub : {.reg .CHN_ADM_BUDGET} ⊆ ps) :
    s.Only ps (t.shrinkBit n) ↔ s.Only ps t :=
  State.Only.iff (by
    unfold State.shrinkBit; simp [F.CHN_ADM_BUDGET_CAL_SHRINK]) sub (by simp)

/-! #### Slots, states and roles -/

@[simp ↓] theorem State.only_brkInPlace {s t : State} {ps : Set Part} {g : ℕ} (sub : {.reg .BRK_STATUS} ⊆ ps) :
    s.Only ps (t.brkInPlace g) ↔ s.Only ps t :=
  State.Only.iff (by
    unfold State.brkInPlace; simp [F.BRK_STATUS_IN_PLACE]) sub (by simp)

@[simp ↓] theorem State.only_setArrState {s t : State} {ps : Set Part} {g : ℕ} {a : ℕ} {v : ℕ} (sub : {.tuss g, .reg .BRK_STATUS, .reg .TSK_ARR_STATE} ⊆ ps) :
    s.Only ps (t.setArrState g a v) ↔ s.Only ps t :=
  State.Only.iff (by
    unfold State.setArrState; simp [F.TSK_ARR_STATE_STATE, F.TSK_ARR_STATE_CONTEXT]) sub (by simp)

@[simp ↓] theorem State.only_raiseCause {s t : State} {ps : Set Part} {g : ℕ} {bit : ℕ} (sub : {.tuss g, .reg .TSK_QUAR_CAUSE} ⊆ ps) :
    s.Only ps (t.raiseCause g bit) ↔ s.Only ps t :=
  State.Only.iff (by
    unfold State.raiseCause; simp [F.TSK_QUAR_CAUSE_CAUSE]) sub (by simp)

@[simp ↓] theorem State.only_gorseQuarantine {s t : State} {ps : Set Part} {g : ℕ} (sub : {.tuss g, .reg .GRS_ARB_CNT, .reg .GRS_STATUS, .reg .TSK_QUAR_CAUSE} ∪ Part.event ⊆ ps) :
    s.Only ps (t.gorseQuarantine g) ↔ s.Only ps t :=
  State.Only.iff (by
    unfold State.gorseQuarantine; simp [F.GRS_STATUS_QUARANTINE, F.GRS_ARB_CNT_QUAR_CNT]) sub (by simp)

/-! #### Tile tasks -/

@[simp ↓] theorem State.only_taskDone {s t : State} {ps : Set Part} {job : Option ℕ} (sub : {.jobs} ⊆ ps) :
    s.Only ps (t.taskDone job) ↔ s.Only ps t :=
  State.Only.iff (by
    unfold State.taskDone; split <;> simp) sub (by simp)

@[simp ↓] theorem State.only_taskFail {s t : State} {ps : Set Part} {g : ℕ} {w : ℕ} {job : Option ℕ} {status : ℕ} (sub : {.jobs} ⊆ ps) :
    s.Only ps (t.taskFail g w job status) ↔ s.Only ps t :=
  State.Only.iff (by
    unfold State.taskFail; repeat' split
    all_goals simp) sub (by simp)

@[simp ↓] theorem State.only_retire {s t : State} {ps : Set Part} {g : ℕ} {w : ℕ} {job : Option ℕ} {status : ℕ} (sub : {.jobs, .reg .TSK_SEQ_ERR, .reg .TSK_SEQ_STATUS} ⊆ ps) :
    s.Only ps (t.retire g w job status) ↔ s.Only ps t :=
  State.Only.iff (by
    unfold State.retire; simp [F.TSK_SEQ_ERR_BAD_CNT, F.TSK_SEQ_ERR_MISSED_CNT, F.TSK_SEQ_ERR_OVERFLOW_CNT, F.TSK_SEQ_STATUS_OVERFLOW, F.TSK_SEQ_ERR_CONFLICT_CNT]) sub (by simp)

@[simp ↓] theorem State.only_setQueue {s t : State} {ps : Set Part} {g : ℕ} {q : List Task} (sub : {.tuss g, .reg .TSK_SEQ_STATUS} ⊆ ps) :
    s.Only ps (t.setQueue g q) ↔ s.Only ps t :=
  State.Only.iff (by
    unfold State.setQueue; simp [F.TSK_SEQ_STATUS_OCCUPANCY, F.TSK_SEQ_STATUS_PEAK]) sub (by simp)

/-! #### Cells and image rows -/

@[simp ↓] theorem State.only_engRows {s t : State} {ps : Set Part} {n addr k₀ : ℕ} (sub : Part.read ⊆ ps) (k : s.Only ps t) :
    s.Only ps (t.engRows n addr k₀).1 :=
  State.Only.of_sub (by
    clear k
    induction k₀ generalizing t addr with
    | zero => exact .refl t _
    | succ n ih =>
      unfold State.engRows; dsimp only
      exact .trans (by simp) ih) sub k

@[simp ↓] theorem State.only_readSources {s t : State} {ps : Set Part} {n : ℕ} {xs : List RowSrc} (sub : Part.read ⊆ ps) (k : s.Only ps t) :
    s.Only ps (t.readSources n xs).1 :=
  State.Only.of_sub (by
    clear k
    induction xs generalizing t with
    | nil => exact .refl t _
    | cons x xs ih => exact .trans (by simp) ih) sub k

@[simp ↓] theorem State.only_rowsOfHolds {s t : State} {ps : Set Part} {g : ℕ} {a : ℕ} {h₀ : Holds} (sub : Part.read ⊆ ps) (k : s.Only ps t) :
    s.Only ps (t.rowsOfHolds g a h₀).1 :=
  State.Only.of_sub (by
    unfold State.rowsOfHolds; simp) sub k

@[simp ↓] theorem State.only_rowsFor {s t : State} {ps : Set Part} {g : ℕ} {a : ℕ} (sub : Part.read ⊆ ps) (k : s.Only ps t) :
    s.Only ps (t.rowsFor g a).1 :=
  State.Only.of_sub (by
    unfold State.rowsFor; simp) sub k

@[simp ↓] theorem State.only_readRow {s t : State} {ps : Set Part} {g : ℕ} {a : ℕ} {h₀ : Holds} {row : ℕ} (sub : Part.read ⊆ ps) (k : s.Only ps t) :
    s.Only ps (t.readRow g a h₀ row).1 :=
  State.Only.of_sub (by
    unfold State.readRow; split
    · split
      all_goals
        rename_i heq
        exact .of_fst heq (by simp)
    · exact .refl t _) sub k

/-! #### Array writes -/

@[simp ↓] theorem State.only_beginWrite {s t : State} {ps : Set Part} {g : ℕ} {a : ℕ} {w : ArrWrite} {ctx : ℕ} {range : ℕ} {maskEn : ℕ} {h₀ : Holds} (sub : {.tuss g, .reg .TSK_CONV_STATUS, .reg .TSK_CONV_CFG, .reg .TSK_ARR_STATE, .reg .BRK_STATUS, .reg .TSK_ARR_WRITE} ⊆ ps) :
    s.Only ps (t.beginWrite g a w ctx range maskEn h₀) ↔ s.Only ps t :=
  State.Only.iff (by
    unfold State.beginWrite; simp [F.TSK_CONV_STATUS_CFG_WR_REJECT, F.TSK_ARR_STATE_CONTEXT, F.TSK_CONV_CFG_RANGE, F.TSK_CONV_CFG_MASK_EN, F.TSK_ARR_WRITE_ROWS_DONE, F.TSK_ARR_WRITE_FAIL_ROWS]) sub (by simp)

@[simp ↓] theorem State.only_rebaseArr {s t : State} {ps : Set Part} {g : ℕ} {a : ℕ} (sub : {.tuss g} ⊆ ps) :
    s.Only ps (t.rebaseArr g a) ↔ s.Only ps t :=
  State.Only.iff (by
    unfold State.rebaseArr; split <;> simp) sub (by simp)

@[simp ↓] theorem State.only_queueRepair {s t : State} {ps : Set Part} {g : ℕ} {a : ℕ} {row : ℕ} (sub : {.chans, .reg .TSK_ARR_STATUS} ⊆ ps) :
    s.Only ps (t.queueRepair g a row) ↔ s.Only ps t :=
  State.Only.iff (by
    unfold State.queueRepair; simp [F.TSK_ARR_STATUS_REPAIR_PENDING]) sub (by simp)

@[simp ↓] theorem State.only_writeMask {s t : State} {ps : Set Part} {g : ℕ} {a : ℕ} {mask : List Byte} (sub : {.mem, .tuss g, .reg .TSK_CONV_STATUS} ⊆ ps) (k : s.Only ps t) :
    s.Only ps (t.writeMask g a mask) :=
  State.Only.of_sub (by
    have h : t.Only {.mem, .tuss g, .reg .TSK_CONV_STATUS} (t.setIf ((t.arr g a).maskHost == some t.time) (F.TSK_CONV_STATUS_TABLE_WR_REJECT g) 1) := by
      simp [F.TSK_CONV_STATUS_TABLE_WR_REJECT]
    unfold State.writeMask
    generalize t.setIf _ _ _ = u at h ⊢
    simp [h]) sub k

@[simp ↓] theorem State.only_copyMask {s t : State} {ps : Set Part} {g : ℕ} {a : ℕ} {dst : ℕ} (sub : {.mem, .tuss g, .reg .TSK_CONV_STATUS} ⊆ ps) (k : s.Only ps t) :
    s.Only ps (t.copyMask g a dst) :=
  State.Only.of_sub (by
    unfold State.copyMask; simp) sub k

/-! #### Trim words -/

@[simp ↓] theorem State.only_setTrim {s t : State} {ps : Set Part} {g : ℕ} {a : ℕ} {i : ℕ} {v : ℕ} (sub : {.genSets, .tuss g} ⊆ ps) :
    s.Only ps (t.setTrim g a i v) ↔ s.Only ps t :=
  State.Only.iff (by
    unfold State.setTrim; simp) sub (by simp)

@[simp ↓] theorem State.only_setTrimByte {s t : State} {ps : Set Part} {g : ℕ} {a : ℕ} {i : ℕ} {k₀ : ℕ} {v : ℕ} (sub : {.genSets, .tuss g} ⊆ ps) :
    s.Only ps (t.setTrimByte g a i k₀ v) ↔ s.Only ps t :=
  State.Only.iff (by
    unfold State.setTrimByte; simp) sub (by simp)

/-! #### Lea messages -/

@[simp ↓] theorem State.only_updLea {s t : State} {ps : Set Part} {p : ℕ} {f : LeaPort → LeaPort} (sub : {.leas} ⊆ ps) :
    s.Only ps (t.updLea p f) ↔ s.Only ps t :=
  State.Only.iff (by
    unfold State.updLea; simp) sub (by simp)

@[simp ↓] theorem State.only_msgDrop {s t : State} {ps : Set Part} (sub : {.reg .LEA_STATUS, .reg .LEA_CTRL_STAT} ⊆ ps) :
    s.Only ps (t.msgDrop) ↔ s.Only ps t :=
  State.Only.iff (by
    unfold State.msgDrop; simp [F.LEA_CTRL_STAT_DROP_CNT, F.LEA_STATUS_CTRL_DROP]) sub (by simp)

@[simp ↓] theorem State.only_msgQueue {s t : State} {ps : Set Part} {p : ℕ} {m : LeaMsg} (sub : {.leas} ⊆ ps) :
    s.Only ps (t.msgQueue p m) ↔ s.Only ps t :=
  State.Only.iff (by
    unfold State.msgQueue; simp [F.LEA_PORT_STATUS_PARTNER_1100]) sub (by simp)

@[simp ↓] theorem State.only_msgSend {s t : State} {ps : Set Part} {msg : ℕ} {dest : ℕ} {jobref : ℕ} {body : List Byte} (sub : {.leas, .reg .LEA_STATUS, .reg .LEA_CTRL_STAT} ⊆ ps) :
    s.Only ps (t.msgSend msg dest jobref body) ↔ s.Only ps t :=
  State.Only.iff (by
    unfold State.msgSend; split <;> simp) sub (by simp)

/-! #### Counters over jobs -/

@[simp ↓] theorem State.only_recount {s t : State} {ps : Set Part} (sub : {.reg .CHN_TAGS, .reg .CHN_ENG_STATUS} ⊆ ps) :
    s.Only ps (t.recount) ↔ s.Only ps t :=
  State.Only.iff (by
    unfold State.recount
    all_goals
      refine State.only_foldl (fun u x => ?_) (by simp [F.CHN_TAGS_IN_USE, F.CHN_TAGS_PEAK, *])
    simp [F.CHN_ENG_STATUS_RUNNING, *]) sub (by simp)

@[simp ↓] theorem State.only_dropJob {s t : State} {ps : Set Part} {id : ℕ} {confirmed : Bool} (sub : {.jobs, .areas, .prods, .commits, .reg .CHN_TAGS, .reg .CHN_ENG_STATUS} ∪ Part.tusss ⊆ ps) :
    s.Only ps (t.dropJob id confirmed) ↔ s.Only ps t :=
  State.Only.iff (by
    unfold State.dropJob; simp) sub (by simp)

/-! #### The provisional table -/

@[simp ↓] theorem State.only_resolveProvs {s t : State} {ps : Set Part} {p : Prov → Bool} {retracted : Bool} (sub : {.jobs, .provs, .commits, .leas, .reg .LEA_STATUS, .reg .LEA_CTRL_STAT, .reg .GRS_PROV} ⊆ ps) :
    s.Only ps (t.resolveProvs p retracted) ↔ s.Only ps t :=
  State.Only.iff (by
    unfold State.resolveProvs; simp
    intro _
    refine State.only_foldl (fun u e => ?_) (.refl t _)
    repeat' split
    all_goals simp) sub (by simp)

/-! #### Records -/

@[simp ↓] theorem State.only_engWrite {s t : State} {ps : Set Part} {n : ℕ} {a : ℕ} {bytes : List Byte} (sub : Part.gwrite ⊆ ps) (k : s.Only ps t) :
    s.Only ps (t.engWrite n a bytes) :=
  State.Only.of_sub (by
    unfold State.engWrite; split <;> simp) sub k

@[simp ↓] theorem State.only_recordSeen {s t : State} {ps : Set Part} {j : Job} {state : ℕ} (sub : {.boot} ⊆ ps) :
    s.Only ps (t.recordSeen j state) ↔ s.Only ps t :=
  State.Only.iff (by
    unfold State.recordSeen; simp) sub (by simp)

@[simp ↓] theorem State.only_writeRecord {s t : State} {ps : Set Part} {j : Job} {state : ℕ} {tToken : ℕ} (sub : {.boot} ∪ Part.gwrite ⊆ ps) (k : s.Only ps t) :
    s.Only ps (t.writeRecord j state tToken) :=
  State.Only.of_sub (by
    unfold State.writeRecord; simp [F.CHN_ENG_CFG_FMT]) sub k

@[simp ↓] theorem State.only_slotWait {s t : State} {ps : Set Part} {j : Job} {on : Bool} (sub : {.engines} ⊆ ps) :
    s.Only ps (t.slotWait j on) ↔ s.Only ps t :=
  State.Only.iff (by
    unfold State.slotWait; simp) sub (by simp)

@[simp ↓] theorem State.only_finalRecord {s t : State} {ps : Set Part} {j : Job} (sub : {.boot, .jobs, .areas, .prods, .commits, .provs, .leas, .reg .CHN_TAGS, .reg .CHN_ENG_STATUS, .reg .LEA_STATUS, .reg .LEA_CTRL_STAT, .reg .GRS_PROV} ∪ Part.gwrite ⊆ ps) (k : s.Only ps t) :
    s.Only ps (t.finalRecord j) :=
  State.Only.of_sub (by
    unfold State.finalRecord
    simp) sub k

@[simp ↓] theorem State.only_commitRetract {s t : State} {ps : Set Part} (sub : {.reg .GRS_STATUS, .reg .GRS_EVT_CNT} ∪ Part.event ⊆ ps) :
    s.Only ps (t.commitRetract) ↔ s.Only ps t :=
  State.Only.iff (by
    unfold State.commitRetract; simp [F.GRS_EVT_CNT_COMMIT_RETRACT_CNT, F.GRS_STATUS_COMMIT_RETRACT]) sub (by simp)

@[simp ↓] theorem State.only_token {s t : State} {ps : Set Part} {id : ℕ} {confirm : Bool} (sub : Part.token ⊆ ps) (k : s.Only ps t) :
    s.Only ps (t.token id confirm) :=
  State.Only.of_sub (by
    unfold State.token; repeat' split
    all_goals simp) sub k

@[simp ↓] theorem State.only_retractJob {s t : State} {ps : Set Part} {id : ℕ} (sub : Part.token ⊆ ps) (k : s.Only ps t) :
    s.Only ps (t.retractJob id) :=
  State.Only.of_sub (by
    unfold State.retractJob; repeat' split
    all_goals simp) sub k

@[simp ↓] theorem State.only_retractJobs {s t : State} {ps : Set Part} {ids : List ℕ} (sub : Part.token ⊆ ps) (k : s.Only ps t) :
    s.Only ps (t.retractJobs ids) :=
  State.Only.of_sub (by
    unfold State.retractJobs; simp) sub k

@[simp ↓] theorem State.only_provisionalRecord {s t : State} {ps : Set Part} {j : Job} (sub : Part.token ⊆ ps) (k : s.Only ps t) :
    s.Only ps (t.provisionalRecord j) :=
  State.Only.of_sub (by
    unfold State.provisionalRecord
    extract_lets j u v w
    have hv : t.Only Part.token v := by simp [v, u]
    have hw : t.Only Part.token w := by unfold w; split <;> simp [hv]
    clear_value w
    split <;> simp [hw]) sub k

/-! #### Triggers -/

@[simp ↓] theorem State.only_arbStatus {s t : State} {ps : Set Part} {g : ℕ} (sub : {.reg .GRS_LANE_STATUS} ⊆ ps) :
    s.Only ps (t.arbStatus g) ↔ s.Only ps t :=
  State.Only.iff (by
    unfold State.arbStatus; simp [F.GRS_LANE_STATUS_ARB_ACTIVE, F.GRS_LANE_STATUS_ARB_QUEUED]) sub (by simp)

@[simp ↓] theorem State.only_trigger {s t : State} {ps : Set Part} {g : ℕ} {tr : Trigger} (sub : {.tuss g, .reg .GRS_ARB_CNT, .reg .GRS_STATUS, .reg .TSK_QUAR_CAUSE, .reg .GRS_LANE_STATUS} ∪ Part.event ⊆ ps) :
    s.Only ps (t.trigger g tr) ↔ s.Only ps t :=
  State.Only.iff (by
    unfold State.trigger; simp) sub (by simp)

@[simp ↓] theorem State.only_digErrors {s t : State} {ps : Set Part} {g : ℕ} {n : ℕ} (sub : {.tuss g, .reg .GRS_LANE_STATUS, .reg .GRS_LANE_CNT, .reg .GRS_ARB_CNT, .reg .GRS_STATUS, .reg .TSK_QUAR_CAUSE} ∪ Part.event ⊆ ps) :
    s.Only ps (t.digErrors g n) ↔ s.Only ps t :=
  State.Only.iff (by
    unfold State.digErrors; simp [F.GRS_LANE_CNT_DIG_CNT, F.GRS_LANE_STATUS_DIG_ERR]) sub (by simp)

@[simp ↓] theorem State.only_digError {s t : State} {ps : Set Part} {g : ℕ} (sub : {.tuss g, .reg .GRS_LANE_STATUS, .reg .GRS_LANE_CNT, .reg .GRS_ARB_CNT, .reg .GRS_STATUS, .reg .TSK_QUAR_CAUSE} ∪ Part.event ⊆ ps) :
    s.Only ps (t.digError g) ↔ s.Only ps t :=
  State.Only.iff (by
    unfold State.digError; simp) sub (by simp)

/-! #### Residuals -/

@[simp ↓] theorem State.only_evalTest {s t : State} {ps : Set Part} {g : ℕ} {e : Evl} (sub : {.tuss g, .reg .GRS_ARB_CNT, .reg .GRS_STATUS, .reg .TSK_QUAR_CAUSE, .reg .GRS_LANE_STATUS} ∪ Part.event ⊆ ps) :
    s.Only ps (t.evalTest g e) ↔ s.Only ps t :=
  State.Only.iff (by
    unfold State.evalTest; simp [F.GRS_LANE_STATUS_EVAL_FAIL]) sub (by simp)

@[simp ↓] theorem State.only_stuckTest {s t : State} {ps : Set Part} {g : ℕ} {e : Evl} (sub : {.tuss g, .reg .GRS_ARB_CNT, .reg .GRS_STATUS, .reg .TSK_QUAR_CAUSE, .reg .GRS_LANE_STATUS} ∪ Part.event ⊆ ps) :
    s.Only ps (t.stuckTest g e) ↔ s.Only ps t :=
  State.Only.iff (by
    unfold State.stuckTest; simp [F.GRS_LANE_STATUS_MEAN_FAIL]) sub (by simp)

@[simp ↓] theorem State.only_driftTest {s t : State} {ps : Set Part} {g : ℕ} {e : Evl} (sub : {.tuss g, .reg .GRS_LANE_STATUS} ⊆ ps) :
    s.Only ps (t.driftTest g e) ↔ s.Only ps t :=
  State.Only.iff (by
    unfold State.driftTest; simp [F.GRS_LANE_STATUS_DRIFT, F.GRS_CFG_DRIFT_PASS]) sub (by simp)

@[simp ↓] theorem State.only_residualTests {s t : State} {ps : Set Part} {g : ℕ} {e : Evl} (sub : {.tuss g, .reg .GRS_ARB_CNT, .reg .GRS_STATUS, .reg .TSK_QUAR_CAUSE, .reg .GRS_LANE_STATUS} ∪ Part.event ⊆ ps) :
    s.Only ps (t.residualTests g e) ↔ s.Only ps t :=
  State.Only.iff (by
    unfold State.residualTests; simp) sub (by simp)

@[simp ↓] theorem State.only_mateVectors {s t : State} {ps : Set Part} {g : ℕ} {p : Evl} {q : Evl} (sub : {.tuss g} ⊆ ps) :
    s.Only ps (t.mateVectors g p q) ↔ s.Only ps t :=
  State.Only.iff (by
    unfold State.mateVectors; simp) sub (by simp)

@[simp ↓] theorem State.only_gatherVector {s t : State} {ps : Set Part} {g : ℕ} {e : Evl} (sub : {.tuss g} ⊆ ps) :
    s.Only ps (t.gatherVector g e) ↔ s.Only ps t :=
  State.Only.iff (by
    unfold State.gatherVector; simp) sub (by simp)

/-! #### Exact values -/

@[simp ↓] theorem State.only_weightsOf {s t : State} {ps : Set Part} {g : ℕ} {as : List ℕ} (sub : Part.read ⊆ ps) (k : s.Only ps t) :
    s.Only ps (t.weightsOf g as).1 :=
  State.Only.of_sub (by
    clear k
    induction as generalizing t with
    | nil => exact .refl t _
    | cons a as ih =>
      unfold State.weightsOf; dsimp only
      exact .trans (by simp) ih) sub k

/-! #### Retraction -/

@[simp ↓] theorem State.only_lateFor {s t : State} {ps : Set Part} {g : ℕ} {code : ℕ} {since : ℕ} {os : List Owner} (sub : {.reg .GRS_EVT_CNT, .reg .GRS_SUSPECT_INFO, .reg .GRS_SUSPECT_TIME, .reg .GRS_STATUS} ∪ Part.event ⊆ ps) :
    s.Only ps (t.lateFor g code since os) ↔ s.Only ps t :=
  State.Only.iff (by
    unfold State.lateFor
    simp [F.GRS_EVT_CNT_LATE_CNT, F.GRS_STATUS_LATE, F.GRS_SUSPECT_TIME_TIME, F.GRS_SUSPECT_INFO_TSK, F.GRS_SUSPECT_INFO_ARRAY]) sub (by simp)

@[simp ↓] theorem State.only_retractArray {s t : State} {ps : Set Part} {g : ℕ} {a : ℕ} {since : ℕ} (sub : {.irq, .engines, .boot, .mem, .out, .flits, .latent, .chans, .leas, .jobs, .areas, .prods, .commits, .provs} ∪ Part.tusss ∪ Part.regs ⊆ ps) (k : s.Only ps t) :
    s.Only ps (t.retractArray g a since) :=
  State.Only.of_sub (by
    unfold State.retractArray; simp) sub k

@[simp ↓] theorem State.only_retractTussock {s t : State} {ps : Set Part} {g : ℕ} {since : ℕ} (sub : {.irq, .engines, .boot, .mem, .out, .flits, .latent, .chans, .leas, .jobs, .areas, .prods, .commits, .provs} ∪ Part.tusss ∪ Part.regs ⊆ ps) (k : s.Only ps t) :
    s.Only ps (t.retractTussock g since) :=
  State.Only.of_sub (by
    unfold State.retractTussock; simp) sub k

@[simp ↓] theorem State.only_wrongArray {s t : State} {ps : Set Part} {g : ℕ} {a : ℕ} {k₀ : ℕ} {cols : List ℕ} {vecs : List Evl} (sub : {.irq, .engines, .boot, .mem, .out, .flits, .latent, .chans, .leas, .jobs, .areas, .prods, .commits, .provs} ∪ Part.tusss ∪ Part.regs ⊆ ps) (k : s.Only ps t) :
    s.Only ps (t.wrongArray g a k₀ cols vecs) :=
  State.Only.of_sub (by
    unfold State.wrongArray; simp [F.GRS_ARB_CNT_PERSIST_CNT]) sub k

/-! #### Latching inputs -/

@[simp ↓] theorem State.only_readBlocks {s t : State} {ps : Set Part} {n job cmd unit a : ℕ} {es : List Ecc} {k₀ : ℕ} (sub : {.jobs} ∪ Part.read ⊆ ps) (k : s.Only ps t) :
    s.Only ps (t.readBlocks n job cmd unit a es k₀).1 :=
  State.Only.of_sub (by
    clear k
    induction k₀ generalizing t a es with
    | zero => unfold State.readBlocks; exact .refl t _
    | succ n ih =>
      unfold State.readBlocks; split
      · rename_i heq
        exact .of_fst heq (by simp)
      · rename_i heq
        split
        all_goals
          rename_i heq₂
          exact .trans (.of_fst heq (by simp)) (.of_fst heq₂ ih)) sub k

@[simp ↓] theorem State.only_readBytes {s t : State} {ps : Set Part} {n : ℕ} {job : ℕ} {cmd : ℕ} {unit : ℕ} {a : ℕ} {len : ℕ} (sub : {.jobs} ∪ Part.read ⊆ ps) (k : s.Only ps t) :
    s.Only ps (t.readBytes n job cmd unit a len).1 :=
  State.Only.of_sub (by
    unfold State.readBytes; repeat' split
    all_goals
      simp only [Prod.ext_iff] at *
      cases_type* And
      subst_vars
      simp [*]) sub k

@[simp ↓] theorem State.only_taskBlocks {s t : State} {ps : Set Part} {g : ℕ} {t₀ : Task} {b : ℕ} {k₀ : ℕ} {ecc : List Ecc} (sub : {.jobs} ∪ Part.read ⊆ ps) (k : s.Only ps t) :
    s.Only ps (t.taskBlocks g t₀ b k₀ ecc).1 :=
  State.Only.of_sub (by
    unfold State.taskBlocks
    simp) sub k

@[simp ↓] theorem State.only_recordValid {s t : State} {ps : Set Part} {n : ℕ} {job : ℕ} {cmd : ℕ} {unit : ℕ} {record : ℕ} (sub : {.jobs} ∪ Part.read ⊆ ps) (k : s.Only ps t) :
    s.Only ps (t.recordValid n job cmd unit record).1 :=
  State.Only.of_sub (by
    unfold State.recordValid; repeat' split
    all_goals
      simp only [Prod.ext_iff] at *
      cases_type* And
      subst_vars
      simp [*]) sub k

@[simp ↓] theorem State.only_learnRec {s t : State} {ps : Set Part} {tid : ℕ} {addr : ℕ} (sub : {.recs} ⊆ ps) :
    s.Only ps (t.learnRec tid addr) ↔ s.Only ps t :=
  State.Only.iff (by
    unfold State.learnRec; simp) sub (by simp)

@[simp ↓] theorem State.only_tensorsValid {s t : State} {ps : Set Part} {n job cmd unit : ℕ} {ts : List ℕ} (sub : {.jobs} ∪ Part.read ⊆ ps) (k : s.Only ps t) :
    s.Only ps (t.tensorsValid n job cmd unit ts).1 :=
  State.Only.of_sub (by
    clear k
    induction ts generalizing t with
    | nil => exact .refl t _
    | cons x ts ih =>
      unfold State.tensorsValid; split
      · exact ih
      · split
        · rename_i heq
          exact .of_fst heq (by simp)
        · rename_i heq
          exact .trans (.of_fst heq (by simp)) ih) sub k

@[simp ↓] theorem State.only_operands {s t : State} {ps : Set Part} {g : ℕ} {t₀ : Task} {b : ℕ} {k₀ : ℕ} {ecc : List Ecc} (sub : {.jobs} ∪ Part.read ⊆ ps) (k : s.Only ps t) :
    s.Only ps (t.operands g t₀ b k₀ ecc).1 :=
  State.Only.of_sub (by
    unfold State.operands; dsimp only; repeat' split
    all_goals
      simp only [Prod.ext_iff] at *
      cases_type* And
      subst_vars
      simp [*]) sub k

@[simp ↓] theorem State.only_noteOwner {s t : State} {ps : Set Part} {g : ℕ} {a : ℕ} {job : ℕ} {time : ℕ} (sub : {.tuss g, .reg .GRS_LANE_STATUS} ⊆ ps) :
    s.Only ps (t.noteOwner g a job time) ↔ s.Only ps t :=
  State.Only.iff (by
    unfold State.noteOwner; simp [F.GRS_LANE_STATUS_OWNER_OVF]) sub (by simp)

@[simp ↓] theorem State.only_capture {s t : State} {ps : Set Part} {g : ℕ} {slot : ℕ} {inputs : List ℕ} (sub : {.tuss g} ⊆ ps) :
    s.Only ps (t.capture g slot inputs) ↔ s.Only ps t :=
  State.Only.iff (by
    unfold State.capture; dsimp only; repeat' split
    all_goals simp [*]) sub (by simp)

@[simp ↓] theorem State.only_latch {s t : State} {ps : Set Part} {g : ℕ} {e : Evl} {gangCode : ℕ} (sub : {.tuss g, .reg .TSK_ARR_STATE} ⊆ ps) :
    s.Only ps (t.latch g e gangCode) ↔ s.Only ps t :=
  State.Only.iff (by
    unfold State.latch
    extract_lets u v pass w
    have hv : t.Only {.tuss g, .reg .TSK_ARR_STATE} v :=
      State.only_foldl (fun u a => by simp [F.TSK_ARR_STATE_GANG]) (by simp [u])
    have hw : t.Only {.tuss g, .reg .TSK_ARR_STATE} w :=
      State.only_foldl (fun u a => by simp [F.TSK_ARR_STATE_PASS_THROUGH]) hv
    simp [hw]) sub (by simp)

@[simp ↓] theorem State.only_inputValid {s t : State} {ps : Set Part} {g : ℕ} {t₀ : Task} (sub : {.jobs, .recs} ∪ Part.read ⊆ ps) (k : s.Only ps t) :
    s.Only ps (t.inputValid g t₀).1 :=
  State.Only.of_sub (by
    unfold State.inputValid
    extract_lets b record
    split
    · exact .refl t _
    · split
      all_goals
        rename_i heq
        have hu := State.Only.of_fst (s := t) (ps := {.jobs, .recs} ∪ Part.read) heq (by simp)
        simp [hu]) sub k

@[simp ↓] theorem State.only_inputBlocks {s t : State} {ps : Set Part} {g : ℕ} {t₀ : Task} {k₀ : ℕ} {ecc : List Ecc} (sub : {.jobs, .recs} ∪ Part.read ⊆ ps) (k : s.Only ps t) :
    s.Only ps (t.inputBlocks g t₀ k₀ ecc).1 :=
  State.Only.of_sub (by
    unfold State.inputBlocks; repeat' split
    all_goals
      simp only [Prod.ext_iff] at *
      cases_type* And
      subst_vars
      simp [*]) sub k

@[simp ↓] theorem State.only_inputsOf {s t : State} {ps : Set Part} {g : ℕ} {t₀ : Task} {phase : ℕ} {ecc : List Ecc} (sub : {.jobs, .recs} ∪ Part.read ⊆ ps) (k : s.Only ps t) :
    s.Only ps (t.inputsOf g t₀ phase ecc).1 :=
  State.Only.of_sub (by
    unfold State.inputsOf; dsimp only; repeat' split
    all_goals
      simp only [Prod.ext_iff] at *
      cases_type* And
      subst_vars
      simp [*]) sub k

@[simp ↓] theorem State.only_dequeue {s t : State} {ps : Set Part} {g : ℕ} {t₀ : Task} (sub : {.tuss g, .reg .TSK_SEQ_STATUS} ⊆ ps) :
    s.Only ps (t.dequeue g t₀) ↔ s.Only ps t :=
  State.Only.iff (by
    unfold State.dequeue; simp) sub (by simp)

@[simp ↓] theorem State.only_retireTask {s t : State} {ps : Set Part} {g : ℕ} {t₀ : Task} {status : ℕ} (sub : {.jobs, .tuss g, .reg .TSK_SEQ_ERR, .reg .TSK_SEQ_STATUS} ⊆ ps) :
    s.Only ps (t.retireTask g t₀ status) ↔ s.Only ps t :=
  State.Only.iff (by
    unfold State.retireTask; simp) sub (by simp)

@[simp ↓] theorem State.only_retireUnavail {s t : State} {ps : Set Part} {g : ℕ} {t₀ : Task} {ms : List ℕ} (sub : {.jobs, .tuss g, .reg .TSK_ARR_STATUS, .reg .TSK_SEQ_ERR, .reg .TSK_SEQ_STATUS} ⊆ ps) :
    s.Only ps (t.retireUnavail g t₀ ms) ↔ s.Only ps t :=
  State.Only.iff (by
    unfold State.retireUnavail; simp [F.TSK_ARR_STATUS_UNAVAIL_TASK]) sub (by simp)

@[simp ↓] theorem State.only_runPhase {s t : State} {ps : Set Part} {g : ℕ} {t₀ : Task} {phase : ℕ} {c : ℕ} {ecc : List Ecc} (sub : {.tuss g, .jobs, .recs, .reg .TSK_SEQ_STATUS, .reg .TSK_ARR_STATE, .reg .GRS_LANE_STATUS} ∪ Part.read ⊆ ps) (k : s.Only ps t) :
    s.Only ps (t.runPhase g t₀ phase c ecc) :=
  State.Only.of_sub (by
    unfold State.runPhase; repeat' split
    all_goals
      simp only [Prod.ext_iff] at *
      cases_type* And
      subst_vars
      simp [*]) sub k

/-! #### Conversion and linearisation -/

@[simp ↓] theorem State.only_countSat {s t : State} {ps : Set Part} {g : ℕ} {e : Evl} (sub : {.reg .TSK_CONV_SAT} ⊆ ps) :
    s.Only ps (t.countSat g e) ↔ s.Only ps t :=
  State.Only.iff (by
    unfold State.countSat; simp [F.TSK_CONV_SAT_SAT_CNT, F.TSK_CONV_SAT_AUX_SAT_CNT]) sub (by simp)

@[simp ↓] theorem State.only_convert {s t : State} {ps : Set Part} {g : ℕ} {a : ℕ} {dev : List (ℕ × ℤ)} (sub : {.tuss g, .reg .TSK_CONV_SAT} ⊆ ps) :
    s.Only ps (t.convert g a dev) ↔ s.Only ps t :=
  State.Only.iff (by
    unfold State.convert; split <;> simp) sub (by simp)

@[simp ↓] theorem State.only_tableEcc {s t : State} {ps : Set Part} {g : ℕ} {a : ℕ} {off : ℕ} {f : Ecc} (sub : {.tuss g, .reg .TSK_CONV_STATUS, .reg .TSK_TABLE_ECC} ⊆ ps) :
    s.Only ps (t.tableEcc g a off f) ↔ s.Only ps t :=
  State.Only.iff (by
    unfold State.tableEcc; split <;> simp [F.TSK_TABLE_ECC_CE_CNT, F.TSK_CONV_STATUS_TABLE_CE, F.TSK_TABLE_ECC_UE_CNT, F.TSK_CONV_STATUS_TABLE_UE, F.TSK_CONV_STATUS_UE_ARRAY]) sub (by simp)

@[simp ↓] theorem State.only_pairUp {s t : State} {ps : Set Part} {g : ℕ} {e : Evl} (sub : {.tuss g, .reg .GRS_ARB_CNT, .reg .GRS_STATUS, .reg .TSK_QUAR_CAUSE, .reg .GRS_LANE_STATUS} ∪ Part.event ⊆ ps) :
    s.Only ps (t.pairUp g e) ↔ s.Only ps t :=
  State.Only.iff (by
    unfold State.pairUp; split <;> simp [F.GRS_LANE_STATUS_DUP_FAIL]) sub (by simp)

@[simp ↓] theorem State.only_addPartial {s t : State} {ps : Set Part} {g : ℕ} {e : Evl} (sub : {.tuss g} ⊆ ps) :
    s.Only ps (t.addPartial g e) ↔ s.Only ps t :=
  State.Only.iff (by
    unfold State.addPartial; simp) sub (by simp)

@[simp ↓] theorem State.only_deliverValues {s t : State} {ps : Set Part} {g : ℕ} {e : Evl} (sub : {.jobs, .tuss g, .reg .GRS_ARB_CNT, .reg .GRS_STATUS, .reg .TSK_QUAR_CAUSE, .reg .GRS_LANE_STATUS} ∪ Part.event ⊆ ps) :
    s.Only ps (t.deliverValues g e) ↔ s.Only ps t :=
  State.Only.iff (by
    unfold State.deliverValues; split <;> simp [F.GRS_CFG_FRACTION]) sub (by simp)

@[simp ↓] theorem State.only_lookupStep {s t : State} {ps : Set Part} {g : ℕ} {a : ℕ} {ecc : List (ℕ × Ecc)} (sub : {.irq, .jobs, .engines, .boot, .mem, .out, .flits, .latent, .chans, .leas, .areas, .prods, .commits, .provs} ∪ Part.tusss ∪ Part.regs ⊆ ps) (k : s.Only ps t) :
    s.Only ps (t.lookupStep g a ecc) :=
  State.Only.of_sub (by
    unfold State.lookupStep; split <;> simp) sub k

/-! #### The cycle of a task -/

@[simp ↓] theorem State.only_imageRead {s t : State} {ps : Set Part} {g : ℕ} {t₀ : Task} {xs : List RowSrc} (sub : {.jobs} ∪ Part.read ⊆ ps) (k : s.Only ps t) :
    s.Only ps (t.imageRead g t₀ xs).1 :=
  State.Only.of_sub (by
    clear k
    induction xs generalizing t with
    | nil => exact .refl t _
    | cons x xs ih =>
      unfold State.imageRead; dsimp only; split
      · rename_i heq
        exact .of_fst heq (by simp)
      · rename_i heq
        exact .trans (.of_fst heq (by simp)) ih) sub k

@[simp ↓] theorem State.only_deliverExact {s t : State} {ps : Set Part} {g : ℕ} {e : Evl} (sub : {.jobs, .tuss g, .reg .GRS_ARB_CNT, .reg .GRS_STATUS, .reg .TSK_QUAR_CAUSE, .reg .GRS_LANE_STATUS} ∪ Part.event ⊆ ps) :
    s.Only ps (t.deliverExact g e) ↔ s.Only ps t :=
  State.Only.iff (by
    unfold State.deliverExact; simp [F.GRS_CFG_FRACTION]) sub (by simp)

@[simp ↓] theorem State.only_exactRun {s t : State} {ps : Set Part} {g : ℕ} {t₀ : Task} {ms : List ℕ} {c : ℕ} {ecc : List Ecc} (sub : {.tuss g, .jobs, .recs, .reg .TSK_SEQ_STATUS, .reg .GRS_ARB_CNT, .reg .GRS_STATUS, .reg .TSK_QUAR_CAUSE, .reg .GRS_LANE_STATUS} ∪ Part.read ⊆ ps) (k : s.Only ps t) :
    s.Only ps (t.exactRun g t₀ ms c ecc) :=
  State.Only.of_sub (by
    unfold State.exactRun; dsimp only; repeat' split
    all_goals
      simp only [Prod.ext_iff] at *
      cases_type* And
      subst_vars
      simp [*]) sub k

@[simp ↓] theorem State.only_evalTask {s t : State} {ps : Set Part} {g : ℕ} {t₀ : Task} {c : ℕ} {ecc : List Ecc} (sub : {.tuss g, .jobs, .recs, .reg .TSK_SEQ_ERR, .reg .TSK_SEQ_STATUS, .reg .TSK_ARR_STATUS, .reg .GRS_ARB_CNT, .reg .GRS_STATUS, .reg .TSK_QUAR_CAUSE, .reg .GRS_LANE_STATUS, .reg .TSK_ARR_STATE} ∪ Part.read ⊆ ps) (k : s.Only ps t) :
    s.Only ps (t.evalTask g t₀ c ecc) :=
  State.Only.of_sub (by
    unfold State.evalTask; simp [F.GRS_CFG_FRACTION]) sub k

@[simp ↓] theorem State.only_phaseBTask {s t : State} {ps : Set Part} {g : ℕ} {t₀ : Task} {c : ℕ} {ecc : List Ecc} (sub : {.tuss g, .jobs, .recs, .reg .TSK_ARR_STATUS, .reg .TSK_SEQ_ERR, .reg .TSK_SEQ_STATUS, .reg .TSK_ARR_STATE, .reg .GRS_LANE_STATUS} ∪ Part.read ⊆ ps) (k : s.Only ps t) :
    s.Only ps (t.phaseBTask g t₀ c ecc) :=
  State.Only.of_sub (by
    unfold State.phaseBTask; simp) sub k

/-! #### Restore -/

@[simp ↓] theorem State.only_shadowSwap {s t : State} {ps : Set Part} {g : ℕ} {a : ℕ} (sub : {.tuss g} ∪ Part.regs ⊆ ps) :
    s.Only ps (t.shadowSwap g a) ↔ s.Only ps t :=
  State.Only.iff (by
    unfold State.shadowSwap; split <;> simp [shadowMap]) sub (by simp)

@[simp ↓] theorem State.only_fillShadow {s t : State} {ps : Set Part} {g : ℕ} {a : ℕ} {row : ℕ} {next : ℕ} (sub : {.tuss g} ∪ Part.regs ⊆ ps) :
    s.Only ps (t.fillShadow g a row next) ↔ s.Only ps t :=
  State.Only.iff (by
    unfold State.fillShadow; split <;> simp) sub (by simp)

@[simp ↓] theorem State.only_restoreRow {s t : State} {ps : Set Part} {g : ℕ} {a : ℕ} {row : ℕ} {marginal : Bool} {sensed : List (ℕ × ℕ × ℕ)} (sub : {.chans, .tuss g} ∪ Part.regs ⊆ ps) :
    s.Only ps (t.restoreRow g a row marginal sensed) ↔ s.Only ps t :=
  State.Only.iff (by
    unfold State.restoreRow; split <;> simp [F.TSK_ARR_EVENTS_MARGINAL_CNT, F.TSK_ARR_STATUS_MARGINAL, F.TSK_ARR_EVENTS_INVALID_PAIR_CNT, F.TSK_ARR_STATUS_INVALID_PAIR, F.TSK_ARR_RESTORE_CNT_COUNT, F.TSK_ARR_RESTORE_ROW_PTR]) sub (by simp)

@[simp ↓] theorem State.only_spend {s t : State} {ps : Set Part} {g : ℕ} {a : ℕ} {xs : List ℕ} (sub : {.tuss g} ⊆ ps) :
    s.Only ps (t.spend g a xs) ↔ s.Only ps t :=
  State.Only.iff (by
    unfold State.spend; simp) sub (by simp)

@[simp ↓] theorem State.only_restoreSlot {s t : State} {ps : Set Part} {g : ℕ} {a : ℕ} {x : ℕ} {marginal : Bool} {sensed : List (ℕ × ℕ × ℕ)} (sub : {.chans, .tuss g} ∪ Part.regs ⊆ ps) :
    s.Only ps (t.restoreSlot g a x marginal sensed) ↔ s.Only ps t :=
  State.Only.iff (by
    unfold State.restoreSlot; simp [F.TSK_RESTORE_TEMP_TEMP, F.TSK_ARR_RESTORE_FRACTION]) sub (by simp)

/-! #### Row writes -/

@[simp ↓] theorem State.only_writeComplete {s t : State} {ps : Set Part} {g : ℕ} {a : ℕ} {w : WriteFor} (sub : {.jobs, .ctxs, .tuss g, .reg .BRK_STATUS, .reg .TSK_ARR_STATE} ⊆ ps) :
    s.Only ps (t.writeComplete g a w) ↔ s.Only ps t :=
  State.Only.iff (by
    unfold State.writeComplete; dsimp only; repeat' split
    all_goals simp [*]) sub (by simp)

@[simp ↓] theorem State.only_rowFailed {s t : State} {ps : Set Part} {g : ℕ} {a : ℕ} {fails : Bool} (sub : {.reg .TSK_ARR_STATUS, .reg .TSK_ARR_EVENTS} ⊆ ps) :
    s.Only ps (t.rowFailed g a fails) ↔ s.Only ps t :=
  State.Only.iff (by
    unfold State.rowFailed; simp [F.TSK_ARR_EVENTS_VERIFY_FAIL_CNT, F.TSK_ARR_STATUS_VERIFY_FAIL]) sub (by simp)

@[simp ↓] theorem State.only_writeNext {s t : State} {ps : Set Part} {g : ℕ} {a : ℕ} {x : ℕ} {w : ArrWrite} {row : RowJob} {rest : List RowJob} {fails : List (ℕ × ℕ × ℕ)} (sub : {.jobs, .ctxs, .tuss g, .reg .TSK_ARR_RESTORE_CNT, .reg .TSK_ARR_STATUS, .reg .TSK_ARR_EVENTS, .reg .TSK_ARR_WRITE, .reg .BRK_STATUS, .reg .TSK_ARR_STATE} ⊆ ps) :
    s.Only ps (t.writeNext g a x w row rest fails) ↔ s.Only ps t :=
  State.Only.iff (by
    unfold State.writeNext; simp [F.TSK_ARR_RESTORE_CNT_COUNT, F.TSK_ARR_WRITE_ROWS_DONE, F.TSK_ARR_WRITE_FAIL_ROWS]) sub (by simp)

@[simp ↓] theorem State.only_repairRow {s t : State} {ps : Set Part} {g : ℕ} {a : ℕ} {r : Repair} {fails : List (ℕ × ℕ × ℕ)} (sub : {.tuss g, .reg .TSK_ARR_RESTORE_CNT, .reg .TSK_ARR_STATUS, .reg .TSK_ARR_EVENTS, .reg .CHN_ADM_BUDGET} ∪ Part.read ⊆ ps) (k : s.Only ps t) :
    s.Only ps (t.repairRow g a r fails) :=
  State.Only.of_sub (by
    unfold State.repairRow; simp [F.TSK_ARR_RESTORE_CNT_COUNT, F.TSK_ARR_STATUS_REPAIR_PENDING]) sub k

@[simp ↓] theorem State.only_copyRq {s t : State} {ps : Set Part} {l : Layer} (sub : {.reg .TSK_CONV_STATUS} ∪ Part.read ∪ Part.tusss ⊆ ps) (k : s.Only ps t) :
    s.Only ps (t.copyRq l) :=
  State.Only.of_sub (by
    unfold State.copyRq
    refine State.only_foldl (fun u i => ?_) (.refl t _)
    extract_lets n src dst
    clear_value src dst
    split
    all_goals simp) sub k

@[simp ↓] theorem State.only_waveStart {s t : State} {ps : Set Part} {g : ℕ} {a : ℕ} (sub : {.reg .TSK_CONV_STATUS, .tuss g, .ctxs, .reg .TSK_CONV_CFG, .reg .TSK_ARR_STATE, .reg .BRK_STATUS, .reg .TSK_ARR_WRITE} ∪ Part.read ∪ Part.tusss ⊆ ps) (k : s.Only ps t) :
    s.Only ps (t.waveStart g a) :=
  State.Only.of_sub (by
    unfold State.waveStart; dsimp only; repeat' split
    all_goals simp [*]) sub k

@[simp ↓] theorem State.only_waveBegin {s t : State} {ps : Set Part} {g : ℕ} {a : ℕ} (sub : {.reg .TSK_CONV_STATUS, .tuss g, .ctxs, .reg .TSK_CONV_CFG, .reg .TSK_ARR_STATE, .reg .BRK_STATUS, .reg .TSK_ARR_WRITE} ∪ Part.read ∪ Part.tusss ⊆ ps) (k : s.Only ps t) :
    s.Only ps (t.waveBegin g a) :=
  State.Only.of_sub (by
    unfold State.waveBegin; simp) sub k

@[simp ↓] theorem State.only_rowWrite {s t : State} {ps : Set Part} {g : ℕ} {a : ℕ} {x : ℕ} {fails : List (ℕ × ℕ × ℕ)} (sub : {.reg .TSK_CONV_STATUS, .tuss g, .ctxs, .jobs, .reg .TSK_ARR_RESTORE_CNT, .reg .TSK_ARR_STATUS, .reg .TSK_ARR_EVENTS, .reg .CHN_ADM_BUDGET, .reg .TSK_CONV_CFG, .reg .TSK_ARR_STATE, .reg .BRK_STATUS, .reg .TSK_ARR_WRITE} ∪ Part.read ∪ Part.tusss ⊆ ps) (k : s.Only ps t) :
    s.Only ps (t.rowWrite g a x fails) :=
  State.Only.of_sub (by
    unfold State.rowWrite; dsimp only; repeat' split
    all_goals simp [*]) sub k

/-! #### The commands -/

@[simp ↓] theorem keeps_execEval {ps : Set Part} {g : Tsk} {c : BitVec 8} {ecc : List Ecc} (sub : {.tuss g, .jobs, .recs, .reg .TSK_SEQ_ERR, .reg .TSK_SEQ_STATUS, .reg .TSK_ARR_STATUS, .reg .GRS_ARB_CNT, .reg .GRS_STATUS, .reg .TSK_QUAR_CAUSE, .reg .GRS_LANE_STATUS, .reg .TSK_ARR_STATE} ∪ Part.read ⊆ ps) : State.Keeps ps (execEval g c ecc) :=
  State.Keeps.mono (fun t => by
    refine ⟨_, rfl, ?_⟩
    simp only [State.only_ifCycle]
    repeat' split
    all_goals simp (disch := simp (disch := simp))) sub

@[simp ↓] theorem keeps_execPhaseB {ps : Set Part} {g : Tsk} {c : BitVec 8} {ecc : List Ecc} (sub : {.tuss g, .jobs, .recs, .reg .TSK_ARR_STATUS, .reg .TSK_SEQ_ERR, .reg .TSK_SEQ_STATUS, .reg .TSK_ARR_STATE, .reg .GRS_LANE_STATUS} ∪ Part.read ⊆ ps) : State.Keeps ps (execPhaseB g c ecc) :=
  State.Keeps.mono (fun t => by
    refine ⟨_, rfl, ?_⟩
    simp only [State.only_ifCycle]
    repeat' split
    all_goals simp (disch := simp (disch := simp))) sub

@[simp ↓] theorem keeps_execConversion {ps : Set Part} {g : Tsk} {a : Arr} {dev : List (Fin 260 × ℤ)} (sub : {.tuss g, .reg .TSK_CONV_SAT} ⊆ ps) : State.Keeps ps (execConversion g a dev) :=
  State.Keeps.mono (fun t => by
    exact ⟨_, rfl, by simp⟩) sub

@[simp ↓] theorem keeps_execLookup {ps : Set Part} {g : Tsk} {a : Arr} {ecc : List (BitVec 16 × Ecc)} (sub : {.irq, .jobs, .engines, .boot, .mem, .out, .flits, .latent, .chans, .leas, .areas, .prods, .commits, .provs} ∪ Part.tusss ∪ Part.regs ⊆ ps) : State.Keeps ps (execLookup g a ecc) :=
  State.Keeps.mono (fun t => by
    exact ⟨_, rfl, by simp⟩) sub

@[simp ↓] theorem keeps_execTableEccWriteback {ps : Set Part} {g : Tsk} (sub : {.tuss g} ⊆ ps) : State.Keeps ps (execTableEccWriteback g) :=
  State.Keeps.mono (fun t => by
    exact ⟨_, rfl, by simp⟩) sub

@[simp ↓] theorem keeps_execRestoreSlot {ps : Set Part} {g : Tsk} {a : Arr} {c : BitVec 8} {marginal : Bool} {sensed : List (Fin 260 × Fin 16 × Fin 16)} (sub : {.chans, .tuss g} ∪ Part.regs ⊆ ps) : State.Keeps ps (execRestoreSlot g a c marginal sensed) :=
  State.Keeps.mono (fun t => by
    exact ⟨_, rfl, by simp⟩) sub

@[simp ↓] theorem keeps_execRowWrite {ps : Set Part} {g : Tsk} {a : Arr} {c : BitVec 8} {fails : List (Fin 260 × Fin 16 × Fin 16)} (sub : {.reg .TSK_CONV_STATUS, .tuss g, .ctxs, .jobs, .reg .TSK_ARR_RESTORE_CNT, .reg .TSK_ARR_STATUS, .reg .TSK_ARR_EVENTS, .reg .CHN_ADM_BUDGET, .reg .TSK_CONV_CFG, .reg .TSK_ARR_STATE, .reg .BRK_STATUS, .reg .TSK_ARR_WRITE} ∪ Part.read ∪ Part.tusss ⊆ ps) : State.Keeps ps (execRowWrite g a c fails) :=
  State.Keeps.mono (fun t => by
    exact ⟨_, rfl, by simp⟩) sub

@[simp ↓] theorem keeps_execArrClrCnt {ps : Set Part} {g : Tsk} {a : Arr} (sub : {.reg .TSK_ARR_EVENTS} ⊆ ps) : State.Keeps ps (execArrClrCnt g a) :=
  State.Keeps.mono (fun t => by
    exact ⟨_, rfl, by simp [F.TSK_ARR_EVENTS_MARGINAL_CNT, F.TSK_ARR_EVENTS_INVALID_PAIR_CNT, F.TSK_ARR_EVENTS_VERIFY_FAIL_CNT]⟩) sub

@[simp ↓] theorem State.only_convCfgWrite {s t : State} {ps : Set Part} {g : ℕ} {a : ℕ} {range : ℕ} {maskEn : ℕ} (sub : {.tuss g, .reg .TSK_CONV_STATUS, .reg .TSK_CONV_CFG} ⊆ ps) :
    s.Only ps (t.convCfgWrite g a range maskEn) ↔ s.Only ps t :=
  State.Only.iff (by
    unfold State.convCfgWrite; simp [F.TSK_CONV_STATUS_CFG_WR_REJECT, F.TSK_CONV_CFG_RANGE, F.TSK_CONV_CFG_MASK_EN]) sub (by simp)

@[simp ↓] theorem keeps_execConvCfgWrite {ps : Set Part} {g : Tsk} {a : Arr} {range : BitVec 3} {maskEn : Bool} (sub : {.tuss g, .reg .TSK_CONV_STATUS, .reg .TSK_CONV_CFG} ⊆ ps) : State.Keeps ps (execConvCfgWrite g a range maskEn) :=
  State.Keeps.mono (fun t => by
    exact ⟨_, rfl, by simp⟩) sub

@[simp ↓] theorem State.only_convClrSat {s t : State} {ps : Set Part} {g : ℕ} {a : ℕ} (sub : {.reg .TSK_CONV_SAT} ⊆ ps) :
    s.Only ps (t.convClrSat g a) ↔ s.Only ps t :=
  State.Only.iff (by
    unfold State.convClrSat; simp [F.TSK_CONV_SAT_SAT_CNT, F.TSK_CONV_SAT_AUX_SAT_CNT]) sub (by simp)

@[simp ↓] theorem keeps_execConvClrSat {ps : Set Part} {g : Tsk} {a : Arr} (sub : {.reg .TSK_CONV_SAT} ⊆ ps) : State.Keeps ps (execConvClrSat g a) :=
  State.Keeps.mono (fun t => by
    exact ⟨_, rfl, by simp⟩) sub

@[simp ↓] theorem keeps_execTableClrEcc {ps : Set Part} {g : Tsk} (sub : {.reg .TSK_TABLE_ECC} ⊆ ps) : State.Keeps ps (execTableClrEcc g) :=
  State.Keeps.mono (fun t => by
    exact ⟨_, rfl, by simp [F.TSK_TABLE_ECC_CE_CNT, F.TSK_TABLE_ECC_UE_CNT]⟩) sub

/-! #### Status -/

@[simp ↓] theorem State.only_brkFault {s t : State} {ps : Set Part} {g : ℕ} {f : Fld} (sub : {.reg f.r} ∪ Part.event ⊆ ps) :
    s.Only ps (t.brkFault g f) ↔ s.Only ps t :=
  State.Only.iff (by
    unfold State.brkFault; simp [F.BRK_CFG_IRQ_FAULT]) sub (by simp)

@[simp ↓] theorem State.only_brkStage {s t : State} {ps : Set Part} {g : ℕ} {arr : ℕ} {stage : ℕ} (sub : {.reg .BRK_STATUS} ⊆ ps) :
    s.Only ps (t.brkStage g arr stage) ↔ s.Only ps t :=
  State.Only.iff (by
    unfold State.brkStage; simp [F.BRK_STATUS_STEP_ARRAY, F.BRK_STATUS_STAGE]) sub (by simp)

@[simp ↓] theorem State.only_brkCurrent {s t : State} {ps : Set Part} {g : ℕ} (sub : {.reg .BRK_ARR_CAL, .reg .BRK_STATUS} ⊆ ps) :
    s.Only ps (t.brkCurrent g) ↔ s.Only ps t :=
  State.Only.iff (by
    unfold State.brkCurrent; simp [F.BRK_ARR_CAL_STALE, F.BRK_STATUS_CURRENT]) sub (by simp)

@[simp ↓] theorem State.only_stamp {s t : State} {ps : Set Part} {g : ℕ} {a : ℕ} {temp : ℕ} {count : Bool} (sub : {.reg .BRK_ARR_CAL, .reg .BRK_ARR_TIME} ⊆ ps) :
    s.Only ps (t.stamp g a temp count) ↔ s.Only ps t :=
  State.Only.iff (by
    unfold State.stamp; simp [F.BRK_ARR_CAL_COUNT, F.BRK_ARR_CAL_TEMP, F.BRK_ARR_TIME_TIME]) sub (by simp)

@[simp ↓] theorem State.only_handToGorse {s t : State} {ps : Set Part} {g : ℕ} {a : ℕ} (sub : {.tuss g, .reg .BRK_STATUS, .reg .BRK_CAL_CNT, .reg .TSK_ARR_STATE} ∪ Part.event ⊆ ps) :
    s.Only ps (t.handToGorse g a) ↔ s.Only ps t :=
  State.Only.iff (by
    unfold State.handToGorse
    simp [F.BRK_CAL_CNT_FAULT_CNT, F.BRK_STATUS_ARRAY_FAULT]) sub (by simp)

/-! #### Windows -/

@[simp ↓] theorem State.only_putBack {s t : State} {ps : Set Part} {g : ℕ} {w : Window} (sub : {.mem, .genSets, .tuss g} ⊆ ps) (k : s.Only ps t) :
    s.Only ps (t.putBack g w) :=
  State.Only.of_sub (by
    unfold State.putBack
    refine State.only_foldl (fun u x => by simp) ?_
    split
    · exact .refl t _
    · simp) sub k

@[simp ↓] theorem State.only_countSpares {s t : State} {ps : Set Part} {g : ℕ} {a : ℕ} (sub : {.reg .BRK_ARR_CAL} ⊆ ps) :
    s.Only ps (t.countSpares g a) ↔ s.Only ps t :=
  State.Only.iff (by
    unfold State.countSpares; simp [F.BRK_ARR_CAL_SPARES]) sub (by simp)

@[simp ↓] theorem State.only_putBackAll {s t : State} {ps : Set Part} {g : ℕ} {w : Window} (sub : {.genSets, .mem, .tuss g, .reg .BRK_ARR_CAL} ⊆ ps) (k : s.Only ps t) :
    s.Only ps (t.putBackAll g w) :=
  State.Only.of_sub (by
    unfold State.putBackAll; simp) sub k

@[simp ↓] theorem State.only_abandonWindow {s t : State} {ps : Set Part} {g : ℕ} (sub : {.genSets, .mem, .tuss g, .reg .BRK_STATUS, .reg .BRK_CAL_CNT, .reg .BRK_ARR_CAL, .reg .TSK_ARR_STATE, .reg .CHN_ADM_BUDGET} ⊆ ps) (k : s.Only ps t) :
    s.Only ps (t.abandonWindow g) :=
  State.Only.of_sub (by
    unfold State.abandonWindow; dsimp only; repeat' split
    all_goals simp (disch := simp (disch := simp [F.BRK_CAL_CNT_ABANDON_CNT, F.BRK_STATUS_ABANDONED]) [F.BRK_CAL_CNT_ABANDON_CNT, F.BRK_STATUS_ABANDONED])) sub k

@[simp ↓] theorem State.only_dropPass {s t : State} {ps : Set Part} {g : ℕ} (sub : {.tuss g, .reg .BRK_DEFER, .reg .BRK_STATUS} ⊆ ps) :
    s.Only ps (t.dropPass g) ↔ s.Only ps t :=
  State.Only.iff (by
    unfold State.dropPass; simp [F.BRK_STATUS_PASS_ACTIVE, F.BRK_STATUS_OVERDUE, F.BRK_DEFER_WAIT]) sub (by simp)

@[simp ↓] theorem State.only_abortNow {s t : State} {ps : Set Part} {g : ℕ} (sub : {.genSets, .mem, .tuss g, .reg .BRK_DEFER, .reg .BRK_STATUS, .reg .BRK_CAL_CNT, .reg .BRK_ARR_CAL, .reg .TSK_ARR_STATE, .reg .CHN_ADM_BUDGET} ⊆ ps) (k : s.Only ps t) :
    s.Only ps (t.abortNow g) :=
  State.Only.of_sub (by
    unfold State.abortNow; simp) sub k

@[simp ↓] theorem State.only_latchTrig {s t : State} {ps : Set Part} {g : ℕ} (sub : {.tuss g, .reg .BRK_ARR_CAL, .reg .BRK_STATUS} ⊆ ps) :
    s.Only ps (t.latchTrig g) ↔ s.Only ps t :=
  State.Only.iff (by
    unfold State.latchTrig; simp) sub (by simp)

/-! #### Markers and clock -/

@[simp ↓] theorem State.only_firmwareWrite {s t : State} {ps : Set Part} {g : ℕ} {a : ℕ} (sub : {.reg .TSK_CONV_STATUS, .tuss g, .reg .TSK_CONV_CFG, .reg .TSK_ARR_STATE, .reg .BRK_STATUS, .reg .TSK_ARR_WRITE} ∪ Part.read ⊆ ps) (k : s.Only ps t) :
    s.Only ps (t.firmwareWrite g a) :=
  State.Only.of_sub (by
    unfold State.firmwareWrite; dsimp only; repeat' split
    all_goals simp (disch := simp (disch := simp [F.TSK_CONV_CFG_RANGE, F.TSK_CONV_CFG_MASK_EN]) [F.TSK_CONV_CFG_RANGE, F.TSK_CONV_CFG_MASK_EN])) sub k

@[simp ↓] theorem State.only_firmwareWrites {s t : State} {ps : Set Part} {g : ℕ} (sub : {.reg .TSK_CONV_STATUS, .tuss g, .reg .TSK_CONV_CFG, .reg .TSK_ARR_STATE, .reg .BRK_STATUS, .reg .TSK_ARR_WRITE} ∪ Part.read ∪ Part.tusss ⊆ ps) (k : s.Only ps t) :
    s.Only ps (t.firmwareWrites g) :=
  State.Only.of_sub (by
    unfold State.firmwareWrites; simp (disch := simp (disch := simp [F.GLB_CTX_STATE_STATE, F.GLB_CTX_PTR_PTR]) [F.GLB_CTX_STATE_STATE, F.GLB_CTX_PTR_PTR])) sub k

@[simp ↓] theorem State.only_reenableAlign {s t : State} {ps : Set Part} {g : ℕ} (sub : {.reg .TSK_CONV_STATUS, .tuss g, .reg .BRK_STATUS, .reg .TSK_ARR_STATE, .reg .TSK_CONV_CFG, .reg .TSK_ARR_WRITE} ∪ Part.read ∪ Part.tusss ⊆ ps) (k : s.Only ps t) :
    s.Only ps (t.reenableAlign g) :=
  State.Only.of_sub (by
    unfold State.reenableAlign; simp (disch := simp (disch := simp))) sub k

@[simp ↓] theorem State.only_openSwath {s t : State} {ps : Set Part} {g : ℕ} {w : ℕ} (sub : {.genSets, .mem, .tuss g, .reg .BRK_ARR_CAL, .reg .BRK_STATUS, .reg .BRK_DEFER, .reg .BRK_CAL_CNT, .reg .TSK_ARR_STATE, .reg .CHN_ADM_BUDGET} ⊆ ps) (k : s.Only ps t) :
    s.Only ps (t.openSwath g w) :=
  State.Only.of_sub (by
    unfold State.openSwath; simp [F.TSK_ARR_STATE_PASS_THROUGH]) sub k

@[simp ↓] theorem State.only_marker {s t : State} {ps : Set Part} {g : ℕ} {w : ℕ} (sub : {.irq, .latent, .chans, .mem, .out, .flits, .free, .genSets} ∪ Part.tusss ∪ Part.regs ⊆ ps) (k : s.Only ps t) :
    s.Only ps (t.marker g w) :=
  State.Only.of_sub (by
    unfold State.marker; dsimp only; repeat' split
    all_goals simp (disch := simp (disch := simp))) sub k

@[simp ↓] theorem State.only_markerLate {s t : State} {ps : Set Part} {g : ℕ} (sub : {.genSets, .mem, .tuss g, .reg .BRK_ARR_CAL, .reg .BRK_STATUS, .reg .BRK_DEFER, .reg .BRK_CAL_CNT, .reg .TSK_ARR_STATE, .reg .CHN_ADM_BUDGET, .reg .TSK_CLK_STATUS, .reg .TSK_QUAR_CAUSE} ⊆ ps) (k : s.Only ps t) :
    s.Only ps (t.markerLate g) :=
  State.Only.of_sub (by
    unfold State.markerLate; dsimp only; repeat' split
    all_goals simp (disch := simp (disch := simp [F.TSK_CLK_STATUS_MARKER_LATE, F.TSK_CLK_STATUS_LATE_CNT]) [F.TSK_CLK_STATUS_MARKER_LATE, F.TSK_CLK_STATUS_LATE_CNT])) sub k

/-! #### Tasks arrive -/

@[simp ↓] theorem State.only_enqueue {s t : State} {ps : Set Part} {g : ℕ} {ws : List ℕ} (sub : {.jobs, .tuss g, .reg .TSK_SEQ_ERR, .reg .TSK_SEQ_STATUS} ⊆ ps) :
    s.Only ps (t.enqueue g ws) ↔ s.Only ps t :=
  State.Only.iff (by
    unfold State.enqueue; simp [F.GRS_CFG_FRACTION]) sub (by simp)

/-! #### Quarantine and re-enable -/

@[simp ↓] theorem State.only_taskArrive {s t : State} {ps : Set Part} {g : ℕ} {ws : List ℕ} (sub : {.flight, .jobs, .tuss g, .reg .TSK_SEQ_ERR, .reg .TSK_SEQ_STATUS} ⊆ ps) :
    s.Only ps (t.taskArrive g ws) ↔ s.Only ps t :=
  State.Only.iff (by
    unfold State.taskArrive; repeat' split
    all_goals simp) sub (by simp)

@[simp ↓] theorem State.only_quarantine {s t : State} {ps : Set Part} {g : ℕ} (sub : {.ctxs, .genSets, .mem, .jobs, .tuss g, .reg .BRK_DEFER, .reg .BRK_STATUS, .reg .BRK_CAL_CNT, .reg .BRK_ARR_CAL, .reg .TSK_ARR_STATE, .reg .CHN_ADM_BUDGET, .reg .TSK_SEQ_ERR, .reg .TSK_SEQ_STATUS, .reg .GRS_LANE_STATUS, .reg .TSK_STATE} ⊆ ps) (k : s.Only ps t) :
    s.Only ps (t.quarantine g) :=
  State.Only.of_sub (by
    unfold State.quarantine; simp (disch := simp (disch := simp [F.TSK_QUAR_CAUSE_CAUSE, F.TSK_STATE_STATE, F.GRS_LANE_STATUS_CSUM_REFRESH]) [F.TSK_QUAR_CAUSE_CAUSE, F.TSK_STATE_STATE, F.GRS_LANE_STATUS_CSUM_REFRESH]) [F.TSK_QUAR_CAUSE_CAUSE]) sub k

@[simp ↓] theorem State.only_reenable {s t : State} {ps : Set Part} {g : ℕ} {identity : Bool} (sub : {.tuss g, .reg .TSK_QUAR_CAUSE, .reg .TSK_STATE, .reg .TSK_CTRL_STATUS} ⊆ ps) :
    s.Only ps (t.reenable g identity) ↔ s.Only ps t :=
  State.Only.iff (by
    unfold State.reenable; simp [F.TSK_CLK_STATUS_LOCKED, F.TSK_STATE_STATE, F.TSK_QUAR_CAUSE_CAUSE, F.TSK_CTRL_STATUS_REENABLE_REJECT]) sub (by simp)

/-! #### Exchange with the reserve -/

@[simp ↓] theorem State.only_swapSlot {s t : State} {ps : Set Part} {g : ℕ} {k₀ : ℕ} (sub : {.tuss g} ∪ Part.regs ⊆ ps) :
    s.Only ps (t.swapSlot g k₀) ↔ s.Only ps t :=
  State.Only.iff (by
    unfold State.swapSlot; simp [F.TSK_ARRAY_ROLE_RESERVE_PHYS, F.TSK_ARR_STATE_ROLE, F.TSK_ARR_STATE_PASS_THROUGH, F.TSK_SWAP_LAST_SLOT, F.TSK_SWAP_LAST_FROM, F.TSK_SWAP_LAST_TO, F.TSK_SWAP_SWAP_CNT, roleFld]) sub (by simp)

@[simp ↓] theorem State.only_afterSwap {s t : State} {ps : Set Part} {g : ℕ} {k₀ : ℕ} {bracken : Bool} (sub : {.tuss g, .reg .BRK_STATUS, .reg .CHN_ADM_BUDGET, .reg .TSK_ARR_STATE} ⊆ ps) :
    s.Only ps (t.afterSwap g k₀ bracken) ↔ s.Only ps t :=
  State.Only.iff (by
    unfold State.afterSwap; dsimp only; repeat' split
    all_goals simp (disch := simp (disch := simp))) sub (by simp)

@[simp ↓] theorem State.only_swapRefused {s t : State} {ps : Set Part} {g : ℕ} {bracken : Bool} (sub : {.genSets, .mem, .tuss g, .reg .BRK_STATUS, .reg .BRK_CAL_CNT, .reg .BRK_ARR_CAL, .reg .TSK_ARR_STATE, .reg .CHN_ADM_BUDGET} ⊆ ps) (k : s.Only ps t) :
    s.Only ps (t.swapRefused g bracken) :=
  State.Only.of_sub (by
    unfold State.swapRefused; simp) sub k

@[simp ↓] theorem State.only_tryExchange {s t : State} {ps : Set Part} {g : ℕ} (sub : {.genSets, .mem, .tuss g} ∪ Part.regs ⊆ ps) (k : s.Only ps t) :
    s.Only ps (t.tryExchange g) :=
  State.Only.of_sub (by
    unfold State.tryExchange; dsimp only; repeat' split
    all_goals simp (disch := simp (disch := simp [F.TSK_ARR_STATE_CONTEXT, F.TSK_SWAP_SWAP_REFUSED, F.TSK_SWAP_DEFER_CNT]) [F.TSK_ARR_STATE_CONTEXT, F.TSK_SWAP_SWAP_REFUSED, F.TSK_SWAP_DEFER_CNT])) sub k

/-! #### The commands -/

@[simp ↓] theorem keeps_execSwathMarker {ps : Set Part} {g : Tsk} {w : BitVec 51} (sub : {.irq, .latent, .chans, .mem, .out, .flits, .free, .genSets} ∪ Part.tusss ∪ Part.regs ⊆ ps) : State.Keeps ps (execSwathMarker g w) :=
  State.Keeps.mono (fun t => by
    exact ⟨_, rfl, by simp⟩) sub

@[simp ↓] theorem keeps_execMarkerLate {ps : Set Part} {g : Tsk} (sub : {.genSets, .mem, .tuss g, .reg .BRK_ARR_CAL, .reg .BRK_STATUS, .reg .BRK_DEFER, .reg .BRK_CAL_CNT, .reg .TSK_ARR_STATE, .reg .CHN_ADM_BUDGET, .reg .TSK_CLK_STATUS, .reg .TSK_QUAR_CAUSE} ⊆ ps) : State.Keeps ps (execMarkerLate g) :=
  State.Keeps.mono (fun t => by
    exact ⟨_, rfl, by simp⟩) sub

@[simp ↓] theorem keeps_execTussockLockLoss {ps : Set Part} {g : Tsk} (sub : {.tuss g, .reg .TSK_QUAR_CAUSE, .reg .TSK_CLK_STATUS} ⊆ ps) : State.Keeps ps (execTussockLockLoss g) :=
  State.Keeps.mono (fun t => by
    exact ⟨_, rfl, by simp [F.TSK_CLK_STATUS_LOCKED, F.TSK_CLK_STATUS_LOCK_LOST]⟩) sub

@[simp ↓] theorem keeps_execTussockPllLock {ps : Set Part} {g : Tsk} (sub : {.reg .TSK_CLK_STATUS} ⊆ ps) : State.Keeps ps (execTussockPllLock g) :=
  State.Keeps.mono (fun t => by
    exact ⟨_, rfl, by simp [F.PWR_STATUS_STATE, F.TSK_CLK_STATUS_LOCKED]⟩) sub

@[simp ↓] theorem keeps_execTileTaskEnqueue {ps : Set Part} {g : Tsk} {w0 : Word} {w1 : Word} {w2 : Word} {w3 : Word} {w4 : Word} {w5 : Word} {w6 : Word} {w7 : Word} (sub : {.flight, .jobs, .tuss g, .reg .TSK_SEQ_ERR, .reg .TSK_SEQ_STATUS} ⊆ ps) : State.Keeps ps (execTileTaskEnqueue g w0 w1 w2 w3 w4 w5 w6 w7) :=
  State.Keeps.mono (fun t => by
    exact ⟨_, rfl, by simp⟩) sub

@[simp ↓] theorem keeps_execQuarantine {ps : Set Part} {g : Tsk} (sub : {.ctxs, .genSets, .mem, .jobs, .tuss g, .reg .BRK_DEFER, .reg .BRK_STATUS, .reg .BRK_CAL_CNT, .reg .BRK_ARR_CAL, .reg .TSK_ARR_STATE, .reg .CHN_ADM_BUDGET, .reg .TSK_SEQ_ERR, .reg .TSK_SEQ_STATUS, .reg .GRS_LANE_STATUS, .reg .TSK_STATE} ⊆ ps) : State.Keeps ps (execQuarantine g) :=
  State.Keeps.mono (fun t => by
    exact ⟨_, rfl, by simp⟩) sub

@[simp ↓] theorem keeps_execTskQuarantineWrite {ps : Set Part} {g : Tsk} (sub : {.tuss g, .reg .TSK_QUAR_CAUSE} ⊆ ps) : State.Keeps ps (execTskQuarantineWrite g) :=
  State.Keeps.mono (fun t => by
    exact ⟨_, rfl, by simp⟩) sub

@[simp ↓] theorem keeps_execTskReenable {ps : Set Part} {g : Tsk} {identity : Bool} (sub : {.tuss g, .reg .TSK_QUAR_CAUSE, .reg .TSK_STATE, .reg .TSK_CTRL_STATUS} ⊆ ps) : State.Keeps ps (execTskReenable g identity) :=
  State.Keeps.mono (fun t => by
    exact ⟨_, rfl, by simp⟩) sub

@[simp ↓] theorem keeps_execReenableService {ps : Set Part} {g : Tsk} (sub : {.reg .TSK_STATE} ⊆ ps) : State.Keeps ps (execReenableService g) :=
  State.Keeps.mono (fun t => by
    exact ⟨_, rfl, by simp [F.TSK_STATE_STATE]⟩) sub

@[simp ↓] theorem State.only_clrSeq {s t : State} {ps : Set Part} {g : ℕ} (sub : {.reg .TSK_SEQ_STATUS, .reg .TSK_SEQ_ERR} ⊆ ps) :
    s.Only ps (t.clrSeq g) ↔ s.Only ps t :=
  State.Only.iff (by
    unfold State.clrSeq; simp [F.TSK_SEQ_ERR_MISSED_CNT, F.TSK_SEQ_ERR_CONFLICT_CNT, F.TSK_SEQ_ERR_OVERFLOW_CNT, F.TSK_SEQ_ERR_BAD_CNT, F.TSK_SEQ_STATUS_PEAK]) sub (by simp)

@[simp ↓] theorem keeps_execTskClrSeq {ps : Set Part} {g : Tsk} (sub : {.reg .TSK_SEQ_STATUS, .reg .TSK_SEQ_ERR} ⊆ ps) : State.Keeps ps (execTskClrSeq g) :=
  State.Keeps.mono (fun t => by
    exact ⟨_, rfl, by simp⟩) sub

@[simp ↓] theorem keeps_execBankClrEcc {ps : Set Part} {g : Tsk} (sub : {.reg .TSK_BANK_ECC} ⊆ ps) : State.Keeps ps (execBankClrEcc g) :=
  State.Keeps.mono (fun t => by
    exact ⟨_, rfl, by simp [F.TSK_BANK_ECC_CE_CNT, F.TSK_BANK_ECC_UE_CNT]⟩) sub

@[simp ↓] theorem State.only_identityTables {s t : State} {ps : Set Part} {g : ℕ} (sub : {.mem} ⊆ ps) (k : s.Only ps t) :
    s.Only ps (t.identityTables g) :=
  State.Only.of_sub (by
    unfold State.identityTables; simp (disch := simp (disch := simp))) sub k

@[simp ↓] theorem keeps_execTableInitDone {ps : Set Part} {g : Tsk} (sub : {.mem, .tuss g, .reg .TSK_CONV_STATUS} ⊆ ps) : State.Keeps ps (execTableInitDone g) :=
  State.Keeps.mono (fun t => by
    exact ⟨_, rfl, by simp [F.TSK_CONV_STATUS_TABLE_INIT_DONE]⟩) sub

/-! #### Reads and writes of a job's structures -/

@[simp ↓] theorem State.only_updArea {s t : State} {ps : Set Part} {a : Area} (sub : {.areas} ⊆ ps) :
    s.Only ps (t.updArea a) ↔ s.Only ps t :=
  State.Only.iff (by
    unfold State.updArea; simp) sub (by simp)

@[simp ↓] theorem State.only_openArea {s t : State} {ps : Set Part} {job : ℕ} {cmd : ℕ} {g : ℕ} {rq : ℕ} {acc : ℕ} (sub : {.areas, .jobs, .recs} ∪ Part.read ⊆ ps) (k : s.Only ps t) :
    s.Only ps (t.openArea job cmd g rq acc).1 :=
  State.Only.of_sub (by
    generalize hf : State.openArea = f; delta State.openArea at hf; subst hf
    change t.OnlyFst _ _
    beta_reduce
    extract_lets n a0
    clear_value a0
    split
    · rename_i heq
      exact .of_fst heq (by simp)
    · rename_i heq
      refine .trans (.of_fst heq (by simp)) ?_
      clear heq
      split
      · simp
      · split
        · rename_i heq
          exact .of_fst heq (by simp)
        · rename_i heq
          refine .trans (.of_fst heq (by simp)) ?_
          clear heq
          split
          · rename_i heq
            exact .of_fst heq (by simp)
          · rename_i heq
            refine .trans (.of_fst heq (by simp)) ?_
            clear heq
            split
            · rename_i heq
              exact .of_fst heq (by simp)
            · rename_i heq
              refine .trans (.of_fst heq (by simp)) ?_
              clear heq
              extract_lets head
              repeat' split
              all_goals simp) sub k

/-! #### Accumulators -/

@[simp ↓] theorem State.only_tuftWrite {s t : State} {ps : Set Part} {addr : ℕ} {data : List Byte} (sub : {.mem, .latent, .out, .reg .TSK_CONV_STATUS} ∪ Part.tusss ⊆ ps) (k : s.Only ps t) :
    s.Only ps (t.tuftWrite addr data) :=
  State.Only.of_sub (by
    unfold State.tuftWrite; simp) sub k

/-- `State.rqRead` with the reader of a block left open: no step of a proof about it can then evaluate the reader. -/
def State.rqReadBy (rb : State → ℕ → ℕ → ℕ → ℕ → ℕ → Ecc → Option (ℕ × ℕ) → Bool → State × Option Block)
    (s : State) (cmd : ℕ) (a : Area) : List ℕ → State × Bool
  | [] => (s, true)
  | i :: is =>
    match rb s (chanOf a.g) a.job cmd a.g (bankAddr a.g a.rq + i * 256) .ok none true with
    | (s, none) => (s, false)
    | (s, some _) => s.rqReadBy rb cmd a is

theorem State.rqRead_eq : State.rqRead = State.rqReadBy @State.readBlock := by
  delta State.rqRead State.rqRead._f State.rqReadBy State.rqReadBy._f; rfl

theorem State.only_rqReadBy {rb : State → ℕ → ℕ → ℕ → ℕ → ℕ → Ecc → Option (ℕ × ℕ) → Bool → State × Option Block}
    {qs : Set Part} {t : State} {cmd : ℕ} {a : Area} {xs : List ℕ}
    (h : ∀ (t : State) addr, t.Only qs (rb t (chanOf a.g) a.job cmd a.g addr .ok none true).1) :
    t.Only qs (t.rqReadBy rb cmd a xs).1 := by
  induction xs generalizing t with
  | nil => exact .refl t _
  | cons x xs ih =>
    have h := h t (bankAddr a.g a.rq + x * 256)
    unfold rqReadBy
    revert h
    rcases rb t (chanOf a.g) a.job cmd a.g (bankAddr a.g a.rq + x * 256) .ok none true with ⟨u, _ | b⟩
    · exact id
    · exact fun h => h.trans ih

@[simp ↓] theorem State.only_rqRead {s t : State} {ps : Set Part} {cmd : ℕ} {a : Area} {xs : List ℕ} (sub : {.jobs} ∪ Part.read ⊆ ps) (k : s.Only ps t) :
    s.Only ps (t.rqRead cmd a xs).1 :=
  State.Only.of_sub (by
    rw [State.rqRead_eq]
    exact State.only_rqReadBy fun t addr => by simp) sub k

@[simp ↓] theorem State.only_openGroup {s t : State} {ps : Set Part} {cmd : ℕ} {a : Area} {k₀ : ℕ} (sub : {.jobs} ∪ Part.read ⊆ ps) (k : s.Only ps t) :
    s.Only ps (t.openGroup cmd a k₀).1 :=
  State.Only.of_sub (by
    generalize hf : State.openGroup = f; delta State.openGroup at hf; subst hf
    change t.OnlyFst _ _
    beta_reduce
    extract_lets addr
    clear_value addr
    split
    · rename_i heq
      exact .of_fst heq (by simp)
    · rename_i heq
      refine .trans (.of_fst heq (by simp)) ?_
      clear heq
      split
      · split
        all_goals
          rename_i heq
          exact .of_fst heq (by simp)
      · exact State.only_rqRead subset_rfl (.refl _ _)) sub k

/-- `State.openGroups` with the opener of a group left open. -/
def State.openGroupsBy (op : State → ℕ → Area → ℕ → State × Bool) (s : State) (cmd : ℕ) (a : Area) : List ℕ → State × Bool
  | [] => (s, true)
  | k :: ks =>
    match op s cmd a k with
    | (s, false) => (s, false)
    | (s, true) => s.openGroupsBy op cmd a ks

theorem State.openGroups_eq : State.openGroups = State.openGroupsBy State.openGroup := by
  delta State.openGroups State.openGroups._f State.openGroupsBy State.openGroupsBy._f; rfl

theorem State.only_openGroupsBy {op : State → ℕ → Area → ℕ → State × Bool} {qs : Set Part} {t : State} {cmd : ℕ} {a : Area}
    {xs : List ℕ} (h : ∀ (t : State) x, t.Only qs (op t cmd a x).1) : t.Only qs (t.openGroupsBy op cmd a xs).1 := by
  induction xs generalizing t with
  | nil => exact .refl t _
  | cons x xs ih =>
    have h := h t x
    unfold openGroupsBy
    revert h
    rcases op t cmd a x with ⟨u, _ | _⟩
    · exact id
    · exact fun h => h.trans ih

@[simp ↓] theorem State.only_openGroups {s t : State} {ps : Set Part} {cmd : ℕ} {a : Area} {xs : List ℕ} (sub : {.jobs} ∪ Part.read ⊆ ps) (k : s.Only ps t) :
    s.Only ps (t.openGroups cmd a xs).1 :=
  State.Only.of_sub (by
    rw [State.openGroups_eq]
    exact State.only_openGroupsBy fun t x => by simp) sub k

@[simp ↓] theorem State.only_beginGroup {s t : State} {ps : Set Part} {a : Area} {k₀ : ℕ} (sub : {.areas, .mem, .latent, .out, .reg .TSK_CONV_STATUS} ∪ Part.tusss ⊆ ps) (k : s.Only ps t) :
    s.Only ps (t.beginGroup a k₀).1 :=
  State.Only.of_sub (by
    unfold State.beginGroup; simp) sub k

@[simp ↓] theorem State.only_putAcc {s t : State} {ps : Set Part} {a : Area} {e : ℕ} {w : ℕ} (sub : {.mem, .latent, .out, .reg .TSK_CONV_STATUS} ∪ Part.tusss ⊆ ps) (k : s.Only ps t) :
    s.Only ps (t.putAcc a e w) :=
  State.Only.of_sub (by
    unfold State.putAcc; simp) sub k

/-! #### Productions -/

@[simp ↓] theorem State.only_updProd {s t : State} {ps : Set Part} {p : Production} (sub : {.prods} ⊆ ps) :
    s.Only ps (t.updProd p) ↔ s.Only ps t :=
  State.Only.iff (by
    unfold State.updProd; simp) sub (by simp)

@[simp ↓] theorem State.only_putRecord {s t : State} {ps : Set Part} {job : ℕ} {cmd : ℕ} {unit : ℕ} {addr : ℕ} {bytes : List Byte} (sub : {.jobs} ∪ Part.gwrite ⊆ ps) (k : s.Only ps t) :
    s.Only ps (t.putRecord job cmd unit addr bytes).1 :=
  State.Only.of_sub (by
    unfold State.putRecord; split
    · rename_i heq
      exact .of_fst heq (by simp)
    · rename_i heq
      refine .trans (.of_fst heq (by simp)) ?_
      simp) sub k

@[simp ↓] theorem State.only_startProd {s t : State} {ps : Set Part} {cmd : ℕ} {a : Area} (sub : {.reg .TSK_CONV_STATUS, .prods, .jobs} ∪ Part.read ∪ Part.tusss ⊆ ps) (k : s.Only ps t) :
    s.Only ps (t.startProd cmd a).1 :=
  State.Only.of_sub (by
    unfold State.startProd; dsimp only; repeat' split
    all_goals
      try simp only [Prod.ext_iff] at *
      try cases_type* And
      subst_vars
      simp (disch := simp (disch := simp [*]) [*]) [*]) sub k

@[simp ↓] theorem State.only_finishProd {s t : State} {ps : Set Part} {cmd : ℕ} {unit : ℕ} {p : Production} {r : List Byte} {small : Bool} {large : Bool} {na : Bool} (sub : {.jobs, .prods} ∪ Part.gwrite ⊆ ps) (k : s.Only ps t) :
    s.Only ps (t.finishProd cmd unit p r small large na) :=
  State.Only.of_sub (by
    unfold State.finishProd; simp (disch := simp (disch := simp))) sub k

@[simp ↓] theorem State.only_judgeProd {s t : State} {ps : Set Part} {cmd : ℕ} {unit : ℕ} {p : Production} (sub : {.reg .TSK_CONV_STATUS, .jobs, .prods} ∪ Part.read ∪ Part.tusss ⊆ ps) (k : s.Only ps t) :
    s.Only ps (t.judgeProd cmd unit p) :=
  State.Only.of_sub (by
    unfold State.judgeProd; dsimp only; repeat' split
    all_goals
      try simp only [Prod.ext_iff] at *
      try cases_type* And
      subst_vars
      simp (disch := simp (disch := simp [*]) [*]) [*]) sub k

/-! #### Requantisation and output -/

/-- `State.outBlock` with its accesses to memory left open. -/
def State.outBlockBy (may : State → ℕ → ℕ → ℕ → ℕ → Bool → ℕ → ℕ → State × Bool) (put : State → ℕ → Block → State)
    (s : State) (cmd : ℕ) (a : Area) (i : ℕ) : State :=
  let es := a.outElems i
  if es.all (fun e => a.codes.any fun x => x.1 == e) then
    let addr := bankAddr a.g (a.head.outBlock + i)
    match may s (chanOf a.g) a.job cmd a.g true addr 256 with
    | (s, false) => s
    | (s, true) =>
      let b := Block.fresh (a.outBytes i) a.head.outTid (a.head.outSeq0 + i)
      let bad := a.codes.any fun x => es.contains x.1 && x.2.2
      (put s addr (if bad then b.poison else b)).provNote a.head.outTid a.job none
  else s

theorem State.outBlock_eq : State.outBlock = State.outBlockBy State.mayAccess State.putBlock := by
  delta State.outBlock State.outBlockBy
  generalize State.mayAccess = may, State.putBlock = put
  rfl

theorem State.only_outBlockBy {may : State → ℕ → ℕ → ℕ → ℕ → Bool → ℕ → ℕ → State × Bool} {put : State → ℕ → Block → State}
    {cmd : ℕ} {a : Area} {i : ℕ} {s : State} (h : ∀ (s : State) addr, s.Only ({.jobs, .provs, .nextProv, .mem, .latent, .out, .reg .GLB_RGN_FAULT_INFO, .reg .GLB_RGN_FAULT_ADDR, .reg .GRS_STATUS, .reg .GRS_PROV, .reg .TSK_CONV_STATUS} ∪ Part.event ∪ Part.tusss) (may s (chanOf a.g) a.job cmd a.g true addr 256).1)
    (hp : ∀ (s : State) addr b, s.Only ({.jobs, .provs, .nextProv, .mem, .latent, .out, .reg .GLB_RGN_FAULT_INFO, .reg .GLB_RGN_FAULT_ADDR, .reg .GRS_STATUS, .reg .GRS_PROV, .reg .TSK_CONV_STATUS} ∪ Part.event ∪ Part.tusss) (put s addr b)) : s.Only ({.jobs, .provs, .nextProv, .mem, .latent, .out, .reg .GLB_RGN_FAULT_INFO, .reg .GLB_RGN_FAULT_ADDR, .reg .GRS_STATUS, .reg .GRS_PROV, .reg .TSK_CONV_STATUS} ∪ Part.event ∪ Part.tusss) (s.outBlockBy may put cmd a i) := by
  unfold State.outBlockBy
  extract_lets es addr b bad
  split
  · have h := h s addr
    revert h
    rcases may s (chanOf a.g) a.job cmd a.g true addr 256 with ⟨u, _ | _⟩
    · exact id
    · refine fun h => h.trans ?_
      dsimp only
      exact (State.only_provNote (by simp)).2 (hp _ _ _)
  · exact .refl s _

@[simp ↓] theorem State.only_outBlock {s t : State} {ps : Set Part} {cmd : ℕ} {a : Area} {i : ℕ} (sub : {.jobs, .provs, .nextProv, .mem, .latent, .out, .reg .GLB_RGN_FAULT_INFO, .reg .GLB_RGN_FAULT_ADDR, .reg .GRS_STATUS, .reg .GRS_PROV, .reg .TSK_CONV_STATUS} ∪ Part.event ∪ Part.tusss ⊆ ps) (k : s.Only ps t) :
    s.Only ps (t.outBlock cmd a i) :=
  State.Only.of_sub (by
    rw [State.outBlock_eq]
    exact State.only_outBlockBy (fun t a => by simp) (fun t a b => by simp)) sub k

@[simp ↓] theorem State.only_inScale {s t : State} {ps : Set Part} {cmd : ℕ} {a : Area} (sub : {.jobs} ∪ Part.read ⊆ ps) (k : s.Only ps t) :
    s.Only ps (t.inScale cmd a).1 :=
  State.Only.of_sub (by
    generalize hf : State.inScale = f; delta State.inScale at hf; subst hf
    change t.OnlyFst _ _
    beta_reduce
    rcases a.sx with _ | x
    · have h : t.Only ({.jobs} ∪ Part.read) (t.readBytes (chanOf a.g) a.job cmd a.g a.head.inRec 32).1 := by simp
      revert h
      rcases t.readBytes (chanOf a.g) a.job cmd a.g a.head.inRec 32 with ⟨u, _ | r⟩
      · exact id
      · exact id
    · exact .refl t _) sub k

@[simp ↓] theorem State.only_requantGroup {s t : State} {ps : Set Part} {job : ℕ} {cmd : ℕ} {g : ℕ} {rq : ℕ} {k₀ : ℕ} (sub : {.reg .TSK_CONV_STATUS, .tuss g, .jobs, .prods, .areas, .provs, .nextProv, .reg .GRS_STATUS, .reg .GRS_PROV} ∪ Part.read ∪ Part.tusss ⊆ ps) (k : s.Only ps t) :
    s.Only ps (t.requantGroup job cmd g rq k₀) :=
  State.Only.of_sub (by
    generalize hf : State.requantGroup = f; delta State.requantGroup at hf; subst hf
    beta_reduce
    rcases t.area job g rq with _ | a
    · exact .refl t _
    dsimp only
    split
    · exact .refl t _
    have h : t.Only ({.reg .TSK_CONV_STATUS, .tuss g, .jobs, .prods, .areas, .provs, .nextProv, .reg .GRS_STATUS, .reg .GRS_PROV} ∪ Part.read ∪ Part.tusss) (t.rqRead cmd a (a.paramBlocks (a.groupElems k₀))).1 := by simp
    revert h
    rcases t.rqRead cmd a (a.paramBlocks (a.groupElems k₀)) with ⟨u, _ | _⟩
    · exact id
    refine fun h => h.trans ?_
    dsimp only
    have h : u.Only ({.reg .TSK_CONV_STATUS, .tuss g, .jobs, .prods, .areas, .provs, .nextProv, .reg .GRS_STATUS, .reg .GRS_PROV} ∪ Part.read ∪ Part.tusss) (u.inScale cmd a).1 := by simp
    revert h
    rcases u.inScale cmd a with ⟨v, _ | sx⟩
    · exact id
    refine fun h => h.trans ?_
    dsimp only
    have h : v.Only ({.reg .TSK_CONV_STATUS, .tuss g, .jobs, .prods, .areas, .provs, .nextProv, .reg .GRS_STATUS, .reg .GRS_PROV} ∪ Part.read ∪ Part.tusss) (v.startProd cmd a).1 := by simp
    revert h
    rcases v.startProd cmd a with ⟨w, _ | p⟩
    · exact id
    refine fun h => h.trans ?_
    dsimp only
    split
    · simp
    · generalize w.emit _ p sx _ = ap
      have hx : w.Only ({.reg .TSK_CONV_STATUS, .tuss g, .jobs, .prods, .areas, .provs, .nextProv, .reg .GRS_STATUS, .reg .GRS_PROV} ∪ Part.read ∪ Part.tusss) ((w.updArea ap.1).updProd ap.2) := by simp
      generalize (w.updArea ap.1).updProd ap.2 = x at hx ⊢
      refine hx.trans ?_
      have hy : x.Only ({.reg .TSK_CONV_STATUS, .tuss g, .jobs, .prods, .areas, .provs, .nextProv, .reg .GRS_STATUS, .reg .GRS_PROV} ∪ Part.read ∪ Part.tusss) ((ap.1.blocksFor (a.groupElems k₀)).foldl (fun s i => s.outBlock cmd ap.1 i) x) :=
        State.only_foldl (fun u i => by simp) (.refl x _)
      exact hy.trans (by simp)) sub k

@[simp ↓] theorem State.only_addOpened {s t : State} {ps : Set Part} {job : ℕ} {cmd : ℕ} {a : Area} {ks : List ℕ} {ds : List (ℕ × ℤ × Bool × Bool)} {dig : Bool} (sub : {.reg .TSK_CONV_STATUS, .areas, .jobs, .prods, .provs, .nextProv, .reg .GRS_LANE_STATUS, .reg .GRS_LANE_CNT, .reg .GRS_ARB_CNT, .reg .GRS_STATUS, .reg .TSK_QUAR_CAUSE, .reg .GRS_PROV} ∪ Part.read ∪ Part.tusss ⊆ ps) (k : s.Only ps t) :
    s.Only ps (t.addOpened job cmd a ks ds dig) :=
  State.Only.of_sub (by
    generalize hf : State.addOpened = f; delta State.addOpened at hf; subst hf
    beta_reduce
    generalize hb : ks.foldl (fun (sa : State × Area) k => sa.1.beginGroup sa.2 k) (t, a) = b
    have h : t.Only ({.reg .TSK_CONV_STATUS, .areas, .jobs, .prods, .provs, .nextProv, .reg .GRS_LANE_STATUS, .reg .GRS_LANE_CNT, .reg .GRS_ARB_CNT, .reg .GRS_STATUS, .reg .TSK_QUAR_CAUSE, .reg .GRS_PROV} ∪ Part.read ∪ Part.tusss) b.1 :=
      hb ▸ State.only_foldl_fst (fun u x h => h.trans (State.only_beginGroup (by simp) (.refl u.1 _))) (.refl t _)
    clear hb
    rcases b with ⟨u, a'⟩
    refine .trans h (State.only_foldl (fun u x => by simp) ?_)
    have hd : u.Only ({.reg .TSK_CONV_STATUS, .areas, .jobs, .prods, .provs, .nextProv, .reg .GRS_LANE_STATUS, .reg .GRS_LANE_CNT, .reg .GRS_ARB_CNT, .reg .GRS_STATUS, .reg .TSK_QUAR_CAUSE, .reg .GRS_PROV} ∪ Part.read ∪ Part.tusss) (ds.foldl (fun s (x : ℕ × ℤ × Bool × Bool) =>
        let w := s.accWord a' x.1
        s.putAcc a' x.1 (accOf (accSum w + x.2.1) (accSat w || x.2.2.1) (accPoison w || x.2.2.2) (accCount w + 1))) u) :=
      State.only_foldl (fun v x => by simp) (.refl u _)
    dsimp only
    split
    · exact .trans hd (State.only_foldl (fun v e => by simp) (by simp))
    · exact hd) sub k

@[simp ↓] theorem State.only_addDelivery {s t : State} {ps : Set Part} {job : ℕ} {cmd : ℕ} {a : Area} {ds : List (ℕ × ℤ × Bool × Bool)} {dig : Bool} (sub : {.reg .TSK_CONV_STATUS, .jobs, .areas, .prods, .provs, .nextProv, .reg .GRS_LANE_STATUS, .reg .GRS_LANE_CNT, .reg .GRS_ARB_CNT, .reg .GRS_STATUS, .reg .TSK_QUAR_CAUSE, .reg .GRS_PROV} ∪ Part.read ∪ Part.tusss ⊆ ps) (k : s.Only ps t) :
    s.Only ps (t.addDelivery job cmd a ds dig) :=
  State.Only.of_sub (by
    unfold State.addDelivery; dsimp only; repeat' split
    all_goals
      try simp only [Prod.ext_iff] at *
      try cases_type* And
      subst_vars
      simp (disch := simp (disch := simp [*]) [*]) [*]) sub k

@[simp ↓] theorem State.only_deliver {s t : State} {ps : Set Part} {src : ℕ} {p : Partial} {dig : Bool} (sub : {.reg .TSK_CONV_STATUS, .jobs, .areas, .recs, .prods, .provs, .nextProv, .reg .GRS_LANE_STATUS, .reg .GRS_LANE_CNT, .reg .GRS_ARB_CNT, .reg .GRS_STATUS, .reg .TSK_QUAR_CAUSE, .reg .GRS_PROV} ∪ Part.read ∪ Part.tusss ⊆ ps) (k : s.Only ps t) :
    s.Only ps (t.deliver src p dig) :=
  State.Only.of_sub (by
    unfold State.deliver; dsimp only; repeat' split
    all_goals
      try simp only [Prod.ext_iff] at *
      try cases_type* And
      subst_vars
      simp (disch := simp (disch := simp [*]) [*]) [*]) sub k

/-! #### The commands -/

@[simp ↓] theorem keeps_execPartialSumDelivery {ps : Set Part} {g : Tsk} {digFail : Bool} (sub : {.reg .TSK_CONV_STATUS, .tuss g, .jobs, .areas, .recs, .prods, .provs, .nextProv, .reg .GRS_LANE_STATUS, .reg .GRS_LANE_CNT, .reg .GRS_ARB_CNT, .reg .GRS_STATUS, .reg .TSK_QUAR_CAUSE, .reg .GRS_PROV} ∪ Part.read ∪ Part.tusss ⊆ ps) : State.Keeps ps (execPartialSumDelivery g digFail) :=
  State.Keeps.mono (fun t => by
    refine ⟨_, rfl, ?_⟩
    simp only [State.only_ifT]
    repeat' split
    all_goals simp (disch := simp (disch := simp))) sub

@[simp ↓] theorem State.only_rerun {s t : State} {ps : Set Part} {p : Production} {scale : ℕ} (sub : {.areas, .prods} ⊆ ps) :
    s.Only ps (t.rerun p scale) ↔ s.Only ps t :=
  State.Only.iff (by
    unfold State.rerun; simp) sub (by simp)

@[simp ↓] theorem State.only_rerunDue {s t : State} {ps : Set Part} {id : ℕ} (sub : {.areas, .prods} ⊆ ps) :
    s.Only ps (t.rerunDue id) ↔ s.Only ps t :=
  State.Only.iff (by
    unfold State.rerunDue; repeat' split
    all_goals simp) sub (by simp)

@[simp ↓] theorem keeps_execRecomputeRerun {ps : Set Part} {r : BitVec 48} (sub : {.areas, .prods} ⊆ ps) : State.Keeps ps (execRecomputeRerun r) :=
  State.Keeps.mono (fun t => by
    refine ⟨_, rfl, ?_⟩
    repeat' split
    all_goals simp (disch := simp (disch := simp))) sub

/-! #### Calibrate operations -/

@[simp ↓] theorem State.only_calVector {s t : State} {ps : Set Part} {g : ℕ} {a : ℕ} {c : CalRun} (sub : {.free, .tuss g} ⊆ ps) :
    s.Only ps (t.calVector g a c).1 ↔ s.Only ps t :=
  State.Only.iff (by
    unfold State.calVector; simp) sub (by simp)

@[simp ↓] theorem State.only_calZero {s t : State} {ps : Set Part} {g : ℕ} {a : ℕ} {c : CalRun} {ops : List (List (ℕ × ℤ))} (sub : {.reg .TSK_CONV_SAT} ⊆ ps) :
    s.Only ps (t.calZero g a c ops).1 ↔ s.Only ps t :=
  State.Only.iff (by
    unfold State.calZero
    exact State.only_foldl_fst (fun x dev h => h.trans ((State.only_countSat subset_rfl).2 (.refl x.1 _))) (.refl t _)) sub (by simp)

@[simp ↓] theorem State.only_calRound {s t : State} {ps : Set Part} {g : ℕ} {a : ℕ} {k₀ : ℕ} {most : ℕ} {c : CalRun} {ops : List (List (ℕ × ℤ))} (sub : {.free, .tuss g, .reg .TSK_CONV_SAT} ⊆ ps) :
    s.Only ps (t.calRound g a k₀ most c ops).1 ↔ s.Only ps t :=
  State.Only.iff (by
    unfold State.calRound
    exact State.only_foldl_fst (fun x dev => by simp) (.refl t _)) sub (by simp)

@[simp ↓] theorem State.only_readBack {s t : State} {ps : Set Part} {g : ℕ} {a : ℕ} {k₀ : ℕ} {c : CalRun} {sensed : List (ℕ × ℕ × ℕ × ℕ)} (sub : {.chans, .reg .TSK_ARR_STATUS} ⊆ ps) :
    s.Only ps (t.readBack g a k₀ c sensed).1 ↔ s.Only ps t :=
  State.Only.iff (by
    unfold State.readBack; simp) sub (by simp)

/-! #### The row test -/

@[simp ↓] theorem State.only_useSpare {s t : State} {ps : Set Part} {g : ℕ} {a : ℕ} {row : ℕ} (sub : {.genSets, .tuss g, .reg .BRK_ARR_CAL} ⊆ ps) :
    s.Only ps (t.useSpare g a row).1 ↔ s.Only ps t :=
  State.Only.iff (by
    unfold State.useSpare; dsimp only; repeat' split
    all_goals simp (disch := simp (disch := simp))) sub (by simp)

@[simp ↓] theorem State.only_rowTests {s t : State} {ps : Set Part} {g : ℕ} {a : ℕ} {x : List (ℕ × ℤ × ℤ)} (sub : {.genSets, .tuss g, .reg .BRK_ARR_CAL} ⊆ ps) :
    s.Only ps (t.rowTests g a x).1 ↔ s.Only ps t :=
  State.Only.iff (by
    induction x generalizing t with
    | nil => exact .refl t _
    | cons x xs ih =>
      obtain ⟨row, x, y⟩ := x
      unfold State.rowTests
      split
      · have h : t.Only ({.genSets, .tuss g, .reg .BRK_ARR_CAL}) (t.useSpare g a row).1 := by simp
        revert h
        rcases t.useSpare g a row with ⟨u, _ | _⟩
        · exact id
        · exact fun h => h.trans ih
      · exact ih) sub (by simp)

/-! #### Solving for the codes -/

@[simp ↓] theorem State.only_loadCandidate {s t : State} {ps : Set Part} {g : ℕ} {a : ℕ} {x : Candidate} (sub : {.mem, .genSets, .tuss g} ⊆ ps) (k : s.Only ps t) :
    s.Only ps (t.loadCandidate g a x) :=
  State.Only.of_sub (by
    unfold State.loadCandidate; simp (disch := simp (disch := simp))) sub k

@[simp ↓] theorem State.only_colFails {s t : State} {ps : Set Part} {g : ℕ} {a : ℕ} {cols : List ℕ} (sub : {.reg .BRK_LAST_FAIL, .reg .BRK_STATUS} ∪ Part.event ⊆ ps) :
    s.Only ps (t.colFails g a cols) ↔ s.Only ps t :=
  State.Only.iff (by
    unfold State.colFails; simp (disch := simp (disch := simp [F.BRK_STATUS_COL_FAIL, F.BRK_LAST_FAIL_ARRAY, F.BRK_LAST_FAIL_COLUMN, F.BRK_LAST_FAIL_VALID]) [F.BRK_STATUS_COL_FAIL, F.BRK_LAST_FAIL_ARRAY, F.BRK_LAST_FAIL_COLUMN, F.BRK_LAST_FAIL_VALID])) sub (by simp)

/-! #### Verification -/

@[simp ↓] theorem State.only_calVerify {s t : State} {ps : Set Part} {g : ℕ} {a : ℕ} {c : CalRun} {ops : List (List (ℕ × ℤ))} (sub : {.free, .tuss g, .reg .TSK_CONV_SAT} ⊆ ps) :
    s.Only ps (t.calVerify g a c ops).1 ↔ s.Only ps t :=
  State.Only.iff (by
    unfold State.calVerify
    exact State.only_foldl_fst (fun x dev => by simp) (.refl t _)) sub (by simp)

/-! #### The reference generator -/

@[simp ↓] theorem State.only_updateGen {s t : State} {ps : Set Part} {g : ℕ} {d : ℕ × ℕ × ℕ} (sub : {.genSets, .tuss g} ⊆ ps) :
    s.Only ps (t.updateGen g d) ↔ s.Only ps t :=
  State.Only.iff (by
    unfold State.updateGen; dsimp only; repeat' split
    all_goals simp (disch := simp (disch := simp [F.TSK_RESTORE_TEMP_TEMP]) [F.TSK_RESTORE_TEMP_TEMP])) sub (by simp)

/-! #### Shared parts -/

@[simp ↓] theorem State.only_tuftDone {s t : State} {ps : Set Part} {g : ℕ} {t₀ : Task} (sub : {.jobs, .tuss g, .reg .TSK_SEQ_STATUS} ⊆ ps) :
    s.Only ps (t.tuftDone g t₀) ↔ s.Only ps t :=
  State.Only.iff (by
    unfold State.tuftDone; simp) sub (by simp)

/-- `State.tuftStore` with its accesses to memory left open. -/
def State.tuftStoreBy (may : State → ℕ → ℕ → ℕ → ℕ → Bool → ℕ → ℕ → State × Bool)
    (get : State → ℕ → Block) (put : State → ℕ → Block → State) (s : State) (g block : ℕ) (t : Task) (cmd : ℕ)
    (bytes : List Byte) (bad : Bool) : ℕ → State
  | 0 => s
  | n + 1 =>
    let a := bankAddr g block
    let old := get s a
    let b := Block.fresh (overlay (List.replicate 256 0) 0 (bytes.take 256)) old.tid old.seq
    match may s (chanOf g) (t.job.getD 0) cmd g true a 256 with
    | (s, false) => s
    | (s, true) =>
      let s := put s a (if bad then b.poison else b)
      let s := match t.job with
        | some id => s.provNote b.tid id none
        | none => s
      s.tuftStoreBy may get put g (block + 1) t cmd (bytes.drop 256) bad n

theorem State.tuftStore_f : State.tuftStore._f = State.tuftStoreBy._f State.mayAccess State.block State.putBlock := by
  delta State.tuftStore._f State.tuftStoreBy._f
  generalize State.mayAccess = may, State.block = get, State.putBlock = put, State.provNote = note, bankAddr = addr
  funext g t cmd bad n f s block bytes
  rcases n with _ | n
  · rfl
  · generalize t.job.getD 0 = j
    generalize t.job = jj
    extract_lets a old b
    rcases may s (chanOf g) j cmd g true a 256 with ⟨u, _ | _⟩
    · rfl
    · rcases jj with _ | j <;> rfl

theorem State.tuftStore_eq : State.tuftStore = State.tuftStoreBy State.mayAccess State.block State.putBlock := by
  delta State.tuftStore State.tuftStoreBy
  rw [State.tuftStore_f]

theorem State.only_tuftStoreBy {may : State → ℕ → ℕ → ℕ → ℕ → Bool → ℕ → ℕ → State × Bool}
    {get : State → ℕ → Block} {put : State → ℕ → Block → State} {g block : ℕ} {t : Task} {cmd : ℕ}
    {bytes : List Byte} {bad : Bool} {n : ℕ} {s : State} (h : ∀ (s : State) a, s.Only ({.jobs, .mem, .latent, .out, .provs, .nextProv, .reg .GLB_RGN_FAULT_INFO, .reg .GLB_RGN_FAULT_ADDR, .reg .TSK_CONV_STATUS, .reg .GRS_STATUS, .reg .GRS_PROV} ∪ Part.event ∪ Part.tusss) (may s (chanOf g) (t.job.getD 0) cmd g true a 256).1)
    (hp : ∀ (s : State) a b, s.Only ({.jobs, .mem, .latent, .out, .provs, .nextProv, .reg .GLB_RGN_FAULT_INFO, .reg .GLB_RGN_FAULT_ADDR, .reg .TSK_CONV_STATUS, .reg .GRS_STATUS, .reg .GRS_PROV} ∪ Part.event ∪ Part.tusss) (put s a b)) :
    s.Only ({.jobs, .mem, .latent, .out, .provs, .nextProv, .reg .GLB_RGN_FAULT_INFO, .reg .GLB_RGN_FAULT_ADDR, .reg .TSK_CONV_STATUS, .reg .GRS_STATUS, .reg .GRS_PROV} ∪ Part.event ∪ Part.tusss) (s.tuftStoreBy may get put g block t cmd bytes bad n) := by
  induction n generalizing s block bytes with
  | zero => exact .refl s _
  | succ n ih =>
    unfold State.tuftStoreBy
    extract_lets a old b
    clear_value old a
    have h := h s a
    revert h
    rcases may s (chanOf g) (t.job.getD 0) cmd g true a 256 with ⟨u, _ | _⟩
    · exact id
    · refine fun h => h.trans (.trans ?_ ih)
      dsimp only
      split
      · exact (State.only_provNote (by simp)).2 (hp _ _ _)
      · exact hp _ _ _

@[simp ↓] theorem State.only_tuftStore {s t : State} {ps : Set Part} {g : ℕ} {block : ℕ} {t₀ : Task} {cmd : ℕ} {bytes : List Byte} {bad : Bool} {x : ℕ} (sub : {.jobs, .mem, .latent, .out, .provs, .nextProv, .reg .GLB_RGN_FAULT_INFO, .reg .GLB_RGN_FAULT_ADDR, .reg .TSK_CONV_STATUS, .reg .GRS_STATUS, .reg .GRS_PROV} ∪ Part.event ∪ Part.tusss ⊆ ps) (k : s.Only ps t) :
    s.Only ps (t.tuftStore g block t₀ cmd bytes bad x) :=
  State.Only.of_sub (by
    rw [State.tuftStore_eq]
    exact State.only_tuftStoreBy (fun t a => by simp) (fun t a b => by simp)) sub k

/-! #### Reading a key-value cache -/

@[simp ↓] theorem State.only_poisonBank {s t : State} {ps : Set Part} {g : ℕ} {t₀ : Task} {block : ℕ} (sub : {.jobs, .mem, .latent, .out, .reg .GLB_RGN_FAULT_INFO, .reg .GLB_RGN_FAULT_ADDR, .reg .TSK_CONV_STATUS} ∪ Part.event ∪ Part.tusss ⊆ ps) (k : s.Only ps t) :
    s.Only ps (t.poisonBank g t₀ block) :=
  State.Only.of_sub (by
    generalize hf : State.poisonBank = f; delta State.poisonBank at hf; subst hf
    beta_reduce
    generalize bankAddr g block = a
    have h : t.Only ({.jobs, .mem, .latent, .out, .reg .GLB_RGN_FAULT_INFO, .reg .GLB_RGN_FAULT_ADDR, .reg .TSK_CONV_STATUS} ∪ Part.event ∪ Part.tusss) (t.mayAccess (chanOf g) (t₀.job.getD 0) (t.taskCmd g t₀) g true a 256).1 := by simp
    revert h
    rcases t.mayAccess (chanOf g) (t₀.job.getD 0) (t.taskCmd g t₀) g true a 256 with ⟨u, _ | _⟩
    · exact id
    · exact fun h => h.trans (by simp)) sub k

@[simp ↓] theorem State.only_setInvalid {s t : State} {ps : Set Part} {g : ℕ} {t₀ : Task} {record : ℕ} (sub : {.jobs} ∪ Part.gwrite ⊆ ps) (k : s.Only ps t) :
    s.Only ps (t.setInvalid g t₀ record) :=
  State.Only.of_sub (by
    unfold State.setInvalid; simp (disch := simp (disch := simp))) sub k

@[simp ↓] theorem State.only_kvPairs {s t : State} {ps : Set Part} {g : ℕ} {t₀ : Task} {c : CacheRead} {x : ℕ} (sub : {.jobs} ∪ Part.gwrite ⊆ ps) (k : s.Only ps t) :
    s.Only ps (t.kvPairs g t₀ c x).1 :=
  State.Only.of_sub (by
    clear k
    induction x generalizing t with
    | zero => exact .refl t _
    | succ n ih =>
      unfold State.kvPairs
      extract_lets i e u
      split
      · exact ih
      · refine .trans (t := u) (by simp [u]) ?_
        simp) sub k

@[simp ↓] theorem State.only_readCache {s t : State} {ps : Set Part} {g : ℕ} {t₀ : Task} {cache : Option CacheRead} (sub : {.reg .TSK_CONV_STATUS, .tuss g, .jobs, .recs} ∪ Part.read ∪ Part.tusss ⊆ ps) (k : s.Only ps t) :
    s.Only ps (t.readCache g t₀ cache).1 :=
  State.Only.of_sub (by
    unfold State.readCache; dsimp only; repeat' split
    all_goals
      try simp only [Prod.ext_iff] at *
      try cases_type* And
      subst_vars
      simp (disch := simp (disch := simp [*]) [*]) [*]) sub k

/-! #### SHADOW -/

@[simp ↓] theorem State.only_shadowTask {s t : State} {ps : Set Part} {g : ℕ} {t₀ : Task} {ecc : List Ecc} {fails : ℕ} (sub : {.tuss g, .jobs, .reg .TSK_SEQ_STATUS, .reg .GRS_LANE_STATUS, .reg .GRS_LANE_CNT, .reg .GRS_ARB_CNT, .reg .GRS_STATUS, .reg .TSK_QUAR_CAUSE} ∪ Part.read ⊆ ps) (k : s.Only ps t) :
    s.Only ps (t.shadowTask g t₀ ecc fails) :=
  State.Only.of_sub (by
    unfold State.shadowTask; dsimp only; repeat' split
    all_goals
      try simp only [Prod.ext_iff] at *
      try cases_type* And
      subst_vars
      simp (disch := simp (disch := simp [*]) [*]) [*]) sub k

/-! #### MATMUL -/

@[simp ↓] theorem State.only_matmulTask {s t : State} {ps : Set Part} {g : ℕ} {t₀ : Task} {ecc : List Ecc} {cache : Option CacheRead} {dig : Bool} (sub : {.reg .TSK_CONV_STATUS, .tuss g, .jobs, .recs, .provs, .nextProv, .reg .TSK_SEQ_STATUS, .reg .GRS_STATUS, .reg .GRS_PROV, .reg .GRS_LANE_STATUS, .reg .GRS_LANE_CNT, .reg .GRS_ARB_CNT, .reg .TSK_QUAR_CAUSE} ∪ Part.read ∪ Part.tusss ⊆ ps) (k : s.Only ps t) :
    s.Only ps (t.matmulTask g t₀ ecc cache dig) :=
  State.Only.of_sub (by
    generalize hf : State.matmulTask = f; delta State.matmulTask at hf; subst hf
    beta_reduce
    extract_lets b m n k accum na nb
    have h : t.Only ({.reg .TSK_CONV_STATUS, .tuss g, .jobs, .recs, .provs, .nextProv, .reg .TSK_SEQ_STATUS, .reg .GRS_STATUS, .reg .GRS_PROV, .reg .GRS_LANE_STATUS, .reg .GRS_LANE_CNT, .reg .GRS_ARB_CNT, .reg .TSK_QUAR_CAUSE} ∪ Part.read ∪ Part.tusss) (t.readCache g t₀ cache).1 := by simp
    revert h
    rcases t.readCache g t₀ cache with ⟨u, _ | _⟩
    · exact fun h => h.trans (by simp)
    refine fun h => h.trans ?_
    dsimp only
    have h : u.Only ({.reg .TSK_CONV_STATUS, .tuss g, .jobs, .recs, .provs, .nextProv, .reg .TSK_SEQ_STATUS, .reg .GRS_STATUS, .reg .GRS_PROV, .reg .GRS_LANE_STATUS, .reg .GRS_LANE_CNT, .reg .GRS_ARB_CNT, .reg .TSK_QUAR_CAUSE} ∪ Part.read ∪ Part.tusss) (u.operands g t₀ (t₀.fld 2 8 12) na ecc).1 := by simp
    revert h
    rcases u.operands g t₀ (t₀.fld 2 8 12) na ecc with ⟨v, _ | as_⟩
    · exact fun h => h.trans (by simp)
    refine fun h => h.trans ?_
    dsimp only
    have h : v.Only ({.reg .TSK_CONV_STATUS, .tuss g, .jobs, .recs, .provs, .nextProv, .reg .TSK_SEQ_STATUS, .reg .GRS_STATUS, .reg .GRS_PROV, .reg .GRS_LANE_STATUS, .reg .GRS_LANE_CNT, .reg .GRS_ARB_CNT, .reg .TSK_QUAR_CAUSE} ∪ Part.read ∪ Part.tusss) (v.operands g t₀ (t₀.fld 3 0 12) nb (ecc.drop na)).1 := by simp
    revert h
    rcases v.operands g t₀ (t₀.fld 3 0 12) nb (ecc.drop na) with ⟨w, _ | bs⟩
    · exact fun h => h.trans (by simp)
    refine fun h => h.trans ?_
    dsimp only
    generalize (if accum = true then blocksOf (m * n * 4) else 0) = nc
    have h : w.Only ({.reg .TSK_CONV_STATUS, .tuss g, .jobs, .recs, .provs, .nextProv, .reg .TSK_SEQ_STATUS, .reg .GRS_STATUS, .reg .GRS_PROV, .reg .GRS_LANE_STATUS, .reg .GRS_LANE_CNT, .reg .GRS_ARB_CNT, .reg .TSK_QUAR_CAUSE} ∪ Part.read ∪ Part.tusss) (w.operands g t₀ (t₀.fld 3 12 12) nc (ecc.drop (na + nb))).1 := by simp
    revert h
    rcases w.operands g t₀ (t₀.fld 3 12 12) nc (ecc.drop (na + nb)) with ⟨x, _ | cs⟩
    · exact fun h => h.trans (by simp)
    refine fun h => h.trans ?_
    dsimp only
    split <;> simp (disch := simp (disch := simp))) sub k

/-! #### VECTOR -/

/-- `State.scaleBlock` with its read of the bank left open. -/
def State.scaleBlockBy (read : State → ℕ → Task → ℕ → ℕ → List Ecc → State × Option (List Byte)) (s : State) (g sb entry : ℕ) (t : Task)
    (int4 : Bool) (e : List Byte) : State × Option (List Byte) :=
  let (size, per) := kvEntry int4
  let lay (old : List Byte) : List Byte := (overlay old (entry % per * size) e).take (per * size) ++ List.replicate (256 - per * size) 0
  if entry % per = 0 then (s, some (lay (List.replicate 256 0)))
  else match read s g t sb 1 [] with
    | (s, none) => (s, none)
    | (s, some old) => (s, some (lay old))

theorem State.scaleBlock_eq : State.scaleBlock = State.scaleBlockBy State.taskBlocks := by
  delta State.scaleBlock State.scaleBlockBy
  generalize State.taskBlocks = read
  rfl

theorem State.only_scaleBlockBy {read : State → ℕ → Task → ℕ → ℕ → List Ecc → State × Option (List Byte)} {g sb entry : ℕ} {t : Task}
    {int4 : Bool} {e : List Byte} {s : State} (h : ∀ s : State, s.Only ({.jobs} ∪ Part.read) (read s g t sb 1 []).1) :
    s.Only ({.jobs} ∪ Part.read) (s.scaleBlockBy read g sb entry t int4 e).1 := by
  change s.OnlyFst _ _
  unfold State.scaleBlockBy
  rcases kvEntry int4 with ⟨size, per⟩
  dsimp only
  split
  · exact .refl s _
  · have h := h s
    revert h
    rcases read s g t sb 1 [] with ⟨u, _ | old⟩
    · exact id
    · exact id

@[simp ↓] theorem State.only_scaleBlock {s t : State} {ps : Set Part} {g : ℕ} {sb : ℕ} {entry : ℕ} {t₀ : Task} {int4 : Bool} {e : List Byte} (sub : {.jobs} ∪ Part.read ⊆ ps) (k : s.Only ps t) :
    s.Only ps (t.scaleBlock g sb entry t₀ int4 e).1 :=
  State.Only.of_sub (by
    rw [State.scaleBlock_eq]
    exact State.only_scaleBlockBy fun t => by simp) sub k

@[simp ↓] theorem State.only_kvWrite {s t : State} {ps : Set Part} {g : ℕ} {dst : ℕ} {scale : ℕ} {entry : ℕ} {t₀ : Task} {int4 : Bool} {dig : Bool} {x : List (List (Option ℤ))} (sub : {.reg .TSK_CONV_STATUS, .tuss g, .jobs, .provs, .nextProv, .reg .GRS_STATUS, .reg .GRS_PROV} ∪ Part.read ∪ Part.tusss ⊆ ps) (k : s.Only ps t) :
    s.Only ps (t.kvWrite g dst scale entry t₀ int4 dig x).1 :=
  State.Only.of_sub (by
    clear k
    induction x generalizing t dst entry with
    | nil => exact .refl t _
    | cons vs rest ih =>
      unfold State.kvWrite
      extract_lets groups cmd gs e sb
      split
      · simp
      · generalize e ++ List.replicate ((kvEntry int4).1 - e.length) 0 = e'
        have h : t.Only ({.reg .TSK_CONV_STATUS, .tuss g, .jobs, .provs, .nextProv, .reg .GRS_STATUS, .reg .GRS_PROV} ∪ Part.read ∪ Part.tusss) (t.scaleBlock g sb entry t₀ int4 e').1 := by simp
        revert h
        rcases t.scaleBlock g sb entry t₀ int4 e' with ⟨u, _ | b⟩
        · exact id
        · exact fun h => h.trans (.trans (by simp (disch := simp)) ih)) sub k

@[simp ↓] theorem State.only_kvQuant {s t : State} {ps : Set Part} {g : ℕ} {t₀ : Task} {src : List Byte} {dig : Bool} (sub : {.reg .TSK_CONV_STATUS, .tuss g, .jobs, .provs, .nextProv, .reg .GRS_STATUS, .reg .GRS_PROV, .reg .TSK_SEQ_STATUS, .reg .GRS_LANE_STATUS, .reg .GRS_LANE_CNT, .reg .GRS_ARB_CNT, .reg .TSK_QUAR_CAUSE} ∪ Part.read ∪ Part.tusss ⊆ ps) (k : s.Only ps t) :
    s.Only ps (t.kvQuant g t₀ src dig) :=
  State.Only.of_sub (by
    unfold State.kvQuant; simp) sub k

@[simp ↓] theorem State.only_vectorTask {s t : State} {ps : Set Part} {g : ℕ} {t₀ : Task} {ecc : List Ecc} {cache : Option CacheRead} {dig : Bool} (sub : {.reg .TSK_CONV_STATUS, .tuss g, .jobs, .recs, .provs, .nextProv, .reg .TSK_SEQ_STATUS, .reg .GRS_STATUS, .reg .GRS_PROV, .reg .GRS_LANE_STATUS, .reg .GRS_LANE_CNT, .reg .GRS_ARB_CNT, .reg .TSK_QUAR_CAUSE} ∪ Part.read ∪ Part.tusss ⊆ ps) (k : s.Only ps t) :
    s.Only ps (t.vectorTask g t₀ ecc cache dig) :=
  State.Only.of_sub (by
    generalize hf : State.vectorTask = f; delta State.vectorTask at hf; subst hf
    beta_reduce
    extract_lets op fmt dig' n
    have h : t.Only ({.reg .TSK_CONV_STATUS, .tuss g, .jobs, .recs, .provs, .nextProv, .reg .TSK_SEQ_STATUS, .reg .GRS_STATUS, .reg .GRS_PROV, .reg .GRS_LANE_STATUS, .reg .GRS_LANE_CNT, .reg .GRS_ARB_CNT, .reg .TSK_QUAR_CAUSE} ∪ Part.read ∪ Part.tusss) (t.readCache g t₀ cache).1 := by simp
    revert h
    rcases t.readCache g t₀ cache with ⟨u, _ | _⟩
    · exact fun h => h.trans (by simp)
    refine fun h => h.trans ?_
    dsimp only
    have h : u.Only ({.reg .TSK_CONV_STATUS, .tuss g, .jobs, .recs, .provs, .nextProv, .reg .TSK_SEQ_STATUS, .reg .GRS_STATUS, .reg .GRS_PROV, .reg .GRS_LANE_STATUS, .reg .GRS_LANE_CNT, .reg .GRS_ARB_CNT, .reg .TSK_QUAR_CAUSE} ∪ Part.read ∪ Part.tusss) (u.operands g t₀ (t₀.fld 2 8 12) (blocksOf n) ecc).1 := by simp
    revert h
    rcases u.operands g t₀ (t₀.fld 2 8 12) (blocksOf n) ecc with ⟨v, _ | src⟩
    · exact fun h => h.trans (by simp)
    refine fun h => h.trans ?_
    dsimp only
    split
    · simp
    generalize (vecOperandBlock t₀.words).getD 0 = b
    generalize (if (vecOperandBlock t₀.words).isSome = true then _ else 0) = nb
    have h : v.Only ({.reg .TSK_CONV_STATUS, .tuss g, .jobs, .recs, .provs, .nextProv, .reg .TSK_SEQ_STATUS, .reg .GRS_STATUS, .reg .GRS_PROV, .reg .GRS_LANE_STATUS, .reg .GRS_LANE_CNT, .reg .GRS_ARB_CNT, .reg .TSK_QUAR_CAUSE} ∪ Part.read ∪ Part.tusss) (v.operands g t₀ b nb (ecc.drop (blocksOf n))).1 := by simp
    revert h
    rcases v.operands g t₀ b nb (ecc.drop (blocksOf n)) with ⟨x, _ | cs⟩
    · exact fun h => h.trans (by simp)
    refine fun h => h.trans ?_
    dsimp only
    split <;> simp (disch := simp (disch := simp))) sub k

/-! #### The commands -/

@[simp ↓] theorem State.only_laneShadow {s t : State} {ps : Set Part} {g : ℕ} {fails : ℕ} (sub : {.tuss g, .reg .GRS_LANE_STATUS, .reg .GRS_LANE_CNT, .reg .GRS_ARB_CNT, .reg .GRS_STATUS, .reg .TSK_QUAR_CAUSE} ∪ Part.event ⊆ ps) :
    s.Only ps (t.laneShadow g fails) ↔ s.Only ps t :=
  State.Only.iff (by
    unfold State.laneShadow; simp) sub (by simp)

@[simp ↓] theorem keeps_execShadow {ps : Set Part} {g : Tsk} {ecc : List Ecc} {fails : Fin 3} (sub : {.tuss g, .jobs, .reg .TSK_SEQ_STATUS, .reg .GRS_LANE_STATUS, .reg .GRS_LANE_CNT, .reg .GRS_ARB_CNT, .reg .GRS_STATUS, .reg .TSK_QUAR_CAUSE} ∪ Part.read ⊆ ps) : State.Keeps ps (execShadow g ecc fails) :=
  State.Keeps.mono (fun t => by
    refine ⟨_, rfl, ?_⟩
    simp only [State.only_ifT]
    repeat' split
    all_goals simp (disch := simp (disch := simp))) sub

@[simp ↓] theorem keeps_execMatmul {ps : Set Part} {g : Tsk} {ecc : List Ecc} {cache : Option CacheRead} {digFail : Bool} (sub : {.reg .TSK_CONV_STATUS, .tuss g, .jobs, .recs, .provs, .nextProv, .reg .TSK_SEQ_STATUS, .reg .GRS_STATUS, .reg .GRS_PROV, .reg .GRS_LANE_STATUS, .reg .GRS_LANE_CNT, .reg .GRS_ARB_CNT, .reg .TSK_QUAR_CAUSE} ∪ Part.read ∪ Part.tusss ⊆ ps) : State.Keeps ps (execMatmul g ecc cache digFail) :=
  State.Keeps.mono (fun t => by
    refine ⟨_, rfl, ?_⟩
    simp only [State.only_ifT]
    repeat' split
    all_goals simp (disch := simp (disch := simp))) sub

@[simp ↓] theorem keeps_execVector {ps : Set Part} {g : Tsk} {ecc : List Ecc} {cache : Option CacheRead} {digFail : Bool} (sub : {.reg .TSK_CONV_STATUS, .tuss g, .jobs, .recs, .provs, .nextProv, .reg .TSK_SEQ_STATUS, .reg .GRS_STATUS, .reg .GRS_PROV, .reg .GRS_LANE_STATUS, .reg .GRS_LANE_CNT, .reg .GRS_ARB_CNT, .reg .TSK_QUAR_CAUSE} ∪ Part.read ∪ Part.tusss ⊆ ps) : State.Keeps ps (execVector g ecc cache digFail) :=
  State.Keeps.mono (fun t => by
    refine ⟨_, rfl, ?_⟩
    simp only [State.only_ifT]
    repeat' split
    all_goals simp (disch := simp (disch := simp))) sub

/-! #### Check slots -/

@[simp ↓] theorem State.only_sampleSlot {s t : State} {ps : Set Part} {g : ℕ} {k₀ : ℕ} {c : ℕ} (sub : {.tuss g, .reg .GRS_LANE_CNT, .reg .TSK_ARR_STATE} ⊆ ps) :
    s.Only ps (t.sampleSlot g k₀ c) ↔ s.Only ps t :=
  State.Only.iff (by
    unfold State.sampleSlot; dsimp only; repeat' split
    all_goals simp (disch := simp (disch := simp [F.GRS_LANE_CNT_CHECKS]) [F.GRS_LANE_CNT_CHECKS])) sub (by simp)

@[simp ↓] theorem State.only_arbSlot {s t : State} {ps : Set Part} {g : ℕ} {c : ℕ} {x : Arb} (sub : {.tuss g, .reg .GRS_LANE_CNT, .reg .TSK_ARR_STATE} ⊆ ps) :
    s.Only ps (t.arbSlot g c x) ↔ s.Only ps t :=
  State.Only.iff (by
    unfold State.arbSlot; dsimp only; repeat' split
    all_goals simp (disch := simp (disch := simp [F.GRS_LANE_CNT_CHECKS]) [F.GRS_LANE_CNT_CHECKS])) sub (by simp)

@[simp ↓] theorem State.only_checkSlot {s t : State} {ps : Set Part} {g : ℕ} {k₀ : ℕ} {c : ℕ} (sub : {.tuss g, .reg .GRS_LANE_CNT, .reg .TSK_ARR_STATE} ⊆ ps) :
    s.Only ps (t.checkSlot g k₀ c) ↔ s.Only ps t :=
  State.Only.iff (by
    unfold State.checkSlot; dsimp only; repeat' split
    all_goals simp (disch := simp (disch := simp))) sub (by simp)

@[simp ↓] theorem State.only_checkCompare {s t : State} {ps : Set Part} {g : ℕ} {k₀ : ℕ} (sub : {.tuss g, .reg .GRS_LANE_STATUS, .reg .GRS_ARB_CNT, .reg .GRS_STATUS, .reg .TSK_QUAR_CAUSE} ∪ Part.event ⊆ ps) :
    s.Only ps (t.checkCompare g k₀) ↔ s.Only ps t :=
  State.Only.iff (by
    unfold State.checkCompare; dsimp only; repeat' split
    all_goals simp (disch := simp (disch := simp [F.GRS_LANE_STATUS_RERUN_FAIL, F.GRS_LANE_STATUS_SHADOW_FAIL, F.GRS_LANE_STATUS_SHADOW_SET]) [F.GRS_LANE_STATUS_RERUN_FAIL, F.GRS_LANE_STATUS_SHADOW_FAIL, F.GRS_LANE_STATUS_SHADOW_SET])) sub (by simp)

/-! #### Arbitration -/

@[simp ↓] theorem State.only_arbStart {s t : State} {ps : Set Part} {g : ℕ} (sub : {.tuss g, .reg .GRS_LANE_STATUS} ⊆ ps) :
    s.Only ps (t.arbStart g) ↔ s.Only ps t :=
  State.Only.iff (by
    unfold State.arbStart; dsimp only; repeat' split
    all_goals simp (disch := simp (disch := simp))) sub (by simp)

@[simp ↓] theorem State.only_transient {s t : State} {ps : Set Part} {g : ℕ} {tr : Trigger} (sub : {.reg .GRS_ARB_CNT} ∪ Part.token ⊆ ps) (k : s.Only ps t) :
    s.Only ps (t.transient g tr).1 :=
  State.Only.of_sub (by
    unfold State.transient; simp [F.GRS_ARB_CNT_TRANSIENT_CNT]) sub k

@[simp ↓] theorem State.only_settle {s t : State} {ps : Set Part} {g : ℕ} {tr : Trigger} {o : ℕ} (sub : {.engines, .boot, .irq, .mem, .out, .flits, .latent, .chans, .leas, .jobs, .areas, .prods, .commits, .provs} ∪ Part.tusss ∪ Part.regs ⊆ ps) (k : s.Only ps t) :
    s.Only ps (t.settle g tr o).1 :=
  State.Only.of_sub (by
    unfold State.settle; dsimp only; repeat' split
    all_goals simp (disch := simp (disch := simp [F.GRS_EVT_CNT_FALSE_CNT, F.GRS_ARB_CNT_CSUM_CNT, F.GRS_LANE_STATUS_CSUM_REFRESH]) [F.GRS_EVT_CNT_FALSE_CNT, F.GRS_ARB_CNT_CSUM_CNT, F.GRS_LANE_STATUS_CSUM_REFRESH]) [F.GRS_EVT_CNT_FALSE_CNT, F.GRS_ARB_CNT_CSUM_CNT, F.GRS_LANE_STATUS_CSUM_REFRESH]) sub k

@[simp ↓] theorem State.only_arbLast {s t : State} {ps : Set Part} {g : ℕ} {tr : Trigger} {o : ℕ} (sub : {.reg .GRS_ARB_LAST} ⊆ ps) :
    s.Only ps (t.arbLast g tr o) ↔ s.Only ps t :=
  State.Only.iff (by
    unfold State.arbLast; simp [F.GRS_ARB_LAST_ARRAY, F.GRS_ARB_LAST_COLUMN, F.GRS_ARB_LAST_PARITY, F.GRS_ARB_LAST_TRIGGER, F.GRS_ARB_LAST_OUTCOME, F.GRS_ARB_LAST_VALID]) sub (by simp)

@[simp ↓] theorem State.only_arbDecide {s t : State} {ps : Set Part} {g : ℕ} (sub : {.irq, .latent, .chans, .mem, .out, .flits, .free, .engines, .boot, .leas, .jobs, .areas, .prods, .commits, .provs} ∪ Part.tusss ∪ Part.regs ⊆ ps) (k : s.Only ps t) :
    s.Only ps (t.arbDecide g) :=
  State.Only.of_sub (by
    unfold State.arbDecide; dsimp only; repeat' split
    all_goals simp (disch := simp (disch := simp [F.GRS_LANE_CNT_ARB_CNT]) [F.GRS_LANE_CNT_ARB_CNT])) sub k

/-! #### Checksum refresh and repair -/

@[simp ↓] theorem State.only_refreshEnd {s t : State} {ps : Set Part} {g : ℕ} {a : ℕ} (sub : {.tuss g, .reg .GRS_LANE_STATUS} ⊆ ps) :
    s.Only ps (t.refreshEnd g a) ↔ s.Only ps t :=
  State.Only.iff (by
    unfold State.refreshEnd; simp [F.GRS_LANE_STATUS_CSUM_REFRESH]) sub (by simp)

@[simp ↓] theorem State.only_repairPlace {s t : State} {ps : Set Part} {g : ℕ} (sub : {.reg .TSK_CONV_STATUS, .tuss g, .genSets, .reg .BRK_STATUS, .reg .BRK_CAL_CNT, .reg .BRK_ARR_CAL, .reg .TSK_ARR_STATE, .reg .CHN_ADM_BUDGET, .reg .TSK_CONV_CFG, .reg .TSK_ARR_WRITE} ∪ Part.read ⊆ ps) (k : s.Only ps t) :
    s.Only ps (t.repairPlace g) :=
  State.Only.of_sub (by
    unfold State.repairPlace; dsimp only; repeat' split
    all_goals simp (disch := simp (disch := simp [F.TSK_ARR_STATE_CONTEXT, F.TSK_CONV_CFG_RANGE, F.TSK_CONV_CFG_MASK_EN]) [F.TSK_ARR_STATE_CONTEXT, F.TSK_CONV_CFG_RANGE, F.TSK_CONV_CFG_MASK_EN])) sub k

@[simp ↓] theorem State.only_repairCompare {s t : State} {ps : Set Part} {g : ℕ} {dev : List (ℕ × List (ℕ × ℤ))} (sub : {.tuss g, .reg .BRK_STATUS, .reg .TSK_CONV_SAT, .reg .GRS_ARB_CNT, .reg .GRS_STATUS, .reg .TSK_QUAR_CAUSE} ∪ Part.read ⊆ ps) (k : s.Only ps t) :
    s.Only ps (t.repairCompare g dev) :=
  State.Only.of_sub (by
    unfold State.repairCompare; dsimp only; repeat' split
    all_goals simp (disch := simp (disch := simp))) sub k

@[simp ↓] theorem State.only_reprogram {s t : State} {ps : Set Part} {g : ℕ} (sub : {.reg .TSK_CONV_STATUS, .tuss g, .reg .TSK_CONV_CFG, .reg .TSK_ARR_STATE, .reg .BRK_STATUS, .reg .TSK_ARR_WRITE} ∪ Part.read ⊆ ps) (k : s.Only ps t) :
    s.Only ps (t.reprogram g) :=
  State.Only.of_sub (by
    unfold State.reprogram; dsimp only; repeat' split
    all_goals simp (disch := simp (disch := simp [F.TSK_ARR_STATE_CONTEXT, F.TSK_CONV_CFG_RANGE, F.TSK_CONV_CFG_MASK_EN]) [F.TSK_ARR_STATE_CONTEXT, F.TSK_CONV_CFG_RANGE, F.TSK_CONV_CFG_MASK_EN])) sub k

/-! #### Tokens -/

@[simp ↓] theorem State.only_tokenDecision {s t : State} {ps : Set Part} {id : ℕ} (sub : Part.token ⊆ ps) (k : s.Only ps t) :
    s.Only ps (t.tokenDecision id) :=
  State.Only.of_sub (by
    unfold State.tokenDecision; repeat' split
    all_goals simp [F.GRS_EVT_CNT_UNRES_CNT, F.GRS_STATUS_UNRESOLVED]) sub k

/-! #### Check fraction and horizon -/

@[simp ↓] theorem State.only_fractionWrite {s t : State} {ps : Set Part} {v : ℕ} (sub : {.fractionOld, .fractionAt, .reg .GRS_STATUS, .reg .GRS_CFG} ⊆ ps) :
    s.Only ps (t.fractionWrite v) ↔ s.Only ps t :=
  State.Only.iff (by
    unfold State.fractionWrite
    extract_lets cur reject src
    have hr : t.Only {.fractionOld, .fractionAt, .reg .GRS_STATUS, .reg .GRS_CFG} reject := by simp [reject, F.GRS_STATUS_CFG_REJECT]
    have hu : t.Only {.fractionOld, .fractionAt, .reg .GRS_STATUS, .reg .GRS_CFG} src := by simp [src, F.GRS_CFG_FRACTION]
    clear_value reject
    repeat' split
    · exact .refl t _
    · exact hr
    · exact hr
    · exact hu
    · simp [hu, F.GRS_STATUS_FRACTION_PENDING]) sub (by simp)

@[simp ↓] theorem State.only_fractionEffect {s t : State} {ps : Set Part} (sub : {.fractionOld, .fractionAt, .reg .GRS_STATUS} ⊆ ps) :
    s.Only ps (t.fractionEffect) ↔ s.Only ps t :=
  State.Only.iff (by
    unfold State.fractionEffect; simp [F.GRS_STATUS_FRACTION_PENDING]) sub (by simp)

@[simp ↓] theorem State.only_horizonWrite {s t : State} {ps : Set Part} {v : ℕ} (sub : {.reg .GRS_STATUS, .reg .GRS_CFG} ⊆ ps) :
    s.Only ps (t.horizonWrite v) ↔ s.Only ps t :=
  State.Only.iff (by
    unfold State.horizonWrite; simp [F.GRS_STATUS_CFG_REJECT, F.GRS_CFG_HORIZON]) sub (by simp)

/-! #### Replica groups -/

@[simp ↓] theorem State.only_hashBlocks {s t : State} {ps : Set Part} {a n : ℕ} (sub : Part.fetch ⊆ ps) (k : s.Only ps t) :
    s.Only ps (t.hashBlocks a n).1 :=
  State.Only.of_sub (by
    clear k
    induction n generalizing t a with
    | zero => exact .refl t _
    | succ n ih =>
      unfold State.hashBlocks; dsimp only
      exact .trans (by simp) ih) sub k

@[simp ↓] theorem State.only_imageBytes {s t : State} {ps : Set Part} {xs : List (ℕ × ℕ)} (sub : Part.fetch ⊆ ps) (k : s.Only ps t) :
    s.Only ps (t.imageBytes xs).1 :=
  State.Only.of_sub (by
    clear k
    induction xs generalizing t with
    | nil => exact .refl t _
    | cons x xs ih =>
      unfold State.imageBytes; dsimp only
      exact .trans (by simp) ih) sub k

@[simp ↓] theorem State.only_hashImage {s t : State} {ps : Set Part} {i : Image} {w : ℕ} (sub : Part.fetch ⊆ ps) (k : s.Only ps t) :
    s.Only ps (t.hashImage i w).1 :=
  State.Only.of_sub (by
    unfold State.hashImage; simp) sub k

@[simp ↓] theorem State.only_hashDue {s t : State} {ps : Set Part} {c : ℕ} (sub : {.images} ∪ Part.fetch ⊆ ps) (k : s.Only ps t) :
    s.Only ps (t.hashDue c) :=
  State.Only.of_sub (by
    unfold State.hashDue; split <;> simp) sub k

@[simp ↓] theorem State.only_report {s t : State} {ps : Set Part} {c : ℕ} {m : ℕ} {bs : List Byte} (sub : {.ctxs} ⊆ ps) :
    s.Only ps (t.report c m bs) ↔ s.Only ps t :=
  State.Only.iff (by
    unfold State.report; simp) sub (by simp)

@[simp ↓] theorem State.only_digestSend {s t : State} {ps : Set Part} {c : ℕ} (sub : {.ctxs, .leas, .reg .LEA_STATUS, .reg .LEA_CTRL_STAT} ⊆ ps) :
    s.Only ps (t.digestSend c) ↔ s.Only ps t :=
  State.Only.iff (by
    unfold State.digestSend; split <;> simp [F.LEA_STATUS_NODE_MISMATCH]) sub (by simp)

@[simp ↓] theorem State.only_expel {s t : State} {ps : Set Part} {c : ℕ} (sub : {.irq, .ctxs, .engines, .boot, .mem, .out, .flits, .latent, .chans, .leas, .jobs, .areas, .prods, .commits, .provs} ∪ Part.tusss ∪ Part.regs ⊆ ps) (k : s.Only ps t) :
    s.Only ps (t.expel c) :=
  State.Only.of_sub (by
    unfold State.expel; simp [F.GRS_REP_EXPELLED_EXPELLED, F.GRS_STATUS_EXPEL, F.GRS_REP_STATUS_EXPEL_CNT, F.GRS_REP_STATUS_PROBATION_FAIL_CNT]) sub k

@[simp ↓] theorem State.only_replicaDecision {s t : State} {ps : Set Part} {c : ℕ} (sub : {.ctxs, .irq, .engines, .boot, .mem, .out, .flits, .latent, .chans, .leas, .jobs, .areas, .prods, .commits, .provs} ∪ Part.tusss ∪ Part.regs ⊆ ps) (k : s.Only ps t) :
    s.Only ps (t.replicaDecision c) :=
  State.Only.of_sub (by
    unfold State.replicaDecision; dsimp only; repeat' split
    all_goals simp [F.GRS_REP_STATUS_FEW_CNT, F.GRS_REP_STATUS_NO_MAJ_CNT, *]) sub k

@[simp ↓] theorem State.only_readmit {s t : State} {ps : Set Part} {c : ℕ} (sub : {.ctxs, .reg .GRS_REP_EXPELLED} ⊆ ps) :
    s.Only ps (t.readmit c) ↔ s.Only ps t :=
  State.Only.iff (by
    unfold State.readmit; simp [F.GRS_REP_EXPELLED_EXPELLED]) sub (by simp)

/-! #### The commands -/

@[simp ↓] theorem keeps_execCheckSlot {ps : Set Part} {g : Tsk} {k₀ : Slot} {c : BitVec 8} (sub : {.tuss g, .reg .GRS_LANE_CNT, .reg .TSK_ARR_STATE} ⊆ ps) : State.Keeps ps (execCheckSlot g k₀ c) :=
  State.Keeps.mono (fun t => by
    exact ⟨_, rfl, by simp⟩) sub

@[simp ↓] theorem keeps_execCheckComparison {ps : Set Part} {g : Tsk} {k₀ : Slot} (sub : {.tuss g, .reg .GRS_LANE_STATUS, .reg .GRS_ARB_CNT, .reg .GRS_STATUS, .reg .TSK_QUAR_CAUSE} ∪ Part.event ⊆ ps) : State.Keeps ps (execCheckComparison g k₀) :=
  State.Keeps.mono (fun t => by
    exact ⟨_, rfl, by simp⟩) sub

@[simp ↓] theorem keeps_execArbitrationStart {ps : Set Part} {g : Tsk} (sub : {.tuss g, .reg .GRS_LANE_STATUS} ⊆ ps) : State.Keeps ps (execArbitrationStart g) :=
  State.Keeps.mono (fun t => by
    exact ⟨_, rfl, by simp⟩) sub

@[simp ↓] theorem keeps_execArbitrationDecide {ps : Set Part} {g : Tsk} (sub : {.irq, .latent, .chans, .mem, .out, .flits, .free, .engines, .boot, .leas, .jobs, .areas, .prods, .commits, .provs} ∪ Part.tusss ∪ Part.regs ⊆ ps) : State.Keeps ps (execArbitrationDecide g) :=
  State.Keeps.mono (fun t => by
    exact ⟨_, rfl, by simp⟩) sub

@[simp ↓] theorem keeps_execChecksumRefreshEnd {ps : Set Part} {g : Tsk} {a : Arr} (sub : {.tuss g, .reg .GRS_LANE_STATUS} ⊆ ps) : State.Keeps ps (execChecksumRefreshEnd g a) :=
  State.Keeps.mono (fun t => by
    exact ⟨_, rfl, by simp⟩) sub

@[simp ↓] theorem keeps_execRepairWritesPlace {ps : Set Part} {g : Tsk} (sub : {.reg .TSK_CONV_STATUS, .tuss g, .genSets, .reg .BRK_STATUS, .reg .BRK_CAL_CNT, .reg .BRK_ARR_CAL, .reg .TSK_ARR_STATE, .reg .CHN_ADM_BUDGET, .reg .TSK_CONV_CFG, .reg .TSK_ARR_WRITE} ∪ Part.read ⊆ ps) : State.Keeps ps (execRepairWritesPlace g) :=
  State.Keeps.mono (fun t => by
    exact ⟨_, rfl, by simp⟩) sub

@[simp ↓] theorem keeps_execRepairRerun {ps : Set Part} {g : Tsk} {dev : List (BitVec 8 × List (Fin 260 × ℤ))} (sub : {.tuss g, .reg .BRK_STATUS, .reg .TSK_CONV_SAT, .reg .GRS_ARB_CNT, .reg .GRS_STATUS, .reg .TSK_QUAR_CAUSE} ∪ Part.read ⊆ ps) : State.Keeps ps (execRepairRerun g dev) :=
  State.Keeps.mono (fun t => by
    exact ⟨_, rfl, by simp⟩) sub

@[simp ↓] theorem keeps_execTileReprogramming {ps : Set Part} {g : Tsk} (sub : {.reg .TSK_CONV_STATUS, .tuss g, .reg .TSK_CONV_CFG, .reg .TSK_ARR_STATE, .reg .BRK_STATUS, .reg .TSK_ARR_WRITE} ∪ Part.read ⊆ ps) : State.Keeps ps (execTileReprogramming g) :=
  State.Keeps.mono (fun t => by
    exact ⟨_, rfl, by simp⟩) sub

@[simp ↓] theorem keeps_execTokenDecision {ps : Set Part} {job : ℕ} (sub : Part.token ⊆ ps) : State.Keeps ps (execTokenDecision job) :=
  State.Keeps.mono (fun t => by
    exact ⟨_, rfl, by simp⟩) sub

@[simp ↓] theorem keeps_execProvEntryTimeout {ps : Set Part} {e : ℕ} (sub : {.jobs, .provs, .commits, .leas, .reg .LEA_STATUS, .reg .LEA_CTRL_STAT, .reg .GRS_PROV} ⊆ ps) : State.Keeps ps (execProvEntryTimeout e) :=
  State.Keeps.mono (fun t => by
    exact ⟨_, rfl, by simp⟩) sub

@[simp ↓] theorem keeps_execDigestSend {ps : Set Part} {c : Ctx} (sub : {.ctxs, .leas, .reg .LEA_STATUS, .reg .LEA_CTRL_STAT} ⊆ ps) : State.Keeps ps (execDigestSend c) :=
  State.Keeps.mono (fun t => by
    exact ⟨_, rfl, by simp⟩) sub

@[simp ↓] theorem keeps_execReplicaDecision {ps : Set Part} {c : Ctx} (sub : {.ctxs, .irq, .engines, .boot, .mem, .out, .flits, .latent, .chans, .leas, .jobs, .areas, .prods, .commits, .provs} ∪ Part.tusss ∪ Part.regs ⊆ ps) : State.Keeps ps (execReplicaDecision c) :=
  State.Keeps.mono (fun t => by
    exact ⟨_, rfl, by simp⟩) sub

@[simp ↓] theorem keeps_execReadmit {ps : Set Part} {c : Ctx} (sub : {.ctxs, .reg .GRS_REP_EXPELLED} ⊆ ps) : State.Keeps ps (execReadmit c) :=
  State.Keeps.mono (fun t => by
    exact ⟨_, rfl, by simp⟩) sub

@[simp ↓] theorem keeps_execFractionWrite {ps : Set Part} {v : BitVec 3} (sub : {.fractionOld, .fractionAt, .reg .GRS_STATUS, .reg .GRS_CFG} ⊆ ps) : State.Keeps ps (execFractionWrite v) :=
  State.Keeps.mono (fun t => by
    exact ⟨_, rfl, by simp⟩) sub

@[simp ↓] theorem keeps_execFractionChangeEffect {ps : Set Part} (sub : {.fractionOld, .fractionAt, .reg .GRS_STATUS} ⊆ ps) : State.Keeps ps execFractionChangeEffect :=
  State.Keeps.mono (fun t => by
    exact ⟨_, rfl, by simp⟩) sub

@[simp ↓] theorem keeps_execHorizonWrite {ps : Set Part} {v : BitVec 5} (sub : {.reg .GRS_STATUS, .reg .GRS_CFG} ⊆ ps) : State.Keeps ps (execHorizonWrite v) :=
  State.Keeps.mono (fun t => by
    exact ⟨_, rfl, by simp⟩) sub

@[simp ↓] theorem State.only_grsClrCnt {s t : State} {ps : Set Part} (sub : Part.regs ⊆ ps) :
    s.Only ps (t.grsClrCnt) ↔ s.Only ps t :=
  State.Only.iff (by
    unfold State.grsClrCnt; simp) sub (by simp)

@[simp ↓] theorem keeps_execGrsClrCnt {ps : Set Part} (sub : Part.regs ⊆ ps) : State.Keeps ps execGrsClrCnt :=
  State.Keeps.mono (fun t => by
    exact ⟨_, rfl, by simp⟩) sub

@[simp ↓] theorem keeps_execGrsClrPeak {ps : Set Part} (sub : {.reg .GRS_PROV} ⊆ ps) : State.Keeps ps execGrsClrPeak :=
  State.Keeps.mono (fun t => by
    exact ⟨_, rfl, by simp [F.GRS_PROV_PEAK]⟩) sub

/-! #### Passes -/

@[simp ↓] theorem State.only_passStart {s t : State} {ps : Set Part} {g : ℕ} (sub : {.tuss g, .reg .BRK_STATUS} ⊆ ps) :
    s.Only ps (t.passStart g) ↔ s.Only ps t :=
  State.Only.iff (by
    unfold State.passStart; simp [F.BRK_CFG_AUTO, F.TSK_RESTORE_TEMP_SENSOR_BROKEN, F.BRK_STATUS_PASS_ACTIVE]) sub (by simp)

@[simp ↓] theorem State.only_passEnd17 {s t : State} {ps : Set Part} {g : ℕ} (sub : {.tuss g, .reg .BRK_STATUS, .reg .BRK_CAL_TIME, .reg .BRK_CAL_CNT} ∪ Part.event ⊆ ps) :
    s.Only ps (t.passEnd17 g) ↔ s.Only ps t :=
  State.Only.iff (by
    unfold State.passEnd17
    simp [F.BRK_CAL_CNT_PASS_CNT, F.BRK_CAL_TIME_TIME, F.BRK_STATUS_PASS_DONE, F.BRK_CFG_IRQ_PASS, F.BRK_STATUS_PASS_ACTIVE]) sub (by simp)

@[simp ↓] theorem State.only_replan {s t : State} {ps : Set Part} {g : ℕ} (sub : {.tuss g} ⊆ ps) :
    s.Only ps (t.replan g) ↔ s.Only ps t :=
  State.Only.iff (by
    unfold State.replan; dsimp only; repeat' split
    all_goals simp [*]) sub (by simp)

@[simp ↓] theorem State.only_planWindow {s t : State} {ps : Set Part} {g : ℕ} (sub : {.tuss g, .reg .BRK_STATUS, .reg .BRK_CAL_TIME, .reg .BRK_CAL_CNT} ∪ Part.event ⊆ ps) :
    s.Only ps (t.planWindow g) ↔ s.Only ps t :=
  State.Only.iff (by
    unfold State.planWindow; dsimp only; repeat' split
    all_goals simp [*]) sub (by simp)

@[simp ↓] theorem State.only_askNow {s t : State} {ps : Set Part} {g : ℕ} (sub : {.tuss g, .reg .BRK_STATUS, .reg .BRK_CAL_TIME, .reg .BRK_CAL_CNT} ∪ Part.event ⊆ ps) :
    s.Only ps (t.askNow g) ↔ s.Only ps t :=
  State.Only.iff (by
    unfold State.askNow; simp) sub (by simp)

@[simp ↓] theorem State.only_placeWindow {s t : State} {ps : Set Part} {g : ℕ} {start : ℕ} {overdue : Bool} (sub : {.tuss g, .reg .BRK_DEFER, .reg .BRK_STATUS} ⊆ ps) :
    s.Only ps (t.placeWindow g start overdue) ↔ s.Only ps t :=
  State.Only.iff (by
    unfold State.placeWindow; split <;> simp [F.BRK_DEFER_OVERDUE_CNT, F.BRK_DEFER_WAIT, F.BRK_STATUS_OVERDUE]) sub (by simp)

/-! #### Stages -/

@[simp ↓] theorem State.only_setWindow {s t : State} {ps : Set Part} {g : ℕ} {w : Window} (sub : {.tuss g} ⊆ ps) :
    s.Only ps (t.setWindow g w) ↔ s.Only ps t :=
  State.Only.iff (by
    unfold State.setWindow; simp) sub (by simp)

@[simp ↓] theorem State.only_stageBegin {s t : State} {ps : Set Part} {g : ℕ} {w : Window} (sub : {.reg .TSK_CONV_STATUS, .tuss g, .reg .TSK_CONV_CFG, .reg .TSK_ARR_STATE, .reg .BRK_STATUS, .reg .TSK_ARR_WRITE} ∪ Part.read ⊆ ps) (k : s.Only ps t) :
    s.Only ps (t.stageBegin g w) :=
  State.Only.of_sub (by
    unfold State.stageBegin; split <;> simp) sub k

@[simp ↓] theorem State.only_arrayFault {s t : State} {ps : Set Part} {g : ℕ} {w : Window} (sub : {.genSets, .mem, .tuss g, .reg .BRK_STATUS, .reg .BRK_CAL_CNT, .reg .TSK_ARR_STATE, .reg .BRK_ARR_CAL, .reg .CHN_ADM_BUDGET} ∪ Part.event ⊆ ps) (k : s.Only ps t) :
    s.Only ps (t.arrayFault g w) :=
  State.Only.of_sub (by
    unfold State.arrayFault; simp) sub k

@[simp ↓] theorem State.only_stageDrivers {s t : State} {ps : Set Part} {g : ℕ} {w : Window} {f : CalFinding} (sub : {.genSets, .mem, .tuss g, .reg .BRK_ARR_CAL, .reg .BRK_STATUS, .reg .BRK_CAL_CNT, .reg .TSK_ARR_STATE, .reg .CHN_ADM_BUDGET} ∪ Part.event ⊆ ps) (k : s.Only ps t) :
    s.Only ps (t.stageDrivers g w f) :=
  State.Only.of_sub (by
    unfold State.stageDrivers; split
    all_goals
      rename_i heq
      have hu := State.Only.of_fst (s := t) (ps := {.genSets, .mem, .tuss g, .reg .BRK_ARR_CAL, .reg .BRK_STATUS, .reg .BRK_CAL_CNT, .reg .TSK_ARR_STATE, .reg .CHN_ADM_BUDGET} ∪ Part.event) heq (by simp)
      simp [hu]) sub k

@[simp ↓] theorem State.only_stageRound {s t : State} {ps : Set Part} {g : ℕ} {w : Window} {k₀ : ℕ} {f : CalFinding} (sub : {.chans, .tuss g, .reg .TSK_ARR_STATUS, .reg .BRK_STATUS} ⊆ ps) :
    s.Only ps (t.stageRound g w k₀ f) ↔ s.Only ps t :=
  State.Only.iff (by
    unfold State.stageRound; simp) sub (by simp)

@[simp ↓] theorem State.only_stageVerify {s t : State} {ps : Set Part} {g : ℕ} {w : Window} (sub : {.mem, .genSets, .tuss g, .reg .BRK_STATUS, .reg .BRK_LAST_FAIL} ∪ Part.event ⊆ ps) (k : s.Only ps t) :
    s.Only ps (t.stageVerify g w) :=
  State.Only.of_sub (by
    unfold State.stageVerify; simp) sub k

@[simp ↓] theorem State.only_stageCommit {s t : State} {ps : Set Part} {g : ℕ} {w : Window} (sub : {.mem, .genSets, .tuss g, .reg .BRK_STATUS, .reg .BRK_CAL_CNT} ∪ Part.event ⊆ ps) (k : s.Only ps t) :
    s.Only ps (t.stageCommit g w) :=
  State.Only.of_sub (by
    unfold State.stageCommit
    simp [F.TSK_CONV_CFG_RANGE, F.BRK_CAL_CNT_FAULT_CNT, F.BRK_STATUS_VERIFY_FAIL]) sub k

@[simp ↓] theorem State.only_calCycles {s t : State} {ps : Set Part} {g a : ℕ} {xs : List (ℕ × List (ℕ × ℤ))} (sub : {.tuss g} ⊆ ps) :
    s.Only ps (t.calCycles g a xs).1 ↔ s.Only ps t :=
  State.Only.iff (by
    induction xs generalizing t with
    | nil => exact .refl t _
    | cons x xs ih =>
      unfold State.calCycles; dsimp only; split
      · exact .trans (by simp) ih
      · exact ih) sub (by simp)

@[simp ↓] theorem State.only_stageOps {s t : State} {ps : Set Part} {g : ℕ} {w : Window} {f : CalFinding} (sub : {.genSets, .mem, .free, .tuss g, .reg .TSK_CONV_SAT, .reg .BRK_ARR_CAL, .reg .BRK_STATUS, .reg .BRK_CAL_CNT, .reg .TSK_ARR_STATE, .reg .CHN_ADM_BUDGET} ∪ Part.event ⊆ ps) (k : s.Only ps t) :
    s.Only ps (t.stageOps g w f) :=
  State.Only.of_sub (by
    unfold State.stageOps
    generalize hx : t.calCycles g w.arr _ = x
    have h : t.Only ({.genSets, .mem, .free, .tuss g, .reg .TSK_CONV_SAT, .reg .BRK_ARR_CAL, .reg .BRK_STATUS, .reg .BRK_CAL_CNT, .reg .TSK_ARR_STATE, .reg .CHN_ADM_BUDGET} ∪ Part.event) x.1 := hx ▸ by simp
    clear hx
    rcases x with ⟨u, ops⟩
    refine .trans h ?_
    dsimp only
    repeat' split
    all_goals simp [measured]) sub k

@[simp ↓] theorem State.only_nextStage {s t : State} {ps : Set Part} {g : ℕ} {f : CalFinding} (sub : {.irq, .latent, .chans, .mem, .out, .flits, .free, .genSets} ∪ Part.tusss ∪ Part.regs ⊆ ps) (k : s.Only ps t) :
    s.Only ps (t.nextStage g f) :=
  State.Only.of_sub (by
    unfold State.nextStage; repeat' split
    all_goals simp) sub k

@[simp ↓] theorem State.only_windowStage {s t : State} {ps : Set Part} {g : ℕ} {f : CalFinding} (sub : {.irq, .latent, .chans, .mem, .out, .flits, .free, .genSets} ∪ Part.tusss ∪ Part.regs ⊆ ps) (k : s.Only ps t) :
    s.Only ps (t.windowStage g f) :=
  State.Only.of_sub (by
    unfold State.windowStage; split <;> simp) sub k

/-! #### The end of a window -/

@[simp ↓] theorem State.only_passNote {s t : State} {ps : Set Part} {g : ℕ} {w : Window} (sub : {.tuss g, .reg .BRK_STATUS, .reg .BRK_CAL_CNT, .reg .TSK_ARR_STATE} ∪ Part.event ⊆ ps) :
    s.Only ps (t.passNote g w) ↔ s.Only ps t :=
  State.Only.iff (by
    unfold State.passNote; repeat' split
    all_goals simp) sub (by simp)

@[simp ↓] theorem State.only_repairColumn {s t : State} {ps : Set Part} {g : ℕ} {a : ℕ} {slot : ℕ} (sub : {.tuss g, .reg .BRK_STATUS, .reg .TSK_ARR_STATE} ⊆ ps) :
    s.Only ps (t.repairColumn g a slot) ↔ s.Only ps t :=
  State.Only.iff (by
    unfold State.repairColumn; simp) sub (by simp)

@[simp ↓] theorem State.only_repairNote {s t : State} {ps : Set Part} {g : ℕ} {w : Window} (sub : {.tuss g, .reg .BRK_STATUS, .reg .TSK_ARR_STATE} ⊆ ps) :
    s.Only ps (t.repairNote g w) ↔ s.Only ps t :=
  State.Only.iff (by
    unfold State.repairNote; simp) sub (by simp)

@[simp ↓] theorem State.only_windowEnd {s t : State} {ps : Set Part} {g : ℕ} (sub : {.genSets, .tuss g, .reg .BRK_STATUS, .reg .TSK_ARR_STATE, .reg .BRK_ARR_CAL, .reg .BRK_ARR_TIME, .reg .BRK_CAL_CNT, .reg .CHN_ADM_BUDGET} ∪ Part.event ⊆ ps) :
    s.Only ps (t.windowEnd g) ↔ s.Only ps t :=
  State.Only.iff (by
    unfold State.windowEnd; split <;> simp) sub (by simp)

/-! #### Bring-up -/

@[simp ↓] theorem State.only_calWhole {s t : State} {ps : Set Part} {g : ℕ} {a : ℕ} {fs : List CalFinding} (sub : {.genSets, .chans, .free, .mem, .tuss g, .reg .TSK_CONV_SAT, .reg .BRK_ARR_CAL, .reg .TSK_ARR_STATUS, .reg .BRK_LAST_FAIL, .reg .BRK_STATUS, .reg .BRK_ARR_TIME, .reg .BRK_CAL_CNT, .reg .TSK_ARR_STATE} ∪ Part.event ⊆ ps) (k : s.Only ps t) :
    s.Only ps (t.calWhole g a fs).1 :=
  State.Only.of_sub (by
    change t.OnlyFst _ _
    unfold State.calWhole
    extract_lets f ops p
    have hp : t.Only ({.genSets, .chans, .free, .mem, .tuss g, .reg .TSK_CONV_SAT, .reg .BRK_ARR_CAL, .reg .TSK_ARR_STATUS, .reg .BRK_LAST_FAIL, .reg .BRK_STATUS, .reg .BRK_ARR_TIME, .reg .BRK_CAL_CNT, .reg .TSK_ARR_STATE} ∪ Part.event) p.1 := by simp [p]
    clear_value p
    generalize hx : p.1.rowTests g a _ = x
    have h : p.1.Only ({.genSets, .chans, .free, .mem, .tuss g, .reg .TSK_CONV_SAT, .reg .BRK_ARR_CAL, .reg .TSK_ARR_STATUS, .reg .BRK_LAST_FAIL, .reg .BRK_STATUS, .reg .BRK_ARR_TIME, .reg .BRK_CAL_CNT, .reg .TSK_ARR_STATE} ∪ Part.event) x.1 := hx ▸ by simp
    clear hx
    revert h
    rcases x with ⟨u, _ | _⟩
    · exact fun h => hp.trans h
    refine fun h => hp.trans (h.trans (?_ : u.OnlyFst _ _))
    dsimp -zeta only
    extract_lets q v x old r w
    have hq : u.Only ({.genSets, .chans, .free, .mem, .tuss g, .reg .TSK_CONV_SAT, .reg .BRK_ARR_CAL, .reg .TSK_ARR_STATUS, .reg .BRK_LAST_FAIL, .reg .BRK_STATUS, .reg .BRK_ARR_TIME, .reg .BRK_CAL_CNT, .reg .TSK_ARR_STATE} ∪ Part.event) q.1 := State.only_foldl_fst (fun z k hz => by simp [hz]) (.refl u _)
    clear_value q
    have hr : v.Only ({.genSets, .chans, .free, .mem, .tuss g, .reg .TSK_CONV_SAT, .reg .BRK_ARR_CAL, .reg .TSK_ARR_STATUS, .reg .BRK_LAST_FAIL, .reg .BRK_STATUS, .reg .BRK_ARR_TIME, .reg .BRK_CAL_CNT, .reg .TSK_ARR_STATE} ∪ Part.event) r.1 := by simp [r]
    clear_value r
    refine hq.trans (hr.trans (?_ : w.OnlyFst _ _))
    split
    · change w.Only _ _
      unfold State.calWhole.failNote
      split <;> simp
    · change w.Only _ _
      unfold State.calWhole.failNote
      split <;> simp [F.BRK_CAL_CNT_FAULT_CNT, F.BRK_STATUS_VERIFY_FAIL]) sub k

@[simp ↓] theorem State.only_calWhole_failNote {s t : State} {ps : Set Part} {g : ℕ} {a : ℕ} {failed : List ℕ} (sub : {.tuss g, .reg .BRK_STATUS, .reg .TSK_ARR_STATE} ⊆ ps) :
    s.Only ps (State.calWhole.failNote g a t failed) ↔ s.Only ps t :=
  State.Only.iff (by
    unfold State.calWhole.failNote; simp) sub (by simp)

@[simp ↓] theorem State.only_bringupArray {s t : State} {ps : Set Part} {g : ℕ} {a : ℕ} {fs : List CalFinding} (sub : {.genSets, .chans, .free, .mem, .tuss g, .reg .TSK_CONV_SAT, .reg .BRK_ARR_CAL, .reg .TSK_ARR_STATUS, .reg .BRK_LAST_FAIL, .reg .BRK_STATUS, .reg .BRK_ARR_TIME, .reg .BRK_CAL_CNT, .reg .TSK_ARR_STATE} ∪ Part.event ⊆ ps) (k : s.Only ps t) :
    s.Only ps (t.bringupArray g a fs) :=
  State.Only.of_sub (by
    unfold State.bringupArray; split
    all_goals
      rename_i heq
      have hu := State.Only.of_fst (s := t) (ps := {.genSets, .chans, .free, .mem, .tuss g, .reg .TSK_CONV_SAT, .reg .BRK_ARR_CAL, .reg .TSK_ARR_STATUS, .reg .BRK_LAST_FAIL, .reg .BRK_STATUS, .reg .BRK_ARR_TIME, .reg .BRK_CAL_CNT, .reg .TSK_ARR_STATE} ∪ Part.event) heq (by simp)
    · exact hu
    · simp [hu]
    · split
      · exact hu
      · split
        all_goals
          rename_i heq₂
          have hv := State.Only.of_fst (s := t) (ps := {.genSets, .chans, .free, .mem, .tuss g, .reg .TSK_CONV_SAT, .reg .BRK_ARR_CAL, .reg .TSK_ARR_STATUS, .reg .BRK_LAST_FAIL, .reg .BRK_STATUS, .reg .BRK_ARR_TIME, .reg .BRK_CAL_CNT, .reg .TSK_ARR_STATE} ∪ Part.event) heq₂ (by simp [hu])
          simp [hv]) sub k

@[simp ↓] theorem State.only_bringupBegin {s t : State} {ps : Set Part} {g : ℕ} (sub : {.tuss g, .reg .BRK_STATUS, .reg .TSK_ARR_STATE} ⊆ ps) :
    s.Only ps (t.bringupBegin g) ↔ s.Only ps t :=
  State.Only.iff (by
    unfold State.bringupBegin; simp) sub (by simp)

@[simp ↓] theorem State.only_bringupEnd {s t : State} {ps : Set Part} {g : ℕ} {fs : List (ℕ × List CalFinding)} (sub : {.genSets, .chans, .free, .mem, .tuss g, .reg .TSK_CONV_SAT, .reg .BRK_ARR_CAL, .reg .TSK_ARR_STATUS, .reg .BRK_LAST_FAIL, .reg .BRK_STATUS, .reg .BRK_ARR_TIME, .reg .BRK_CAL_CNT, .reg .TSK_ARR_STATE, .reg .BRK_CAL_TIME} ∪ Part.event ⊆ ps) (k : s.Only ps t) :
    s.Only ps (t.bringupEnd g fs) :=
  State.Only.of_sub (by
    unfold State.bringupEnd; simp (disch := simp (disch := simp))) sub k

@[simp ↓] theorem State.only_bringup {s t : State} {ps : Set Part} {g : ℕ} {fs : List (ℕ × List CalFinding)} (sub : {.genSets, .chans, .free, .mem, .tuss g, .reg .BRK_STATUS, .reg .TSK_CONV_SAT, .reg .BRK_ARR_CAL, .reg .TSK_ARR_STATUS, .reg .BRK_LAST_FAIL, .reg .BRK_ARR_TIME, .reg .BRK_CAL_CNT, .reg .TSK_ARR_STATE, .reg .BRK_CAL_TIME} ∪ Part.event ⊆ ps) (k : s.Only ps t) :
    s.Only ps (t.bringup g fs) :=
  State.Only.of_sub (by
    unfold State.bringup; dsimp only; repeat' split
    all_goals simp [F.BRK_STATUS_SAVED_ACCEPTED, *]) sub k

/-! #### Trim access -/

@[simp ↓] theorem State.only_trimNext {s t : State} {ps : Set Part} {g : ℕ} (sub : {.reg .BRK_TRIM_SEL} ⊆ ps) :
    s.Only ps (t.trimNext g) ↔ s.Only ps t :=
  State.Only.iff (by
    unfold State.trimNext; simp [F.BRK_TRIM_SEL_AUTO_INC, F.BRK_TRIM_SEL_INDEX]) sub (by simp)

@[simp ↓] theorem State.only_trimWrite {s t : State} {ps : Set Part} {g : ℕ} {v : ℕ} (sub : {.genSets, .tuss g, .reg .BRK_TRIM_SEL, .reg .BRK_ARR_CAL, .reg .BRK_STATUS} ⊆ ps) :
    s.Only ps (t.trimWrite g v) ↔ s.Only ps t :=
  State.Only.iff (by
    unfold State.trimWrite; dsimp only; repeat' split
    all_goals simp [F.BRK_STATUS_TRIM_WR_REJECT, *]) sub (by simp)

/-! #### The commands -/

@[simp ↓] theorem keeps_execWindowStage {ps : Set Part} {g : Tsk} {f : CalFinding} (sub : {.irq, .latent, .chans, .mem, .out, .flits, .free, .genSets} ∪ Part.tusss ∪ Part.regs ⊆ ps) : State.Keeps ps (execWindowStage g f) :=
  State.Keeps.mono (fun t => by
    exact ⟨_, rfl, by simp⟩) sub

@[simp ↓] theorem keeps_execAbandonReturnValid {ps : Set Part} {g : Tsk} (sub : {.tuss g, .reg .BRK_STATUS, .reg .TSK_ARR_STATE} ⊆ ps) : State.Keeps ps (execAbandonReturnValid g) :=
  State.Keeps.mono (fun t => by
    exact ⟨_, rfl, by simp⟩) sub

@[simp ↓] theorem keeps_execRefgenApply {ps : Set Part} {g : Tsk} (sub : {.tuss g} ⊆ ps) : State.Keeps ps (execRefgenApply g) :=
  State.Keeps.mono (fun t => by
    exact ⟨_, rfl, by simp⟩) sub

@[simp ↓] theorem keeps_execBringupCalibration {ps : Set Part} {g : Tsk} {fs : List (Arr × List CalFinding)} (sub : {.genSets, .chans, .free, .mem, .tuss g, .reg .BRK_STATUS, .reg .TSK_CONV_SAT, .reg .BRK_ARR_CAL, .reg .TSK_ARR_STATUS, .reg .BRK_LAST_FAIL, .reg .BRK_ARR_TIME, .reg .BRK_CAL_CNT, .reg .TSK_ARR_STATE, .reg .BRK_CAL_TIME} ∪ Part.event ⊆ ps) : State.Keeps ps (execBringupCalibration g fs) :=
  State.Keeps.mono (fun t => by
    exact ⟨_, rfl, by simp⟩) sub

@[simp ↓] theorem keeps_execBrkStartPass {ps : Set Part} {g : Tsk} (sub : {.tuss g} ⊆ ps) : State.Keeps ps (execBrkStartPass g) :=
  State.Keeps.mono (fun t => by
    exact ⟨_, rfl, by simp⟩) sub

@[simp ↓] theorem keeps_execBrkAbort {ps : Set Part} {g : Tsk} (sub : {.tuss g} ⊆ ps) : State.Keeps ps (execBrkAbort g) :=
  State.Keeps.mono (fun t => by
    exact ⟨_, rfl, by simp⟩) sub

@[simp ↓] theorem State.only_brkClrCnt {s t : State} {ps : Set Part} {g : ℕ} (sub : {.reg .BRK_DEFER, .reg .BRK_CAL_CNT} ⊆ ps) :
    s.Only ps (t.brkClrCnt g) ↔ s.Only ps t :=
  State.Only.iff (by
    unfold State.brkClrCnt; simp [F.BRK_CAL_CNT_ABANDON_CNT, F.BRK_CAL_CNT_FAULT_CNT, F.BRK_DEFER_OVERDUE_CNT]) sub (by simp)

@[simp ↓] theorem keeps_execBrkClrCnt {ps : Set Part} {g : Tsk} (sub : {.reg .BRK_DEFER, .reg .BRK_CAL_CNT} ⊆ ps) : State.Keeps ps (execBrkClrCnt g) :=
  State.Keeps.mono (fun t => by
    exact ⟨_, rfl, by simp⟩) sub

@[simp ↓] theorem keeps_execTrimDataRead {ps : Set Part} {g : Tsk} {r : Agent} (sub : {.host, .mgmt, .reg .BRK_TRIM_SEL} ⊆ ps) : State.Keeps ps (execTrimDataRead g r) :=
  State.Keeps.mono (fun t => by
    exact ⟨_, rfl, by simp⟩) sub

@[simp ↓] theorem keeps_execTrimDataWrite {ps : Set Part} {g : Tsk} {v : Word} (sub : {.genSets, .tuss g, .reg .BRK_TRIM_SEL, .reg .BRK_ARR_CAL, .reg .BRK_STATUS} ⊆ ps) : State.Keeps ps (execTrimDataWrite g v) :=
  State.Keeps.mono (fun t => by
    exact ⟨_, rfl, by simp⟩) sub

/-! #### The effect of a change -/

@[simp ↓] theorem State.only_effectNow {s t : State} {ps : Set Part} {c : ℕ} (sub : {.ctxs, .reg .GLB_CTX_STATE, .reg .GLB_CTX_TID, .reg .GLB_CTX_PTR} ⊆ ps) :
    s.Only ps (t.effectNow c) ↔ s.Only ps t :=
  State.Only.iff (by
    unfold State.effectNow; dsimp only; repeat' split
    all_goals simp [F.GLB_CTX_STATE_STATE, F.GLB_CTX_STATE_PENDING, F.GLB_CTX_PTR_PTR, F.GLB_CTX_STATE_VERSION, F.GLB_CTX_STATE_OLD_BUSY, F.GLB_CTX_TID_OLD_TID, F.GLB_CTX_TID_CUR_TID, *]) sub (by simp)

@[simp ↓] theorem State.only_changeEffect {s t : State} {ps : Set Part} {c : ℕ} (sub : {.ctxs, .reg .GLB_CTX_STATE, .reg .GLB_CTX_TID, .reg .GLB_CTX_PTR} ⊆ ps) :
    s.Only ps (t.changeEffect c) ↔ s.Only ps t :=
  State.Only.iff (by
    unfold State.changeEffect; simp) sub (by simp)

@[simp ↓] theorem State.only_rqWrite {s t : State} {ps : Set Part} {c : ℕ} (sub : {.reg .TSK_CONV_STATUS, .ctxs} ∪ Part.read ∪ Part.tusss ⊆ ps) (k : s.Only ps t) :
    s.Only ps (t.rqWrite c) :=
  State.Only.of_sub (by
    unfold State.rqWrite; split
    · exact .refl t _
    · extract_lets due u
      refine .trans (t := u) (State.only_foldl (fun v p => ?_) (.refl t _)) (by simp)
      split
      · simp
      · exact .refl v _) sub k

/-! #### An engine and its ring -/

@[simp ↓] theorem State.only_engErr {s t : State} {ps : Set Part} {k₀ : ℕ} {f : Fld} (sub : {.reg f.r} ∪ Part.event ⊆ ps) :
    s.Only ps (t.engErr k₀ f) ↔ s.Only ps t :=
  State.Only.iff (by
    unfold State.engErr; simp) sub (by simp)

@[simp ↓] theorem State.only_ringErr {s t : State} {ps : Set Part} {k₀ : ℕ} (sub : {.engines, .reg .CHN_ENG_STATUS} ∪ Part.event ⊆ ps) :
    s.Only ps (t.ringErr k₀) ↔ s.Only ps t :=
  State.Only.iff (by
    unfold State.ringErr; dsimp only
    simp [F.CHN_ENG_STATUS_RING_ERR, *]) sub (by simp)

@[simp ↓] theorem State.only_ringRead {s t : State} {ps : Set Part} {k₀ : ℕ} (sub : {.engines, .reg .CHN_ENG_STATUS, .reg .CHN_ENG_PROD} ∪ Part.read ⊆ ps) (k : s.Only ps t) :
    s.Only ps (t.ringRead k₀) :=
  State.Only.of_sub (by
    unfold State.ringRead; repeat' split
    all_goals
      simp only [Prod.ext_iff] at *
      cases_type* And
      subst_vars
      simp [F.CHN_ENG_PROD_PROD, *]) sub k

@[simp ↓] theorem State.only_ctrlWrite {s t : State} {ps : Set Part} {k₀ : ℕ} (sub : Part.gwrite ⊆ ps) (k : s.Only ps t) :
    s.Only ps (t.ctrlWrite k₀) :=
  State.Only.of_sub (by
    unfold State.ctrlWrite; simp) sub k

/-! #### Ring heads -/

@[simp ↓] theorem State.only_readLists {s t : State} {ps : Set Part} {n : ℕ} {d : ℕ} {cs : List (List ℕ × ℕ)} (sub : Part.read ⊆ ps) (k : s.Only ps t) :
    s.Only ps (t.readLists n d cs).1 :=
  State.Only.of_sub (by
    clear k
    induction cs generalizing t with
    | nil => exact .refl t _
    | cons c cs ih =>
      unfold State.readLists; split
      · split
        all_goals
          rename_i heq
          exact .trans (.of_fst heq (by simp)) ih
      · exact ih) sub k

@[simp ↓] theorem State.only_readProf {s t : State} {ps : Set Part} {j : Job} {prof : Option (List ℕ)} (sub : Part.read ⊆ ps) (k : s.Only ps t) :
    s.Only ps (t.readProf j prof).1 :=
  State.Only.of_sub (by
    unfold State.readProf; dsimp only; repeat' split
    all_goals
      try simp only [Prod.ext_iff] at *
      try cases_type* And
      subst_vars
      simp (disch := simp (disch := simp [*]) [*]) [*]) sub k

@[simp ↓] theorem State.only_checkJob {s t : State} {ps : Set Part} {j : Job} {prof : Option (List ℕ)} {found : List (ℕ × ℕ)} (sub : Part.read ⊆ ps) (k : s.Only ps t) :
    s.Only ps (t.checkJob j prof found).1 :=
  State.Only.of_sub (by
    unfold State.checkJob; simp) sub k

@[simp ↓] theorem State.only_readBody {s t : State} {ps : Set Part} {k₀ : ℕ} {i : ℕ} {ix : ℕ} {n : ℕ} (sub : Part.read ⊆ ps) (k : s.Only ps t) :
    s.Only ps (t.readBody k₀ i ix n).1 :=
  State.Only.of_sub (by
    clear k
    induction n generalizing t i ix with
    | zero => exact .refl t _
    | succ n ih =>
      unfold State.readBody; split
      all_goals
        rename_i heq
        exact .trans (.of_fst heq (by simp)) ih) sub k

@[simp ↓] theorem State.only_headK2 {s t : State} {ps : Set Part} {k₀ : ℕ} (sub : Part.read ⊆ ps) (k : s.Only ps t) :
    s.Only ps (t.headK2 k₀).1 :=
  State.Only.of_sub (by
    unfold State.headK2; dsimp only; repeat' split
    all_goals
      try simp only [Prod.ext_iff] at *
      try cases_type* And
      subst_vars
      simp (disch := simp (disch := simp [*]) [*]) [*]) sub k

/-! #### The K1 front end -/

@[simp ↓] theorem State.only_k1Prof {s t : State} {ps : Set Part} {n : ℕ} {pkg : ℕ} (sub : Part.read ⊆ ps) (k : s.Only ps t) :
    s.Only ps (t.k1Prof n pkg).1 :=
  State.Only.of_sub (by
    unfold State.k1Prof; dsimp only; repeat' split
    all_goals
      simp only [Prod.ext_iff] at *
      cases_type* And
      subst_vars
      simp [*]) sub k

/-- `State.k1Run` with the reads of memory and the check of the job left open. -/
def State.k1RunBy (engRead : State → ℕ → ℕ → ℕ → State × (ℕ ⊕ List Byte))
    (checkJob : State → Job → Option (List ℕ) → List (ℕ × ℕ) → State × Job × Option (ℕ × ℕ)) (s : State) (k : Nat) (w : List Nat) :
    State × Head :=
  let n := k / 4
  let bad (s : State) (st a : Nat) : State × Head := (s, s.k1Reject k w st a)
  let entry := (s.chan n).k1Tmpl * 8 + tfld w 0 5 6 * 8
  match engRead s n entry 8 with
  | (s, .inl st) => bad s st entry
  | (s, .inr p) =>
    let t := leNat p % 2 ^ 48
    match engRead s n t 32 with
    | (s, .inl st) => bad s st t
    | (s, .inr bs) =>
      let h := words8 bs
      let ncmd := tfld h 1 0 12
      match engRead s n (t + 32) (ncmd * 32) with
      | (s, .inl st) => bad s st (t + 32)
      | (s, .inr body) =>
        let cs := entries32 body ncmd
        let isCopy (c : Option (List Nat)) : Bool := (c.map cmdOp) == some 3
        if cmdOp h = 1 ∧ isCopy cs.head? = true ∧ isCopy cs.getLast? = true then
          let h0 := h.getD 0 0
          let h0 := h0 - tfld h 0 20 9 * 2 ^ 20 + (s.chan n).k1Hold * 2 ^ 20 + tfld w 0 4 1 * 2 ^ 28
          let h := ((h.set 0 h0).set 6 (tfld w 3 0 16)).set 7 0
          let j := s.newJob k h (k1Patch cs (w.getD 1 0 * 256) (w.getD 2 0 * 256)) true
          let beyond := (j.body.filter fun c => !k1Reach c.1).map fun c => (0x02, c.2)
          let (s, j, f) := checkJob s j none beyond
          (s, .job j 1 f)
        else bad s 0x02 t

theorem State.k1Run_eq : State.k1Run = State.k1RunBy State.engRead State.checkJob := by
  delta State.k1Run State.k1RunBy; rfl

theorem State.only_k1RunBy {engRead : State → ℕ → ℕ → ℕ → State × (ℕ ⊕ List Byte)}
    {checkJob : State → Job → Option (List ℕ) → List (ℕ × ℕ) → State × Job × Option (ℕ × ℕ)} {qs : Set Part} {t : State} {k : ℕ}
    {w : List ℕ} (hr : ∀ (t : State) n a k, t.Only qs (engRead t n a k).1) (hc : ∀ (t : State) j p f, t.Only qs (checkJob t j p f).1) :
    t.Only qs (t.k1RunBy engRead checkJob k w).1 := by
  unfold State.k1RunBy
  dsimp only
  generalize (t.chan (k / 4)).k1Tmpl * 8 + tfld w 0 5 6 * 8 = entry
  have h := hr t (k / 4) entry 8
  revert h
  rcases engRead t (k / 4) entry 8 with ⟨u, _ | p⟩
  · exact id
  refine fun h => h.trans (?_ : u.OnlyFst _ _)
  dsimp only
  generalize leNat p % 2 ^ 48 = a
  have h := hr u (k / 4) a 32
  revert h
  rcases engRead u (k / 4) a 32 with ⟨v, _ | bs⟩
  · exact id
  refine fun h => h.trans (?_ : v.OnlyFst _ _)
  dsimp only
  have h := hr v (k / 4) (a + 32) (tfld (words8 bs) 1 0 12 * 32)
  revert h
  rcases engRead v (k / 4) (a + 32) (tfld (words8 bs) 1 0 12 * 32) with ⟨w', _ | body⟩
  · exact id
  refine fun h => h.trans (?_ : w'.OnlyFst _ _)
  dsimp only
  split
  · exact hc w' _ _ _
  · exact .refl w' _

@[simp ↓] theorem State.only_k1Run {s t : State} {ps : Set Part} {k₀ : ℕ} {w : List ℕ} (sub : Part.read ⊆ ps) (k : s.Only ps t) :
    s.Only ps (t.k1Run k₀ w).1 :=
  State.Only.of_sub (by
    rw [State.k1Run_eq]
    exact State.only_k1RunBy (fun t n a k => by simp) (fun t j p f => by simp)) sub k

/-- `State.k1Load` with the read of the profile and the check of the job left open. -/
def State.k1LoadBy (k1Prof : State → ℕ → ℕ → State × (ℕ ⊕ ℕ × List ℕ))
    (checkJob : State → Job → Option (List ℕ) → List (ℕ × ℕ) → State × Job × Option (ℕ × ℕ)) (s : State) (k : Nat) (w : List Nat) :
    State × Head :=
  let n := k / 4
  let pkg := w.getD 1 0 * 256
  match k1Prof s n pkg with
  | (s, .inl st) => (s, s.k1Reject k w st pkg)
  | (s, .inr (d, prof)) =>
    let ctx := tfld w 0 5 6
    let dst := (Config.k1Dest ctx pkg).toNat * 256
    let j := s.newJob k (jobWords 4095 (s.chan n).k1Hold (tfld w 0 4 1) 1 1 d prof.length (tfld w 3 0 16))
      [[5 + ctx * 2 ^ 20, tfld w 0 11 21, pkg % 2 ^ 32, pkg / 2 ^ 32, dst % 2 ^ 32, dst / 2 ^ 32, 0, 0]] true
    let (s, j, f) := checkJob s j (some prof) []
    (s, .job j 1 f)

theorem State.k1Load_eq : State.k1Load = State.k1LoadBy State.k1Prof State.checkJob := by
  delta State.k1Load State.k1LoadBy; rfl

theorem State.only_k1LoadBy {k1Prof : State → ℕ → ℕ → State × (ℕ ⊕ ℕ × List ℕ)}
    {checkJob : State → Job → Option (List ℕ) → List (ℕ × ℕ) → State × Job × Option (ℕ × ℕ)} {qs : Set Part} {t : State} {k : ℕ}
    {w : List ℕ} (hp : ∀ (t : State) n a, t.Only qs (k1Prof t n a).1) (hc : ∀ (t : State) j p f, t.Only qs (checkJob t j p f).1) :
    t.Only qs (t.k1LoadBy k1Prof checkJob k w).1 := by
  unfold State.k1LoadBy
  dsimp only
  have h := hp t (k / 4) (w.getD 1 0 * 256)
  revert h
  rcases k1Prof t (k / 4) (w.getD 1 0 * 256) with ⟨u, _ | ⟨d, prof⟩⟩
  · exact id
  · exact fun h => h.trans (hc u _ _ _)


@[simp ↓] theorem State.only_k1Load {s t : State} {ps : Set Part} {k₀ : ℕ} {w : List ℕ} (sub : Part.read ⊆ ps) (k : s.Only ps t) :
    s.Only ps (t.k1Load k₀ w).1 :=
  State.Only.of_sub (by
    rw [State.k1Load_eq]
    exact State.only_k1LoadBy (fun t n a => by simp) (fun t j p f => by simp)) sub k

@[simp ↓] theorem State.only_headK1 {s t : State} {ps : Set Part} {k₀ : ℕ} (sub : Part.read ⊆ ps) (k : s.Only ps t) :
    s.Only ps (t.headK1 k₀).1 :=
  State.Only.of_sub (by
    unfold State.headK1; dsimp only; repeat' split
    all_goals
      try simp only [Prod.ext_iff] at *
      try cases_type* And
      subst_vars
      simp (disch := simp (disch := simp [*]) [*]) [*]) sub k

@[simp ↓] theorem State.only_head {s t : State} {ps : Set Part} {k₀ : ℕ} (sub : Part.read ⊆ ps) (k : s.Only ps t) :
    s.Only ps (t.head k₀).1 :=
  State.Only.of_sub (by
    unfold State.head; simp [F.CHN_ENG_CFG_FMT]) sub k

/-! #### Taking a job -/

@[simp ↓] theorem State.only_advance {s t : State} {ps : Set Part} {k₀ : ℕ} {n : ℕ} (sub : {.reg .CHN_ENG_CONS} ⊆ ps) :
    s.Only ps (t.advance k₀ n) ↔ s.Only ps t :=
  State.Only.iff (by
    unfold State.advance; simp [F.CHN_ENG_CONS_CONS]) sub (by simp)

@[simp ↓] theorem State.only_slotFree {s t : State} {ps : Set Part} {k₀ : ℕ} (sub : {.reg .CHN_ENG_STATUS} ∪ Part.event ⊆ ps) :
    s.Only ps (t.slotFree k₀).1 ↔ s.Only ps t :=
  State.Only.iff (by
    unfold State.slotFree; dsimp only; repeat' split
    all_goals simp [F.CHN_ENG_STATUS_CPL_FULL, F.CHN_ENG_STATUS_CPL_EARLY, *]) sub (by simp)

@[simp ↓] theorem State.only_batchTake {s t : State} {ps : Set Part} {j : Job} (sub : {.reg .GLB_CTX_STATE} ⊆ ps) :
    s.Only ps (t.batchTake j) ↔ s.Only ps t :=
  State.Only.iff (by
    unfold State.batchTake; simp [F.GLB_CTX_STATE_BATCH_OPEN]) sub (by simp)

@[simp ↓] theorem State.only_take {s t : State} {ps : Set Part} {k₀ : ℕ} {n : ℕ} {j : Job} (sub : {.jobs, .nextJob, .engines, .reg .CHN_ENG_STATUS, .reg .CHN_ENG_JOBS, .reg .CHN_ENG_CONS, .reg .GLB_CTX_STATE, .reg .CHN_TAGS} ⊆ ps) :
    s.Only ps (t.take k₀ n j) ↔ s.Only ps t :=
  State.Only.iff (by
    unfold State.take; simp [F.GLB_CTX_PTR_PTR, F.CHN_ENG_JOBS_JOBS, F.CHN_ENG_STATUS_HELD]) sub (by simp)

@[simp ↓] theorem State.only_takeEnded {s t : State} {ps : Set Part} {k₀ : ℕ} {n : ℕ} {j : Job} {status : ℕ} {cmd : ℕ} {cause : ℕ} (sub : {.jobs, .nextJob, .engines, .reg .CHN_ENG_STATUS, .reg .CHN_ENG_JOBS, .reg .CHN_ENG_CONS, .reg .GLB_CTX_STATE, .reg .CHN_TAGS} ⊆ ps) :
    s.Only ps (t.takeEnded k₀ n j status cmd cause) ↔ s.Only ps t :=
  State.Only.iff (by
    unfold State.takeEnded; simp [F.CHN_ENG_STATUS_BADCMD_CNT]) sub (by simp)

@[simp ↓] theorem State.only_peaks {s t : State} {ps : Set Part} {j : Job} (sub : {.reg .CHN_ADM_SAT} ⊆ ps) :
    s.Only ps (t.peaks j) ↔ s.Only ps t :=
  State.Only.iff (by
    unfold State.peaks
    all_goals
      refine State.only_foldl (fun u x => ?_) (by simp [F.CHN_ADM_SAT_PEAK, *])
    simp [F.CHN_ADM_SAT_PEAK, *]) sub (by simp)

@[simp ↓] theorem State.only_admitJob {s t : State} {ps : Set Part} {k₀ : ℕ} {n : ℕ} {j : Job} {sl : ℕ} {sh : Share} (sub : {.jobs, .nextJob, .engines, .reg .CHN_ADM_SAT, .reg .CHN_ADM_ADMITTED, .reg .CHN_ENG_STATUS, .reg .CHN_ENG_JOBS, .reg .CHN_ENG_CONS, .reg .GLB_CTX_STATE, .reg .CHN_TAGS} ⊆ ps) :
    s.Only ps (t.admitJob k₀ n j sl sh) ↔ s.Only ps t :=
  State.Only.iff (by
    unfold State.admitJob; simp [F.CHN_ADM_ADMITTED_COUNT]) sub (by simp)

@[simp ↓] theorem State.only_refuse {s t : State} {ps : Set Part} {k₀ : ℕ} {n : ℕ} {j : Job} {cause : ℕ} {others : List (ℕ × ℕ)} {throttled : Bool} (sub : {.jobs, .nextJob, .engines, .reg .CHN_ADM_SAT, .reg .CHN_ADM_REFUSED, .reg .CHN_ENG_STATUS, .reg .CHN_ENG_JOBS, .reg .CHN_ENG_CONS, .reg .GLB_CTX_STATE, .reg .CHN_TAGS} ⊆ ps) :
    s.Only ps (t.refuse k₀ n j cause others throttled) ↔ s.Only ps t :=
  State.Only.iff (by
    unfold State.refuse; simp [F.CHN_ADM_REFUSED_REFUSED, F.CHN_ADM_SAT_REFUSED_CNT, F.CHN_ADM_REFUSED_THROTTLED]) sub (by simp)

@[simp ↓] theorem State.only_hold {s t : State} {ps : Set Part} {k₀ : ℕ} {left : ℕ} (sub : {.engines, .reg .CHN_ADM_HELD, .reg .CHN_ENG_STATUS} ⊆ ps) :
    s.Only ps (t.hold k₀ left) ↔ s.Only ps t :=
  State.Only.iff (by
    unfold State.hold; simp [F.CHN_ENG_STATUS_HELD, F.CHN_ADM_HELD_HELD]) sub (by simp)

@[simp ↓] theorem State.only_decideJob {s t : State} {ps : Set Part} {k₀ : ℕ} {n : ℕ} {j : Job} (sub : {.jobs, .nextJob, .engines, .reg .CHN_ADM_SAT, .reg .CHN_ADM_REFUSED, .reg .CHN_ENG_STATUS, .reg .CHN_ENG_JOBS, .reg .CHN_ENG_CONS, .reg .GLB_CTX_STATE, .reg .CHN_TAGS, .reg .CHN_ADM_ADMITTED, .reg .CHN_ADM_HELD} ⊆ ps) :
    s.Only ps (t.decideJob k₀ n j) ↔ s.Only ps t :=
  State.Only.iff (by
    unfold State.decideJob; dsimp only; repeat' split
    all_goals simp [*]) sub (by simp)

@[simp ↓] theorem State.only_grant {s t : State} {ps : Set Part} {k₀ : ℕ} (sub : {.irq, .latent, .chans, .mem, .out, .flits, .free, .engines, .jobs, .nextJob} ∪ Part.tusss ∪ Part.regs ⊆ ps) (k : s.Only ps t) :
    s.Only ps (t.grant k₀).1 :=
  State.Only.of_sub (by
    unfold State.grant; repeat' split
    all_goals
      simp only [Prod.ext_iff] at *
      cases_type* And
      subst_vars
      simp [*]) sub k

/-! #### Admission at a boundary -/

@[simp ↓] theorem State.only_skipHeads {s t : State} {ps : Set Part} {k₀ : ℕ} {fuel : ℕ} (sub : {.irq, .latent, .chans, .mem, .out, .flits, .free, .engines, .jobs, .nextJob} ∪ Part.tusss ∪ Part.regs ⊆ ps) (k : s.Only ps t) :
    s.Only ps (t.skipHeads k₀ fuel) :=
  State.Only.of_sub (by
    clear k
    induction fuel generalizing t with
    | zero => exact .refl t _
    | succ n ih =>
      unfold State.skipHeads; split
      · exact .refl t _
      · exact .refl t _
      · exact .trans (by simp) ih) sub k

@[simp ↓] theorem State.only_grantTo {s t : State} {ps : Set Part} {n : ℕ} {e : ℕ} (sub : {.irq, .latent, .chans, .mem, .out, .flits, .free, .engines, .jobs, .nextJob} ∪ Part.tusss ∪ Part.regs ⊆ ps) (k : s.Only ps t) :
    s.Only ps (t.grantTo n e) :=
  State.Only.of_sub (by
    unfold State.grantTo; simp) sub k

/-- `State.grants` with the admission of one job left open. -/
def State.grantsBy (adm : State → ℕ → Bool) (skip : State → ℕ → ℕ → State) (span : State → ℕ → Option (ℕ × Job))
    (next : State → ℕ → Option ℕ) (grantTo : State → ℕ → ℕ → State) (grant : State → ℕ → State × Bool)  (s : State) (n : Nat) : Nat → State
  | 0 => s
  | fuel + 1 =>
    if !adm s n then s
    else
      let s := (List.range 4).foldl (fun (s : State) e => skip s (4 * n + e) (s.submitted (4 * n + e))) s
      if (span s n).isSome then s
      else match next s n with
      | some e => (grantTo s n e).grantsBy adm skip span next grantTo grant n fuel
      | none => (List.range 4).foldl (fun (s : State) e => (grant s (4 * n + e)).1) s

theorem State.grants_eq : State.grants = State.grantsBy State.admOpen State.skipHeads State.spanNext State.nextEngine State.grantTo State.grant := by
  delta State.grants State.grants._f State.grantsBy State.grantsBy._f; rfl

theorem State.only_grantsBy {adm : State → ℕ → Bool} {skip : State → ℕ → ℕ → State} {span : State → ℕ → Option (ℕ × Job)}
    {next : State → ℕ → Option ℕ} {grantTo : State → ℕ → ℕ → State} {grant : State → ℕ → State × Bool} {t : State} {n : ℕ} {fuel : ℕ} {ps : Set Part} (h1 : ∀ (t : State) k x, t.Only ps (skip t k x)) (h2 : ∀ (t : State) k x, t.Only ps (grantTo t k x)) (h3 : ∀ (t : State) k, t.Only ps (grant t k).1) :
    t.Only ps (t.grantsBy adm skip span next grantTo grant n fuel) := by
    induction fuel generalizing t with
    | zero => exact .refl t _
    | succ m ih =>
      unfold State.grantsBy; split
      · exact .refl t _
      · extract_lets u
        refine .trans (t := u) (State.only_foldl (fun v e => h1 _ _ _) (.refl t _)) ?_
        clear_value u
        split
        · exact .refl u _
        · split
          · exact .trans (h2 _ _ _) ih
          · exact State.only_foldl (fun v e => h3 _ _) (.refl u _)

@[simp ↓] theorem State.only_grants {s t : State} {ps : Set Part} {n : ℕ} {fuel : ℕ} (sub : {.irq, .latent, .chans, .mem, .out, .flits, .free, .engines, .jobs, .nextJob} ∪ Part.tusss ∪ Part.regs ⊆ ps) (k : s.Only ps t) :
    s.Only ps (t.grants n fuel) :=
  State.Only.of_sub (by
    rw [State.grants_eq]
    exact State.only_grantsBy (fun t k x => by simp) (fun t k x => by simp) (fun t k => by simp)) sub k

@[simp ↓] theorem State.only_grantSpan {s t : State} {ps : Set Part} {n : ℕ} {e : ℕ} {j : Job} (sub : {.irq, .latent, .chans, .mem, .out, .flits, .free, .engines, .jobs, .nextJob} ∪ Part.tusss ∪ Part.regs ⊆ ps) (k : s.Only ps t) :
    s.Only ps (t.grantSpan n e j) :=
  State.Only.of_sub (by
    unfold State.grantSpan; simp (disch := simp (disch := simp))) sub k

/-- `State.grantAll` with the admission of a channel and of a job over several left open. -/
def State.grantAllBy (max : State → ℕ → ℕ) (turn : State → Option (ℕ × ℕ × Job))
    (grants : State → ℕ → ℕ → State) (span : State → ℕ → ℕ → Job → State) (s : State) : ℕ → State
  | 0 => s
  | fuel + 1 =>
    let s := (List.range 4).foldl (fun (s : State) n => grants s n (max s n)) s
    match turn s with
    | none => s
    | some (n, e, j) => (span s n e j).grantAllBy max turn grants span fuel

theorem State.grantAll_eq : State.grantAll = State.grantAllBy State.admMax State.spanTurn State.grants State.grantSpan := by
  delta State.grantAll State.grantAll._f State.grantAllBy State.grantAllBy._f
  generalize State.admMax = max, State.spanTurn = turn, State.grants = grants, State.grantSpan = span
  rfl

theorem State.only_grantAllBy {max : State → ℕ → ℕ} {turn : State → Option (ℕ × ℕ × Job)}
    {grants : State → ℕ → ℕ → State} {span : State → ℕ → ℕ → Job → State} {t : State} {fuel : ℕ}
    {ps : Set Part} (hg : ∀ (t : State) n k, t.Only ps (grants t n k)) (hs : ∀ (t : State) n e j, t.Only ps (span t n e j)) :
    t.Only ps (t.grantAllBy max turn grants span fuel) := by
  induction fuel generalizing t with
  | zero => exact .refl t _
  | succ m ih =>
    unfold State.grantAllBy
    extract_lets u
    refine .trans (t := u) (State.only_foldl (fun v e => hg _ _ _) (.refl t _)) ?_
    clear_value u
    split
    · exact .refl u _
    · exact .trans (hs _ _ _ _) ih

@[simp ↓] theorem State.only_grantAll {s t : State} {ps : Set Part} {fuel : ℕ} (sub : {.irq, .latent, .chans, .mem, .out, .flits, .free, .engines, .jobs, .nextJob} ∪ Part.tusss ∪ Part.regs ⊆ ps) (k : s.Only ps t) :
    s.Only ps (t.grantAll fuel) :=
  State.Only.of_sub (by
    rw [State.grantAll_eq]
    exact State.only_grantAllBy (fun t n k => by simp) (fun t n e j => by simp)) sub k

/-! #### Before the first job of a boundary -/

@[simp ↓] theorem State.only_enable {s t : State} {ps : Set Part} {k₀ : ℕ} (sub : {.reg .TSK_CONV_STATUS, .engines, .reg .CHN_TAGS, .reg .CHN_ENG_STATUS, .reg .CHN_ENG_JOBS, .reg .CHN_ENG_CONS, .reg .CHN_ENG_PROD} ∪ Part.read ∪ Part.tusss ⊆ ps) (k : s.Only ps t) :
    s.Only ps (t.enable k₀) :=
  State.Only.of_sub (by
    unfold State.enable; simp (disch := simp (disch := simp [F.CHN_ENG_CONS_CONS, F.CHN_ENG_JOBS_JOBS]) [F.CHN_ENG_CONS_CONS, F.CHN_ENG_JOBS_JOBS])) sub k

@[simp ↓] theorem State.only_disable {s t : State} {ps : Set Part} {k₀ : ℕ} (sub : {.engines, .reg .CHN_TAGS, .reg .CHN_ENG_STATUS} ⊆ ps) :
    s.Only ps (t.disable k₀) ↔ s.Only ps t :=
  State.Only.iff (by
    unfold State.disable; simp [F.CHN_ENG_STATUS_HELD]) sub (by simp)

@[simp ↓] theorem State.only_latchEn {s t : State} {ps : Set Part} {k₀ : ℕ} (sub : {.reg .TSK_CONV_STATUS, .engines, .reg .CHN_TAGS, .reg .CHN_ENG_STATUS, .reg .CHN_ENG_JOBS, .reg .CHN_ENG_CONS, .reg .CHN_ENG_PROD} ∪ Part.read ∪ Part.tusss ⊆ ps) (k : s.Only ps t) :
    s.Only ps (t.latchEn k₀) :=
  State.Only.of_sub (by
    unfold State.latchEn; simp [F.CHN_ENG_STATUS_RUNNING]) sub k

@[simp ↓] theorem State.only_ready {s t : State} {ps : Set Part} (sub : {.reg .TSK_CONV_STATUS, .fresh, .engines, .ctxs, .reg .CHN_TAGS, .reg .CHN_ENG_STATUS, .reg .CHN_ENG_JOBS, .reg .CHN_ENG_CONS, .reg .CHN_ENG_PROD, .reg .GLB_CTX_STATE, .reg .GLB_CTX_TID, .reg .GLB_CTX_PTR} ∪ Part.read ∪ Part.tusss ⊆ ps) (k : s.Only ps t) :
    s.Only ps (t.ready) :=
  State.Only.of_sub (by
    unfold State.ready; simp (disch := simp (disch := simp))) sub k

@[simp ↓] theorem State.only_grantOne {s t : State} {ps : Set Part} {n : ℕ} {e : ℕ} {isIt : Head → Bool} (sub : {.fresh, .engines, .irq, .latent, .chans, .mem, .out, .flits, .free, .ctxs, .jobs, .nextJob} ∪ Part.tusss ∪ Part.regs ⊆ ps) (k : s.Only ps t) :
    s.Only ps (t.grantOne n e isIt) :=
  State.Only.of_sub (by
    unfold State.grantOne; dsimp only; repeat' split
    all_goals simp (disch := simp (disch := simp))) sub k

/-! #### Windows and repairs -/

@[simp ↓] theorem State.only_markOverdue {s t : State} {ps : Set Part} {g : ℕ} (sub : {.reg .BRK_STATUS} ∪ Part.event ⊆ ps) :
    s.Only ps (t.markOverdue g) ↔ s.Only ps t :=
  State.Only.iff (by
    unfold State.markOverdue; split <;> simp [F.BRK_STATUS_OVERDUE]) sub (by simp)

@[simp ↓] theorem State.only_offerWindow {s t : State} {ps : Set Part} {g : ℕ} {overdue : Bool} (sub : {.tuss g, .reg .BRK_DEFER, .reg .BRK_STATUS} ∪ Part.event ⊆ ps) :
    s.Only ps (t.offerWindow g overdue) ↔ s.Only ps t :=
  State.Only.iff (by
    unfold State.offerWindow; repeat' split
    all_goals simp [F.BRK_DEFER_WAIT]) sub (by simp)

@[simp ↓] theorem State.only_askOn {s t : State} {ps : Set Part} {g : ℕ} (sub : {.tuss g, .reg .BRK_STATUS, .reg .BRK_CAL_TIME, .reg .BRK_CAL_CNT, .reg .BRK_DEFER} ∪ Part.event ⊆ ps) :
    s.Only ps (t.askOn g) ↔ s.Only ps t :=
  State.Only.iff (by
    unfold State.askOn; dsimp only; repeat' split
    all_goals simp [*]) sub (by simp)

@[simp ↓] theorem State.only_offerRepair {s t : State} {ps : Set Part} {n : ℕ} {overdue : Bool} {r : Repair} (sub : {.chans} ⊆ ps) :
    s.Only ps (t.offerRepair n overdue r) ↔ s.Only ps t :=
  State.Only.iff (by
    unfold State.offerRepair; dsimp only; repeat' split
    all_goals simp [*]) sub (by simp)

@[simp ↓] theorem State.only_placeStanding {s t : State} {ps : Set Part} {n : ℕ} {overdue : Bool} (sub : {.chans, .reg .BRK_DEFER, .reg .BRK_STATUS} ∪ Part.event ∪ Part.tusss ⊆ ps) :
    s.Only ps (t.placeStanding n overdue) ↔ s.Only ps t :=
  State.Only.iff (by
    unfold State.placeStanding; simp (disch := simp (disch := simp))) sub (by simp)

/-! #### The boundary and the end of admission -/

@[simp ↓] theorem State.only_latchBeta {s t : State} {ps : Set Part} {n : ℕ} (sub : {.reg .CHN_ADM_BUDGET} ⊆ ps) :
    s.Only ps (t.latchBeta n) ↔ s.Only ps t :=
  State.Only.iff (by
    unfold State.latchBeta; simp [F.CHN_ADM_BUDGET_EFFECTIVE]) sub (by simp)

@[simp ↓] theorem State.only_boundaryChan {s t : State} {ps : Set Part} {n : ℕ} (sub : {.engines, .reg .CHN_ADM_BUDGET, .reg .CHN_ENG_STATUS, .reg .CHN_ENG_PROD, .reg .BRK_STATUS, .reg .BRK_CAL_TIME, .reg .BRK_CAL_CNT, .reg .BRK_DEFER} ∪ Part.read ∪ Part.tusss ⊆ ps) (k : s.Only ps t) :
    s.Only ps (t.boundaryChan n) :=
  State.Only.of_sub (by
    unfold State.boundaryChan; simp (disch := simp (disch := simp [F.PWR_STATUS_STATE, F.GLB_CHN_CTRL_DRAIN, F.CHN_ADM_CFG_SLIDE_MAX, F.CHN_ADM_CFG_DEFER_LIMIT, F.CHN_ADM_CFG_ADM_MAX, F.CHN_K1_TMPL_ADDR, F.CHN_K1_CFG_CLASS, F.CHN_K1_CFG_HOLD, F.GRS_CFG_HORIZON, F.CHN_ENG_CFG_EN]) [F.PWR_STATUS_STATE, F.GLB_CHN_CTRL_DRAIN, F.CHN_ADM_CFG_SLIDE_MAX, F.CHN_ADM_CFG_DEFER_LIMIT, F.CHN_ADM_CFG_ADM_MAX, F.CHN_K1_TMPL_ADDR, F.CHN_K1_CFG_CLASS, F.CHN_K1_CFG_HOLD, F.GRS_CFG_HORIZON, F.CHN_ENG_CFG_EN]) [F.PWR_STATUS_STATE]) sub k

@[simp ↓] theorem State.only_closeAdmission {s t : State} {ps : Set Part} {n : ℕ} (sub : {.reg .CHN_ADM_BUDGET, .reg .BRK_DEFER, .reg .BRK_STATUS} ∪ Part.gwrite ⊆ ps) (k : s.Only ps t) :
    s.Only ps (t.closeAdmission n) :=
  State.Only.of_sub (by
    unfold State.closeAdmission; simp) sub k

@[simp ↓] theorem State.only_closeAll {s t : State} {ps : Set Part} (sub : {.irq, .chans, .mem, .out, .flits, .latent, .free, .engines, .jobs, .nextJob, .fresh, .ctxs} ∪ Part.tusss ∪ Part.regs ⊆ ps) (k : s.Only ps t) :
    s.Only ps (t.closeAll) :=
  State.Only.of_sub (by
    unfold State.closeAll
    all_goals
      refine State.only_foldl (fun u x => ?_) (by simp [*])
    simp [*]) sub k

/-! #### Bracken's boundaries -/

@[simp ↓] theorem keeps_execPassStart {ps : Set Part} {g : Tsk} (sub : {.tuss g, .reg .BRK_STATUS, .reg .BRK_CAL_TIME, .reg .BRK_CAL_CNT} ∪ Part.event ⊆ ps) : State.Keeps ps (execPassStart g) :=
  State.Keeps.mono (fun t => by
    exact ⟨_, rfl, by simp⟩) sub

@[simp ↓] theorem State.only_slotExchange {s t : State} {ps : Set Part} {g : ℕ} (sub : {.genSets, .mem, .irq, .tuss g} ∪ Part.regs ⊆ ps) (k : s.Only ps t) :
    s.Only ps (t.slotExchange g) :=
  State.Only.of_sub (by
    unfold State.slotExchange; simp) sub k

@[simp ↓] theorem keeps_execSlotExchange {ps : Set Part} {g : Tsk} (sub : {.genSets, .mem, .irq, .tuss g} ∪ Part.regs ⊆ ps) : State.Keeps ps (execSlotExchange g) :=
  State.Keeps.mono (fun t => by
    exact ⟨_, rfl, by simp⟩) sub

@[simp ↓] theorem keeps_execWindowEnd {ps : Set Part} {g : Tsk} (sub : {.genSets, .tuss g, .reg .BRK_STATUS, .reg .BRK_CAL_TIME, .reg .BRK_CAL_CNT, .reg .BRK_DEFER, .reg .TSK_ARR_STATE, .reg .BRK_ARR_CAL, .reg .BRK_ARR_TIME, .reg .CHN_ADM_BUDGET} ∪ Part.event ⊆ ps) : State.Keeps ps (execWindowEnd g) :=
  State.Keeps.mono (fun t => by
    exact ⟨_, rfl, by simp⟩) sub

/-! #### Building an image -/

@[simp ↓] theorem State.only_ldReject {s t : State} {ps : Set Part} {job : ℕ} {cmd : ℕ} {chan : ℕ} {reason : ℕ} (sub : {.jobs, .reg .CHN_LD_PKG, .reg .CHN_LD_STATUS} ⊆ ps) :
    s.Only ps (t.ldReject job cmd chan reason) ↔ s.Only ps t :=
  State.Only.iff (by
    unfold State.ldReject; simp [F.CHN_LD_STATUS_REASON, F.CHN_LD_STATUS_REJECT, F.CHN_LD_PKG_REJECTED]) sub (by simp)

@[simp ↓] theorem State.only_readPackage {s t : State} {ps : Set Part} {n : ℕ} {job : ℕ} {cmd : ℕ} {pkg : ℕ} {tid : ℕ} {ecc : List (ℕ × Ecc)} {k₀ : ℕ} {i : ℕ} (sub : {.jobs} ∪ Part.read ⊆ ps) (k : s.Only ps t) :
    s.Only ps (t.readPackage n job cmd pkg tid ecc k₀ i).1 :=
  State.Only.of_sub (by
    clear k
    induction k₀ generalizing t i with
    | zero => exact .refl t _
    | succ n ih =>
      unfold State.readPackage
      extract_lets e
      split
      · rename_i heq
        exact .of_fst heq (by simp)
      · rename_i heq
        refine .trans (.of_fst heq (by simp)) ?_
        split
        all_goals
          rename_i heq₂
          exact .of_fst heq₂ ih) sub k

@[simp ↓] theorem State.only_holding {s t : State} {ps : Set Part} {pkg : ℕ} {bytes : List Byte} (sub : {.mem} ⊆ ps) (k : s.Only ps t) :
    s.Only ps (t.holding pkg bytes) :=
  State.Only.of_sub (by
    unfold State.holding; simp (disch := simp (disch := simp))) sub k

@[simp ↓] theorem State.only_clearMagic {s t : State} {ps : Set Part} {n : ℕ} {job : ℕ} {cmd : ℕ} {dest : ℕ} (sub : {.images, .jobs} ∪ Part.gwrite ⊆ ps) (k : s.Only ps t) :
    s.Only ps (t.clearMagic n job cmd dest).1 :=
  State.Only.of_sub (by
    unfold State.clearMagic; dsimp only; repeat' split
    all_goals
      try simp only [Prod.ext_iff] at *
      try cases_type* And
      subst_vars
      simp (disch := simp (disch := simp [*]) [*]) [*]) sub k

@[simp ↓] theorem State.only_putFrom {s t : State} {ps : Set Part} {n : ℕ} {job : ℕ} {a : ℕ} {b : Block} (sub : {.flits, .mem, .latent, .out, .reg .CHN_HDG_ERR, .reg .TSK_CONV_STATUS} ∪ Part.tusss ⊆ ps) (k : s.Only ps t) :
    s.Only ps (t.putFrom n job a b) :=
  State.Only.of_sub (by
    unfold State.putFrom; simp) sub k

@[simp ↓] theorem State.only_countClamped {s t : State} {ps : Set Part} {n : ℕ} {b : Built} (sub : {.reg .CHN_LD_STATUS, .reg .CHN_LD_CLAMP} ⊆ ps) :
    s.Only ps (t.countClamped n b) ↔ s.Only ps t :=
  State.Only.iff (by
    unfold State.countClamped; simp [F.CHN_LD_CLAMP_CLAMP_CNT, F.CHN_LD_STATUS_CLAMP]) sub (by simp)

@[simp ↓] theorem State.only_putImage {s t : State} {ps : Set Part} {l : Load} (sub : {.loads, .flits, .mem, .latent, .out, .reg .CHN_HDG_ERR, .reg .TSK_CONV_STATUS} ∪ Part.tusss ⊆ ps) (k : s.Only ps t) :
    s.Only ps (t.putImage l) :=
  State.Only.of_sub (by
    unfold State.putImage; simp) sub k

@[simp ↓] theorem State.only_putManifest {s t : State} {ps : Set Part} {l : Load} (sub : {.reg .TSK_CONV_STATUS, .images} ∪ Part.fetch ∪ Part.tusss ⊆ ps) (k : s.Only ps t) :
    s.Only ps (t.putManifest l) :=
  State.Only.of_sub (by
    unfold State.putManifest; simp (disch := simp (disch := simp))) sub k

@[simp ↓] theorem State.only_startLoad {s t : State} {ps : Set Part} {j : Job} {cmd : ℕ} {n : ℕ} {pkg : ℕ} {len : ℕ} {key : List Byte} {sig : List Byte} {b : Built} (sub : {.verifs, .loads, .jobs} ⊆ ps) :
    s.Only ps (t.startLoad j cmd n pkg len key sig b) ↔ s.Only ps t :=
  State.Only.iff (by
    unfold State.startLoad; simp) sub (by simp)

@[simp ↓] theorem State.only_loadpkg {s t : State} {ps : Set Part} {j : Job} {cmd : ℕ} {c : List ℕ} {ecc : List (ℕ × Ecc)} (sub : {.reg .TSK_CONV_STATUS, .jobs, .images, .verifs, .loads, .reg .CHN_LD_PKG, .reg .CHN_LD_STATUS, .reg .CHN_LD_CLAMP} ∪ Part.read ∪ Part.tusss ⊆ ps) (k : s.Only ps t) :
    s.Only ps (t.loadpkg j cmd c ecc) :=
  State.Only.of_sub (by
    unfold State.loadpkg
    extract_lets n pkg dest len
    split
    · simp
    · split
      · rename_i heq
        refine .trans (.of_fst heq (by simp)) ?_
        split
        · exact .refl _ _
        · simp
      · rename_i heq
        refine .trans (.of_fst heq (by simp)) ?_
        clear heq
        extract_lets f stripes
        split
        · simp
        · split
          · rename_i heq
            exact .of_fst heq (by simp)
          · rename_i heq
            refine .trans (.of_fst heq (by simp)) ?_
            clear heq
            split
            · simp
            · split
              · simp
              · split
                · rename_i heq
                  exact .of_fst heq (by simp)
                · rename_i heq
                  refine .trans (.of_fst heq (by simp)) ?_
                  clear heq
                  repeat' split
                  all_goals simp) sub k

/-! #### Posts -/

@[simp ↓] theorem State.only_post {s t : State} {ps : Set Part} {c : ℕ} {ptr : ℕ} {chan : ℕ} (sub : {.ctxs, .reg .GLB_CTX_EVENTS, .reg .GLB_CTX_STATE, .reg .GLB_CTX_PEND} ⊆ ps) :
    s.Only ps (t.post c ptr chan) ↔ s.Only ps t :=
  State.Only.iff (by
    unfold State.post; split <;> simp [F.GLB_CTX_STATE_PENDING, F.GLB_CTX_EVENTS_SUPERSEDED_CNT, F.GLB_CTX_PEND_PEND]) sub (by simp)

@[simp ↓] theorem State.only_postFrom {s t : State} {ps : Set Part} {j : Job} {cmd : ℕ} {n : ℕ} {c : ℕ} {ptr : ℕ} {magic : ℕ} (sub : {.jobs, .ctxs, .reg .CHN_LD_PKG, .reg .CHN_LD_STATUS, .reg .GLB_CTX_EVENTS, .reg .GLB_CTX_STATE, .reg .GLB_CTX_PEND} ⊆ ps) :
    s.Only ps (t.postFrom j cmd n c ptr magic) ↔ s.Only ps t :=
  State.Only.iff (by
    unfold State.postFrom; split <;> simp [F.GLB_CTX_EVENTS_REFUSED_CNT, F.GLB_CTX_EVENTS_LAST_REASON]) sub (by simp)

@[simp ↓] theorem State.only_ctxptr {s t : State} {ps : Set Part} {j : Job} {cmd : ℕ} {c : ℕ} {ptr : ℕ} (sub : {.jobs, .ctxs, .reg .CHN_LD_PKG, .reg .CHN_LD_STATUS, .reg .GLB_CTX_EVENTS, .reg .GLB_CTX_STATE, .reg .GLB_CTX_PEND} ∪ Part.read ⊆ ps) (k : s.Only ps t) :
    s.Only ps (t.ctxptr j cmd c ptr) :=
  State.Only.of_sub (by
    unfold State.ctxptr; split
    · simp
    · split
      · rename_i heq
        exact .of_fst heq (by simp)
      · rename_i heq
        refine .trans (.of_fst heq (by simp)) ?_
        simp) sub k

/-! #### Verification and the manifest -/

@[simp ↓] theorem State.only_dropLoad {s t : State} {ps : Set Part} {job : ℕ} {cmd : ℕ} (sub : {.verifs, .loads} ⊆ ps) :
    s.Only ps (t.dropLoad job cmd) ↔ s.Only ps t :=
  State.Only.iff (by
    unfold State.dropLoad; simp) sub (by simp)

@[simp ↓] theorem State.only_judge {s t : State} {ps : Set Part} {v : Verify} (sub : {.reg .SEC_VERIFY_CNT, .reg .SEC_STATUS} ∪ Part.event ⊆ ps) :
    s.Only ps (t.judge v).1 ↔ s.Only ps t :=
  State.Only.iff (by
    unfold State.judge; simp [F.SEC_VERIFY_CNT_PASS_CNT, F.SEC_VERIFY_CNT_FAIL_CNT, F.SEC_STATUS_VERIFY_FAIL]) sub (by simp)

@[simp ↓] theorem State.only_tpReject {s t : State} {ps : Set Part} {job : ℕ} {cmd : ℕ} {reason : ℕ} (sub : {.jobs, .reg .GRS_TP_STATUS} ⊆ ps) :
    s.Only ps (t.tpReject job cmd reason) ↔ s.Only ps t :=
  State.Only.iff (by
    unfold State.tpReject; simp [F.GRS_TP_STATUS_REASON, F.GRS_TP_STATUS_REJECT]) sub (by simp)

@[simp ↓] theorem State.only_verify {s t : State} {ps : Set Part} (sub : {.verifs, .loads, .tests, .jobs, .reg .SEC_VERIFY_CNT, .reg .SEC_STATUS, .reg .CHN_LD_PKG, .reg .CHN_LD_STATUS, .reg .GRS_TP_STATUS} ∪ Part.event ⊆ ps) :
    s.Only ps (t.verify) ↔ s.Only ps t :=
  State.Only.iff (by
    unfold State.verify; dsimp only; repeat' split
    all_goals simp [*]) sub (by simp)

@[simp ↓] theorem State.only_manifest {s t : State} {ps : Set Part} {job : ℕ} {cmd : ℕ} (sub : {.reg .TSK_CONV_STATUS, .images, .jobs, .ctxs, .verifs, .loads, .reg .CHN_LD_PKG, .reg .CHN_LD_STATUS, .reg .GLB_CTX_EVENTS, .reg .GLB_CTX_STATE, .reg .GLB_CTX_PEND} ∪ Part.fetch ∪ Part.tusss ⊆ ps) (k : s.Only ps t) :
    s.Only ps (t.manifest job cmd) :=
  State.Only.of_sub (by
    unfold State.manifest; split <;> simp [F.CHN_LD_PKG_ACCEPTED]) sub k

@[simp ↓] theorem State.only_profileShort {s t : State} {ps : Set Part} {l : Load} (sub : {.verifs, .loads, .jobs, .reg .CHN_LD_PKG, .reg .CHN_LD_STATUS} ⊆ ps) :
    s.Only ps (t.profileShort l) ↔ s.Only ps t :=
  State.Only.iff (by
    unfold State.profileShort; split <;> simp) sub (by simp)

@[simp ↓] theorem State.only_loadsDue {s t : State} {ps : Set Part} (sub : {.reg .TSK_CONV_STATUS, .loads, .verifs, .tests, .jobs, .images, .ctxs, .reg .SEC_VERIFY_CNT, .reg .SEC_STATUS, .reg .CHN_LD_PKG, .reg .CHN_LD_STATUS, .reg .GRS_TP_STATUS, .reg .GLB_CTX_EVENTS, .reg .GLB_CTX_STATE, .reg .GLB_CTX_PEND} ∪ Part.fetch ∪ Part.event ∪ Part.tusss ⊆ ps) (k : s.Only ps t) :
    s.Only ps (t.loadsDue) :=
  State.Only.of_sub (by
    unfold State.loadsDue
    extract_lets u v w
    refine .trans (t := u) (State.only_foldl (fun x l => by simp) (.refl t _)) ?_
    clear_value u
    refine .trans (t := v) (State.only_foldl (fun x l => by simp) (.refl u _)) ?_
    clear_value v
    refine .trans (t := w) (State.only_foldl (fun x l => by simp) (.refl v _)) ?_
    exact State.only_foldl (fun x l => by simp) (.refl w _)) sub k

/-! #### The end of a change -/

@[simp ↓] theorem State.only_replacingEnd {s t : State} {ps : Set Part} {c : ℕ} (sub : {.ctxs, .reg .GLB_CTX_STATE} ⊆ ps) :
    s.Only ps (t.replacingEnd c) ↔ s.Only ps t :=
  State.Only.iff (by
    unfold State.replacingEnd; simp [F.GLB_CTX_STATE_STATE]) sub (by simp)

@[simp ↓] theorem State.only_oldBusyClear {s t : State} {ps : Set Part} {c : ℕ} (sub : {.ctxs, .reg .GLB_CTX_STATE} ⊆ ps) :
    s.Only ps (t.oldBusyClear c) ↔ s.Only ps t :=
  State.Only.iff (by
    unfold State.oldBusyClear; dsimp only; repeat' split
    all_goals simp [F.GLB_CTX_STATE_OLD_BUSY, *]) sub (by simp)

@[simp ↓] theorem State.only_unloadEmpty {s t : State} {ps : Set Part} {c : ℕ} (sub : {.ctxs, .reg .BRK_STATUS, .reg .TSK_ARR_STATE, .reg .GLB_CTX_STATE} ∪ Part.tusss ⊆ ps) :
    s.Only ps (t.unloadEmpty c) ↔ s.Only ps t :=
  State.Only.iff (by
    unfold State.unloadEmpty; split <;> simp [F.GLB_CTX_STATE_STATE, F.TSK_ARR_STATE_CONTEXT]) sub (by simp)

/-! #### The commands -/

@[simp ↓] theorem keeps_execLoadpkg {ps : Set Part} {job : ℕ} {cmd : ℕ} {ecc : List (BitVec 24 × Ecc)} (sub : {.reg .TSK_CONV_STATUS, .jobs, .images, .verifs, .loads, .reg .CHN_LD_PKG, .reg .CHN_LD_STATUS, .reg .CHN_LD_CLAMP} ∪ Part.read ∪ Part.tusss ⊆ ps) : State.Keeps ps (execLoadpkg job cmd ecc) :=
  State.Keeps.mono (fun t => by
    refine ⟨_, rfl, ?_⟩
    repeat' split
    all_goals simp (disch := simp (disch := simp))) sub

@[simp ↓] theorem keeps_execSignatureVerify {ps : Set Part} (sub : {.verifs, .loads, .tests, .jobs, .reg .SEC_VERIFY_CNT, .reg .SEC_STATUS, .reg .CHN_LD_PKG, .reg .CHN_LD_STATUS, .reg .GRS_TP_STATUS} ∪ Part.event ⊆ ps) : State.Keeps ps execSignatureVerify :=
  State.Keeps.mono (fun t => by
    exact ⟨_, rfl, by simp⟩) sub

@[simp ↓] theorem keeps_execManifestWrite {ps : Set Part} {job : ℕ} {cmd : ℕ} (sub : {.reg .TSK_CONV_STATUS, .images, .jobs, .ctxs, .verifs, .loads, .reg .CHN_LD_PKG, .reg .CHN_LD_STATUS, .reg .GLB_CTX_EVENTS, .reg .GLB_CTX_STATE, .reg .GLB_CTX_PEND} ∪ Part.fetch ∪ Part.tusss ⊆ ps) : State.Keeps ps (execManifestWrite job cmd) :=
  State.Keeps.mono (fun t => by
    exact ⟨_, rfl, by simp⟩) sub

@[simp ↓] theorem keeps_execCtxptr {ps : Set Part} {job : ℕ} {cmd : ℕ} (sub : {.jobs, .ctxs, .reg .CHN_LD_PKG, .reg .CHN_LD_STATUS, .reg .GLB_CTX_EVENTS, .reg .GLB_CTX_STATE, .reg .GLB_CTX_PEND} ∪ Part.read ⊆ ps) : State.Keeps ps (execCtxptr job cmd) :=
  State.Keeps.mono (fun t => by
    refine ⟨_, rfl, ?_⟩
    repeat' split
    all_goals simp (disch := simp (disch := simp))) sub

@[simp ↓] theorem keeps_execContextChangeEffect {ps : Set Part} {c : Ctx} (sub : {.ctxs, .reg .GLB_CTX_STATE, .reg .GLB_CTX_TID, .reg .GLB_CTX_PTR} ⊆ ps) : State.Keeps ps (execContextChangeEffect c) :=
  State.Keeps.mono (fun t => by
    exact ⟨_, rfl, by simp⟩) sub

@[simp ↓] theorem keeps_execReplacingEnd {ps : Set Part} {c : Ctx} (sub : {.ctxs, .reg .GLB_CTX_STATE} ⊆ ps) : State.Keeps ps (execReplacingEnd c) :=
  State.Keeps.mono (fun t => by
    exact ⟨_, rfl, by simp⟩) sub

@[simp ↓] theorem keeps_execOldBusyClear {ps : Set Part} {c : Ctx} (sub : {.ctxs, .reg .GLB_CTX_STATE} ⊆ ps) : State.Keeps ps (execOldBusyClear c) :=
  State.Keeps.mono (fun t => by
    exact ⟨_, rfl, by simp⟩) sub

@[simp ↓] theorem keeps_execUnloadEmpty {ps : Set Part} {c : Ctx} (sub : {.ctxs, .reg .BRK_STATUS, .reg .TSK_ARR_STATE, .reg .GLB_CTX_STATE} ∪ Part.tusss ⊆ ps) : State.Keeps ps (execUnloadEmpty c) :=
  State.Keeps.mono (fun t => by
    exact ⟨_, rfl, by simp⟩) sub

@[simp ↓] theorem keeps_execCtxEventsClr {ps : Set Part} {c : Ctx} (sub : {.reg .GLB_CTX_EVENTS} ⊆ ps) : State.Keeps ps (execCtxEventsClr c) :=
  State.Keeps.mono (fun t => by
    exact ⟨_, rfl, by simp [F.GLB_CTX_EVENTS_SUPERSEDED_CNT, F.GLB_CTX_EVENTS_REFUSED_CNT]⟩) sub

@[simp ↓] theorem State.only_ldClr {s t : State} {ps : Set Part} {n : ℕ} (sub : {.reg .CHN_LD_CLAMP, .reg .CHN_LD_PKG} ⊆ ps) :
    s.Only ps (t.ldClr n) ↔ s.Only ps t :=
  State.Only.iff (by
    unfold State.ldClr; simp [F.CHN_LD_PKG_ACCEPTED, F.CHN_LD_PKG_REJECTED, F.CHN_LD_CLAMP_CLAMP_CNT]) sub (by simp)

@[simp ↓] theorem keeps_execLdClr {ps : Set Part} {n : Chn} (sub : {.reg .CHN_LD_CLAMP, .reg .CHN_LD_PKG} ⊆ ps) : State.Keeps ps (execLdClr n) :=
  State.Keeps.mono (fun t => by
    exact ⟨_, rfl, by simp⟩) sub

@[simp ↓] theorem keeps_execDistStatClr {ps : Set Part} (sub : {.reg .GLB_DIST_STAT} ⊆ ps) : State.Keeps ps execDistStatClr :=
  State.Keeps.mono (fun t => by
    exact ⟨_, rfl, by simp [F.GLB_DIST_STAT_MISS_CNT]⟩) sub

/-! #### Registers of an engine -/

@[simp ↓] theorem State.only_engField {s t : State} {ps : Set Part} {k₀ : ℕ} {f : Fld} {v : ℕ} (sub : {.reg .CHN_ENG_STATUS, .reg f.r} ∪ Part.event ⊆ ps) :
    s.Only ps (t.engField k₀ f v) ↔ s.Only ps t :=
  State.Only.iff (by
    unfold State.engField; split <;> simp [F.CHN_ENG_STATUS_CFG_ERR]) sub (by simp)

@[simp ↓] theorem State.only_engCfg {s t : State} {ps : Set Part} {k₀ : ℕ} {v : ℕ} (sub : {.reg .CHN_ENG_STATUS, .reg .CHN_ENG_CFG} ∪ Part.event ⊆ ps) :
    s.Only ps (t.engCfg k₀ v) ↔ s.Only ps t :=
  State.Only.iff (by
    unfold State.engCfg
    simp [F.CHN_ENG_CFG_RING_LOG2, F.CHN_ENG_CFG_CPL_LOG2, F.CHN_ENG_CFG_FMT, F.CHN_ENG_CFG_EN, F.CHN_ENG_STATUS_CFG_ERR]) sub (by simp)

@[simp ↓] theorem State.only_engWriteReg {s t : State} {ps : Set Part} {k₀ : ℕ} {r : EngReg} {v : ℕ} (sub : {.reg .CHN_ENG_STATUS, .reg .CHN_ENG_RING_BASE, .reg .CHN_ENG_CTRL_ADDR, .reg .CHN_ENG_CPL_BASE, .reg .CHN_ENG_CFG} ∪ Part.event ⊆ ps) :
    s.Only ps (t.engWriteReg k₀ r v) ↔ s.Only ps t :=
  State.Only.iff (by
    unfold State.engWriteReg; split <;> simp [F.CHN_ENG_RING_BASE_BASE, F.CHN_ENG_CTRL_ADDR_ADDR, F.CHN_ENG_CPL_BASE_BASE]) sub (by simp)

/-! #### MSI-X -/

@[simp ↓] theorem State.only_setMsix {s t : State} {ps : Set Part} {v : ℕ} {e : MsixEntry} (sub : {.irq} ⊆ ps) :
    s.Only ps (t.setMsix v e) ↔ s.Only ps t :=
  State.Only.iff (by
    unfold State.setMsix; simp) sub (by simp)

@[simp ↓] theorem State.only_msixMessage {s t : State} {ps : Set Part} {v : ℕ} (sub : {.irq, .out} ⊆ ps) :
    s.Only ps (t.msixMessage v) ↔ s.Only ps t :=
  State.Only.iff (by
    unfold State.msixMessage; simp) sub (by simp)

@[simp ↓] theorem State.only_msixUnmask {s t : State} {ps : Set Part} {v : ℕ} (sub : {.irq, .out} ⊆ ps) :
    s.Only ps (t.msixUnmask v) ↔ s.Only ps t :=
  State.Only.iff (by
    unfold State.msixUnmask; simp) sub (by simp)

/-! #### K1 -/

@[simp ↓] theorem State.only_k1Grant {s t : State} {ps : Set Part} {n : ℕ} {e : ℕ} {ok : ℕ → Bool} (sub : {.fresh, .engines, .irq, .latent, .chans, .mem, .out, .flits, .free, .ctxs, .jobs, .nextJob} ∪ Part.tusss ∪ Part.regs ⊆ ps) (k : s.Only ps t) :
    s.Only ps (t.k1Grant n e ok) :=
  State.Only.of_sub (by
    unfold State.k1Grant; dsimp only; repeat' split
    all_goals simp [*]) sub k

/-! #### The commands -/

@[simp ↓] theorem keeps_execJob {ps : Set Part} {n : Chn} {e : Eng} (sub : {.fresh, .engines, .irq, .latent, .chans, .mem, .out, .flits, .free, .ctxs, .jobs, .nextJob} ∪ Part.tusss ∪ Part.regs ⊆ ps) : State.Keeps ps (execJob n e) :=
  State.Keeps.mono (fun t => by
    exact ⟨_, rfl, by simp⟩) sub

@[simp ↓] theorem keeps_execNop {ps : Set Part} {n : Chn} {e : Eng} (sub : {.fresh, .engines, .irq, .latent, .chans, .mem, .out, .flits, .free, .ctxs, .jobs, .nextJob} ∪ Part.tusss ∪ Part.regs ⊆ ps) : State.Keeps ps (execNop n e) :=
  State.Keeps.mono (fun t => by
    exact ⟨_, rfl, by simp⟩) sub

@[simp ↓] theorem keeps_execEngCfgWrite {ps : Set Part} {n : Chn} {e : Eng} {r : EngReg} {v : Word64} (sub : {.reg .CHN_ENG_STATUS, .reg .CHN_ENG_RING_BASE, .reg .CHN_ENG_CTRL_ADDR, .reg .CHN_ENG_CPL_BASE, .reg .CHN_ENG_CFG} ∪ Part.event ⊆ ps) : State.Keeps ps (execEngCfgWrite n e r v) :=
  State.Keeps.mono (fun t => by
    exact ⟨_, rfl, by simp⟩) sub

@[simp ↓] theorem keeps_execEngEnable {ps : Set Part} {n : Chn} {e : Eng} (sub : {.reg .TSK_CONV_STATUS, .engines, .reg .CHN_TAGS, .reg .CHN_ENG_STATUS, .reg .CHN_ENG_JOBS, .reg .CHN_ENG_CONS, .reg .CHN_ENG_PROD} ∪ Part.read ∪ Part.tusss ⊆ ps) : State.Keeps ps (execEngEnable n e) :=
  State.Keeps.mono (fun t => by
    exact ⟨_, rfl, by simp⟩) sub

@[simp ↓] theorem keeps_execEngDisable {ps : Set Part} {n : Chn} {e : Eng} (sub : {.reg .TSK_CONV_STATUS, .engines, .reg .CHN_TAGS, .reg .CHN_ENG_STATUS, .reg .CHN_ENG_JOBS, .reg .CHN_ENG_CONS, .reg .CHN_ENG_PROD} ∪ Part.read ∪ Part.tusss ⊆ ps) : State.Keeps ps (execEngDisable n e) :=
  State.Keeps.mono (fun t => by
    exact ⟨_, rfl, by simp⟩) sub

@[simp ↓] theorem keeps_execMsixMessage {ps : Set Part} {v : Fin 64} (sub : {.irq, .out} ⊆ ps) : State.Keeps ps (execMsixMessage v) :=
  State.Keeps.mono (fun t => by
    exact ⟨_, rfl, by simp⟩) sub

@[simp ↓] theorem keeps_execMsixUnmask {ps : Set Part} {v : Fin 64} (sub : {.irq, .out} ⊆ ps) : State.Keeps ps (execMsixUnmask v) :=
  State.Keeps.mono (fun t => by
    exact ⟨_, rfl, by simp⟩) sub

@[simp ↓] theorem keeps_execK1Run {ps : Set Part} {n : Chn} {e : Eng} (sub : {.fresh, .engines, .irq, .latent, .chans, .mem, .out, .flits, .free, .ctxs, .jobs, .nextJob} ∪ Part.tusss ∪ Part.regs ⊆ ps) : State.Keeps ps (execK1Run n e) :=
  State.Keeps.mono (fun t => by
    exact ⟨_, rfl, by simp⟩) sub

@[simp ↓] theorem keeps_execK1Copy {ps : Set Part} {n : Chn} {e : Eng} (sub : {.fresh, .engines, .irq, .latent, .chans, .mem, .out, .flits, .free, .ctxs, .jobs, .nextJob} ∪ Part.tusss ∪ Part.regs ⊆ ps) : State.Keeps ps (execK1Copy n e) :=
  State.Keeps.mono (fun t => by
    exact ⟨_, rfl, by simp⟩) sub

@[simp ↓] theorem keeps_execK1Load {ps : Set Part} {n : Chn} {e : Eng} (sub : {.fresh, .engines, .irq, .latent, .chans, .mem, .out, .flits, .free, .ctxs, .jobs, .nextJob} ∪ Part.tusss ∪ Part.regs ⊆ ps) : State.Keeps ps (execK1Load n e) :=
  State.Keeps.mono (fun t => by
    exact ⟨_, rfl, by simp⟩) sub

@[simp ↓] theorem keeps_execK1Fence {ps : Set Part} {n : Chn} {e : Eng} (sub : {.fresh, .engines, .irq, .latent, .chans, .mem, .out, .flits, .free, .ctxs, .jobs, .nextJob} ∪ Part.tusss ∪ Part.regs ⊆ ps) : State.Keeps ps (execK1Fence n e) :=
  State.Keeps.mono (fun t => by
    exact ⟨_, rfl, by simp⟩) sub

@[simp ↓] theorem keeps_execK1FenceClear {ps : Set Part} {n : Chn} {e : Eng} (sub : {.engines} ⊆ ps) : State.Keeps ps (execK1FenceClear n e) :=
  State.Keeps.mono (fun t => by
    exact ⟨_, rfl, by simp⟩) sub

@[simp ↓] theorem keeps_execK1Intr {ps : Set Part} {n : Chn} {e : Eng} (sub : {.fresh, .engines, .irq, .latent, .chans, .mem, .out, .flits, .free, .ctxs, .jobs, .nextJob} ∪ Part.tusss ∪ Part.regs ⊆ ps) : State.Keeps ps (execK1Intr n e) :=
  State.Keeps.mono (fun t => by
    exact ⟨_, rfl, by simp⟩) sub

@[simp ↓] theorem keeps_execK1Nop {ps : Set Part} {n : Chn} {e : Eng} (sub : {.fresh, .engines, .irq, .latent, .chans, .mem, .out, .flits, .free, .ctxs, .jobs, .nextJob} ∪ Part.tusss ∪ Part.regs ⊆ ps) : State.Keeps ps (execK1Nop n e) :=
  State.Keeps.mono (fun t => by
    exact ⟨_, rfl, by simp⟩) sub

@[simp ↓] theorem keeps_execK1Reserved {ps : Set Part} {n : Chn} {e : Eng} (sub : {.fresh, .engines, .irq, .latent, .chans, .mem, .out, .flits, .free, .ctxs, .jobs, .nextJob} ∪ Part.tusss ∪ Part.regs ⊆ ps) : State.Keeps ps (execK1Reserved n e) :=
  State.Keeps.mono (fun t => by
    exact ⟨_, rfl, by simp⟩) sub

/-! #### Power domains -/

@[simp ↓] theorem State.only_Domain_setPower {s t : State} {ps : Set Part} {d : Domain} {v : Bool} (sub : {.reg .PWR_DOMAIN} ⊆ ps) :
    s.Only ps (Domain.setPower d t v) ↔ s.Only ps t :=
  State.Only.iff (by
    unfold Domain.setPower; split <;> simp [F.PWR_DOMAIN_QUARTER, F.PWR_DOMAIN_CORE, F.PWR_DOMAIN_STACK, F.PWR_DOMAIN_PCIE, F.PWR_DOMAIN_LEA, F.PWR_DOMAIN_SPINE, F.PWR_DOMAIN_STILE]) sub (by simp)

@[simp ↓] theorem State.only_forgetJobs {s t : State} {ps : Set Part} {p : Job → Bool} (sub : {.t3, .provs, .verifs, .loads, .tests, .jobs, .areas, .prods, .commits, .reg .CHN_TAGS, .reg .CHN_ENG_STATUS} ∪ Part.tusss ⊆ ps) :
    s.Only ps (t.forgetJobs p) ↔ s.Only ps t :=
  State.Only.iff (by
    unfold State.forgetJobs; simp) sub (by simp)

@[simp ↓] theorem State.only_stackFill {s t : State} {ps : Set Part} {n : ℕ} (sub : {.mem, .latent} ⊆ ps) (k : s.Only ps t) :
    s.Only ps (t.stackFill n) :=
  State.Only.of_sub (by
    unfold State.stackFill; simp (disch := simp (disch := simp))) sub k

@[simp ↓] theorem State.only_Domain_forget {s t : State} {ps : Set Part} {d : Domain} (sub : {.mem, .latent, .flight, .chans, .areas, .flits, .engines, .irq, .host, .leas, .leaFaults, .chainRefs, .mgmt, .provs, .prods, .verifs, .fractionOld, .fractionAt, .ctxs, .sensors, .entry, .quarters, .stile, .t3, .loads, .tests, .jobs, .commits, .reg .CHN_TAGS, .reg .CHN_ENG_STATUS} ∪ Part.tusss ⊆ ps) (k : s.Only ps t) :
    s.Only ps (Domain.forget d t) :=
  State.Only.of_sub (by
    unfold Domain.forget; dsimp only; repeat' split
    all_goals simp (disch := simp (disch := simp))) sub k

@[simp ↓] theorem State.only_Domain_tskStates {s t : State} {ps : Set Part} {d : Domain} {v : ℕ} (sub : {.reg .TSK_STATE} ⊆ ps) :
    s.Only ps (Domain.tskStates d t v) ↔ s.Only ps t :=
  State.Only.iff (by
    unfold Domain.tskStates; split <;> simp [F.TSK_STATE_STATE]) sub (by simp)

@[simp ↓] theorem State.only_domainOff {s t : State} {ps : Set Part} {d : Domain} (sub : {.mem, .latent, .flight, .chans, .areas, .flits, .engines, .irq, .host, .leas, .leaFaults, .chainRefs, .mgmt, .provs, .prods, .verifs, .fractionOld, .fractionAt, .ctxs, .sensors, .entry, .quarters, .stile, .t3, .loads, .tests, .jobs, .commits} ∪ Part.tusss ∪ Part.regs ⊆ ps) (k : s.Only ps t) :
    s.Only ps (t.domainOff d) :=
  State.Only.of_sub (by
    unfold State.domainOff; simp) sub k

@[simp ↓] theorem State.only_domainOn {s t : State} {ps : Set Part} {d : Domain} (sub : {.reg .PWR_DOMAIN, .reg .TSK_STATE} ∪ Part.event ⊆ ps) :
    s.Only ps (t.domainOn d) ↔ s.Only ps t :=
  State.Only.iff (by
    unfold State.domainOn; repeat' split
    all_goals simp) sub (by simp)

@[simp ↓] theorem State.only_domainsOff {s t : State} {ps : Set Part} {ds : List Domain} (sub : {.mem, .latent, .flight, .chans, .areas, .flits, .engines, .irq, .host, .leas, .leaFaults, .chainRefs, .mgmt, .provs, .prods, .verifs, .fractionOld, .fractionAt, .ctxs, .sensors, .entry, .quarters, .stile, .t3, .loads, .tests, .jobs, .commits} ∪ Part.tusss ∪ Part.regs ⊆ ps) (k : s.Only ps t) :
    s.Only ps (t.domainsOff ds) :=
  State.Only.of_sub (by
    unfold State.domainsOff; simp) sub k

@[simp ↓] theorem State.only_domainsOn {s t : State} {ps : Set Part} {ds : List Domain} (sub : {.reg .PWR_DOMAIN, .reg .TSK_STATE} ∪ Part.event ⊆ ps) :
    s.Only ps (t.domainsOn ds) ↔ s.Only ps t :=
  State.Only.iff (by
    unfold State.domainsOn; simp) sub (by simp)

theorem State.only_of_pending {t u : State} (hpending : u.pending = t.pending) (hinv : t.Inv → u.Inv) : t.Only {.pending}ᶜ u := by
  refine ⟨fun p hp => ?_, fun h => (h .GLB_ID (by simp)).elim, fun h => (h 0 (by simp)).elim, hinv⟩
  obtain rfl : p = .pending := Set.notMem_compl_iff.1 hp
  exact hpending

@[simp ↓] theorem State.only_resetKeep {s t : State} {ps : Set Part} {h₀ : Heather} (sub : {.pending}ᶜ ⊆ ps) (k : s.Only ps t) :
    s.Only ps (t.resetKeep h₀) :=
  State.Only.of_sub (State.only_of_pending (t := t) (u := t.resetKeep h₀) rfl fun _ => (rfl : Memory.wf [] = true)) sub k

@[simp ↓] theorem State.only_chipReset {s t : State} {ps : Set Part} {cause : ℕ} {ph : Phase} (sub : {.pending}ᶜ ⊆ ps) (k : s.Only ps t) :
    s.Only ps (t.chipReset cause ph) :=
  State.Only.of_sub (by
    unfold State.chipReset; simp) sub k

@[simp ↓] theorem State.only_railsOff {s t : State} {ps : Set Part} {ph : Phase} {mayRise : Bool} (sub : {.pending}ᶜ ⊆ ps) (k : s.Only ps t) :
    s.Only ps (t.railsOff ph mayRise) :=
  State.Only.of_sub (by
    unfold State.railsOff; simp [F.PWR_STATUS_STATE]) sub k

@[simp ↓] theorem State.only_fieldSafe {s t : State} {ps : Set Part} {cause : ℕ} (sub : {.stile, .out, .reg .STL_AOUT_STATUS, .reg .STL_FOUT} ∪ Part.event ⊆ ps) :
    s.Only ps (t.fieldSafe cause) ↔ s.Only ps t :=
  State.Only.iff (by
    unfold State.fieldSafe; simp [F.STL_FOUT_VALUE, F.STL_FOUT_OE]) sub (by simp)

/-! #### Sensors -/

@[simp ↓] theorem State.only_setSensor {s t : State} {ps : Set Part} {k₀ : ℕ} {x : Sensor} (sub : {.sensors} ⊆ ps) :
    s.Only ps (t.setSensor k₀ x) ↔ s.Only ps t :=
  State.Only.iff (by
    unfold State.setSensor; simp) sub (by simp)

@[simp ↓] theorem State.only_restoreTemp {s t : State} {ps : Set Part} {k₀ : ℕ} (sub : {.reg .BRK_ARR_CAL, .reg .BRK_STATUS, .reg .TSK_RESTORE_TEMP} ∪ Part.tusss ⊆ ps) :
    s.Only ps (t.restoreTemp k₀) ↔ s.Only ps t :=
  State.Only.iff (by
    unfold State.restoreTemp; split <;> simp [F.THM_SENS_BROKEN, F.TSK_RESTORE_TEMP_SENSOR_BROKEN, F.TSK_RESTORE_TEMP_TEMP]) sub (by simp)

@[simp ↓] theorem State.only_sensBad {s t : State} {ps : Set Part} {k₀ : ℕ} (sub : {.reg .THM_SENS} ⊆ ps) :
    s.Only ps (t.sensBad k₀) ↔ s.Only ps t :=
  State.Only.iff (by
    unfold State.sensBad; simp [F.THM_SENS_TEMP, F.THM_SENS_BROKEN]) sub (by simp)

@[simp ↓] theorem State.only_sensBreak {s t : State} {ps : Set Part} {k₀ : ℕ} {why : ℕ} (sub : {.sensors, .reg .THM_SENS, .reg .BRK_ARR_CAL, .reg .BRK_STATUS, .reg .TSK_RESTORE_TEMP, .reg .THM_STATUS} ∪ Part.event ∪ Part.tusss ⊆ ps) :
    s.Only ps (t.sensBreak k₀ why) ↔ s.Only ps t :=
  State.Only.iff (by
    unfold State.sensBreak; simp [F.THM_SENS_WHY, F.THM_STATUS_BROKEN_SET]) sub (by simp)

@[simp ↓] theorem State.only_sensServe {s t : State} {ps : Set Part} {k₀ : ℕ} {reading : ℤ} (sub : {.sensors, .reg .BRK_ARR_CAL, .reg .BRK_STATUS, .reg .TSK_RESTORE_TEMP, .reg .THM_SENS} ∪ Part.tusss ⊆ ps) :
    s.Only ps (t.sensServe k₀ reading) ↔ s.Only ps t :=
  State.Only.iff (by
    unfold State.sensServe; simp [F.THM_SENS_TEMP, F.THM_SENS_BROKEN, F.THM_SENS_WHY]) sub (by simp)

@[simp ↓] theorem State.only_sensConvert {s t : State} {ps : Set Part} {k₀ : ℕ} {code : ℕ} {reading : ℤ} (sub : {.sensors, .reg .THM_SENS, .reg .BRK_ARR_CAL, .reg .BRK_STATUS, .reg .TSK_RESTORE_TEMP, .reg .THM_STATUS} ∪ Part.event ∪ Part.tusss ⊆ ps) :
    s.Only ps (t.sensConvert k₀ code reading) ↔ s.Only ps t :=
  State.Only.iff (by
    unfold State.sensConvert; simp [F.THM_SENS_RATE]) sub (by simp)

/-! #### The thermal network -/

@[simp ↓] theorem State.only_thermal {s t : State} {ps : Set Part} (sub : {.heather, .reg .THM_STATUS, .reg .CHN_ADM_BUDGET} ∪ Part.event ⊆ ps) :
    s.Only ps (t.thermal) ↔ s.Only ps t :=
  State.Only.iff (by
    unfold State.thermal; simp [F.THM_STATUS_BROKEN_NOW, F.CHN_ADM_BUDGET_THM, F.THM_STATUS_THROTTLE, F.THM_STATUS_RATE_EXCESS]) sub (by simp)

/-! #### The trip -/

@[simp ↓] theorem State.only_flashPut {s t : State} {ps : Set Part} {a : ℕ} {bs : List Byte} (sub : {.flash} ⊆ ps) :
    s.Only ps (t.flashPut a bs) ↔ s.Only ps t :=
  State.Only.iff (by
    unfold State.flashPut; simp) sub (by simp)

@[simp ↓] theorem State.only_trip {s t : State} {ps : Set Part} {cause : ℕ} {k₀ : ℕ} {temp : ℤ} {rate : ℤ} (sub : {.pending}ᶜ ⊆ ps) (k : s.Only ps t) :
    s.Only ps (t.trip cause k₀ temp rate) :=
  State.Only.of_sub (by
    unfold State.trip; dsimp only; repeat' split
    all_goals simp [F.THM_RATE_RESTART, *]) sub k

@[simp ↓] theorem State.only_tripCheck {s t : State} {ps : Set Part} (sub : {.pending}ᶜ ⊆ ps) (k : s.Only ps t) :
    s.Only ps (t.tripCheck) :=
  State.Only.of_sub (by
    unfold State.tripCheck; dsimp only; repeat' split
    all_goals simp [*]) sub k

@[simp ↓] theorem State.only_conversion {s t : State} {ps : Set Part} {xs : List (ℕ × ℕ × ℤ)} (sub : {.pending}ᶜ ⊆ ps) (k : s.Only ps t) :
    s.Only ps (t.conversion xs) :=
  State.Only.of_sub (by
    unfold State.conversion; simp (disch := simp (disch := simp))) sub k

/-! #### Power -/

@[simp ↓] theorem State.only_powerMeasured {s t : State} {ps : Set Part} {p : ℕ} (sub : {.free, .reg .THM_POWER, .reg .CHN_ADM_BUDGET} ⊆ ps) :
    s.Only ps (t.powerMeasured p) ↔ s.Only ps t :=
  State.Only.iff (by
    unfold State.powerMeasured; simp [F.THM_PWR_PWR_LIM, F.THM_PWR_PEAK_LIM, F.THM_POWER_P, F.THM_POWER_BETA_PWR, F.CHN_ADM_BUDGET_PWR]) sub (by simp)

/-! #### The restart gate -/

@[simp ↓] theorem State.only_deepRead {s t : State} {ps : Set Part} {xs : List (ℕ × ℤ)} (sub : {.pending}ᶜ ⊆ ps) (k : s.Only ps t) :
    s.Only ps (t.deepRead xs) :=
  State.Only.of_sub (by
    unfold State.deepRead; dsimp only; repeat' split
    all_goals simp [*]) sub k

/-! #### The commands -/

@[simp ↓] theorem keeps_execSensorConversion {ps : Set Part} {xs : List (Sens × BitVec 16 × ℤ)} (sub : {.pending}ᶜ ⊆ ps) : State.Keeps ps (execSensorConversion xs) :=
  State.Keeps.mono (fun t => by
    exact ⟨_, rfl, by simp⟩) sub

@[simp ↓] theorem keeps_execSensorTimeout {ps : Set Part} {k₀ : Sens} (sub : {.sensors, .reg .THM_SENS, .reg .BRK_ARR_CAL, .reg .BRK_STATUS, .reg .TSK_RESTORE_TEMP, .reg .THM_STATUS} ∪ Part.event ∪ Part.tusss ⊆ ps) : State.Keeps ps (execSensorTimeout k₀) :=
  State.Keeps.mono (fun t => by
    exact ⟨_, rfl, by simp⟩) sub

@[simp ↓] theorem keeps_execPowerMeasurement {ps : Set Part} {p : BitVec 10} (sub : {.free, .reg .THM_POWER, .reg .CHN_ADM_BUDGET} ⊆ ps) : State.Keeps ps (execPowerMeasurement p) :=
  State.Keeps.mono (fun t => by
    exact ⟨_, rfl, by simp⟩) sub

@[simp ↓] theorem keeps_execThmForceTrip {ps : Set Part} (sub : {.pending}ᶜ ⊆ ps) : State.Keeps ps execThmForceTrip :=
  State.Keeps.mono (fun t => by
    exact ⟨_, rfl, by simp⟩) sub

@[simp ↓] theorem keeps_execRestartGate {ps : Set Part} {xs : List (Fin 4 × ℤ)} (sub : {.heather} ⊆ ps) : State.Keeps ps (execRestartGate xs) :=
  State.Keeps.mono (fun t => by
    exact ⟨_, rfl, by simp⟩) sub

@[simp ↓] theorem keeps_execDeepSleepSensorRead {ps : Set Part} {xs : List (Fin 4 × ℤ)} (sub : {.pending}ᶜ ⊆ ps) : State.Keeps ps (execDeepSleepSensorRead xs) :=
  State.Keeps.mono (fun t => by
    exact ⟨_, rfl, by simp [F.PWR_STATUS_STATE]⟩) sub

/-! #### Blocks that arrive over Hedgerow, inbound PCIe accesses through BAR2, and the error registers of the -/

@[simp ↓] theorem State.only_blockArrive {s t : State} {ps : Set Part} {n : ℕ} {job : ℕ} {cmd : ℕ} {a : ℕ} {b : Block} {link : Ecc} {expect : Option (ℕ × ℕ)} (sub : {.jobs, .mem, .out, .latent, .provs, .nextProv, .reg .CHN_HDG_ERR, .reg .GLB_RGN_FAULT_INFO, .reg .GLB_RGN_FAULT_ADDR, .reg .TSK_CONV_STATUS, .reg .GRS_STATUS, .reg .GRS_PROV} ∪ Part.event ∪ Part.tusss ⊆ ps) (k : s.Only ps t) :
    s.Only ps (t.blockArrive n job cmd a b link expect) :=
  State.Only.of_sub (by
    unfold State.blockArrive; simp) sub k

@[simp ↓] theorem State.only_pcieBlock {s t : State} {ps : Set Part} {k₀ : ℕ} {base : ℕ} {o : ℕ} {bytes : List Byte} {e : Ecc} (sub : Part.merge ⊆ ps) (k : s.Only ps t) :
    s.Only ps (t.pcieBlock k₀ base o bytes e) :=
  State.Only.of_sub (by
    unfold State.pcieBlock; simp [F.GLB_RGN_ATTR_TAG_MODE, F.GLB_RGN_BASE_BASE, F.GLB_RGN_INGRESS_TENSOR_ID]) sub k

@[simp ↓] theorem State.only_pciePart {s t : State} {ps : Set Part} {a : ℕ} {bytes : List Byte} {e : Ecc} (sub : Part.merge ⊆ ps) (k : s.Only ps t) :
    s.Only ps (t.pciePart a bytes e) :=
  State.Only.of_sub (by
    unfold State.pciePart; repeat' split
    all_goals simp) sub k

@[simp ↓] theorem State.only_pcieBlocks {s t : State} {ps : Set Part} {a : ℕ} {bytes : List Byte} {es : List Ecc} {fuel : ℕ} (sub : Part.merge ⊆ ps) (k : s.Only ps t) :
    s.Only ps (t.pcieBlocks a bytes es fuel) :=
  State.Only.of_sub (by
    clear k
    induction fuel generalizing t a bytes es with
    | zero => exact .refl t _
    | succ n ih =>
      unfold State.pcieBlocks; dsimp only; split
      · simp
      · exact .trans (by simp) ih) sub k

@[simp ↓] theorem State.only_pcieWrite {s t : State} {ps : Set Part} {off : ℕ} {bytes : List Byte} {es : List Ecc} (sub : Part.gwrite ⊆ ps) (k : s.Only ps t) :
    s.Only ps (t.pcieWrite off bytes es) :=
  State.Only.of_sub (by
    have hb : ∀ (t : State) a bs es k, t.Only Part.gwrite (t.pcieBlocks a bs es k) := by simp
    generalize hf : State.pcieWrite = f; delta State.pcieWrite at hf; subst hf
    generalize State.pcieBlocks = pcieBlocks at hb ⊢
    generalize regionOf = region, State.pcieFault = fault
    beta_reduce
    extract_lets a
    clear_value a
    split
    · exact .refl t _
    · rcases fault t true a bytes.length with _ | u
      · rcases region a
        case table g o =>
          dsimp only
          split <;> simp
        all_goals exact hb _ _ _ _ _
      · simp) sub k

@[simp ↓] theorem State.only_pcieReadEcc {s t : State} {ps : Set Part} {a : ℕ} {e : Ecc} (sub : {.latent, .chans, .mem, .out, .reg .TSK_CONV_STATUS, .reg .TSK_TABLE_ECC, .reg .CHN_STK_ERR, .reg .TSK_BANK_ECC} ∪ Part.tusss ⊆ ps) (k : s.Only ps t) :
    s.Only ps (t.pcieReadEcc a e) :=
  State.Only.of_sub (by
    unfold State.pcieReadEcc; split <;> simp [F.TSK_TABLE_ECC_CE_CNT, F.TSK_CONV_STATUS_TABLE_CE, F.TSK_CONV_STATUS_TABLE_UE]) sub k

@[simp ↓] theorem State.only_pcieReadUnits {s t : State} {ps : Set Part} {a : ℕ} {len : ℕ} {es : List Ecc} {fuel : ℕ} (sub : {.reg .TSK_CONV_STATUS, .reg .TSK_TABLE_ECC} ∪ Part.fetch ∪ Part.tusss ⊆ ps) (k : s.Only ps t) :
    s.Only ps (t.pcieReadUnits a len es fuel).1 :=
  State.Only.of_sub (by
    clear k
    induction fuel generalizing t a len es with
    | zero => exact .refl t _
    | succ m ih =>
      unfold State.pcieReadUnits; split
      · exact .refl t _
      · extract_lets u n e isTable open_ bytes v w
        have hv : t.Only ({.reg .TSK_CONV_STATUS, .reg .TSK_TABLE_ECC} ∪ Part.fetch ∪ Part.tusss) v := by unfold v; split <;> simp
        clear_value v
        exact .trans (hv.trans (by simp [w])) ih) sub k

@[simp ↓] theorem State.only_pcieRead {s t : State} {ps : Set Part} {off : ℕ} {len : ℕ} {es : List Ecc} (sub : {.reg .TSK_CONV_STATUS, .reg .TSK_TABLE_ECC} ∪ Part.read ∪ Part.tusss ⊆ ps) (k : s.Only ps t) :
    s.Only ps (t.pcieRead off len es) :=
  State.Only.of_sub (by
    unfold State.pcieRead
    extract_lets a
    clear_value a
    split
    · exact .refl t _
    · split
      · simp
      · split
        · simp
        · split
          rename_i heq
          exact .trans (.of_fst heq (by simp)) (by simp)) sub k

/-! #### The commands -/

@[simp ↓] theorem keeps_execBlockArrive {ps : Set Part} {n : Chn} {job : ℕ} {cmd : ℕ} {a : BitVec 48} {data : List Byte} {crc : Word} {tid : BitVec 16} {seq : BitVec 16} {link : Ecc} {expect : Option (BitVec 16 × BitVec 16)} (sub : {.jobs, .mem, .out, .latent, .provs, .nextProv, .reg .CHN_HDG_ERR, .reg .GLB_RGN_FAULT_INFO, .reg .GLB_RGN_FAULT_ADDR, .reg .TSK_CONV_STATUS, .reg .GRS_STATUS, .reg .GRS_PROV} ∪ Part.event ∪ Part.tusss ⊆ ps) : State.Keeps ps (execBlockArrive n job cmd a data crc tid seq link expect) :=
  State.Keeps.mono (fun t => by
    exact ⟨_, rfl, by simp⟩) sub

@[simp ↓] theorem keeps_execPcieInboundWrite {ps : Set Part} {off : BitVec 38} {bytes : List Byte} {ecc : List Ecc} (sub : Part.gwrite ⊆ ps) : State.Keeps ps (execPcieInboundWrite off bytes ecc) :=
  State.Keeps.mono (fun t => by
    exact ⟨_, rfl, by simp⟩) sub

@[simp ↓] theorem keeps_execPcieInboundRead {ps : Set Part} {off : BitVec 38} {len : BitVec 13} {ecc : List Ecc} (sub : {.reg .TSK_CONV_STATUS, .reg .TSK_TABLE_ECC} ∪ Part.read ∪ Part.tusss ⊆ ps) : State.Keeps ps (execPcieInboundRead off len ecc) :=
  State.Keeps.mono (fun t => by
    exact ⟨_, rfl, by simp⟩) sub

@[simp ↓] theorem keeps_execRgnFaultClear {ps : Set Part} (sub : {.reg .GLB_RGN_FAULT_INFO} ⊆ ps) : State.Keeps ps execRgnFaultClear :=
  State.Keeps.mono (fun t => by
    exact ⟨_, rfl, by simp [F.GLB_RGN_FAULT_INFO_VALID, F.GLB_RGN_FAULT_INFO_FAULT_CNT]⟩) sub

@[simp ↓] theorem keeps_execBar2BaseWrite {ps : Set Part} {v : Word64} (sub : {.reg .PCI_BAR2_BASE} ⊆ ps) : State.Keeps ps (execBar2BaseWrite v) :=
  State.Keeps.mono (fun t => by
    exact ⟨_, rfl, by simp [F.PCI_BAR2_BASE_BASE]⟩) sub

@[simp ↓] theorem keeps_execT3LateClr {ps : Set Part} (sub : {.reg .PCI_T3_LATE} ⊆ ps) : State.Keeps ps execT3LateClr :=
  State.Keeps.mono (fun t => by
    exact ⟨_, rfl, by simp [F.PCI_T3_LATE_CNT]⟩) sub

@[simp ↓] theorem keeps_execHdgErrClr {ps : Set Part} {n : Chn} (sub : {.reg .CHN_HDG_ERR} ⊆ ps) : State.Keeps ps (execHdgErrClr n) :=
  State.Keeps.mono (fun t => by
    exact ⟨_, rfl, by simp [F.CHN_HDG_ERR_LINK_CE_CNT, F.CHN_HDG_ERR_LINK_UE_CNT, F.CHN_HDG_ERR_CRC_CNT, F.CHN_HDG_ERR_TAG_CNT]⟩) sub

@[simp ↓] theorem keeps_execStkErrClr {ps : Set Part} {n : Chn} (sub : {.reg .CHN_STK_ERR} ⊆ ps) : State.Keeps ps (execStkErrClr n) :=
  State.Keeps.mono (fun t => by
    exact ⟨_, rfl, by simp [F.CHN_STK_ERR_CE_CNT, F.CHN_STK_ERR_UE_CNT, F.CHN_STK_ERR_RMW_CNT]⟩) sub

@[simp ↓] theorem keeps_execIngressStall {ps : Set Part} (sub : {.stallSwath, .reg .PCI_ING_STALL} ⊆ ps) : State.Keeps ps execIngressStall :=
  State.Keeps.mono (fun t => by
    exact ⟨_, rfl, by simp [F.PCI_ING_STALL_STALL_CNT]⟩) sub

@[simp ↓] theorem keeps_execIngStallClr {ps : Set Part} (sub : {.reg .PCI_ING_STALL} ⊆ ps) : State.Keeps ps execIngStallClr :=
  State.Keeps.mono (fun t => by
    exact ⟨_, rfl, by simp [F.PCI_ING_STALL_STALL_CNT]⟩) sub

@[simp ↓] theorem keeps_execAdmClrCnt {ps : Set Part} {n : Chn} (sub : {.reg .CHN_JOB_TIMEOUT, .reg .CHN_ADM_HELD, .reg .CHN_ADM_REFUSED, .reg .CHN_ADM_ADMITTED, .reg .CHN_ENG_STATUS, .reg .CHN_ADM_SAT} ⊆ ps) : State.Keeps ps (execAdmClrCnt n) :=
  State.Keeps.mono (fun t => by
    exact ⟨_, rfl, by simp (disch := simp (disch := simp [F.CHN_ADM_ADMITTED_COUNT, F.CHN_ADM_REFUSED_REFUSED, F.CHN_ADM_REFUSED_THROTTLED, F.CHN_ADM_HELD_HELD, F.CHN_JOB_TIMEOUT_TIMEOUT_CNT, F.CHN_JOB_TIMEOUT_MASKED_CNT, F.CHN_ENG_STATUS_BADCMD_CNT, F.CHN_ADM_SAT_REFUSED_CNT]) [F.CHN_ADM_ADMITTED_COUNT, F.CHN_ADM_REFUSED_REFUSED, F.CHN_ADM_REFUSED_THROTTLED, F.CHN_ADM_HELD_HELD, F.CHN_JOB_TIMEOUT_TIMEOUT_CNT, F.CHN_JOB_TIMEOUT_MASKED_CNT, F.CHN_ENG_STATUS_BADCMD_CNT, F.CHN_ADM_SAT_REFUSED_CNT])⟩) sub

@[simp ↓] theorem keeps_execAdmClrPeak {ps : Set Part} {n : Chn} (sub : {.reg .CHN_ADM_SAT, .reg .CHN_TAGS} ⊆ ps) : State.Keeps ps (execAdmClrPeak n) :=
  State.Keeps.mono (fun t => by
    exact ⟨_, rfl, by simp [F.CHN_ADM_SAT_PEAK, F.CHN_TAGS_PEAK]⟩) sub

/-! #### Tasks -/

@[simp ↓] theorem State.only_sendTasks {s t : State} {ps : Set Part} {id : ℕ} {cmd : ℕ} (sub : {.flight, .jobs, .areas, .prods} ⊆ ps) :
    s.Only ps (t.sendTasks id cmd) ↔ s.Only ps t :=
  State.Only.iff (by
    unfold State.sendTasks; repeat' split
    all_goals simp) sub (by simp)

@[simp ↓] theorem State.only_issueTasks {s t : State} {ps : Set Part} {id : ℕ} (sub : {.flight, .jobs, .areas, .prods} ⊆ ps) :
    s.Only ps (t.issueTasks id) ↔ s.Only ps t :=
  State.Only.iff (by
    unfold State.issueTasks; split <;> simp) sub (by simp)

/-! #### Copies -/

@[simp ↓] theorem State.only_copyNote {s t : State} {ps : Set Part} {id : ℕ} {cmd : ℕ} {n : ℕ} {seq : ℕ} (sub : {.jobs} ⊆ ps) :
    s.Only ps (t.copyNote id cmd n seq) ↔ s.Only ps t :=
  State.Only.iff (by
    unfold State.copyNote; dsimp only; repeat' split
    all_goals simp [*]) sub (by simp)

@[simp ↓] theorem State.only_copyOut {s t : State} {ps : Set Part} {j : Job} {cmd : ℕ} {c : List ℕ} {i : ℕ} {b : Block} {link : Ecc} (sub : {.jobs, .out, .leas, .mem, .latent, .provs, .nextProv, .reg .GLB_RGN_FAULT_INFO, .reg .GLB_RGN_FAULT_ADDR, .reg .CHN_HDG_ERR, .reg .TSK_CONV_STATUS, .reg .GRS_STATUS, .reg .GRS_PROV} ∪ Part.event ∪ Part.tusss ⊆ ps) (k : s.Only ps t) :
    s.Only ps (t.copyOut j cmd c i b link) :=
  State.Only.of_sub (by
    unfold State.copyOut; dsimp only; repeat' split
    all_goals
      try simp only [Prod.ext_iff] at *
      try cases_type* And
      subst_vars
      simp (disch := simp (disch := simp [F.LEA_NODE_NODE, *]) [F.LEA_NODE_NODE, *]) [*]) sub k

@[simp ↓] theorem State.only_copyBlock {s t : State} {ps : Set Part} {j : Job} {cmd : ℕ} {c : List ℕ} {e : Ecc} {link : Ecc} (sub : {.reg .TSK_CONV_STATUS, .t3, .jobs, .leas, .provs, .nextProv, .reg .GRS_STATUS, .reg .GRS_PROV} ∪ Part.read ∪ Part.tusss ⊆ ps) (k : s.Only ps t) :
    s.Only ps (t.copyBlock j cmd c e link) :=
  State.Only.of_sub (by
    unfold State.copyBlock; dsimp only; repeat' split
    all_goals
      try simp only [Prod.ext_iff] at *
      try cases_type* And
      subst_vars
      simp (disch := simp (disch := simp [*]) [*]) [*]) sub k

@[simp ↓] theorem State.only_t3Done {s t : State} {ps : Set Part} {b : Block} {link : Ecc} (sub : {.reg .TSK_CONV_STATUS, .t3, .jobs, .leas, .provs, .nextProv, .reg .PCI_T3_LATE, .reg .GRS_STATUS, .reg .GRS_PROV} ∪ Part.read ∪ Part.tusss ⊆ ps) (k : s.Only ps t) :
    s.Only ps (t.t3Done b link) :=
  State.Only.of_sub (by
    unfold State.t3Done; dsimp only; repeat' split
    all_goals
      try simp only [Prod.ext_iff] at *
      try cases_type* And
      subst_vars
      simp (disch := simp (disch := simp [F.PCI_T3_LAT_BOUND, F.PCI_T3_LATE_CNT, *]) [F.PCI_T3_LAT_BOUND, F.PCI_T3_LATE_CNT, *]) [*]) sub k

/-! #### Row writes of a job -/

@[simp ↓] theorem State.only_readRows {s t : State} {ps : Set Part} {n job cmd src tid seq0 : ℕ} {ecc : List Ecc} {k₀ i : ℕ} (sub : {.jobs} ∪ Part.read ⊆ ps) (k : s.Only ps t) :
    s.Only ps (t.readRows n job cmd src tid seq0 ecc k₀ i).1 :=
  State.Only.of_sub (by
    clear k
    induction k₀ generalizing t i with
    | zero => exact .refl t _
    | succ n ih =>
      unfold State.readRows; split
      · rename_i heq
        exact .of_fst heq (by simp)
      · rename_i heq
        split
        all_goals
          rename_i heq₂
          exact .trans (.of_fst heq (by simp)) (.of_fst heq₂ ih)) sub k

@[simp ↓] theorem State.only_zeroUnused {s t : State} {ps : Set Part} {g : ℕ} {a : ℕ} {used : ℕ} (sub : {.tuss g} ⊆ ps) :
    s.Only ps (t.zeroUnused g a used) ↔ s.Only ps t :=
  State.Only.iff (by
    unfold State.zeroUnused; simp) sub (by simp)

@[simp ↓] theorem State.only_sumsOf {s t : State} {ps : Set Part} {n wfmt : ℕ} {xs : List Placement} (sub : Part.read ⊆ ps) (k : s.Only ps t) :
    s.Only ps (t.sumsOf n wfmt xs).1 :=
  State.Only.of_sub (by
    clear k
    induction xs generalizing t with
    | nil => exact .refl t _
    | cons x xs ih =>
      unfold State.sumsOf; split
      · rename_i heq
        exact .of_fst heq (by simp)
      · rename_i heq
        split
        all_goals
          rename_i heq₂
          exact .trans (.of_fst heq (by simp)) (.of_fst heq₂ ih)) sub k

@[simp ↓] theorem State.only_mateSums {s t : State} {ps : Set Part} {n : ℕ} {i : Image} {src : ℕ} (sub : Part.read ⊆ ps) (k : s.Only ps t) :
    s.Only ps (t.mateSums n i src).1 :=
  State.Only.of_sub (by
    unfold State.mateSums; split <;> simp) sub k

@[simp ↓] theorem State.only_awrite {s t : State} {ps : Set Part} {j : Job} {cmd : ℕ} {c : List ℕ} {ecc : List Ecc} (sub : {.reg .TSK_CONV_STATUS, .jobs, .reg .TSK_CONV_CFG, .reg .TSK_ARR_STATE, .reg .BRK_STATUS, .reg .TSK_ARR_WRITE} ∪ Part.read ∪ Part.tusss ⊆ ps) (k : s.Only ps t) :
    s.Only ps (t.awrite j cmd c ecc) :=
  State.Only.of_sub (by
    unfold State.awrite
    extract_lets g n a nrows src ptr img start
    split
    · simp
    · exact .refl t _
    · extract_lets u
      refine .trans (t := u) (by simp [u]) ?_
      clear_value u
      split
      · rename_i heq
        exact .of_fst heq (by simp)
      · rename_i heq
        refine .trans (.of_fst heq (by simp)) ?_
        clear heq
        extract_lets rows
        split
        rename_i w mask heq
        refine .trans (t := w) (.of_fst heq (by split <;> simp)) ?_
        clear heq
        split
        · simp
        · extract_lets h
          split
          · rename_i heq
            refine .trans (.of_fst heq (by split <;> simp)) ?_
            simp
          · rename_i x mates heq
            refine .trans (t := x) (.of_fst heq (by split <;> simp)) ?_
            clear heq
            extract_lets bytes y z
            split
            · simp
            · refine .trans (t := y) (by unfold y; split <;> simp) ?_
              clear_value y
              exact .trans (t := z) (by simp [z]) (by simp)) sub k

/-! #### Digests and test patterns -/

@[simp ↓] theorem State.only_digestCmd {s t : State} {ps : Set Part} {j : Job} {cmd : ℕ} {c : List ℕ} (sub : {.jobs} ∪ Part.gwrite ⊆ ps) (k : s.Only ps t) :
    s.Only ps (t.digestCmd j cmd c) :=
  State.Only.of_sub (by
    unfold State.digestCmd; dsimp only; repeat' split
    all_goals
      simp only [Prod.ext_iff] at *
      cases_type* And
      subst_vars
      simp [*]) sub k

@[simp ↓] theorem State.only_testpat {s t : State} {ps : Set Part} {j : Job} {cmd : ℕ} {c : List ℕ} {ecc : List (ℕ × Ecc)} (sub : {.verifs, .tests, .jobs, .reg .GRS_TP_STATUS} ∪ Part.read ⊆ ps) (k : s.Only ps t) :
    s.Only ps (t.testpat j cmd c ecc) :=
  State.Only.of_sub (by
    unfold State.testpat; dsimp only; repeat' split
    all_goals
      try simp only [Prod.ext_iff] at *
      try cases_type* And
      subst_vars
      simp (disch := simp (disch := simp [*]) [*]) [*]) sub k

@[simp ↓] theorem State.only_logVector {s t : State} {ps : Set Part} {n : ℕ} {t₀ : TestRun} {v : ℕ} {arr : ℕ} {slot : ℕ} {res : ℕ} {fails : ℕ} {worst : ℕ} {dev : ℕ} {time : ℕ} (sub : Part.gwrite ⊆ ps) (k : s.Only ps t) :
    s.Only ps (t.logVector n t₀ v arr slot res fails worst dev time) :=
  State.Only.of_sub (by
    unfold State.logVector; simp) sub k

@[simp ↓] theorem State.only_setTest {s t : State} {ps : Set Part} {t₀ : TestRun} (sub : {.tests} ⊆ ps) :
    s.Only ps (t.setTest t₀) ↔ s.Only ps t :=
  State.Only.iff (by
    unfold State.setTest; simp) sub (by simp)

@[simp ↓] theorem State.only_testEnd {s t : State} {ps : Set Part} {t₀ : TestRun} (sub : {.tests, .jobs, .reg .BRK_STATUS, .reg .TSK_ARR_STATE} ∪ Part.tusss ⊆ ps) :
    s.Only ps (t.testEnd t₀) ↔ s.Only ps t :=
  State.Only.iff (by
    unfold State.testEnd; simp) sub (by simp)

@[simp ↓] theorem State.only_testLate {s t : State} {ps : Set Part} {n : ℕ} {t₀ : TestRun} (sub : {.tests, .jobs, .reg .BRK_STATUS, .reg .TSK_ARR_STATE} ∪ Part.gwrite ⊆ ps) (k : s.Only ps t) :
    s.Only ps (t.testLate n t₀) :=
  State.Only.of_sub (by
    unfold State.testLate; simp) sub k

@[simp ↓] theorem State.only_testFail {s t : State} {ps : Set Part} (sub : {.reg .GRS_STATUS, .reg .GRS_TP_STATUS} ∪ Part.event ⊆ ps) :
    s.Only ps (t.testFail) ↔ s.Only ps t :=
  State.Only.iff (by
    unfold State.testFail; simp [F.GRS_TP_STATUS_FAIL_CNT, F.GRS_STATUS_TP_FAIL]) sub (by simp)

@[simp ↓] theorem State.only_testRead {s t : State} {ps : Set Part} {n : ℕ} {t₀ : TestRun} {xs : List (ℕ × ℕ)} (sub : {.tests, .jobs} ∪ Part.read ⊆ ps) (k : s.Only ps t) :
    s.Only ps (t.testRead n t₀ xs).1 :=
  State.Only.of_sub (by
    clear k
    induction xs generalizing t with
    | nil => exact .refl t _
    | cons x xs ih =>
      unfold State.testRead; split
      · rename_i heq
        have hu := State.Only.of_fst (s := t) (ps := {.tests, .jobs} ∪ Part.read) heq (by simp)
        simp [hu]
      · rename_i heq
        exact .trans (.of_fst heq (by simp)) ih) sub k

@[simp ↓] theorem State.only_testDue {s t : State} {ps : Set Part} {t₀ : TestRun} (sub : {.tests, .jobs, .reg .BRK_STATUS, .reg .TSK_ARR_STATE} ∪ Part.gwrite ⊆ ps) (k : s.Only ps t) :
    s.Only ps (t.testDue t₀) :=
  State.Only.of_sub (by
    unfold State.testDue; split <;> simp) sub k

@[simp ↓] theorem State.only_liveVector {s t : State} {ps : Set Part} {n : ℕ} {t₀ : TestRun} {c : ℕ} {dev : List (ℕ × ℤ)} (sub : {.reg .TSK_CONV_STATUS, .tests, .jobs, .reg .TSK_CONV_SAT, .reg .GRS_ARB_CNT, .reg .GRS_STATUS, .reg .TSK_QUAR_CAUSE, .reg .GRS_LANE_STATUS, .reg .GRS_TP_STATUS, .reg .BRK_STATUS, .reg .TSK_ARR_STATE} ∪ Part.read ∪ Part.tusss ⊆ ps) (k : s.Only ps t) :
    s.Only ps (t.liveVector n t₀ c dev) :=
  State.Only.of_sub (by
    generalize hf : State.liveVector = f; delta State.liveVector at hf; subst hf
    beta_reduce
    extract_lets k a fr done
    split
    · exact .refl t _
    have h : t.Only ({.reg .TSK_CONV_STATUS, .tests, .jobs, .reg .TSK_CONV_SAT, .reg .GRS_ARB_CNT, .reg .GRS_STATUS, .reg .TSK_QUAR_CAUSE, .reg .GRS_LANE_STATUS, .reg .GRS_TP_STATUS, .reg .BRK_STATUS, .reg .TSK_ARR_STATE} ∪ Part.read ∪ Part.tusss) (t.testRead n t₀ t₀.reads).1 := by simp
    revert h
    rcases t.testRead n t₀ t₀.reads with ⟨u, _ | _⟩
    · exact id
    refine fun h => h.trans ?_
    dsimp only
    generalize hv : (((u.countSat t₀.g _).spend t₀.g a _).updTuss t₀.g _) = v
    have hv : u.Only ({.reg .TSK_CONV_STATUS, .tests, .jobs, .reg .TSK_CONV_SAT, .reg .GRS_ARB_CNT, .reg .GRS_STATUS, .reg .TSK_QUAR_CAUSE, .reg .GRS_LANE_STATUS, .reg .GRS_TP_STATUS, .reg .BRK_STATUS, .reg .TSK_ARR_STATE} ∪ Part.read ∪ Part.tusss) v := hv ▸ by simp
    refine hv.trans ?_
    have h : v.Only ({.reg .TSK_CONV_STATUS, .tests, .jobs, .reg .TSK_CONV_SAT, .reg .GRS_ARB_CNT, .reg .GRS_STATUS, .reg .TSK_QUAR_CAUSE, .reg .GRS_LANE_STATUS, .reg .GRS_TP_STATUS, .reg .BRK_STATUS, .reg .TSK_ARR_STATE} ∪ Part.read ∪ Part.tusss) (v.weightsOf t₀.g [a]).1 := by simp
    revert h
    rcases v.weightsOf t₀.g [a] with ⟨w, ws⟩
    refine fun h => h.trans ?_
    dsimp only
    repeat' split
    all_goals simp (disch := simp)) sub k

@[simp ↓] theorem State.only_reserveVector {s t : State} {ps : Set Part} {n : ℕ} {t₀ : TestRun} {c : ℕ} {dev : List (ℕ × ℤ)} (sub : {.reg .TSK_CONV_STATUS, .tests, .jobs, .reg .TSK_CONV_CFG, .reg .TSK_ARR_STATE, .reg .BRK_STATUS, .reg .TSK_ARR_WRITE, .reg .TSK_CONV_SAT, .reg .GRS_STATUS, .reg .GRS_TP_STATUS} ∪ Part.read ∪ Part.tusss ⊆ ps) (k : s.Only ps t) :
    s.Only ps (t.reserveVector n t₀ c dev) :=
  State.Only.of_sub (by
    generalize hf : State.reserveVector = f; delta State.reserveVector at hf; subst hf
    beta_reduce
    extract_lets r
    split
    · exact .refl t _
    split
    · have h : t.Only ({.reg .TSK_CONV_STATUS, .tests, .jobs, .reg .TSK_CONV_CFG, .reg .TSK_ARR_STATE, .reg .BRK_STATUS, .reg .TSK_ARR_WRITE, .reg .TSK_CONV_SAT, .reg .GRS_STATUS, .reg .GRS_TP_STATUS} ∪ Part.read ∪ Part.tusss) (t.testRead n t₀ t₀.reads).1 := by simp
      revert h
      rcases t.testRead n t₀ t₀.reads with ⟨u, _ | _⟩
      · exact id
      · refine fun h => h.trans ?_
        dsimp only
        simp
    split
    · exact .refl t _
    have h : t.Only ({.reg .TSK_CONV_STATUS, .tests, .jobs, .reg .TSK_CONV_CFG, .reg .TSK_ARR_STATE, .reg .BRK_STATUS, .reg .TSK_ARR_WRITE, .reg .TSK_CONV_SAT, .reg .GRS_STATUS, .reg .GRS_TP_STATUS} ∪ Part.read ∪ Part.tusss) (t.testRead n t₀ t₀.reads).1 := by simp
    revert h
    rcases t.testRead n t₀ t₀.reads with ⟨u, _ | _⟩
    · exact id
    refine fun h => h.trans ?_
    dsimp only
    repeat' split
    all_goals simp (disch := simp)) sub k

@[simp ↓] theorem State.only_testVector {s t : State} {ps : Set Part} {job : ℕ} {cmd : ℕ} {c : ℕ} {dev : List (ℕ × ℤ)} (sub : {.tests, .jobs, .irq, .mem, .out, .flits, .latent, .chans, .free} ∪ Part.tusss ∪ Part.regs ⊆ ps) (k : s.Only ps t) :
    s.Only ps (t.testVector job cmd c dev) :=
  State.Only.of_sub (by
    unfold State.testVector; split <;> simp) sub k

/-! #### The end of a job -/

@[simp ↓] theorem State.only_expire {s t : State} {ps : Set Part} {w : ℕ} (sub : {.jobs} ⊆ ps) :
    s.Only ps (t.expire w) ↔ s.Only ps t :=
  State.Only.iff (by
    unfold State.expire; simp) sub (by simp)

@[simp ↓] theorem State.only_timeout {s t : State} {ps : Set Part} {id : ℕ} (sub : {.jobs} ⊆ ps) :
    s.Only ps (t.timeout id) ↔ s.Only ps t :=
  State.Only.iff (by
    unfold State.timeout; split <;> simp) sub (by simp)

@[simp ↓] theorem State.only_countTimer {s t : State} {ps : Set Part} {j : Job} (sub : {.reg .CHN_JOB_TIMEOUT} ⊆ ps) :
    s.Only ps (t.countTimer j) ↔ s.Only ps t :=
  State.Only.iff (by
    unfold State.countTimer; split <;> simp [F.CHN_JOB_TIMEOUT_TIMEOUT_CNT, F.CHN_JOB_TIMEOUT_MASKED_CNT]) sub (by simp)

@[simp ↓] theorem State.only_writeCompletion {s t : State} {ps : Set Part} {id : ℕ} (sub : {.reg .CHN_JOB_TIMEOUT} ∪ Part.token ⊆ ps) (k : s.Only ps t) :
    s.Only ps (t.writeCompletion id) :=
  State.Only.of_sub (by
    unfold State.writeCompletion; dsimp only; repeat' split
    all_goals simp [*]) sub k

/-! #### The commands -/

@[simp ↓] theorem keeps_execTaskIssue {ps : Set Part} {job : ℕ} (sub : {.flight, .jobs, .areas, .prods} ⊆ ps) : State.Keeps ps (execTaskIssue job) :=
  State.Keeps.mono (fun t => by
    exact ⟨_, rfl, by simp⟩) sub

@[simp ↓] theorem keeps_execTasks {ps : Set Part} {job : ℕ} {cmd : ℕ} (sub : {.flight, .jobs, .areas, .prods} ⊆ ps) : State.Keeps ps (execTasks job cmd) :=
  State.Keeps.mono (fun t => by
    exact ⟨_, rfl, by simp⟩) sub

@[simp ↓] theorem keeps_execCopy {ps : Set Part} {job : ℕ} {cmd : ℕ} {ecc : Ecc} {link : Ecc} (sub : {.reg .TSK_CONV_STATUS, .t3, .jobs, .leas, .provs, .nextProv, .reg .GRS_STATUS, .reg .GRS_PROV} ∪ Part.read ∪ Part.tusss ⊆ ps) : State.Keeps ps (execCopy job cmd ecc link) :=
  State.Keeps.mono (fun t => by
    refine ⟨_, rfl, ?_⟩
    repeat' split
    all_goals simp (disch := simp (disch := simp))) sub

@[simp ↓] theorem keeps_execT3ReadCompletion {ps : Set Part} {data : List Byte} {crc : Word} {tid : BitVec 16} {seq : BitVec 16} {link : Ecc} (sub : {.reg .TSK_CONV_STATUS, .t3, .jobs, .leas, .provs, .nextProv, .reg .PCI_T3_LATE, .reg .GRS_STATUS, .reg .GRS_PROV} ∪ Part.read ∪ Part.tusss ⊆ ps) : State.Keeps ps (execT3ReadCompletion data crc tid seq link) :=
  State.Keeps.mono (fun t => by
    exact ⟨_, rfl, by simp⟩) sub

@[simp ↓] theorem keeps_execAwrite {ps : Set Part} {job : ℕ} {cmd : ℕ} {ecc : List Ecc} (sub : {.reg .TSK_CONV_STATUS, .jobs, .reg .TSK_CONV_CFG, .reg .TSK_ARR_STATE, .reg .BRK_STATUS, .reg .TSK_ARR_WRITE} ∪ Part.read ∪ Part.tusss ⊆ ps) : State.Keeps ps (execAwrite job cmd ecc) :=
  State.Keeps.mono (fun t => by
    refine ⟨_, rfl, ?_⟩
    repeat' split
    all_goals simp (disch := simp (disch := simp))) sub

@[simp ↓] theorem keeps_execDigest {ps : Set Part} {job : ℕ} {cmd : ℕ} (sub : {.jobs} ∪ Part.gwrite ⊆ ps) : State.Keeps ps (execDigest job cmd) :=
  State.Keeps.mono (fun t => by
    refine ⟨_, rfl, ?_⟩
    repeat' split
    all_goals simp (disch := simp (disch := simp))) sub

@[simp ↓] theorem keeps_execTestpat {ps : Set Part} {job : ℕ} {cmd : ℕ} {ecc : List (BitVec 24 × Ecc)} (sub : {.verifs, .tests, .jobs, .reg .GRS_TP_STATUS} ∪ Part.read ⊆ ps) : State.Keeps ps (execTestpat job cmd ecc) :=
  State.Keeps.mono (fun t => by
    refine ⟨_, rfl, ?_⟩
    repeat' split
    all_goals simp (disch := simp (disch := simp))) sub

@[simp ↓] theorem keeps_execTestVector {ps : Set Part} {job : ℕ} {cmd : ℕ} {c : BitVec 8} {dev : List (Fin 260 × ℤ)} (sub : {.tests, .jobs, .irq, .mem, .out, .flits, .latent, .chans, .free} ∪ Part.tusss ∪ Part.regs ⊆ ps) : State.Keeps ps (execTestVector job cmd c dev) :=
  State.Keeps.mono (fun t => by
    exact ⟨_, rfl, by simp⟩) sub

@[simp ↓] theorem keeps_execJobTimeout {ps : Set Part} {job : ℕ} (sub : {.jobs} ⊆ ps) : State.Keeps ps (execJobTimeout job) :=
  State.Keeps.mono (fun t => by
    exact ⟨_, rfl, by simp⟩) sub

@[simp ↓] theorem keeps_execCompletionRecordWrite {ps : Set Part} {job : ℕ} (sub : {.reg .CHN_JOB_TIMEOUT} ∪ Part.token ⊆ ps) : State.Keeps ps (execCompletionRecordWrite job) :=
  State.Keeps.mono (fun t => by
    exact ⟨_, rfl, by simp⟩) sub

/-! #### The Lea ports -/

@[simp ↓] theorem State.only_leaTo {s t : State} {ps : Set Part} {p : ℕ} {st : ℕ} (sub : {.leas, .reg .LEA_PORT_STATUS} ∪ Part.event ⊆ ps) :
    s.Only ps (t.leaTo p st) ↔ s.Only ps t :=
  State.Only.iff (by
    unfold State.leaTo; simp [F.LEA_PORT_STATUS_STATE]) sub (by simp)

@[simp ↓] theorem State.only_leaFail {s t : State} {ps : Set Part} {p : ℕ} (sub : {.leas, .reg .LEA_PORT_STATUS} ∪ Part.event ⊆ ps) :
    s.Only ps (t.leaFail p) ↔ s.Only ps t :=
  State.Only.iff (by
    unfold State.leaFail; simp [F.LEA_PORT_CFG_MAX_ATTEMPTS, F.LEA_PORT_STATUS_ATTEMPTS, F.LEA_PORT_STATUS_TRAIN_FAIL]) sub (by simp)

@[simp ↓] theorem State.only_leaUp {s t : State} {ps : Set Part} {p : ℕ} {kind : ℕ} {node : ℕ} {dbuf : ℕ} {cbuf : ℕ} (sub : {.leas, .reg .LEA_PORT_STATUS} ∪ Part.event ⊆ ps) :
    s.Only ps (t.leaUp p kind node dbuf cbuf) ↔ s.Only ps t :=
  State.Only.iff (by
    unfold State.leaUp; simp [F.LEA_PORT_STATUS_ATTEMPTS, F.LEA_PORT_STATUS_PARTNER_NODE, F.LEA_PORT_STATUS_PARTNER_1100]) sub (by simp)

@[simp ↓] theorem State.only_leaTrain {s t : State} {ps : Set Part} {p : ℕ} {x : ℕ × ℕ × ℕ × ℕ × ℕ × ℕ} {agreed : Bool} (sub : {.leas, .reg .LEA_PORT_STATUS} ∪ Part.event ⊆ ps) :
    s.Only ps (t.leaTrain p x agreed) ↔ s.Only ps t :=
  State.Only.iff (by
    unfold State.leaTrain; simp [F.LEA_PORT_CFG_RATE, F.LEA_PORT_STATUS_RATE_MISMATCH]) sub (by simp)

/-! #### Retry exhaustion -/

@[simp ↓] theorem State.only_leaExhaust {s t : State} {ps : Set Part} {p : ℕ} (sub : {.leas, .jobs, .provs, .commits, .reg .LEA_PORT_STATUS, .reg .LEA_PORT_ERR, .reg .LEA_STATUS, .reg .LEA_CTRL_STAT, .reg .GRS_PROV} ∪ Part.event ⊆ ps) :
    s.Only ps (t.leaExhaust p) ↔ s.Only ps t :=
  State.Only.iff (by
    unfold State.leaExhaust; simp [F.LEA_PORT_STATUS_EXHAUSTED, F.LEA_PORT_ERR_EXHAUST_CNT]) sub (by simp)

/-! #### Acknowledgement and replay -/

@[simp ↓] theorem State.only_leaAcked {s t : State} {ps : Set Part} {p : ℕ} {f : LeaFrame} (sub : {.jobs} ⊆ ps) :
    s.Only ps (t.leaAcked p f) ↔ s.Only ps t :=
  State.Only.iff (by
    unfold State.leaAcked; dsimp only; repeat' split
    all_goals simp [*]) sub (by simp)

@[simp ↓] theorem State.only_leaAck {s t : State} {ps : Set Part} {p : ℕ} {a : ℕ} (sub : {.leas, .jobs} ⊆ ps) :
    s.Only ps (t.leaAck p a) ↔ s.Only ps t :=
  State.Only.iff (by
    unfold State.leaAck; simp) sub (by simp)

@[simp ↓] theorem State.only_leaCredits {s t : State} {ps : Set Part} {p : ℕ} {d : ℕ} {c : ℕ} (sub : {.leas} ⊆ ps) :
    s.Only ps (t.leaCredits p d c) ↔ s.Only ps t :=
  State.Only.iff (by
    unfold State.leaCredits; simp) sub (by simp)

@[simp ↓] theorem State.only_leaReplay {s t : State} {ps : Set Part} {p : ℕ} (sub : {.leas, .jobs, .provs, .commits, .reg .LEA_PORT_ERR, .reg .LEA_PORT_STATUS, .reg .LEA_STATUS, .reg .LEA_CTRL_STAT, .reg .GRS_PROV} ∪ Part.event ⊆ ps) :
    s.Only ps (t.leaReplay p) ↔ s.Only ps t :=
  State.Only.iff (by
    unfold State.leaReplay; dsimp only; repeat' split
    all_goals simp [F.LEA_PORT_ERR_TRY_CNT, *]) sub (by simp)

@[simp ↓] theorem State.only_leaHeader {s t : State} {ps : Set Part} {p : ℕ} {h₀ : LeaHdr} (sub : {.leas, .jobs, .provs, .commits, .reg .LEA_PORT_FEC, .reg .LEA_PORT_ERR, .reg .LEA_PORT_STATUS, .reg .LEA_STATUS, .reg .LEA_CTRL_STAT, .reg .GRS_PROV} ∪ Part.event ⊆ ps) :
    s.Only ps (t.leaHeader p h₀) ↔ s.Only ps t :=
  State.Only.iff (by
    unfold State.leaHeader; simp [F.LEA_PORT_FEC_CORR_CNT]) sub (by simp)

@[simp ↓] theorem State.only_leaBad {s t : State} {ps : Set Part} {p : ℕ} {crcBad : Bool} (sub : {.leas, .reg .LEA_PORT_ERR} ⊆ ps) :
    s.Only ps (t.leaBad p crcBad) ↔ s.Only ps t :=
  State.Only.iff (by
    unfold State.leaBad; simp [F.LEA_PORT_ERR_CRC_CNT]) sub (by simp)

/-! #### Outbound slots -/

@[simp ↓] theorem State.only_leaSentCount {s t : State} {ps : Set Part} {p : ℕ} {again : Bool} (sub : {.legacyRefs, .jobs, .reg .LEA_PORT_TX, .reg .LEA_PORT_STAT} ⊆ ps) :
    s.Only ps (t.leaSentCount p again) ↔ s.Only ps t :=
  State.Only.iff (by
    unfold State.leaSentCount; repeat' split
    all_goals simp [F.LEA_PORT_TX_FRAMES, F.LEA_PORT_STATUS_PARTNER_1100, F.LEA_PORT_STAT_LEGACY_PROV_CNT]) sub (by simp)

@[simp ↓] theorem State.only_leaSlot {s t : State} {ps : Set Part} {p : ℕ} {id : ℕ} (sub : {.legacyRefs, .jobs, .leas, .reg .LEA_PORT_TX, .reg .LEA_PORT_STAT} ⊆ ps) :
    s.Only ps (t.leaSlot p id) ↔ s.Only ps t :=
  State.Only.iff (by
    unfold State.leaSlot; simp) sub (by simp)

/-! #### Inbound blocks -/

@[simp ↓] theorem State.only_leaChain {s t : State} {ps : Set Part} {p : ℕ} {a : ℕ} {f : LeaFrame} {prov : Bool} {origin : ℕ} {jobref : ℕ} (sub : {.chainRefs, .leas, .reg .GLB_DIST_STAT} ⊆ ps) :
    s.Only ps (t.leaChain p a f prov origin jobref) ↔ s.Only ps t :=
  State.Only.iff (by
    unfold State.leaChain; simp [F.GLB_DIST_CFG_EN, F.GLB_DIST_CFG_LAST, F.GLB_DIST_CFG_IN_PORT, F.GLB_DIST_BASE_BASE, F.GLB_DIST_LIMIT_LIMIT, F.GLB_DIST_CFG_OUT_PORT, F.GLB_DIST_STAT_MISS_CNT]) sub (by simp)

@[simp ↓] theorem State.only_leaDenied {s t : State} {ps : Set Part} {p : ℕ} {a : ℕ} {origin : ℕ} {jobref : ℕ} (sub : {.leaFaults, .leas, .reg .LEA_PORT_STAT, .reg .LEA_STATUS, .reg .LEA_CTRL_STAT} ⊆ ps) :
    s.Only ps (t.leaDenied p a origin jobref) ↔ s.Only ps t :=
  State.Only.iff (by
    unfold State.leaDenied; simp [F.LEA_PORT_STAT_DENIED_CNT]) sub (by simp)

@[simp ↓] theorem State.only_inboundCross {s t : State} {ps : Set Part} {p : ℕ} {a : ℕ} {b : Block} (sub : {.flits, .jobs, .reg .CHN_HDG_ERR} ⊆ ps) :
    s.Only ps (t.inboundCross p a b).1 ↔ s.Only ps t :=
  State.Only.iff (by
    unfold State.inboundCross; split <;> simp) sub (by simp)

@[simp ↓] theorem State.only_leaBlock {s t : State} {ps : Set Part} {p : ℕ} {a : ℕ} {b : Block} {prov : Bool} {origin : ℕ} {jobref : ℕ} (sub : {.chainRefs, .leas, .leaFaults, .flits, .jobs, .mem, .latent, .out, .provs, .nextProv, .reg .GLB_DIST_STAT, .reg .LEA_PORT_STAT, .reg .LEA_STATUS, .reg .LEA_CTRL_STAT, .reg .GLB_RGN_FAULT_INFO, .reg .GLB_RGN_FAULT_ADDR, .reg .CHN_HDG_ERR, .reg .TSK_CONV_STATUS, .reg .GRS_STATUS, .reg .GRS_PROV} ∪ Part.event ∪ Part.tusss ⊆ ps) (k : s.Only ps t) :
    s.Only ps (t.leaBlock p a b prov origin jobref) :=
  State.Only.of_sub (by
    unfold State.leaBlock; dsimp only; repeat' split
    all_goals simp [*]) sub k

/-! #### Control messages -/

@[simp ↓] theorem State.only_msgForward {s t : State} {ps : Set Part} {p : ℕ} {m : LeaMsg} (sub : {.leas, .reg .LEA_STATUS, .reg .LEA_CTRL_STAT} ⊆ ps) :
    s.Only ps (t.msgForward p m) ↔ s.Only ps t :=
  State.Only.iff (by
    unfold State.msgForward; simp) sub (by simp)

@[simp ↓] theorem State.only_legacyToken {s t : State} {ps : Set Part} {m : LeaRoute} {retracted : Bool} (sub : {.legacyRefs, .reg .GRS_STATUS, .reg .GRS_EVT_CNT} ∪ Part.event ⊆ ps) :
    s.Only ps (t.legacyToken m retracted) ↔ s.Only ps t :=
  State.Only.iff (by
    unfold State.legacyToken; simp) sub (by simp)

@[simp ↓] theorem State.only_addrFaulted {s t : State} {ps : Set Part} {jobref : ℕ} {a : ℕ} (sub : Part.token ⊆ ps) (k : s.Only ps t) :
    s.Only ps (t.addrFaulted jobref a) :=
  State.Only.of_sub (by
    unfold State.addrFaulted; repeat' split
    all_goals simp [F.LEA_CTRL_STAT_LATE_FAULT_CNT]) sub k

@[simp ↓] theorem State.only_digestIn {s t : State} {ps : Set Part} {origin : ℕ} {body : List Byte} (sub : {.ctxs, .reg .LEA_STATUS} ⊆ ps) :
    s.Only ps (t.digestIn origin body) ↔ s.Only ps t :=
  State.Only.iff (by
    unfold State.digestIn; simp [F.GRS_REP_CFG_EN, F.LEA_STATUS_NODE_MISMATCH]) sub (by simp)

/-! #### The commands -/

@[simp ↓] theorem keeps_execLeaEnable {ps : Set Part} {p : Port} (sub : {.leas, .reg .LEA_PORT_CFG, .reg .LEA_PORT_STATUS} ∪ Part.event ⊆ ps) : State.Keeps ps (execLeaEnable p) :=
  State.Keeps.mono (fun t => by
    exact ⟨_, rfl, by simp [F.LEA_PORT_CFG_EN]⟩) sub

@[simp ↓] theorem keeps_execLeaDisable {ps : Set Part} {p : Port} (sub : {.leas, .reg .LEA_PORT_CFG, .reg .LEA_PORT_STATUS} ∪ Part.event ⊆ ps) : State.Keeps ps (execLeaDisable p) :=
  State.Keeps.mono (fun t => by
    exact ⟨_, rfl, by simp [F.LEA_PORT_CFG_EN]⟩) sub

@[simp ↓] theorem keeps_execLeaRetrain {ps : Set Part} {p : Port} (sub : {.leas, .reg .LEA_PORT_STATUS} ∪ Part.event ⊆ ps) : State.Keeps ps (execLeaRetrain p) :=
  State.Keeps.mono (fun t => by
    exact ⟨_, rfl, by simp⟩) sub

@[simp ↓] theorem keeps_execLeaTrainDone {ps : Set Part} {p : Port} (sub : {.leas, .reg .LEA_PORT_STATUS} ∪ Part.event ⊆ ps) : State.Keeps ps (execLeaTrainDone p) :=
  State.Keeps.mono (fun t => by
    exact ⟨_, rfl, by simp⟩) sub

@[simp ↓] theorem keeps_execLeaAlignDone {ps : Set Part} {p : Port} (sub : {.leas, .reg .LEA_PORT_STATUS} ∪ Part.event ⊆ ps) : State.Keeps ps (execLeaAlignDone p) :=
  State.Keeps.mono (fun t => by
    exact ⟨_, rfl, by simp⟩) sub

@[simp ↓] theorem keeps_execLeaAttemptFail {ps : Set Part} {p : Port} (sub : {.leas, .reg .LEA_PORT_STATUS} ∪ Part.event ⊆ ps) : State.Keeps ps (execLeaAttemptFail p) :=
  State.Keeps.mono (fun t => by
    exact ⟨_, rfl, by simp⟩) sub

@[simp ↓] theorem keeps_execLeaTrainFrame {ps : Set Part} {p : Port} {kind : BitVec 8} {rate : BitVec 8} {node : BitVec 4} {port : BitVec 8} {dbuf : BitVec 8} {cbuf : BitVec 8} {agreed : Bool} (sub : {.leas, .reg .LEA_PORT_STATUS} ∪ Part.event ⊆ ps) : State.Keeps ps (execLeaTrainFrame p kind rate node port dbuf cbuf agreed) :=
  State.Keeps.mono (fun t => by
    exact ⟨_, rfl, by simp⟩) sub

@[simp ↓] theorem keeps_execLeaLockLoss {ps : Set Part} {p : Port} (sub : {.leas, .reg .LEA_PORT_STATUS} ∪ Part.event ⊆ ps) : State.Keeps ps (execLeaLockLoss p) :=
  State.Keeps.mono (fun t => by
    exact ⟨_, rfl, by simp⟩) sub

@[simp ↓] theorem keeps_execLeaBreakEnd {ps : Set Part} {p : Port} (sub : {.leas, .reg .LEA_PORT_STATUS} ∪ Part.event ⊆ ps) : State.Keeps ps (execLeaBreakEnd p) :=
  State.Keeps.mono (fun t => by
    exact ⟨_, rfl, by simp [F.LEA_PORT_CFG_AUTO_RETRAIN]⟩) sub

@[simp ↓] theorem keeps_execLeaFrameSlot {ps : Set Part} {p : Port} {job : ℕ} (sub : {.legacyRefs, .jobs, .leas, .reg .LEA_PORT_TX, .reg .LEA_PORT_STAT} ⊆ ps) : State.Keeps ps (execLeaFrameSlot p job) :=
  State.Keeps.mono (fun t => by
    exact ⟨_, rfl, by simp⟩) sub

/-! #### Acknowledgement and replay -/

/-- What the receipt of a Lea frame changes, before the frame acts. -/
def Part.leaRx : Set Part := {.leas, .jobs, .provs, .commits, .chainRefs, .reg .LEA_PORT_FEC, .reg .LEA_PORT_ERR, .reg .LEA_PORT_STATUS,
  .reg .LEA_STATUS, .reg .LEA_CTRL_STAT, .reg .GRS_PROV, .reg .LEA_PORT_RX} ∪ Part.event

theorem State.only_leaAccept {t : State} {ps : Set Part} {p : ℕ} {h : LeaHdr} {act : State → State} (sub : Part.leaRx ⊆ ps)
    (ha : ∀ u : State, u.Only ps (act u)) : t.Only ps (t.leaAccept p h act) := by
  unfold State.leaAccept
  split
  · exact .refl t _
  extract_lets u
  have hu : t.Only ps u := .mono (by simp [u, Part.leaRx]) sub
  clear_value u
  refine hu.trans ?_
  split
  · exact .refl u _
  split
  · exact .mono (by simp [Part.leaRx]) sub
  · exact .trans (.mono (by simp [F.LEA_PORT_RX_FRAMES, Part.leaRx]) sub) (ha _)

/-! #### Control messages -/

theorem State.only_leaCtrl {t : State} {ps : Set Part} {p : ℕ} {m : LeaMsg} {act : State → State} (sub : Part.leaRx ⊆ ps)
    (ha : ∀ u : State, u.Only ps (act u)) : t.Only ps (t.leaCtrl p m act) := by
  unfold State.leaCtrl
  extract_lets u q w v
  have hu : t.Only ps u := .mono (by simp [u, Part.leaRx]) sub
  clear_value u
  refine hu.trans ?_
  split
  · exact .mono (by simp [F.LEA_STATUS_CTRL_DROP, Part.leaRx]) sub
  have hv : u.Only ps v := .mono (by unfold v; split <;> simp [w, Part.leaRx]) sub
  clear_value v
  refine hv.trans ?_
  split
  · exact ha v
  · split <;> exact .mono (by simp [Part.leaRx]) sub

theorem State.only_leaMessage {t : State} {ps : Set Part} {p : ℕ} {h : LeaHdr} {msg : ℕ} {r : LeaRoute} {body : List Byte}
    {act : State → State} (sub : Part.leaRx ⊆ ps) (ha : ∀ u : State, u.Only ps (act u)) :
    t.Only ps (t.leaMessage p h msg r body act) :=
  State.only_leaAccept sub fun _ => State.only_leaCtrl sub ha

/-! #### The commands -/

@[simp ↓] theorem keeps_execLeaDataFrame {ps : Set Part} {p : Port} {h₀ : LeaHdr} {prov : Bool} {addr : BitVec 40} {origin : BitVec 4} {jobref : BitVec 16} {data : List Byte} {crc : Word} {tid : BitVec 16} {seq : BitVec 16} (sub : {.leas, .jobs, .provs, .commits, .chainRefs, .leaFaults, .flits, .mem, .latent, .out, .nextProv, .reg .LEA_PORT_FEC, .reg .LEA_PORT_ERR, .reg .LEA_PORT_STATUS, .reg .LEA_STATUS, .reg .LEA_CTRL_STAT, .reg .GRS_PROV, .reg .LEA_PORT_RX, .reg .GLB_DIST_STAT, .reg .LEA_PORT_STAT, .reg .GLB_RGN_FAULT_INFO, .reg .GLB_RGN_FAULT_ADDR, .reg .CHN_HDG_ERR, .reg .TSK_CONV_STATUS, .reg .GRS_STATUS} ∪ Part.event ∪ Part.tusss ⊆ ps) : State.Keeps ps (execLeaDataFrame p h₀ prov addr origin jobref data crc tid seq) :=
  State.Keeps.mono (fun t => by
    refine ⟨_, rfl, State.only_ifPort.2 ?_⟩
    split
    · exact .refl t _
    · exact State.only_leaAccept (by simp [Part.leaRx]) fun u => by simp) sub

@[simp ↓] theorem keeps_execLeaIdleFrame {ps : Set Part} {p : Port} {h₀ : LeaHdr} (sub : {.leas, .jobs, .provs, .commits, .reg .LEA_PORT_FEC, .reg .LEA_PORT_ERR, .reg .LEA_PORT_STATUS, .reg .LEA_STATUS, .reg .LEA_CTRL_STAT, .reg .GRS_PROV} ∪ Part.event ⊆ ps) : State.Keeps ps (execLeaIdleFrame p h₀) :=
  State.Keeps.mono (fun t => by
    exact ⟨_, rfl, by simp⟩) sub

@[simp ↓] theorem keeps_execLeaBadFrame {ps : Set Part} {p : Port} {crcBad : Bool} {uncorr : BitVec 8} (sub : {.leas, .reg .LEA_PORT_ERR, .reg .LEA_PORT_FEC} ⊆ ps) : State.Keeps ps (execLeaBadFrame p crcBad uncorr) :=
  State.Keeps.mono (fun t => by
    exact ⟨_, rfl, by simp [F.LEA_PORT_FEC_UNCORR_CNT]⟩) sub

@[simp ↓] theorem keeps_execLeaNak {ps : Set Part} {p : Port} {h₀ : LeaHdr} (sub : {.leas, .jobs, .provs, .commits, .reg .LEA_PORT_FEC, .reg .LEA_PORT_ERR, .reg .LEA_PORT_STATUS, .reg .LEA_STATUS, .reg .LEA_CTRL_STAT, .reg .GRS_PROV} ∪ Part.event ⊆ ps) : State.Keeps ps (execLeaNak p h₀) :=
  State.Keeps.mono (fun t => by
    exact ⟨_, rfl, by simp⟩) sub

@[simp ↓] theorem keeps_execLeaReplayTimeout {ps : Set Part} {p : Port} (sub : {.leas, .jobs, .provs, .commits, .reg .LEA_PORT_ERR, .reg .LEA_PORT_STATUS, .reg .LEA_STATUS, .reg .LEA_CTRL_STAT, .reg .GRS_PROV} ∪ Part.event ⊆ ps) : State.Keeps ps (execLeaReplayTimeout p) :=
  State.Keeps.mono (fun t => by
    exact ⟨_, rfl, by simp⟩) sub

@[simp ↓] theorem keeps_execRetryExhausted {ps : Set Part} {p : Port} (sub : {.leas, .jobs, .provs, .commits, .reg .LEA_PORT_STATUS, .reg .LEA_PORT_ERR, .reg .LEA_STATUS, .reg .LEA_CTRL_STAT, .reg .GRS_PROV} ∪ Part.event ⊆ ps) : State.Keeps ps (execRetryExhausted p) :=
  State.Keeps.mono (fun t => by
    refine ⟨_, rfl, ?_⟩
    repeat' split
    all_goals simp (disch := simp (disch := simp))) sub

@[simp ↓] theorem keeps_execCreditStall {ps : Set Part} {p : Port} (sub : {.reg .LEA_PORT_STATUS} ∪ Part.event ⊆ ps) : State.Keeps ps (execCreditStall p) :=
  State.Keeps.mono (fun t => by
    exact ⟨_, rfl, by simp [F.LEA_PORT_STATUS_CREDIT_STALL]⟩) sub

@[simp ↓] theorem keeps_execConfirm {ps : Set Part} {p : Port} {h₀ : LeaHdr} {m : LeaRoute} (sub : {.leas, .jobs, .provs, .commits, .chainRefs, .legacyRefs, .reg .LEA_PORT_FEC, .reg .LEA_PORT_ERR, .reg .LEA_PORT_STATUS, .reg .LEA_STATUS, .reg .LEA_CTRL_STAT, .reg .GRS_PROV, .reg .LEA_PORT_RX, .reg .GRS_STATUS, .reg .GRS_EVT_CNT} ∪ Part.event ⊆ ps) : State.Keeps ps (execConfirm p h₀ m) :=
  State.Keeps.mono (fun t => by
    refine ⟨_, rfl, State.only_ifPort.2 ?_⟩
    split
    · exact .refl t _
    · exact State.only_leaMessage (by simp [Part.leaRx]) fun u => by simp) sub

@[simp ↓] theorem keeps_execRetract {ps : Set Part} {p : Port} {h₀ : LeaHdr} {m : LeaRoute} (sub : {.leas, .jobs, .provs, .commits, .chainRefs, .legacyRefs, .reg .LEA_PORT_FEC, .reg .LEA_PORT_ERR, .reg .LEA_PORT_STATUS, .reg .LEA_STATUS, .reg .LEA_CTRL_STAT, .reg .GRS_PROV, .reg .LEA_PORT_RX, .reg .GRS_STATUS, .reg .GRS_EVT_CNT} ∪ Part.event ⊆ ps) : State.Keeps ps (execRetract p h₀ m) :=
  State.Keeps.mono (fun t => by
    refine ⟨_, rfl, State.only_ifPort.2 ?_⟩
    split
    · exact .refl t _
    · exact State.only_leaMessage (by simp [Part.leaRx]) fun u => by simp) sub

@[simp ↓] theorem keeps_execCommitted {ps : Set Part} {p : Port} {h₀ : LeaHdr} {m : LeaRoute} (sub : {.leas, .jobs, .provs, .commits, .chainRefs, .reg .LEA_PORT_FEC, .reg .LEA_PORT_ERR, .reg .LEA_PORT_STATUS, .reg .LEA_STATUS, .reg .LEA_CTRL_STAT, .reg .GRS_PROV, .reg .LEA_PORT_RX, .reg .GRS_STATUS, .reg .GRS_EVT_CNT} ∪ Part.event ⊆ ps) : State.Keeps ps (execCommitted p h₀ m) :=
  State.Keeps.mono (fun t => by
    refine ⟨_, rfl, State.only_ifPort.2 ?_⟩
    split
    · exact .refl t _
    · exact State.only_leaMessage (by simp [Part.leaRx]) fun u => by simp) sub

@[simp ↓] theorem keeps_execDigestMessage {ps : Set Part} {p : Port} {h₀ : LeaHdr} {m : LeaRoute} {body : List Byte} (sub : {.leas, .jobs, .provs, .commits, .chainRefs, .ctxs, .reg .LEA_PORT_FEC, .reg .LEA_PORT_ERR, .reg .LEA_PORT_STATUS, .reg .LEA_STATUS, .reg .LEA_CTRL_STAT, .reg .GRS_PROV, .reg .LEA_PORT_RX} ∪ Part.event ⊆ ps) : State.Keeps ps (execDigestMessage p h₀ m body) :=
  State.Keeps.mono (fun t => by
    refine ⟨_, rfl, State.only_ifPort.2 ?_⟩
    split
    · exact .refl t _
    · exact State.only_leaMessage (by simp [Part.leaRx]) fun u => by simp) sub

@[simp ↓] theorem keeps_execAddrFault {ps : Set Part} {p : Port} {h₀ : LeaHdr} {m : LeaRoute} {addr : BitVec 48} (sub : {.leas, .jobs, .irq, .provs, .commits, .chainRefs, .engines, .boot, .mem, .out, .flits, .latent, .chans, .areas, .prods} ∪ Part.tusss ∪ Part.regs ⊆ ps) : State.Keeps ps (execAddrFault p h₀ m addr) :=
  State.Keeps.mono (fun t => by
    refine ⟨_, rfl, State.only_ifPort.2 ?_⟩
    split
    · exact .refl t _
    · exact State.only_leaMessage (by simp [Part.leaRx]) fun u => by simp) sub

@[simp ↓] theorem keeps_execReservedCtrlMessage {ps : Set Part} {p : Port} {h₀ : LeaHdr} {m : LeaRoute} {msg : BitVec 8} {body : List Byte} (sub : {.leas, .jobs, .provs, .commits, .chainRefs, .reg .LEA_PORT_FEC, .reg .LEA_PORT_ERR, .reg .LEA_PORT_STATUS, .reg .LEA_STATUS, .reg .LEA_CTRL_STAT, .reg .GRS_PROV, .reg .LEA_PORT_RX} ∪ Part.event ⊆ ps) : State.Keeps ps (execReservedCtrlMessage p h₀ m msg body) :=
  State.Keeps.mono (fun t => by
    refine ⟨_, rfl, ?_⟩
    split
    · exact .refl t _
    refine State.only_ifPort.2 ?_
    split
    · exact .refl t _
    · exact State.only_leaMessage (by simp [Part.leaRx]) fun u => by simp) sub

@[simp ↓] theorem keeps_execLeaPortStatClr {ps : Set Part} {p : Port} (sub : Part.regs ⊆ ps) : State.Keeps ps (execLeaPortStatClr p) :=
  State.Keeps.mono (fun t => by
    exact ⟨_, rfl, by simp⟩) sub

@[simp ↓] theorem keeps_execLeaCtrlStatClr {ps : Set Part} (sub : {.reg .LEA_CTRL_STAT} ⊆ ps) : State.Keeps ps execLeaCtrlStatClr :=
  State.Keeps.mono (fun t => by
    exact ⟨_, rfl, by simp [F.LEA_CTRL_STAT_DROP_CNT, F.LEA_CTRL_STAT_LATE_FAULT_CNT]⟩) sub

/-! #### The entry -/

@[simp ↓] theorem State.only_closeAt {s t : State} {ps : Set Part} {v : Bool} (sub : {.chans} ⊆ ps) :
    s.Only ps (t.closeAt v) ↔ s.Only ps t :=
  State.Only.iff (by
    unfold State.closeAt; simp) sub (by simp)

@[simp ↓] theorem State.only_rollback {s t : State} {ps : Set Part} {block : ℕ} {stage : ℕ} {target : ℕ} {expired : Bool} (sub : {.entry, .chans, .reg .PWR_LAST_REFUSE, .reg .PWR_STATUS} ∪ Part.event ⊆ ps) :
    s.Only ps (t.rollback block stage target expired) ↔ s.Only ps t :=
  State.Only.iff (by
    unfold State.rollback; simp [F.PWR_STATUS_ENTERING, F.PWR_STATUS_STAGE, F.PWR_LAST_REFUSE_BLOCK, F.PWR_LAST_REFUSE_STAGE, F.PWR_LAST_REFUSE_TARGET, F.PWR_LAST_REFUSE_DELAY_EXPIRED, F.PWR_LAST_REFUSE_VALID, F.PWR_CFG_IRQ_REFUSE]) sub (by simp)

@[simp ↓] theorem State.only_refuseEntry {s t : State} {ps : Set Part} {e : PwrEntry} {code : ℕ} {expired : Bool} (sub : {.entry, .chans, .reg .PWR_REFUSE, .reg .PWR_LAST_REFUSE, .reg .PWR_STATUS} ∪ Part.event ⊆ ps) :
    s.Only ps (t.refuseEntry e code expired) ↔ s.Only ps t :=
  State.Only.iff (by
    unfold State.refuseEntry; simp [F.PWR_REFUSE_REFUSED_CNT]) sub (by simp)

@[simp ↓] theorem State.only_abortEntry {s t : State} {ps : Set Part} {stage : ℕ} {target : ℕ} (sub : {.entry, .chans, .reg .PWR_STATUS, .reg .PWR_REFUSE, .reg .PWR_LAST_REFUSE} ∪ Part.event ⊆ ps) :
    s.Only ps (t.abortEntry stage target) ↔ s.Only ps t :=
  State.Only.iff (by
    unfold State.abortEntry; simp [F.PWR_REFUSE_ABORTED_CNT, F.PWR_STATUS_WAKE_DURING_ENTRY]) sub (by simp)

@[simp ↓] theorem State.only_allLocked {s t : State} {ps : Set Part} {v : Bool} (sub : {.reg .TSK_CLK_STATUS} ⊆ ps) :
    s.Only ps (t.allLocked v) ↔ s.Only ps t :=
  State.Only.iff (by
    unfold State.allLocked; simp [F.TSK_CLK_STATUS_LOCKED]) sub (by simp)

@[simp ↓] theorem State.only_enterState {s t : State} {ps : Set Part} {target : ℕ} (sub : {.pending}ᶜ ⊆ ps) (k : s.Only ps t) :
    s.Only ps (t.enterState target) :=
  State.Only.of_sub (by
    unfold State.enterState; split <;> simp [F.PWR_ENTRY_CNT_ENTERED_CNT, F.PWR_STATUS_ENTERING, F.PWR_STATUS_STAGE, F.PWR_STATUS_STATE]) sub k

@[simp ↓] theorem State.only_entryNext {s t : State} {ps : Set Part} {e : PwrEntry} (sub : {.pending}ᶜ ⊆ ps) (k : s.Only ps t) :
    s.Only ps (t.entryNext e) :=
  State.Only.of_sub (by
    unfold State.entryNext; split <;> simp [F.PWR_STATUS_STAGE]) sub k

@[simp ↓] theorem State.only_blockAgree {s t : State} {ps : Set Part} {code : ℕ} (sub : {.pending}ᶜ ⊆ ps) (k : s.Only ps t) :
    s.Only ps (t.blockAgree code) :=
  State.Only.of_sub (by
    unfold State.blockAgree; split <;> simp) sub k

@[simp ↓] theorem State.only_blockRefuse {s t : State} {ps : Set Part} {code : ℕ} (sub : {.entry, .chans, .reg .PWR_REFUSE, .reg .PWR_LAST_REFUSE, .reg .PWR_STATUS} ∪ Part.event ⊆ ps) :
    s.Only ps (t.blockRefuse code) ↔ s.Only ps t :=
  State.Only.iff (by
    unfold State.blockRefuse; split <;> simp) sub (by simp)

@[simp ↓] theorem State.only_delayExpired {s t : State} {ps : Set Part} {code : ℕ} (sub : {.entry, .chans, .reg .PWR_REFUSE, .reg .PWR_LAST_REFUSE, .reg .PWR_STATUS} ∪ Part.event ⊆ ps) :
    s.Only ps (t.delayExpired code) ↔ s.Only ps t :=
  State.Only.iff (by
    unfold State.delayExpired; repeat' split
    all_goals simp) sub (by simp)

@[simp ↓] theorem State.only_boundaryAbort {s t : State} {ps : Set Part} (sub : {.entry, .chans, .reg .PWR_STATUS, .reg .PWR_REFUSE, .reg .PWR_LAST_REFUSE} ∪ Part.event ⊆ ps) :
    s.Only ps (t.boundaryAbort) ↔ s.Only ps t :=
  State.Only.iff (by
    unfold State.boundaryAbort; split <;> simp) sub (by simp)

@[simp ↓] theorem State.only_powerRequest {s t : State} {ps : Set Part} {target : ℕ} {wake : Option ℕ} (sub : {.entry, .chans, .reg .PWR_STATUS, .reg .PWR_REFUSE, .reg .PWR_LAST_REFUSE} ∪ Part.event ⊆ ps) :
    s.Only ps (t.powerRequest target wake) ↔ s.Only ps t :=
  State.Only.iff (by
    unfold State.powerRequest
    extract_lets ok u
    have hu : t.Only ({.entry, .chans, .reg .PWR_STATUS, .reg .PWR_REFUSE, .reg .PWR_LAST_REFUSE} ∪ Part.event) u := by
      simp [u, F.PWR_STATUS_ENTERING]
    clear_value u
    split
    · simp [F.PWR_STATUS_REQ_REJECT]
    · split
      · simp [hu]
      · simp [hu, F.PWR_STATUS_STAGE]) sub (by simp)

@[simp ↓] theorem State.only_wake {s t : State} {ps : Set Part} {b : ℕ} (sub : {.entry, .heather, .waking, .reg .PWR_STATUS} ∪ Part.event ⊆ ps) :
    s.Only ps (t.wake b) ↔ s.Only ps t :=
  State.Only.iff (by
    unfold State.wake; repeat' split
    all_goals simp [F.PWR_STATUS_LAST_WAKE_SRC]) sub (by simp)

@[simp ↓] theorem State.only_fieldWake {s t : State} {ps : Set Part} {i : ℕ} (sub : {.entry, .heather, .waking, .reg .PWR_STATUS} ∪ Part.event ⊆ ps) :
    s.Only ps (t.fieldWake i) ↔ s.Only ps t :=
  State.Only.iff (by
    unfold State.fieldWake; simp [F.PWR_WAKE_FIN_MASK]) sub (by simp)

@[simp ↓] theorem State.only_wakeTimer {s t : State} {ps : Set Part} (sub : {.entry, .heather, .waking, .reg .PWR_STATUS} ∪ Part.event ⊆ ps) :
    s.Only ps (t.wakeTimer) ↔ s.Only ps t :=
  State.Only.iff (by
    unfold State.wakeTimer; simp [F.PWR_STATUS_STATE, F.PWR_WAKE_TIMER_US]) sub (by simp)

@[simp ↓] theorem State.only_runAfterWake {s t : State} {ps : Set Part} (sub : {.waking, .chans, .leas, .reg .PWR_STATUS, .reg .LEA_PORT_STATUS, .reg .PWR_DOMAIN, .reg .TSK_STATE, .reg .TSK_CLK_STATUS} ∪ Part.event ⊆ ps) :
    s.Only ps (t.runAfterWake) ↔ s.Only ps t :=
  State.Only.iff (by
    unfold State.runAfterWake; simp [F.PWR_STATUS_STATE, F.LEA_PORT_CFG_EN]) sub (by simp)

/-! #### Fabric quarters -/

@[simp ↓] theorem State.only_quarterWrite {s t : State} {ps : Set Part} {q : ℕ} {off : Bool} (sub : {.quarters, .reg .PWR_STATUS, .reg .PWR_QUARTER_OFF} ⊆ ps) :
    s.Only ps (t.quarterWrite q off) ↔ s.Only ps t :=
  State.Only.iff (by
    unfold State.quarterWrite; simp [F.PWR_STATUS_REQ_REJECT, F.PWR_QUARTER_OFF_OFF]) sub (by simp)

@[simp ↓] theorem State.only_quarterDone {s t : State} {ps : Set Part} {q : ℕ} (sub : {.quarters, .mem, .latent, .flight, .chans, .areas, .flits, .engines, .irq, .host, .leas, .leaFaults, .chainRefs, .mgmt, .provs, .prods, .verifs, .fractionOld, .fractionAt, .ctxs, .sensors, .entry, .stile, .t3, .loads, .tests, .jobs, .commits} ∪ Part.tusss ∪ Part.regs ⊆ ps) (k : s.Only ps t) :
    s.Only ps (t.quarterDone q) :=
  State.Only.of_sub (by
    unfold State.quarterDone; split <;> simp) sub k

/-! #### The commands -/

@[simp ↓] theorem keeps_execPowerRequest {ps : Set Part} {target : BitVec 3} {wake : Option (Fin 4)} (sub : {.entry, .chans, .reg .PWR_STATUS, .reg .PWR_REFUSE, .reg .PWR_LAST_REFUSE} ∪ Part.event ⊆ ps) : State.Keeps ps (execPowerRequest target wake) :=
  State.Keeps.mono (fun t => by
    exact ⟨_, rfl, by simp⟩) sub

@[simp ↓] theorem keeps_execBlockAgree {ps : Set Part} {code : BitVec 8} (sub : {.pending}ᶜ ⊆ ps) : State.Keeps ps (execBlockAgree code) :=
  State.Keeps.mono (fun t => by
    exact ⟨_, rfl, by simp⟩) sub

@[simp ↓] theorem keeps_execBlockRefuse {ps : Set Part} {code : BitVec 8} (sub : {.entry, .chans, .reg .PWR_REFUSE, .reg .PWR_LAST_REFUSE, .reg .PWR_STATUS} ∪ Part.event ⊆ ps) : State.Keeps ps (execBlockRefuse code) :=
  State.Keeps.mono (fun t => by
    exact ⟨_, rfl, by simp⟩) sub

@[simp ↓] theorem keeps_execDelayExpired {ps : Set Part} {code : BitVec 8} (sub : {.entry, .chans, .reg .PWR_REFUSE, .reg .PWR_LAST_REFUSE, .reg .PWR_STATUS} ∪ Part.event ⊆ ps) : State.Keeps ps (execDelayExpired code) :=
  State.Keeps.mono (fun t => by
    exact ⟨_, rfl, by simp⟩) sub

@[simp ↓] theorem keeps_execWakeNLow {ps : Set Part} (sub : {.entry, .heather, .waking, .reg .PWR_STATUS} ∪ Part.event ⊆ ps) : State.Keeps ps execWakeNLow :=
  State.Keeps.mono (fun t => by
    exact ⟨_, rfl, by simp⟩) sub

@[simp ↓] theorem keeps_execHostWake {ps : Set Part} (sub : {.entry, .heather, .waking, .reg .PWR_STATUS} ∪ Part.event ⊆ ps) : State.Keeps ps execHostWake :=
  State.Keeps.mono (fun t => by
    exact ⟨_, rfl, by simp⟩) sub

@[simp ↓] theorem keeps_execWakeTimer {ps : Set Part} (sub : {.entry, .heather, .waking, .reg .PWR_STATUS} ∪ Part.event ⊆ ps) : State.Keeps ps execWakeTimer :=
  State.Keeps.mono (fun t => by
    exact ⟨_, rfl, by simp⟩) sub

@[simp ↓] theorem keeps_execQuarterOff {ps : Set Part} {q : BitVec 4} (sub : {.quarters, .reg .PWR_STATUS, .reg .PWR_QUARTER_OFF} ⊆ ps) : State.Keeps ps (execQuarterOff q) :=
  State.Keeps.mono (fun t => by
    exact ⟨_, rfl, by simp⟩) sub

@[simp ↓] theorem keeps_execQuarterOn {ps : Set Part} {q : BitVec 4} (sub : {.quarters, .reg .PWR_STATUS, .reg .PWR_QUARTER_OFF} ⊆ ps) : State.Keeps ps (execQuarterOn q) :=
  State.Keeps.mono (fun t => by
    exact ⟨_, rfl, by simp⟩) sub

@[simp ↓] theorem keeps_execQuarterSwitchDone {ps : Set Part} {q : BitVec 4} (sub : {.quarters, .mem, .latent, .flight, .chans, .areas, .flits, .engines, .irq, .host, .leas, .leaFaults, .chainRefs, .mgmt, .provs, .prods, .verifs, .fractionOld, .fractionAt, .ctxs, .sensors, .entry, .stile, .t3, .loads, .tests, .jobs, .commits} ∪ Part.tusss ∪ Part.regs ⊆ ps) : State.Keeps ps (execQuarterSwitchDone q) :=
  State.Keeps.mono (fun t => by
    exact ⟨_, rfl, by simp⟩) sub

@[simp ↓] theorem keeps_execPwrClrCnt {ps : Set Part} (sub : {.reg .PWR_ENTRY_CNT, .reg .PWR_REFUSE} ⊆ ps) : State.Keeps ps execPwrClrCnt :=
  State.Keeps.mono (fun t => by
    exact ⟨_, rfl, by simp [F.PWR_REFUSE_REFUSED_CNT, F.PWR_REFUSE_ABORTED_CNT, F.PWR_ENTRY_CNT_ENTERED_CNT]⟩) sub

/-! #### Parts -/

@[simp ↓] theorem State.only_setFin {s t : State} {ps : Set Part} {i : ℕ} {x : FinState} (sub : {.stile} ⊆ ps) :
    s.Only ps (t.setFin i x) ↔ s.Only ps t :=
  State.Only.iff (by
    unfold State.setFin; simp) sub (by simp)

@[simp ↓] theorem State.only_setEnc {s t : State} {ps : Set Part} {e : ℕ} {x : EncState} (sub : {.stile} ⊆ ps) :
    s.Only ps (t.setEnc e x) ↔ s.Only ps t :=
  State.Only.iff (by
    unfold State.setEnc; simp) sub (by simp)

@[simp ↓] theorem State.only_setPos {s t : State} {ps : Set Part} {e : ℕ} {v : ℕ} (sub : {.stile, .reg .STL_ENC_POS} ⊆ ps) :
    s.Only ps (t.setPos e v) ↔ s.Only ps t :=
  State.Only.iff (by
    unfold State.setPos; simp [F.STL_ENC_POS_POS]) sub (by simp)

@[simp ↓] theorem State.only_posWrite {s t : State} {ps : Set Part} {e : ℕ} {v : ℕ} (sub : {.stile, .reg .STL_ENC_POS} ⊆ ps) :
    s.Only ps (t.posWrite e v) ↔ s.Only ps t :=
  State.Only.iff (by
    unfold State.posWrite; simp) sub (by simp)

@[simp ↓] theorem State.only_setTq {s t : State} {ps : Set Part} {q : ℕ} {x : Tq} (sub : {.stile} ⊆ ps) :
    s.Only ps (t.setTq q x) ↔ s.Only ps t :=
  State.Only.iff (by
    unfold State.setTq; simp) sub (by simp)

/-! #### Meetings in one field clock -/

@[simp ↓] theorem State.only_countUnless {s t : State} {ps : Set Part} {clrAt : Option ℕ} {f : Fld} (sub : {.reg f.r} ⊆ ps) :
    s.Only ps (t.countUnless clrAt f) ↔ s.Only ps t :=
  State.Only.iff (by
    unfold State.countUnless; simp) sub (by simp)

@[simp ↓] theorem State.only_keepSet {s t : State} {ps : Set Part} {at_ : Option ℕ} {f : Fld} (sub : {.reg f.r} ⊆ ps) :
    s.Only ps (t.keepSet at_ f) ↔ s.Only ps t :=
  State.Only.iff (by
    unfold State.keepSet; simp) sub (by simp)

/-! #### Trigger queues -/

@[simp ↓] theorem State.only_tqHold {s t : State} {ps : Set Part} {q : ℕ} (sub : {.reg .STL_TQ_STAT} ⊆ ps) :
    s.Only ps (t.tqHold q) ↔ s.Only ps t :=
  State.Only.iff (by
    unfold State.tqHold; simp [F.STL_TQ_STAT_OCC, F.STL_TQ_CFG_HIGH, F.STL_TQ_STAT_HOLD, F.STL_TQ_CFG_LOW]) sub (by simp)

@[simp ↓] theorem State.only_tqOcc {s t : State} {ps : Set Part} {q : ℕ} {n : ℕ} (sub : {.stile, .reg .STL_TQ_STAT} ⊆ ps) :
    s.Only ps (t.tqOcc q n) ↔ s.Only ps t :=
  State.Only.iff (by
    unfold State.tqOcc; simp [F.STL_TQ_STAT_OCC]) sub (by simp)

@[simp ↓] theorem State.only_tqOffer {s t : State} {ps : Set Part} {q : ℕ} {time : ℕ} {pos : ℕ} {input : ℕ} {trail : Bool} {suspect : Bool} {enc : ℕ} (sub : {.stile, .reg .STL_TQ_STAT, .reg .STL_TQ_CNT} ∪ Part.event ⊆ ps) :
    s.Only ps (t.tqOffer q time pos input trail suspect enc) ↔ s.Only ps t :=
  State.Only.iff (by
    unfold State.tqOffer; simp [F.STL_TQ_CFG_EN, F.STL_TQ_STAT_NEXT_SEQ, F.STL_TQ_STAT_OCC, F.STL_TQ_CNT_LOST_CNT, F.STL_TQ_CNT_OVF_CNT, F.STL_TQ_STAT_OVF]) sub (by simp)

@[simp ↓] theorem State.only_tqPop {s t : State} {ps : Set Part} {r : Popper} {q : ℕ} (sub : {.stile, .reg .STL_TQ_STAT} ⊆ ps) :
    s.Only ps (t.tqPop r q) ↔ s.Only ps t :=
  State.Only.iff (by
    unfold State.tqPop; dsimp only; repeat' split
    all_goals simp [*]) sub (by simp)

@[simp ↓] theorem State.only_tqEmpty {s t : State} {ps : Set Part} {q : ℕ} {lost : ℕ} (sub : {.stile, .reg .STL_TQ_STAT, .reg .STL_TQ_CNT} ⊆ ps) :
    s.Only ps (t.tqEmpty q lost) ↔ s.Only ps t :=
  State.Only.iff (by
    unfold State.tqEmpty; simp [F.STL_TQ_CNT_LOST_CNT]) sub (by simp)

@[simp ↓] theorem State.only_tqWatermarks {s t : State} {ps : Set Part} {q : ℕ} {high : ℕ} {low : ℕ} (sub : {.reg .STL_TQ_STAT, .reg .STL_TQ_CFG} ⊆ ps) :
    s.Only ps (t.tqWatermarks q high low) ↔ s.Only ps t :=
  State.Only.iff (by
    unfold State.tqWatermarks; simp [F.STL_TQ_CFG_HIGH, F.STL_TQ_CFG_LOW, F.STL_TQ_STAT_CFG_REJECT]) sub (by simp)

@[simp ↓] theorem State.only_tqCompare {s t : State} {ps : Set Part} {q : ℕ} {occ1 : ℕ} {occ2 : ℕ} {wr1 : ℕ} {wr2 : ℕ} (sub : {.stile, .reg .STL_TQ_STAT, .reg .STL_TQ_CNT} ∪ Part.event ⊆ ps) :
    s.Only ps (t.tqCompare q occ1 occ2 wr1 wr2) ↔ s.Only ps t :=
  State.Only.iff (by
    unfold State.tqCompare; simp [F.STL_TQ_CNT_DUP_CNT, F.STL_TQ_STAT_DUP_ERR]) sub (by simp)

@[simp ↓] theorem State.only_tqStatWrite {s t : State} {ps : Set Part} {q : ℕ} {v : ℕ} (sub : Part.regs ⊆ ps) :
    s.Only ps (t.tqStatWrite q v) ↔ s.Only ps t :=
  State.Only.iff (by
    unfold State.tqStatWrite; simp) sub (by simp)

/-! #### Inputs -/

@[simp ↓] theorem State.only_finEvent {s t : State} {ps : Set Part} {i : ℕ} {first : ℕ} {trail : Bool} (sub : {.stile, .entry, .heather, .waking, .reg .STL_TQ_STAT, .reg .STL_TQ_CNT, .reg .STL_AIN_STATUS, .reg .STL_AIN_CNT, .reg .PWR_STATUS} ∪ Part.event ⊆ ps) :
    s.Only ps (t.finEvent i first trail) ↔ s.Only ps t :=
  State.Only.iff (by
    unfold State.finEvent; simp [F.STL_FIN_CFG_QSEL, F.STL_AIN_PACE_SRC, F.STL_AIN_PACE_SEL, F.STL_AIN_INJ_FIN_EN, F.STL_AIN_INJ_FIN]) sub (by simp)

@[simp ↓] theorem State.only_finEdge {s t : State} {ps : Set Part} {i : ℕ} {high : Bool} {samples : ℕ} (sub : {.stile, .entry, .heather, .waking, .reg .STL_FIN_STAT, .reg .STL_TQ_STAT, .reg .STL_TQ_CNT, .reg .STL_AIN_STATUS, .reg .STL_AIN_CNT, .reg .PWR_STATUS} ∪ Part.event ⊆ ps) :
    s.Only ps (t.finEdge i high samples) ↔ s.Only ps t :=
  State.Only.iff (by
    unfold State.finEdge; simp [F.STL_FIN_CFG_POL, F.STL_FIN_CFG_EN, F.STL_FIN_CFG_FILT, F.STL_FIN_STAT_LEVEL, F.STL_FIN_CFG_EDGE, F.STL_FIN_STAT_STUCK_NOW, F.STL_FIN_STAT_SUPP_CNT, F.STL_FIN_STAT_OVR_CNT, F.STL_FIN_STAT_OVR]) sub (by simp)

@[simp ↓] theorem State.only_finStuck {s t : State} {ps : Set Part} {i : ℕ} (sub : {.stile, .reg .STL_FIN_STAT} ∪ Part.event ⊆ ps) :
    s.Only ps (t.finStuck i) ↔ s.Only ps t :=
  State.Only.iff (by
    unfold State.finStuck; dsimp only; repeat' split
    all_goals simp [F.STL_FIN_STAT_STUCK_NOW, F.STL_FIN_STAT_STUCK_SET, *]) sub (by simp)

@[simp ↓] theorem State.only_finStuckEnd {s t : State} {ps : Set Part} {i : ℕ} (sub : {.stile, .reg .STL_FIN_STAT} ⊆ ps) :
    s.Only ps (t.finStuckEnd i) ↔ s.Only ps t :=
  State.Only.iff (by
    unfold State.finStuckEnd; simp [F.STL_FIN_STAT_STUCK_NOW, F.STL_FIN_STAT_LEVEL]) sub (by simp)

/-! #### Encoders -/

@[simp ↓] theorem State.only_encStep {s t : State} {ps : Set Part} {e : ℕ} {a1 : Bool} {b1 : Bool} (sub : {.stile, .reg .STL_ENC_CFG, .reg .STL_ENC_POS} ⊆ ps) :
    s.Only ps (t.encStep e a1 b1) ↔ s.Only ps t :=
  State.Only.iff (by
    unfold State.encStep; simp [F.STL_ENC_CFG_MODE, F.STL_ENC_CFG_ERR_CNT, F.STL_ENC_CFG_ERR]) sub (by simp)

/-! #### The commands -/

@[simp ↓] theorem keeps_execFinEdge {ps : Set Part} {i : FinIx} {high : Bool} {samples : BitVec 16} (sub : {.stile, .entry, .heather, .waking, .reg .STL_FIN_STAT, .reg .STL_TQ_STAT, .reg .STL_TQ_CNT, .reg .STL_AIN_STATUS, .reg .STL_AIN_CNT, .reg .PWR_STATUS} ∪ Part.event ⊆ ps) : State.Keeps ps (execFinEdge i high samples) :=
  State.Keeps.mono (fun t => by
    exact ⟨_, rfl, by simp⟩) sub

@[simp ↓] theorem keeps_execFinStuck {ps : Set Part} {i : FinIx} (sub : {.stile, .reg .STL_FIN_STAT} ∪ Part.event ⊆ ps) : State.Keeps ps (execFinStuck i) :=
  State.Keeps.mono (fun t => by
    exact ⟨_, rfl, by simp⟩) sub

@[simp ↓] theorem keeps_execFinStuckEnd {ps : Set Part} {i : FinIx} (sub : {.stile, .reg .STL_FIN_STAT} ⊆ ps) : State.Keeps ps (execFinStuckEnd i) :=
  State.Keeps.mono (fun t => by
    exact ⟨_, rfl, by simp⟩) sub

@[simp ↓] theorem keeps_execEncTransition {ps : Set Part} {e : EncIx} {a : Bool} {b : Bool} {samples : BitVec 8} (sub : {.stile, .reg .STL_ENC_CFG, .reg .STL_ENC_POS} ⊆ ps) : State.Keeps ps (execEncTransition e a b samples) :=
  State.Keeps.mono (fun t => by
    exact ⟨_, rfl, by simp [F.STL_ENC_CFG_FILT_E]⟩) sub

@[simp ↓] theorem keeps_execEncPosWrite {ps : Set Part} {e : EncIx} {v : Word} (sub : {.stile, .reg .STL_ENC_POS} ⊆ ps) : State.Keeps ps (execEncPosWrite e v) :=
  State.Keeps.mono (fun t => by
    exact ⟨_, rfl, by simp⟩) sub

@[simp ↓] theorem keeps_execTqPop {ps : Set Part} {r : Popper} {q : TqIx} (sub : {.host, .mgmt, .stile, .reg .STL_TQ_STAT} ⊆ ps) : State.Keeps ps (execTqPop r q) :=
  State.Keeps.mono (fun t => by
    refine ⟨_, rfl, ?_⟩
    dsimp only; repeat' split
    all_goals simp (disch := simp (disch := simp))) sub

@[simp ↓] theorem keeps_execTqFlush {ps : Set Part} {q : TqIx} (sub : {.stile, .reg .STL_TQ_STAT, .reg .STL_TQ_CNT} ⊆ ps) : State.Keeps ps (execTqFlush q) :=
  State.Keeps.mono (fun t => by
    exact ⟨_, rfl, by simp⟩) sub

@[simp ↓] theorem keeps_execTqWatermarkWrite {ps : Set Part} {q : TqIx} {high : BitVec 7} {low : BitVec 7} (sub : {.reg .STL_TQ_STAT, .reg .STL_TQ_CFG} ⊆ ps) : State.Keeps ps (execTqWatermarkWrite q high low) :=
  State.Keeps.mono (fun t => by
    exact ⟨_, rfl, by simp⟩) sub

@[simp ↓] theorem keeps_execTqCopyMismatch {ps : Set Part} {q : TqIx} {occ1 : BitVec 7} {occ2 : BitVec 7} {wr1 : BitVec 6} {wr2 : BitVec 6} (sub : {.stile, .reg .STL_TQ_STAT, .reg .STL_TQ_CNT} ∪ Part.event ⊆ ps) : State.Keeps ps (execTqCopyMismatch q occ1 occ2 wr1 wr2) :=
  State.Keeps.mono (fun t => by
    exact ⟨_, rfl, by simp⟩) sub

@[simp ↓] theorem keeps_execFinStatClr {ps : Set Part} {i : FinIx} (sub : {.stile, .reg .STL_FIN_STAT} ⊆ ps) : State.Keeps ps (execFinStatClr i) :=
  State.Keeps.mono (fun t => by
    exact ⟨_, rfl, by simp [F.STL_FIN_STAT_OVR_CNT, F.STL_FIN_STAT_SUPP_CNT]⟩) sub

@[simp ↓] theorem keeps_execEncClr {ps : Set Part} {e : EncIx} (sub : {.stile, .reg .STL_ENC_CFG} ⊆ ps) : State.Keeps ps (execEncClr e) :=
  State.Keeps.mono (fun t => by
    exact ⟨_, rfl, by simp [F.STL_ENC_CFG_ERR_CNT]⟩) sub

@[simp ↓] theorem keeps_execTqCntClr {ps : Set Part} {q : TqIx} (sub : {.stile, .reg .STL_TQ_CNT} ⊆ ps) : State.Keeps ps (execTqCntClr q) :=
  State.Keeps.mono (fun t => by
    exact ⟨_, rfl, by simp [F.STL_TQ_CNT_OVF_CNT, F.STL_TQ_CNT_DUP_CNT, F.STL_TQ_CNT_LOST_CNT]⟩) sub

/-! #### Rails and resets -/

@[simp ↓] theorem State.only_standby {s t : State} {ps : Set Part} {up : Bool} (sub : {.pending}ᶜ ⊆ ps) (k : s.Only ps t) :
    s.Only ps (t.standby up) :=
  State.Only.of_sub (State.only_of_pending (t := t) (u := t.standby up) rfl fun _ => (rfl : Memory.wf [] = true)) sub k

@[simp ↓] theorem State.only_mainUp {s t : State} {ps : Set Part} (sub : {.heather} ⊆ ps) :
    s.Only ps (t.mainUp) ↔ s.Only ps t :=
  State.Only.iff (by
    unfold State.mainUp; simp) sub (by simp)

@[simp ↓] theorem State.only_mainLate {s t : State} {ps : Set Part} (sub : {.heather} ⊆ ps) :
    s.Only ps (t.mainLate) ↔ s.Only ps t :=
  State.Only.iff (by
    unfold State.mainLate; simp) sub (by simp)

@[simp ↓] theorem State.only_mainLost {s t : State} {ps : Set Part} (sub : {.pending}ᶜ ⊆ ps) (k : s.Only ps t) :
    s.Only ps (t.mainLost) :=
  State.Only.of_sub (by
    unfold State.mainLost; simp [F.PWR_STATUS_STATE]) sub k

@[simp ↓] theorem State.only_rstLow {s t : State} {ps : Set Part} (sub : {.pending}ᶜ ⊆ ps) (k : s.Only ps t) :
    s.Only ps (t.rstLow) :=
  State.Only.of_sub (by
    unfold State.rstLow; split <;> simp [F.PWR_STATUS_STATE]) sub k

@[simp ↓] theorem State.only_watchdog {s t : State} {ps : Set Part} (sub : {.pending}ᶜ ⊆ ps) (k : s.Only ps t) :
    s.Only ps (t.watchdog) :=
  State.Only.of_sub (by
    unfold State.watchdog; simp [F.BOOT_STATUS_STAGE]) sub k

@[simp ↓] theorem State.only_linkIs {s t : State} {ps : Set Part} {link : Option (BitVec 3 × BitVec 5 × Bool)} (sub : {.reg .PCI_LINK} ⊆ ps) :
    s.Only ps (t.linkIs link) ↔ s.Only ps t :=
  State.Only.iff (by
    unfold State.linkIs; split <;> simp [F.PCI_LINK_SPEED, F.PCI_LINK_WIDTH, F.PCI_LINK_FLIT]) sub (by simp)

@[simp ↓] theorem State.only_perst {s t : State} {ps : Set Part} {link : Option (BitVec 3 × BitVec 5 × Bool)} (sub : {.mem, .latent, .flight, .chans, .areas, .flits, .engines, .irq, .host, .leas, .leaFaults, .chainRefs, .mgmt, .provs, .prods, .verifs, .fractionOld, .fractionAt, .ctxs, .sensors, .entry, .quarters, .stile, .t3, .loads, .tests, .jobs, .commits} ∪ Part.tusss ∪ Part.regs ⊆ ps) (k : s.Only ps t) :
    s.Only ps (t.perst link) :=
  State.Only.of_sub (by
    unfold State.perst; simp) sub k

/-! #### The service level -/

@[simp ↓] theorem State.only_level {s t : State} {ps : Set Part} (sub : {.irq} ∪ Part.regs ⊆ ps) :
    s.Only ps (t.level) ↔ s.Only ps t :=
  State.Only.iff (by
    unfold State.level; simp [F.GLB_LEVEL_TSK, F.GLB_LEVEL_IN_PLACE, F.BRK_STATUS_IN_PLACE, F.GLB_LEVEL_CHANNEL, F.GLB_CHN_STATUS_DRAINED, F.GLB_CHN_STATUS_REINIT_BUSY, F.GLB_CHN_STATUS_OFFLINE, F.GLB_LEVEL_QUARTER, F.PWR_QUARTER_OFF_OFF, F.GLB_LEVEL_LEA, F.GLB_LEVEL_PKG, F.GLB_FALLOW_REASON_FALLOW, F.GLB_LEVEL_LEVEL]) sub (by simp)

/-! #### Channels -/

@[simp ↓] theorem State.only_drain {s t : State} {ps : Set Part} {n : ℕ} (sub : {.reg .GLB_CHN_CTRL} ⊆ ps) :
    s.Only ps (t.drain n) ↔ s.Only ps t :=
  State.Only.iff (by
    unfold State.drain; simp [F.GLB_CHN_CTRL_DRAIN]) sub (by simp)

@[simp ↓] theorem State.only_reopen {s t : State} {ps : Set Part} {n : ℕ} (sub : {.irq} ∪ Part.regs ⊆ ps) :
    s.Only ps (t.reopen n) ↔ s.Only ps t :=
  State.Only.iff (by
    unfold State.reopen
    simp [F.GLB_CHN_CTRL_DRAIN, F.GLB_CHN_STATUS_DRAINED]) sub (by simp)

@[simp ↓] theorem State.only_drained {s t : State} {ps : Set Part} {n : ℕ} (sub : {.irq} ∪ Part.regs ⊆ ps) :
    s.Only ps (t.drained n) ↔ s.Only ps t :=
  State.Only.iff (by
    unfold State.drained; split <;> simp [F.GLB_CHN_STATUS_DRAINED]) sub (by simp)

@[simp ↓] theorem State.only_reinit {s t : State} {ps : Set Part} {n : ℕ} (sub : {.irq, .mem, .latent, .flight, .chans, .areas, .flits, .engines, .host, .leas, .leaFaults, .chainRefs, .mgmt, .provs, .prods, .verifs, .fractionOld, .fractionAt, .ctxs, .sensors, .entry, .quarters, .stile, .t3, .loads, .tests, .jobs, .commits} ∪ Part.tusss ∪ Part.regs ⊆ ps) (k : s.Only ps t) :
    s.Only ps (t.reinit n) :=
  State.Only.of_sub (by
    unfold State.reinit; split <;> simp [F.GLB_CHN_STATUS_REINIT_BUSY]) sub k

@[simp ↓] theorem State.only_chanOn {s t : State} {ps : Set Part} {n : ℕ} (sub : {.reg .PWR_DOMAIN, .reg .TSK_STATE} ∪ Part.event ⊆ ps) :
    s.Only ps (t.chanOn n) ↔ s.Only ps t :=
  State.Only.iff (by
    unfold State.chanOn; simp) sub (by simp)

@[simp ↓] theorem State.only_offline {s t : State} {ps : Set Part} {n : ℕ} (sub : {.engines, .boot, .irq, .mem, .out, .flits, .latent, .chans, .leas, .jobs, .areas, .prods, .commits, .provs, .flight, .host, .leaFaults, .chainRefs, .mgmt, .verifs, .fractionOld, .fractionAt, .ctxs, .sensors, .entry, .quarters, .stile, .t3, .loads, .tests} ∪ Part.tusss ∪ Part.regs ⊆ ps) (k : s.Only ps t) :
    s.Only ps (t.offline n) :=
  State.Only.of_sub (by
    unfold State.offline
    extract_lets jobs u v w x
    have hv : t.Only ({.engines, .boot, .irq, .mem, .out, .flits, .latent, .chans, .leas, .jobs, .areas, .prods, .commits, .provs, .flight, .host, .leaFaults, .chainRefs, .mgmt, .verifs, .fractionOld, .fractionAt, .ctxs, .sensors, .entry, .quarters, .stile, .t3, .loads, .tests} ∪ Part.tusss ∪ Part.regs) v := by
      refine State.only_foldl (fun y j => ?_) (by simp [u])
      split
      · simp
      · dsimp only
        repeat' split
        all_goals simp
    clear_value v
    have hx : t.Only ({.engines, .boot, .irq, .mem, .out, .flits, .latent, .chans, .leas, .jobs, .areas, .prods, .commits, .provs, .flight, .host, .leaFaults, .chainRefs, .mgmt, .verifs, .fractionOld, .fractionAt, .ctxs, .sensors, .entry, .quarters, .stile, .t3, .loads, .tests} ∪ Part.tusss ∪ Part.regs) x := by
      unfold x; split <;> simp [w, hv]
    clear_value x
    simp [hx]) sub k

@[simp ↓] theorem State.only_reinitDone {s t : State} {ps : Set Part} {n : ℕ} {ok : Bool} (sub : {.irq, .mem, .latent, .engines, .boot, .out, .flits, .chans, .leas, .jobs, .areas, .prods, .commits, .provs, .flight, .host, .leaFaults, .chainRefs, .mgmt, .verifs, .fractionOld, .fractionAt, .ctxs, .sensors, .entry, .quarters, .stile, .t3, .loads, .tests} ∪ Part.tusss ∪ Part.regs ⊆ ps) (k : s.Only ps t) :
    s.Only ps (t.reinitDone n ok) :=
  State.Only.of_sub (by
    unfold State.reinitDone; split <;> simp [F.GLB_CHN_STATUS_REINIT_BUSY, F.GLB_CHN_STATUS_OFFLINE]) sub k

/-! #### Firmware switch-over -/

@[simp ↓] theorem State.only_runSlot {s t : State} {ps : Set Part} {i : ℕ} {x : SlotInfo} (sub : {.testKey, .boot, .reg .SEC_STATUS, .reg .BOOT_STATUS} ⊆ ps) :
    s.Only ps (t.runSlot i x) ↔ s.Only ps t :=
  State.Only.iff (by
    have hu : t.Only {.testKey, .boot, .reg .SEC_STATUS, .reg .BOOT_STATUS} ((t.set F.BOOT_STATUS_SLOT i).set F.SEC_STATUS_TP_KEY 1) := by
      simp [F.BOOT_STATUS_SLOT, F.SEC_STATUS_TP_KEY]
    unfold State.runSlot
    generalize (t.set F.BOOT_STATUS_SLOT i).set F.SEC_STATUS_TP_KEY 1 = u at hu ⊢
    simp [hu]) sub (by simp)

@[simp ↓] theorem State.only_fwSwitch {s t : State} {ps : Set Part} (sub : {.boot, .reg .BOOT_SP_STATUS, .reg .BOOT_STATUS} ⊆ ps) :
    s.Only ps (t.fwSwitch) ↔ s.Only ps t :=
  State.Only.iff (by
    unfold State.fwSwitch
    extract_lets other u
    have hu : t.Only {.boot, .reg .BOOT_SP_STATUS, .reg .BOOT_STATUS} u := by
      simp [u, F.BOOT_STATUS_SWITCH_BUSY, F.BOOT_SP_STATUS_PAUSED]
    clear_value u
    split
    · simp [hu]
    · exact .refl t _) sub (by simp)

@[simp ↓] theorem State.only_switchEnd {s t : State} {ps : Set Part} (sub : {.boot, .reg .BOOT_SP_STATUS, .reg .BOOT_STATUS} ⊆ ps) :
    s.Only ps (t.switchEnd) ↔ s.Only ps t :=
  State.Only.iff (by
    have hu : t.Only {.boot, .reg .BOOT_SP_STATUS, .reg .BOOT_STATUS} ((t.set F.BOOT_STATUS_SWITCH_BUSY 0).set F.BOOT_SP_STATUS_PAUSED 0) := by
      simp [F.BOOT_STATUS_SWITCH_BUSY, F.BOOT_SP_STATUS_PAUSED]
    unfold State.switchEnd
    generalize (t.set F.BOOT_STATUS_SWITCH_BUSY 0).set F.BOOT_SP_STATUS_PAUSED 0 = u at hu ⊢
    simp [hu]) sub (by simp)

@[simp ↓] theorem State.only_switchDone {s t : State} {ps : Set Part} (sub : {.testKey, .boot, .reg .BOOT_STATUS, .reg .SEC_STATUS, .reg .BOOT_SP_STATUS} ∪ Part.event ⊆ ps) :
    s.Only ps (t.switchDone) ↔ s.Only ps t :=
  State.Only.iff (by
    unfold State.switchDone; repeat' split
    all_goals simp [F.BOOT_STATUS_SWITCH_DONE]) sub (by simp)

@[simp ↓] theorem State.only_switchLate {s t : State} {ps : Set Part} {oldOk : Bool} (sub : {.pending}ᶜ ⊆ ps) (k : s.Only ps t) :
    s.Only ps (t.switchLate oldOk) :=
  State.Only.of_sub (by
    unfold State.switchLate; split <;> simp [F.BOOT_STATUS_SWITCH_FAIL]) sub k

/-! #### Mailboxes -/

@[simp ↓] theorem State.only_bufPut {s t : State} {ps : Set Part} {f : ℕ → Fld} {bs : List Byte} (sub : Part.regs ⊆ ps) :
    s.Only ps (t.bufPut f bs) ↔ s.Only ps t :=
  State.Only.iff (by
    unfold State.bufPut; simp) sub (by simp)

@[simp ↓] theorem State.only_hostFallow {s t : State} {ps : Set Part} (sub : {.pending}ᶜ ⊆ ps) (k : s.Only ps t) :
    s.Only ps (t.hostFallow) :=
  State.Only.of_sub (by
    unfold State.hostFallow; simp) sub k

@[simp ↓] theorem State.only_mboxBegin {s t : State} {ps : Set Part} {cmd result : ℕ} {f : State → State} (sub : {.boot, .reg .BOOT_MBOX_STATUS} ⊆ ps)
    (hf : t.Only ps (f t)) (k : s.Only ps t) : s.Only ps (t.mboxBegin cmd result f) := by
  obtain ⟨hboot, hreg⟩ : Part.boot ∈ ps ∧ Part.reg .BOOT_MBOX_STATUS ∈ ps := by simpa using sub
  refine k.trans ?_
  unfold State.mboxBegin
  extract_lets u
  have hu : t.Only ps u := by simp [u, F.BOOT_MBOX_STATUS_BUSY, hreg, hf]
  clear_value u
  split
  · exact .refl t _
  · split <;> simp [F.BOOT_MBOX_STATUS_REJECT, hreg, hboot, hu]

@[simp ↓] theorem State.only_flashChange {s t : State} {ps : Set Part} {cmd : ℕ} {a : ℕ} {n : ℕ} {ok : Bool} {bs : List Byte} (sub : {.boot, .flash, .free, .reg .BOOT_MBOX_STATUS} ⊆ ps) :
    s.Only ps (t.flashChange cmd a n ok bs) ↔ s.Only ps t :=
  State.Only.iff (by
    unfold State.flashChange
    repeat' split
    all_goals simp) sub (by simp)

@[simp ↓] theorem State.only_mboxRead {s t : State} {ps : Set Part} {ok : Bool} (sub : {.boot} ∪ Part.regs ⊆ ps) :
    s.Only ps (t.mboxRead ok) ↔ s.Only ps t :=
  State.Only.iff (by
    unfold State.mboxRead; dsimp only; split
    all_goals simp) sub (by simp)

@[simp ↓] theorem State.only_mboxErase {s t : State} {ps : Set Part} {ok : Bool} (sub : {.boot, .flash, .free, .reg .BOOT_MBOX_STATUS} ⊆ ps) :
    s.Only ps (t.mboxErase ok) ↔ s.Only ps t :=
  State.Only.iff (by
    unfold State.mboxErase; simp) sub (by simp)

@[simp ↓] theorem State.only_mboxProgram {s t : State} {ps : Set Part} {ok : Bool} (sub : {.boot, .flash, .free, .reg .BOOT_MBOX_STATUS} ⊆ ps) :
    s.Only ps (t.mboxProgram ok) ↔ s.Only ps t :=
  State.Only.iff (by
    unfold State.mboxProgram; split
    all_goals simp) sub (by simp)

@[simp ↓] theorem State.only_mboxReboot {s t : State} {ps : Set Part} (sub : {.pending}ᶜ ⊆ ps) (k : s.Only ps t) :
    s.Only ps (t.mboxReboot) :=
  State.Only.of_sub (by
    unfold State.mboxReboot; simp [F.BOOT_MBOX_STATUS_BUSY, F.BOOT_MBOX_STATUS_REJECT]) sub k

@[simp ↓] theorem State.only_mboxFallow {s t : State} {ps : Set Part} (sub : {.pending}ᶜ ⊆ ps) (k : s.Only ps t) :
    s.Only ps (t.mboxFallow) :=
  State.Only.of_sub (by
    unfold State.mboxFallow; simp [F.BOOT_MBOX_STATUS_BUSY, F.BOOT_MBOX_STATUS_REJECT]) sub k

@[simp ↓] theorem State.only_mboxDone {s t : State} {ps : Set Part} (sub : {.boot, .reg .BOOT_MBOX_STATUS} ∪ Part.event ⊆ ps) :
    s.Only ps (t.mboxDone) ↔ s.Only ps t :=
  State.Only.iff (by
    unfold State.mboxDone; split
    · extract_lets u
      have hu : t.Only ({.boot, .reg .BOOT_MBOX_STATUS} ∪ Part.event) u := by
        simp [u, F.BOOT_MBOX_STATUS_BUSY, F.BOOT_MBOX_STATUS_DONE, F.BOOT_MBOX_STATUS_RESULT]
      clear_value u
      simp [hu]
    · exact .refl t _) sub (by simp)

/-! #### The commands -/

@[simp ↓] theorem keeps_execStandbyRailUp {ps : Set Part} (sub : {.pending}ᶜ ⊆ ps) : State.Keeps ps execStandbyRailUp :=
  State.Keeps.mono (fun t => by
    exact ⟨_, rfl, by simp⟩) sub

@[simp ↓] theorem keeps_execStandbyRailLoss {ps : Set Part} (sub : {.pending}ᶜ ⊆ ps) : State.Keeps ps execStandbyRailLoss :=
  State.Keeps.mono (fun t => by
    exact ⟨_, rfl, by simp⟩) sub

@[simp ↓] theorem keeps_execMainEnable {ps : Set Part} (sub : {.heather} ⊆ ps) : State.Keeps ps execMainEnable :=
  State.Keeps.mono (fun t => by
    exact ⟨_, rfl, by simp⟩) sub

@[simp ↓] theorem keeps_execMainGoodTimeout {ps : Set Part} (sub : {.heather} ⊆ ps) : State.Keeps ps execMainGoodTimeout :=
  State.Keeps.mono (fun t => by
    exact ⟨_, rfl, by simp⟩) sub

@[simp ↓] theorem keeps_execMainGoodFall {ps : Set Part} (sub : {.pending}ᶜ ⊆ ps) : State.Keeps ps execMainGoodFall :=
  State.Keeps.mono (fun t => by
    exact ⟨_, rfl, by simp⟩) sub

@[simp ↓] theorem keeps_execRstNLow {ps : Set Part} (sub : {.pending}ᶜ ⊆ ps) : State.Keeps ps execRstNLow :=
  State.Keeps.mono (fun t => by
    exact ⟨_, rfl, by simp⟩) sub

@[simp ↓] theorem keeps_execStartWatchdog {ps : Set Part} (sub : {.pending}ᶜ ⊆ ps) : State.Keeps ps execStartWatchdog :=
  State.Keeps.mono (fun t => by
    exact ⟨_, rfl, by simp⟩) sub

@[simp ↓] theorem keeps_execPerst {ps : Set Part} {link : Option (BitVec 3 × BitVec 5 × Bool)} (sub : {.mem, .latent, .flight, .chans, .areas, .flits, .engines, .irq, .host, .leas, .leaFaults, .chainRefs, .mgmt, .provs, .prods, .verifs, .fractionOld, .fractionAt, .ctxs, .sensors, .entry, .quarters, .stile, .t3, .loads, .tests, .jobs, .commits} ∪ Part.tusss ∪ Part.regs ⊆ ps) : State.Keeps ps (execPerst link) :=
  State.Keeps.mono (fun t => by
    exact ⟨_, rfl, by simp⟩) sub

@[simp ↓] theorem keeps_execDrain {ps : Set Part} {n : Chn} (sub : {.reg .GLB_CHN_CTRL} ⊆ ps) : State.Keeps ps (execDrain n) :=
  State.Keeps.mono (fun t => by
    exact ⟨_, rfl, by simp⟩) sub

@[simp ↓] theorem keeps_execReopen {ps : Set Part} {n : Chn} (sub : {.irq} ∪ Part.regs ⊆ ps) : State.Keeps ps (execReopen n) :=
  State.Keeps.mono (fun t => by
    exact ⟨_, rfl, by simp⟩) sub

@[simp ↓] theorem keeps_execDrained {ps : Set Part} {n : Chn} (sub : {.irq} ∪ Part.regs ⊆ ps) : State.Keeps ps (execDrained n) :=
  State.Keeps.mono (fun t => by
    exact ⟨_, rfl, by simp⟩) sub

@[simp ↓] theorem keeps_execReinit {ps : Set Part} {n : Chn} (sub : {.irq, .mem, .latent, .flight, .chans, .areas, .flits, .engines, .host, .leas, .leaFaults, .chainRefs, .mgmt, .provs, .prods, .verifs, .fractionOld, .fractionAt, .ctxs, .sensors, .entry, .quarters, .stile, .t3, .loads, .tests, .jobs, .commits} ∪ Part.tusss ∪ Part.regs ⊆ ps) : State.Keeps ps (execReinit n) :=
  State.Keeps.mono (fun t => by
    exact ⟨_, rfl, by simp⟩) sub

@[simp ↓] theorem keeps_execReinitDone {ps : Set Part} {n : Chn} {ok : Bool} (sub : {.irq, .mem, .latent, .engines, .boot, .out, .flits, .chans, .leas, .jobs, .areas, .prods, .commits, .provs, .flight, .host, .leaFaults, .chainRefs, .mgmt, .verifs, .fractionOld, .fractionAt, .ctxs, .sensors, .entry, .quarters, .stile, .t3, .loads, .tests} ∪ Part.tusss ∪ Part.regs ⊆ ps) : State.Keeps ps (execReinitDone n ok) :=
  State.Keeps.mono (fun t => by
    exact ⟨_, rfl, by simp⟩) sub

@[simp ↓] theorem keeps_execStackFail {ps : Set Part} {n : Chn} (sub : {.engines, .boot, .irq, .mem, .out, .flits, .latent, .chans, .leas, .jobs, .areas, .prods, .commits, .provs, .flight, .host, .leaFaults, .chainRefs, .mgmt, .verifs, .fractionOld, .fractionAt, .ctxs, .sensors, .entry, .quarters, .stile, .t3, .loads, .tests} ∪ Part.tusss ∪ Part.regs ⊆ ps) : State.Keeps ps (execStackFail n) :=
  State.Keeps.mono (fun t => by
    exact ⟨_, rfl, by simp⟩) sub

@[simp ↓] theorem keeps_execFwSwitch {ps : Set Part} (sub : {.boot, .reg .BOOT_SP_STATUS, .reg .BOOT_STATUS} ⊆ ps) : State.Keeps ps execFwSwitch :=
  State.Keeps.mono (fun t => by
    exact ⟨_, rfl, by simp⟩) sub

@[simp ↓] theorem keeps_execFwSwitchDone {ps : Set Part} (sub : {.testKey, .boot, .reg .BOOT_STATUS, .reg .SEC_STATUS, .reg .BOOT_SP_STATUS} ∪ Part.event ⊆ ps) : State.Keeps ps execFwSwitchDone :=
  State.Keeps.mono (fun t => by
    exact ⟨_, rfl, by simp⟩) sub

@[simp ↓] theorem keeps_execFwSwitchTimeout {ps : Set Part} {oldOk : Bool} (sub : {.pending}ᶜ ⊆ ps) : State.Keeps ps (execFwSwitchTimeout oldOk) :=
  State.Keeps.mono (fun t => by
    exact ⟨_, rfl, by simp⟩) sub

@[simp ↓] theorem keeps_execBootFallow {ps : Set Part} (sub : {.pending}ᶜ ⊆ ps) : State.Keeps ps execBootFallow :=
  State.Keeps.mono (fun t => by
    exact ⟨_, rfl, by simp⟩) sub

@[simp ↓] theorem keeps_execMboxRead {ps : Set Part} {ok : Bool} (sub : {.boot} ∪ Part.regs ⊆ ps) : State.Keeps ps (execMboxRead ok) :=
  State.Keeps.mono (fun t => by
    exact ⟨_, rfl, by simp⟩) sub

@[simp ↓] theorem keeps_execErase {ps : Set Part} {ok : Bool} (sub : {.boot, .flash, .free, .reg .BOOT_MBOX_STATUS} ⊆ ps) : State.Keeps ps (execErase ok) :=
  State.Keeps.mono (fun t => by
    exact ⟨_, rfl, by simp⟩) sub

@[simp ↓] theorem keeps_execProgram {ps : Set Part} {ok : Bool} (sub : {.boot, .flash, .free, .reg .BOOT_MBOX_STATUS} ⊆ ps) : State.Keeps ps (execProgram ok) :=
  State.Keeps.mono (fun t => by
    exact ⟨_, rfl, by simp⟩) sub

@[simp ↓] theorem keeps_execVerifySlot {ps : Set Part} {ok : Bool} (sub : {.boot, .reg .BOOT_MBOX_STATUS} ⊆ ps) : State.Keeps ps (execVerifySlot ok) :=
  State.Keeps.mono (fun t => by
    exact ⟨_, rfl, by simp⟩) sub

@[simp ↓] theorem keeps_execVerifyBank {ps : Set Part} {ok : Bool} (sub : {.boot, .reg .BOOT_MBOX_STATUS} ⊆ ps) : State.Keeps ps (execVerifyBank ok) :=
  State.Keeps.mono (fun t => by
    exact ⟨_, rfl, by simp⟩) sub

@[simp ↓] theorem keeps_execReboot {ps : Set Part} (sub : {.pending}ᶜ ⊆ ps) : State.Keeps ps execReboot :=
  State.Keeps.mono (fun t => by
    exact ⟨_, rfl, by simp⟩) sub

@[simp ↓] theorem keeps_execMboxFallow {ps : Set Part} (sub : {.pending}ᶜ ⊆ ps) : State.Keeps ps execMboxFallow :=
  State.Keeps.mono (fun t => by
    exact ⟨_, rfl, by simp⟩) sub

@[simp ↓] theorem keeps_execMboxReserved {ps : Set Part} {cmd : BitVec 8} (sub : {.boot, .reg .BOOT_MBOX_STATUS} ⊆ ps) : State.Keeps ps (execMboxReserved cmd) :=
  State.Keeps.mono (fun t => by
    exact ⟨_, rfl, by simp⟩) sub

@[simp ↓] theorem keeps_execBootMboxDone {ps : Set Part} (sub : {.boot, .reg .BOOT_MBOX_STATUS} ∪ Part.event ⊆ ps) : State.Keeps ps execBootMboxDone :=
  State.Keeps.mono (fun t => by
    exact ⟨_, rfl, by simp⟩) sub

@[simp ↓] theorem keeps_execSpClr {ps : Set Part} (sub : {.reg .BOOT_SP_STATUS} ⊆ ps) : State.Keeps ps execSpClr :=
  State.Keeps.mono (fun t => by
    exact ⟨_, rfl, by simp [F.BOOT_SP_STATUS_DROP_CNT]⟩) sub

/-! #### The security mailbox -/

@[simp ↓] theorem State.only_secPut {s t : State} {ps : Set Part} {bs : List Byte} (sub : Part.regs ⊆ ps) :
    s.Only ps (t.secPut bs) ↔ s.Only ps t :=
  State.Only.iff (by
    unfold State.secPut; simp) sub (by simp)

@[simp ↓] theorem State.only_secBegin {s t : State} {ps : Set Part} {cmd result : ℕ} {f : State → State} (sub : {.boot, .reg .SEC_MBOX_STATUS} ⊆ ps)
    (hf : t.Only ps (f t)) (k : s.Only ps t) : s.Only ps (t.secBegin cmd result f) := by
  obtain ⟨hboot, hreg⟩ : Part.boot ∈ ps ∧ Part.reg .SEC_MBOX_STATUS ∈ ps := by simpa using sub
  refine k.trans ?_
  unfold State.secBegin
  extract_lets u
  have hu : t.Only ps u := by simp [u, F.SEC_MBOX_STATUS_BUSY, hreg, hf]
  clear_value u
  split <;> simp [F.SEC_MBOX_STATUS_REJECT, hreg, hboot, hu]

@[simp ↓] theorem State.only_getId {s t : State} {ps : Set Part} (sub : {.boot} ∪ Part.regs ⊆ ps) :
    s.Only ps (t.getId) ↔ s.Only ps t :=
  State.Only.iff (by
    unfold State.getId; split
    all_goals simp) sub (by simp)

@[simp ↓] theorem State.only_attest {s t : State} {ps : Set Part} (sub : {.boot, .reg .SEC_MBOX_STATUS} ⊆ ps) :
    s.Only ps (t.attest) ↔ s.Only ps t :=
  State.Only.iff (by
    unfold State.attest; split
    all_goals simp) sub (by simp)

@[simp ↓] theorem State.only_attestSnapshot {s t : State} {ps : Set Part} (sub : {.free, .boot} ∪ Part.regs ⊆ ps) :
    s.Only ps (t.attestSnapshot) ↔ s.Only ps t :=
  State.Only.iff (by
    unfold State.attestSnapshot; split <;> simp) sub (by simp)

@[simp ↓] theorem State.only_getCert {s t : State} {ps : Set Part} (sub : {.boot} ∪ Part.regs ⊆ ps) :
    s.Only ps (t.getCert) ↔ s.Only ps t :=
  State.Only.iff (by
    unfold State.getCert; split
    all_goals simp) sub (by simp)

@[simp ↓] theorem State.only_enroll {s t : State} {ps : Set Part} {helper : List Byte} (sub : {.boot, .flash, .reg .SEC_MBOX_STATUS} ⊆ ps) :
    s.Only ps (t.enroll helper) ↔ s.Only ps t :=
  State.Only.iff (by
    unfold State.enroll; split
    all_goals simp) sub (by simp)

@[simp ↓] theorem State.only_secDone {s t : State} {ps : Set Part} (sub : {.boot, .reg .SEC_MBOX_STATUS} ∪ Part.event ⊆ ps) :
    s.Only ps (t.secDone) ↔ s.Only ps t :=
  State.Only.iff (by
    unfold State.secDone; split
    · extract_lets u
      have hu : t.Only ({.boot, .reg .SEC_MBOX_STATUS} ∪ Part.event) u := by
        simp [u, F.SEC_MBOX_STATUS_BUSY, F.SEC_MBOX_STATUS_DONE, F.SEC_MBOX_STATUS_RESULT]
      clear_value u
      split
      · exact .refl t _
      · simp [hu]
    · exact .refl t _) sub (by simp)

@[simp ↓] theorem keeps_execGetId {ps : Set Part} (sub : {.boot} ∪ Part.regs ⊆ ps) : State.Keeps ps execGetId :=
  State.Keeps.mono (fun t => by
    exact ⟨_, rfl, by simp⟩) sub

@[simp ↓] theorem keeps_execAttest {ps : Set Part} (sub : {.boot, .reg .SEC_MBOX_STATUS} ⊆ ps) : State.Keeps ps execAttest :=
  State.Keeps.mono (fun t => by
    exact ⟨_, rfl, by simp⟩) sub

@[simp ↓] theorem keeps_execAttestSnapshot {ps : Set Part} (sub : {.free, .boot} ∪ Part.regs ⊆ ps) : State.Keeps ps execAttestSnapshot :=
  State.Keeps.mono (fun t => by
    exact ⟨_, rfl, by simp⟩) sub

@[simp ↓] theorem keeps_execGetCert {ps : Set Part} (sub : {.boot} ∪ Part.regs ⊆ ps) : State.Keeps ps execGetCert :=
  State.Keeps.mono (fun t => by
    exact ⟨_, rfl, by simp⟩) sub

@[simp ↓] theorem keeps_execEnroll {ps : Set Part} {helper : List Byte} (sub : {.boot, .flash, .reg .SEC_MBOX_STATUS} ⊆ ps) : State.Keeps ps (execEnroll helper) :=
  State.Keeps.mono (fun t => by
    exact ⟨_, rfl, by simp⟩) sub

@[simp ↓] theorem keeps_execSecReserved {ps : Set Part} {cmd : BitVec 8} (sub : {.boot, .reg .SEC_MBOX_STATUS} ⊆ ps) : State.Keeps ps (execSecReserved cmd) :=
  State.Keeps.mono (fun t => by
    exact ⟨_, rfl, by simp⟩) sub

@[simp ↓] theorem keeps_execSecMboxDone {ps : Set Part} (sub : {.boot, .reg .SEC_MBOX_STATUS} ∪ Part.event ⊆ ps) : State.Keeps ps execSecMboxDone :=
  State.Keeps.mono (fun t => by
    exact ⟨_, rfl, by simp⟩) sub

@[simp ↓] theorem keeps_execSecClrCnt {ps : Set Part} (sub : {.reg .SEC_VERIFY_CNT} ⊆ ps) : State.Keeps ps execSecClrCnt :=
  State.Keeps.mono (fun t => by
    exact ⟨_, rfl, by simp [F.SEC_VERIFY_CNT_PASS_CNT, F.SEC_VERIFY_CNT_FAIL_CNT]⟩) sub

/-! #### The pin-function registers -/

@[simp ↓] theorem State.only_pinWrite {s t : State} {ps : Set Part} {r : RegName} {i : ℕ} {v : ℕ} (sub : Part.regs ⊆ ps) :
    s.Only ps (t.pinWrite r i v) ↔ s.Only ps t :=
  State.Only.iff (by
    unfold State.pinWrite; simp) sub (by simp)

@[simp ↓] theorem State.only_tapBypass {s t : State} {ps : Set Part} {code : ℕ} (sub : {.tap} ⊆ ps) :
    s.Only ps (t.tapBypass code) ↔ s.Only ps t :=
  State.Only.iff (by
    unfold State.tapBypass; simp) sub (by simp)

@[simp ↓] theorem State.only_tapTest {s t : State} {ps : Set Part} {code : ℕ} {good : Bool} {f : Tap → Tap} (sub : {.tap} ⊆ ps) :
    s.Only ps (t.tapTest code good f) ↔ s.Only ps t :=
  State.Only.iff (by
    unfold State.tapTest; simp) sub (by simp)

@[simp ↓] theorem State.only_tapExtest {s t : State} {ps : Set Part} {code : ℕ} {good : Bool} {pins : ℕ} {shifted : ℕ} (sub : {.tap} ⊆ ps) :
    s.Only ps (t.tapExtest code good pins shifted) ↔ s.Only ps t :=
  State.Only.iff (by
    unfold State.tapExtest; simp) sub (by simp)

@[simp ↓] theorem keeps_execPinFunctionWrite {ps : Set Part} {r : PinReg} {v : Word} (sub : Part.regs ⊆ ps) : State.Keeps ps (execPinFunctionWrite r v) :=
  State.Keeps.mono (fun t => by
    exact ⟨_, rfl, by simp⟩) sub

@[simp ↓] theorem keeps_execExtest {ps : Set Part} {good : Bool} {pins : BitVec 1152} {shifted : BitVec 1152} (sub : {.tap} ⊆ ps) : State.Keeps ps (execExtest good pins shifted) :=
  State.Keeps.mono (fun t => by
    exact ⟨_, rfl, by simp⟩) sub

@[simp ↓] theorem keeps_execIdcode {ps : Set Part} (sub : {.tap} ⊆ ps) : State.Keeps ps execIdcode :=
  State.Keeps.mono (fun t => by
    exact ⟨_, rfl, by simp⟩) sub

@[simp ↓] theorem keeps_execSamplePreload {ps : Set Part} {pins : BitVec 1152} {shifted : BitVec 1152} (sub : {.tap} ⊆ ps) : State.Keeps ps (execSamplePreload pins shifted) :=
  State.Keeps.mono (fun t => by
    exact ⟨_, rfl, by simp⟩) sub

@[simp ↓] theorem keeps_execClamp {ps : Set Part} {good : Bool} (sub : {.tap} ⊆ ps) : State.Keeps ps (execClamp good) :=
  State.Keeps.mono (fun t => by
    exact ⟨_, rfl, by simp⟩) sub

@[simp ↓] theorem keeps_execHighz {ps : Set Part} {good : Bool} (sub : {.tap} ⊆ ps) : State.Keeps ps (execHighz good) :=
  State.Keeps.mono (fun t => by
    exact ⟨_, rfl, by simp⟩) sub

@[simp ↓] theorem keeps_execExtestPulse {ps : Set Part} {good : Bool} {pins : BitVec 1152} {shifted : BitVec 1152} (sub : {.tap} ⊆ ps) : State.Keeps ps (execExtestPulse good pins shifted) :=
  State.Keeps.mono (fun t => by
    exact ⟨_, rfl, by simp⟩) sub

@[simp ↓] theorem keeps_execExtestTrain {ps : Set Part} {good : Bool} {pins : BitVec 1152} {shifted : BitVec 1152} (sub : {.tap} ⊆ ps) : State.Keeps ps (execExtestTrain good pins shifted) :=
  State.Keeps.mono (fun t => by
    exact ⟨_, rfl, by simp⟩) sub

@[simp ↓] theorem keeps_execBypass {ps : Set Part} {code : BitVec 8} (sub : {.tap} ⊆ ps) : State.Keeps ps (execBypass code) :=
  State.Keeps.mono (fun t => by
    exact ⟨_, rfl, by simp⟩) sub

/-! #### What a write does -/

@[simp ↓] theorem State.only_grsCfg {s t : State} {ps : Set Part} {v : ℕ} (sub : {.fractionOld, .fractionAt, .reg .GRS_CFG, .reg .GRS_STATUS} ⊆ ps) :
    s.Only ps (t.grsCfg v) ↔ s.Only ps t :=
  State.Only.iff (by
    unfold State.grsCfg; simp [F.GRS_CFG_TUFT_MODE, F.GRS_CFG_DRIFT_PASS]) sub (by simp)

@[simp ↓] theorem State.only_leaCfg {s t : State} {ps : Set Part} {p : ℕ} {v : ℕ} (sub : {.leas, .reg .LEA_PORT_CFG, .reg .LEA_PORT_STATUS} ∪ Part.event ⊆ ps) :
    s.Only ps (t.leaCfg p v) ↔ s.Only ps t :=
  State.Only.iff (by
    unfold State.leaCfg; simp (disch := simp (disch := simp [F.LEA_PORT_CFG_RATE, F.LEA_PORT_CFG_AUTO_RETRAIN, F.LEA_PORT_CFG_MAX_ATTEMPTS]) [F.LEA_PORT_CFG_RATE, F.LEA_PORT_CFG_AUTO_RETRAIN, F.LEA_PORT_CFG_MAX_ATTEMPTS])) sub (by simp)

@[simp ↓] theorem State.only_tqCfg {s t : State} {ps : Set Part} {q : ℕ} {v : ℕ} (sub : {.stile} ∪ Part.regs ⊆ ps) :
    s.Only ps (t.tqCfg q v) ↔ s.Only ps t :=
  State.Only.iff (by
    unfold State.tqCfg; simp [F.STL_TQ_STAT_CFG_REJECT]) sub (by simp)

@[simp ↓] theorem State.only_ainCtrl {s t : State} {ps : Set Part} {v : ℕ} (sub : {.stile, .reg .STL_AIN_STATUS, .reg .STL_AIN_CNT} ∪ Part.event ⊆ ps) :
    s.Only ps (t.ainCtrl v) ↔ s.Only ps t :=
  State.Only.iff (by
    unfold State.ainCtrl; dsimp only; repeat' split
    all_goals simp (disch := simp (disch := simp [F.STL_AIN_STATUS_CFG_REJECT]) [F.STL_AIN_STATUS_CFG_REJECT])) sub (by simp)

@[simp ↓] theorem State.only_pwrCtrl {s t : State} {ps : Set Part} {v : ℕ} (sub : {.entry, .chans, .heather, .waking, .reg .PWR_STATUS, .reg .PWR_REFUSE, .reg .PWR_LAST_REFUSE, .reg .PWR_ENTRY_CNT} ∪ Part.event ⊆ ps) :
    s.Only ps (t.pwrCtrl v) ↔ s.Only ps t :=
  State.Only.iff (by
    unfold State.pwrCtrl; simp [F.PWR_STATUS_STATE]) sub (by simp)

@[simp ↓] theorem State.only_chnCtrl {s t : State} {ps : Set Part} {v : ℕ} (sub : {.irq, .mem, .latent, .flight, .chans, .areas, .flits, .engines, .host, .leas, .leaFaults, .chainRefs, .mgmt, .provs, .prods, .verifs, .fractionOld, .fractionAt, .ctxs, .sensors, .entry, .quarters, .stile, .t3, .loads, .tests, .jobs, .commits} ∪ Part.tusss ∪ Part.regs ⊆ ps) (k : s.Only ps t) :
    s.Only ps (t.chnCtrl v) :=
  State.Only.of_sub (by
    unfold State.chnCtrl
    all_goals
      refine State.only_foldl (fun u x => ?_) (by simp [F.GLB_CHN_CTRL_DRAIN, *])
      repeat' split
    all_goals simp [*]) sub k

@[simp ↓] theorem State.only_bootCmd {s t : State} {ps : Set Part} {cmd : ℕ} (sub : {.pending}ᶜ ⊆ ps) (k : s.Only ps t) :
    s.Only ps (t.bootCmd cmd) :=
  State.Only.of_sub (by
    unfold State.bootCmd; split <;> simp) sub k

@[simp ↓] theorem State.only_secCmd {s t : State} {ps : Set Part} {cmd : ℕ} (sub : {.boot, .free, .flash} ∪ Part.regs ⊆ ps) :
    s.Only ps (t.secCmd cmd) ↔ s.Only ps t :=
  State.Only.iff (by
    unfold State.secCmd; split <;> simp) sub (by simp)

@[simp ↓] theorem State.only_tskCtrl {s t : State} {ps : Set Part} {g : ℕ} {v : ℕ} (sub : {.reg .TSK_QUAR_CAUSE, .reg .TSK_CTRL_STATUS, .reg .TSK_STATE, .reg .TSK_SEQ_STATUS, .reg .TSK_SEQ_ERR} ∪ Part.tusss ⊆ ps) :
    s.Only ps (t.tskCtrl g v) ↔ s.Only ps t :=
  State.Only.iff (by
    unfold State.tskCtrl; simp (disch := simp (disch := simp [F.TSK_CTRL_STATUS_REENABLE_REJECT]) [F.TSK_CTRL_STATUS_REENABLE_REJECT])) sub (by simp)

@[simp ↓] theorem State.only_regStore {s t : State} {ps : Set Part} {r : RegName} {i : ℕ} {j : ℕ} {v : ℕ} (sub : {.pending}ᶜ ⊆ ps) (k : s.Only ps t) :
    s.Only ps (t.regStore r i j v) :=
  State.Only.of_sub (by
    unfold State.regStore; dsimp only; repeat' split
    all_goals simp (disch := simp (disch := simp [F.CHN_ENG_STATUS_RUNNING, F.CHN_ENG_STATUS_CFG_ERR, F.STL_FIN_STAT_OVR, F.STL_FIN_STAT_STUCK_SET, F.STL_ENC_CFG_ERR, F.SEC_MBOX_STATUS_BUSY]) [F.CHN_ENG_STATUS_RUNNING, F.CHN_ENG_STATUS_CFG_ERR, F.STL_FIN_STAT_OVR, F.STL_FIN_STAT_STUCK_SET, F.STL_ENC_CFG_ERR, F.SEC_MBOX_STATUS_BUSY])) sub k

@[simp ↓] theorem State.only_regWrite {s t : State} {ps : Set Part} {r : RegName} {i : ℕ} {j : ℕ} {v : ℕ} (sub : {.pending}ᶜ ⊆ ps) (k : s.Only ps t) :
    s.Only ps (t.regWrite r i j v) :=
  State.Only.of_sub (by
    unfold State.regWrite; simp (disch := simp (disch := simp))) sub k

/-! #### 64-bit registers word by word -/

@[simp ↓] theorem State.only_setBus {s t : State} {ps : Set Part} {a : Agent} {b : BusAgent} (sub : {.host, .mgmt} ⊆ ps) :
    s.Only ps (t.setBus a b) ↔ s.Only ps t :=
  State.Only.iff (by
    unfold State.setBus; split <;> simp) sub (by simp)

@[simp ↓] theorem State.only_readLow {s t : State} {ps : Set Part} {a : Agent} {x : RegWord} (sub : {.host, .mgmt} ⊆ ps) :
    s.Only ps (t.readLow a x) ↔ s.Only ps t :=
  State.Only.iff (by
    unfold State.readLow; simp) sub (by simp)

@[simp ↓] theorem State.only_readHigh {s t : State} {ps : Set Part} {a : Agent} {x : RegWord} (sub : {.host, .mgmt, .reg .GLB_ERR_STATUS} ∪ Part.event ⊆ ps) :
    s.Only ps (t.readHigh a x) ↔ s.Only ps t :=
  State.Only.iff (by
    unfold State.readHigh; repeat' split
    all_goals simp) sub (by simp)

@[simp ↓] theorem State.only_writeLow {s t : State} {ps : Set Part} {a : Agent} {x : RegWord} {v : ℕ} (sub : {.host, .mgmt} ⊆ ps) :
    s.Only ps (t.writeLow a x v) ↔ s.Only ps t :=
  State.Only.iff (by
    unfold State.writeLow; simp (disch := simp (disch := simp))) sub (by simp)

@[simp ↓] theorem State.only_writeHigh {s t : State} {ps : Set Part} {a : Agent} {x : RegWord} {v : ℕ} (sub : {.pending}ᶜ ⊆ ps) (k : s.Only ps t) :
    s.Only ps (t.writeHigh a x v) :=
  State.Only.of_sub (by
    generalize hf : State.writeHigh = f; delta State.writeHigh at hf; subst hf
    beta_reduce
    refine State.only_ifReach.2 ?_
    split
    · rcases (t.busOf a).staged with _ | h
      · simp
      · dsimp only
        split <;> simp
    · exact .refl t _) sub k

/-! #### Writes by offset -/

@[simp ↓] theorem State.only_msixWrite {s t : State} {ps : Set Part} {v : ℕ} {word : ℕ} {x : ℕ} (sub : {.irq, .out} ⊆ ps) :
    s.Only ps (t.msixWrite v word x) ↔ s.Only ps t :=
  State.Only.iff (by
    unfold State.msixWrite; split <;> simp) sub (by simp)

@[simp ↓] theorem State.only_write4 {s t : State} {ps : Set Part} {a : Agent} {o : ℕ} {v : ℕ} (sub : {.pending}ᶜ ⊆ ps) (k : s.Only ps t) :
    s.Only ps (t.write4 a o v) :=
  State.Only.of_sub (by
    unfold State.write4; repeat' split
    all_goals simp) sub k

@[simp ↓] theorem State.only_badAccess {s t : State} {ps : Set Part} {read : Bool} (sub : {.out, .reg .GLB_ERR_STATUS} ∪ Part.event ⊆ ps) :
    s.Only ps (t.badAccess read) ↔ s.Only ps t :=
  State.Only.iff (by
    unfold State.badAccess; split <;> simp) sub (by simp)

@[simp ↓] theorem State.only_write8 {s t : State} {ps : Set Part} {a : Agent} {o : ℕ} {lo : ℕ} {hi : ℕ} (sub : {.pending}ᶜ ⊆ ps) (k : s.Only ps t) :
    s.Only ps (t.write8 a o lo hi) :=
  State.Only.of_sub (by
    unfold State.write8; split <;> simp) sub k

@[simp ↓] theorem State.only_barWrite {s t : State} {ps : Set Part} {a : Agent} {o : ℕ} {ws : List ℕ} (sub : {.pending}ᶜ ⊆ ps) (k : s.Only ps t) :
    s.Only ps (t.barWrite a o ws) :=
  State.Only.of_sub (by
    unfold State.barWrite; split <;> simp) sub k

/-! #### The commands -/

@[simp ↓] theorem keeps_execRead64Low {ps : Set Part} {a : Agent} {off : BitVec 24} (sub : {.host, .mgmt} ⊆ ps) : State.Keeps ps (execRead64Low a off) :=
  State.Keeps.mono (fun t => by
    refine ⟨_, rfl, ?_⟩
    repeat' split
    all_goals simp (disch := simp (disch := simp))) sub

@[simp ↓] theorem keeps_execRead64High {ps : Set Part} {a : Agent} {off : BitVec 24} (sub : {.host, .mgmt, .reg .GLB_ERR_STATUS} ∪ Part.event ⊆ ps) : State.Keeps ps (execRead64High a off) :=
  State.Keeps.mono (fun t => by
    refine ⟨_, rfl, ?_⟩
    repeat' split
    all_goals simp (disch := simp (disch := simp))) sub

@[simp ↓] theorem keeps_execWrite64Low {ps : Set Part} {a : Agent} {off : BitVec 24} {v : Word} (sub : {.host, .mgmt} ⊆ ps) : State.Keeps ps (execWrite64Low a off v) :=
  State.Keeps.mono (fun t => by
    refine ⟨_, rfl, ?_⟩
    repeat' split
    all_goals simp (disch := simp (disch := simp))) sub

@[simp ↓] theorem keeps_execWrite64High {ps : Set Part} {a : Agent} {off : BitVec 24} {v : Word} (sub : {.pending}ᶜ ⊆ ps) : State.Keeps ps (execWrite64High a off v) :=
  State.Keeps.mono (fun t => by
    refine ⟨_, rfl, ?_⟩
    repeat' split
    all_goals simp (disch := simp (disch := simp))) sub

@[simp ↓] theorem keeps_execBar0BadAccess {ps : Set Part} {read : Bool} (sub : {.out, .reg .GLB_ERR_STATUS} ∪ Part.event ⊆ ps) : State.Keeps ps (execBar0BadAccess read) :=
  State.Keeps.mono (fun t => by
    exact ⟨_, rfl, by simp⟩) sub

@[simp ↓] theorem keeps_execRegisterWrite {ps : Set Part} {a : Agent} {off : BitVec 24} {data : List Word} (sub : {.pending}ᶜ ⊆ ps) : State.Keeps ps (execRegisterWrite a off data) :=
  State.Keeps.mono (fun t => by
    exact ⟨_, rfl, by simp⟩) sub

/-! #### Standing programs -/

@[simp ↓] theorem State.only_mgmtWrite {s t : State} {ps : Set Part} {a : ℕ} {bytes : List Byte} (sub : Part.gwrite ⊆ ps) (k : s.Only ps t) :
    s.Only ps (t.mgmtWrite a bytes) :=
  State.Only.of_sub (by
    unfold State.mgmtWrite; split <;> simp) sub k

@[simp ↓] theorem State.only_mgmtRead {s t : State} {ps : Set Part} {a : ℕ} {n : ℕ} (sub : Part.read ⊆ ps) (k : s.Only ps t) :
    s.Only ps (t.mgmtRead a n).1 :=
  State.Only.of_sub (by
    unfold State.mgmtRead; split
    · simp
    · split
      all_goals
        rename_i heq
        exact .of_fst heq (by simp)) sub k

@[simp ↓] theorem State.only_patchValue {s t : State} {ps : Set Part} {b : Binding} {e : StandingEvent} {src : ℕ} (sub : {.free} ⊆ ps) :
    s.Only ps (t.patchValue b e src).1 ↔ s.Only ps t :=
  State.Only.iff (by
    unfold State.patchValue; dsimp only; repeat' split
    all_goals simp [*]) sub (by simp)

@[simp ↓] theorem State.only_patched {s t : State} {ps : Set Part} {b : Binding} {e : StandingEvent} {bytes : List Byte} (sub : {.free} ⊆ ps) :
    s.Only ps (t.patched b e bytes).1 ↔ s.Only ps t :=
  State.Only.iff (by
    unfold State.patched
    refine State.only_foldl_fst (fun x p hx => ?_) (.refl t _)
    dsimp only; split
    · exact hx
    · simp [hx]) sub (by simp)

@[simp ↓] theorem State.only_setBinding {s t : State} {ps : Set Part} {i : ℕ} {b : Binding} (sub : {.boot} ⊆ ps) :
    s.Only ps (t.setBinding i b) ↔ s.Only ps t :=
  State.Only.iff (by
    unfold State.setBinding; simp) sub (by simp)

@[simp ↓] theorem State.only_placeEvent {s t : State} {ps : Set Part} {i : ℕ} {e : StandingEvent} (sub : {.reg .TSK_CONV_STATUS, .boot, .reg .BOOT_SP_STATUS} ∪ Part.read ∪ Part.tusss ⊆ ps) (k : s.Only ps t) :
    s.Only ps (t.placeEvent i e) :=
  State.Only.of_sub (by
    generalize hf : State.placeEvent = f; delta State.placeEvent at hf; subst hf
    beta_reduce
    rcases t.boot.binds[i]? with _ | b
    · exact .refl t _
    dsimp only
    refine .trans (t := t.setBinding i { b with events := b.events + 1 }) (by simp) ?_
    generalize t.setBinding i { b with events := b.events + 1 } = u
    have h : u.Only ({.reg .TSK_CONV_STATUS, .boot, .reg .BOOT_SP_STATUS} ∪ Part.read ∪ Part.tusss) (u.mgmtRead (u.ctrlAddr (b.ring % 16)) 4).1 := by simp
    revert h
    rcases u.mgmtRead (u.ctrlAddr (b.ring % 16)) 4 with ⟨v, _ | hd⟩
    · exact fun h => h.trans (by simp [F.BOOT_SP_STATUS_DROP_CNT])
    refine fun h => h.trans ?_
    dsimp only
    split
    · simp [F.BOOT_SP_STATUS_DROP_CNT]
    have h : v.Only ({.reg .TSK_CONV_STATUS, .boot, .reg .BOOT_SP_STATUS} ∪ Part.read ∪ Part.tusss) (v.mgmtRead b.template (32 * b.nent)).1 := by simp
    revert h
    rcases v.mgmtRead b.template (32 * b.nent) with ⟨w, _ | bytes⟩
    · exact fun h => h.trans (by simp [F.BOOT_SP_STATUS_DROP_CNT])
    refine fun h => h.trans ?_
    dsimp only
    have h : w.Only ({.reg .TSK_CONV_STATUS, .boot, .reg .BOOT_SP_STATUS} ∪ Part.read ∪ Part.tusss) (w.patched { b with events := b.events + 1 } e bytes).1 := by simp
    revert h
    rcases w.patched { b with events := b.events + 1 } e bytes with ⟨x, bytes'⟩
    refine fun h => h.trans ?_
    dsimp only
    generalize hy : (List.range b.nent).foldl _ x = y
    have hy : x.Only ({.reg .TSK_CONV_STATUS, .boot, .reg .BOOT_SP_STATUS} ∪ Part.read ∪ Part.tusss) y := hy ▸ State.only_foldl (fun u n => by simp) (.refl x _)
    refine hy.trans ?_
    split <;> simp) sub k

@[simp ↓] theorem State.only_placeEvents {s t : State} {ps : Set Part} {src : ℕ} {ix : ℕ} {e : StandingEvent} (sub : {.reg .TSK_CONV_STATUS, .boot, .reg .BOOT_SP_STATUS} ∪ Part.read ∪ Part.tusss ⊆ ps) (k : s.Only ps t) :
    s.Only ps (t.placeEvents src ix e) :=
  State.Only.of_sub (by
    unfold State.placeEvents; simp) sub k

@[simp ↓] theorem State.only_triggerEvent {s t : State} {ps : Set Part} {q : ℕ} (sub : {.reg .TSK_CONV_STATUS, .boot, .stile, .reg .BOOT_SP_STATUS, .reg .STL_TQ_STAT} ∪ Part.read ∪ Part.tusss ⊆ ps) (k : s.Only ps t) :
    s.Only ps (t.triggerEvent q) :=
  State.Only.of_sub (by
    unfold State.triggerEvent; repeat' split
    all_goals simp) sub k

@[simp ↓] theorem State.only_timerEvent {s t : State} {ps : Set Part} {i : ℕ} (sub : {.reg .TSK_CONV_STATUS, .boot, .reg .BOOT_SP_STATUS} ∪ Part.read ∪ Part.tusss ⊆ ps) (k : s.Only ps t) :
    s.Only ps (t.timerEvent i) :=
  State.Only.of_sub (by
    unfold State.timerEvent; split <;> simp) sub k

/-- `State.readBox` with its accesses to memory and the placing of the event left open. -/
def State.readBoxBy (read : State → ℕ → ℕ → State × Option (List Byte)) (write : State → ℕ → List Byte → State)
    (place : State → ℕ → ℕ → StandingEvent → State) (s : State) (m : ℕ) : ℕ → State
  | 0 => s
  | fuel + 1 =>
    match s.boot.boxes[m]? with
    | none => s
    | some x =>
      let a := x.base + x.next % x.entries * 32
      match read s a 32 with
      | (s, none) => s
      | (s, some d) =>
      if d.getD 14 0 ≠ 1 then s
      else
        let s := place s 1 m { frame := some (leNat (d.take 8)), blocks := some (leNat ((d.drop 8).take 4)) }
        let s := write s (a + 14) [0]
        let s := { s with boot := { s.boot with boxes := s.boot.boxes.set m { x with next := (x.next + 1) % x.entries } } }
        s.readBoxBy read write place m fuel

theorem State.readBox_eq : State.readBox = State.readBoxBy State.mgmtRead State.mgmtWrite State.placeEvents := by
  delta State.readBox State.readBox._f State.readBoxBy State.readBoxBy._f
  generalize State.mgmtRead = read, State.mgmtWrite = write, State.placeEvents = place
  rfl

theorem State.only_readBoxBy {read : State → ℕ → ℕ → State × Option (List Byte)} {write : State → ℕ → List Byte → State}
    {place : State → ℕ → ℕ → StandingEvent → State} {s : State} {m fuel : ℕ} (hr : ∀ (s : State) a, s.Only ({.reg .TSK_CONV_STATUS, .boot, .reg .BOOT_SP_STATUS} ∪ Part.read ∪ Part.tusss) (read s a 32).1)
    (hw : ∀ (s : State) a b, s.Only ({.reg .TSK_CONV_STATUS, .boot, .reg .BOOT_SP_STATUS} ∪ Part.read ∪ Part.tusss) (write s a b)) (hp : ∀ (s : State) e, s.Only ({.reg .TSK_CONV_STATUS, .boot, .reg .BOOT_SP_STATUS} ∪ Part.read ∪ Part.tusss) (place s 1 m e)) :
    s.Only ({.reg .TSK_CONV_STATUS, .boot, .reg .BOOT_SP_STATUS} ∪ Part.read ∪ Part.tusss) (s.readBoxBy read write place m fuel) := by
  induction fuel generalizing s with
  | zero => exact .refl s _
  | succ n ih =>
    unfold State.readBoxBy
    rcases s.boot.boxes[m]? with _ | x
    · exact .refl s _
    dsimp only
    have h := hr s (x.base + x.next % x.entries * 32)
    revert h
    rcases read s (x.base + x.next % x.entries * 32) 32 with ⟨u, _ | d⟩
    · exact id
    refine fun h => h.trans ?_
    dsimp only
    split
    · exact .refl u _
    · generalize hz : write (place u 1 m _) _ [0] = z
      have hz : u.Only ({.reg .TSK_CONV_STATUS, .boot, .reg .BOOT_SP_STATUS} ∪ Part.read ∪ Part.tusss) z := hz ▸ (hp _ _).trans (hw _ _ _)
      exact (hz.trans (by simp)).trans ih

@[simp ↓] theorem State.only_readBox {s t : State} {ps : Set Part} {m : ℕ} {x : ℕ} (sub : {.reg .TSK_CONV_STATUS, .boot, .reg .BOOT_SP_STATUS} ∪ Part.read ∪ Part.tusss ⊆ ps) (k : s.Only ps t) :
    s.Only ps (t.readBox m x) :=
  State.Only.of_sub (by
    rw [State.readBox_eq]
    exact State.only_readBoxBy (fun t a => by simp) (fun t a b => by simp) (fun t e => by simp)) sub k

@[simp ↓] theorem State.only_readBoxes {s t : State} {ps : Set Part} (sub : {.reg .TSK_CONV_STATUS, .boot, .reg .BOOT_SP_STATUS} ∪ Part.read ∪ Part.tusss ⊆ ps) (k : s.Only ps t) :
    s.Only ps (t.readBoxes) :=
  State.Only.of_sub (by
    unfold State.readBoxes; simp) sub k

@[simp ↓] theorem State.only_outputAction {s t : State} {ps : Set Part} {b : Binding} {w : ℕ} (sub : {.boot, .stile, .reg .STL_FOUT, .reg .STL_AOUT_STATUS, .reg .STL_AOUT_VALUE} ⊆ ps) :
    s.Only ps (t.outputAction b w) ↔ s.Only ps t :=
  State.Only.iff (by
    have hu : t.Only {.boot, .stile, .reg .STL_FOUT, .reg .STL_AOUT_STATUS, .reg .STL_AOUT_VALUE} (t.setBit F.STL_FOUT_VALUE b.outSel) := by
      simp [F.STL_FOUT_VALUE]
    unfold State.outputAction State.ifReach; dsimp only
    generalize t.setBit F.STL_FOUT_VALUE b.outSel = u at hu ⊢
    repeat' split
    all_goals simp [hu, F.STL_FOUT_VALUE, F.STL_AOUT_VALUE_CODE]) sub (by simp)

@[simp ↓] theorem State.only_standingAct {s t : State} {ps : Set Part} (sub : {.boot, .jobs, .stile, .reg .STL_FOUT, .reg .STL_AOUT_STATUS, .reg .STL_AOUT_VALUE} ∪ Part.read ⊆ ps) (k : s.Only ps t) :
    s.Only ps (t.standingAct) :=
  State.Only.of_sub (by
    unfold State.standingAct; dsimp only; repeat' split
    all_goals
      try simp only [Prod.ext_iff] at *
      try cases_type* And
      subst_vars
      simp (disch := simp (disch := simp [*]) [*]) [*]) sub k

@[simp ↓] theorem State.only_pulseOver {s t : State} {ps : Set Part} {i : ℕ} (sub : {.boot, .reg .STL_FOUT} ⊆ ps) :
    s.Only ps (t.pulseOver i) ↔ s.Only ps t :=
  State.Only.iff (by
    unfold State.pulseOver; simp (disch := simp (disch := simp [F.STL_FOUT_VALUE]) [F.STL_FOUT_VALUE])) sub (by simp)

@[simp ↓] theorem keeps_execStandingTriggerEvent {ps : Set Part} {q : TqIx} (sub : {.reg .TSK_CONV_STATUS, .boot, .stile, .reg .BOOT_SP_STATUS, .reg .STL_TQ_STAT} ∪ Part.read ∪ Part.tusss ⊆ ps) : State.Keeps ps (execStandingTriggerEvent q) :=
  State.Keeps.mono (fun t => by
    exact ⟨_, rfl, by simp⟩) sub

@[simp ↓] theorem keeps_execStandingTimer {ps : Set Part} {b : BitVec 8} (sub : {.reg .TSK_CONV_STATUS, .boot, .reg .BOOT_SP_STATUS} ∪ Part.read ∪ Part.tusss ⊆ ps) : State.Keeps ps (execStandingTimer b) :=
  State.Keeps.mono (fun t => by
    exact ⟨_, rfl, by simp⟩) sub

@[simp ↓] theorem keeps_execStandingOutputAction {ps : Set Part} (sub : {.boot, .jobs, .stile, .reg .STL_FOUT, .reg .STL_AOUT_STATUS, .reg .STL_AOUT_VALUE} ∪ Part.read ⊆ ps) : State.Keeps ps execStandingOutputAction :=
  State.Keeps.mono (fun t => by
    exact ⟨_, rfl, by simp⟩) sub

@[simp ↓] theorem keeps_execPulseEnd {ps : Set Part} {i : Fin 16} (sub : {.boot, .reg .STL_FOUT} ⊆ ps) : State.Keeps ps (execPulseEnd i) :=
  State.Keeps.mono (fun t => by
    exact ⟨_, rfl, by simp⟩) sub

/-! #### Failing and Fallow mode -/

@[simp ↓] theorem State.only_startFail {s t : State} {ps : Set Part} (sub : {.pending}ᶜ ⊆ ps) (k : s.Only ps t) :
    s.Only ps (t.startFail) :=
  State.Only.of_sub (by
    unfold State.startFail; simp [F.BOOT_STATUS_STAGE]) sub k

@[simp ↓] theorem State.only_enterFallow {s t : State} {ps : Set Part} {reason : ℕ} (sub : {.heather, .stile, .irq, .out} ∪ Part.regs ⊆ ps) :
    s.Only ps (t.enterFallow reason) ↔ s.Only ps t :=
  State.Only.iff (by
    unfold State.enterFallow
    simp [F.GLB_FALLOW_REASON_REASON, F.GLB_FALLOW_REASON_FALLOW, F.STL_AOUT_STATUS_CAUSE, F.PCI_LINK_SPEED]) sub (by simp)

/-! #### Stages 1 to 4 -/

@[simp ↓] theorem State.only_startBegin {s t : State} {ps : Set Part} {link : Option (BitVec 3 × BitVec 5 × Bool)} (sub : {.pending}ᶜ ⊆ ps) (k : s.Only ps t) :
    s.Only ps (t.startBegin link) :=
  State.Only.of_sub (by
    unfold State.startBegin; simp [F.PWR_STATUS_LAST_WAKE_SRC, F.BOOT_STATUS_RESET_CAUSE, F.BOOT_STATUS_STAGE, F.GLB_FALLOW_REASON_LAST_STAGE, F.GLB_FALLOW_REASON_ATTEMPTS, F.GLB_FALLOW_REASON_SLOT]) sub k

@[simp ↓] theorem State.only_startBank {s t : State} {ps : Set Part} {flashOk : Bool} {ident : Option (List Byte)} (sub : {.heather, .boot, .reg .BOOT_STATUS, .reg .SEC_STATUS} ⊆ ps) :
    s.Only ps (t.startBank flashOk ident) ↔ s.Only ps t :=
  State.Only.iff (by
    generalize hf : State.startBank = f; delta State.startBank at hf; subst hf
    beta_reduce
    split
    · exact .refl t _
    · have hb : ∀ (v : State) h k, v.Only ({.heather, .boot, .reg .BOOT_STATUS, .reg .SEC_STATUS}) { v with heather := h, boot := k } := fun v h k => by simp
      extract_lets hw bt u
      refine .trans (t := u) ?_ ?_
      · unfold u
        rcases t.bestBank with _ | ⟨i, b⟩
        · exact .refl t _
        · exact .trans (t := t.set F.BOOT_STATUS_BANK i) (by simp [F.BOOT_STATUS_BANK]) (hb _ _ _)
      · clear_value u
        rcases u.identOk ident with _ | key
        · exact .refl u _
        · exact .trans (t := u.set F.SEC_STATUS_ID_READY 1) (by simp [F.SEC_STATUS_ID_READY]) (hb _ _ _)) sub (by simp)

@[simp ↓] theorem State.only_startSlot {s t : State} {ps : Set Part} {flashOk : Bool} (sub : {.heather, .testKey, .boot, .stile, .irq, .out} ∪ Part.regs ⊆ ps) :
    s.Only ps (t.startSlot flashOk) ↔ s.Only ps t :=
  State.Only.iff (by
    generalize hf : State.startSlot = f; delta State.startSlot at hf; subst hf
    beta_reduce
    extract_lets slot u src hw v reason
    have hu : t.Only ({.heather, .testKey, .boot, .stile, .irq, .out} ∪ Part.regs) u := by
      unfold u
      rcases slot with _ | ⟨i, x⟩
      · exact .refl t _
      · simp
    clear_value u
    refine .trans hu ?_
    have hv : u.Only ({.heather, .testKey, .boot, .stile, .irq, .out} ∪ Part.regs) v := by
      unfold v
      split
      · refine .trans (t := src) (by simp [src, F.GLB_FALLOW_REASON_SLOT]) ?_
        clear_value src
        simp
      · exact .refl u _
    clear_value v
    refine .trans hv ?_
    split <;> simp) sub (by simp)

/-! #### Records -/

@[simp ↓] theorem State.only_bootStore {s t : State} {ps : Set Part} {r : RegName} {i : ℕ} {j : ℕ} {v : ℕ} (sub : {.pending}ᶜ ⊆ ps) (k : s.Only ps t) :
    s.Only ps (t.bootStore r i j v) :=
  State.Only.of_sub (by
    unfold State.bootStore; simp) sub k

@[simp ↓] theorem State.only_bootWrite {s t : State} {ps : Set Part} {o : ℕ} {v : ℕ} (sub : {.pending}ᶜ ⊆ ps) (k : s.Only ps t) :
    s.Only ps (t.bootWrite o v) :=
  State.Only.of_sub (by
    unfold State.bootWrite; split <;> simp) sub k

@[simp ↓] theorem State.only_applyPairs {s t : State} {ps : Set Part} {ty : ℕ} {x : List (ℕ × ℕ)} (sub : {.pending}ᶜ ⊆ ps) (k : s.Only ps t) :
    s.Only ps (t.applyPairs ty x).1 :=
  State.Only.of_sub (by
    unfold State.applyPairs
    refine State.only_foldl_fst (fun x p h => ?_) (.refl t _)
    split
    · exact h
    · exact h.trans (by simp)) sub k

@[simp ↓] theorem State.only_applyAll {s t : State} {ps : Set Part} {f : State → BootRec → State × Bool} {rs : List BootRec}
    (sub : {.pending}ᶜ ⊆ ps) (hf : ∀ (u : State) r, u.Only ps (f u r).1) (k : s.Only ps t) : s.Only ps (t.applyAll f rs) := by
  unfold State.applyAll
  extract_lets x
  have hx : t.Only ps x.1 := by
    refine State.only_foldl_fst (fun x r h => ?_) (.refl t _)
    split
    · exact h
    · exact h.trans (hf _ _)
  clear_value x
  refine k.trans (hx.trans ?_)
  split
  · exact State.only_startFail sub (.refl _ _)
  · exact .refl _ _

@[simp ↓] theorem State.only_applySafe {s t : State} {ps : Set Part} {r : BootRec} (sub : {.pending}ᶜ ⊆ ps) (k : s.Only ps t) :
    s.Only ps (t.applySafe r).1 :=
  State.Only.of_sub (by
    unfold State.applySafe; split <;> simp) sub k

@[simp ↓] theorem State.only_applyThermal {s t : State} {ps : Set Part} {r : BootRec} (sub : {.pending}ᶜ ⊆ ps) (k : s.Only ps t) :
    s.Only ps (t.applyThermal r).1 :=
  State.Only.of_sub (by
    unfold State.applyThermal
    all_goals
      refine State.only_foldl (fun u x => ?_) (by simp [*])
    simp [*]) sub k

@[simp ↓] theorem State.only_applyKeys {s t : State} {ps : Set Part} {r : BootRec} (sub : {.pubKeys, .reg .SEC_STATUS} ⊆ ps) :
    s.Only ps (t.applyKeys r).1 ↔ s.Only ps t :=
  State.Only.iff (by
    unfold State.applyKeys; simp [F.SEC_STATUS_KEY_SLOTS]) sub (by simp)

@[simp ↓] theorem State.only_applyGuards {s t : State} {ps : Set Part} {r : BootRec} (sub : {.pending}ᶜ ⊆ ps) (k : s.Only ps t) :
    s.Only ps (t.applyGuards r).1 :=
  State.Only.of_sub (by
    unfold State.applyGuards
    extract_lets es
    split
    · exact .refl t _
    · exact State.only_foldl (fun u x => by simp (disch := simp (disch := simp (disch := simp)))) (.refl t _)) sub k

/-! #### Stages 5 to 8 -/

@[simp ↓] theorem State.only_stage5 {s t : State} {ps : Set Part} (sub : {.pending}ᶜ ⊆ ps) (k : s.Only ps t) :
    s.Only ps (t.stage5) :=
  State.Only.of_sub (by
    unfold State.stage5; simp (disch := simp (disch := simp [F.BOOT_STATUS_SKIPPED]) [F.BOOT_STATUS_SKIPPED]) [F.BOOT_STATUS_SKIPPED]) sub k

@[simp ↓] theorem State.only_stage6 {s t : State} {ps : Set Part} (sub : {.mem, .latent, .reg .PWR_DOMAIN, .reg .TSK_STATE} ∪ Part.event ⊆ ps) (k : s.Only ps t) :
    s.Only ps (t.stage6) :=
  State.Only.of_sub (by
    unfold State.stage6; simp) sub k

@[simp ↓] theorem State.only_stage7 {s t : State} {ps : Set Part} (sub : {.pending}ᶜ ⊆ ps) (k : s.Only ps t) :
    s.Only ps (t.stage7) :=
  State.Only.of_sub (by
    generalize hf : State.stage7 = f; delta State.stage7 at hf; subst hf
    beta_reduce
    extract_lets step u
    have hs : ∀ (v : State) ty, v.Only {.pending}ᶜ (step v ty) := fun v ty => by
      unfold step
      split
      · exact .refl v _
      · split <;> exact State.only_applyAll subset_rfl (fun u r => by simp) (.refl v _)
    have hu : t.Only {.pending}ᶜ u := State.only_foldl hs (by simp [F.BOOT_STATUS_READY])
    clear_value u
    refine .trans hu ?_
    split <;> simp [F.BOOT_STATUS_READY]) sub k

@[simp ↓] theorem State.only_stage8 {s t : State} {ps : Set Part} (sub : {.reg .PWR_DOMAIN, .reg .TSK_STATE} ∪ Part.event ⊆ ps) :
    s.Only ps (t.stage8) ↔ s.Only ps t :=
  State.Only.iff (by
    unfold State.stage8; simp) sub (by simp)

/-! #### Stage 9 -/

@[simp ↓] theorem State.only_firmwareReenable {s t : State} {ps : Set Part} {g : ℕ} (sub : {.tuss g, .reg .TSK_QUAR_CAUSE, .reg .TSK_STATE, .reg .TSK_CTRL_STATUS, .reg .TSK_CLK_STATUS} ⊆ ps) :
    s.Only ps (t.firmwareReenable g) ↔ s.Only ps t :=
  State.Only.iff (by
    unfold State.firmwareReenable; simp [F.TSK_CLK_STATUS_LOCKED]) sub (by simp)

@[simp ↓] theorem State.only_startPackage {s t : State} {ps : Set Part} {fa : ℕ} {len : ℕ} {ctx : ℕ} {dest : ℕ} (sub : {.mem, .images, .jobs, .irq, .out, .flits, .latent, .chans, .loads, .free, .ctxs} ∪ Part.tusss ∪ Part.regs ⊆ ps) (k : s.Only ps t) :
    s.Only ps (t.startPackage fa len ctx dest).1 :=
  State.Only.of_sub (by
    change t.OnlyFst _ _
    generalize hf : State.startPackage = f; delta State.startPackage at hf; subst hf
    beta_reduce
    extract_lets n x reject stripes
    have hj : ∀ (u : State) r, u.OnlyFst ({.mem, .images, .jobs, .irq, .out, .flits, .latent, .chans, .loads, .free, .ctxs} ∪ Part.tusss ∪ Part.regs) (reject u r) := fun u r => by
      change u.Only _ _
      simp [reject, F.CHN_LD_STATUS_REASON, F.CHN_LD_STATUS_REJECT, F.CHN_LD_PKG_REJECTED]
    clear_value reject
    split
    · exact hj t 7
    split
    · exact hj t 7
    have h : t.Only ({.mem, .images, .jobs, .irq, .out, .flits, .latent, .chans, .loads, .free, .ctxs} ∪ Part.tusss ∪ Part.regs) (t.clearMagic n 0 0 dest).1 := by simp
    revert h
    rcases t.clearMagic n 0 0 dest with ⟨u, _ | _⟩
    · exact id
    refine fun h => h.trans (?_ : u.OnlyFst _ _)
    dsimp -zeta only
    split
    · exact hj u 1
    generalize u.pubKeys.find? _ = found
    rcases found with _ | ⟨k, key⟩
    · exact hj u 2
    dsimp -zeta only
    rcases x.buildPkg 0 len dest ctx with ⟨a, r⟩ | b
    · exact hj u r
    dsimp -zeta only
    extract_lets load v y
    refine State.Only.trans (t := v) (by simp [v]) (?_ : v.OnlyFst _ _)
    have hk : ∀ q, v.Only ({.mem, .images, .jobs, .irq, .out, .flits, .latent, .chans, .loads, .free, .ctxs} ∪ Part.tusss ∪ Part.regs) (v.judge q).1 := fun q => by simp
    split
    · exact (hk _).trans (hj _ 3)
    refine State.Only.trans (t := y) (by simp [y, F.CHN_LD_PKG_ACCEPTED]) (?_ : y.OnlyFst _ _)
    clear_value y
    rcases y.postReason ctx dest 0x4D494C4F with _ | r
    · change y.Only _ _
      simp
    · change y.Only _ _
      simp [F.GLB_CTX_EVENTS_REFUSED_CNT, F.GLB_CTX_EVENTS_LAST_REASON]) sub k

@[simp ↓] theorem State.only_applyPackages {s t : State} {ps : Set Part} {r : BootRec} (sub : {.boot, .mem, .images, .jobs, .irq, .out, .flits, .latent, .chans, .loads, .free, .ctxs} ∪ Part.tusss ∪ Part.regs ⊆ ps) (k : s.Only ps t) :
    s.Only ps (t.applyPackages r).1 :=
  State.Only.of_sub (by
    unfold State.applyPackages; simp) sub k

@[simp ↓] theorem State.only_stage9 {s t : State} {ps : Set Part} (sub : {.pending}ᶜ ⊆ ps) (k : s.Only ps t) :
    s.Only ps (t.stage9) :=
  State.Only.of_sub (by
    unfold State.stage9
    extract_lets u
    refine .trans (t := u) (by simp [u]) ?_
    clear_value u
    split <;> simp) sub k

/-! #### Stage 10 -/

@[simp ↓] theorem State.only_applyStanding {s t : State} {ps : Set Part} {r : BootRec} (sub : {.boot, .reg .BOOT_SP_STATUS} ⊆ ps) :
    s.Only ps (t.applyStanding r).1 ↔ s.Only ps t :=
  State.Only.iff (by
    unfold State.applyStanding; dsimp only; repeat' split
    all_goals
      try simp only at *
      try cases_type* And
      simp (disch := simp (disch := simp [F.BOOT_SP_STATUS_BINDINGS, *]) [F.BOOT_SP_STATUS_BINDINGS, *]) [*]) sub (by simp)

@[simp ↓] theorem State.only_journalTrim {s t : State} {ps : Set Part} (sub : {.flash} ⊆ ps) :
    s.Only ps (t.journalTrim) ↔ s.Only ps t :=
  State.Only.iff (by
    unfold State.journalTrim; simp) sub (by simp)

@[simp ↓] theorem State.only_reportTrip {s t : State} {ps : Set Part} (sub : {.heather, .flash, .reg .THM_TRIP_REC, .reg .THM_STATUS} ∪ Part.event ⊆ ps) :
    s.Only ps (t.reportTrip) ↔ s.Only ps t :=
  State.Only.iff (by
    unfold State.reportTrip; dsimp only; repeat' split
    all_goals simp [F.THM_TRIP_REC_RECORD, F.THM_STATUS_TRIP_SEEN, F.THM_STATUS_JOURNAL_BAD, F.THM_STATUS_JOURNAL_FULL, *]) sub (by simp)

@[simp ↓] theorem State.only_stage10 {s t : State} {ps : Set Part} (sub : {.pending}ᶜ ⊆ ps) (k : s.Only ps t) :
    s.Only ps (t.stage10) :=
  State.Only.of_sub (by
    unfold State.stage10
    simp [F.BOOT_STATUS_READY]) sub k

/-! #### The sequence -/

@[simp ↓] theorem State.only_stage {s t : State} {ps : Set Part} {k₀ : ℕ} {flashOk : Bool} {ident : Option (List Byte)} (sub : {.pending}ᶜ ⊆ ps) (k : s.Only ps t) :
    s.Only ps (t.stage k₀ flashOk ident) :=
  State.Only.of_sub (by
    unfold State.stage; split <;> simp) sub k

@[simp ↓] theorem State.only_runStages {s t : State} {ps : Set Part} {flashOk : Bool} {ident : Option (List Byte)} {hang : Option ℕ} {ks : List ℕ} (sub : {.pending}ᶜ ⊆ ps) (k : s.Only ps t) :
    s.Only ps (t.runStages flashOk ident hang ks) :=
  State.Only.of_sub (by
    unfold State.runStages; simp [F.BOOT_STATUS_STAGE]) sub k

@[simp ↓] theorem State.only_timeIs {s t : State} {ps : Set Part} {t₀ : ℕ} (sub : {.time} ⊆ ps) :
    s.Only ps (t.timeIs t₀) ↔ s.Only ps t :=
  State.Only.iff (by
    unfold State.timeIs; simp) sub (by simp)

@[simp ↓] theorem State.only_start {s t : State} {ps : Set Part} {flashOk : Bool} {ident : Option (List Byte)} {link : Option (BitVec 3 × BitVec 5 × Bool)} {hang : Option ℕ} {t₀ : ℕ} (sub : {.pending}ᶜ ⊆ ps) (k : s.Only ps t) :
    s.Only ps (t.start flashOk ident link hang t₀) :=
  State.Only.of_sub (by
    unfold State.start; simp) sub k

@[simp ↓] theorem State.only_recheck {s t : State} {ps : Set Part} {xs : List (ℕ × ℤ)} {hang : Option ℕ} {t₀ : ℕ} (sub : {.pending}ᶜ ⊆ ps) (k : s.Only ps t) :
    s.Only ps (t.recheck xs hang t₀) :=
  State.Only.of_sub (by
    unfold State.recheck; simp [F.BOOT_STATUS_STAGE, F.THM_RATE_RESTART]) sub k

/-! #### Deep sleep -/

@[simp ↓] theorem State.only_deepWake {s t : State} {ps : Set Part} {ticks : ℕ} (sub : {.pending}ᶜ ⊆ ps) (k : s.Only ps t) :
    s.Only ps (t.deepWake ticks) :=
  State.Only.of_sub (by
    generalize hf : State.deepWake = f; delta State.deepWake at hf; subst hf
    beta_reduce
    rcases t.waking with _ | ⟨b, k⟩
    · exact .refl t _
    rcases t.heather.save with _ | save
    · exact .refl t _
    dsimp -zeta only
    extract_lets n hw u v w x y z a
    refine .trans (t := u) (by simp [u]) ?_
    clear_value u
    refine .trans (t := v) (by simp [v]) ?_
    clear_value v
    refine .trans (t := w) (by simp [w]) ?_
    clear_value w
    refine .trans (t := x) (by simp [x]) ?_
    clear_value x
    refine .trans (t := y) (State.only_foldl (fun u r => by simp) (.refl _ _)) ?_
    clear_value y
    refine .trans (t := z) (State.only_foldl (fun u r => by simp) (.refl _ _)) ?_
    clear_value z
    refine .trans (t := a) (State.only_foldl (fun u r => by split <;> simp) (.refl _ _)) ?_
    clear_value a
    simp) sub k

@[simp ↓] theorem State.only_bringUp {s t : State} {ps : Set Part} {q : ℕ} (sub : {.reg .TSK_QUAR_CAUSE, .reg .TSK_STATE, .reg .TSK_CTRL_STATUS, .reg .TSK_CLK_STATUS, .reg .PWR_DOMAIN} ∪ Part.event ∪ Part.tusss ⊆ ps) :
    s.Only ps (t.bringUp q) ↔ s.Only ps t :=
  State.Only.iff (by
    unfold State.bringUp; simp [F.BOOT_STATUS_READY, F.PWR_STATUS_STATE]) sub (by simp)

/-! #### The commands -/

@[simp ↓] theorem keeps_execStart {ps : Set Part} {flashOk : Bool} {ident : Option (List Byte)} {link : Option (BitVec 3 × BitVec 5 × Bool)} {hang : Option (BitVec 4)} {time : BitVec 64} (sub : {.pending}ᶜ ⊆ ps) : State.Keeps ps (execStart flashOk ident link hang time) :=
  State.Keeps.mono (fun t => by
    exact ⟨_, rfl, by simp⟩) sub

@[simp ↓] theorem keeps_execRestartRecheck {ps : Set Part} {xs : List (Fin 160 × ℤ)} {hang : Option (BitVec 4)} {time : BitVec 64} (sub : {.pending}ᶜ ⊆ ps) : State.Keeps ps (execRestartRecheck xs hang time) :=
  State.Keeps.mono (fun t => by
    exact ⟨_, rfl, by simp⟩) sub

@[simp ↓] theorem keeps_execStateRunAfterWake {ps : Set Part} {ticks : BitVec 64} (sub : {.pending}ᶜ ⊆ ps) : State.Keeps ps (execStateRunAfterWake ticks) :=
  State.Keeps.mono (fun t => by
    refine ⟨_, rfl, ?_⟩
    repeat' split
    all_goals simp (disch := simp (disch := simp [F.PWR_STATUS_STATE]) [F.PWR_STATUS_STATE])) sub

@[simp ↓] theorem keeps_execQuarterBringup {ps : Set Part} {q : BitVec 4} (sub : {.reg .TSK_QUAR_CAUSE, .reg .TSK_STATE, .reg .TSK_CTRL_STATUS, .reg .TSK_CLK_STATUS, .reg .PWR_DOMAIN} ∪ Part.event ∪ Part.tusss ⊆ ps) : State.Keeps ps (execQuarterBringup q) :=
  State.Keeps.mono (fun t => by
    exact ⟨_, rfl, by simp⟩) sub

/-! #### The swath boundary -/

@[simp ↓] theorem State.only_stileCompare {s t : State} {ps : Set Part} {drift : ℤ} (sub : {.stile, .reg .GLB_ERR_STATUS} ∪ Part.event ⊆ ps) :
    s.Only ps (t.stileCompare drift) ↔ s.Only ps t :=
  State.Only.iff (by
    unfold State.stileCompare; split <;> simp) sub (by simp)

@[simp ↓] theorem State.only_arise {s t : State} {ps : Set Part} {flips : List (ℕ × Ecc)} {flits : List (ℕ × Ecc)} (sub : {.latent, .flits} ⊆ ps) :
    s.Only ps (t.arise flips flits) ↔ s.Only ps t :=
  State.Only.iff (by
    unfold State.arise; simp) sub (by simp)

@[simp ↓] theorem State.only_stileReload {s t : State} {ps : Set Part} (sub : {.stile} ⊆ ps) :
    s.Only ps (t.stileReload) ↔ s.Only ps t :=
  State.Only.iff (by
    unfold State.stileReload; simp) sub (by simp)

@[simp ↓] theorem State.only_ctxDue {s t : State} {ps : Set Part} {c : ℕ} (sub : {.images, .latent, .chans, .mem, .out, .flits, .free, .ctxs, .leas, .irq, .engines, .boot, .jobs, .areas, .prods, .commits, .provs} ∪ Part.tusss ∪ Part.regs ⊆ ps) (k : s.Only ps t) :
    s.Only ps (t.ctxDue c) :=
  State.Only.of_sub (by
    unfold State.ctxDue; simp (disch := simp (disch := simp))) sub k

@[simp ↓] theorem State.only_ctxEnds {s t : State} {ps : Set Part} {c : ℕ} (sub : {.ctxs, .reg .GLB_CTX_STATE} ⊆ ps) :
    s.Only ps (t.ctxEnds c) ↔ s.Only ps t :=
  State.Only.iff (by
    unfold State.ctxEnds; simp) sub (by simp)

@[simp ↓] theorem State.only_stackDue {s t : State} {ps : Set Part} {n : ℕ} (sub : {.engines, .boot, .irq, .mem, .out, .flits, .latent, .chans, .leas, .jobs, .areas, .prods, .commits, .provs, .flight, .host, .leaFaults, .chainRefs, .mgmt, .verifs, .fractionOld, .fractionAt, .ctxs, .sensors, .entry, .quarters, .stile, .t3, .loads, .tests} ∪ Part.tusss ∪ Part.regs ⊆ ps) (k : s.Only ps t) :
    s.Only ps (t.stackDue n) :=
  State.Only.of_sub (by
    unfold State.stackDue; simp) sub k

@[simp ↓] theorem State.only_closeSwath {s t : State} {ps : Set Part} (sub : {.loads, .flits, .mem, .latent, .out, .verifs, .tests, .irq, .jobs, .images, .chans, .free, .ctxs, .boot, .areas, .prods, .commits, .provs, .leas, .engines, .flight, .host, .leaFaults, .chainRefs, .mgmt, .fractionOld, .fractionAt, .sensors, .entry, .quarters, .stile, .t3} ∪ Part.tusss ∪ Part.regs ⊆ ps) (k : s.Only ps t) :
    s.Only ps (t.closeSwath) :=
  State.Only.of_sub (by
    generalize hf : State.closeSwath = f; delta State.closeSwath at hf; subst hf
    beta_reduce
    extract_lets u1 u2 u3 u4 u5 u6 u7 u8
    refine .trans (t := u1) (by simp [u1]) ?_
    clear_value u1
    refine .trans (t := u2) (State.only_foldl (fun u x => by simp) (.refl _ _)) ?_
    clear_value u2
    refine .trans (t := u3) (State.only_foldl (fun u x => by simp) (.refl _ _)) ?_
    clear_value u3
    refine .trans (t := u4) (State.only_foldl (fun u x => by simp) (.refl _ _)) ?_
    clear_value u4
    refine .trans (t := u5) (by simp [u5]) ?_
    clear_value u5
    refine .trans (t := u6) (State.only_foldl (fun u x => by simp (disch := simp)) (.refl _ _)) ?_
    clear_value u6
    refine .trans (t := u7) (by simp [u7]) ?_
    clear_value u7
    refine .trans (t := u8) (State.only_foldl (fun u x => by split <;> simp [F.TSK_STATE_STATE]) (.refl _ _)) ?_
    clear_value u8
    simp) sub k

@[simp ↓] theorem State.only_admitted {s t : State} {ps : Set Part} (sub : {.free, .boot, .irq, .chans, .mem, .out, .flits, .latent, .engines, .jobs, .nextJob, .fresh, .ctxs} ∪ Part.tusss ∪ Part.regs ⊆ ps) (k : s.Only ps t) :
    s.Only ps (t.admitted) :=
  State.Only.of_sub (by
    unfold State.admitted; simp) sub k

@[simp ↓] theorem State.only_boundary {s t : State} {ps : Set Part} {drift : ℤ} {flips : List (ℕ × Ecc)} {flits : List (ℕ × Ecc)} (sub : {.time, .irq, .fresh, .loads, .flits, .mem, .latent, .out, .verifs, .tests, .jobs, .images, .chans, .free, .ctxs, .boot, .areas, .prods, .commits, .provs, .leas, .engines, .flight, .host, .leaFaults, .chainRefs, .mgmt, .fractionOld, .fractionAt, .sensors, .entry, .quarters, .stile, .t3, .nextJob} ∪ Part.tusss ∪ Part.regs ⊆ ps) (k : s.Only ps t) :
    s.Only ps (t.boundary drift flips flits) :=
  State.Only.of_sub (by
    have hc : ∀ t : State, t.Only ({.time, .irq, .fresh, .loads, .flits, .mem, .latent, .out, .verifs, .tests, .jobs, .images, .chans, .free, .ctxs, .boot, .areas, .prods, .commits, .provs, .leas, .engines, .flight, .host, .leaFaults, .chainRefs, .mgmt, .fractionOld, .fractionAt, .sensors, .entry, .quarters, .stile, .t3, .nextJob} ∪ Part.tusss ∪ Part.regs) t.admitted.closeSwath := fun t => by simp (disch := simp)
    have ha : ∀ (t : State) w v, t.Only ({.time, .irq, .fresh, .loads, .flits, .mem, .latent, .out, .verifs, .tests, .jobs, .images, .chans, .free, .ctxs, .boot, .areas, .prods, .commits, .provs, .leas, .engines, .flight, .host, .leaFaults, .chainRefs, .mgmt, .fractionOld, .fractionAt, .sensors, .entry, .quarters, .stile, .t3, .nextJob} ∪ Part.tusss ∪ Part.regs) (((t.expire w).releaseEnded v).arise flips flits) := fun t w v => by
      simp (disch := simp (disch := simp))
    have he : ∀ (t : State) n, t.Only ({.time, .irq, .fresh, .loads, .flits, .mem, .latent, .out, .verifs, .tests, .jobs, .images, .chans, .free, .ctxs, .boot, .areas, .prods, .commits, .provs, .leas, .engines, .flight, .host, .leaFaults, .chainRefs, .mgmt, .fractionOld, .fractionAt, .sensors, .entry, .quarters, .stile, .t3, .nextJob} ∪ Part.tusss ∪ Part.regs) (t.ctxEnds n) := fun t n => by simp
    have hn : ∀ (t : State) n, t.Only ({.time, .irq, .fresh, .loads, .flits, .mem, .latent, .out, .verifs, .tests, .jobs, .images, .chans, .free, .ctxs, .boot, .areas, .prods, .commits, .provs, .leas, .engines, .flight, .host, .leaFaults, .chainRefs, .mgmt, .fractionOld, .fractionAt, .sensors, .entry, .quarters, .stile, .t3, .nextJob} ∪ Part.tusss ∪ Part.regs) (t.boundaryChan n) := fun t n => by simp
    have hb : ∀ t : State, t.Only ({.time, .irq, .fresh, .loads, .flits, .mem, .latent, .out, .verifs, .tests, .jobs, .images, .chans, .free, .ctxs, .boot, .areas, .prods, .commits, .provs, .leas, .engines, .flight, .host, .leaFaults, .chainRefs, .mgmt, .fractionOld, .fractionAt, .sensors, .entry, .quarters, .stile, .t3, .nextJob} ∪ Part.tusss ∪ Part.regs) ((t.boundaryAbort).stileCompare drift).readBoxes := fun t => by
      simp (disch := simp (disch := simp))
    have hl : ∀ t : State, t.Only ({.time, .irq, .fresh, .loads, .flits, .mem, .latent, .out, .verifs, .tests, .jobs, .images, .chans, .free, .ctxs, .boot, .areas, .prods, .commits, .provs, .leas, .engines, .flight, .host, .leaFaults, .chainRefs, .mgmt, .fractionOld, .fractionAt, .sensors, .entry, .quarters, .stile, .t3, .nextJob} ∪ Part.tusss ∪ Part.regs) t.level := fun t => by simp
    have ht : ∀ (t : State) n q, t.Only ({.time, .irq, .fresh, .loads, .flits, .mem, .latent, .out, .verifs, .tests, .jobs, .images, .chans, .free, .ctxs, .boot, .areas, .prods, .commits, .provs, .leas, .engines, .flight, .host, .leaFaults, .chainRefs, .mgmt, .fractionOld, .fractionAt, .sensors, .entry, .quarters, .stile, .t3, .nextJob} ∪ Part.tusss ∪ Part.regs) { t with time := n, irq := q } := fun t n q => by simp
    have hf : ∀ t : State, t.Only ({.time, .irq, .fresh, .loads, .flits, .mem, .latent, .out, .verifs, .tests, .jobs, .images, .chans, .free, .ctxs, .boot, .areas, .prods, .commits, .provs, .leas, .engines, .flight, .host, .leaFaults, .chainRefs, .mgmt, .fractionOld, .fractionAt, .sensors, .entry, .quarters, .stile, .t3, .nextJob} ∪ Part.tusss ∪ Part.regs) { t with fresh := true } := fun t => by simp
    generalize hg : State.boundary = f; delta State.boundary at hg; subst hg
    generalize State.closeSwath = close at hc ⊢
    generalize State.arise = arise at ha ⊢
    generalize State.ctxEnds = ctxEnds at he ⊢
    generalize State.boundaryChan = boundaryChan at hn ⊢
    generalize State.readBoxes = readBoxes at hb ⊢
    generalize State.level = level at hl ⊢
    generalize State.swath = swath
    beta_reduce
    split
    · exact .refl t _
    extract_lets u1 iq u2 u3 u4 u5 u6
    refine .trans (t := u1) (hc t) ?_
    refine .trans (t := u2) (ht u1 _ _) ?_
    refine .trans (t := u3) (ha u2 _ _) ?_
    refine .trans (t := u4) (State.only_foldl he (.refl _ _)) ?_
    refine .trans (t := u5) (State.only_foldl hn (.refl _ _)) ?_
    refine .trans (t := u6) (hb u5) ?_
    exact .trans (hf u6) (hl _)) sub k

@[simp ↓] theorem State.only_tick {s t : State} {ps : Set Part} (sub : {.time, .free, .boot, .irq, .chans, .mem, .out, .flits, .latent, .engines, .jobs, .nextJob, .fresh, .ctxs} ∪ Part.tusss ∪ Part.regs ⊆ ps) (k : s.Only ps t) :
    s.Only ps (t.tick) :=
  State.Only.of_sub (by
    unfold State.tick; simp) sub k

@[simp ↓] theorem keeps_execSwathBoundary {ps : Set Part} {drift : ℤ} {flips : List (BitVec 48 × Ecc)} {flits : List (Fin 20 × Ecc)} (sub : {.time, .irq, .fresh, .loads, .flits, .mem, .latent, .out, .verifs, .tests, .jobs, .images, .chans, .free, .ctxs, .boot, .areas, .prods, .commits, .provs, .leas, .engines, .flight, .host, .leaFaults, .chainRefs, .mgmt, .fractionOld, .fractionAt, .sensors, .entry, .quarters, .stile, .t3, .nextJob} ∪ Part.tusss ∪ Part.regs ⊆ ps) : State.Keeps ps (execSwathBoundary drift flips flits) :=
  State.Keeps.mono (fun t => by
    exact ⟨_, rfl, by simp⟩) sub

@[simp ↓] theorem keeps_execStileTimeReload {ps : Set Part} (sub : {.stile} ⊆ ps) : State.Keeps ps execStileTimeReload :=
  State.Keeps.mono (fun t => by
    exact ⟨_, rfl, by simp⟩) sub

/-! #### A late marker -/

@[simp ↓] theorem State.only_countLate {s t : State} {ps : Set Part} {g : ℕ} {w : ℕ} (sub : {.genSets, .mem, .tuss g, .reg .TSK_CLK_STATUS, .reg .BRK_ARR_CAL, .reg .BRK_STATUS, .reg .BRK_DEFER, .reg .BRK_CAL_CNT, .reg .TSK_ARR_STATE, .reg .CHN_ADM_BUDGET} ⊆ ps) (k : s.Only ps t) :
    s.Only ps (t.countLate g w) :=
  State.Only.of_sub (by
    unfold State.countLate; simp [F.TSK_CLK_STATUS_MARKER_LATE, F.TSK_CLK_STATUS_LATE_CNT]) sub k

/-! #### A swath marker -/

@[simp ↓] theorem State.only_openOnTime {s t : State} {ps : Set Part} {g : ℕ} {w : ℕ} (sub : {.genSets, .mem, .tuss g, .reg .BRK_ARR_CAL, .reg .BRK_STATUS, .reg .BRK_DEFER, .reg .BRK_CAL_CNT, .reg .TSK_ARR_STATE, .reg .CHN_ADM_BUDGET} ⊆ ps) (k : s.Only ps t) :
    s.Only ps (t.openOnTime g w) :=
  State.Only.of_sub (by
    unfold State.openOnTime; simp) sub k

/-! #### A lost lock -/

@[simp ↓] theorem State.only_loseLock {s t : State} {ps : Set Part} {g : ℕ} (sub : {.reg .TSK_CLK_STATUS} ⊆ ps) :
    s.Only ps (t.loseLock g) ↔ s.Only ps t :=
  State.Only.iff (by
    unfold State.loseLock; simp [F.TSK_CLK_STATUS_LOCKED, F.TSK_CLK_STATUS_LOCK_LOST]) sub (by simp)

end Sys2Proof.Machine

/-! ### What a command changes

Every command keeps its footprint (above), and no footprint holds the queue of commands. -/

namespace Sys2Proof.Machine
open Sys2Proof

/-- Each command leaves the queue, and canonical memory canonical. -/
theorem exec_only (c : Instr) (t : State) : ∃ u, exec c t = .next u ∧ t.Only {.pending}ᶜ u := by
  cases c with
  | swathBoundary => exact keeps_execSwathBoundary (by simp) t
  | stileTimeReload => exact keeps_execStileTimeReload (by simp) t
  | taskIssue => exact keeps_execTaskIssue (by simp) t
  | jobTimeout => exact keeps_execJobTimeout (by simp) t
  | completionRecordWrite => exact keeps_execCompletionRecordWrite (by simp) t
  | swathMarker => exact keeps_execSwathMarker (by simp) t
  | markerLate => exact keeps_execMarkerLate (by simp) t
  | tussockLockLoss => exact keeps_execTussockLockLoss (by simp) t
  | tileTaskEnqueue => exact keeps_execTileTaskEnqueue (by simp) t
  | eval => exact keeps_execEval (by simp) t
  | phaseB => exact keeps_execPhaseB (by simp) t
  | shadow => exact keeps_execShadow (by simp) t
  | matmul => exact keeps_execMatmul (by simp) t
  | vector => exact keeps_execVector (by simp) t
  | conversion => exact keeps_execConversion (by simp) t
  | lookup => exact keeps_execLookup (by simp) t
  | tableEccWriteback => exact keeps_execTableEccWriteback (by simp) t
  | partialSumDelivery => exact keeps_execPartialSumDelivery (by simp) t
  | recomputeRerun => exact keeps_execRecomputeRerun (by simp) t
  | restoreSlot => exact keeps_execRestoreSlot (by simp) t
  | rowWrite => exact keeps_execRowWrite (by simp) t
  | checkSlot => exact keeps_execCheckSlot (by simp) t
  | checkComparison => exact keeps_execCheckComparison (by simp) t
  | arbitrationStart => exact keeps_execArbitrationStart (by simp) t
  | arbitrationDecide => exact keeps_execArbitrationDecide (by simp) t
  | checksumRefreshEnd => exact keeps_execChecksumRefreshEnd (by simp) t
  | repairWritesPlace => exact keeps_execRepairWritesPlace (by simp) t
  | repairRerun => exact keeps_execRepairRerun (by simp) t
  | tileReprogramming => exact keeps_execTileReprogramming (by simp) t
  | tokenDecision => exact keeps_execTokenDecision (by simp) t
  | provEntryTimeout => exact keeps_execProvEntryTimeout (by simp) t
  | digestSend => exact keeps_execDigestSend (by simp) t
  | replicaDecision => exact keeps_execReplicaDecision (by simp) t
  | readmit => exact keeps_execReadmit (by simp) t
  | testVector => exact keeps_execTestVector (by simp) t
  | fractionWrite => exact keeps_execFractionWrite (by simp) t
  | fractionChangeEffect => exact keeps_execFractionChangeEffect (by simp) t
  | horizonWrite => exact keeps_execHorizonWrite (by simp) t
  | grsClrCnt => exact keeps_execGrsClrCnt (by simp) t
  | grsClrPeak => exact keeps_execGrsClrPeak (by simp) t
  | slotExchange => exact keeps_execSlotExchange (by simp) t
  | quarantine => exact keeps_execQuarantine (by simp) t
  | tskQuarantineWrite => exact keeps_execTskQuarantineWrite (by simp) t
  | tskReenable => exact keeps_execTskReenable (by simp) t
  | reenableService => exact keeps_execReenableService (by simp) t
  | tskClrSeq => exact keeps_execTskClrSeq (by simp) t
  | bankClrEcc => exact keeps_execBankClrEcc (by simp) t
  | arrClrCnt => exact keeps_execArrClrCnt (by simp) t
  | convCfgWrite => exact keeps_execConvCfgWrite (by simp) t
  | convClrSat => exact keeps_execConvClrSat (by simp) t
  | tableClrEcc => exact keeps_execTableClrEcc (by simp) t
  | passStart => exact keeps_execPassStart (by simp) t
  | windowStage => exact keeps_execWindowStage (by simp) t
  | windowEnd => exact keeps_execWindowEnd (by simp) t
  | abandonReturnValid => exact keeps_execAbandonReturnValid (by simp) t
  | refgenApply => exact keeps_execRefgenApply (by simp) t
  | bringupCalibration => exact keeps_execBringupCalibration (by simp) t
  | brkStartPass => exact keeps_execBrkStartPass (by simp) t
  | brkAbort => exact keeps_execBrkAbort (by simp) t
  | brkClrCnt => exact keeps_execBrkClrCnt (by simp) t
  | trimDataRead => exact keeps_execTrimDataRead (by simp) t
  | trimDataWrite => exact keeps_execTrimDataWrite (by simp) t
  | blockArrive => exact keeps_execBlockArrive (by simp) t
  | pcieInboundWrite => exact keeps_execPcieInboundWrite (by simp) t
  | pcieInboundRead => exact keeps_execPcieInboundRead (by simp) t
  | t3ReadCompletion => exact keeps_execT3ReadCompletion (by simp) t
  | rgnFaultClear => exact keeps_execRgnFaultClear (by simp) t
  | bar2BaseWrite => exact keeps_execBar2BaseWrite (by simp) t
  | t3LateClr => exact keeps_execT3LateClr (by simp) t
  | hdgErrClr => exact keeps_execHdgErrClr (by simp) t
  | stkErrClr => exact keeps_execStkErrClr (by simp) t
  | ingressStall => exact keeps_execIngressStall (by simp) t
  | ingStallClr => exact keeps_execIngStallClr (by simp) t
  | admClrCnt => exact keeps_execAdmClrCnt (by simp) t
  | admClrPeak => exact keeps_execAdmClrPeak (by simp) t
  | job => exact keeps_execJob (by simp) t
  | nop => exact keeps_execNop (by simp) t
  | tasks => exact keeps_execTasks (by simp) t
  | copy => exact keeps_execCopy (by simp) t
  | awrite => exact keeps_execAwrite (by simp) t
  | loadpkg => exact keeps_execLoadpkg (by simp) t
  | ctxptr => exact keeps_execCtxptr (by simp) t
  | testpat => exact keeps_execTestpat (by simp) t
  | digest => exact keeps_execDigest (by simp) t
  | engCfgWrite => exact keeps_execEngCfgWrite (by simp) t
  | engEnable => exact keeps_execEngEnable (by simp) t
  | engDisable => exact keeps_execEngDisable (by simp) t
  | msixMessage => exact keeps_execMsixMessage (by simp) t
  | msixUnmask => exact keeps_execMsixUnmask (by simp) t
  | k1Run => exact keeps_execK1Run (by simp) t
  | k1Copy => exact keeps_execK1Copy (by simp) t
  | k1Load => exact keeps_execK1Load (by simp) t
  | k1Fence => exact keeps_execK1Fence (by simp) t
  | k1FenceClear => exact keeps_execK1FenceClear (by simp) t
  | k1Intr => exact keeps_execK1Intr (by simp) t
  | k1Nop => exact keeps_execK1Nop (by simp) t
  | signatureVerify => exact keeps_execSignatureVerify (by simp) t
  | manifestWrite => exact keeps_execManifestWrite (by simp) t
  | contextChangeEffect => exact keeps_execContextChangeEffect (by simp) t
  | replacingEnd => exact keeps_execReplacingEnd (by simp) t
  | oldBusyClear => exact keeps_execOldBusyClear (by simp) t
  | unloadEmpty => exact keeps_execUnloadEmpty (by simp) t
  | ctxEventsClr => exact keeps_execCtxEventsClr (by simp) t
  | ldClr => exact keeps_execLdClr (by simp) t
  | distStatClr => exact keeps_execDistStatClr (by simp) t
  | leaEnable => exact keeps_execLeaEnable (by simp) t
  | leaDisable => exact keeps_execLeaDisable (by simp) t
  | leaRetrain => exact keeps_execLeaRetrain (by simp) t
  | leaTrainDone => exact keeps_execLeaTrainDone (by simp) t
  | leaAlignDone => exact keeps_execLeaAlignDone (by simp) t
  | leaAttemptFail => exact keeps_execLeaAttemptFail (by simp) t
  | leaTrainFrame => exact keeps_execLeaTrainFrame (by simp) t
  | leaLockLoss => exact keeps_execLeaLockLoss (by simp) t
  | leaBreakEnd => exact keeps_execLeaBreakEnd (by simp) t
  | leaFrameSlot => exact keeps_execLeaFrameSlot (by simp) t
  | leaDataFrame => exact keeps_execLeaDataFrame (by simp) t
  | leaIdleFrame => exact keeps_execLeaIdleFrame (by simp) t
  | leaBadFrame => exact keeps_execLeaBadFrame (by simp) t
  | leaNak => exact keeps_execLeaNak (by simp) t
  | leaReplayTimeout => exact keeps_execLeaReplayTimeout (by simp) t
  | retryExhausted => exact keeps_execRetryExhausted (by simp) t
  | creditStall => exact keeps_execCreditStall (by simp) t
  | confirm => exact keeps_execConfirm (by simp) t
  | retract => exact keeps_execRetract (by simp) t
  | committed => exact keeps_execCommitted (by simp) t
  | digestMessage => exact keeps_execDigestMessage (by simp) t
  | addrFault => exact keeps_execAddrFault (by simp) t
  | leaPortStatClr => exact keeps_execLeaPortStatClr (by simp) t
  | leaCtrlStatClr => exact keeps_execLeaCtrlStatClr (by simp) t
  | finEdge => exact keeps_execFinEdge (by simp) t
  | finStuck => exact keeps_execFinStuck (by simp) t
  | finStuckEnd => exact keeps_execFinStuckEnd (by simp) t
  | encTransition => exact keeps_execEncTransition (by simp) t
  | encPosWrite => exact keeps_execEncPosWrite (by simp) t
  | tqPop => exact keeps_execTqPop (by simp) t
  | tqFlush => exact keeps_execTqFlush (by simp) t
  | tqWatermarkWrite => exact keeps_execTqWatermarkWrite (by simp) t
  | tqCopyMismatch => exact keeps_execTqCopyMismatch (by simp) t
  | finStatClr => exact keeps_execFinStatClr (by simp) t
  | encClr => exact keeps_execEncClr (by simp) t
  | tqCntClr => exact keeps_execTqCntClr (by simp) t
  | ainModeWrite => exact keeps_execAinModeWrite (by simp) t
  | ainConfigWrite => exact keeps_execAinConfigWrite (by simp) t
  | ainStart => exact keeps_execAinStart (by simp) t
  | ainInjGo => exact keeps_execAinInjGo (by simp) t
  | ainCalZero => exact keeps_execAinCalZero (by simp) t
  | ainCalGain => exact keeps_execAinCalGain (by simp) t
  | ainPaceTimer => exact keeps_execAinPaceTimer (by simp) t
  | adcStartupEnd => exact keeps_execAdcStartupEnd (by simp) t
  | adcConversionEnd => exact keeps_execAdcConversionEnd (by simp) t
  | ainResRead => exact keeps_execAinResRead (by simp) t
  | ainInjResRead => exact keeps_execAinInjResRead (by simp) t
  | ainCntClr => exact keeps_execAinCntClr (by simp) t
  | aoutStagedWrite => exact keeps_execAoutStagedWrite (by simp) t
  | aoutUpdate => exact keeps_execAoutUpdate (by simp) t
  | aoutWrapUpdate => exact keeps_execAoutWrapUpdate (by simp) t
  | aoutSync => exact keeps_execAoutSync (by simp) t
  | aoutForceSafe => exact keeps_execAoutForceSafe (by simp) t
  | aoutRelease => exact keeps_execAoutRelease (by simp) t
  | aoutPhaseEvent => exact keeps_execAoutPhaseEvent (by simp) t
  | aoutCompliance => exact keeps_execAoutCompliance (by simp) t
  | dacLockLoss => exact keeps_execDacLockLoss (by simp) t
  | dacRelock => exact keeps_execDacRelock (by simp) t
  | stileLinkLoss => exact keeps_execStileLinkLoss (by simp) t
  | stileLinkRestore => exact keeps_execStileLinkRestore (by simp) t
  | sensorConversion => exact keeps_execSensorConversion (by simp) t
  | sensorTimeout => exact keeps_execSensorTimeout (by simp) t
  | powerMeasurement => exact keeps_execPowerMeasurement (by simp) t
  | thmForceTrip => exact keeps_execThmForceTrip (by simp) t
  | restartGate => exact keeps_execRestartGate (by simp) t
  | restartRecheck => exact keeps_execRestartRecheck (by simp) t
  | deepSleepSensorRead => exact keeps_execDeepSleepSensorRead (by simp) t
  | powerRequest => exact keeps_execPowerRequest (by simp) t
  | blockAgree => exact keeps_execBlockAgree (by simp) t
  | blockRefuse => exact keeps_execBlockRefuse (by simp) t
  | delayExpired => exact keeps_execDelayExpired (by simp) t
  | wakeNLow => exact keeps_execWakeNLow (by simp) t
  | hostWake => exact keeps_execHostWake (by simp) t
  | wakeTimer => exact keeps_execWakeTimer (by simp) t
  | quarterBringup => exact keeps_execQuarterBringup (by simp) t
  | quarterOff => exact keeps_execQuarterOff (by simp) t
  | quarterOn => exact keeps_execQuarterOn (by simp) t
  | quarterSwitchDone => exact keeps_execQuarterSwitchDone (by simp) t
  | pwrClrCnt => exact keeps_execPwrClrCnt (by simp) t
  | standbyRailUp => exact keeps_execStandbyRailUp (by simp) t
  | standbyRailLoss => exact keeps_execStandbyRailLoss (by simp) t
  | mainEnable => exact keeps_execMainEnable (by simp) t
  | mainGoodTimeout => exact keeps_execMainGoodTimeout (by simp) t
  | mainGoodFall => exact keeps_execMainGoodFall (by simp) t
  | rstNLow => exact keeps_execRstNLow (by simp) t
  | start => exact keeps_execStart (by simp) t
  | startWatchdog => exact keeps_execStartWatchdog (by simp) t
  | perst => exact keeps_execPerst (by simp) t
  | standingTriggerEvent => exact keeps_execStandingTriggerEvent (by simp) t
  | standingTimer => exact keeps_execStandingTimer (by simp) t
  | standingOutputAction => exact keeps_execStandingOutputAction (by simp) t
  | pulseEnd => exact keeps_execPulseEnd (by simp) t
  | spClr => exact keeps_execSpClr (by simp) t
  | drain => exact keeps_execDrain (by simp) t
  | reopen => exact keeps_execReopen (by simp) t
  | drained => exact keeps_execDrained (by simp) t
  | reinit => exact keeps_execReinit (by simp) t
  | reinitDone => exact keeps_execReinitDone (by simp) t
  | stackFail => exact keeps_execStackFail (by simp) t
  | fwSwitch => exact keeps_execFwSwitch (by simp) t
  | fwSwitchDone => exact keeps_execFwSwitchDone (by simp) t
  | fwSwitchTimeout => exact keeps_execFwSwitchTimeout (by simp) t
  | bootFallow => exact keeps_execBootFallow (by simp) t
  | mboxRead => exact keeps_execMboxRead (by simp) t
  | erase => exact keeps_execErase (by simp) t
  | program => exact keeps_execProgram (by simp) t
  | verifySlot => exact keeps_execVerifySlot (by simp) t
  | verifyBank => exact keeps_execVerifyBank (by simp) t
  | reboot => exact keeps_execReboot (by simp) t
  | mboxFallow => exact keeps_execMboxFallow (by simp) t
  | mboxReserved => exact keeps_execMboxReserved (by simp) t
  | bootMboxDone => exact keeps_execBootMboxDone (by simp) t
  | getId => exact keeps_execGetId (by simp) t
  | attest => exact keeps_execAttest (by simp) t
  | attestSnapshot => exact keeps_execAttestSnapshot (by simp) t
  | getCert => exact keeps_execGetCert (by simp) t
  | enroll => exact keeps_execEnroll (by simp) t
  | secReserved => exact keeps_execSecReserved (by simp) t
  | secMboxDone => exact keeps_execSecMboxDone (by simp) t
  | secClrCnt => exact keeps_execSecClrCnt (by simp) t
  | read64Low => exact keeps_execRead64Low (by simp) t
  | read64High => exact keeps_execRead64High (by simp) t
  | write64Low => exact keeps_execWrite64Low (by simp) t
  | write64High => exact keeps_execWrite64High (by simp) t
  | bar0BadAccess => exact keeps_execBar0BadAccess (by simp) t
  | registerWrite => exact keeps_execRegisterWrite (by simp) t
  | pinFunctionWrite => exact keeps_execPinFunctionWrite (by simp) t
  | extest => exact keeps_execExtest (by simp) t
  | idcode => exact keeps_execIdcode (by simp) t
  | samplePreload => exact keeps_execSamplePreload (by simp) t
  | clamp => exact keeps_execClamp (by simp) t
  | highz => exact keeps_execHighz (by simp) t
  | extestPulse => exact keeps_execExtestPulse (by simp) t
  | extestTrain => exact keeps_execExtestTrain (by simp) t
  | bypass => exact keeps_execBypass (by simp) t
  | tussockPllLock => exact keeps_execTussockPllLock (by simp) t
  | tableInitDone => exact keeps_execTableInitDone (by simp) t
  | stateRunAfterWake => exact keeps_execStateRunAfterWake (by simp) t
  | k1Reserved => exact keeps_execK1Reserved (by simp) t
  | reservedCtrlMessage => exact keeps_execReservedCtrlMessage (by simp) t

/-- Settles O3: the queue lies in no command's footprint. -/
theorem commandsLeaveTheQueue : Obligations.CommandsLeaveTheQueue := by
  intro c s t h
  obtain ⟨u, hu, k⟩ := exec_only c s
  obtain rfl : u = t := Host.Outcome.next.inj (hu.symm.trans h)
  exact k.same .pending (by simp)

/-- Settles O4: a step carries out the front command, or lets the clock tick, and both keep canonical memory canonical. -/
theorem stepsKeepMemoryCanonical : Obligations.StepsKeepMemoryCanonical := by
  intro s t hs h
  unfold step at h
  split at h
  · next c rest hp =>
    obtain ⟨u, hu, k⟩ := exec_only c { s with pending := rest }
    obtain rfl : u = t := Host.Outcome.next.inj (hu.symm.trans h)
    exact k.inv hs
  · obtain rfl : s.tick = t := Host.Outcome.next.inj h
    exact (State.only_tick subset_rfl (.refl s _)).inv hs

end Sys2Proof.Machine

/-! Proofs of the statements on every command: none stops the device, and one whose register or power domain is away has no effect. -/

namespace Sys2Proof.Machine
open Sys2Proof

/-! ### Every command answers a next state -/

theorem exec_next (c : Instr) (s : State) : ∃ t, exec c s = .next t := by
  cases c <;> exact ⟨_, rfl⟩

theorem step_next (s : State) : ∃ t, step s = .next t := by
  unfold step
  split
  · exact exec_next _ _
  · exact ⟨_, rfl⟩

theorem run_succ (M : Host.Core) (k : Nat) (s t : M.State) (h : M.step s = .next t) : M.run (k + 1) s = M.run k t := by
  simp only [Host.Core.run, h]

/-- Settles O2, by induction on the number of steps: each of them answers a next state. -/
theorem noRunStops : Obligations.NoRunStops := by
  intro s k
  induction k generalizing s with
  | zero => exact ⟨s, rfl⟩
  | succ k ih =>
    obtain ⟨t, ht⟩ := step_next s
    obtain ⟨u, hu⟩ := ih t
    exact ⟨u, (run_succ core k s t ht).trans hu⟩

/-! ### Commands without their register or their power -/

theorem State.ifReach_of_not {s : State} {r : RegName} {i : Nat} (h : s.reach r i = false) (f : State → State) :
    s.ifReach r i f = s :=
  if_neg (by simp [h])

/-- Settles O6: each of these commands is an effect that its register's reach gates. -/
theorem unreachableWriteIsDropped : Obligations.UnreachableWriteIsDropped := by
  intro c r i s hrow hreach
  have hgate := State.ifReach_of_not hreach
  cases c
  case pinFunctionWrite p v =>
    obtain ⟨hr, hi⟩ := Prod.mk.inj (Option.some.inj hrow)
    subst hr hi
    exact congrArg Host.Outcome.next (hgate _)
  all_goals cases hrow
  all_goals exact congrArg Host.Outcome.next (hgate _)

/-- Settles O7: each of these events is an effect that its domain's power gates, for Tussocks also the device's state. -/
theorem eventNeedsItsPower : Obligations.EventNeedsItsPower := by
  intro c d s hrow hoff
  cases c
  all_goals cases hrow
  all_goals
    exact congrArg Host.Outcome.next (if_neg (by simp [State.onT, State.runsT, State.pcieRuns, hoff]))

end Sys2Proof.Machine

namespace Sys2Proof.Machine
open Sys2Proof

/-- Settles O1. -/
theorem stepRunsFrontCommandElseIdles : Obligations.StepRunsFrontCommandElseIdles := by
  refine ⟨fun _ _ _ => rfl, fun s hnone => ?_⟩
  have hstep : step s = .next s.tick := by rw [step, hnone]
  refine ⟨fun hidle => ?_, fun hon hmod => ⟨_, hstep, fun hhalf => ?_, fun hhalf => ?_⟩⟩
  · rw [hstep, State.tick, if_pos (by simpa using hidle)]
  · rw [State.tick, if_neg (by simp [hon, hmod])]
    exact if_neg hhalf
  · rw [State.tick, if_neg (by simp [hon, hmod])]
    exact if_pos hhalf

/-- Settles O5: every register of the reset state reads its reset value. -/
theorem resetLeavesTheStatedValues : Obligations.ResetLeavesTheStatedValues := by
  refine ⟨rfl, rfl, rfl, fun d => ?_, fun _ => ⟨rfl, rfl⟩, fun _ => ⟨rfl, rfl⟩, fun _ => ⟨rfl, rfl⟩, rfl, rfl, rfl, rfl, rfl, rfl, rfl, rfl, rfl⟩
  cases d
  case quarter q => exact (show bitOf 0 q = false by simp [bitOf])
  case core n => exact (show bitOf 0 n = false by simp [bitOf])
  case stack n => exact (show bitOf 0 n = false by simp [bitOf])
  all_goals rfl

/-! ### Clearing commands -/

/-- Every field of a list set to 0. -/
def State.clear (s : State) (fs : List Fld) : State := fs.foldl (fun s f => s.set f 0) s

theorem State.get_set_zero {s : State} {f g : Fld} (hf : f.rst = 0) (hg : g.rst = 0) (h : s.get g = 0 ∨ f.key = g.key) :
    (s.set f 0).get g = 0 := by
  by_cases hkey : f.key = g.key
  · have hget : (s.set f 0).get g = (s.set f 0).get f := by simp only [State.get, hf, hg, hkey]
    rw [hget, State.get_set_same, Nat.zero_mod]
  · rw [State.get_set_ne s 0 hkey]
    exact h.resolve_right hkey

theorem State.get_clear {s : State} {fs : List Fld} (hrst : ∀ f ∈ fs, f.rst = 0) {g : Fld} (hg : g.rst = 0)
    (h : s.get g = 0 ∨ g ∈ fs) : (s.clear fs).get g = 0 := by
  induction fs generalizing s with
  | nil => exact h.resolve_right (List.not_mem_nil)
  | cons f fs ih =>
    obtain ⟨hf, hfs⟩ := List.forall_mem_cons.1 hrst
    refine ih hfs ?_
    rcases h with h | h
    · exact .inl (State.get_set_zero hf hg (.inl h))
    · rcases List.mem_cons.1 h with rfl | h
      · exact .inl (State.get_set_zero hf hg (.inr rfl))
      · exact .inr h

theorem State.clear_onlyRegs (s : State) (fs : List Fld) : s.OnlyRegs (s.clear fs) fs :=
  (State.OnlyRegs.refl s fs).foldl fs id (fun _ => 0) fun _ h => h

/-- Every field that a clearing command lists has the reset value 0. -/
theorem rst_of_mem_clearRow (c : Instr) : ∀ f ∈ clearRow c, f.rst = 0 := by
  have hrst : (clearRow c).map Fld.rst = (clearRow c).map fun _ => 0 := by cases c <;> rfl
  exact List.map_inj_left.1 hrst

/-- The clearing commands of the field inputs, which note their field clock (R376). -/
def notesClock : Instr → Bool
  | .finStatClr _ | .encClr _ | .tqCntClr _ => true
  | _ => false

theorem exec_clearing {c : Instr} {r : RegName} {i : Nat} {s : State} (hrow : regRow c = some (r, i)) (hreach : s.reach r i = true)
    (hne : clearRow c ≠ []) (hplain : notesClock c = false) : exec c s = .next (s.clear (clearRow c)) := by
  cases c
  case finStatClr | encClr | tqCntClr => cases hplain
  case tskClrSeq | bankClrEcc | arrClrCnt | convClrSat | tableClrEcc | brkClrCnt | t3LateClr | hdgErrClr | stkErrClr | ingStallClr
      | admClrCnt | admClrPeak | grsClrCnt | grsClrPeak | ctxEventsClr | ldClr | distStatClr | leaPortStatClr | leaCtrlStatClr
      | ainCntClr | pwrClrCnt | spClr | secClrCnt =>
    cases hrow
    exact congrArg Host.Outcome.next (if_pos hreach)
  all_goals exact absurd rfl hne

theorem State.clear_regs (s : State) (fs : List Fld) : s.clear fs = { s with regs := (s.clear fs).regs } := (s.clear_onlyRegs fs).1

theorem exec_finStatClr {n : FinIx} {s : State} (hreach : s.reach .STL_FIN_STAT n = true) :
    exec (.finStatClr n) s = .next ((s.clear (clearRow (.finStatClr n))).setFin n { s.fin n with clrAt := some s.fieldClock }) :=
  congrArg Host.Outcome.next (if_pos hreach)

theorem exec_encClr {e : EncIx} {s : State} (hreach : s.reach .STL_ENC_CFG e = true) :
    exec (.encClr e) s = .next ((s.clear (clearRow (.encClr e))).setEnc e { s.enc e with clrAt := some s.fieldClock }) :=
  congrArg Host.Outcome.next (if_pos hreach)

theorem exec_tqCntClr {q : TqIx} {s : State} (hreach : s.reach .STL_TQ_CNT q = true) :
    exec (.tqCntClr q) s = .next ((s.clear (clearRow (.tqCntClr q))).setTq q { s.tq q with clrAt := some s.fieldClock }) :=
  congrArg Host.Outcome.next (if_pos hreach)

/-- An entry of a part of the Stile die written over cleared fields. -/
theorem State.clear_onlyRegs_stile (s : State) (fs : List Fld) (x : Stile) :
    State.OnlyRegs { s with stile := x } { s.clear fs with stile := x } fs :=
  ⟨by rw [s.clear_regs fs], (s.clear_onlyRegs fs).2⟩

/-- Settles O8: a clearing command sets its fields to 0 and, of a field input, encoder or queue, notes the field clock. -/
theorem clearingCommandsClear : Obligations.ClearingCommandsClear := by
  intro c r i s hne hrow hreach
  have hzero : ∀ x, ∀ f ∈ clearRow c, State.get { s.clear (clearRow c) with stile := x } f = 0 := fun x f hf =>
    State.get_clear (rst_of_mem_clearRow c) (rst_of_mem_clearRow c f hf) (.inr hf)
  cases hplain : notesClock c
  case false =>
    have hstile : (s.clear (clearRow c)).stile = s.stile := by rw [s.clear_regs]
    refine ⟨_, exec_clearing hrow hreach hne hplain, hzero s.stile, by rw [hstile]; exact s.clear_onlyRegs _, fun _ _ _ => hstile, ?_, ?_, ?_⟩
    all_goals
      intro n hc
      subst hc
      cases hplain
  case true =>
    cases c
    case finStatClr n =>
      cases hrow
      refine ⟨_, exec_finStatClr hreach, hzero _, s.clear_onlyRegs_stile _ _, fun h _ _ => absurd rfl (h n), fun m hm => ?_, nofun, nofun⟩
      cases hm
      exact ⟨rfl, Tab.get_set_same .., fun k hk => Tab.get_set_ne _ _ _ (Ne.symm hk)⟩
    case encClr n =>
      cases hrow
      refine ⟨_, exec_encClr hreach, hzero _, s.clear_onlyRegs_stile _ _, fun _ h _ => absurd rfl (h n), nofun, fun m hm => ?_, nofun⟩
      cases hm
      exact ⟨rfl, Tab.get_set_same .., fun k hk => Tab.get_set_ne _ _ _ (Ne.symm hk)⟩
    case tqCntClr n =>
      cases hrow
      refine ⟨_, exec_tqCntClr hreach, hzero _, s.clear_onlyRegs_stile _ _, fun _ _ h => absurd rfl (h n), nofun, nofun, fun m hm => ?_⟩
      cases hm
      exact ⟨rfl, Tab.get_set_same .., fun k hk => Tab.get_set_ne _ _ _ (Ne.symm hk)⟩
    all_goals cases hplain

/-! ### The region fault record -/

theorem exec_rgnFaultClear {s : State} (hreach : s.reach .GLB_RGN_FAULT_INFO 0 = true) :
    exec .rgnFaultClear s = .next (if s.on F.GLB_RGN_FAULT_INFO_VALID then s.set F.GLB_RGN_FAULT_INFO_VALID 0
      else s.set F.GLB_RGN_FAULT_INFO_FAULT_CNT 0) :=
  congrArg Host.Outcome.next (if_pos hreach)

theorem State.on_iff {s : State} {f : Fld} : s.on f = true ↔ s.get f ≠ 0 := bne_iff_ne

/-- Settles O9. -/
theorem regionFaultClearReleasesRecord : Obligations.RegionFaultClearReleasesRecord := by
  refine fun s hreach => ⟨fun hvalid => ⟨_, exec_rgnFaultClear hreach, ?_⟩, fun hclear => ⟨_, exec_rgnFaultClear hreach, ?_⟩⟩
  · rw [if_pos (State.on_iff.2 hvalid)]
    exact ⟨by simp, (State.OnlyRegs.refl s _).set 0 (by simp)⟩
  · rw [if_neg (by simp [State.on_iff, hclear])]
    exact ⟨by simp, (State.OnlyRegs.refl s _).set 0 (by simp)⟩

/-! ### Restore slots -/

/-- The quotients of R59 are told apart by their index. -/
theorem ceil_of_floor_quotient {j y : Nat} (h : j * 4096 / 135 = y) : (135 * y + 4095) / 4096 = j := by omega

theorem isRestoreSlot_iff {g w c : Nat} (hc : c < 256) :
    isRestoreSlot g w c = true ↔ ∃ j, j < 135 ∧ w % 16 * 256 + c = (j * 4096 / 135 + g % 30) % 4096 := by
  have hg : g % 30 < 30 := Nat.mod_lt _ (by decide)
  have hw : w % 16 < 16 := Nat.mod_lt _ (by decide)
  simp only [isRestoreSlot, Bool.and_eq_true, decide_eq_true_eq, beq_iff_eq]
  constructor
  · rintro ⟨hj, hy⟩
    exact ⟨_, hj, by omega⟩
  · rintro ⟨j, hj, hidx⟩
    have hy : (w % 16 * 256 + c + 4096 - g % 30) % 4096 = j * 4096 / 135 := by omega
    rw [hy, ceil_of_floor_quotient rfl]
    exact ⟨hj, rfl⟩

/-- Settles O16. -/
theorem restoreSlotPositions : Obligations.RestoreSlotPositions := by
  refine ⟨fun g w c hc => isRestoreSlot_iff hc, fun g a c m sensed s h => congrArg Host.Outcome.next ?_⟩
  unfold State.ifAnyCycle State.ifPowered
  rcases h with h | h | h
  · simp [h]
  · simp [h]
  · simp [h]

end Sys2Proof.Machine

namespace Sys2Proof.Machine
open Sys2Proof

/-! ### Little-endian numbers -/

theorem length_leBytes (n v : Nat) : (leBytes n v).length = n := by
  induction n generalizing v with
  | zero => rfl
  | succ n ih => simp [leBytes, ih]

theorem leNat_leBytes {n v : Nat} (h : v < 256 ^ n) : leNat (leBytes n v) = v := by
  induction n generalizing v with
  | zero => simp at h; simp [leBytes, leNat, h]
  | succ n ih =>
    have hq : v / 256 < 256 ^ n := Nat.div_lt_of_lt_mul (by rwa [Nat.pow_succ, Nat.mul_comm] at h)
    simp only [leBytes, leNat, ih hq, BitVec.toNat_ofNat]
    omega

/-! ### Blocks and their tags -/

theorem length_tagBytes (b : Block) : b.tagBytes.length = 8 := by simp [Block.tagBytes, length_leBytes]

/-- A tag read from the bytes that it is stored as. -/
theorem Block.ofBytes_tagBytes {b : Block} (hcrc : b.crc < 2 ^ 32) (htid : b.tid < 2 ^ 16) (hseq : b.seq < 2 ^ 16) :
    Block.ofBytes b.data b.tagBytes = b := by
  have h1 : b.tagBytes.take 4 = leBytes 4 b.crc := by
    rw [Block.tagBytes, List.append_assoc, List.take_left' (length_leBytes 4 _)]
  have h2 : (b.tagBytes.drop 4).take 2 = leBytes 2 b.tid := by
    rw [Block.tagBytes, List.append_assoc, List.drop_left' (length_leBytes 4 _), List.take_left' (length_leBytes 2 _)]
  have h3 : b.tagBytes.drop 6 = leBytes 2 b.seq := by
    rw [Block.tagBytes, List.drop_left' (by simp [length_leBytes])]
  rw [Block.ofBytes, h1, h2, h3, leNat_leBytes hcrc, leNat_leBytes htid, leNat_leBytes hseq]

theorem lt_stackEnd_of_regionOf_stack {a n : Nat} (h : regionOf a = .stack n) : canon a < stackEnd := by
  by_contra hge
  unfold regionOf at h
  simp only [hge, if_false] at h
  split_ifs at h

/-- Where a bank's address lies in the window of its Tussock. -/
theorem canon_of_regionOf_bank {a g off : Nat} (h : regionOf a = .bank g off) :
    bankBase ≤ canon a ∧ canon a = tskBase g + off ∧ off < 0x100000 := by
  unfold regionOf at h
  simp only at h
  split_ifs at h with _ hbank hoff
  obtain ⟨rfl, rfl⟩ := Region.bank.inj h
  refine ⟨hbank.1, ?_, hoff⟩
  unfold tskBase
  omega

/-- Outside the alias an address stands for itself. -/
theorem canon_of_not_alias {a : Nat} (h : a < aliasBase ∨ aliasBase + 0x40000000 ≤ a) : canon a = a :=
  if_neg (by omega)

theorem canon_eq_of_lt_stackEnd {a : Nat} (h : canon a < stackEnd) : canon a = a := by
  unfold canon at h ⊢
  split_ifs at h ⊢
  · unfold bankBase stackEnd stackSize at h
    omega
  · rfl

/-- A block's payload begins where 256 divides its address, the alias included. -/
theorem canon_mod {a : Nat} : canon a % 256 = a % 256 := by
  unfold canon bankBase aliasBase
  split_ifs <;> omega

/-- The tag of a block of a stack or bank lies clear of the block's payload. -/
theorem tagAddr_clear {a : Nat} (ha : a % 256 = 0)
    (hr : (∃ n, regionOf a = .stack n) ∨ ∃ g off, regionOf a = .bank g off) :
    canon (tagAddr a) = tagAddr a ∧ canon a + 256 ≤ tagAddr a := by
  obtain ⟨n, hstack⟩ | ⟨g, off, hbank⟩ := hr
  · have htag : tagAddr a = tagBase + a / 256 * 8 := by rw [tagAddr, hstack]
    have hlow := lt_stackEnd_of_regionOf_stack hstack
    have hcanon := canon_eq_of_lt_stackEnd hlow
    rw [hcanon] at hlow ⊢
    rw [htag]
    unfold stackEnd stackSize at hlow
    exact ⟨canon_of_not_alias (by unfold tagBase aliasBase; omega), by unfold tagBase; omega⟩
  · have htag : tagAddr a = tskBase g + 0x100000 + off / 256 * 8 := by rw [tagAddr, hbank]
    obtain ⟨hbase, hcanon, hoff⟩ := canon_of_regionOf_bank hbank
    have hmod : canon a % 256 = 0 := canon_mod.trans ha
    rw [htag]
    unfold tskBase bankBase at *
    exact ⟨canon_of_not_alias (by unfold aliasBase; omega), by omega⟩

/-! ### A stored block -/

section
variable {m : List Host.Cell} {a : Nat} {bs : List Byte}

/-- Bytes just written read back. -/
theorem Memory.readN_writeN_same : Memory.readN (Memory.writeN m a bs) a bs.length = bs := Tab.getList_setList ..

/-- A read outside the bytes written. -/
theorem Memory.read_writeN_out {x : Nat} (h : canon x < canon a ∨ canon a + bs.length ≤ canon x) :
    Memory.read (Memory.writeN m a bs) x = Memory.read m x := Tab.get_setList_out _ _ _ _ _ h

end

theorem Tab.getList_congr {α : Type} {d : Nat → α} {t u : List (Nat × α)} {a n : Nat}
    (h : ∀ x, a ≤ x → x < a + n → Tab.get d t x = Tab.get d u x) : Tab.getList d t a n = Tab.getList d u a n := by
  induction n generalizing a with
  | zero => rfl
  | succ n ih =>
    simp only [Tab.getList]
    rw [h a (Nat.le_refl a) (by omega), ih fun x hlo hhi => h x (by omega) (by omega)]

/-- A write leaves the bytes of a range that it does not meet. -/
theorem Memory.readN_writeN_out {m : List Host.Cell} {a b n : Nat} {bs : List Byte}
    (h : canon b + n ≤ canon a ∨ canon a + bs.length ≤ canon b) :
    Memory.readN (Memory.writeN m a bs) b n = Memory.readN m b n :=
  Tab.getList_congr fun _ hlo hhi => Tab.get_setList_out _ _ _ _ _ (by omega)

/-- Settles O21: the payload and the tag each read back, since they do not meet, and nothing else is written. -/
theorem storedBlockReadsBack : Obligations.StoredBlockReadsBack := by
  intro m a b ha hlen hcrc htid hseq hr
  obtain ⟨htag, hclear⟩ := tagAddr_clear ha hr
  have htaglen := length_tagBytes b
  constructor
  · have hdata : Memory.readN (Memory.putBlock m a b) a 256 = b.data := by
      rw [Memory.putBlock, Memory.readN_writeN_out (.inl (by rw [htag]; exact hclear)), ← hlen, Memory.readN_writeN_same]
    have htagBytes : Memory.readN (Memory.putBlock m a b) (tagAddr a) 8 = b.tagBytes := by
      rw [Memory.putBlock, ← htaglen, Memory.readN_writeN_same]
    rw [Memory.block, hdata, htagBytes, Block.ofBytes_tagBytes hcrc htid hseq]
  · intro x hpayload htagx
    rw [Memory.putBlock, Memory.read_writeN_out (by rw [htag, htaglen]; exact htagx),
      Memory.read_writeN_out (by rw [hlen]; exact hpayload)]

end Sys2Proof.Machine

namespace Sys2Proof.Machine
open Sys2Proof

/-! ### A rerun of recompute-once -/

theorem exec_recomputeRerun (r : BitVec 48) (s : State) (p : Production) (sc : Nat)
    (hp : s.prods.find? (fun p => p.addr == r.toNat && p.rerunScale.isSome) = some p) (hsc : p.rerunScale = some sc) :
    exec (.recomputeRerun r) s = .next (match s.job p.job with
      | some j => if j.err.isNone = true ∧ j.rcFirst ≤ s.swath + 1 ∧ s.swath < j.rcFirst + j.rcLen then s.rerun p sc else s
      | none => s) := by
  change execRecomputeRerun r s = _
  unfold execRecomputeRerun
  simp only [hp, hsc, Option.getD_some] <;> rfl

/-- A production of the list, changed, is found by its job and its record. -/
theorem State.prod_updProd {s : State} {p q : Production} (hp : p ∈ s.prods) (hjob : q.job = p.job) (haddr : q.addr = p.addr) :
    (s.updProd q).prod q.job q.addr = some q := by
  unfold State.prod State.updProd
  simp only [List.find?_map]
  have hfind : ∃ x, s.prods.find? ((fun p => p.job == q.job && p.addr == q.addr) ∘
      fun x => if x.job = q.job ∧ x.addr = q.addr then q else x) = some x := by
    rw [← Option.isSome_iff_exists, List.find?_isSome]
    exact ⟨p, hp, by simp [hjob, haddr]⟩
  obtain ⟨x, hx⟩ := hfind
  have hsat := List.find?_some hx
  rw [hx]
  simp only [Function.comp, Bool.and_eq_true, beq_iff_eq, Option.map_some, Option.some.injEq] at hsat ⊢
  split at hsat
  · rename_i h; exact if_pos h
  · rename_i h; exact absurd hsat h

/-- Settles O24. -/
theorem recomputeRerunUsesCorrectedScale : Obligations.RecomputeRerunUsesCorrectedScale := by
  refine ⟨fun r s p sc hp hsc => ?_, fun r s hnone => ?_⟩
  · have hexec := exec_recomputeRerun r s p sc hp hsc
    refine ⟨fun j hj ⟨herr, hfirst, hlast⟩ => ?_, fun hnot => ?_⟩
    · have hmay : j.err.isNone = true ∧ j.rcFirst ≤ s.swath + 1 ∧ s.swath < j.rcFirst + j.rcLen := ⟨by simp [herr], hfirst, hlast⟩
      simp only [hj, if_pos hmay] at hexec
      refine ⟨_, hexec, State.prod_updProd (List.mem_of_find?_eq_some hp) rfl rfl, fun a ha hjob hrec => ?_, rfl⟩
      obtain ⟨b, -, rfl⟩ := List.mem_map.1 ha
      by_cases hb : b.job = p.job ∧ b.head.outRec = p.addr
      · simp [hb]
      · have hbne : (b.job == p.job && b.head.outRec == p.addr) = false := by simpa using hb
        simp only [hbne] at hjob hrec
        exact absurd ⟨hjob, hrec⟩ hb
    · rw [hexec]
      cases hj : s.job p.job with
      | none => rfl
      | some j =>
        have hmay : ¬(j.err.isNone = true ∧ j.rcFirst ≤ s.swath + 1 ∧ s.swath < j.rcFirst + j.rcLen) :=
          fun ⟨herr, h⟩ => hnot j hj ⟨Option.isNone_iff_eq_none.1 herr, h⟩
        exact congrArg Host.Outcome.next (if_neg hmay)
  · change execRecomputeRerun r s = _
    unfold execRecomputeRerun
    simp only [hnone]

/-! ### The check fraction and the horizon -/

theorem exec_fractionWrite {v : BitVec 3} {s : State} (hreach : s.reach .GRS_CFG 0 = true) :
    exec (.fractionWrite v) s = .next (s.fractionWrite v.toNat) := congrArg Host.Outcome.next (if_pos hreach)

theorem exec_horizonWrite {v : BitVec 5} {s : State} (hreach : s.reach .GRS_CFG 0 = true) :
    exec (.horizonWrite v) s = .next (s.horizonWrite v.toNat) := congrArg Host.Outcome.next (if_pos hreach)

section
variable {s : State} {v : Nat}

theorem State.fractionWrite_same : s.fractionWrite (s.get F.GRS_CFG_FRACTION) = s := if_pos rfl

theorem State.fractionWrite_refused (hv : v ≠ s.get F.GRS_CFG_FRACTION)
    (h : 6 ≤ v ∨ s.on F.GRS_STATUS_FRACTION_PENDING = true ∨
      ((v = 5 ∨ s.get F.GRS_CFG_FRACTION = 5) ∧ ∃ k, k < 16 ∧ s.on (F.CHN_ENG_STATUS_RUNNING k) = true)) :
    s.fractionWrite v = s.set F.GRS_STATUS_CFG_REJECT 1 := by
  by_cases hbad : 6 ≤ v ∨ s.on F.GRS_STATUS_FRACTION_PENDING = true
  · simp [State.fractionWrite, hv, hbad]
  · have hfive := (or_assoc.2 h).resolve_left hbad
    obtain ⟨hfive, k, hk, hon⟩ := hfive
    have hany : ((List.range 16).any fun k => s.on (F.CHN_ENG_STATUS_RUNNING k)) = true :=
      List.any_eq_true.2 ⟨k, List.mem_range.2 hk, hon⟩
    simp only [State.fractionWrite, hv, hbad, hfive, hany, if_true, if_false]

theorem State.fractionWrite_five (hv : v ≠ s.get F.GRS_CFG_FRACTION) (hlt : v < 6) (hpend : ¬s.on F.GRS_STATUS_FRACTION_PENDING = true)
    (hfive : v = 5 ∨ s.get F.GRS_CFG_FRACTION = 5) (hrun : ¬∃ k, k < 16 ∧ s.on (F.CHN_ENG_STATUS_RUNNING k) = true) :
    s.fractionWrite v = s.set F.GRS_CFG_FRACTION v := by
  have hbad : ¬(6 ≤ v ∨ s.on F.GRS_STATUS_FRACTION_PENDING = true) := by rintro (h | h); omega; exact hpend h
  have hany : ¬((List.range 16).any fun k => s.on (F.CHN_ENG_STATUS_RUNNING k)) = true := fun h =>
    have ⟨k, hk, hon⟩ := List.any_eq_true.1 h
    hrun ⟨k, List.mem_range.1 hk, hon⟩
  rw [Bool.not_eq_true] at hany
  simp only [State.fractionWrite, hv, hbad, hfive, hany, Bool.false_eq_true, if_true, if_false]

theorem State.fractionWrite_pends (hv : v ≠ s.get F.GRS_CFG_FRACTION) (hlt : v < 6) (hpend : ¬s.on F.GRS_STATUS_FRACTION_PENDING = true)
    (hfive : ¬(v = 5 ∨ s.get F.GRS_CFG_FRACTION = 5)) :
    s.fractionWrite v = State.set { (s.set F.GRS_CFG_FRACTION v) with
      fractionOld := some (s.get F.GRS_CFG_FRACTION), fractionAt := s.swath } F.GRS_STATUS_FRACTION_PENDING 1 := by
  have hbad : ¬(6 ≤ v ∨ s.on F.GRS_STATUS_FRACTION_PENDING = true) := by rintro (h | h); omega; exact hpend h
  simp only [State.fractionWrite, hv, hbad, hfive, if_false]

end

theorem fractionWrite_spec (v : BitVec 3) (s : State) (cur : Nat) (hreach : s.reach .GRS_CFG 0 = true)
    (hcur : cur = s.get F.GRS_CFG_FRACTION) :
    let running : Prop := ∃ k, k < 16 ∧ s.on (F.CHN_ENG_STATUS_RUNNING k) = true
    let pending : Prop := s.on F.GRS_STATUS_FRACTION_PENDING = true
    let five : Prop := v.toNat = 5 ∨ cur = 5
    (v.toNat = cur → exec (.fractionWrite v) s = .next s) ∧
    (v.toNat ≠ cur → 6 ≤ v.toNat ∨ pending ∨ (five ∧ running) → ∃ t, exec (.fractionWrite v) s = .next t ∧
      t.get F.GRS_STATUS_CFG_REJECT = 1 ∧ s.OnlyRegs t [F.GRS_STATUS_CFG_REJECT]) ∧
    (v.toNat ≠ cur → v.toNat < 6 → ¬pending → five → ¬running → ∃ t, exec (.fractionWrite v) s = .next t ∧
      t.get F.GRS_CFG_FRACTION = v.toNat ∧ s.OnlyRegs t [F.GRS_CFG_FRACTION]) ∧
    (v.toNat ≠ cur → v.toNat < 6 → ¬pending → ¬five → ∃ t, exec (.fractionWrite v) s = .next t ∧
      t.get F.GRS_CFG_FRACTION = v.toNat ∧ t.get F.GRS_STATUS_FRACTION_PENDING = 1 ∧ t.fractionNow = cur ∧
      t = { s with regs := t.regs, fractionOld := some cur, fractionAt := s.swath } ∧
      s.RegsBut t [F.GRS_CFG_FRACTION, F.GRS_STATUS_FRACTION_PENDING]) := by
  subst hcur
  have hfits : v.toNat % 2 ^ 3 = v.toNat := Nat.mod_eq_of_lt v.isLt
  refine ⟨fun hv => ?_, fun hv h => ?_, fun hv hlt hpend hfive hrun => ?_, fun hv hlt hpend hfive => ?_⟩
  · rw [exec_fractionWrite hreach, hv, State.fractionWrite_same]
  · refine ⟨_, exec_fractionWrite hreach, ?_⟩
    rw [State.fractionWrite_refused hv h]
    exact ⟨State.get_set_same .., (State.OnlyRegs.refl s _).set 1 (by simp)⟩
  · refine ⟨_, exec_fractionWrite hreach, ?_⟩
    rw [State.fractionWrite_five hv hlt hpend hfive hrun]
    exact ⟨(State.get_set_same ..).trans hfits, (State.OnlyRegs.refl s _).set _ (by simp)⟩
  · refine ⟨_, exec_fractionWrite hreach, ?_⟩
    rw [State.fractionWrite_pends hv hlt hpend hfive]
    refine ⟨?_, State.get_set_same .., rfl, rfl, ?_⟩
    · rw [State.get_set_ne _ _ (Fld.key_ne_of_reg (by decide : RegName.GRS_STATUS ≠ .GRS_CFG))]
      exact (State.get_set_same s F.GRS_CFG_FRACTION v.toNat).trans hfits
    · exact (((State.RegsBut.refl s _).set v.toNat (by simp)).trans (.congr _ rfl)).set 1 (by simp)

theorem State.fractionEffect_eq (s : State) : s.fractionEffect =
    if s.on F.GRS_STATUS_FRACTION_PENDING = true ∧ s.fractionAt < s.swath ∧ ∀ j ∈ s.jobs, s.fractionAt < j.swath ∨ j.lastWork < s.swath then
      State.set { s with fractionOld := none, fractionAt := 0 } F.GRS_STATUS_FRACTION_PENDING 0 else s := by
  unfold State.fractionEffect
  simp only [Bool.and_eq_true, decide_eq_true_eq, List.all_eq_true, and_assoc]

theorem fractionChangeEffect_spec (s : State) :
    let ready : Prop := s.on F.GRS_STATUS_FRACTION_PENDING = true ∧
      s.fractionAt < s.swath ∧ ∀ j ∈ s.jobs, s.fractionAt < j.swath ∨ j.lastWork < s.swath
    (ready → ∃ t, exec .fractionChangeEffect s = .next t ∧ t.get F.GRS_STATUS_FRACTION_PENDING = 0 ∧
      t.fractionNow = s.get F.GRS_CFG_FRACTION ∧ t = { s with regs := t.regs, fractionOld := none, fractionAt := 0 } ∧
      s.RegsBut t [F.GRS_STATUS_FRACTION_PENDING]) ∧
    (¬ready → exec .fractionChangeEffect s = .next s) := by
  have hexec : exec .fractionChangeEffect s = .next s.fractionEffect := rfl
  rw [hexec, s.fractionEffect_eq]
  refine ⟨fun h => ⟨_, congrArg Host.Outcome.next (if_pos h), State.get_set_same .., ?_, rfl, ?_⟩, fun h => congrArg Host.Outcome.next (if_neg h)⟩
  · exact State.get_set_ne _ _ (Fld.key_ne_of_reg (by decide : RegName.GRS_STATUS ≠ .GRS_CFG))
  · exact State.RegsBut.set (State.RegsBut.congr _ rfl) 0 (by simp)

theorem horizonWrite_spec (v : BitVec 5) (s : State) (hreach : s.reach .GRS_CFG 0 = true) :
    (2 ≤ v.toNat ∧ v.toNat ≤ 16 → ∃ t, exec (.horizonWrite v) s = .next t ∧ t.get F.GRS_CFG_HORIZON = v.toNat ∧
      s.OnlyRegs t [F.GRS_CFG_HORIZON]) ∧
    (v.toNat < 2 ∨ 16 < v.toNat → ∃ t, exec (.horizonWrite v) s = .next t ∧ t.get F.GRS_STATUS_CFG_REJECT = 1 ∧
      s.OnlyRegs t [F.GRS_STATUS_CFG_REJECT]) := by
  refine ⟨fun h => ⟨_, exec_horizonWrite hreach, ?_⟩, fun h => ⟨_, exec_horizonWrite hreach, ?_⟩⟩
  · rw [State.horizonWrite, if_neg (by omega)]
    exact ⟨(State.get_set_same ..).trans (Nat.mod_eq_of_lt v.isLt), (State.OnlyRegs.refl s _).set _ (by simp)⟩
  · rw [State.horizonWrite, if_pos h]
    exact ⟨State.get_set_same .., (State.OnlyRegs.refl s _).set 1 (by simp)⟩

/-- Settles O25. -/
theorem fractionAndHorizonWrites : Obligations.FractionAndHorizonWrites :=
  ⟨fractionWrite_spec, fractionChangeEffect_spec, horizonWrite_spec⟩

end Sys2Proof.Machine

/-! Proofs of the statements on how a Tussock comes up: markers, lock, the host's quarantine and the way back into service. -/

namespace Sys2Proof.Machine
open Sys2Proof

/-! ### Commands whose gate is open -/

theorem exec_tussockPllLock {g : Tsk} {s : State} (hon : s.onT g = true) :
    exec (.tussockPllLock g) s = .next (if s.get F.PWR_STATUS_STATE = 2 then s else s.set (F.TSK_CLK_STATUS_LOCKED g) 1) :=
  congrArg Host.Outcome.next (if_pos hon)

theorem exec_tskQuarantineWrite {g : Tsk} {s : State} (hreach : s.reach .TSK_CTRL g = true) :
    exec (.tskQuarantineWrite g) s = .next (s.raiseCause g 0) :=
  congrArg Host.Outcome.next (if_pos hreach)

theorem exec_tskReenable {g : Tsk} {identity : Bool} {s : State} (hreach : s.reach .TSK_CTRL g = true) :
    exec (.tskReenable g identity) s = .next (s.reenable g identity) :=
  congrArg Host.Outcome.next (if_pos hreach)

/-! ### Markers that open no swath out of order -/

/-- The first marker opens its swath whatever its number. -/
theorem State.marker_first (s : State) (g w : Nat) (habort : (s.tuss g).abortDue = false) (hstate : s.tskState g ≠ tREEN)
    (hopen : (s.tuss g).open_ = none) : s.marker g w = s.openOnTime g w := by
  have halign : (s.openOnTime g w).reenableAlign g = s.openOnTime g w :=
    State.reenableAlign_of_ne _ g (by rwa [s.tskState_openOnTime g w habort])
  have hmarker : s.marker g w = (s.openOnTime g w).reenableAlign g := by simp only [State.marker, hopen]; rfl
  rw [hmarker, halign]

/-- A marker of the swath that the Tussock opened by its own count only aligns, and that a Tussock which is REENABLING. -/
theorem State.marker_counted (s : State) (g w : Nat) (hopen : (s.tuss g).open_ = some w) (hlate : (s.tuss g).late ≠ 0) :
    s.marker g w = s.reenableAlign g := by
  simp [State.marker, hopen, hlate]

theorem State.marker_next (s : State) (g w : Nat) (hopen : (s.tuss g).open_ = some w) :
    s.marker g (w + 1) = (s.openOnTime g (w + 1)).reenableAlign g := by
  simp [State.marker, hopen, State.openOnTime]

theorem State.trigNow_openOnTime (s : State) (g w : Nat) (habort : (s.tuss g).abortDue = false) :
    ((s.openOnTime g w).tuss g).trigNow = s.get (F.BRK_CFG_TRIG g) := by
  obtain ⟨u, hu, heq⟩ := s.openSwath_parts g w habort
  simp [State.openOnTime, heq, hu.tuss_eq g]

theorem State.openOnTime_onlyTuss (s : State) (g w : Nat) (habort : (s.tuss g).abortDue = false) :
    s.OnlyTuss (s.openOnTime g w) g (swathFlds g) :=
  (s.openSwath_onlyTuss g w habort).upd _

theorem firstMarker_spec (g : Tsk) (w : BitVec 51) (s : State) (hon : s.onT g = true) (habort : (s.tuss g).abortDue = false)
    (hstate : s.tskState g ≠ tREEN) (hopen : (s.tuss g).open_ = none) :
    ∃ t, exec (.swathMarker g w) s = .next t ∧ (t.tuss g).open_ = some w.toNat ∧ (t.tuss g).late = 0 ∧ s.NoCause t g ∧
      (t.tuss g).trigNow = s.get (F.BRK_CFG_TRIG g) ∧ s.OnlyTuss t g (swathFlds g) := by
  refine ⟨_, exec_swathMarker g w s hon, ?_⟩
  rw [s.marker_first g w.toNat habort hstate hopen]
  exact ⟨by simp [State.openOnTime], by simp [State.openOnTime], s.openOnTime_noCause g _ habort, s.trigNow_openOnTime g _ habort,
    s.openOnTime_onlyTuss g _ habort⟩

/-! ### Arrays become EMPTY -/

theorem State.OnlyTuss.trans {s t u : State} {g : Nat} {fs : List Fld} (h : s.OnlyTuss t g fs) (k : t.OnlyTuss u g fs) : s.OnlyTuss u g fs :=
  ⟨by rw [k.1, h.1], h.2.1.trans k.2.1, fun i hi => (k.2.2 i hi).trans (h.2.2 i hi)⟩

/-- An array is EMPTY and holds no context. -/
def State.Emptied (s : State) (g a : Nat) : Prop := s.arrState g a = aEMPTY ∧ s.get (F.TSK_ARR_STATE_CONTEXT g a) = 0xFF

/-- The fields that show that an array of the Tussock is EMPTY. -/
def emptyFlds (g a : Nat) : List Fld := [F.TSK_ARR_STATE_STATE g a, F.BRK_STATUS_IN_PLACE g, F.TSK_ARR_STATE_CONTEXT g a]

theorem emptyFlds_reg_ne {g a : Nat} {f : Fld} (h : f ∈ emptyFlds g a) : f.r ≠ .TSK_QUAR_CAUSE := by
  obtain rfl | rfl | rfl : f = F.TSK_ARR_STATE_STATE g a ∨ f = F.BRK_STATUS_IN_PLACE g ∨ f = F.TSK_ARR_STATE_CONTEXT g a := by
    simpa [emptyFlds] using h
  all_goals exact RegName.noConfusion

theorem State.setArrState_empty (s : State) (g a : Nat) : s.setArrState g a aEMPTY =
    (((s.set (F.TSK_ARR_STATE_STATE g a) aEMPTY).brkInPlace g).set (F.TSK_ARR_STATE_CONTEXT g a) 0xFF).updArr g a fun r =>
      { r with holds := {}, write := none } := rfl

theorem State.setArrState_empty_onlyTuss (s : State) (g a : Nat) : s.OnlyTuss (s.setArrState g a aEMPTY) g (emptyFlds g a) := by
  rw [s.setArrState_empty g a]
  exact ((((State.OnlyTuss.refl s g _).set _ (by simp [emptyFlds])).set _ (by simp [emptyFlds])).set _ (by simp [emptyFlds])).upd _

/-- Of what the Tussock holds outside the registers, only the arrays change. -/
theorem State.tuss_setArrState_empty (s : State) (g a : Nat) :
    ∃ as, (s.setArrState g a aEMPTY).tuss g = { s.tuss g with arrs := as } := by
  exact ⟨((s.setArrState g a aEMPTY).tuss g).arrs, by simp [s.setArrState_empty g a, State.updArr, State.brkInPlace]⟩

theorem State.emptied_setArrState (s : State) (g a : Nat) : (s.setArrState g a aEMPTY).Emptied g a := by
  have hcs : (F.TSK_ARR_STATE_CONTEXT g a).key ≠ (F.TSK_ARR_STATE_STATE g a).key :=
    Fld.key_ne_of_lo (by simp [F.TSK_ARR_STATE_CONTEXT, F.TSK_ARR_STATE_STATE])
  have hbrk : (F.BRK_STATUS_IN_PLACE g).key ≠ (F.TSK_ARR_STATE_STATE g a).key :=
    Fld.key_ne_of_reg (by decide : RegName.BRK_STATUS ≠ .TSK_ARR_STATE)
  rw [State.Emptied, State.arrState, s.setArrState_empty g a, State.updArr, State.get_updTuss, State.get_updTuss, State.brkInPlace,
    State.get_set_ne _ _ hcs, State.get_set_ne _ _ hbrk, State.get_set_same, State.get_set_same]
  exact ⟨rfl, rfl⟩

theorem State.Emptied.setArrState {s : State} {g a : Nat} (h : s.Emptied g a) (ha : a < 17) (b : Nat) (hb : b < 17) :
    (s.setArrState g b aEMPTY).Emptied g a := by
  by_cases hab : a = b
  · exact hab ▸ s.emptied_setArrState g a
  · have hframe := (s.setArrState_empty_onlyTuss g b).2.1
    have hmod : a % 64 ≠ b % 64 := by omega
    refine ⟨(hframe _ ?_).trans h.1, (hframe _ ?_).trans h.2⟩
    all_goals simp [emptyFlds, Fld.key_iff, F.TSK_ARR_STATE_CONTEXT, F.TSK_ARR_STATE_STATE, F.BRK_STATUS_IN_PLACE, hmod]

/-- Arrays of a list become EMPTY one after the other. -/
theorem State.foldl_setArrState_empty (s : State) (g : Nat) (l : List Nat) (hl : ∀ a ∈ l, a < 17) :
    ∃ t, l.foldl (fun s a => s.setArrState g a aEMPTY) s = t ∧ s.OnlyTuss t g (l.flatMap (emptyFlds g)) ∧ (∃ as, t.tuss g = { s.tuss g with arrs := as }) ∧
      (∀ a ∈ l, t.Emptied g a) ∧ ∀ a, a < 17 → s.Emptied g a → t.Emptied g a := by
  induction l generalizing s with
  | nil => exact ⟨s, rfl, .refl s g _, ⟨_, rfl⟩, by simp, fun _ _ h => h⟩
  | cons b l ih =>
    obtain ⟨hb, hl⟩ := List.forall_mem_cons.1 hl
    obtain ⟨as, htuss₁⟩ := s.tuss_setArrState_empty g b
    obtain ⟨t, ht, hframe, ⟨bs, htuss₂⟩, hin, hkeep⟩ := ih (s.setArrState g b aEMPTY) hl
    have hfirst := (s.setArrState_empty_onlyTuss g b).mono (gs := (b :: l).flatMap (emptyFlds g)) fun f hf => by simp [hf]
    have hrest := hframe.mono (gs := (b :: l).flatMap (emptyFlds g)) fun f hf => by
      rw [List.flatMap_cons]; exact List.mem_append_right _ hf
    refine ⟨t, ht, hfirst.trans hrest, ⟨bs, by rw [htuss₂, htuss₁]⟩, List.forall_mem_cons.2 ⟨hkeep b hb (s.emptied_setArrState g b), hin⟩,
      fun a ha h => hkeep a ha (h.setArrState ha b hb)⟩

/-- The alignment of a REENABLING Tussock whose arrays firmware is not to write (R160, step 3). -/
theorem State.reenableAlign_spec (s : State) (g : Nat) (hstate : s.tskState g = tREEN) (haligned : (s.tuss g).aligned = false)
    (hfw : (s.tuss g).fwWrite = false) :
    ((s.reenableAlign g).tuss g).aligned = true ∧ ((s.reenableAlign g).tuss g).open_ = (s.tuss g).open_ ∧
      (∀ a, a < 17 → (s.reenableAlign g).Emptied g a) ∧ s.NoCause (s.reenableAlign g) g ∧
      s.OnlyTuss (s.reenableAlign g) g ((List.range 17).flatMap (emptyFlds g)) := by
  obtain ⟨t, ht, hframe, ⟨as, htuss⟩, hin, -⟩ := s.foldl_setArrState_empty g (List.range 17) fun a => List.mem_range.1
  have halign : s.reenableAlign g = t.updTuss g fun t =>
      { t with aligned := true, bringup := 0, bringAt := none } := by
    simp only [State.reenableAlign, hstate, haligned, and_self, if_true, ht]
    rw [if_neg]
    simp [htuss, hfw]
  rw [halign]
  refine ⟨by simp, by simp [htuss], fun a ha => hin a (List.mem_range.2 ha), ⟨?_, by simp [htuss]⟩, hframe.upd _⟩
  refine hframe.2.1.get_of_reg_ne fun x hx => ?_
  obtain ⟨a, -, hxa⟩ := List.mem_flatMap.1 hx
  exact emptyFlds_reg_ne hxa

theorem aligningMarker_spec (g : Tsk) (w : BitVec 51) (s : State) (hon : s.onT g = true) (habort : (s.tuss g).abortDue = false)
    (hstate : s.tskState g = tREEN) (haligned : (s.tuss g).aligned = false) (hfw : (s.tuss g).fwWrite = false)
    (hopen : (s.tuss g).open_ = some (w.toNat - 1)) (hpos : 0 < w.toNat) :
    ∃ t, exec (.swathMarker g w) s = .next t ∧ (t.tuss g).open_ = some w.toNat ∧ (t.tuss g).aligned = true ∧
      (∀ a, a < 17 → t.Emptied g a) ∧ s.NoCause t g ∧
      t = { s with regs := t.regs, tusss := t.tusss } ∧ ∀ h, h ≠ g.val → t.tuss h = s.tuss h := by
  obtain ⟨x, hx⟩ : ∃ x, w.toNat = x + 1 := ⟨w.toNat - 1, by omega⟩
  have hmarker := s.marker_next g x (by rw [hopen, hx]; rfl)
  have hnone := s.openOnTime_noCause g (x + 1) habort
  have hopened := s.openOnTime_onlyTuss g (x + 1) habort
  obtain ⟨u, hu, heq⟩ := s.openSwath_parts g (x + 1) habort
  obtain ⟨hal, hop, hempty, hnone', hframe⟩ := (s.openOnTime g (x + 1)).reenableAlign_spec g (by rwa [s.tskState_openOnTime g _ habort])
    (by simp [State.openOnTime, heq, hu.tuss_eq g, haligned]) (by simp [State.openOnTime, heq, hu.tuss_eq g, hfw])
  refine ⟨_, exec_swathMarker g w s hon, ?_⟩
  rw [hx, hmarker]
  exact ⟨by rw [hop]; simp [State.openOnTime], hal, hempty, ⟨hnone'.1.trans hnone.1, hnone'.2.trans hnone.2⟩, by rw [hframe.1, hopened.1],
    fun h hh => (hframe.2.2 h hh).trans (hopened.2.2 h hh)⟩

theorem tussockPllLock_spec (g : Tsk) (s : State) (hon : s.onT g = true) :
    (s.get F.PWR_STATUS_STATE = 2 → exec (.tussockPllLock g) s = .next s) ∧
    (s.get F.PWR_STATUS_STATE ≠ 2 → ∃ t, exec (.tussockPllLock g) s = .next t ∧ t.get (F.TSK_CLK_STATUS_LOCKED g) = 1 ∧
      s.OnlyRegs t [F.TSK_CLK_STATUS_LOCKED g]) := by
  rw [exec_tussockPllLock hon]
  refine ⟨fun h => by rw [if_pos h], fun h => ⟨_, rfl, ?_⟩⟩
  rw [if_neg h]
  exact ⟨State.get_set_same .., (State.OnlyRegs.refl s _).set 1 (by simp)⟩

/-- Settles O11, from what a marker does in each of its cases. -/
theorem markerAndLockBringTussockUp : Obligations.MarkerAndLockBringTussockUp := by
  refine ⟨firstMarker_spec, fun g w s hon hstate hopen hlate => ?_, aligningMarker_spec, tussockPllLock_spec⟩
  rw [exec_swathMarker g w s hon, s.marker_counted g _ hopen hlate, State.reenableAlign_of_ne _ g hstate]

/-! ### The host quarantines a Tussock and brings it back -/

theorem State.reenable_taken (s : State) (g : Nat) (identity : Bool) (hstate : s.tskState g = tQUAR)
    (hlock : s.on (F.TSK_CLK_STATUS_LOCKED g) = true) (hdue : (s.tuss g).quarDue = false) :
    s.reenable g identity = ((s.set (F.TSK_STATE_STATE g) tREEN).set (F.TSK_QUAR_CAUSE_CAUSE g) 0).updTuss g fun t =>
      { t with aligned := false, bringup := 0, bringAt := none, tableInit := t.tableInit || identity, fwWrite := !s.tskNamed g } :=
  if_pos ⟨hstate, hlock, hdue⟩

theorem tskQuarantineWrite_spec (g : Tsk) (s : State) (hreach : s.reach .TSK_CTRL g = true) :
    ∃ t, exec (.tskQuarantineWrite g) s = .next t ∧ s.CauseRaised t g 0 ∧ s.OnlyTuss t g [F.TSK_QUAR_CAUSE_CAUSE g] :=
  ⟨_, exec_tskQuarantineWrite hreach, s.raiseCause_causeRaised g 0, (State.OnlyTuss.refl s g _).raiseCause 0 (by simp)⟩

theorem tskReenable_spec (g : Tsk) (identity : Bool) (s : State) (hreach : s.reach .TSK_CTRL g = true) (hstate : s.tskState g = tQUAR)
    (hlock : s.on (F.TSK_CLK_STATUS_LOCKED g) = true) (hdue : (s.tuss g).quarDue = false) :
    ∃ t, exec (.tskReenable g identity) s = .next t ∧ t.tskState g = tREEN ∧ t.get (F.TSK_QUAR_CAUSE_CAUSE g) = 0 ∧
      (t.tuss g).tableInit = ((s.tuss g).tableInit || identity) ∧ (t.tuss g).aligned = false ∧
      s.OnlyTuss t g [F.TSK_STATE_STATE g, F.TSK_QUAR_CAUSE_CAUSE g] := by
  refine ⟨_, exec_tskReenable hreach, ?_⟩
  rw [s.reenable_taken g identity hstate hlock hdue]
  have hkey : (F.TSK_QUAR_CAUSE_CAUSE g).key ≠ (F.TSK_STATE_STATE g).key :=
    Fld.key_ne_of_reg (by decide : RegName.TSK_QUAR_CAUSE ≠ .TSK_STATE)
  refine ⟨?_, ?_, by simp, by simp, (((State.OnlyTuss.refl s g _).set _ (by simp)).set _ (by simp)).upd _⟩
  · rw [State.tskState, State.get_updTuss, State.get_set_ne _ _ hkey, State.get_set_same]; rfl
  · rw [State.get_updTuss, State.get_set_same]; rfl

theorem State.readyForService_iff (s : State) (g : Nat) : s.readyForService g = true ↔ s.tskState g = tREEN ∧ (s.tuss g).aligned = true ∧
    (s.tuss g).bringup = 2 ∧ (s.tuss g).quarDue = false ∧ ∀ k, k < 16 → s.arrState g (s.arrOf g k) = aVALID := by
  simp [State.readyForService, and_assoc]

theorem reenableService_spec (g : Tsk) (s : State) (hruns : s.runsT g = true) (hready : s.readyForService g = true) :
    ∃ t, exec (.reenableService g) s = .next t ∧ t.tskState g = tSERVICE ∧ s.OnlyRegs t [F.TSK_STATE_STATE g] :=
  ⟨_, congrArg Host.Outcome.next ((if_pos hruns).trans (if_pos hready)), State.get_set_same .., (State.OnlyRegs.refl s _).set _ (by simp)⟩

/-- Settles O12. -/
theorem hostQuarantineAndReenable : Obligations.HostQuarantineAndReenable := by
  refine ⟨tskQuarantineWrite_spec, tskReenable_spec, fun g identity s hreach hnot => ?_,
    fun g s hruns hstate haligned hbringup hdue hvalid =>
      reenableService_spec g s hruns ((s.readyForService_iff g).2 ⟨hstate, haligned, hbringup, hdue, hvalid⟩), fun g s hnot => ?_⟩
  · refine ⟨_, exec_tskReenable hreach, ?_⟩
    rw [State.reenable, if_neg hnot]
    exact ⟨State.get_set_same .., (State.OnlyRegs.refl s _).set 1 (by simp)⟩
  · change Host.Outcome.next (if s.runsT g then (if s.readyForService g then _ else s) else s) = _
    simp [hnot]

end Sys2Proof.Machine

/-! What a chain of updates leaves; test access; restore slots. -/
namespace Sys2Proof.Machine
open Sys2Proof

/-! ### The state rebuilt from a footprint -/

open Classical in
/-- `s` with the components of a footprint, and with the registers and what the Tussocks hold, taken from `t`. -/
noncomputable def State.mix (s t : State) (ps : Set Part) : State :=
  { pending := if .pending ∈ ps then t.pending else s.pending, free := if .free ∈ ps then t.free else s.free,
    time := if .time ∈ ps then t.time else s.time, regs := t.regs, mem := if .mem ∈ ps then t.mem else s.mem,
    latent := if .latent ∈ ps then t.latent else s.latent, flits := if .flits ∈ ps then t.flits else s.flits,
    irq := if .irq ∈ ps then t.irq else s.irq, host := if .host ∈ ps then t.host else s.host,
    mgmt := if .mgmt ∈ ps then t.mgmt else s.mgmt, out := if .out ∈ ps then t.out else s.out,
    stile := if .stile ∈ ps then t.stile else s.stile, jobs := if .jobs ∈ ps then t.jobs else s.jobs,
    nextJob := if .nextJob ∈ ps then t.nextJob else s.nextJob, engines := if .engines ∈ ps then t.engines else s.engines,
    flight := if .flight ∈ ps then t.flight else s.flight, t3 := if .t3 ∈ ps then t.t3 else s.t3,
    chans := if .chans ∈ ps then t.chans else s.chans, fresh := if .fresh ∈ ps then t.fresh else s.fresh,
    provs := if .provs ∈ ps then t.provs else s.provs, nextProv := if .nextProv ∈ ps then t.nextProv else s.nextProv,
    stallSwath := if .stallSwath ∈ ps then t.stallSwath else s.stallSwath, tusss := if ∃ g, .tuss g ∈ ps then t.tusss else s.tusss,
    areas := if .areas ∈ ps then t.areas else s.areas, recs := if .recs ∈ ps then t.recs else s.recs,
    prods := if .prods ∈ ps then t.prods else s.prods, genSets := if .genSets ∈ ps then t.genSets else s.genSets,
    leas := if .leas ∈ ps then t.leas else s.leas, leaFaults := if .leaFaults ∈ ps then t.leaFaults else s.leaFaults,
    chainRefs := if .chainRefs ∈ ps then t.chainRefs else s.chainRefs,
    legacyRefs := if .legacyRefs ∈ ps then t.legacyRefs else s.legacyRefs, commits := if .commits ∈ ps then t.commits else s.commits,
    images := if .images ∈ ps then t.images else s.images, verifs := if .verifs ∈ ps then t.verifs else s.verifs,
    loads := if .loads ∈ ps then t.loads else s.loads, tests := if .tests ∈ ps then t.tests else s.tests,
    pubKeys := if .pubKeys ∈ ps then t.pubKeys else s.pubKeys, testKey := if .testKey ∈ ps then t.testKey else s.testKey,
    fractionOld := if .fractionOld ∈ ps then t.fractionOld else s.fractionOld,
    fractionAt := if .fractionAt ∈ ps then t.fractionAt else s.fractionAt, ctxs := if .ctxs ∈ ps then t.ctxs else s.ctxs,
    sensors := if .sensors ∈ ps then t.sensors else s.sensors, heather := if .heather ∈ ps then t.heather else s.heather,
    entry := if .entry ∈ ps then t.entry else s.entry, waking := if .waking ∈ ps then t.waking else s.waking,
    slept := if .slept ∈ ps then t.slept else s.slept, quarters := if .quarters ∈ ps then t.quarters else s.quarters,
    boot := if .boot ∈ ps then t.boot else s.boot, flash := if .flash ∈ ps then t.flash else s.flash,
    tap := if .tap ∈ ps then t.tap else s.tap }

theorem ite_same {α : Type} {p : Prop} {_ : Decidable p} {x y : α} (h : ¬p → x = y) : x = if p then x else y := by
  split <;> simp_all

/-- What an operation leaves alone, as one equation. -/
theorem State.Only.eq_mix {s t : State} {ps : Set Part} (h : s.Only ps t) : t = s.mix t ps := by
  have hpart (p : Part) : p ∉ ps → p.Same s t := h.same p
  cases t
  simp only [State.mix, State.mk.injEq, true_and]
  exact ⟨ite_same (hpart .pending), ite_same (hpart .free), ite_same (hpart .time), ite_same (hpart .mem), ite_same (hpart .latent), ite_same (hpart .flits), ite_same (hpart .irq), ite_same (hpart .host), ite_same (hpart .mgmt), ite_same (hpart .out), ite_same (hpart .stile), ite_same (hpart .jobs), ite_same (hpart .nextJob), ite_same (hpart .engines), ite_same (hpart .flight), ite_same (hpart .t3), ite_same (hpart .chans), ite_same (hpart .fresh), ite_same (hpart .provs), ite_same (hpart .nextProv), ite_same (hpart .stallSwath), ite_same fun hno => h.tusss fun g hg => hno ⟨g, hg⟩, ite_same (hpart .areas), ite_same (hpart .recs), ite_same (hpart .prods), ite_same (hpart .genSets), ite_same (hpart .leas), ite_same (hpart .leaFaults), ite_same (hpart .chainRefs), ite_same (hpart .legacyRefs), ite_same (hpart .commits), ite_same (hpart .images), ite_same (hpart .verifs), ite_same (hpart .loads), ite_same (hpart .tests), ite_same (hpart .pubKeys), ite_same (hpart .testKey), ite_same (hpart .fractionOld), ite_same (hpart .fractionAt), ite_same (hpart .ctxs), ite_same (hpart .sensors), ite_same (hpart .heather), ite_same (hpart .entry), ite_same (hpart .waking), ite_same (hpart .slept), ite_same (hpart .quarters), ite_same (hpart .boot), ite_same (hpart .flash), ite_same (hpart .tap)⟩

/-! ### What a chain of updates leaves in a register field and in an array -/

section
variable (s : State) {f f' : Fld} (h : f.key ≠ f'.key)
include h
theorem State.get_inc_ne : (s.inc f).get f' = s.get f' := by rw [State.inc_eq, State.get_set_ne s _ h]
theorem State.get_incBy_ne (n : Nat) : (s.incBy f n).get f' = s.get f' := by rw [State.incBy_eq, State.get_set_ne s _ h]
theorem State.get_incMod_ne : (s.incMod f).get f' = s.get f' := State.get_set_ne s _ h
theorem State.get_setIf_ne (c : Bool) (v : Nat) : (s.setIf c f v).get f' = s.get f' := by
  unfold State.setIf; split; exacts [State.get_set_ne s _ h, rfl]
end

section
variable (s : State) (g a : Nat)
@[simp] theorem State.arr_updArr (u : Arr17 → Arr17) : (s.updArr g a u).arr g a = u (s.arr g a) := by
  simp [State.arr, State.updArr]
@[simp] theorem State.arr_set (f : Fld) (v : Nat) : (s.set f v).arr g a = s.arr g a := rfl
@[simp] theorem State.arr_incMod (f : Fld) : (s.incMod f).arr g a = s.arr g a := rfl
@[simp] theorem State.arr_inc (f : Fld) : (s.inc f).arr g a = s.arr g a := by rw [State.inc_eq, State.arr_set]
@[simp] theorem State.arr_incBy (f : Fld) (n : Nat) : (s.incBy f n).arr g a = s.arr g a := by rw [State.incBy_eq, State.arr_set]
@[simp] theorem State.arr_setChan (n : Nat) (c : Chan) : (s.setChan n c).arr g a = s.arr g a := rfl
@[simp] theorem State.get_updArr (u : Arr17 → Arr17) (f : Fld) : (s.updArr g a u).get f = s.get f := rfl
@[simp] theorem State.get_setChan (n : Nat) (c : Chan) (f : Fld) : (s.setChan n c).get f = s.get f := rfl
end

theorem State.OnlyRegs.mono {s t : State} {fs gs : List Fld} (h : s.OnlyRegs t fs) (sub : ∀ f ∈ fs, f ∈ gs) : s.OnlyRegs t gs :=
  ⟨h.1, h.2.mono sub⟩

section
variable {s t : State} {ps : Set Part}
theorem State.Only.get (h : s.Only ps t) {f : Fld} (hf : Part.reg f.r ∉ ps) : t.get f = s.get f := h.same _ hf f rfl
theorem State.Only.tuss (h : s.Only ps t) {g : Nat} (hg : Part.tuss g ∉ ps) : t.tuss g = s.tuss g := h.same _ hg
end

/-! ### Test access -/

theorem State.tapTest_driven {s : State} {code : Nat} {act : Tap → Tap} (hlow : s.heather.rstLow = true) :
    s.tapTest code true act = { s with tap := act { s.tap with ir := code, drives := false, highz := false } } := by
  simp [State.tapTest, hlow]

theorem State.tapTest_bypassed {s : State} {code : Nat} {good : Bool} {act : Tap → Tap}
    (h : s.heather.rstLow = false ∨ good = false) : s.tapTest code good act = s.tapBypass code := by
  rcases h with h | h <;> simp [State.tapTest, h]

/-- Settles O36, by the two cases of an instruction that acts only in reset with MAIN_GOOD. -/
theorem testAccessInstructions : Obligations.TestAccessInstructions := by
  intro s
  refine ⟨rfl, fun _ _ => rfl, fun c code pins shifted hlow hc => ?_, fun hlow => ?_, fun hlow => ?_,
    fun c code good pins shifted hnot hc => ?_, fun _ => rfl⟩
  · simp only [List.mem_cons, Prod.mk.injEq, List.not_mem_nil, or_false] at hc
    rcases hc with ⟨rfl, rfl⟩ | ⟨rfl, rfl⟩ | ⟨rfl, rfl⟩ <;> exact congrArg Host.Outcome.next (State.tapTest_driven hlow)
  · exact congrArg Host.Outcome.next (State.tapTest_driven hlow)
  · exact congrArg Host.Outcome.next (State.tapTest_driven hlow)
  · simp only [List.mem_cons, Prod.mk.injEq, List.not_mem_nil, or_false] at hc
    rcases hc with ⟨rfl, rfl⟩ | ⟨rfl, rfl⟩ | ⟨rfl, rfl⟩ | ⟨rfl, rfl⟩ | ⟨rfl, rfl⟩ <;>
      exact congrArg Host.Outcome.next (State.tapTest_bypassed hnot)

/-! ### Restore slots -/

theorem Arr17.acc_setPair (r : Arr17) (row col : Nat) (v : Nat × Nat) : (r.setPair row col v).acc = r.acc := rfl

theorem Arr17.acc_foldl_setPair (r : Arr17) (row : Nat) (l : List (Nat × Nat × Nat)) :
    (l.foldl (fun r (j, p, n) => r.setPair row j (p, n)) r).acc = r.acc := by
  induction l generalizing r with
  | nil => rfl
  | cons x l ih => exact ih _

/-- An operation keeps an array's accumulator and cells, and every field outside a list. -/
structure State.CellsKept (s t : State) (g a : Nat) (fs : List Fld) : Prop where
  acc : (t.arr g a).acc = (s.arr g a).acc
  cells : (t.arr g a).cells = (s.arr g a).cells
  regs : s.RegsBut t fs

section
variable {s t u : State} {g a : Nat} {fs : List Fld}

theorem State.CellsKept.refl (s : State) (g a : Nat) (fs : List Fld) : s.CellsKept s g a fs := ⟨rfl, rfl, .refl s fs⟩

theorem State.CellsKept.trans (h : s.CellsKept t g a fs) (k : t.CellsKept u g a fs) : s.CellsKept u g a fs :=
  ⟨k.acc.trans h.acc, k.cells.trans h.cells, h.regs.trans k.regs⟩

theorem State.CellsKept.set (h : s.CellsKept t g a fs) {f : Fld} (v : Nat) (hf : f ∈ fs) : s.CellsKept (t.set f v) g a fs :=
  ⟨h.acc, h.cells, h.regs.set v hf⟩

theorem State.CellsKept.incBy (h : s.CellsKept t g a fs) {f : Fld} (n : Nat) (hf : f ∈ fs) : s.CellsKept (t.incBy f n) g a fs := by
  rw [State.incBy_eq]; exact h.set _ hf

theorem State.CellsKept.upd (h : s.CellsKept t g a fs) {x : Arr17 → Arr17} (hacc : (x (t.arr g a)).acc = (t.arr g a).acc)
    (hcells : (x (t.arr g a)).cells = (t.arr g a).cells) : s.CellsKept (t.updArr g a x) g a fs :=
  h.trans ⟨by simp [hacc], by simp [hcells], .congr fs rfl⟩

theorem State.CellsKept.shadowSwap (h : s.CellsKept t g a fs) (hr : shadowMap g a ∈ fs) : s.CellsKept (t.shadowSwap g a) g a fs := by
  unfold State.shadowSwap
  split
  · exact h
  · exact (h.upd rfl rfl).set _ hr

theorem State.CellsKept.ite {p : Prop} [Decidable p] (h : p → s.CellsKept t g a fs) (k : ¬p → s.CellsKept u g a fs) :
    s.CellsKept (if p then t else u) g a fs := by
  split <;> simp_all

theorem State.CellsKept.fillShadow (h : s.CellsKept t g a fs) (hr : shadowMap g a ∈ fs) (row next : Nat) :
    s.CellsKept (t.fillShadow g a row next) g a fs := by
  have hfirst : s.CellsKept (if (t.arr g a).filling.isSome ∧ row = (t.arr g a).fillFrom then t.shadowSwap g a else t) g a fs :=
    .ite (fun _ => h.shadowSwap hr) fun _ => h
  unfold State.fillShadow
  generalize (if (t.arr g a).filling.isSome ∧ row = (t.arr g a).fillFrom then t.shadowSwap g a else t) = v at hfirst ⊢
  refine .ite (fun _ => State.CellsKept.shadowSwap ?_ hr) fun _ => ?_ <;> apply hfirst.upd <;> rfl

theorem State.CellsKept.queueRepair (h : s.CellsKept t g a fs) (hr : F.TSK_ARR_STATUS_REPAIR_PENDING g a ∈ fs) (row : Nat) :
    s.CellsKept (t.queueRepair g a row) g a fs := by
  have hset := h.set 1 hr
  unfold State.queueRepair
  dsimp only
  split
  · exact hset
  · exact hset.trans ⟨rfl, rfl, .congr fs rfl⟩

end

/-- The fields that a restored row may change beside its counts. -/
def repairFlds (g a : Nat) : List Fld :=
  [F.TSK_ARR_EVENTS_INVALID_PAIR_CNT g a, F.TSK_ARR_STATUS_INVALID_PAIR g a, F.TSK_ARR_STATUS_REPAIR_PENDING g a, shadowMap g a]

/-- The levels sensed in a row stand in its cells, and a marginal row is counted. -/
def State.senseRow (s : State) (g a row : Nat) (m : Bool) (sensed : List (Nat × Nat × Nat)) : State :=
  let t := s.updArr g a fun r => sensed.foldl (fun r (j, p, n) => r.setPair row j (p, n)) r
  if m then (t.inc (F.TSK_ARR_EVENTS_MARGINAL_CNT g a)).set (F.TSK_ARR_STATUS_MARGINAL g a) 1 else t

/-- A sensed row keeps the accumulator and, where nothing was sensed, the cells; a marginal one counts. -/
theorem State.senseRow_spec (s : State) (g a row : Nat) (m : Bool) (sensed : List (Nat × Nat × Nat)) :
    ∃ t, s.senseRow g a row m sensed = t ∧ (∀ f : Fld, f.r ∉ [.TSK_ARR_EVENTS, .TSK_ARR_STATUS] → t.get f = s.get f) ∧
      t.get (F.TSK_ARR_EVENTS_MARGINAL_CNT g a) = (if m then min (s.get (F.TSK_ARR_EVENTS_MARGINAL_CNT g a) + 1)
        (2 ^ (F.TSK_ARR_EVENTS_MARGINAL_CNT g a).w - 1) else s.get (F.TSK_ARR_EVENTS_MARGINAL_CNT g a)) ∧
      (m = true → t.get (F.TSK_ARR_STATUS_MARGINAL g a) = 1) ∧ (t.arr g a).acc = (s.arr g a).acc ∧
      (sensed = [] → (t.arr g a).cells = (s.arr g a).cells) := by
  have hne : (F.TSK_ARR_STATUS_MARGINAL g a).key ≠ (F.TSK_ARR_EVENTS_MARGINAL_CNT g a).key :=
    Fld.key_ne_of_reg (by simp [F.TSK_ARR_STATUS_MARGINAL, F.TSK_ARR_EVENTS_MARGINAL_CNT])
  refine ⟨_, rfl, fun f hf => ?_, ?_⟩ <;> unfold State.senseRow <;> cases m
  · rfl
  · simp only [List.mem_cons, List.not_mem_nil, or_false, not_or] at hf
    exact (State.get_set_ne _ _ (Fld.key_ne_of_reg (Ne.symm hf.2))).trans (State.get_inc_ne _ (Fld.key_ne_of_reg (Ne.symm hf.1)))
  · exact ⟨rfl, nofun, by simp [Arr17.acc_foldl_setPair], fun hs => by simp [hs]⟩
  · exact ⟨by simp [State.get_set_ne _ _ hne], fun _ => State.get_set_same .., by simp [Arr17.acc_foldl_setPair], fun hs => by simp [hs]⟩

/-- A restored row: the cells as they were sensed, what is wrong with them noted for repair, the counts, and the shadow copy. -/
theorem State.restoreRow_parts (s : State) (g a row : Nat) (m : Bool) (sensed : List (Nat × Nat × Nat)) :
    ∃ t, (s.senseRow g a row m sensed).CellsKept t g a (repairFlds g a) ∧
      ((t.incMod (F.TSK_ARR_RESTORE_CNT_COUNT g a)).set (F.TSK_ARR_RESTORE_ROW_PTR g a) (row + 1)).CellsKept
        (s.restoreRow g a row m sensed) g a (repairFlds g a) := by
  unfold State.restoreRow
  extract_lets s0 bad s1 s2 s3 s4 s5
  have h1 : s1 = s.senseRow g a row m sensed := rfl
  have h2 : s1.CellsKept s2 g a (repairFlds g a) :=
    .ite (fun _ => .refl ..) fun _ => ((State.CellsKept.refl ..).incBy _ (by simp [repairFlds])).set _ (by simp [repairFlds])
  have h3 : s1.CellsKept s3 g a (repairFlds g a) := .ite (fun _ => h2.queueRepair (by simp [repairFlds]) row) fun _ => h2
  have h4 : s1.CellsKept s4 g a (repairFlds g a) := by
    refine .ite (fun _ => h3) fun _ => ?_
    apply h3.upd <;> simp only [Arr17.setSums]
  refine ⟨s4, h1 ▸ h4, .ite (fun _ => ?_) fun _ => .refl ..⟩
  exact (State.CellsKept.refl ..).fillShadow (by simp [repairFlds]) _ _

theorem restoreFraction_lt (x : Nat) : restoreFraction x < 65536 := by
  unfold restoreFraction
  split
  · omega
  · split
    · omega
    · exact Nat.lt_of_le_of_lt (Nat.min_le_right _ _) (by omega)

theorem exec_restoreSlot {g : Tsk} {a : Arr} {c : BitVec 8} {m : Bool} {sensed : List (Fin 260 × Fin 16 × Fin 16)} {s : State}
    (hon : s.onT g = true) (hopen : (s.tuss g).open_ = some s.swath) (hused : (a.val, s.swath * 256 + c.toNat) ∉ (s.tuss g).used)
    (hslot : isRestoreSlot g s.swath c.toNat = true) :
    exec (.restoreSlot g a c m sensed) s = .next (s.restoreSlot g a (s.swath * 256 + c.toNat) m (cellList sensed)) := by
  change execRestoreSlot g a c m sensed s = _
  simp [execRestoreSlot, State.ifAnyCycle, State.ifPowered, hon, hopen, hused, hslot]

@[simp] theorem State.arr_spend (s : State) (g a b : Nat) (xs : List Nat) : (s.spend g b xs).arr g a = s.arr g a := by
  simp [State.arr, State.spend]
@[simp] theorem State.get_spend (s : State) (g a : Nat) (xs : List Nat) (f : Fld) : (s.spend g a xs).get f = s.get f := rfl

/-- The fields of an array that restore counts in stand apart from each other and from those of a repair. -/
theorem State.RegsBut.restore {s t : State} {g a : Nat} (h : s.RegsBut t (repairFlds g a)) :
    t.get (F.TSK_ARR_RESTORE_FRACTION g a) = s.get (F.TSK_ARR_RESTORE_FRACTION g a) ∧
      t.get (F.TSK_ARR_RESTORE_ROW_PTR g a) = s.get (F.TSK_ARR_RESTORE_ROW_PTR g a) ∧
      t.get (F.TSK_ARR_RESTORE_CNT_COUNT g a) = s.get (F.TSK_ARR_RESTORE_CNT_COUNT g a) ∧
      t.get (F.TSK_ARR_EVENTS_MARGINAL_CNT g a) = s.get (F.TSK_ARR_EVENTS_MARGINAL_CNT g a) ∧
      t.get (F.TSK_ARR_STATUS_MARGINAL g a) = s.get (F.TSK_ARR_STATUS_MARGINAL g a) := by
  refine ⟨h _ ?_, h _ ?_, h _ ?_, h _ ?_, h _ ?_⟩ <;>
    simp [repairFlds, Fld.key_iff, F.TSK_ARR_EVENTS_INVALID_PAIR_CNT, F.TSK_ARR_STATUS_INVALID_PAIR, F.TSK_ARR_STATUS_REPAIR_PENDING,
      shadowMap, F.TSK_ARR_RESTORE_FRACTION, F.TSK_ARR_RESTORE_ROW_PTR, F.TSK_ARR_RESTORE_CNT_COUNT, F.TSK_ARR_EVENTS_MARGINAL_CNT,
      F.TSK_ARR_STATUS_MARGINAL]

/-- What a row's restore counts. -/
theorem State.restoreRow_counts (s : State) (g a row : Nat) (m : Bool) (sensed : List (Nat × Nat × Nat)) :
    ∃ t, s.restoreRow g a row m sensed = t ∧ t.get (F.TSK_ARR_RESTORE_FRACTION g a) = s.get (F.TSK_ARR_RESTORE_FRACTION g a) ∧
      (t.arr g a).acc = (s.arr g a).acc ∧
      t.get (F.TSK_ARR_RESTORE_CNT_COUNT g a) = (s.get (F.TSK_ARR_RESTORE_CNT_COUNT g a) + 1) % 2 ^ (F.TSK_ARR_RESTORE_CNT_COUNT g a).w ∧
      t.get (F.TSK_ARR_RESTORE_ROW_PTR g a) = (row + 1) % 512 ∧
      t.get (F.TSK_ARR_EVENTS_MARGINAL_CNT g a) = (if m then min (s.get (F.TSK_ARR_EVENTS_MARGINAL_CNT g a) + 1)
        (2 ^ (F.TSK_ARR_EVENTS_MARGINAL_CNT g a).w - 1) else s.get (F.TSK_ARR_EVENTS_MARGINAL_CNT g a)) ∧
      (m = true → t.get (F.TSK_ARR_STATUS_MARGINAL g a) = 1) ∧ (sensed = [] → (t.arr g a).cells = (s.arr g a).cells) := by
  obtain ⟨u, ⟨hacc₁, hcells₁, hregs₁⟩, ⟨hacc₂, hcells₂, hregs₂⟩⟩ := s.restoreRow_parts g a row m sensed
  obtain ⟨f₁, p₁, c₁, m₁, b₁⟩ := hregs₁.restore
  obtain ⟨f₂, p₂, c₂, m₂, b₂⟩ := hregs₂.restore
  obtain ⟨_, rfl, hget, hm, hb, hacc, hcells⟩ := s.senseRow_spec g a row m sensed
  have hcount (f : Fld) (hf : f.r ∉ [.TSK_ARR_RESTORE_CNT, .TSK_ARR_RESTORE] ∨ f = F.TSK_ARR_RESTORE_FRACTION g a) :
      ((u.incMod (F.TSK_ARR_RESTORE_CNT_COUNT g a)).set (F.TSK_ARR_RESTORE_ROW_PTR g a) (row + 1)).get f = u.get f := by
    rcases hf with hf | rfl
    · simp only [List.mem_cons, List.not_mem_nil, or_false, not_or] at hf
      rw [State.get_set_ne _ _ (Fld.key_ne_of_reg (Ne.symm hf.2)), State.get_incMod_ne _ (Fld.key_ne_of_reg (Ne.symm hf.1))]
    · simp [Fld.key_iff, State.get_incMod_ne, State.get_set_ne, F.TSK_ARR_RESTORE_FRACTION, F.TSK_ARR_RESTORE_ROW_PTR, F.TSK_ARR_RESTORE_CNT_COUNT]
  refine ⟨_, rfl, ?_, hacc₂.trans (.trans (by simp) (hacc₁.trans hacc)), ?_, ?_, ?_, fun hm => ?_, fun hs => hcells₂.trans (.trans (by simp) (hcells₁.trans (hcells hs)))⟩
  · rw [f₂, hcount _ (.inr rfl), f₁, hget _ (by simp [F.TSK_ARR_RESTORE_FRACTION])]
  · rw [c₂, State.get_set_ne _ _ (Fld.key_ne_of_reg (by simp [F.TSK_ARR_RESTORE_CNT_COUNT, F.TSK_ARR_RESTORE_ROW_PTR])), State.incMod,
      State.get_set_same, c₁, hget _ (by simp [F.TSK_ARR_RESTORE_CNT_COUNT])]
  · rw [p₂, State.get_set_same]
    rfl
  · rw [m₂, hcount _ (.inl (by simp [F.TSK_ARR_EVENTS_MARGINAL_CNT])), m₁, hm]
  · rw [b₂, hcount _ (.inl (by simp [F.TSK_ARR_STATUS_MARGINAL])), b₁, hb hm]

/-- Settles O17, by the two cases of the accumulator. -/
theorem restoreAccumulatesAndRestoresRows : Obligations.RestoreAccumulatesAndRestoresRows := by
  intro g a c m sensed s f x ptr row hon hopen hused hslot hf hx hptr hrow
  have hexec := exec_restoreSlot (m := m) (sensed := sensed) hon hopen hused hslot
  have hsensed : sensed = [] → cellList sensed = [] := fun h => h ▸ rfl
  generalize s.swath * 256 + c.toNat = y at hexec hrow hused
  generalize cellList sensed = cs at hexec hsensed
  have hf16 : f % 2 ^ 16 = f := Nat.mod_eq_of_lt (hf ▸ restoreFraction_lt _)
  obtain ⟨v, hv⟩ : ∃ v, (s.spend g a [y]).set (F.TSK_ARR_RESTORE_FRACTION g a) f = v := ⟨_, rfl⟩
  have hvf : v.get (F.TSK_ARR_RESTORE_FRACTION g a) = f := by rw [← hv, State.get_set_same]; exact hf16
  have hvget : s.RegsBut v [F.TSK_ARR_RESTORE_FRACTION g a] := hv ▸ (State.RegsBut.congr _ rfl).set _ (by simp)
  have hvarr : v.arr g a = s.arr g a := by simp [← hv]
  have hvptr : v.get (F.TSK_ARR_RESTORE_ROW_PTR g a) = ptr :=
    hptr ▸ hvget _ (by simp [Fld.key_iff, F.TSK_ARR_RESTORE_FRACTION, F.TSK_ARR_RESTORE_ROW_PTR])
  have heq : s.restoreSlot g a y m cs = if x < 65536 then v.updArr g a fun r => { r with acc := x }
    else (v.updArr g a fun r => { r with acc := x - 65536 }).restoreRow g a row m cs := by
    simp only [State.restoreSlot, State.get_spend, ← hf, hv, hvarr, ← hx, State.get_updArr, hvptr, ← hrow]
  refine ⟨fun hlt => ⟨_, hexec, ?_⟩, fun hge => ⟨_, hexec, ?_⟩⟩
  · rw [heq, if_pos hlt]
    exact ⟨by simp [hvf], by simp, by simp [hvarr], hv ▸ ((((State.OnlyTuss.refl s g _).upd _).set _ (by simp)).upd _)⟩
  · have hframe : s.Only ({.chans, .tuss g} ∪ Part.regs) (s.restoreSlot g a y m cs) := by simp
    have hother : (∀ h, h ≠ g.val → (s.restoreSlot g a y m cs).tuss h = s.tuss h) := fun h hh => hframe.same (.tuss h) (by simp [hh])
    have hstate := hframe.eq_mix
    rw [heq, if_neg (by omega)] at hother hstate ⊢
    obtain ⟨t, ht, hfrac, hacc, hcnt, hptr', hm, hb, hcells⟩ := (v.updArr g a fun r => { r with acc := x - 65536 }).restoreRow_counts g a row m cs
    rw [ht] at hother hstate ⊢
    simp only [State.get_updArr, State.arr_updArr, hvarr] at hfrac hacc hcnt hm hcells
    rw [hvget _ (by simp [Fld.key_iff, F.TSK_ARR_RESTORE_FRACTION, F.TSK_ARR_RESTORE_CNT_COUNT])] at hcnt
    rw [hvget _ (by simp [Fld.key_iff, F.TSK_ARR_RESTORE_FRACTION, F.TSK_ARR_EVENTS_MARGINAL_CNT])] at hm
    exact ⟨hfrac.trans hvf, hacc, hcnt, hptr', hm, hb, fun h => hcells (hsensed h), hother, hstate.trans (by simp [State.mix])⟩

end Sys2Proof.Machine

namespace Sys2Proof.Machine
open Sys2Proof

/-! ### Trim access -/

theorem State.get_answer (s : State) (r : Agent) (v : Nat) (f : Fld) : (s.answer r v).get f = s.get f := by cases r <;> rfl

theorem State.answers_answer (s : State) (r : Agent) (v : Nat) (fs : List Fld) : s.Answers (s.answer r v) r v fs := by
  refine ⟨by cases r <;> rfl, .congr _ (by cases r <;> rfl), by cases r <;> rfl, fun b hb => ?_⟩
  cases r <;> cases b <;> first | exact absurd rfl hb | rfl

theorem State.Answers.set {s t : State} {r : Agent} {v : Nat} {fs : List Fld} (h : s.Answers t r v fs) {f : Fld} (x : Nat) (hf : f ∈ fs) :
    s.Answers (t.set f x) r v fs := by
  obtain ⟨hdata, hregs, hstate, hother⟩ := h
  refine ⟨?_, hregs.set x hf, ?_, fun b hb => ?_⟩
  · exact hdata ▸ by cases r <;> rfl
  · conv_lhs => rw [hstate]
    rfl
  · exact (hother b hb) ▸ by cases b <;> rfl

/-- INDEX after an access that has left BRK_TRIM_SEL alone. -/
theorem State.trimNext_index {s t : State} {g i : Nat} (hi : i = s.get (F.BRK_TRIM_SEL_INDEX g))
    (h : ∀ f : Fld, f.r = .BRK_TRIM_SEL → t.get f = s.get f) :
    (t.trimNext g).get (F.BRK_TRIM_SEL_INDEX g) = if s.on (F.BRK_TRIM_SEL_AUTO_INC g) then (i + 1) % 256 else i := by
  rw [hi, ← h _ rfl, State.on, ← h (F.BRK_TRIM_SEL_AUTO_INC g) rfl]
  unfold State.trimNext
  split <;> simp_all [State.on, F.BRK_TRIM_SEL_INDEX]

theorem State.trimNext_onlyRegs (s : State) (g : Nat) : s.OnlyRegs (s.trimNext g) [F.BRK_TRIM_SEL_INDEX g] := by
  unfold State.trimNext
  split
  exacts [(State.OnlyRegs.refl s _).set _ (by simp), .refl s _]

theorem exec_trimDataRead {g : Tsk} {r : Agent} {s : State} (h : s.reach .BRK_TRIM_DATA g = true) :
    exec (.trimDataRead g r) s = .next ((s.answer r (s.trimSelected g)).trimNext g) := congrArg Host.Outcome.next (if_pos h)

theorem exec_trimDataRead_unreached {g : Tsk} {r : Agent} {s : State} (h : s.reach .BRK_TRIM_DATA g = false) :
    exec (.trimDataRead g r) s = .next (s.answer r 0xFFFFFFFF) := congrArg Host.Outcome.next (if_neg (by simp [h]))

theorem exec_trimDataWrite {g : Tsk} {v : Word} {s : State} (h : s.reach .BRK_TRIM_DATA g = true) :
    exec (.trimDataWrite g v) s = .next (s.trimWrite g v.toNat) := congrArg Host.Outcome.next (if_pos h)

/-- Whether a trim word takes a write. -/
def State.TrimOpen (s : State) (g a i : Nat) : Prop :=
  trimMask a i ≠ 0 ∧ if a = 17 then s.tskState g = tQUAR ∨ s.tskState g = tREEN else s.tableOpen g a = true

theorem State.trimWrite_of_open {s : State} {g a i : Nat} (v : Nat) (ha : a = s.get (F.BRK_TRIM_SEL_ARRAY g))
    (hi : i = s.get (F.BRK_TRIM_SEL_INDEX g)) (h : s.TrimOpen g a i) : s.trimWrite g v =
      (if a < 17 then (s.setTrim g a i (Nat.land v (trimMask a i))).countSpares g a
        else s.setTrim g a i (Nat.land v (trimMask a i))).trimNext g := by
  subst ha hi
  exact congrArg (State.trimNext · g) (if_pos h)

theorem State.trimWrite_of_not_open {s : State} {g a i : Nat} (v : Nat) (ha : a = s.get (F.BRK_TRIM_SEL_ARRAY g))
    (hi : i = s.get (F.BRK_TRIM_SEL_INDEX g)) (h : ¬s.TrimOpen g a i) :
    s.trimWrite g v = (s.set (F.BRK_STATUS_TRIM_WR_REJECT g) 1).trimNext g := by
  subst ha hi
  exact congrArg (State.trimNext · g) (if_neg h)

theorem trimMask_ne_zero {a i : Nat} (h : trimMask a i ≠ 0) : a < 17 ∧ i < 256 ∨ a = 17 ∧ i < 8 := by
  unfold trimMask at h
  grind

/-- A trim word set reads as set, and every other word of the Tussock as before. -/
theorem State.trim_setTrim (s : State) (g : Nat) {a i : Nat} (v : Nat) (h : trimMask a i ≠ 0) :
    (s.setTrim g a i v).trim g a i = v ∧ ∀ b k, (b, k) ≠ (a, i) → b < 17 → k < 256 → (s.setTrim g a i v).trim g b k = s.trim g b k := by
  rcases trimMask_ne_zero h with ⟨ha, hi⟩ | ⟨rfl, hi⟩
  · have h17 : a ≠ 17 := by omega
    refine ⟨by simp [State.setTrim, State.trim, h17], fun b k hbk hb hk => ?_⟩
    have hb17 : b ≠ 17 := by omega
    have hkey : a * 256 + i ≠ b * 256 + k := fun e => hbk (by rw [Prod.mk.injEq]; omega)
    simp [State.setTrim, State.trim, h17, hb17, Tab.get_set_ne _ _ _ hkey]
  · refine ⟨by simp [State.setTrim, State.trim, hi, Nat.mod_eq_of_lt hi], fun b k _ hb _ => ?_⟩
    have hb17 : b ≠ 17 := by omega
    simp [State.setTrim, State.trim, hi, hb17]
    rfl

theorem State.trim_of_parts {s t : State} (htuss : t.tusss = s.tusss) (hgen : t.genSets = s.genSets) (g b k : Nat) : t.trim g b k = s.trim g b k := by
  simp only [State.trim, State.tuss, htuss, hgen]

theorem State.sparesUsed_le (s : State) (g a : Nat) : s.sparesUsed g a ≤ 8 := (List.length_filter_le _ _).trans (by simp)

theorem State.setTrim_regs (s : State) (g a i v : Nat) : (s.setTrim g a i v).regs = s.regs := by
  unfold State.setTrim
  split <;> (try split) <;> rfl

/-- The word that a write of BRK_TRIM_DATA sets, with SPARES of its array. -/
def State.trimSet (s : State) (g a i v : Nat) : State :=
  if a < 17 then (s.setTrim g a i v).countSpares g a else s.setTrim g a i v

theorem State.trimSet_spec (s : State) (g : Nat) {a i : Nat} (v : Nat) (h : trimMask a i ≠ 0) :
    ∃ t, s.trimSet g a i v = t ∧ t.trim g a i = v ∧ (∀ b k, (b, k) ≠ (a, i) → b < 17 → k < 256 → t.trim g b k = s.trim g b k) ∧
      (a < 17 → t.get (F.BRK_ARR_CAL_SPARES g a) = t.sparesUsed g a) ∧
      s.RegsBut t (if a < 17 then [F.BRK_ARR_CAL_SPARES g a] else []) := by
  obtain ⟨hsame, hother⟩ := s.trim_setTrim g v h
  have hregs : s.RegsBut (s.setTrim g a i v) (if a < 17 then [F.BRK_ARR_CAL_SPARES g a] else []) := .congr _ (s.setTrim_regs g a i v)
  refine ⟨_, rfl, ?_⟩
  unfold State.trimSet
  by_cases ha : a < 17
  · rw [if_pos ha]
    have hspares : (((s.setTrim g a i v).countSpares g a).sparesUsed g a) = (s.setTrim g a i v).sparesUsed g a := rfl
    refine ⟨hsame, hother, fun _ => ?_, by rw [if_pos ha] at hregs ⊢; exact hregs.set _ (by simp)⟩
    have hle := (s.setTrim g a i v).sparesUsed_le g a
    rw [hspares, State.countSpares, State.get_set_same]
    exact Nat.mod_eq_of_lt (Nat.lt_of_le_of_lt hle (by simp [F.BRK_ARR_CAL_SPARES]))
  · rw [if_neg ha]
    exact ⟨hsame, hother, fun h => absurd h ha, hregs⟩

/-- Settles O34, by whether the register is reached and whether the word takes the write. -/
theorem trimWordsReadAndWritten : Obligations.TrimWordsReadAndWritten := by
  intro g s a i ha hi next
  have hsel : s.trimSelected g = if trimMask a i = 0 then 0 else s.trim g a i := by subst ha hi; rfl
  refine ⟨fun r hreach => ?_, fun r hreach => ⟨_, exec_trimDataRead_unreached hreach, s.answers_answer r _ _⟩, fun v hreach => ?_⟩
  · refine ⟨_, exec_trimDataRead hreach, State.trimNext_index hi fun f _ => s.get_answer r _ f, ?_⟩
    rw [← hsel, State.trimNext]
    split
    · exact (s.answers_answer r _ _).set _ (by simp)
    · exact s.answers_answer r _ _
  · have hexec := exec_trimDataWrite (v := v) hreach
    have hframe : s.Only {.genSets, .tuss g, .reg .BRK_TRIM_SEL, .reg .BRK_ARR_CAL, .reg .BRK_STATUS} (s.trimWrite g v.toNat) := by simp
    refine ⟨fun hok => ⟨_, hexec, ?_⟩, fun hok => ⟨_, hexec, ?_⟩⟩
    · obtain ⟨t, ht, hsame, hother, hspares, hregs⟩ := s.trimSet_spec g (Nat.land v.toNat (trimMask a i)) hok.1
      have hw : s.trimWrite g v.toNat = t.trimNext g := ht ▸ State.trimWrite_of_open v.toNat ha hi hok
      have hnext := t.trimNext_onlyRegs g
      have hstate := hframe.eq_mix
      have htuss : ∀ h, h ≠ g.val → (s.trimWrite g v.toNat).tuss h = s.tuss h := fun h hh => hframe.tuss (by simp [hh])
      have hpart : (t.trimNext g).tusss = t.tusss ∧ (t.trimNext g).genSets = t.genSets := by rw [hnext.1]; exact ⟨rfl, rfl⟩
      have htrim (b k : Nat) : (t.trimNext g).trim g b k = t.trim g b k := State.trim_of_parts hpart.1 hpart.2 g b k
      rw [hw] at htuss hstate ⊢
      refine ⟨State.trimNext_index hi fun f hf => hregs f ?_, (htrim a i).trans hsame, fun b k hbk hb hk => (htrim b k).trans (hother b k hbk hb hk),
        htuss, hstate.trans (by simp [State.mix]), fun ha17 => ?_, ?_⟩
      · split <;> simp [Fld.key_iff, hf, F.BRK_ARR_CAL_SPARES]
      · rw [hnext.2 _ (by simp [Fld.key_iff, F.BRK_ARR_CAL_SPARES, F.BRK_TRIM_SEL_INDEX]), hspares ha17]
        simp only [State.sparesUsed, State.spare, htrim]
      · exact (hregs.mono fun f hf => List.mem_cons_of_mem _ hf).trans (hnext.2.mono fun f hf => List.mem_singleton.1 hf ▸ List.mem_cons_self)
    · have hw := State.trimWrite_of_not_open v.toNat ha hi hok
      have hrej : s.OnlyRegs (s.set (F.BRK_STATUS_TRIM_WR_REJECT g) 1) [F.BRK_TRIM_SEL_INDEX g, F.BRK_STATUS_TRIM_WR_REJECT g] :=
        (State.OnlyRegs.refl s _).set _ (by simp)
      rw [hw]
      refine ⟨State.trimNext_index hi fun f hf => State.get_set_ne _ _ (Fld.key_ne_of_reg (by simp [F.BRK_STATUS_TRIM_WR_REJECT, hf])), ?_,
        hrej.trans ((State.trimNext_onlyRegs _ g).mono (by simp))⟩
      rw [(State.trimNext_onlyRegs _ g).2 _ (by simp [Fld.key_iff, F.BRK_TRIM_SEL_INDEX, F.BRK_STATUS_TRIM_WR_REJECT]), State.get_set_same]
      rfl

end Sys2Proof.Machine

namespace Sys2Proof.Machine
open Sys2Proof

/-! ### Writes by access kind -/

/-- A field of register `r` at indices `i` and `j`. -/
def FieldDesc.fld (r : RegName) (i j : Nat) (d : FieldDesc) : Fld := ⟨r, i, j, d.lo, d.w⟩

/-- What a write of `v` leaves in a field that held `x`, by its access kind. -/
def FieldDesc.after (d : FieldDesc) (v x y : Nat) : Prop :=
  (d.acc = .rw → y = bitsOf v d.lo d.w) ∧ (d.acc = .w1c → y = Nat.land x (2 ^ d.w - 1 - bitsOf v d.lo d.w)) ∧ (d.acc = .ro ∨ d.acc = .wo → y = x)

/-- A field lies within the register's 64 bits. -/
def FieldDesc.inside (d : FieldDesc) : Prop := d.lo + d.w ≤ 64 ∧ 0 < d.w

/-- Fields that stand apart from each other within their register. -/
def fieldsApart (l : List FieldDesc) : Bool := l.all (fun d => d.lo + d.w ≤ 64 ∧ 0 < d.w) && decide ((l.map FieldDesc.lo).Nodup)

theorem fieldsApart_fieldsOf (r : RegName) : fieldsApart (fieldsOf r) = true := by
  cases r <;> decide

theorem bitsOf_lt (v lo w : Nat) : bitsOf v lo w < 2 ^ w := Nat.mod_lt _ (Nat.two_pow_pos w)

section
variable (s : State) (r : RegName) (i j v : Nat)

theorem State.writeField_onlyRegs (d : FieldDesc) : s.OnlyRegs (s.writeField r i j v 0 64 d) [d.fld r i j] := by
  unfold State.writeField
  split
  · exact .refl s _
  · cases d.acc
    · exact .refl s _
    · exact (State.OnlyRegs.refl s _).set _ (List.mem_singleton.2 rfl)
    · exact (State.OnlyRegs.refl s _).set _ (List.mem_singleton.2 rfl)
    · exact .refl s _

theorem State.get_writeField_same (d : FieldDesc) (hd : d.inside) :
    d.after v (s.get (d.fld r i j)) ((s.writeField r i j v 0 64 d).get (d.fld r i j)) := by
  obtain ⟨lo, w, acc⟩ := d
  obtain ⟨hin, -⟩ := hd
  have hlow : ¬(lo < 0 ∨ 64 < lo + w) := by simp only at hin; omega
  unfold State.writeField FieldDesc.after
  rw [if_neg hlow]
  refine ⟨?_, ?_, ?_⟩ <;> intro h
  · obtain rfl : acc = .rw := h
    exact (State.get_set_same s ⟨r, i, j, lo, w⟩ _).trans (Nat.mod_eq_of_lt (bitsOf_lt ..))
  · obtain rfl : acc = .w1c := h
    refine (State.get_set_same s ⟨r, i, j, lo, w⟩ _).trans (Nat.mod_eq_of_lt ?_)
    have := Nat.two_pow_pos w
    exact Nat.lt_of_le_of_lt Nat.and_le_right (by simp only; omega)
  · obtain rfl | rfl : acc = .ro ∨ acc = .wo := h <;> rfl

end

theorem State.writeFields_spec (s : State) (r : RegName) (i j v : Nat) (l : List FieldDesc) (hin : ∀ d ∈ l, d.inside) (hnodup : (l.map FieldDesc.lo).Nodup) :
    ∃ t, l.foldl (fun s d => s.writeField r i j v 0 64 d) s = t ∧ (∀ d ∈ l, d.after v (s.get (d.fld r i j)) (t.get (d.fld r i j))) ∧
      s.OnlyRegs t (l.map (·.fld r i j)) := by
  induction l generalizing s with
  | nil => exact ⟨s, rfl, by simp, .refl s _⟩
  | cons d l ih =>
    obtain ⟨hd, hin⟩ := List.forall_mem_cons.1 hin
    obtain ⟨hnot, hnodup⟩ := List.nodup_cons.1 hnodup
    obtain ⟨t, ht, hafter, honly⟩ := ih (s.writeField r i j v 0 64 d) hin hnodup
    have hfirst := s.writeField_onlyRegs r i j v d
    have hkey : ∀ e ∈ l, (d.fld r i j).key ≠ (e.fld r i j).key := fun e he => Fld.key_ne_of_lo fun h => hnot <| by
      obtain ⟨hd1, hd2⟩ := hd
      obtain ⟨he1, he2⟩ := hin e he
      have : d.lo = e.lo := by simp only [FieldDesc.fld] at h; omega
      exact this ▸ List.mem_map_of_mem he
    refine ⟨t, ht, List.forall_mem_cons.2 ⟨?_, fun e he => ?_⟩, ?_⟩
    · rw [honly.2 _ (by simpa using fun e he => (hkey e he).symm)]
      exact s.get_writeField_same r i j v d hd
    · rw [← hfirst.2 _ (by simpa using (hkey e he).symm)]
      exact hafter e he
    · rw [List.map_cons]
      exact (hfirst.mono (by simp)).trans (honly.mono fun f hf => List.mem_cons_of_mem _ hf)

/-- A whole register written: each field by its access kind, and nothing else. -/
theorem State.writeReg_spec (s : State) (r : RegName) (i j v : Nat) :
    ∃ t, s.writeReg r i j v 0 64 = t ∧ (∀ d ∈ fieldsOf r, d.after v (s.get (d.fld r i j)) (t.get (d.fld r i j))) ∧
      s.OnlyRegs t ((fieldsOf r).map (·.fld r i j)) := by
  have h := fieldsApart_fieldsOf r
  simp only [fieldsApart, Bool.and_eq_true, List.all_eq_true, decide_eq_true_eq] at h
  exact s.writeFields_spec r i j v _ h.1 h.2

/-! ### Bits of GLB_ERR_STATUS -/

theorem State.RaisedIf.of_signal (s : State) (v : Nat) (c : Bool) : s.RaisedIf (if c then s.signal v else s) v (c = true) := by
  cases c
  · exact ⟨nofun, fun _ => ⟨rfl, fun _ _ => rfl⟩⟩
  · exact ⟨fun _ => s.signal_raised v, fun h => absurd rfl h⟩

theorem State.RaisedIf.congr_left {s u t : State} {v : Nat} {p : Prop} (h : u.RaisedIf t v p) (hirq : u.irq = s.irq)
    (hevent : ∀ b, u.event b = s.event b) : s.RaisedIf t v p := by
  simpa only [State.RaisedIf, State.Raised, hirq, hevent] using h

/-- An error bit set: vector 45 where the mask enables it, and nothing else. -/
theorem State.glbErr_spec (s : State) (b : Nat) : ∃ t, s.glbErr b = t ∧ t.get (glbErrFld b) = 1 ∧
    s.RaisedIf t 45 (bitOf (s.get F.GLB_ERR_MASK_EN) b = true) ∧ t = { s with regs := t.regs, irq := t.irq } ∧
    s.RegsBut t (glbErrFld b :: eventFlds) := by
  have hmask : (s.set (glbErrFld b) 1).RaisedIf (s.glbErr b) 45 (bitOf (s.get F.GLB_ERR_MASK_EN) b = true) := .of_signal ..
  have hother : ∀ f ∈ eventFlds, (glbErrFld b).key ≠ f.key := by
    simp [eventFlds, Fld.key_iff, glbErrFld, F.GLB_IRQ_EVENT_LO_EVENT, F.GLB_IRQ_EVENT_HI_EVENT]
  have hset : s.RegsBut (s.set (glbErrFld b) 1) (glbErrFld b :: eventFlds) := (State.RegsBut.refl s _).set _ (by simp)
  refine ⟨_, rfl, ?_, hmask.congr_left rfl fun n => ?_, ?_, ?_⟩
  · unfold State.glbErr
    split
    · exact ((State.RegsBut.refl _ eventFlds).signal 45 (fun _ h => h) _ fun hm => have ⟨f, hf, e⟩ := List.mem_map.1 hm; hother f hf e.symm).trans
        (State.get_set_same s (glbErrFld b) 1)
    · exact State.get_set_same s (glbErrFld b) 1
  · unfold State.event
    rw [State.get_set_ne s 1 (hother _ (by simp [eventFlds])), State.get_set_ne s 1 (hother _ (by simp [eventFlds]))]
  · unfold State.glbErr
    split
    · rw [State.signal_parts]; rfl
    · rfl
  · unfold State.glbErr
    split
    exacts [hset.signal 45 fun f hf => List.mem_cons_of_mem _ hf, hset]

theorem State.badAccess_spec (s : State) (read : Bool) : ∃ t, s.badAccess read = t ∧
    t.out = s.out ++ [if read then .completionUnsupported else .aerUnsupported] ∧ t.get F.GLB_ERR_STATUS_BAR0_ACCESS = 1 ∧
    s.RaisedIf t 45 (bitOf (s.get F.GLB_ERR_MASK_EN) 2 = true) ∧ t = { s with regs := t.regs, irq := t.irq, out := t.out } ∧
    s.RegsBut t (F.GLB_ERR_STATUS_BAR0_ACCESS :: eventFlds) := by
  obtain ⟨t, ht, hone, hraised, hstate, hregs⟩ := (s.send (if read then .completionUnsupported else .aerUnsupported)).glbErr_spec 2
  have hout : t.out = s.out ++ [if read then .completionUnsupported else .aerUnsupported] := by rw [hstate]; rfl
  exact ⟨t, ht, hout, hone, hraised, hstate.trans (by rw [hout]; rfl), hregs⟩

/-- A register index beside one in a table of a single column is 0. -/
theorem Lay.hit_col {l : Lay} {o i j w : Nat} (h : l.hit o = some (i, j, w)) (hnj : l.nj ≤ 1) : j = 0 := by
  unfold Lay.hit at h
  grind

theorem findLay_row {rows : List Lay} {i0 : Option Nat} {o : Nat} {x : RegWord} (h : findLay rows i0 o = some x) :
    ∃ l ∈ rows, l.r = x.r ∧ ∃ i, l.hit o = some (i, x.j, x.word) := by
  induction rows with
  | nil => simp [findLay] at h
  | cons l rows ih =>
    unfold findLay at h
    split at h
    next i j w hhit =>
      obtain rfl := Option.some.inj h
      exact ⟨l, by simp, rfl, i, hhit⟩
    next =>
      obtain ⟨l', hl', hrest⟩ := ih h
      exact ⟨l', List.mem_cons_of_mem _ hl', hrest⟩

/-- The register word at an offset belongs to a row of the layout. -/
theorem regAt_row {o : Nat} {x : RegWord} (h : regAt o = some x) :
    ∃ l ∈ layAbs ++ layChn ++ layEng ++ layTsk, l.r = x.r ∧ ∃ i o', l.hit o' = some (i, x.j, x.word) := by
  have hrow {rows : List Lay} {i0 : Option Nat} {o' : Nat} (hsub : ∀ l ∈ rows, l ∈ layAbs ++ layChn ++ layEng ++ layTsk)
      (hfind : findLay rows i0 o' = some x) :
      ∃ l ∈ layAbs ++ layChn ++ layEng ++ layTsk, l.r = x.r ∧ ∃ i o', l.hit o' = some (i, x.j, x.word) := by
    obtain ⟨l, hl, hr, i, hhit⟩ := findLay_row hfind
    exact ⟨l, hsub l hl, hr, i, o', hhit⟩
  unfold regAt at h
  split at h
  · exact hrow (by simp +contextual) h
  · split at h
    · cases h
    · split at h
      · dsimp only at h
        split at h
        · exact hrow (by simp +contextual) h
        · split at h
          · exact hrow (by simp +contextual) h
          · split at h
            · exact hrow (by simp +contextual) h
            · cases h
      · cases h

theorem regAt_tqStat {o : Nat} {x : RegWord} (h : regAt o = some x) (hr : x.r = .STL_TQ_STAT) : x.j = 0 := by
  obtain ⟨l, hl, hlr, i, o', hhit⟩ := regAt_row h
  have hcol : (layAbs ++ layChn ++ layEng ++ layTsk).all (fun l => l.r != .STL_TQ_STAT || decide (l.nj ≤ 1)) = true := by decide
  have hl := List.all_eq_true.1 hcol l hl
  exact Lay.hit_col hhit (by simpa [hlr, hr] using hl)

/-- The 32-bit registers that a software write reaches by the access kinds of their fields alone. -/
def plainRegs : List RegName :=
  [.TSK_ARR_STATUS, .TSK_CTRL_STATUS, .TSK_CLK_STATUS, .TSK_SWAP, .BRK_STATUS, .BRK_TRIM_SEL, .GRS_TOL, .GRS_STATUS, .GRS_REP_CFG,
    .GRS_TP_STATUS, .GRS_LANE_STATUS, .GLB_RGN_ATTR, .GLB_RGN_INGRESS, .PCI_T3_LAT, .CHN_ADM_CFG, .CHN_K1_CFG, .CHN_LD_STATUS,
    .GLB_DIST_CFG, .LEA_PORT_STATUS, .LEA_STATUS, .STL_FIN_CFG, .STL_FIN_LIM, .STL_FOUT, .STL_FOUT_SAFE, .STL_AIN_STATUS,
    .STL_AIN_OPEN, .STL_AOUT_SAFE, .STL_AOUT_STATUS, .THM_CFG, .THM_RATE, .THM_PWR, .THM_STATUS, .PWR_CFG, .PWR_WAKE_EN, .PWR_WAKE_TIMER,
    .PWR_STATUS, .GLB_CHN_STATUS, .BOOT_STATUS, .BOOT_MBOX_BUF, .GLB_ERR_STATUS, .GLB_ERR_MASK]

theorem wordsOf_plain {r : RegName} (h : r ∈ plainRegs) : wordsOf r = 1 :=
  of_decide_eq_true (List.all_eq_true.1 (by decide : plainRegs.all (fun r => decide (wordsOf r = 1)) = true) r h)

theorem State.keepSet_of_ne (s : State) {at_ : Option Nat} (h : at_ ≠ some s.fieldClock) (f : Fld) : s.keepSet at_ f = s := by
  have : (at_ == some s.fieldClock) = false := by simpa using h
  simp [State.keepSet, State.setIf, this]

theorem State.OnlyRegs.fieldClock {s t : State} {fs : List Fld} (h : s.OnlyRegs t fs) : t.fieldClock = s.fieldClock := by rw [h.1]; rfl

theorem State.tqStatWrite_plain (s : State) (q v : Nat) (hovf : (s.tq q).ovfAt ≠ some s.fieldClock) (hdup : (s.tq q).dupAt ≠ some s.fieldClock) :
    s.tqStatWrite q v = s.writeReg .STL_TQ_STAT q 0 v 0 64 := by
  obtain ⟨t, ht, -, honly⟩ := s.writeReg_spec .STL_TQ_STAT q 0 v
  rw [State.tqStatWrite, ht, t.keepSet_of_ne (honly.fieldClock.symm ▸ hovf), t.keepSet_of_ne (honly.fieldClock.symm ▸ hdup)]

theorem State.regStore_plain (s : State) {r : RegName} (i j v : Nat) (h : r ∈ plainRegs) : s.regStore r i j v = s.writeReg r i j v 0 64 := by
  simp only [plainRegs, List.mem_cons, List.not_mem_nil, or_false] at h
  repeat' obtain rfl | h := h
  all_goals rfl

theorem exec_registerWrite {a : Agent} {off : BitVec 24} {v : Word} {s : State} (hspine : s.powered .spine = true)
    (hpcie : s.powered .pcie = true) : exec (.registerWrite a off [v]) s = .next (s.barWrite a off.toNat [v.toNat]) :=
  congrArg Host.Outcome.next (if_pos (by simp [hspine, hpcie]))

theorem exec_bar0BadAccess {read : Bool} {s : State} (hspine : s.powered .spine = true) (hpcie : s.powered .pcie = true) :
    exec (.bar0BadAccess read) s = .next (s.badAccess read) :=
  congrArg Host.Outcome.next (if_pos (by simp [hspine, hpcie]))

/-- Settles O38, by whether the access is aligned and what register it meets. -/
theorem registerWritesByAccessKind : Obligations.RegisterWritesByAccessKind := by
  refine ⟨fun a off v s x hspine hpcie halign hmsix => ?_, fun c read a off v s hspine hpcie halign hc => ?_⟩
  · have hexec : exec (.registerWrite a off [v]) s = .next (s.write4 a off.toNat v.toNat) := by
      rw [exec_registerWrite hspine hpcie, State.barWrite, if_pos halign]
    have hwrite : s.write4 a off.toNat v.toNat = match regAt off.toNat with
        | none => s
        | some x => if wordsOf x.r = 1 then s.regWrite x.r x.i x.j v.toNat
          else if x.word = 0 then s.writeLow a x v.toNat else s.writeHigh a x v.toNat :=
      if_neg (by omega)
    refine ⟨fun hnone => by rw [hexec, hwrite, hnone], fun hx hreach hmem htq => ?_⟩
    have hplain : x.r = .STL_TQ_STAT ∨ x.r ∈ plainRegs := by
      generalize x.r = r at hmem
      revert r
      decide
    have hstore : s.write4 a off.toNat v.toNat = s.writeReg x.r x.i x.j v.toNat 0 64 := by
      rw [hwrite, hx]
      dsimp only
      rcases hplain with hr | hr
      · have hwords : wordsOf x.r = 1 := hr ▸ by decide
        rw [if_pos hwords, State.regWrite, State.ifReach, if_pos hreach, hr, regAt_tqStat hx hr]
        exact s.tqStatWrite_plain x.i v.toNat (htq hr).1 (htq hr).2
      · rw [if_pos (wordsOf_plain hr), State.regWrite, State.ifReach, if_pos hreach, s.regStore_plain _ _ _ hr]
    obtain ⟨t, ht, hafter, honly⟩ := s.writeReg_spec x.r x.i x.j v.toNat
    exact ⟨t, by rw [hexec, hstore, ht], hafter, honly⟩
  · obtain ⟨rfl, rfl⟩ | ⟨rfl, rfl⟩ | ⟨rfl, rfl⟩ : (c = .bar0BadAccess true ∧ read = true) ∨ (c = .bar0BadAccess false ∧ read = false) ∨
        (c = .registerWrite a off [v] ∧ read = false) := by simpa using hc
    · obtain ⟨t, ht, hspec⟩ := s.badAccess_spec true
      exact ⟨t, (exec_bar0BadAccess hspine hpcie).trans (ht ▸ rfl), hspec⟩
    · obtain ⟨t, ht, hspec⟩ := s.badAccess_spec false
      exact ⟨t, (exec_bar0BadAccess hspine hpcie).trans (ht ▸ rfl), hspec⟩
    · obtain ⟨t, ht, hspec⟩ := s.badAccess_spec false
      exact ⟨t, (exec_registerWrite hspine hpcie).trans (by rw [State.barWrite, if_neg halign, ht]), hspec⟩

/-! ### 64-bit registers -/

section
variable (s : State) (a : Agent)

@[simp] theorem State.busOf_setBus (b : BusAgent) : (s.setBus a b).busOf a = b := by cases a <;> rfl
theorem State.busOf_setBus_ne (b : BusAgent) {a' : Agent} (h : a' ≠ a) : (s.setBus a b).busOf a' = s.busOf a' := by
  cases a <;> cases a' <;> first | exact absurd rfl h | rfl
theorem State.setBus_eq (b : BusAgent) :
    s.setBus a b = { s with host := (s.setBus a b).host, mgmt := (s.setBus a b).mgmt } := by cases a <;> rfl
theorem State.answer_eq (v : Nat) : s.answer a v = s.setBus a { s.busOf a with readData := v } := by cases a <;> rfl
theorem State.setBus_setBus (b b' : BusAgent) : (s.setBus a b).setBus a b' = s.setBus a b' := by cases a <;> rfl

end

/-- The 64-bit registers that a software write reaches by the access kinds of their fields alone, all read-write. -/
def plainRegs64 : List RegName :=
  [.GLB_RGN_BASE, .GLB_RGN_LIMIT, .PCI_BAR2_BASE, .PCI_T3_BASE, .GLB_DIST_BASE, .GLB_DIST_LIMIT, .GRS_REP_CTX, .LEA_ROUTE, .CHN_K1_TMPL,
    .STL_AOUT_FTW]

theorem plainRegs64_rw {r : RegName} (h : r ∈ plainRegs64) {d : FieldDesc} (hd : d ∈ fieldsOf r) : d.acc = .rw := by
  have hall : plainRegs64.all (fun r => (fieldsOf r).all fun d => decide (d.acc = .rw)) = true := by decide
  exact of_decide_eq_true (List.all_eq_true.1 (List.all_eq_true.1 hall r h) d hd)

theorem State.regStore_plain64 (s : State) {r : RegName} (i j v : Nat) (h : r ∈ plainRegs64) :
    s.regStore r i j v = s.writeReg r i j v 0 64 := by
  simp only [plainRegs64, List.mem_cons, List.not_mem_nil, or_false] at h
  repeat' obtain rfl | h := h
  all_goals rfl

theorem HeldWord.is_iff (h : HeldWord) (x : RegWord) : h.is x = true ↔ (h.r, h.i, h.j) = (x.r, x.i, x.j) := by
  simp [HeldWord.is, and_assoc]

section
variable {a : Agent} {off : BitVec 24} {s : State} {x : RegWord} (halign : off.toNat % 4 = 0) (hx : regAt off.toNat = some x)
  (hwords : wordsOf x.r = 2)
include halign hx hwords

theorem exec_read64Low (hw : x.word = 0) : exec (.read64Low a off) s = .next (s.readLow a x) := by
  change execRead64Low a off s = _
  simp only [execRead64Low, hx, halign, hwords, hw, and_self, if_true]

theorem exec_read64High (hw : x.word = 1) : exec (.read64High a off) s = .next (s.readHigh a x) := by
  change execRead64High a off s = _
  simp only [execRead64High, hx, halign, hwords, hw, and_self, if_true]

theorem exec_write64Low {v : Word} (hw : x.word = 0) : exec (.write64Low a off v) s = .next (s.writeLow a x v.toNat) := by
  change execWrite64Low a off v s = _
  simp only [execWrite64Low, hx, halign, hwords, hw, and_self, if_true]

theorem exec_write64High {v : Word} (hw : x.word = 1) : exec (.write64High a off v) s = .next (s.writeHigh a x v.toNat) := by
  change execWrite64High a off v s = _
  simp only [execWrite64High, hx, halign, hwords, hw, and_self, if_true]

end

/-- Between `s` and `t` nothing changes but the registers of agent `a`'s accesses. -/
theorem State.setBus_only (s : State) (a : Agent) (b : BusAgent) :
    (s.setBus a b = { s with host := (s.setBus a b).host, mgmt := (s.setBus a b).mgmt } ∧ ∀ a', a' ≠ a → (s.setBus a b).busOf a' = s.busOf a') ∧
      (s.setBus a b).busOf a = b :=
  ⟨⟨s.setBus_eq a b, fun _ h => s.busOf_setBus_ne a b h⟩, s.busOf_setBus a b⟩

/-- Settles O37. -/
theorem wordsOfA64BitRegister : Obligations.WordsOfA64BitRegister := by
  intro a off s x halign hx hwords value only
  refine ⟨fun hw hread => ⟨_, exec_read64Low halign hx hwords hw, ?_⟩, fun h hw hread hheld his => ⟨_, exec_read64High halign hx hwords hw, ?_⟩,
    fun hw hread hheld => ?_, fun c hc hread => ?_, fun v hw hreach => ⟨_, exec_write64Low halign hx hwords hw, ?_⟩,
    fun v low mine hw hreach hmem hmine hlow hlow' => ?_⟩
  · rw [State.readLow, if_pos hread, State.answer_eq, State.busOf_setBus, State.setBus_setBus]
    exact s.setBus_only a _
  · rw [State.readHigh, if_pos hread, hheld]
    dsimp only
    rw [if_pos ((h.is_iff x).2 his), State.answer_eq]
    exact s.setBus_only a _
  · have hhigh : s.readHigh a x = (s.answer a (s.readReg x.r x.i x.j / 2 ^ 32)).glbErr 3 := by
      rw [State.readHigh, if_pos hread]
      cases hh : (s.busOf a).held with
      | none => rfl
      | some h => exact if_neg fun e => hheld h hh ((h.is_iff x).1 e)
    obtain ⟨t, ht, hone, hraised, hstate, hregs⟩ := (s.answer a (s.readReg x.r x.i x.j / 2 ^ 32)).glbErr_spec 3
    rw [State.answer_eq] at ht hraised hstate hregs
    generalize hu : s.setBus a { s.busOf a with readData := s.readReg x.r x.i x.j / 2 ^ 32 } = u at ht hraised hstate hregs
    obtain ⟨⟨heq, hother⟩, hbus⟩ := hu ▸ s.setBus_only a { s.busOf a with readData := s.readReg x.r x.i x.j / 2 ^ 32 }
    have hbusOf (b : Agent) : t.busOf b = u.busOf b := by rw [hstate]; cases b <;> rfl
    have hregs₀ : u.regs = s.regs := by rw [heq]
    have hirq : u.irq = s.irq := by rw [heq]
    refine ⟨t, (exec_read64High halign hx hwords hw).trans (by rw [hhigh, State.answer_eq, hu, ht]), (hbusOf a).trans hbus, hone, ?_, ?_,
      (State.RegsBut.congr _ hregs₀).trans hregs, fun b hb => (hbusOf b).trans (hother b hb)⟩
    · rw [← State.get_congr hregs₀]
      exact hraised.congr_left hirq fun b => by simp only [State.event, State.get_congr hregs₀]
    · have hh : t.host = u.host := by rw [hstate]
      have hm : t.mgmt = u.mgmt := by rw [hstate]
      rw [hstate, heq]
  · simp only [List.mem_cons, Prod.mk.injEq, List.not_mem_nil, or_false] at hc
    obtain ⟨hw, rfl⟩ | ⟨hw, rfl⟩ := hc
    · refine ⟨_, exec_read64Low halign hx hwords hw, ?_⟩
      rw [State.readLow, if_neg (by simp [hread]), State.answer_eq]
      exact s.setBus_only a _
    · refine ⟨_, exec_read64High halign hx hwords hw, ?_⟩
      rw [State.readHigh, if_neg (by simp [hread]), State.answer_eq]
      exact s.setBus_only a _
  · rw [State.writeLow, State.ifReach, if_pos hreach]
    exact s.setBus_only a _
  · obtain ⟨u, hhigh, heq, hother, hused, hkept⟩ : ∃ u : State, s.writeHigh a x v.toNat = u.writeReg x.r x.i x.j (low + 2 ^ 32 * v.toNat) 0 64 ∧
        u = { s with host := u.host, mgmt := u.mgmt } ∧ (∀ b, b ≠ a → u.busOf b = s.busOf b) ∧
        (mine → u.busOf a = { s.busOf a with staged := none }) ∧ (¬mine → u.busOf a = s.busOf a) := by
      rw [State.writeHigh, State.ifReach, if_pos hreach]
      by_cases hm : mine
      · obtain ⟨h, hstaged, his⟩ := hmine.1 hm
        obtain ⟨⟨heq, hother⟩, hbus⟩ := s.setBus_only a { s.busOf a with staged := none }
        refine ⟨s.setBus a { s.busOf a with staged := none }, ?_, heq, hother, fun _ => hbus, fun h => absurd hm h⟩
        rw [hstaged]
        dsimp only
        rw [if_pos ((h.is_iff x).2 his), ← hlow h hstaged hm, State.regStore_plain64 _ _ _ _ hmem]
      · refine ⟨s, ?_, rfl, fun _ _ => rfl, fun h => absurd h hm, fun _ => rfl⟩
        rw [hlow' hm]
        split
        next h hstaged =>
          rw [if_neg fun e => hm (hmine.2 ⟨h, hstaged, (h.is_iff x).1 e⟩), State.regStore_plain64 _ _ _ _ hmem]
        next => rw [State.regStore_plain64 _ _ _ _ hmem]
    obtain ⟨t, ht, hafter, hstate, hregs⟩ := u.writeReg_spec x.r x.i x.j (low + 2 ^ 32 * v.toNat)
    have hregs₀ : u.regs = s.regs := by rw [heq]
    have hbusOf (b : Agent) : t.busOf b = u.busOf b := by rw [hstate]; cases b <;> rfl
    have hh : t.host = u.host := by rw [hstate]
    have hmg : t.mgmt = u.mgmt := by rw [hstate]
    refine ⟨t, (exec_write64High halign hx hwords hw).trans (by rw [hhigh, ht]), fun d hd => (hafter d hd).1 (plainRegs64_rw hmem hd),
      (State.RegsBut.congr _ hregs₀).trans hregs, ?_, fun b hb => (hbusOf b).trans (hother b hb), fun h => (hbusOf a).trans (hused h),
      fun h => (hbusOf a).trans (hkept h)⟩
    rw [hh, hmg, hstate, heq]

end Sys2Proof.Machine

namespace Sys2Proof.Machine
open Sys2Proof

/-! ### Trigger queues -/

section
variable (s : State) (q : Nat)
@[simp] theorem State.tq_setTq (x : Tq) : (s.setTq q x).tq q = x := by simp [State.tq, State.setTq]
theorem State.tq_setTq_ne {p : Nat} (x : Tq) (h : p ≠ q) : (s.setTq q x).tq p = s.tq p := by
  simp [State.tq, State.setTq, Tab.get_set_ne _ _ _ (Ne.symm h)]
@[simp] theorem State.tq_set (f : Fld) (v : Nat) : (s.set f v).tq q = s.tq q := rfl
@[simp] theorem State.get_setTq (x : Tq) (f : Fld) : (s.setTq q x).get f = s.get f := rfl
end

/-- Nothing changes but fields of a list and what trigger queue `q` holds. -/
structure State.OnlyTq (s t : State) (q : Nat) (fs : List Fld) : Prop where
  state : t = { s with regs := t.regs, stile := { s.stile with tqs := t.stile.tqs } }
  regs : s.RegsBut t fs
  others : ∀ p, p ≠ q → t.tq p = s.tq p

section
variable {s t u : State} {q : Nat} {fs : List Fld}

theorem State.OnlyTq.refl (s : State) (q : Nat) (fs : List Fld) : s.OnlyTq s q fs := ⟨rfl, .refl s fs, fun _ _ => rfl⟩

theorem State.OnlyTq.set (h : s.OnlyTq t q fs) {f : Fld} (v : Nat) (hf : f ∈ fs) : s.OnlyTq (t.set f v) q fs :=
  ⟨by conv_lhs => rw [h.state]
      rfl, h.regs.set v hf, h.others⟩

theorem State.OnlyTq.incBy (h : s.OnlyTq t q fs) {f : Fld} (n : Nat) (hf : f ∈ fs) : s.OnlyTq (t.incBy f n) q fs := by
  rw [State.incBy_eq]; exact h.set _ hf

theorem State.OnlyTq.setTq (h : s.OnlyTq t q fs) (x : Tq) : s.OnlyTq (t.setTq q x) q fs :=
  ⟨by conv_lhs => rw [h.state]
      rfl, h.regs, fun p hp => (t.tq_setTq_ne q x hp).trans (h.others p hp)⟩

theorem State.OnlyTq.tqHold (h : s.OnlyTq t q fs) (hf : F.STL_TQ_STAT_HOLD q ∈ fs) : s.OnlyTq (t.tqHold q) q fs := by
  unfold State.tqHold
  dsimp only
  split
  · exact h.set _ hf
  · split
    exacts [h.set _ hf, h]

theorem State.OnlyTq.tqOcc (h : s.OnlyTq t q fs) (n : Nat) (ho : F.STL_TQ_STAT_OCC q ∈ fs) (hh : F.STL_TQ_STAT_HOLD q ∈ fs) :
    s.OnlyTq (t.tqOcc q n) q fs := ((h.set n ho).setTq _).tqHold hh

end

theorem State.tqHold_onlyRegs (s : State) (q : Nat) : s.OnlyRegs (s.tqHold q) [F.STL_TQ_STAT_HOLD q] := by
  unfold State.tqHold
  dsimp only
  split
  · exact (State.OnlyRegs.refl s _).set _ (by simp)
  · split
    exacts [(State.OnlyRegs.refl s _).set _ (by simp), .refl s _]

/-- Both copies of OCC after they are set. -/
theorem State.tqOcc_spec (s : State) (q n : Nat) :
    (s.tqOcc q n).tq q = { s.tq q with occ2 := n } ∧ (s.tqOcc q n).get (F.STL_TQ_STAT_OCC q) = n % 2 ^ 7 := by
  have hhold := ((s.set (F.STL_TQ_STAT_OCC q) n).setTq q { s.tq q with occ2 := n }).tqHold_onlyRegs q
  constructor
  · have : (s.tqOcc q n).tq q = ((s.set (F.STL_TQ_STAT_OCC q) n).setTq q { s.tq q with occ2 := n }).tq q := by
      unfold State.tqOcc
      rw [hhold.1]
      rfl
    exact this.trans (State.tq_setTq ..)
  · exact (hhold.2 _ (by simp [Fld.key_iff, F.STL_TQ_STAT_OCC, F.STL_TQ_STAT_HOLD])).trans (State.get_set_same ..)

/-- A queue emptied. -/
theorem State.tqEmpty_spec (s : State) (q lost : Nat) : ∃ t, s.tqEmpty q lost = t ∧ t.tq q = { s.tq q with entries := [], occ2 := 0 } ∧
    t.get (F.STL_TQ_STAT_OCC q) = 0 ∧
    t.get (F.STL_TQ_CNT_LOST_CNT q) = min (s.get (F.STL_TQ_CNT_LOST_CNT q) + lost) (2 ^ (F.STL_TQ_CNT_LOST_CNT q).w - 1) ∧
    s.OnlyTq t q [F.STL_TQ_STAT_OCC q, F.STL_TQ_STAT_HOLD q, F.STL_TQ_CNT_LOST_CNT q] := by
  obtain ⟨u, hu⟩ : ∃ u, (s.incBy (F.STL_TQ_CNT_LOST_CNT q) lost).setTq q { s.tq q with entries := [] } = u := ⟨_, rfl⟩
  have huq : u.tq q = { s.tq q with entries := [] } := hu ▸ State.tq_setTq ..
  have honly : s.OnlyTq u q [F.STL_TQ_STAT_OCC q, F.STL_TQ_STAT_HOLD q, F.STL_TQ_CNT_LOST_CNT q] :=
    hu ▸ ((State.OnlyTq.refl s q _).incBy _ (by simp)).setTq _
  have hocc : u.OnlyTq (u.tqOcc q 0) q [F.STL_TQ_STAT_OCC q, F.STL_TQ_STAT_HOLD q] := (State.OnlyTq.refl u q _).tqOcc 0 (by simp) (by simp)
  obtain ⟨hq, hzero⟩ := u.tqOcc_spec q 0
  refine ⟨u.tqOcc q 0, hu ▸ rfl, by rw [hq, huq], hzero, ?_, honly.tqOcc 0 (by simp) (by simp)⟩
  rw [hocc.regs _ (by simp [Fld.key_iff, F.STL_TQ_STAT_OCC, F.STL_TQ_STAT_HOLD, F.STL_TQ_CNT_LOST_CNT]), ← hu, State.get_setTq, State.get_incBy_same]

/-! ### Pops -/

theorem popperIx_inj {r r' : Popper} (h : r ≠ r') : popperIx r ≠ popperIx r' := by
  cases r <;> cases r' <;> simp_all [popperIx]

/-- The word in the holding register of reader `r`. -/
def State.setPopHold (s : State) (r : Popper) (v : Nat) : State :=
  { s with stile := { s.stile with popHold := Tab.set (fun _ => 0) s.stile.popHold (popperIx r) v } }

theorem State.tqPop_empty {s : State} {r : Popper} {q : Nat} (h : (s.tq q).entries = []) : s.tqPop r q = s.setPopHold r 0 := by
  simp only [State.tqPop, h, State.setPopHold]

theorem State.tqPop_cons {s : State} {r : Popper} {q : Nat} {e : TqEntry} {rest : List TqEntry} (h : (s.tq q).entries = e :: rest) :
    s.tqPop r q = ((s.setPopHold r e.bits).setTq q { s.tq q with entries := rest }).tqOcc q (s.get (F.STL_TQ_STAT_OCC q) - 1) := by
  simp only [State.tqPop, h, State.setPopHold]

theorem State.popHold_setPopHold (s : State) (r : Popper) (v : Nat) :
    (s.setPopHold r v).popHold r = v ∧ ∀ x, x ≠ r → (s.setPopHold r v).popHold x = s.popHold x :=
  ⟨by simp [State.popHold, State.setPopHold], fun x hx => by
    simp [State.popHold, State.setPopHold, Tab.get_set_ne _ _ _ (popperIx_inj (Ne.symm hx))]⟩

theorem State.OnlyTq.popHold {s t : State} {q : Nat} {fs : List Fld} (h : s.OnlyTq t q fs) (r : Popper) : t.popHold r = s.popHold r := by
  rw [h.state]; rfl

theorem State.tq_setPopHold (s : State) (r : Popper) (v p : Nat) : (s.setPopHold r v).tq p = s.tq p := by simp only [State.tq, State.setPopHold]

theorem State.get_setPopHold (s : State) (r : Popper) (v : Nat) (f : Fld) : (s.setPopHold r v).get f = s.get f := by
  simp only [State.get, State.setPopHold]

/-- The agent that a reader's data go to. -/
def popAgent : Popper → Agent
  | .host => .host
  | _ => .mgmt

theorem exec_tqPop {r : Popper} {q : TqIx} {s : State} (h : s.reach .STL_TQ_POP q = true) :
    exec (.tqPop r q) s = .next ((s.tqPop r q).answer (popAgent r) ((s.tqPop r q).popHold r % 2 ^ 32)) := by
  change execTqPop r q s = _
  cases r <;> simp [execTqPop, h, popAgent, State.popWord]

theorem exec_tqPop_unreached {r : Popper} {q : TqIx} {s : State} (h : s.reach .STL_TQ_POP q = false) :
    exec (.tqPop r q) s = .next (s.answer (popAgent r) 0xFFFFFFFF) := by
  change execTqPop r q s = _
  cases r <;> simp [execTqPop, h, popAgent]

theorem State.answer_parts (s : State) (a : Agent) (v : Nat) :
    (s.answer a v).regs = s.regs ∧ (s.answer a v).stile = s.stile ∧ (s.answer a v).readData a = v := by
  cases a <;> exact ⟨rfl, rfl, rfl⟩

theorem State.tq_congr {s t : State} (h : t.stile = s.stile) (q : Nat) : t.tq q = s.tq q := by simp only [State.tq, h]
theorem State.popHold_congr {s t : State} (h : t.stile = s.stile) (r : Popper) : t.popHold r = s.popHold r := by simp only [State.popHold, h]

section
variable {r : Popper} {q : TqIx} {s : State} (hreach : s.reach .STL_TQ_POP q = true)
include hreach

theorem exec_tqPop_spec : ∃ t, exec (.tqPop r q) s = .next t ∧ t.readData (popAgent r) = (s.tqPop r q).popHold r % 2 ^ 32 ∧
    t.regs = (s.tqPop r q).regs ∧ t.stile = (s.tqPop r q).stile := by
  obtain ⟨hregs, hst, hdata⟩ := (s.tqPop r q).answer_parts (popAgent r) ((s.tqPop r q).popHold r % 2 ^ 32)
  exact ⟨_, exec_tqPop hreach, hdata, hregs, hst⟩

theorem exec_tqPop_empty (hempty : (s.tq q).entries = []) : ∃ t, exec (.tqPop r q) s = .next t ∧ t.readData (popAgent r) = 0 ∧
    t.popHold r = 0 ∧ t.tq q = s.tq q ∧ ((∀ x, x ≠ r → t.popHold x = s.popHold x) ∧ ∀ p, p ≠ q.val → t.tq p = s.tq p) ∧ t.regs = s.regs := by
  obtain ⟨t, ht, hdata, hregs, hst⟩ := exec_tqPop_spec (r := r) hreach
  obtain ⟨hhold, hother⟩ := s.popHold_setPopHold r 0
  rw [State.tqPop_empty hempty] at hdata hregs hst
  have htq (p : Nat) : t.tq p = s.tq p := (State.tq_congr hst p).trans (s.tq_setPopHold r 0 p)
  exact ⟨t, ht, by rw [hdata, hhold, Nat.zero_mod], (State.popHold_congr hst r).trans hhold, htq q,
    ⟨fun x hx => (State.popHold_congr hst x).trans (hother x hx), fun p _ => htq p⟩, hregs⟩

theorem exec_tqPop_cons {e : TqEntry} {rest : List TqEntry} (hcons : (s.tq q).entries = e :: rest) :
    ∃ t, exec (.tqPop r q) s = .next t ∧ t.readData (popAgent r) = e.bits % 2 ^ 32 ∧ t.popHold r = e.bits ∧ (t.tq q).entries = rest ∧
      t.get (F.STL_TQ_STAT_OCC q) = (s.get (F.STL_TQ_STAT_OCC q) - 1) % 2 ^ 7 ∧
      ((∀ x, x ≠ r → t.popHold x = s.popHold x) ∧ ∀ p, p ≠ q.val → t.tq p = s.tq p) ∧
      s.RegsBut t [F.STL_TQ_STAT_OCC q, F.STL_TQ_STAT_HOLD q] := by
  obtain ⟨t, ht, hdata, hregs, hst⟩ := exec_tqPop_spec (r := r) hreach
  have hcons := State.tqPop_cons (r := r) hcons
  generalize e.bits = b at hcons ⊢
  rw [hcons] at hdata hregs hst
  obtain ⟨hhold, hother⟩ := s.popHold_setPopHold r b
  obtain ⟨hq, hocc⟩ := ((s.setPopHold r b).setTq q { s.tq q with entries := rest }).tqOcc_spec q (s.get (F.STL_TQ_STAT_OCC q) - 1)
  have honly := (((State.OnlyTq.refl (s.setPopHold r b) q [F.STL_TQ_STAT_OCC q, F.STL_TQ_STAT_HOLD q]).setTq
    { s.tq q with entries := rest }).tqOcc (s.get (F.STL_TQ_STAT_OCC q) - 1) (by simp) (by simp))
  have hpop (x : Popper) : t.popHold x = (s.setPopHold r b).popHold x := (State.popHold_congr hst x).trans (honly.popHold x)
  refine ⟨t, ht, by rw [hdata, honly.popHold, hhold], (hpop r).trans hhold, by rw [State.tq_congr hst, hq, State.tq_setTq],
    (State.get_congr hregs _).trans hocc, ⟨fun x hx => (hpop x).trans (hother x hx), fun p hp => ?_⟩, fun f hf => ?_⟩
  · rw [State.tq_congr hst, honly.others p hp, State.tq_setPopHold]
  · rw [State.get_congr hregs, honly.regs f hf, State.get_setPopHold]

end

theorem exec_tqFlush {q : TqIx} {s : State} (hreach : s.reach .STL_TQ_CFG q = true) : ∃ t, exec (.tqFlush q) s = .next t ∧ (t.tq q).entries = [] ∧
    t.get (F.STL_TQ_STAT_OCC q) = 0 ∧
    t.get (F.STL_TQ_CNT_LOST_CNT q) =
      min (s.get (F.STL_TQ_CNT_LOST_CNT q) + s.get (F.STL_TQ_STAT_OCC q)) (2 ^ (F.STL_TQ_CNT_LOST_CNT q).w - 1) ∧
    s.OnlyTq t q [F.STL_TQ_STAT_OCC q, F.STL_TQ_STAT_HOLD q, F.STL_TQ_CNT_LOST_CNT q] := by
  obtain ⟨t, ht, hq, hocc, hlost, honly⟩ := s.tqEmpty_spec q (s.get (F.STL_TQ_STAT_OCC q))
  have hexec : exec (.tqFlush q) s = .next (t.setTq q { t.tq q with flushAt := some t.fieldClock }) := by
    rw [← ht]
    exact congrArg Host.Outcome.next (if_pos hreach)
  exact ⟨_, hexec, by rw [State.tq_setTq, hq], hocc, hlost, honly.setTq _⟩

theorem exec_tqCopyMismatch {q : TqIx} {o1 o2 : BitVec 7} {w1 w2 : BitVec 6} {s : State} (hstile : s.powered .stile = true) :
    exec (.tqCopyMismatch q o1 o2 w1 w2) s = .next (s.tqCompare q o1.toNat o2.toNat w1.toNat w2.toNat) :=
  congrArg Host.Outcome.next (if_pos hstile)

theorem State.tqCompare_alike (s : State) (q occ wr : Nat) : s.tqCompare q occ occ wr wr = s := if_pos ⟨rfl, rfl⟩

theorem State.get_countUnless (s : State) (c : Option Nat) (f : Fld) :
    (s.countUnless c f).get f = if c = some s.fieldClock then s.get f else min (s.get f + 1) (2 ^ f.w - 1) := by
  unfold State.countUnless
  split
  exacts [rfl, s.get_inc_same f]

theorem State.OnlyTq.countUnless {s t : State} {q : Nat} {fs : List Fld} (h : s.OnlyTq t q fs) (c : Option Nat) {f : Fld} (hf : f ∈ fs) :
    s.OnlyTq (t.countUnless c f) q fs := by
  unfold State.countUnless
  split
  · exact h
  · rw [State.inc_eq]
    exact h.set _ hf

theorem State.tq_countUnless (s : State) (c : Option Nat) (f : Fld) (q : Nat) : (s.countUnless c f).tq q = s.tq q := by
  unfold State.countUnless
  split
  · rfl
  · rw [State.inc_eq]
    exact s.tq_set q f _

theorem State.Raised.congr_left {s u t : State} {v : Nat} (h : u.Raised t v) (hirq : u.irq = s.irq) (hevent : ∀ f ∈ eventFlds, u.get f = s.get f) :
    s.Raised t v := by
  have hlo := hevent F.GLB_IRQ_EVENT_LO_EVENT (by simp [eventFlds])
  have hhi := hevent F.GLB_IRQ_EVENT_HI_EVENT (by simp [eventFlds])
  simpa only [State.Raised, State.event, hirq, hlo, hhi] using h

/-- Copies that differ: the queue is emptied and the mismatch counted. -/
theorem State.tqCompare_differ (s : State) {q o1 o2 w1 w2 : Nat} (hne : ¬(o1 = o2 ∧ w1 = w2)) :
    ∃ t, s.tqCompare q o1 o2 w1 w2 = t ∧
      t.tq q = { s.tq q with entries := [], occ2 := 0, wr1 := 0, wr2 := 0, dupAt := some s.fieldClock } ∧
      t.get (F.STL_TQ_STAT_OCC q) = 0 ∧ t.get (F.STL_TQ_STAT_DUP_ERR q) = 1 ∧ s.Raised t (32 + q) ∧
      t.get (F.STL_TQ_CNT_LOST_CNT q) =
        min (s.get (F.STL_TQ_CNT_LOST_CNT q) + if (s.tq q).flushAt = some s.fieldClock then 0 else o1)
          (2 ^ (F.STL_TQ_CNT_LOST_CNT q).w - 1) ∧
      t.get (F.STL_TQ_CNT_DUP_CNT q) = (if (s.tq q).clrAt = some s.fieldClock then s.get (F.STL_TQ_CNT_DUP_CNT q)
        else min (s.get (F.STL_TQ_CNT_DUP_CNT q) + 1) (2 ^ (F.STL_TQ_CNT_DUP_CNT q).w - 1)) ∧
      (∀ p, p ≠ q → t.tq p = s.tq p) ∧
      s.RegsBut t ([F.STL_TQ_STAT_OCC q, F.STL_TQ_STAT_HOLD q, F.STL_TQ_STAT_DUP_ERR q, F.STL_TQ_CNT_LOST_CNT q,
        F.STL_TQ_CNT_DUP_CNT q] ++ eventFlds) := by
  obtain ⟨u, hu, huq, hocc, hlost, honly⟩ := s.tqEmpty_spec q (if (s.tq q).flushAt = some s.fieldClock then 0 else o1)
  have hclock : u.fieldClock = s.fieldClock := by rw [honly.state]; rfl
  generalize hx : ({ s.tq q with entries := [], occ2 := 0, wr1 := 0, wr2 := 0, dupAt := some s.fieldClock } : Tq) = x
  obtain ⟨v, hv⟩ : ∃ v, ((u.setTq q x).countUnless (s.tq q).clrAt (F.STL_TQ_CNT_DUP_CNT q)).set (F.STL_TQ_STAT_DUP_ERR q) 1 = v := ⟨_, rfl⟩
  have heq : s.tqCompare q o1 o2 w1 w2 = v.signal (32 + q) := by
    rw [State.tqCompare, if_neg hne]
    dsimp only
    rw [hu, hx, hv]
  have hfs : ∀ f ∈ [F.STL_TQ_STAT_OCC q, F.STL_TQ_STAT_HOLD q, F.STL_TQ_CNT_LOST_CNT q], f ∈ [F.STL_TQ_STAT_OCC q, F.STL_TQ_STAT_HOLD q,
      F.STL_TQ_STAT_DUP_ERR q, F.STL_TQ_CNT_LOST_CNT q, F.STL_TQ_CNT_DUP_CNT q] := by simp
  have hend := (((State.OnlyTq.mk honly.state (honly.regs.mono hfs) honly.others).setTq x).countUnless (s.tq q).clrAt (f := F.STL_TQ_CNT_DUP_CNT q)
    (by simp)).set (f := F.STL_TQ_STAT_DUP_ERR q) 1 (by simp)
  have hcount : (u.setTq q x).OnlyTq v q [F.STL_TQ_CNT_DUP_CNT q, F.STL_TQ_STAT_DUP_ERR q] :=
    hv ▸ ((State.OnlyTq.refl ..).countUnless _ (by simp)).set _ (by simp)
  have hsig : v.RegsBut (v.signal (32 + q)) eventFlds := (State.RegsBut.refl v _).signal _ fun _ h => h
  have hstile : (v.signal (32 + q)).stile = v.stile := by rw [State.signal_parts]
  have hevent : ∀ f : Fld, f.r = .STL_TQ_STAT ∨ f.r = .STL_TQ_CNT → (v.signal (32 + q)).get f = v.get f := fun f hf => hsig f <| by
    rcases hf with hf | hf <;> simp [eventFlds, Fld.key_iff, hf, F.GLB_IRQ_EVENT_LO_EVENT, F.GLB_IRQ_EVENT_HI_EVENT]
  rw [hv] at hend
  refine ⟨_, heq, ?_, ?_, ?_, ?_, ?_, ?_, fun p hp => (State.tq_congr hstile p).trans (hend.others p hp),
    (hend.regs.mono fun f hf => List.mem_append_left _ hf).signal _ fun f hf => List.mem_append_right _ hf⟩
  · rw [State.tq_congr hstile, ← hv, State.tq_set, State.tq_countUnless, State.tq_setTq]
  · rw [hevent _ (.inl rfl), hcount.regs _ (by simp [Fld.key_iff, F.STL_TQ_STAT_OCC, F.STL_TQ_CNT_DUP_CNT, F.STL_TQ_STAT_DUP_ERR])]
    exact hocc
  · rw [hevent _ (.inl rfl), ← hv, State.get_set_same]
    rfl
  · refine (v.signal_raised (32 + q)).congr_left (by rw [hend.state]) fun f hf => hend.regs f ?_
    obtain rfl | rfl : f = F.GLB_IRQ_EVENT_LO_EVENT ∨ f = F.GLB_IRQ_EVENT_HI_EVENT := by simpa [eventFlds] using hf
    all_goals simp [Fld.key_iff, F.STL_TQ_STAT_OCC, F.STL_TQ_STAT_HOLD, F.STL_TQ_STAT_DUP_ERR, F.STL_TQ_CNT_LOST_CNT, F.STL_TQ_CNT_DUP_CNT,
      F.GLB_IRQ_EVENT_LO_EVENT, F.GLB_IRQ_EVENT_HI_EVENT]
  · rw [hevent _ (.inr rfl), hcount.regs _ (by simp [Fld.key_iff, F.STL_TQ_CNT_LOST_CNT, F.STL_TQ_CNT_DUP_CNT, F.STL_TQ_STAT_DUP_ERR])]
    exact hlost
  · rw [hevent _ (.inr rfl), ← hv, State.get_set_ne _ _ (by simp [Fld.key_iff, F.STL_TQ_CNT_DUP_CNT, F.STL_TQ_STAT_DUP_ERR]), State.get_countUnless]
    have hkeep : u.get (F.STL_TQ_CNT_DUP_CNT q) = s.get (F.STL_TQ_CNT_DUP_CNT q) :=
      honly.regs _ (by simp [Fld.key_iff, F.STL_TQ_STAT_OCC, F.STL_TQ_STAT_HOLD, F.STL_TQ_CNT_LOST_CNT, F.STL_TQ_CNT_DUP_CNT])
    have hclock' : (u.setTq q x).fieldClock = s.fieldClock := hclock
    rw [hclock', State.get_setTq, hkeep]

/-- Settles O53. -/
theorem triggerQueuesPopFlushAndCompare : Obligations.TriggerQueuesPopFlushAndCompare := by
  refine ⟨fun r a q s hagent => ?_, fun q s hreach => ?_, fun q o1 o2 w1 w2 s hstile => ⟨fun ho hw => ?_, fun hne => ?_⟩⟩
  · obtain rfl : a = popAgent r := by cases r <;> simpa [popAgent] using hagent
    exact ⟨fun hreach => ⟨_, exec_tqPop_unreached hreach, s.answers_answer _ _ _⟩, exec_tqPop_empty,
      fun e rest hreach hcons => exec_tqPop_cons hreach hcons⟩
  · obtain ⟨t, ht, hentries, hocc, hlost, honly⟩ := exec_tqFlush hreach
    exact ⟨t, ht, hentries, hocc, hlost, honly.others, honly.state, honly.regs⟩
  · rw [exec_tqCopyMismatch hstile, ho, hw, State.tqCompare_alike]
  · have hne' : ¬(o1.toNat = o2.toNat ∧ w1.toNat = w2.toNat) := fun h =>
      hne.elim (fun ho => ho (BitVec.eq_of_toNat_eq h.1)) fun hw => hw (BitVec.eq_of_toNat_eq h.2)
    obtain ⟨t, ht, hspec⟩ := s.tqCompare_differ (q := q) hne'
    exact ⟨t, by rw [exec_tqCopyMismatch hstile, ht], hspec⟩

end Sys2Proof.Machine

namespace Sys2Proof.Machine
open Sys2Proof

/-! ### Tokens -/

theorem State.cplLost_of_only {s t : State} {ps : Set Part} (h : s.Only ps t) (hbase : .reg .CHN_ENG_CPL_BASE ∉ ps)
    (hoff : .reg .GLB_CHN_STATUS ∉ ps) (k : Nat) : t.cplLost k = s.cplLost k := by
  have hoff : t.get F.GLB_CHN_STATUS_OFFLINE = s.get F.GLB_CHN_STATUS_OFFLINE := h.get hoff
  have hbase : t.get (F.CHN_ENG_CPL_BASE_BASE k) = s.get (F.CHN_ENG_CPL_BASE_BASE k) := h.get hbase
  simp only [State.cplLost, State.unmapped, hoff, hbase]

/-- Vector `v` has its event still, with what an operation leaves of the event words. -/
theorem State.event_of_only {s t : State} {ps : Set Part} (h : s.Only ps t) (hlo : .reg .GLB_IRQ_EVENT_LO ∉ ps)
    (hhi : .reg .GLB_IRQ_EVENT_HI ∉ ps) (v : Nat) : t.event v = s.event v := by
  have hlo : t.get F.GLB_IRQ_EVENT_LO_EVENT = s.get F.GLB_IRQ_EVENT_LO_EVENT := h.get hlo
  have hhi : t.get F.GLB_IRQ_EVENT_HI_EVENT = s.get F.GLB_IRQ_EVENT_HI_EVENT := h.get hhi
  simp only [State.event, hlo, hhi]

theorem State.event_signal {s : State} {v b : Nat} (hb : b < 47) : (s.signal v).event b = (s.event b || b == v) := (s.signal_raised v).2 b hb

theorem State.commitRetract_spec (s : State) : (∀ b, b < 47 → s.event b = true → s.commitRetract.event b = true) ∧
    s.RegsBut s.commitRetract (F.GRS_EVT_CNT_COMMIT_RETRACT_CNT :: F.GRS_STATUS_COMMIT_RETRACT :: eventFlds) := by
  obtain ⟨u, hu⟩ : ∃ u, (s.inc F.GRS_EVT_CNT_COMMIT_RETRACT_CNT).set F.GRS_STATUS_COMMIT_RETRACT 1 = u := ⟨_, rfl⟩
  have honly : s.Only {.reg .GRS_EVT_CNT, .reg .GRS_STATUS} u := by
    rw [← hu]
    simp [F.GRS_EVT_CNT_COMMIT_RETRACT_CNT, F.GRS_STATUS_COMMIT_RETRACT]
  have heq : s.commitRetract = u.signal 28 := hu ▸ rfl
  rw [heq]
  refine ⟨fun b hb h => ?_, ?_⟩
  · rw [State.event_signal hb, State.event_of_only honly (by simp) (by simp), h]
    rfl
  · exact (hu ▸ ((State.RegsBut.refl s _).inc (by simp)).set 1 (by simp)).signal 28 (by simp +contextual)

theorem State.job_dropJob (s : State) (id : Nat) (confirmed : Bool) : (s.dropJob id confirmed).job id = none := by
  unfold State.dropJob
  generalize hu : ({ s with
    commits := s.commits ++ (s.jobs.filter fun (j : Job) => j.id == id && j.committed).flatMap Job.deps
    jobs := s.jobs.filter (fun j => j.id != id)
    areas := s.areas.filter (fun a => a.job != id)
    prods := s.prods.filter (fun p => p.job != id)
    tusss := Tab.mapV (fun _ => {}) (fun _ t => { t with
      arrs := Tab.mapV (fun _ => {}) (fun _ r => r.ownerGone id confirmed) t.arrs
      ovf := (t.ovf.map fun (p : Nat × List Nat) => (p.1, p.2.filter (· != id))).filter fun p => !p.2.isEmpty })
      s.tusss } : State) = u
  have hjobs : u.jobs = s.jobs.filter (fun j => j.id != id) := hu ▸ rfl
  have hrecount : u.Only {.reg .CHN_TAGS, .reg .CHN_ENG_STATUS} u.recount := by simp
  have hkept : u.recount.jobs = u.jobs := hrecount.same .jobs (by simp)
  dsimp only
  rw [State.job, hkept, hjobs]
  simp [List.find?_eq_none]

/-- What a token leaves of a provisional job. -/
theorem State.token_spec {s : State} {id : Nat} {j : Job} (hj : s.job id = some j) (hstage : j.stage = .provisional) (hchan : j.chan < 4)
    (confirm : Bool) :
    ∃ t, s.token id confirm = t ∧ t.job id = none ∧ t.get F.GRS_STATUS_UNRESOLVED = s.get F.GRS_STATUS_UNRESOLVED ∧
      t.get F.GRS_EVT_CNT_UNRES_CNT = s.get F.GRS_EVT_CNT_UNRES_CNT ∧
      (confirm = false → s.cplLost j.ek = false → t.event (16 + j.chan) = true) := by
  obtain ⟨u, hu⟩ : ∃ u, j.leaNodes.foldl (fun s d => s.msgSend (if confirm then 1 else 2) d j.ref [])
    ((s.writeRecord j (if confirm then 2 else 3) s.time).slotWait j false) = u := ⟨_, rfl⟩
  have hfirst : s.Only (Part.gwrite ∪ {.boot, .engines, .leas, .reg .LEA_STATUS, .reg .LEA_CTRL_STAT}) u := by
    rw [← hu]
    simp
  have hlost : u.cplLost j.ek = s.cplLost j.ek := State.cplLost_of_only hfirst (by simp) (by simp) _
  obtain ⟨v, hv⟩ : ∃ v, (if confirm || u.cplLost j.ek then u else u.signal (16 + j.chan)) = v := ⟨_, rfl⟩
  have hsecond : u.Only Part.event v := by
    rw [← hv]
    split <;> simp
  obtain ⟨w, hw⟩ : ∃ w, (if !confirm && (j.committed || j.legacy) then v.commitRetract else v) = w := ⟨_, rfl⟩
  obtain ⟨hkeep, hregs⟩ : (∀ b, b < 47 → v.event b = true → w.event b = true) ∧
      v.RegsBut w (F.GRS_EVT_CNT_COMMIT_RETRACT_CNT :: F.GRS_STATUS_COMMIT_RETRACT :: eventFlds) := by
    rw [← hw]
    split
    exacts [v.commitRetract_spec, ⟨fun _ _ h => h, .refl v _⟩]
  have hlast : w.Only (Part.tusss ∪ {.jobs, .areas, .prods, .commits, .provs, .leas, .reg .CHN_TAGS, .reg .CHN_ENG_STATUS, .reg .LEA_STATUS, .reg .LEA_CTRL_STAT,
      .reg .GRS_PROV}) ((w.resolveProvs (fun p => p.job == id && p.origin.isNone) (!confirm)).dropJob id confirm) := by simp
  have heq : s.token id confirm = (w.resolveProvs (fun p => p.job == id && p.origin.isNone) (!confirm)).dropJob id confirm := by
    simp only [State.token, hj, hstage, hu, hv, hw]
  refine ⟨_, heq, State.job_dropJob .., ?_, ?_, fun hconfirm hmapped => ?_⟩
  · rw [hlast.get (by simp [F.GRS_STATUS_UNRESOLVED]), hregs _ (by decide), hsecond.get (by simp [F.GRS_STATUS_UNRESOLVED]), hfirst.get (by simp [F.GRS_STATUS_UNRESOLVED])]
  · rw [hlast.get (by simp [F.GRS_EVT_CNT_UNRES_CNT]), hregs _ (by decide), hsecond.get (by simp [F.GRS_EVT_CNT_UNRES_CNT]), hfirst.get (by simp [F.GRS_EVT_CNT_UNRES_CNT])]
  · rw [State.event_of_only hlast (by simp) (by simp)]
    refine hkeep _ (by omega) ?_
    rw [← hv, hconfirm, hlost, hmapped, Bool.or_self, if_neg Bool.false_ne_true, State.event_signal (by omega), beq_self_eq_true, Bool.or_true]

/-- The provisional entries of a condition are resolved as retracted: they leave, and the jobs that depended on them have a failed dependency. -/
theorem State.resolveProvs_retracted (s : State) (p : Prov → Bool) : ∃ t, s.resolveProvs p true = t ∧ t.provs = s.provs.filter (fun e => !p e) ∧
    t.jobs = (s.jobs.map fun j => if j.deps.any ((s.provs.filter p).map Prov.id).contains then
      { j with deps := j.deps.filter (fun d => !((s.provs.filter p).map Prov.id).contains d), depBad := true } else j) ∧
    t.tusss = s.tusss ∧ t.mem = s.mem := by
  obtain ⟨u, hu⟩ : ∃ u : State, (s.provs.filter p).foldl (fun s e => match e.origin with
        | none => s
        | some o => if s.commits.contains e.id || s.jobs.any (fun j => j.committed && j.deps.contains e.id) then
            s.msgSend 3 o e.job [] else s) s = u := ⟨_, rfl⟩
  have honly : s.Only {.leas, .reg .LEA_STATUS, .reg .LEA_CTRL_STAT} u := by
    rw [← hu]
    refine State.only_foldl (fun u e => ?_) (.refl s _)
    split
    · exact .refl u _
    · split <;> simp
  have hprovs : u.provs = s.provs := honly.same .provs (by simp)
  have hjobs : u.jobs = s.jobs := honly.same .jobs (by simp)
  have hframe : s.Only {.jobs, .provs, .commits, .leas, .reg .LEA_STATUS, .reg .LEA_CTRL_STAT, .reg .GRS_PROV} (s.resolveProvs p true) := by simp
  obtain ⟨v, hv⟩ : ∃ v : State, { u with
      provs := u.provs.filter (fun e => !p e)
      commits := u.commits.filter (fun i => !((s.provs.filter p).map Prov.id).contains i)
      jobs := u.jobs.map fun j => if j.deps.any ((s.provs.filter p).map Prov.id).contains then
        { j with deps := j.deps.filter (fun d => !((s.provs.filter p).map Prov.id).contains d), depBad := j.depBad || true } else j } = v := ⟨_, rfl⟩
  have heq : s.resolveProvs p true = v.provCount := by rw [← hv, ← hu]; rfl
  have hcount : v.Only {.reg .GRS_PROV} v.provCount := by simp
  refine ⟨_, rfl, ?_, ?_, hframe.tusss (by simp), hframe.same .mem (by simp)⟩
  · rw [heq, hcount.same .provs (by simp), ← hv, ← hprovs]
  · rw [heq, hcount.same .jobs (by simp), ← hv, ← hjobs]
    simp only [Bool.or_true]

theorem exec_tokenDecision {id : Nat} {s : State} : exec (.tokenDecision id) s = .next (s.tokenDecision id) := rfl

theorem State.tokenDecision_waits {s : State} {id : Nat}
    (h : ∀ j, s.job id = some j → j.stage ≠ .provisional ∨ s.swath < j.tDone / 8192 + j.horizon) : s.tokenDecision id = s := by
  unfold State.tokenDecision
  split
  · rfl
  next j hj => exact if_pos (h j hj)

/-- The decision at a job's horizon. -/
theorem State.tokenDecision_spec {s : State} {id : Nat} {j : Job} (hj : s.job id = some j) (hstage : j.stage = .provisional) (hchan : j.chan < 4)
    (hdue : j.tDone / 8192 + j.horizon ≤ s.swath) :
    ∃ t, s.tokenDecision id = t ∧ t.job id = none ∧
      (s.arbInvolves id = true → t.get F.GRS_STATUS_UNRESOLVED = 1 ∧
        t.get F.GRS_EVT_CNT_UNRES_CNT = min (s.get F.GRS_EVT_CNT_UNRES_CNT + 1) (2 ^ F.GRS_EVT_CNT_UNRES_CNT.w - 1)) ∧
      (s.arbInvolves id = true ∨ j.retract = true ∨ j.depBad = true ∨ j.deps ≠ [] → s.cplLost j.ek = false →
        t.event (16 + j.chan) = true) := by
  have hgate : ¬(j.stage ≠ .provisional ∨ s.swath < j.tDone / 8192 + j.horizon) := by simp [hstage, hdue]
  by_cases harb : s.arbInvolves id = true
  · obtain ⟨u, hu⟩ : ∃ u, (s.inc F.GRS_EVT_CNT_UNRES_CNT).set F.GRS_STATUS_UNRESOLVED 1 = u := ⟨_, rfl⟩
    have honly : s.Only {.reg .GRS_EVT_CNT, .reg .GRS_STATUS} u := by
      rw [← hu]
      simp [F.GRS_EVT_CNT_UNRES_CNT, F.GRS_STATUS_UNRESOLVED]
    have huj : u.job id = some j := by rw [State.job, honly.same .jobs (by simp)]; exact hj
    obtain ⟨t, ht, hgone, hunres, hcnt, hevent⟩ := State.token_spec huj hstage hchan false
    refine ⟨t, ?_, hgone, fun _ => ⟨?_, ?_⟩, fun _ hmapped => hevent rfl ?_⟩
    · simp only [State.tokenDecision, hj, if_neg hgate, harb, if_true, hu, ht]
    · rw [hunres, ← hu, State.get_set_same]
      rfl
    · rw [hcnt, ← hu, State.get_set_ne _ _ (by decide), State.get_inc_same]
    · rw [State.cplLost_of_only honly (by simp) (by simp), hmapped]
  · obtain ⟨t, ht, hgone, -, -, hevent⟩ := State.token_spec hj hstage hchan (!j.retract && !j.depBad && j.deps.isEmpty)
    refine ⟨t, ?_, hgone, fun h => absurd h harb, fun hbad hmapped => hevent ?_ hmapped⟩
    · simp only [State.tokenDecision, hj, if_neg hgate, if_neg harb, ht]
    · rcases hbad with h | h | h | h
      · exact absurd h harb
      all_goals simp [h]

/-- Settles O29, by what a token and a resolution leave. -/
theorem tokensDecideProvisionalJobs : Obligations.TokensDecideProvisionalJobs := by
  refine ⟨fun id s j hj hstage hchan _ hdue => ?_, fun id s hwait => congrArg Host.Outcome.next (State.tokenDecision_waits hwait),
    fun e s p hp he horigin hsince honly => ?_⟩
  · obtain ⟨t, ht, hspec⟩ := State.tokenDecision_spec hj hstage hchan hdue
    exact ⟨t, ht ▸ exec_tokenDecision, hspec⟩
  · have hpred : ∀ q ∈ s.provs, (q.id == e && q.origin.isSome && decide (q.since + 32 ≤ s.swath)) = (q.id == e) := fun q hq => by
      by_cases hqe : q.id = e
      · obtain rfl := honly q hq hqe
        have hsome : q.origin.isSome = true := Option.isSome_iff_ne_none.2 horigin
        rw [hsome, decide_eq_true hsince, Bool.and_true, Bool.and_true]
      · rw [beq_false_of_ne hqe, Bool.false_and, Bool.false_and]
    obtain ⟨t, ht, hprovs, hjobs, htuss, hmem⟩ := s.resolveProvs_retracted fun q => q.id == e && q.origin.isSome && decide (q.since + 32 ≤ s.swath)
    refine ⟨t, congrArg Host.Outcome.next ht, ?_, ?_, htuss, hmem⟩
    · rw [hprovs]
      exact List.filter_congr fun q hq => by rw [hpred q hq]
    · have hids : ∀ d, ((s.provs.filter fun q => q.id == e && q.origin.isSome && decide (q.since + 32 ≤ s.swath)).map Prov.id).contains d = (d == e) := fun d => by
        rw [List.filter_congr hpred, Bool.eq_iff_iff, List.contains_iff_mem, beq_iff_eq, List.mem_map]
        refine ⟨fun ⟨q, hq, hqd⟩ => ?_, fun hd => ⟨p, List.mem_filter.2 ⟨hp, beq_iff_eq.2 he⟩, hd ▸ he⟩⟩
        exact hqd ▸ beq_iff_eq.1 (List.mem_filter.1 hq).2
      rw [hjobs]
      refine List.map_congr_left fun j _ => ?_
      have hany : j.deps.any ((s.provs.filter fun q => q.id == e && q.origin.isSome && decide (q.since + 32 ≤ s.swath)).map Prov.id).contains = j.deps.contains e := by
        rw [List.any_congr rfl fun d => hids d, List.any_beq']
      simp only [hany, hids]
      rfl

end Sys2Proof.Machine

namespace Sys2Proof.Machine
open Sys2Proof

/-! ### Heads that are no jobs -/

theorem State.ready_of_not_fresh {s : State} (h : s.fresh = false) : s.ready = s := by
  simp only [State.ready, h, Bool.not_false, if_true]

theorem State.ready_not_fresh (s : State) : s.ready.fresh = false := by
  by_cases h : s.fresh = false
  · rw [State.ready_of_not_fresh h, h]
  · obtain ⟨u, hu⟩ : ∃ u : State, { s with fresh := false } = u := ⟨_, rfl⟩
    have hframe : u.Only ({.reg .TSK_CONV_STATUS, .engines, .ctxs, .reg .CHN_TAGS, .reg .CHN_ENG_STATUS, .reg .CHN_ENG_JOBS, .reg .CHN_ENG_CONS, .reg .CHN_ENG_PROD,
        .reg .GLB_CTX_STATE, .reg .GLB_CTX_TID, .reg .GLB_CTX_PTR} ∪ Part.read ∪ Part.tusss)
        ((List.range 64).foldl State.changeEffect ((List.range 16).foldl State.latchEn u)) := by
      simp (disch := simp (disch := simp))
    have heq : s.ready = (List.range 64).foldl State.changeEffect ((List.range 16).foldl State.latchEn u) := by
      rw [← hu, State.ready, if_neg (by simpa using h)]
    rw [heq, hframe.same .fresh (by simp), ← hu]

@[simp] theorem State.ready_ready (s : State) : s.ready.ready = s.ready := State.ready_of_not_fresh s.ready_not_fresh

/-- A grant of a head that is no job, at an admission that runs. -/
theorem State.grantOne_of_head {s s1 : State} {n e : Nat} {h : Head} {isIt : Head → Bool} (hopen : s.ready.admOpen n = true)
    (hhead : s.ready.head (4 * n + e) = (s1, h)) (hit : isIt h = true) (hjob : ∀ j m f, h ≠ .job j m f) :
    s.grantOne n e isIt = (s.ready.grant (4 * n + e)).1 := by
  unfold State.grantOne
  simp only [hopen, Bool.not_true, Bool.false_eq_true, if_false, hhead]
  cases h with
  | job j m f => exact absurd rfl (hjob j m f)
  | nothing | nop | ringErr | fence | intr => exact if_pos hit

/-- The same for a state that is ready. -/
theorem State.grantOne_of_ready {s s1 : State} {n e : Nat} {h : Head} {isIt : Head → Bool} (hopen : s.ready.admOpen n = true)
    (hhead : s.ready.head (4 * n + e) = (s1, h)) (hit : isIt h = true) (hjob : ∀ j m f, h ≠ .job j m f) :
    s.ready.grantOne n e isIt = (s.ready.grant (4 * n + e)).1 := by
  rw [← s.ready_ready] at hopen hhead
  exact (State.grantOne_of_head hopen hhead hit hjob).trans (by rw [State.ready_ready])

theorem State.k1Grant_of_op {s : State} {n e op : Nat} {ok : Nat → Bool} (hop : s.ready.k1Op (4 * n + e) = some op) (hok : ok op = true) :
    s.k1Grant n e ok = s.ready.grantOne n e fun _ => true := by
  simp only [State.k1Grant, hop, hok, if_true]

section
variable {s s1 : State} {k : Nat}

theorem State.grant_nop (h : s.head k = (s1, .nop)) : (s.grant k).1 = s1.advance k 1 := by simp only [State.grant, h]
theorem State.grant_fence (h : s.head k = (s1, .fence)) :
    (s.grant k).1 = (s1.advance k 1).setEngine k { s1.engine k with fence := true } := by simp only [State.grant, h]
theorem State.grant_intr (h : s.head k = (s1, .intr)) : (s.grant k).1 = (s1.advance k 1).signal k := by simp only [State.grant, h]

end

theorem State.advance_spec (s : State) (k n : Nat) : (s.advance k n).get (F.CHN_ENG_CONS_CONS k) = (s.get (F.CHN_ENG_CONS_CONS k) + n) % 2 ^ 32 ∧
    s.OnlyRegs (s.advance k n) [F.CHN_ENG_CONS_CONS k] :=
  ⟨State.get_set_same .., (State.OnlyRegs.refl s _).set _ (by simp)⟩

theorem State.engine_setEngine (s : State) (k : Nat) (x : Engine) :
    (s.setEngine k x).engine k = x ∧ ∀ i, i ≠ k → (s.setEngine k x).engine i = s.engine i :=
  ⟨by simp [State.engine, State.setEngine], fun i hi => by simp [State.engine, State.setEngine, Tab.get_set_ne _ _ _ (Ne.symm hi)]⟩

/-- What a grant leaves of a head that is no job. -/
theorem State.grant_spec {s s1 : State} {k : Nat} {h : Head} (hhead : s.head k = (s1, h)) (hh : h = .nop ∨ h = .fence ∨ h = .intr) :
    ∃ t, (s.grant k).1 = t ∧ t.get (F.CHN_ENG_CONS_CONS k) = (s1.get (F.CHN_ENG_CONS_CONS k) + 1) % 2 ^ 32 ∧
      (h = .nop → s1.OnlyRegs t [F.CHN_ENG_CONS_CONS k]) ∧
      (h = .fence → (t.engine k) = { s1.engine k with fence := true } ∧ s1.RegsBut t [F.CHN_ENG_CONS_CONS k] ∧
        t = { s1 with regs := t.regs, engines := t.engines } ∧ ∀ i, i ≠ k → t.engine i = s1.engine i) ∧
      (h = .intr → s1.Raised t k ∧ s1.RegsBut t (F.CHN_ENG_CONS_CONS k :: eventFlds) ∧
        t = { s1 with regs := t.regs, irq := t.irq }) := by
  obtain ⟨hcons, honly⟩ := s1.advance_spec k 1
  have hirq : (s1.advance k 1).irq = s1.irq := by rw [honly.1]
  have hfence (x : Engine) : s1.Only {.engines, .reg .CHN_ENG_CONS} ((s1.advance k 1).setEngine k x) := by simp
  have hintr : s1.Only ({.reg .CHN_ENG_CONS} ∪ Part.event) ((s1.advance k 1).signal k) := by simp
  generalize hu : s1.advance k 1 = u at hcons honly hirq hfence hintr
  obtain rfl | rfl | rfl := hh
  · exact ⟨_, State.grant_nop hhead, hu ▸ hcons, fun _ => hu ▸ honly, nofun, nofun⟩
  · obtain ⟨hsame, hother⟩ := u.engine_setEngine k { s1.engine k with fence := true }
    have heng (i : Nat) : u.engine i = s1.engine i := by rw [honly.1]; rfl
    refine ⟨u.setEngine k { s1.engine k with fence := true }, (State.grant_fence hhead).trans (by rw [hu]), hcons, nofun, fun _ => ⟨hsame, honly.2, ?_, fun i hi => (hother i hi).trans (heng i)⟩, nofun⟩
    exact (hfence _).eq_mix.trans (by simp [State.mix])
  · have hkeep : u.RegsBut (u.signal k) eventFlds := (State.RegsBut.refl u _).signal k fun _ h => h
    refine ⟨u.signal k, (State.grant_intr hhead).trans (by rw [hu]), ?_, nofun, nofun, fun _ => ⟨?_, ?_, ?_⟩⟩
    · exact (hkeep _ (by simp [eventFlds, Fld.key_iff, F.CHN_ENG_CONS_CONS, F.GLB_IRQ_EVENT_LO_EVENT, F.GLB_IRQ_EVENT_HI_EVENT])).trans hcons
    · refine (u.signal_raised k).congr_left hirq fun f hf => honly.2 f ?_
      obtain rfl | rfl : f = F.GLB_IRQ_EVENT_LO_EVENT ∨ f = F.GLB_IRQ_EVENT_HI_EVENT := by simpa [eventFlds] using hf
      all_goals simp [Fld.key_iff, F.CHN_ENG_CONS_CONS, F.GLB_IRQ_EVENT_LO_EVENT, F.GLB_IRQ_EVENT_HI_EVENT]
    · exact (honly.2.mono (by simp)).signal k fun f hf => List.mem_cons_of_mem _ hf
    · exact hintr.eq_mix.trans (by simp [State.mix])

section
variable {s s1 : State} {n : Chn} {e : Eng} {h : Head} (hopen : s.ready.admOpen n = true) (hhead : s.ready.head (4 * n.val + e.val) = (s1, h))
  (hh : h = .nop ∨ h = .fence ∨ h = .intr)
include hopen hhead hh

theorem State.grantOne_ready {isIt : Head → Bool} (hit : isIt h = true) : s.ready.grantOne n e isIt = (s.ready.grant (4 * n.val + e.val)).1 :=
  State.grantOne_of_ready hopen hhead hit <| by rcases hh with rfl | rfl | rfl <;> simp

theorem State.k1Grant_ready {op : Nat} {ok : Nat → Bool} (hop : s.ready.k1Op (4 * n.val + e.val) = some op) (hok : ok op = true) :
    s.k1Grant n e ok = (s.ready.grant (4 * n.val + e.val)).1 :=
  (State.k1Grant_of_op hop hok).trans (State.grantOne_ready hopen hhead hh rfl)

end

theorem exec_nop {s : State} {n : Chn} {e : Eng} (hop : s.ready.k1Op (4 * n.val + e.val) = none) :
    exec (.nop n e) s = .next (s.ready.grantOne n e fun h => h == .nop) := by
  refine congrArg Host.Outcome.next ?_
  rw [hop, Option.isSome_none, if_neg Bool.false_ne_true]

/-- Settles O44, by the kind of the head. -/
theorem headsThatAreNoJobsAreTaken : Obligations.HeadsThatAreNoJobsAreTaken := by
  refine ⟨fun n e c h s r s1 k hk hr hopen hhead hc => ?_, fun n e s k hk => ⟨fun hfence hquiet => ?_, fun hnot => ?_⟩⟩
  · subst hk hr
    have hh : h = .nop ∨ h = .fence ∨ h = .intr := by
      rcases hc with ⟨-, -, hh⟩ | ⟨-, -, hh⟩ | ⟨-, -, hh⟩ | ⟨-, -, hh⟩ <;> simp [hh]
    have hgrant : exec c s = .next (s.ready.grant (4 * n.val + e.val)).1 := by
      rcases hc with ⟨rfl, hop, rfl⟩ | ⟨rfl, hop, -⟩ | ⟨rfl, hop, -⟩ | ⟨rfl, hop, -⟩
      · rw [exec_nop hop, State.grantOne_ready hopen hhead hh (by simp)]
      · exact congrArg Host.Outcome.next (State.k1Grant_ready hopen hhead hh hop rfl)
      · exact congrArg Host.Outcome.next (State.k1Grant_ready hopen hhead hh hop rfl)
      · exact congrArg Host.Outcome.next (State.k1Grant_ready hopen hhead hh hop rfl)
    obtain ⟨t, ht, hspec⟩ := State.grant_spec hhead hh
    exact ⟨t, by rw [hgrant, ht], hspec⟩
  · obtain ⟨hsame, hother⟩ := s.engine_setEngine k { s.engine k with fence := false }
    refine ⟨_, congrArg Host.Outcome.next (if_pos ?_), hk ▸ hsame, rfl, hk ▸ hother⟩
    rw [← hk, hfence, hquiet, Bool.and_self]
  · refine congrArg Host.Outcome.next (if_neg ?_)
    rw [← hk]
    rcases hnot with h | h <;> simp [h]

end Sys2Proof.Machine

namespace Sys2Proof.Machine
open Sys2Proof

/-! ### Blocks that arrive, and host reads that are answered -/

section
variable {s t : State} {ps : Set Part} (h : s.Only ps t)
include h

theorem State.Only.jobs_eq (hp : .jobs ∉ ps) : t.jobs = s.jobs := h.same .jobs hp
theorem State.Only.latent_eq (hp : .latent ∉ ps) : t.latent = s.latent := h.same .latent hp
theorem State.Only.time_eq (hp : .time ∉ ps) : t.time = s.time := h.same .time hp
theorem State.Only.t3_eq (hp : .t3 ∉ ps) : t.t3 = s.t3 := h.same .t3 hp

end

/-- What the region guard decides, it decides from its own registers and from which channels are offline. -/
theorem State.Only.accessFault {s t : State} {ps : Set Part} (h : s.Only ps t) (hattr : Part.reg .GLB_RGN_ATTR ∉ ps)
    (hbase : Part.reg .GLB_RGN_BASE ∉ ps) (hlimit : Part.reg .GLB_RGN_LIMIT ∉ ps) (hchn : Part.reg .GLB_CHN_STATUS ∉ ps)
    (who : Accessor) (wr : Bool) (a n : Nat) : t.accessFault who wr a n = s.accessFault who wr a n := by
  have hu (x : Nat) : t.unmapped x = s.unmapped x := by
    have hoff : t.get F.GLB_CHN_STATUS_OFFLINE = s.get F.GLB_CHN_STATUS_OFFLINE := h.get hchn
    simp only [State.unmapped, hoff]
  have hg : t.guardsFor who wr = s.guardsFor who wr := by
    funext x len
    refine List.filter_congr fun k _ => ?_
    have hget (f : Fld) (hf : f.r = .GLB_RGN_ATTR ∨ f.r = .GLB_RGN_BASE ∨ f.r = .GLB_RGN_LIMIT) : t.get f = s.get f := by
      rcases hf with hf | hf | hf <;> exact h.get (by rwa [hf])
    have hon (f : Fld) (hf : f.r = .GLB_RGN_ATTR) : t.on f = s.on f := by simp only [State.on, hget f (.inl hf)]
    have hc : t.guardCovers k x len = s.guardCovers k x len := by
      simp only [State.guardCovers, hon (F.GLB_RGN_ATTR_EN k) rfl, hget (F.GLB_RGN_BASE_BASE k) (.inr (.inl rfl)),
        hget (F.GLB_RGN_LIMIT_LIMIT k) (.inr (.inr rfl))]
    have hw : t.guardGrants k who wr = s.guardGrants k who wr := by
      simp only [State.guardGrants, hon (F.GLB_RGN_ATTR_PCI_WR k) rfl, hget (F.GLB_RGN_ATTR_TAG_MODE k) (.inl rfl),
        hon (F.GLB_RGN_ATTR_PCI_RD k) rfl, hon (F.GLB_RGN_ATTR_LEA_WR k) rfl, hget (F.GLB_RGN_ATTR_ENG_WR k) (.inl rfl),
        hget (F.GLB_RGN_ATTR_ENG_RD k) (.inl rfl)]
    rw [hc, hw]
  simp only [State.accessFault, hu, hg]

theorem tagged_of_region {a : Nat} (h : (∃ n, regionOf a = .stack n) ∨ ∃ g o, regionOf a = .bank g o) : tagged a = true := by
  rcases h with ⟨n, h⟩ | ⟨g, o, h⟩ <;> simp [tagged, h]

theorem State.latentAt_scrubbed (s : State) (a : Nat) : (s.scrubbed a).latentAt a = .ok := by
  have hnone : (s.scrubbed a).latent.find? (fun p => p.1 == canon a) = none := by
    simp [State.scrubbed, List.find?_eq_none]
  rw [State.latentAt, hnone]
  rfl

theorem State.putBlock_of_tagged {s : State} {a : Nat} {b : Block} (h : tagged a = true) :
    s.putBlock a b = State.scrubbed { s with mem := Memory.putBlock s.mem a b } a := by
  rw [State.putBlock, if_pos h]

/-- A stored block: its bytes, the bit errors that its write clears, and the note of the tensor. -/
theorem State.writeBlock_stores {s : State} {n job cmd unit a : Nat} {b : Block} {expect : Option (Nat × Nat)}
    (hfault : s.accessFault (.eng n) true a 256 = none) (htag : tagged a = true) :
    (s.writeBlock n job cmd unit a b expect).mem = Memory.putBlock s.mem a (if b.check expect = .blockCrc then b.poison else b) ∧
      (s.writeBlock n job cmd unit a b expect).latentAt a = .ok ∧ (s.writeBlock n job cmd unit a b expect).tusss = s.tusss ∧
      (b.check expect = .ok → (s.writeBlock n job cmd unit a b expect).jobs = s.jobs) := by
  obtain ⟨u, hu⟩ : ∃ u, s.putBlock a (if b.check expect = .blockCrc then b.poison else b) = u := ⟨_, rfl⟩
  have hput := hu
  rw [State.putBlock_of_tagged htag] at hput
  have hstored : s.Only {.mem, .latent} u := hu ▸ State.only_putBlock_tagged htag (by simp) (.refl s _)
  have hw : s.writeBlock n job cmd unit a b expect = if b.check expect = .ok then u.provNote b.tid job none
      else ((u.provNote b.tid job none).countCheck (chanOfAddr a) (b.check expect)).jobFail job (b.check expect).status cmd unit := by
    simp [State.writeBlock, hfault, htag, hu]
  have hlat : u.latentAt a = .ok := hput ▸ State.latentAt_scrubbed _ a
  have hmem : u.mem = Memory.putBlock s.mem a (if b.check expect = .blockCrc then b.poison else b) := by rw [← hput]; rfl
  have hkeep : u.Only {.provs, .nextProv, .reg .GRS_STATUS, .reg .GRS_PROV, .reg .CHN_HDG_ERR, .jobs} (s.writeBlock n job cmd unit a b expect) := by
    rw [hw]
    split <;> simp
  refine ⟨(hkeep.mem_eq (by simp)).trans hmem, ?_, (hkeep.tusss (by simp)).trans (hstored.tusss (by simp)), fun hok => ?_⟩
  · rw [State.latentAt, hkeep.latent_eq (by simp)]
    exact hlat
  · have hprov : u.Only {.provs, .nextProv, .reg .GRS_STATUS, .reg .GRS_PROV} (s.writeBlock n job cmd unit a b expect) := by
      rw [hw, if_pos hok]
      simp
    exact (hprov.jobs_eq (by simp)).trans (hstored.jobs_eq (by simp))

theorem State.flitNote_good {s : State} {n : Nat} {e : Ecc} {b : Block} (h : e ≠ .ue) : (s.flitNote n e b).2 = b := by
  cases e with
  | ok | ce => rfl
  | ue => exact absurd rfl h

/-- A block that arrives unharmed at an address that the guard allows. -/
theorem State.blockArrive_stores {s : State} {n job cmd a : Nat} {b : Block} {link : Ecc} {expect : Option (Nat × Nat)}
    (hfault : s.accessFault (.eng n) true a 256 = none) (hlink : link ≠ .ue)
    (hreg : (∃ n, regionOf a = .stack n) ∨ ∃ g o, regionOf a = .bank g o) :
    (s.blockArrive n job cmd a b link expect).mem = Memory.putBlock s.mem a (if b.check expect = .blockCrc then b.poison else b) ∧
      (s.blockArrive n job cmd a b link expect).latentAt a = .ok ∧ (s.blockArrive n job cmd a b link expect).tusss = s.tusss ∧
      (b.check expect = .ok → (s.blockArrive n job cmd a b link expect).jobs = s.jobs) := by
  obtain ⟨u, hu⟩ : ∃ u, (s.flitNote (chanOfAddr a) link b).1 = u := ⟨_, rfl⟩
  have hnote : s.Only {.reg .CHN_HDG_ERR} u := by rw [← hu]; simp
  have harr : s.blockArrive n job cmd a b link expect = u.writeBlock n job cmd (unitOfAddr a) a b expect := by
    rw [State.blockArrive]
    change State.writeBlock (s.flitNote (chanOfAddr a) link b).1 n job cmd (unitOfAddr a) a (s.flitNote (chanOfAddr a) link b).2 expect = _
    rw [State.flitNote_good hlink, hu]
  obtain ⟨hmem, hlat, htuss, hjobs⟩ := State.writeBlock_stores (job := job) (cmd := cmd) (unit := unitOfAddr a) (b := b) (expect := expect)
    ((hnote.accessFault (by simp) (by simp) (by simp) (by simp) (.eng n) true a 256).trans hfault) (tagged_of_region hreg)
  rw [harr]
  exact ⟨hmem.trans (by rw [hnote.mem_eq (by simp)]), hlat, htuss.trans (hnote.tusss (by simp)),
    fun hok => (hjobs hok).trans (hnote.jobs_eq (by simp))⟩

theorem State.blockArrive_denied {s : State} {n job cmd a : Nat} {b : Block} {link : Ecc} {expect : Option (Nat × Nat)} {w : Bool}
    (hfault : s.accessFault (.eng n) true a 256 = some w) :
    (s.blockArrive n job cmd a b link expect).mem = s.mem ∧ (s.blockArrive n job cmd a b link expect).tusss = s.tusss := by
  obtain ⟨u, hu⟩ : ∃ u, (s.flitNote (chanOfAddr a) link b).1 = u := ⟨_, rfl⟩
  have hnote : s.Only {.reg .CHN_HDG_ERR} u := by rw [← hu]; simp
  have hu' := (hnote.accessFault (by simp) (by simp) (by simp) (by simp) (.eng n) true a 256).trans hfault
  have harr : s.blockArrive n job cmd a b link expect = (u.addressFault (.eng n) true a w).jobFail job 0x12 cmd (unitOfAddr a) := by
    simp only [State.blockArrive, State.writeBlock, hu, hu']
  have hkeep : u.Only ({.jobs, .reg .GLB_RGN_FAULT_INFO, .reg .GLB_RGN_FAULT_ADDR} ∪ Part.event) (s.blockArrive n job cmd a b link expect) := by
    rw [harr]
    simp
  exact ⟨(hkeep.mem_eq (by simp)).trans (hnote.mem_eq (by simp)), (hkeep.tusss (by simp)).trans (hnote.tusss (by simp))⟩

theorem Block.check_ok_good {b : Block} {expect : Option (Nat × Nat)} (h : b.check expect = .ok) : b.good = true := by
  cases hg : b.good with
  | true => rfl
  | false => cases hp : b.poisoned <;> simp [Block.check, hg, hp] at h

theorem Block.check_bad {b : Block} {expect : Option (Nat × Nat)} (hg : b.good = false) (hp : b.poisoned = false) :
    b.check expect = .blockCrc := by
  simp [Block.check, hg, hp]

/-- An answer to the oldest host read, in time and after every other check, goes to its place in the destination. -/
theorem State.copyOut_stores {s : State} {j : Job} {cmd i a : Nat} {c : List Nat} {b : Block} {link : Ecc} (hmode : tfld c 0 20 2 = 1)
    (ha : a = cmdAddr c 4 + 256 * i) (hlink : link ≠ .ue) (hgood : b.good = true)
    (hfault : s.accessFault (.eng (copyHome c)) true a 256 = none) (hreg : (∃ n, regionOf a = .stack n) ∨ ∃ g o, regionOf a = .bank g o) :
    (s.copyOut j cmd c i b link).mem = Memory.putBlock s.mem a b ∧ (s.copyOut j cmd c i b link).tusss = s.tusss := by
  subst ha
  obtain ⟨u, hu⟩ : ∃ u, s.blockArrive (copyHome c) j.id cmd (cmdAddr c 4 + 256 * i) b link (some (b.tid, b.seq)) = u := ⟨_, rfl⟩
  have hout : s.copyOut j cmd c i b link = u.copyNote j.id cmd (tfld c 1 0 24) b.seq := by
    simp only [State.copyOut, hmode, hu]
  have hok : b.check (some (b.tid, b.seq)) = .ok := by simp [Block.check, hgood]
  obtain ⟨hmem, -, htuss, -⟩ := State.blockArrive_stores (job := j.id) (cmd := cmd) (b := b) (expect := some (b.tid, b.seq)) hfault hlink hreg
  rw [hu] at hmem htuss
  have hnote : u.Only {.jobs} (u.copyNote j.id cmd (tfld c 1 0 24) b.seq) := by simp
  rw [hout]
  refine ⟨(hnote.mem_eq (by simp)).trans (hmem.trans ?_), (hnote.tusss (by simp)).trans htuss⟩
  rw [hok]
  rfl

theorem State.job_err_of_jobFail {s : State} {id status cmd unit : Nat} {i : Job} (hi : i ∈ (s.jobFail id status cmd unit).jobs)
    (hid : i.id = id) (hrun : i.stage = .running) : i.err.isSome = true := by
  simp only [State.jobFail, State.jobErr, State.updJob, List.mem_map] at hi
  obtain ⟨j, -, rfl⟩ := hi
  by_cases hj : j.id = id
  · simp only [if_pos hj] at hrun ⊢
    cases hst : j.stage with
    | provisional => simp [hst] at hrun
    | running => cases herr : j.err <;> simp
  · exact absurd (by simpa only [if_neg hj] using hid) hj

/-- An answer to the oldest host read that passes every check goes where its COPY puts it. -/
theorem State.t3Done_in_time {s u : State} {r : T3Read} {rest : List T3Read} {j : Job} {c : List Nat} {b : Block} {link : Ecc}
    (ht3 : s.t3 = r :: rest) (hdue : s.workDue r.job r.cmd = some (j, c)) (hin : s.time - r.since ≤ s.get F.PCI_T3_LAT_BOUND)
    (hvalid : State.tensorsValid { s with t3 := rest } (copyHome c) j.id r.cmd 0xFFFF [b.tid] = (u, true))
    (hver : u.otherVersion j (tfld c 7 16 16) = false)
    (hchk : b.check (some (tfld c 7 16 16, j.seqWanted r.cmd r.block b.seq)) = .ok) : s.t3Done b link = u.copyOut j r.cmd c r.block b link := by
  have hlate : decide (State.get { s with t3 := rest } F.PCI_T3_LAT_BOUND < s.time - r.since) = false :=
    decide_eq_false (Nat.not_lt.2 hin)
  have hdue' : State.workDue { s with t3 := rest } r.job r.cmd = some (j, c) := hdue
  simp only [State.t3Done, ht3, hlate, Bool.false_eq_true, if_false, hdue', hvalid, hver, hchk, if_true]

theorem State.t3Done_late {s : State} {r : T3Read} {rest : List T3Read} {j : Job} {c : List Nat} {b : Block} {link : Ecc}
    (ht3 : s.t3 = r :: rest) (hdue : s.workDue r.job r.cmd = some (j, c)) (hlate : s.get F.PCI_T3_LAT_BOUND < s.time - r.since) :
    s.t3Done b link = (State.inc { s with t3 := rest } F.PCI_T3_LATE_CNT).jobFail r.job 0x13 r.cmd 0xFFFF := by
  have hlate' : decide (State.get { s with t3 := rest } F.PCI_T3_LAT_BOUND < s.time - r.since) = true :=
    decide_eq_true hlate
  obtain ⟨u, hu⟩ : ∃ u, State.inc { s with t3 := rest } F.PCI_T3_LATE_CNT = u := ⟨_, rfl⟩
  have hu' : s.Only {.t3, .reg .PCI_T3_LATE} u := by rw [← hu]; simp [F.PCI_T3_LATE_CNT]
  have hdue' : u.workDue r.job r.cmd = some (j, c) := by
    have hjobs : u.jobs = s.jobs := hu'.jobs_eq (by simp)
    have htime : u.time = s.time := hu'.time_eq (by simp)
    rw [← hdue]
    unfold State.workDue State.cmdDue State.job State.swath
    rw [hjobs, htime]
  simp only [State.t3Done, ht3, hlate', if_true, hu, hdue']

/-- Settles O42: an arrival writes its block through the region guard, and the answer to a host read does so as its COPY's destination. -/
theorem blocksArriveWithTheirTags : Obligations.BlocksArriveWithTheirTags := by
  unfold Obligations.BlocksArriveWithTheirTags
  refine ⟨?arrive, ?read⟩
  case arrive =>
    rintro n job cmd x data crc tid seq link expect s a b hpow rfl rfl
    have hexec : exec (.blockArrive n job cmd x data crc tid seq link expect) s = .next (s.blockArrive n job cmd (x.toNat / 256 * 256)
        ⟨data, crc.toNat, tid.toNat, seq.toNat⟩ link (expect.map fun p => (p.1.toNat, p.2.toNat))) := by
      simp only [exec, execBlockArrive, hpow, if_true]
    rw [hexec]
    refine ⟨fun hfault hlink hreg => ?_, fun ⟨w, hfault⟩ => ?_⟩
    · obtain ⟨hmem, hlat, htuss, hjobs⟩ := State.blockArrive_stores (job := job) (cmd := cmd)
        (b := ⟨data, crc.toNat, tid.toNat, seq.toNat⟩) (expect := expect.map fun p => (p.1.toNat, p.2.toNat)) hfault hlink hreg
      refine ⟨_, rfl, htuss, hlat, fun hok => ⟨hmem.trans ?_, hjobs hok⟩, fun hg hp => hmem.trans ?_⟩
      · rw [hok]
        rfl
      · rw [Block.check_bad hg hp]
        rfl
    · obtain ⟨hmem, htuss⟩ := State.blockArrive_denied (job := job) (cmd := cmd)
        (b := ⟨data, crc.toNat, tid.toNat, seq.toNat⟩) (link := link) (expect := expect.map fun p => (p.1.toNat, p.2.toNat)) hfault
      exact ⟨_, rfl, hmem, htuss⟩
  case read =>
    rintro data crc tid seq link s r rest j c a b hpow ht3 hdue rfl ha
    have hexec : exec (.t3ReadCompletion data crc tid seq link) s = .next (s.t3Done ⟨data, crc.toNat, tid.toNat, seq.toNat⟩ link) := by
      simp only [exec, execT3ReadCompletion, hpow, if_true]
    rw [hexec]
    refine ⟨fun u hin hmode hlink _ hvalid hver hchk hfault hreg => ?_, fun hlate => ?_⟩
    · have hout := State.t3Done_in_time (link := link) ht3 hdue hin hvalid hver hchk
      obtain ⟨hmem, htuss⟩ := State.copyOut_stores (j := j) (cmd := r.cmd) hmode ha hlink (Block.check_ok_good hchk) hfault hreg
      have hread : State.Only { s with t3 := rest } ({.jobs} ∪ Part.read) u := by
        have h : State.Only { s with t3 := rest } ({.jobs} ∪ Part.read)
            (State.tensorsValid { s with t3 := rest } (copyHome c) j.id r.cmd 0xFFFF [tid.toNat]).1 := by simp
        rwa [hvalid] at h
      refine ⟨_, rfl, ?_, by rw [hout, hmem], by rw [hout, htuss]⟩
      have hcopy : u.Only {p | p ≠ .t3} (u.copyOut j r.cmd c r.block ⟨data, crc.toNat, tid.toNat, seq.toNat⟩ link) := by simp
      rw [hout]
      exact (hcopy.t3_eq (by simp)).trans (hread.t3_eq (by simp))
    · have hdone := State.t3Done_late (b := ⟨data, crc.toNat, tid.toNat, seq.toNat⟩) (link := link) ht3 hdue hlate
      have hframe : State.Only { s with t3 := rest } {.jobs, .reg .PCI_T3_LATE}
          (s.t3Done ⟨data, crc.toNat, tid.toNat, seq.toNat⟩ link) := by
        rw [hdone]
        simp [F.PCI_T3_LATE_CNT]
      have hset (f : Fld) (hf : f.key ≠ F.PCI_T3_LATE_CNT.key) :
          (s.t3Done ⟨data, crc.toNat, tid.toNat, seq.toNat⟩ link).get f = s.get f := by
        rw [hdone]
        have hfail : (State.inc { s with t3 := rest } F.PCI_T3_LATE_CNT).Only {.jobs}
            ((State.inc { s with t3 := rest } F.PCI_T3_LATE_CNT).jobFail r.job 0x13 r.cmd 0xFFFF) := by simp
        exact (hfail.get (by simp)).trans (State.get_inc_ne { s with t3 := rest } (Ne.symm hf))
      refine ⟨_, rfl, hframe.t3_eq (by simp), ?_, fun i hi hid hrun => ?_, ?_, fun f hf => hset f (by simpa using hf)⟩
      · rw [hdone]
        exact State.get_inc_same { s with t3 := rest } _
      · rw [hdone] at hi
        exact State.job_err_of_jobFail hi hid hrun
      · exact hframe.eq_mix.trans (by simp [State.mix])

end Sys2Proof.Machine

namespace Sys2Proof.Machine
open Sys2Proof

/-! ### Engines that start and stop, and interrupt messages -/

/-- A set bit cleared by subtraction: that bit reads as clear, every other as before. -/
theorem bitOf_clrMask (m v b : Nat) : bitOf (clrMask m v) b = (bitOf m b && b != v) := by
  by_cases hset : bitOf m v = true
  · have hq : m / 2 ^ v % 2 = 1 := by simpa [bitOf] using hset
    have hle : 2 ^ v ≤ m := by
      by_contra hlt
      simp [Nat.div_eq_of_lt (Nat.not_le.1 hlt)] at hq
    have hclear : bitOf (m - 2 ^ v) v = false := by
      have hdiv : (m - 2 ^ v) / 2 ^ v = m / 2 ^ v - 1 := by simpa using Nat.sub_mul_div m (2 ^ v) 1
      rw [bitOf, hdiv]
      exact beq_eq_false_iff_ne.2 (by omega)
    have hback := bitOf_add_pow hclear b
    rw [Nat.sub_add_cancel hle] at hback
    rw [clrMask, if_pos hset, hback]
    by_cases hb : b = v
    · rw [hb, hclear]
      simp
    · rw [beq_false_of_ne hb, bne, beq_false_of_ne hb]
      simp
  · rw [clrMask, if_neg hset]
    by_cases hb : b = v
    · simpa [hb] using hset
    · simp [hb]

theorem bitOf_setMask (m v b : Nat) : bitOf (setMask m v) b = (bitOf m b || b == v) := by
  by_cases hset : bitOf m v = true
  · rw [setMask, if_pos hset]
    by_cases hb : b = v
    · simp [hb, hset]
    · simp [hb]
  · rw [setMask, if_neg hset, bitOf_add_pow (by simpa using hset)]

theorem natOf_lt_two (b : Bool) : natOf b < 2 := by cases b <;> decide

theorem State.get_setRunning (l : List Nat) (s : State) {k : Nat} (hk : k < 16) (hl : ∀ x ∈ l, x < 16) :
    (l.foldl (fun s k => s.set (F.CHN_ENG_STATUS_RUNNING k) (natOf ((s.engine k).en ||
      s.jobs.any fun j => 4 * j.chan + j.eng == k && !j.tags.isEmpty))) s).get (F.CHN_ENG_STATUS_RUNNING k) =
    if k ∈ l then natOf ((s.engine k).en || s.jobs.any fun j => 4 * j.chan + j.eng == k && !j.tags.isEmpty)
    else s.get (F.CHN_ENG_STATUS_RUNNING k) := by
  induction l generalizing s with
  | nil => rfl
  | cons x l ih =>
    have hne (x k : Nat) (hx : x < 16) (hk : k < 16) (h : x ≠ k) : (F.CHN_ENG_STATUS_RUNNING x).key ≠ (F.CHN_ENG_STATUS_RUNNING k).key := by
      simp [Fld.key_iff, F.CHN_ENG_STATUS_RUNNING]
      omega
    obtain ⟨u, hu⟩ : ∃ u, s.set (F.CHN_ENG_STATUS_RUNNING x) (natOf ((s.engine x).en ||
      s.jobs.any fun j => 4 * j.chan + j.eng == x && !j.tags.isEmpty)) = u := ⟨_, rfl⟩
    have hset : s.Only {.reg .CHN_ENG_STATUS} u := by rw [← hu]; simp [F.CHN_ENG_STATUS_RUNNING]
    have heng : u.engine k = s.engine k := by rw [State.engine, hset.same .engines (by simp), ← State.engine]
    rw [List.foldl_cons, hu, ih _ fun y hy => hl y (List.mem_cons_of_mem _ hy), heng, hset.jobs_eq (by simp)]
    by_cases hin : k ∈ l
    · simp [hin]
    · rw [if_neg hin, ← hu]
      by_cases hx : k = x
      · subst hx
        simp only [List.mem_cons, true_or, if_true]
        rw [State.get_set_same]
        exact Nat.mod_eq_of_lt (natOf_lt_two _)
      · rw [if_neg (by simp [hx, hin]), State.get_set_ne _ _ (hne x k (hl x (List.mem_cons_self ..)) hk (Ne.symm hx))]

/-- RUNNING after a count: the engine is enabled, or a job of its ring holds tags. -/
theorem State.running_recount {s : State} {k : Nat} (hk : k < 16) : s.recount.get (F.CHN_ENG_STATUS_RUNNING k) =
    natOf ((s.engine k).en || s.jobs.any fun j => 4 * j.chan + j.eng == k && !j.tags.isEmpty) := by
  obtain ⟨u, hu⟩ : ∃ u, (List.range 4).foldl (fun (s : State) n =>
    let u := ((s.jobs.filter (fun j => j.chan == n)).map (fun j => j.tags.length)).sum
    (s.set (F.CHN_TAGS_IN_USE n) u).raise (F.CHN_TAGS_PEAK n) u) s = u := ⟨_, rfl⟩
  have hset : s.Only {.reg .CHN_TAGS} u := by rw [← hu]; simp (disch := simp (disch := simp)) [F.CHN_TAGS_IN_USE, F.CHN_TAGS_PEAK]
  have heng : u.engine k = s.engine k := by rw [State.engine, hset.same .engines (by simp), ← State.engine]
  rw [State.recount, hu, State.get_setRunning _ _ hk (fun x hx => List.mem_range.1 hx), if_pos (List.mem_range.2 hk), heng, hset.jobs_eq (by simp)]

theorem State.get_foldl {α : Type} {l : List α} {step : State → α → State} {f : Fld} (h : ∀ u x, (step u x).get f = u.get f) (s : State) :
    (l.foldl step s).get f = s.get f := by
  induction l generalizing s with
  | nil => rfl
  | cons x l ih => exact (ih _).trans (h s x)

/-- A count touches no other field of the engines' registers than RUNNING. -/
theorem State.get_recount (s : State) {f : Fld} (hlo : f.lo % 64 ≠ 0) (htags : f.r ≠ .CHN_TAGS) : s.recount.get f = s.get f := by
  unfold State.recount
  refine (State.get_foldl (fun u x => State.get_set_ne _ _ (Fld.key_ne_of_lo (Ne.symm hlo))) _).trans
    (State.get_foldl (fun u x => ?_) s)
  have hset : u.Only {.reg .CHN_TAGS} ((u.set (F.CHN_TAGS_IN_USE x)
      (((u.jobs.filter (fun j => j.chan == x)).map (fun j => j.tags.length)).sum)).raise (F.CHN_TAGS_PEAK x)
      (((u.jobs.filter (fun j => j.chan == x)).map (fun j => j.tags.length)).sum)) := by simp [F.CHN_TAGS_IN_USE, F.CHN_TAGS_PEAK]
  exact hset.get (by simpa using htags)

theorem regionOf_stack {a : Nat} (h : a < stackEnd) : regionOf a = .stack (a / stackSize) := by
  have hcanon : canon a = a := by
    rw [canon, if_neg]
    intro hin
    have : stackEnd ≤ aliasBase := by decide
    omega
  simp only [regionOf, hcanon, h, if_true]

theorem tagged_stack {a : Nat} (h : a < stackEnd) : tagged a = true := tagged_of_region (.inl ⟨_, regionOf_stack h⟩)

/-- A write of part of a block of the stacks changes no Tussock. -/
theorem State.only_mergePart_stack {s : State} {a : Nat} {bytes : List Byte} (ha : a < stackEnd) :
    s.Only {.chans, .flits, .latent, .mem, .reg .CHN_HDG_ERR, .reg .CHN_STK_ERR, .reg .TSK_BANK_ECC} (s.mergePart a bytes) := by
  have hbase : tagged (a / 256 * 256) = true := tagged_stack (by omega)
  unfold State.mergePart
  simp only [tagged_stack ha, Bool.not_true, Bool.false_eq_true, if_false]
  split <;> simp [hbase]

theorem State.only_mergeParts_stack {s : State} {a fuel : Nat} {bytes : List Byte} (ha : a + bytes.length ≤ stackEnd) (hne : bytes ≠ []) :
    s.Only {.chans, .flits, .latent, .mem, .reg .CHN_HDG_ERR, .reg .CHN_STK_ERR, .reg .TSK_BANK_ECC} (s.mergeParts a bytes fuel) := by
  induction fuel generalizing s a bytes with
  | zero => exact .refl s _
  | succ n ih =>
    have hpos := List.length_pos_iff.2 hne
    have hpart := State.only_mergePart_stack (s := s) (bytes := bytes.take (256 - a % 256)) (show a < stackEnd by omega)
    unfold State.mergeParts
    dsimp only
    split
    · exact hpart
    · rename_i hmore
      refine hpart.trans (ih ?_ ?_)
      · simp only [List.length_drop]
        omega
      · simp only [ne_eq, List.drop_eq_nil_iff]
        omega

theorem State.Only.engine_eq {s t : State} {ps : Set Part} (h : s.Only ps t) (hp : .engines ∉ ps) (k : Nat) : t.engine k = s.engine k := by
  rw [State.engine, h.same .engines hp, ← State.engine]

theorem State.get_signal (s : State) (v : Nat) {f : Fld} (hlo : f.r ≠ .GLB_IRQ_EVENT_LO) (hhi : f.r ≠ .GLB_IRQ_EVENT_HI) :
    (s.signal v).get f = s.get f := by
  have h : s.Only Part.event (s.signal v) := by simp
  exact h.get (by simp [hlo, hhi])

theorem State.ringErr_spec (s : State) (k : Nat) : ((s.ringErr k).engine k).en = (s.engine k).en ∧
    ((s.ringErr k).engine k).recs = (s.engine k).recs ∧
    (s.ringErr k).get (F.CHN_ENG_STATUS_RUNNING k) = s.get (F.CHN_ENG_STATUS_RUNNING k) := by
  rw [State.ringErr, (State.engine_setEngine _ k _).1]
  refine ⟨rfl, rfl, ?_⟩
  exact (State.get_signal _ _ (by simp [F.CHN_ENG_STATUS_RUNNING]) (by simp [F.CHN_ENG_STATUS_RUNNING])).trans
    (State.get_set_ne _ _ (by simp [Fld.key_iff, F.CHN_ENG_STATUS_RUNNING, F.CHN_ENG_STATUS_RING_ERR]))

/-- Reading a control block may stop an engine, and leaves it enabled, its records and RUNNING. -/
theorem State.ringRead_spec (s : State) (k : Nat) : ((s.ringRead k).engine k).en = (s.engine k).en ∧
    ((s.ringRead k).engine k).recs = (s.engine k).recs ∧
    (s.ringRead k).get (F.CHN_ENG_STATUS_RUNNING k) = s.get (F.CHN_ENG_STATUS_RUNNING k) := by
  obtain ⟨u, r, hu⟩ : ∃ u r, s.engRead (k / 4) (s.ctrlAddr k) 256 = (u, r) := ⟨_, _, rfl⟩
  have hread : s.Only Part.read u := by
    have h : s.Only Part.read (s.engRead (k / 4) (s.ctrlAddr k) 256).1 := by simp
    rwa [hu] at h
  have heng := hread.engine_eq (by simp) k
  have hrun : u.get (F.CHN_ENG_STATUS_RUNNING k) = s.get (F.CHN_ENG_STATUS_RUNNING k) := hread.get (by simp [F.CHN_ENG_STATUS_RUNNING])
  rw [← heng, ← hrun]
  unfold State.ringRead
  rw [hu]
  cases r with
  | inl st => exact u.ringErr_spec k
  | inr bs =>
    obtain ⟨v, hv⟩ : ∃ v, u.set (F.CHN_ENG_PROD_PROD k) (leNat (bs.take 4)) = v := ⟨_, rfl⟩
    have hset : u.Only {.reg .CHN_ENG_PROD} v := by rw [← hv]; simp [F.CHN_ENG_PROD_PROD]
    have heng' := hset.engine_eq (by simp) k
    have hrun' : v.get (F.CHN_ENG_STATUS_RUNNING k) = u.get (F.CHN_ENG_STATUS_RUNNING k) := hset.get (by simp [F.CHN_ENG_STATUS_RUNNING])
    rw [← heng', ← hrun']
    dsimp only
    rw [hv]
    split
    · exact v.ringErr_spec k
    · rw [(State.engine_setEngine v k _).1]
      exact ⟨rfl, rfl, rfl⟩

/-- A control block in the stacks is written without a change of a job or a Tussock. -/
theorem State.only_ctrlWrite_stack {s : State} {k : Nat} (h : s.ctrlAddr k + 512 ≤ stackEnd) :
    s.Only ({.chans, .flits, .latent, .mem, .reg .CHN_HDG_ERR, .reg .CHN_STK_ERR, .reg .TSK_BANK_ECC, .reg .GLB_RGN_FAULT_ADDR,
      .reg .GLB_RGN_FAULT_INFO} ∪ Part.event) (s.ctrlWrite k) := by
  unfold State.ctrlWrite State.engWrite
  split
  · simp
  · refine State.Only.of_sub (State.only_mergeParts_stack ?_ ?_) (by simp) (.refl s _)
    · simp only [List.length_append, length_leBytes]
      omega
    · exact List.ne_nil_of_length_pos (by simp only [List.length_append, length_leBytes]; omega)

/-- The engine of an enabled ring: what its start leaves in it and in its registers. -/
theorem State.enable_spec (s : State) {k : Nat} (hk : k < 16) : ((s.enable k).engine k).en = true ∧ ((s.enable k).engine k).recs = 0 ∧
    (s.enable k).get (F.CHN_ENG_CONS_CONS k) = 0 ∧ (s.enable k).get (F.CHN_ENG_JOBS_JOBS k) = 0 ∧
    (s.enable k).get (F.CHN_ENG_STATUS_RUNNING k) = 1 ∧
    (s.get (F.CHN_ENG_CTRL_ADDR_ADDR k) * 4096 + 512 ≤ stackEnd → (s.enable k).jobs = s.jobs ∧ (s.enable k).tusss = s.tusss) := by
  obtain ⟨u, hu⟩ : ∃ u, s.setEngine k { en := true, seen := true, live := true } = u := ⟨_, rfl⟩
  obtain ⟨v, hv⟩ : ∃ v, (u.set (F.CHN_ENG_CONS_CONS k) 0).set (F.CHN_ENG_JOBS_JOBS k) 0 = v := ⟨_, rfl⟩
  obtain ⟨w, hw⟩ : ∃ w, v.recount = w := ⟨_, rfl⟩
  obtain ⟨x, hx⟩ : ∃ x, w.ctrlWrite k = x := ⟨_, rfl⟩
  have hen : s.enable k = x.ringRead k := by rw [← hx, ← hw, ← hv, ← hu]; rfl
  have huv : u.Only {.reg .CHN_ENG_CONS, .reg .CHN_ENG_JOBS} v := by rw [← hv]; simp [F.CHN_ENG_CONS_CONS, F.CHN_ENG_JOBS_JOBS]
  have hvw : v.Only {.reg .CHN_TAGS, .reg .CHN_ENG_STATUS} w := by rw [← hw]; simp
  have hwx : w.Only Part.gwrite x := by rw [← hx]; simp
  have hread : x.Only ({.engines, .reg .CHN_ENG_STATUS, .reg .CHN_ENG_PROD} ∪ Part.read) (x.ringRead k) := by simp
  have heng : u.engine k = { en := true, seen := true, live := true } := by rw [← hu, (State.engine_setEngine _ _ _).1]
  have hv' : v.engine k = { en := true, seen := true, live := true } := (huv.engine_eq (by simp) k).trans heng
  have hx' : x.engine k = { en := true, seen := true, live := true } :=
    (hwx.engine_eq (by simp) k).trans ((hvw.engine_eq (by simp) k).trans hv')
  have hlate (f : Fld) (hf : f.r = .CHN_ENG_CONS ∨ f.r = .CHN_ENG_JOBS) : (x.ringRead k).get f = v.get f := by
    have h1 : Part.reg f.r ∉ ({.engines, .reg .CHN_ENG_STATUS, .reg .CHN_ENG_PROD} ∪ Part.read : Set Part) := by rcases hf with hf | hf <;> simp [hf]
    have h2 : Part.reg f.r ∉ Part.gwrite := by rcases hf with hf | hf <;> simp [hf]
    have h3 : Part.reg f.r ∉ ({.reg .CHN_TAGS, .reg .CHN_ENG_STATUS} : Set Part) := by rcases hf with hf | hf <;> simp [hf]
    exact (hread.get h1).trans ((hwx.get h2).trans (hvw.get h3))
  obtain ⟨hren, hrecs, hrun⟩ := x.ringRead_spec k
  rw [hen]
  refine ⟨by rw [hren, hx'], by rw [hrecs, hx'], ?_, ?_, ?_, fun hstack => ?_⟩
  · rw [hlate _ (.inl rfl), ← hv, State.get_set_ne _ _ (Fld.key_ne_of_reg (by simp [F.CHN_ENG_JOBS_JOBS, F.CHN_ENG_CONS_CONS])), State.get_set_same]
    rfl
  · rw [hlate _ (.inr rfl), ← hv, State.get_set_same]
    rfl
  · rw [hrun, hwx.get (by simp [F.CHN_ENG_STATUS_RUNNING]), ← hw, State.running_recount hk, hv']
    rfl
  · have hus : s.Only {.engines} u := by rw [← hu]; simp
    have hsw : s.Only {.engines, .reg .CHN_ENG_CONS, .reg .CHN_ENG_JOBS, .reg .CHN_TAGS, .reg .CHN_ENG_STATUS} w :=
      ((hus.mono (by simp)).trans (huv.mono (by simp))).trans (hvw.mono (by simp))
    have hwaddr : w.ctrlAddr k = s.get (F.CHN_ENG_CTRL_ADDR_ADDR k) * 4096 := by
      rw [State.ctrlAddr, hsw.get (by simp [F.CHN_ENG_CTRL_ADDR_ADDR])]
    have hstore := State.only_ctrlWrite_stack (s := w) (k := k) (by rw [hwaddr]; exact hstack)
    rw [hx] at hstore
    exact ⟨(hread.jobs_eq (by simp)).trans ((hstore.jobs_eq (by simp)).trans (hsw.jobs_eq (by simp))),
      (hread.tusss (by simp)).trans ((hstore.tusss (by simp)).trans (hsw.tusss (by simp)))⟩

/-- The engine of a disabled ring: it takes no further job, and runs while a job of it holds tags. -/
theorem State.disable_spec (s : State) {k : Nat} (hk : k < 16) : (s.disable k).engine k = { (s.engine k) with en := false, holdLeft := none } ∧
    (s.disable k).get (F.CHN_ENG_STATUS_HELD k) = 0 ∧
    ((s.disable k).get (F.CHN_ENG_STATUS_RUNNING k) = 1 ↔ ∃ j ∈ s.jobs, 4 * j.chan + j.eng = k ∧ j.tags ≠ []) ∧
    s.disable k = { s with regs := (s.disable k).regs, engines := (s.disable k).engines } ∧
    ∀ i, i ≠ k → (s.disable k).engine i = s.engine i := by
  obtain ⟨u, hu⟩ : ∃ u, s.setEngine k { s.engine k with en := false, holdLeft := none } = u := ⟨_, rfl⟩
  obtain ⟨v, hv⟩ : ∃ v, u.set (F.CHN_ENG_STATUS_HELD k) 0 = v := ⟨_, rfl⟩
  have hdis : s.disable k = v.recount := by rw [← hv, ← hu]; rfl
  obtain ⟨heng, hothers⟩ := State.engine_setEngine s k { s.engine k with en := false, holdLeft := none }
  rw [hu] at heng hothers
  have huv : u.Only {.reg .CHN_ENG_STATUS} v := by rw [← hv]; simp [F.CHN_ENG_STATUS_HELD]
  have hvw : v.Only {.reg .CHN_TAGS, .reg .CHN_ENG_STATUS} v.recount := by simp
  have hsu : s.Only {.engines} u := by rw [← hu]; simp
  have hv' := (huv.engine_eq (by simp) k).trans heng
  have hkeep (i : Nat) : v.recount.engine i = u.engine i := (hvw.engine_eq (by simp) i).trans (huv.engine_eq (by simp) i)
  have hjobs : v.jobs = s.jobs := (huv.jobs_eq (by simp)).trans (hsu.jobs_eq (by simp))
  have hframe : s.Only {.engines, .reg .CHN_TAGS, .reg .CHN_ENG_STATUS} v.recount :=
    ((hsu.mono (by simp)).trans (huv.mono (by simp))).trans (hvw.mono (by simp))
  rw [hdis]
  refine ⟨(hkeep k).trans heng, ?_, ?_, hframe.eq_mix.trans (by simp [State.mix]), fun i hi => (hkeep i).trans (hothers i hi)⟩
  · rw [State.get_recount _ (by simp [F.CHN_ENG_STATUS_HELD]) (by simp [F.CHN_ENG_STATUS_HELD]), ← hv, State.get_set_same]
    rfl
  · rw [State.running_recount hk, hv', hjobs]
    have hone (b : Bool) : natOf b = 1 ↔ b = true := by cases b <;> decide
    simp [hone, List.any_eq_true]

theorem State.latchEn_start {s : State} {k : Nat} (hopen : (s.chan (k / 4)).opened = true) (hseen : (s.engine k).seen = true)
    (hen : (s.engine k).en = false) (hrun : s.on (F.CHN_ENG_STATUS_RUNNING k) = false) : s.latchEn k = s.enable k := by
  simp [State.latchEn, hopen, hseen, hen, hrun]

theorem State.latchEn_stop {s : State} {k : Nat} (hopen : (s.chan (k / 4)).opened = true) (hseen : (s.engine k).seen = false)
    (hen : (s.engine k).en = true) : s.latchEn k = s.disable k := by
  simp [State.latchEn, hopen, hseen, hen]

theorem State.msixEntry_setMsix (s : State) (v : Nat) (e : MsixEntry) :
    (s.setMsix v e).msixEntry v = e ∧ ∀ w, w ≠ v → (s.setMsix v e).msixEntry w = s.msixEntry w :=
  ⟨by simp [State.msixEntry, State.setMsix], fun w hw => by simp [State.msixEntry, State.setMsix, Tab.get_set_ne _ _ _ (Ne.symm hw)]⟩

/-- Settles O45: EN is latched at the turn of an engine whose boundary is open; a due vector is sent, or pends behind its mask. -/
theorem enginesStartStopAndInterrupt : Obligations.EnginesStartStopAndInterrupt := by
  unfold Obligations.EnginesStartStopAndInterrupt
  refine ⟨?engines, ?interrupts⟩
  case engines =>
    rintro n e s k rfl
    have hk : 4 * n.val + e.val < 16 := by omega
    have hchan : (4 * n.val + e.val) / 4 = n.val := by omega
    refine ⟨?_, ?_, ?_, ?_⟩
    · rintro ⟨hfresh, hopen, hseen, hen, hrun⟩
      refine ⟨_, ?_, s.enable_spec hk⟩
      simp only [exec, execEngEnable, hfresh, hseen, Bool.and_true, if_true]
      rw [State.latchEn_start (by rwa [hchan]) hseen hen hrun]
    · intro hno
      simp only [exec, execEngEnable]
      split
      · rename_i hin
        obtain ⟨hfresh, hseen⟩ := Bool.and_eq_true_iff.1 hin
        have hstay : s.latchEn (4 * n.val + e.val) = s := by
          unfold State.latchEn
          rw [hchan]
          by_cases hopen : (s.chan n).opened = true
          · simpa [hopen, hseen] using fun hen hrun => absurd ⟨hfresh, hopen, hseen, hen, hrun⟩ hno
          · simp [hopen]
        rw [hstay]
      · rfl
    · rintro ⟨hfresh, hopen, hseen, hen⟩
      refine ⟨_, ?_, s.disable_spec hk⟩
      simp only [exec, execEngDisable, hfresh, hseen, Bool.not_false, Bool.and_true, if_true]
      rw [State.latchEn_stop (by rwa [hchan]) hseen hen]
    · intro hno
      simp only [exec, execEngDisable]
      split
      · rename_i hin
        obtain ⟨hfresh, hseen⟩ := Bool.and_eq_true_iff.1 hin
        have hseen : (s.engine (4 * n.val + e.val)).seen = false := by simpa using hseen
        have hstay : s.latchEn (4 * n.val + e.val) = s := by
          unfold State.latchEn
          rw [hchan]
          by_cases hopen : (s.chan n).opened = true
          · have hen : (s.engine (4 * n.val + e.val)).en = false := by
              rw [Bool.eq_false_iff]
              exact fun hen => hno ⟨hfresh, hopen, hseen, hen⟩
            simp [hopen, hseen, hen]
          · simp [hopen]
        rw [hstay]
      · rfl
  case interrupts =>
    intro v s hruns
    refine ⟨fun hdue => ⟨_, rfl, ?_⟩, fun hdue => ?_, ⟨_, rfl, ?_⟩⟩
    · simp only [hruns, if_true, State.msixMessage, hdue, Bool.not_true, Bool.false_eq_true, if_false]
      cases hmask : (s.msixEntry v).masked with
      | false => exact ⟨fun b => bitOf_clrMask _ _ _, fun _ => rfl, nofun⟩
      | true => exact ⟨fun b => bitOf_clrMask _ _ _, nofun, fun _ => ⟨fun b => bitOf_setMask _ _ _, rfl⟩⟩
    · simp [exec, execMsixMessage, State.msixMessage, hdue]
    · obtain ⟨hsame, hother⟩ := State.msixEntry_setMsix s v { s.msixEntry v with masked := false }
      simp only [hruns, if_true, State.msixUnmask]
      cases hpend : bitOf s.irq.pba v with
      | false =>
        have hpend' : bitOf (s.setMsix v { s.msixEntry v with masked := false }).irq.pba v = false := hpend
        simp only [hpend', Bool.false_eq_true, if_false]
        exact ⟨hsame, hother, fun _ => rfl, nofun⟩
      | true =>
        have hpend' : bitOf (s.setMsix v { s.msixEntry v with masked := false }).irq.pba v = true := hpend
        simp only [hpend', if_true]
        exact ⟨hsame, hother, nofun, fun _ => ⟨fun b => bitOf_clrMask _ _ _, rfl, rfl⟩⟩

end Sys2Proof.Machine

namespace Sys2Proof.Machine
open Sys2Proof

/-! ### Tile tasks that arrive -/

/-- A task that its Task queue gives up leaves the flight; one that no scheduler has sent was not in it. -/
theorem State.taskArrive_eq {s : State} {g : Nat} {ws : List Nat} (h : ((s.taskQueue g).head?.map Sent.words).getD ws = ws) :
    s.taskArrive g ws = State.enqueue { s with flight := s.flight.erase ⟨g, ws⟩ } g ws := by
  rcases hq : s.taskQueue g with _ | ⟨f, rest⟩
  · have hout : (⟨g, ws⟩ : Sent) ∉ s.flight := by
      intro hin
      have hmem : (⟨g, ws⟩ : Sent) ∈ s.flight.filter fun f => f.g == g := List.mem_filter.2 ⟨hin, by simp⟩
      have hnil : s.flight.filter (fun f => f.g == g) = [] := by simpa [State.taskQueue, List.take_eq_nil_iff] using hq
      rw [hnil] at hmem
      exact List.not_mem_nil hmem
    rw [List.erase_of_not_mem hout]
    simp only [State.taskArrive, hq]
  · have hwords : f.words = ws := by simpa [hq] using h
    have hg : f.g = g := by
      have hmem : f ∈ s.flight.filter fun f => f.g == g := List.mem_of_mem_take (hq ▸ List.mem_cons_self ..)
      simpa using (List.mem_filter.1 hmem).2
    obtain rfl : f = ⟨g, ws⟩ := by
      cases f
      simp_all
    simp only [State.taskArrive, hq, if_true]

theorem State.taskArrive_other {s : State} {g : Nat} {ws : List Nat} {f : Sent} (hf : (s.taskQueue g).head? = some f) (hne : f.words ≠ ws) :
    s.taskArrive g ws = s := by
  obtain ⟨rest, hq⟩ : ∃ rest, s.taskQueue g = f :: rest := by
    cases hq : s.taskQueue g with
    | nil => simp [hq] at hf
    | cons x rest => exact ⟨rest, by simpa [hq] using hf⟩
  simp only [State.taskArrive, hq, if_neg hne]

/-- A queue of a sequencer that is replaced: the queue, OCCUPANCY and PEAK. -/
theorem State.setQueue_spec (s : State) (g : Nat) {q : List Task} (hlen : q.length < 2 ^ 15) :
    ((s.setQueue g q).tuss g).queue = q ∧ (s.setQueue g q).get (F.TSK_SEQ_STATUS_OCCUPANCY g) = q.length ∧
    (s.setQueue g q).get (F.TSK_SEQ_STATUS_PEAK g) = max (s.get (F.TSK_SEQ_STATUS_PEAK g)) q.length ∧
    s.OnlyTuss (s.setQueue g q) g [F.TSK_SEQ_STATUS_OCCUPANCY g, F.TSK_SEQ_STATUS_PEAK g] := by
  obtain ⟨u, hu⟩ : ∃ u, (s.updTuss g fun t => { t with queue := q }).set (F.TSK_SEQ_STATUS_OCCUPANCY g) q.length = u := ⟨_, rfl⟩
  have hq : (u.tuss g).queue = q := by rw [← hu, State.tuss_set, State.tuss_updTuss]
  have hocc : u.get (F.TSK_SEQ_STATUS_OCCUPANCY g) = q.length := by
    rw [← hu, State.get_set_same]
    exact Nat.mod_eq_of_lt hlen
  have hpeak : u.get (F.TSK_SEQ_STATUS_PEAK g) = s.get (F.TSK_SEQ_STATUS_PEAK g) := by
    rw [← hu, State.get_set_ne _ _ (Fld.key_ne_of_lo (by simp [F.TSK_SEQ_STATUS_OCCUPANCY, F.TSK_SEQ_STATUS_PEAK])), State.get_updTuss]
  have hraise : s.setQueue g q = u.raise (F.TSK_SEQ_STATUS_PEAK g) q.length := by rw [← hu]; rfl
  rw [hraise]
  refine ⟨?_, ?_, ?_, ?_⟩
  · unfold State.raise
    split
    · exact hq
    · exact hq
  · unfold State.raise
    split
    · rw [State.get_set_ne _ _ (Fld.key_ne_of_lo (by simp [F.TSK_SEQ_STATUS_OCCUPANCY, F.TSK_SEQ_STATUS_PEAK])), hocc]
    · exact hocc
  · unfold State.raise
    rw [hpeak]
    split
    · rw [State.get_set_same, Nat.max_eq_right (by omega)]
      exact Nat.mod_eq_of_lt hlen
    · rw [hpeak, Nat.max_eq_left (by omega)]
  · rw [← hu]
    exact (((State.OnlyTuss.refl s g _).upd _).set _ (by simp)).raise _ (by simp)

section
variable {s : State} {g : Nat} {ws : List Nat} {target : Nat} (htarget : target = targetSwath s.swath (tfld ws 1 16 16))
include htarget

theorem State.enqueue_joins (hstop : ¬(s.tskState g = tQUAR ∨ s.tskState g = tREEN))
    (hbad : ¬(taskBad ws = true ∨ (tfld ws 0 7 1 = 1 ∧ s.get F.GRS_CFG_FRACTION ≠ 5)))
    (hlate : ¬taskLate s.time target (tfld ws 2 0 8) = true) (hroom : (s.tuss g).queue.length < 16384) :
    s.enqueue g ws = s.setQueue g ((s.tuss g).queue ++
      [{ words := ws, swath := target, job := (s.jobOfTag (tfld ws 1 14 2) (tfld ws 1 0 14)).map Job.id }]) := by
  subst htarget
  have hbad' : ¬(taskBad ws || (tfld ws 0 7 1 == 1 && s.get F.GRS_CFG_FRACTION != 5)) = true := by simpa using hbad
  simp only [State.enqueue, if_neg hstop, if_neg hbad', if_neg hlate, if_neg (Nat.not_le.2 hroom)]

variable (hjob : (s.jobOfTag (tfld ws 1 14 2) (tfld ws 1 0 14)).map Job.id = none)
include hjob

omit htarget in
theorem State.enqueue_stopped (hstop : s.tskState g = tQUAR ∨ s.tskState g = tREEN) : s.enqueue g ws = s := by
  simp only [State.enqueue, if_pos hstop, hjob, State.retire, State.taskFail]
  rfl

omit htarget in
theorem State.enqueue_bad (hstop : ¬(s.tskState g = tQUAR ∨ s.tskState g = tREEN))
    (hbad : taskBad ws = true ∨ (tfld ws 0 7 1 = 1 ∧ s.get F.GRS_CFG_FRACTION ≠ 5)) :
    s.enqueue g ws = s.inc (F.TSK_SEQ_ERR_BAD_CNT g) := by
  have hbad' : (taskBad ws || (tfld ws 0 7 1 == 1 && s.get F.GRS_CFG_FRACTION != 5)) = true := by simpa using hbad
  simp only [State.enqueue, if_neg hstop, if_pos hbad', hjob, State.retire, State.taskFail]
  rfl

theorem State.enqueue_late (hstop : ¬(s.tskState g = tQUAR ∨ s.tskState g = tREEN))
    (hbad : ¬(taskBad ws = true ∨ (tfld ws 0 7 1 = 1 ∧ s.get F.GRS_CFG_FRACTION ≠ 5)))
    (hlate : taskLate s.time target (tfld ws 2 0 8) = true) : s.enqueue g ws = s.inc (F.TSK_SEQ_ERR_MISSED_CNT g) := by
  subst htarget
  have hbad' : ¬(taskBad ws || (tfld ws 0 7 1 == 1 && s.get F.GRS_CFG_FRACTION != 5)) = true := by simpa using hbad
  simp only [State.enqueue, if_neg hstop, if_neg hbad', if_pos hlate, hjob, State.retire, State.taskFail]
  rfl

theorem State.enqueue_full (hstop : ¬(s.tskState g = tQUAR ∨ s.tskState g = tREEN))
    (hbad : ¬(taskBad ws = true ∨ (tfld ws 0 7 1 = 1 ∧ s.get F.GRS_CFG_FRACTION ≠ 5)))
    (hlate : ¬taskLate s.time target (tfld ws 2 0 8) = true) (hfull : 16384 ≤ (s.tuss g).queue.length) :
    s.enqueue g ws = (s.inc (F.TSK_SEQ_ERR_OVERFLOW_CNT g)).set (F.TSK_SEQ_STATUS_OVERFLOW g) 1 := by
  subst htarget
  have hbad' : ¬(taskBad ws || (tfld ws 0 7 1 == 1 && s.get F.GRS_CFG_FRACTION != 5)) = true := by simpa using hbad
  simp only [State.enqueue, if_neg hstop, if_neg hbad', if_neg hlate, if_pos hfull, hjob, State.retire, State.taskFail]
  rfl

end

/-- Settles O14: a task leaves the Task queue for the sequencer's, or is retired and counted by the first fault that it meets. -/
theorem tileTaskJoinsTheQueue : Obligations.TileTaskJoinsTheQueue := by
  unfold Obligations.TileTaskJoinsTheQueue
  refine ⟨?other, ?arrives⟩
  case other =>
    intro g w0 w1 w2 w3 w4 w5 w6 w7 s f hf hne
    simp only [exec, execTileTaskEnqueue, State.ifT, State.taskArrive_other hf hne, ite_self]
  case arrives =>
    intro g w0 w1 w2 w3 w4 w5 w6 w7 s ws target hws htarget hruns hfirst c job bad stopped late
    obtain ⟨u, hu⟩ : ∃ u : State, { s with flight := s.flight.erase ⟨g, ws⟩ } = u := ⟨_, rfl⟩
    have hexec : exec c s = .next (u.enqueue g ws) := by
      rw [← hu, ← State.taskArrive_eq hfirst, hws]
      simp only [c, exec, execTileTaskEnqueue, State.ifT, hruns, if_true]
    have hkeep : s.Only {.flight} u := by rw [← hu]; simp
    have htuss : u.tuss g = s.tuss g := hkeep.tuss (by simp)
    have hstate : u.tskState g = s.tskState g := hkeep.get (by simp)
    have hfrac : u.get F.GRS_CFG_FRACTION = s.get F.GRS_CFG_FRACTION := hkeep.get (by simp)
    have hjob : (u.jobOfTag (tfld ws 1 14 2) (tfld ws 1 0 14)).map Job.id = job := by
      rw [State.jobOfTag, hkeep.jobs_eq (by simp), ← State.jobOfTag]
    have hswath : target = targetSwath u.swath (tfld ws 1 16 16) := by
      rw [State.swath, hkeep.time_eq (by simp), ← State.swath, htarget, hws]
      rfl
    rw [hexec, hu]
    refine ⟨fun hstop hbad hlate hroom => ?_, fun hnone hstop => ?_, fun hnone hstop hbad => ?_, fun hnone hstop hbad hlate => ?_,
      fun hnone hstop hbad hlate hfull => ?_⟩
    · have hjoin := State.enqueue_joins (ws := ws) hswath (by rwa [hstate]) (by rwa [hfrac]) (by rwa [hkeep.time_eq (by simp)])
        (by rwa [htuss])
      obtain ⟨hq, hocc, hpeak, hframe⟩ := u.setQueue_spec g (q := (u.tuss g).queue ++
        [{ words := ws, swath := target, job := (u.jobOfTag (tfld ws 1 14 2) (tfld ws 1 0 14)).map Job.id }])
        (by simp only [htuss, List.length_append, List.length_singleton]; omega)
      rw [hjoin]
      refine ⟨_, rfl, by rw [hq, htuss, hjob], by rw [hocc, htuss]; simp, ?_, hframe⟩
      rw [hpeak, htuss, hkeep.get (by simp [F.TSK_SEQ_STATUS_PEAK])]
      simp
    · rw [State.enqueue_stopped (hjob.trans hnone) (by rwa [hstate])]
      exact ⟨_, rfl, .refl _ _⟩
    · rw [State.enqueue_bad (hjob.trans hnone) (by rwa [hstate]) (by rwa [hfrac])]
      refine ⟨_, rfl, ?_, (State.OnlyRegs.refl u _).inc (by simp)⟩
      rw [State.get_inc_same, hkeep.get (by simp [F.TSK_SEQ_ERR_BAD_CNT])]
    · rw [State.enqueue_late hswath (hjob.trans hnone) (by rwa [hstate]) (by rwa [hfrac]) (by rwa [hkeep.time_eq (by simp)])]
      refine ⟨_, rfl, ?_, (State.OnlyRegs.refl u _).inc (by simp)⟩
      rw [State.get_inc_same, hkeep.get (by simp [F.TSK_SEQ_ERR_MISSED_CNT])]
    · rw [State.enqueue_full hswath (hjob.trans hnone) (by rwa [hstate]) (by rwa [hfrac]) (by rwa [hkeep.time_eq (by simp)]) (by rwa [htuss])]
      refine ⟨_, rfl, ?_, ?_, ((State.OnlyRegs.refl u _).inc (by simp)).set _ (by simp)⟩
      · rw [State.get_set_same]
        rfl
      · rw [State.get_set_ne _ _ (Fld.key_ne_of_reg (by simp [F.TSK_SEQ_ERR_OVERFLOW_CNT, F.TSK_SEQ_STATUS_OVERFLOW])), State.get_inc_same,
          hkeep.get (by simp [F.TSK_SEQ_ERR_OVERFLOW_CNT])]

end Sys2Proof.Machine

namespace Sys2Proof.Machine
open Sys2Proof

/-! ### An array's state -/

/-- Entering a state writes the array's own fields and IN_PLACE. -/
theorem State.setArrState_onlyTuss (s : State) (g a v : Nat) : s.OnlyTuss (s.setArrState g a v) g (emptyFlds g a) := by
  have h : s.OnlyTuss ((s.set (F.TSK_ARR_STATE_STATE g a) v).brkInPlace g) g (emptyFlds g a) :=
    ((State.OnlyTuss.refl s g _).set _ (by simp [emptyFlds])).set _ (by simp [emptyFlds])
  have hcontext : F.TSK_ARR_STATE_CONTEXT g a ∈ emptyFlds g a := by simp [emptyFlds]
  unfold State.setArrState
  dsimp only
  split <;> split
  · exact ((h.upd _).set _ hcontext).upd _
  · split
    · exact ((h.upd _).set _ hcontext).upd _
    · exact (h.set _ hcontext).upd _
  · exact h.upd _
  · split
    · exact h.upd _
    · exact h

/-- Of what the Tussock holds outside the registers, only its arrays change. -/
theorem State.tuss_setArrState (s : State) (g a v : Nat) : ∃ as, (s.setArrState g a v).tuss g = { s.tuss g with arrs := as } := by
  refine ⟨((s.setArrState g a v).tuss g).arrs, ?_⟩
  unfold State.setArrState
  dsimp only
  split <;> split <;> (try split) <;> simp [State.updArr, State.brkInPlace]

theorem State.arrState_setArrState (s : State) (g : Nat) {a b v : Nat} (ha : a < 17) (hb : b < 17) (hv : v < 8) :
    (s.setArrState g a v).arrState g b = if b = a then v else s.arrState g b := by
  have hcore (u : State) (hu : u.regs = ((s.set (F.TSK_ARR_STATE_STATE g a) v).brkInPlace g).regs) :
      u.get (F.TSK_ARR_STATE_STATE g b) = if b = a then v else s.arrState g b := by
    rw [State.get_congr hu, State.brkInPlace, State.get_set_ne _ _ (Fld.key_ne_of_reg (by simp [F.BRK_STATUS_IN_PLACE, F.TSK_ARR_STATE_STATE]))]
    by_cases hab : b = a
    · rw [if_pos hab, hab, State.get_set_same]
      exact Nat.mod_eq_of_lt hv
    · rw [if_neg hab, State.get_set_ne _ _ (by simp [Fld.key_iff, F.TSK_ARR_STATE_STATE]; omega), State.arrState]
  unfold State.arrState State.setArrState
  dsimp only
  split
  · rw [State.updArr, State.get_updTuss, State.get_set_ne _ _ (Fld.key_ne_of_lo (by simp [F.TSK_ARR_STATE_CONTEXT, F.TSK_ARR_STATE_STATE]))]
    split
    · exact hcore _ rfl
    · split <;> exact hcore _ rfl
  · split
    · exact hcore _ rfl
    · split <;> exact hcore _ rfl

/-! ### Calibration passes -/

/-- The next window of a pass's walk asked for, or the end of the pass. -/
def State.askStep (s : State) (g : Nat) (p : PassRun) : State :=
  match s.nextAsk g p with
  | some (a, down) => s.updTuss g fun t => { t with ask := some a, pass := some { p with down := down }, captured := [], fresh := false }
  | none => if (List.range 17).all (s.passedOver g p) then s.passEnd17 g else s

/-- What Bracken can ask for at a boundary. -/
theorem State.planWindow_cases (s : State) (g : Nat) : s.planWindow g = s ∨ s.planWindow g = s.replan g ∨
    (∃ r : RepairRun, s.planWindow g = s.updTuss g fun t =>
      { t with ask := some ⟨.reserve, r.slot, r.arr, s.swath, true⟩, captured := [], fresh := false }) ∨
    ∃ p, (s.tuss g).pass = some p ∧ s.planWindow g = s.askStep g p := by
  have hwalk : (match (s.tuss g).pass with | none => s | some p => s.askStep g p) = s ∨
      ∃ p, (s.tuss g).pass = some p ∧ (match (s.tuss g).pass with | none => s | some p => s.askStep g p) = s.askStep g p := by
    cases hp : (s.tuss g).pass with
    | none => exact .inl rfl
    | some p => exact .inr ⟨p, rfl, rfl⟩
  unfold State.planWindow
  dsimp only
  by_cases hwin : (s.tuss g).window.isSome = true
  · simp [hwin]
  · by_cases hask : (s.tuss g).ask.isSome = true
    · simp [hwin, hask]
    · rw [if_neg hwin, if_neg hask]
      rcases (s.tuss g).repair with _ | r
      · rcases hwalk with h | h
        · exact .inl h
        · exact .inr (.inr (.inr h))
      · by_cases hstep : decide (r.step = 6) = true
        · rw [if_pos hstep]
          exact .inr (.inr (.inl ⟨r, rfl⟩))
        · rw [if_neg hstep]
          rcases hwalk with h | h
          · exact .inl h
          · exact .inr (.inr (.inr h))

/-- A step of the walk that is asked for anew leaves where the pass began, and what it has stamped. -/
theorem State.replan_keepsPass {s : State} {g : Nat} {p : PassRun} (hp : (s.tuss g).pass = some p) :
    ∃ p', ((s.replan g).tuss g).pass = some p' ∧ p'.from_ = p.from_ ∧ p'.stamped = p.stamped ∧
      ((s.replan g).tuss g).startPass = (s.tuss g).startPass ∧ s.OnlyTuss (s.replan g) g [] := by
  have hsame : ∃ p', (s.tuss g).pass = some p' ∧ p'.from_ = p.from_ ∧ p'.stamped = p.stamped ∧
      (s.tuss g).startPass = (s.tuss g).startPass ∧ s.OnlyTuss s g [] := ⟨p, hp, rfl, rfl, rfl, .refl s g []⟩
  unfold State.replan
  dsimp only
  rw [hp]
  rcases (s.tuss g).ask with _ | a
  · exact hsame
  · dsimp only
    rcases s.nextAsk g p with _ | ⟨b, down⟩
    · exact hsame
    · dsimp only
      split
      · exact hsame
      · exact ⟨{ p with down := down }, by simp, rfl, rfl, by simp, (State.OnlyTuss.refl s g []).upd _⟩

theorem State.askStep_keepsPass {s : State} {g a : Nat} {p : PassRun} (hp : (s.tuss g).pass = some p) (ha : a < 17)
    (hleft : s.passedOver g p a = false) : ∃ p', ((s.askStep g p).tuss g).pass = some p' ∧ p'.from_ = p.from_ ∧ p'.stamped = p.stamped ∧
      ((s.askStep g p).tuss g).startPass = (s.tuss g).startPass ∧ s.OnlyTuss (s.askStep g p) g [] := by
  have hnot : ¬(List.range 17).all (s.passedOver g p) = true := by
    intro hall
    have := List.all_eq_true.1 hall a (List.mem_range.2 ha)
    rw [hleft] at this
    exact Bool.noConfusion this
  unfold State.askStep
  rcases s.nextAsk g p with _ | ⟨b, down⟩
  · dsimp only
    rw [if_neg hnot]
    exact ⟨p, hp, rfl, rfl, rfl, .refl s g []⟩
  · exact ⟨{ p with down := down }, by simp, rfl, rfl, by simp, (State.OnlyTuss.refl s g []).upd _⟩

/-- A pass with an array left to visit stands as Bracken asks for its next window. -/
theorem State.planWindow_keepsPass {s : State} {g a : Nat} {p : PassRun} (hp : (s.tuss g).pass = some p) (ha : a < 17)
    (hleft : s.passedOver g p a = false) : ∃ p', ((s.planWindow g).tuss g).pass = some p' ∧ p'.from_ = p.from_ ∧ p'.stamped = p.stamped ∧
      ((s.planWindow g).tuss g).startPass = (s.tuss g).startPass ∧ s.OnlyTuss (s.planWindow g) g [] := by
  rcases s.planWindow_cases g with h | h | ⟨r, h⟩ | ⟨q, hq, h⟩ <;> rw [h]
  · exact ⟨p, hp, rfl, rfl, rfl, .refl s g []⟩
  · exact State.replan_keepsPass hp
  · exact ⟨p, by simp [hp], rfl, rfl, by simp, (State.OnlyTuss.refl s g []).upd _⟩
  · obtain rfl : p = q := by simpa [hp] using hq
    exact State.askStep_keepsPass hp ha hleft

theorem State.askNow_keepsPass {s : State} {g a : Nat} {p : PassRun} (hp : (s.tuss g).pass = some p) (ha : a < 17)
    (hleft : s.passedOver g p a = false) : ∃ p', ((s.askNow g).tuss g).pass = some p' ∧ p'.from_ = p.from_ ∧ p'.stamped = p.stamped ∧
      ((s.askNow g).tuss g).startPass = (s.tuss g).startPass ∧ s.OnlyTuss (s.askNow g) g [] := by
  unfold State.askNow
  split
  · exact State.planWindow_keepsPass hp ha hleft
  · exact ⟨p, hp, rfl, rfl, rfl, .refl s g []⟩

/-- The state in which a pass has started. -/
def State.passBegun (s : State) (g : Nat) : State :=
  (s.updTuss g fun t => { t with
    startPass := false
    pass := some { from_ := s.reserveOf g, down := decide (s.reserveOf g ≤ 8 ∧ s.reserveOf g ≠ 0 ∨ s.reserveOf g = 16) } }).set
      (F.BRK_STATUS_PASS_ACTIVE g) 1

/-- When Bracken starts a pass (R287). -/
def State.passDue (s : State) (g : Nat) : Prop := s.tskState g = tSERVICE ∧ (s.tuss g).pass = none ∧
  ((s.on (F.BRK_CFG_AUTO g) = true ∧ ∃ a, a < 17 ∧ s.offTemp g a = true) ∨ (s.tuss g).startPass = true ∨
    s.on (F.TSK_RESTORE_TEMP_SENSOR_BROKEN g) = true)

theorem State.passStart_cases (s : State) (g : Nat) :
    (s.passDue g → s.passStart g = s.passBegun g) ∧ (¬s.passDue g → s.passStart g = s) := by
  have hiff : (s.tskState g = tSERVICE ∧ (s.tuss g).pass.isNone = true ∧
      ((s.on (F.BRK_CFG_AUTO g) && (List.range 17).any (s.offTemp g)) || (s.tuss g).startPass ||
        s.on (F.TSK_RESTORE_TEMP_SENSOR_BROKEN g)) = true) ↔ s.passDue g := by
    simp [State.passDue, Option.isNone_iff_eq_none, List.any_eq_true, or_assoc]
  constructor
  · intro hdue
    rw [State.passStart, if_pos (hiff.2 hdue)]
    rfl
  · intro hdue
    rw [State.passStart, if_neg (fun h => hdue (hiff.1 h))]

theorem State.passBegun_spec {s : State} {g : Nat} (hin : ∃ a, a < 17 ∧ s.arrState g a ≠ aQUAR ∧ s.arrState g a ≠ aWFAULT) :
    ∃ t p, (s.passBegun g).askNow g = t ∧ (t.tuss g).pass = some p ∧ p.from_ = s.reserveOf g ∧ p.stamped = [] ∧
      (t.tuss g).startPass = false ∧ t.get (F.BRK_STATUS_PASS_ACTIVE g) = 1 ∧ s.OnlyTuss t g [F.BRK_STATUS_PASS_ACTIVE g] := by
  obtain ⟨a, ha, hquar, hfault⟩ := hin
  obtain ⟨u, hu⟩ : ∃ u, s.passBegun g = u := ⟨_, rfl⟩
  have hsu : s.OnlyTuss u g [F.BRK_STATUS_PASS_ACTIVE g] := by
    rw [← hu]
    exact ((State.OnlyTuss.refl s g _).upd _).set _ (by simp)
  have hpass : (u.tuss g).pass = some { from_ := s.reserveOf g, down := decide (s.reserveOf g ≤ 8 ∧ s.reserveOf g ≠ 0 ∨ s.reserveOf g = 16) } := by
    rw [← hu]
    simp [State.passBegun]
  have hstate : u.arrState g a = s.arrState g a :=
    hsu.2.1 _ (by simp [Fld.key_iff, F.TSK_ARR_STATE_STATE, F.BRK_STATUS_PASS_ACTIVE])
  obtain ⟨p', hp', hfrom, hstamped, hstart, hframe⟩ := State.askNow_keepsPass hpass ha (by simp [State.passedOver, hstate, hquar, hfault])
  rw [hu]
  refine ⟨_, p', rfl, hp', hfrom, hstamped, hstart.trans (by rw [← hu]; simp [State.passBegun]), ?_, hsu.trans ?_⟩
  · rw [hframe.2.1 _ (by simp), ← hu, State.passBegun, State.get_set_same]
    rfl
  · exact ⟨hframe.1, hframe.2.1.mono (by simp), hframe.2.2⟩

/-- What an ABORT leaves of Bracken in a Tussock (R291), and what it may touch. -/
structure State.Aborted (s t : State) (g : Nat) : Prop where
  abortDue : (t.tuss g).abortDue = false
  window : (t.tuss g).window = none
  pass : (t.tuss g).pass = none
  ask : (t.tuss g).ask = none
  passActive : t.get (F.BRK_STATUS_PASS_ACTIVE g) = 0
  overdue : t.get (F.BRK_STATUS_OVERDUE g) = 0
  wait : t.get (F.BRK_DEFER_WAIT g) = 0
  abandoned : (s.tuss g).window ≠ none → t.get (F.BRK_STATUS_ABANDONED g) = 1
  count : (s.tuss g).window ≠ none → t.get (F.BRK_CAL_CNT_ABANDON_CNT g) =
    min (s.get (F.BRK_CAL_CNT_ABANDON_CNT g) + 1) (2 ^ (F.BRK_CAL_CNT_ABANDON_CNT g).w - 1)
  frame : s.Only {.genSets, .mem, .tuss g, .reg .BRK_ARR_CAL, .reg .BRK_STATUS, .reg .BRK_DEFER, .reg .BRK_CAL_CNT, .reg .TSK_ARR_STATE,
    .reg .CHN_ADM_BUDGET, .reg .TSK_CLK_STATUS, .reg .TSK_QUAR_CAUSE} t

/-- What follows an ABORT keeps it, where it touches no register of Bracken and nothing of what Bracken holds in the Tussock. -/
theorem State.Aborted.then {s t u : State} {g : Nat} (h : s.Aborted t g)
    (hframe : t.Only {.tuss g, .reg .TSK_ARR_STATE, .reg .TSK_CLK_STATUS, .reg .TSK_QUAR_CAUSE} u)
    (htuss : (u.tuss g).abortDue = (t.tuss g).abortDue ∧ (u.tuss g).window = (t.tuss g).window ∧ (u.tuss g).pass = (t.tuss g).pass ∧
      (u.tuss g).ask = (t.tuss g).ask) : s.Aborted u g := by
  obtain ⟨hdue, hwin, hpass, hask⟩ := htuss
  have hget (f : Fld) (hf : f.r = .BRK_STATUS ∨ f.r = .BRK_DEFER ∨ f.r = .BRK_CAL_CNT) : u.get f = t.get f := by
    refine hframe.get ?_
    rcases hf with hf | hf | hf <;> simp [hf]
  exact {
    abortDue := hdue.trans h.abortDue
    window := hwin.trans h.window
    pass := hpass.trans h.pass
    ask := hask.trans h.ask
    passActive := (hget _ (.inl rfl)).trans h.passActive
    overdue := (hget _ (.inl rfl)).trans h.overdue
    wait := (hget _ (.inr (.inl rfl))).trans h.wait
    abandoned := fun hw => (hget _ (.inl rfl)).trans (h.abandoned hw)
    count := fun hw => (hget _ (.inr (.inr rfl))).trans (h.count hw)
    frame := h.frame.trans (hframe.mono (by simp)) }

theorem State.get_setArrState_ne (s : State) (g a v : Nat) {f : Fld} (hf : f.key ∉ (emptyFlds g a).map Fld.key) :
    (s.setArrState g a v).get f = s.get f := (s.setArrState_onlyTuss g a v).2.1 f hf

/-- A window that is abandoned. -/
theorem State.abandonWindow_spec (s : State) (g : Nat) : ((s.abandonWindow g).tuss g).window = none ∧
    ((s.tuss g).window ≠ none → (s.abandonWindow g).get (F.BRK_STATUS_ABANDONED g) = 1 ∧
      (s.abandonWindow g).get (F.BRK_CAL_CNT_ABANDON_CNT g) =
        min (s.get (F.BRK_CAL_CNT_ABANDON_CNT g) + 1) (2 ^ (F.BRK_CAL_CNT_ABANDON_CNT g).w - 1)) := by
  unfold State.abandonWindow
  cases hw : (s.tuss g).window with
  | none => exact ⟨hw, fun h => absurd rfl h⟩
  | some w =>
    dsimp only
    obtain ⟨u, hu⟩ : ∃ u, ((s.inc (F.BRK_CAL_CNT_ABANDON_CNT g)).set (F.BRK_STATUS_ABANDONED g) 1).brkStage g 0x1F 0 = u := ⟨_, rfl⟩
    rw [hu]
    obtain ⟨v, hv⟩ : ∃ v, (if w.released then u.putBackAll g w else u) = v := ⟨_, rfl⟩
    rw [hv]
    obtain ⟨x, hx⟩ : ∃ x, (if (!w.released) = true ∧ v.arrState g (v.reserveOf g) = aWRITING then v.setArrState g (v.reserveOf g) aEMPTY else v) = x :=
      ⟨_, rfl⟩
    rw [hx]
    have huv : u.Only {.genSets, .mem, .tuss g, .reg .BRK_ARR_CAL} v := by
      rw [← hv]
      split <;> simp
    have hvx : v.Only {.tuss g, .reg .BRK_STATUS, .reg .TSK_ARR_STATE} x := by
      rw [← hx]
      split <;> simp
    have hxaband : x.get (F.BRK_STATUS_ABANDONED g) = v.get (F.BRK_STATUS_ABANDONED g) := by
      rw [← hx]
      split
      · exact State.get_setArrState_ne _ _ _ _
          (by simp [emptyFlds, Fld.key_iff, F.BRK_STATUS_ABANDONED, F.BRK_STATUS_IN_PLACE, F.TSK_ARR_STATE_STATE, F.TSK_ARR_STATE_CONTEXT])
      · rfl
    obtain ⟨y, hy⟩ : ∃ y, (x.updTuss g fun t => { t with
      window := none
      exchange := t.exchange.filter fun x => !x.bracken
      abandoned := if w.released then t.abandoned ++ [w.arr] else t.abandoned }) = y := ⟨_, rfl⟩
    rw [hy]
    have hxy : x.Only {.tuss g} y := by
      rw [← hy]
      simp
    have hend : y.Only {.reg .CHN_ADM_BUDGET} (y.shrinkBit (chanOf g)) := by simp
    refine ⟨?_, fun _ => ⟨?_, ?_⟩⟩
    · rw [hend.tuss (by simp), ← hy, State.tuss_updTuss]
    · rw [hend.get (by simp [F.BRK_STATUS_ABANDONED]), hxy.get (by simp), hxaband, huv.get (by simp [F.BRK_STATUS_ABANDONED]), ← hu,
        State.brkStage, State.get_set_ne _ _ (Fld.key_ne_of_lo (by simp [F.BRK_STATUS_STAGE, F.BRK_STATUS_ABANDONED])),
        State.get_set_ne _ _ (Fld.key_ne_of_lo (by simp [F.BRK_STATUS_STEP_ARRAY, F.BRK_STATUS_ABANDONED])), State.get_set_same]
      rfl
    · have hsu : (s.inc (F.BRK_CAL_CNT_ABANDON_CNT g)).Only {.reg .BRK_STATUS} u := by
        rw [← hu]
        simp [F.BRK_STATUS_ABANDONED]
      rw [hend.get (by simp [F.BRK_CAL_CNT_ABANDON_CNT]), hxy.get (by simp), hvx.get (by simp [F.BRK_CAL_CNT_ABANDON_CNT]),
        huv.get (by simp [F.BRK_CAL_CNT_ABANDON_CNT]), hsu.get (by simp [F.BRK_CAL_CNT_ABANDON_CNT]), State.get_inc_same]

/-- The pass of a Tussock dropped, and with it what Bracken asks for. -/
theorem State.dropPass_spec (s : State) (g : Nat) : ((s.dropPass g).tuss g).pass = none ∧ ((s.dropPass g).tuss g).ask = none ∧
    ((s.dropPass g).tuss g).window = (s.tuss g).window ∧
    (s.dropPass g).get (F.BRK_STATUS_PASS_ACTIVE g) = 0 ∧ (s.dropPass g).get (F.BRK_STATUS_OVERDUE g) = 0 ∧
    (s.dropPass g).get (F.BRK_DEFER_WAIT g) = 0 ∧
    (s.dropPass g).get (F.BRK_STATUS_ABANDONED g) = s.get (F.BRK_STATUS_ABANDONED g) := by
  have hreg (f : Fld) (hf : f.r = .BRK_STATUS) : (F.BRK_DEFER_WAIT g).key ≠ f.key := Fld.key_ne_of_reg (by simp [hf, F.BRK_DEFER_WAIT])
  unfold State.dropPass
  refine ⟨by simp, by simp, by simp, ?_, ?_, ?_, ?_⟩
  · rw [State.get_updTuss, State.get_set_ne _ _ (hreg _ rfl),
      State.get_set_ne _ _ (Fld.key_ne_of_lo (by simp [F.BRK_STATUS_OVERDUE, F.BRK_STATUS_PASS_ACTIVE])), State.get_set_same]
    rfl
  · rw [State.get_updTuss, State.get_set_ne _ _ (hreg _ rfl), State.get_set_same]
    rfl
  · rw [State.get_updTuss, State.get_set_same]
    rfl
  · rw [State.get_updTuss, State.get_set_ne _ _ (hreg _ rfl),
      State.get_set_ne _ _ (Fld.key_ne_of_lo (by simp [F.BRK_STATUS_OVERDUE, F.BRK_STATUS_ABANDONED])),
      State.get_set_ne _ _ (Fld.key_ne_of_lo (by simp [F.BRK_STATUS_PASS_ACTIVE, F.BRK_STATUS_ABANDONED]))]

theorem State.abortNow_aborts {s : State} {g : Nat} (hdue : (s.tuss g).abortDue = true) : s.Aborted (s.abortNow g) g := by
  obtain ⟨hwin, hcount⟩ := s.abandonWindow_spec g
  obtain ⟨u, hu⟩ : ∃ u, s.abandonWindow g = u := ⟨_, rfl⟩
  rw [hu] at hwin hcount
  obtain ⟨hpass, hask, hkeep, hactive, hover, hwait, habandoned⟩ := u.dropPass_spec g
  have hdrop : u.Only {.tuss g, .reg .BRK_DEFER, .reg .BRK_STATUS} (u.dropPass g) := by simp
  have hnow : s.abortNow g = (u.dropPass g).updTuss g fun t => { t with abortDue := false } := by
    rw [State.abortNow, if_pos hdue, hu]
  have hframe : s.Only {.genSets, .mem, .tuss g, .reg .BRK_ARR_CAL, .reg .BRK_STATUS, .reg .BRK_DEFER, .reg .BRK_CAL_CNT, .reg .TSK_ARR_STATE,
      .reg .CHN_ADM_BUDGET, .reg .TSK_CLK_STATUS, .reg .TSK_QUAR_CAUSE} (s.abortNow g) := by simp
  rw [hnow] at hframe ⊢
  exact {
    abortDue := by simp
    window := by simpa using hkeep.trans hwin
    pass := by simpa using hpass
    ask := by simpa using hask
    passActive := hactive
    overdue := hover
    wait := hwait
    abandoned := fun h => habandoned.trans (hcount h).1
    count := fun h => (hdrop.get (by simp [F.BRK_CAL_CNT_ABANDON_CNT])).trans (hcount h).2
    frame := hframe }

/-- CURRENT and STALE are taken anew; no other field of Bracken changes. -/
theorem State.get_brkCurrent (s : State) (g : Nat) {f : Fld} (hreg : f.r ≠ .BRK_ARR_CAL) (hlo : f.lo % 64 ≠ 1) :
    (s.brkCurrent g).get f = s.get f := by
  unfold State.brkCurrent
  exact (State.get_set_ne _ _ (Fld.key_ne_of_lo (by simpa [F.BRK_STATUS_CURRENT] using Ne.symm hlo))).trans
    (State.get_foldl (fun u x => State.get_set_ne _ _ (Fld.key_ne_of_reg (by simpa [F.BRK_ARR_CAL_STALE] using Ne.symm hreg))) s)

theorem State.latchTrig_keeps {s t : State} {g : Nat} (h : s.Aborted t g) : s.Aborted (t.latchTrig g) g := by
  obtain ⟨u, hu⟩ : ∃ u, (t.updTuss g fun x => { x with trigNow := t.get (F.BRK_CFG_TRIG g) }) = u := ⟨_, rfl⟩
  have htu : t.Only {.tuss g, .reg .TSK_ARR_STATE, .reg .TSK_CLK_STATUS, .reg .TSK_QUAR_CAUSE} u := by
    rw [← hu]
    simp
  have hau : s.Aborted u g := h.then htu (by rw [← hu]; simp)
  have hlatch : t.latchTrig g = u.brkCurrent g := by rw [← hu]; rfl
  have hcur : u.Only {.reg .BRK_ARR_CAL, .reg .BRK_STATUS} (u.brkCurrent g) := by simp
  have htuss : (u.brkCurrent g).tuss g = u.tuss g := hcur.tuss (by simp)
  rw [hlatch]
  exact {
    abortDue := by rw [htuss]; exact hau.abortDue
    window := by rw [htuss]; exact hau.window
    pass := by rw [htuss]; exact hau.pass
    ask := by rw [htuss]; exact hau.ask
    passActive := (State.get_brkCurrent _ _ (by simp [F.BRK_STATUS_PASS_ACTIVE]) (by simp [F.BRK_STATUS_PASS_ACTIVE])).trans hau.passActive
    overdue := (State.get_brkCurrent _ _ (by simp [F.BRK_STATUS_OVERDUE]) (by simp [F.BRK_STATUS_OVERDUE])).trans hau.overdue
    wait := (State.get_brkCurrent _ _ (by simp [F.BRK_DEFER_WAIT]) (by simp [F.BRK_DEFER_WAIT])).trans hau.wait
    abandoned := fun hw =>
      (State.get_brkCurrent _ _ (by simp [F.BRK_STATUS_ABANDONED]) (by simp [F.BRK_STATUS_ABANDONED])).trans (hau.abandoned hw)
    count := fun hw =>
      (State.get_brkCurrent _ _ (by simp [F.BRK_CAL_CNT_ABANDON_CNT]) (by simp [F.BRK_CAL_CNT_ABANDON_CNT])).trans (hau.count hw)
    frame := hau.frame.trans (hcur.mono (by simp)) }

/-- An ABORT that is due takes effect as the next swath opens. -/
theorem State.openSwath_aborts {s : State} {g : Nat} (hdue : (s.tuss g).abortDue = true) (w : Nat) : s.Aborted (s.openSwath g w) g := by
  have h := State.latchTrig_keeps (State.abortNow_aborts hdue)
  obtain ⟨u, hu⟩ : ∃ u, (s.abortNow g).latchTrig g = u := ⟨_, rfl⟩
  rw [hu] at h
  have hfold : u.Only {.reg .TSK_ARR_STATE} ((List.range 17).foldl (fun s a => s.set (F.TSK_ARR_STATE_PASS_THROUGH g a) 0) u) := by
    simp (disch := simp (disch := simp [F.TSK_ARR_STATE_PASS_THROUGH]))
  unfold State.openSwath
  rw [hu]
  refine (h.then (hfold.mono (by simp)) ?_).then (by simp) (by simp)
  rw [hfold.tuss (by simp)]
  exact ⟨rfl, rfl, rfl, rfl⟩

theorem State.raiseCause_keeps {s t : State} {g b : Nat} (h : s.Aborted t g) : s.Aborted (t.raiseCause g b) g := by
  refine h.then (by simp) ?_
  unfold State.raiseCause State.setBit
  dsimp only
  split <;> split <;> simp

theorem State.Aborted.outcome {s t : State} {g : Nat} (h : s.Aborted t g) : (∀ h, h ≠ g → t.tuss h = s.tuss h) ∧
    t = { s with regs := t.regs, tusss := t.tusss, mem := t.mem, genSets := t.genSets } :=
  ⟨fun _ hh => h.frame.tuss (by simpa using hh), h.frame.eq_mix.trans (by simp [State.mix])⟩

theorem State.markerLate_aborts {s : State} {g : Nat} (hdue : (s.tuss g).abortDue = true) (hopen : (s.tuss g).open_ ≠ none) :
    s.Aborted (s.markerLate g) g := by
  obtain ⟨x, hx⟩ := Option.ne_none_iff_exists'.1 hopen
  obtain ⟨u, hu⟩ : ∃ u, (((s.openSwath g (x + 1)).updTuss g fun t => { t with late := t.late + 1 }).set (F.TSK_CLK_STATUS_MARKER_LATE g) 1).inc
    (F.TSK_CLK_STATUS_LATE_CNT g) = u := ⟨_, rfl⟩
  have hmark : s.markerLate g = if 2 ≤ (u.tuss g).late then u.raiseCause g 2 else u := by
    simp only [State.markerLate, hx, ← hu]
  have hau : s.Aborted u g := by
    rw [← hu]
    refine (State.openSwath_aborts hdue (x + 1)).then (by simp [F.TSK_CLK_STATUS_MARKER_LATE, F.TSK_CLK_STATUS_LATE_CNT]) ?_
    rw [State.inc_eq]
    simp
  rw [hmark]
  split
  · exact State.raiseCause_keeps hau
  · exact hau

theorem State.marker_aborts {s : State} {g w : Nat} (hdue : (s.tuss g).abortDue = true) (hst : s.tskState g ≠ tREEN)
    (hfresh : (s.tuss g).open_ = some w → (s.tuss g).late = 0) : s.Aborted (s.marker g w) g := by
  obtain ⟨u, hu⟩ : ∃ u, ((s.openSwath g w).updTuss g fun t => { t with late := 0 }) = u := ⟨_, rfl⟩
  have hau : s.Aborted u g := by
    rw [← hu]
    exact (State.openSwath_aborts hdue w).then (by simp) (by simp)
  have hstay : u.reenableAlign g = u := by
    have hstate : u.tskState g = s.tskState g := hau.frame.get (by simp [F.TSK_STATE_STATE])
    rw [State.reenableAlign, if_neg (by simp [hstate, hst])]
  unfold State.marker
  dsimp only
  cases hopen : (s.tuss g).open_ with
  | none =>
    dsimp only
    rw [hu, hstay]
    exact hau
  | some x =>
    have hnot : ¬(w = x ∧ (s.tuss g).late ≠ 0) := fun ⟨hw, hlate⟩ => hlate (hfresh (by rw [hopen, hw]))
    dsimp only
    rw [if_neg hnot, hu, hstay]
    split
    · exact hau
    · exact State.raiseCause_keeps hau

theorem State.setArrState_valid_onlyTuss (s : State) (g a : Nat) :
    s.OnlyTuss (s.setArrState g a aVALID) g [F.TSK_ARR_STATE_STATE g a, F.BRK_STATUS_IN_PLACE g] :=
  have h : s.setArrState g a aVALID = ((s.set (F.TSK_ARR_STATE_STATE g a) aVALID).brkInPlace g).updArr g a fun r => { r with out := false } := rfl
  h ▸ (((State.OnlyTuss.refl s g _).set _ (by simp)).set _ (by simp)).upd _

/-- The abandoned arrays of a window that are CALIBRATING are VALID again. -/
theorem State.returnValid_spec {g : Nat} (l : List Nat) (hl : ∀ a ∈ l, a < 17) (s : State) :
    (∀ a, a < 17 → (l.foldl (fun (s : State) a => if s.arrState g a = aCAL then s.setArrState g a aVALID else s) s).arrState g a =
      if a ∈ l ∧ s.arrState g a = aCAL then aVALID else s.arrState g a) ∧
    s.OnlyTuss (l.foldl (fun (s : State) a => if s.arrState g a = aCAL then s.setArrState g a aVALID else s) s) g
      (F.BRK_STATUS_IN_PLACE g :: l.map fun a => F.TSK_ARR_STATE_STATE g a) := by
  induction l generalizing s with
  | nil => exact ⟨fun a _ => by simp, .refl s g _⟩
  | cons b l ih =>
    have hb := hl b (List.mem_cons_self ..)
    obtain ⟨u, hu⟩ : ∃ u, (if s.arrState g b = aCAL then s.setArrState g b aVALID else s) = u := ⟨_, rfl⟩
    have hstate (a : Nat) (ha : a < 17) : u.arrState g a = if a = b ∧ s.arrState g a = aCAL then aVALID else s.arrState g a := by
      rw [← hu]
      by_cases hcal : s.arrState g b = aCAL
      · rw [if_pos hcal, State.arrState_setArrState s g hb ha (by decide)]
        by_cases hab : a = b
        · simp [hab, hcal]
        · simp [hab]
      · rw [if_neg hcal, if_neg]
        rintro ⟨rfl, h⟩
        exact hcal h
    have hframe : s.OnlyTuss u g (F.BRK_STATUS_IN_PLACE g :: (b :: l).map fun a => F.TSK_ARR_STATE_STATE g a) := by
      rw [← hu]
      split
      · have h := s.setArrState_valid_onlyTuss g b
        exact ⟨h.1, h.2.1.mono (by simp), h.2.2⟩
      · exact .refl s g _
    obtain ⟨hrest, hrestframe⟩ := ih (fun a ha => hl a (List.mem_cons_of_mem _ ha)) u
    rw [List.foldl_cons, hu]
    refine ⟨fun a ha => ?_, hframe.trans ⟨hrestframe.1, hrestframe.2.1.mono ?_, hrestframe.2.2⟩⟩
    · rw [hrest a ha, hstate a ha]
      by_cases hcal : s.arrState g a = aCAL
      · by_cases hab : a = b
        · simp [hab, hab ▸ hcal, show aVALID ≠ aCAL by decide]
        · simp [hab, hcal]
      · simp [hcal]
    · intro f hf
      simp only [List.map_cons, List.mem_cons] at hf ⊢
      exact hf.imp_right .inr

/-- Settles O31: passes start when they are due, an ABORT takes effect as the next swath opens, and abandoned arrays return. -/
theorem calibrationPassesStartAndAbort : Obligations.CalibrationPassesStartAndAbort := by
  unfold Obligations.CalibrationPassesStartAndAbort
  refine ⟨?ask, ?start, ?abort, ?boundary, ?back⟩
  case ask =>
    intro g s hreach
    refine ⟨fun hnone => ⟨_, rfl, ?_⟩, fun hsome => ?_⟩
    · simp only [State.ifReach, hreach, if_true, hnone, Option.isSome_none, Bool.false_eq_true, if_false]
      exact ⟨by simp, (State.OnlyTuss.refl s g []).upd _⟩
    · simp only [exec, execBrkStartPass, State.ifReach, hreach, if_true, Option.isSome_iff_ne_none.2 hsome]
  case start =>
    intro g s hruns due
    obtain ⟨hdo, hdont⟩ := s.passStart_cases g
    refine ⟨fun hdue hin => ?_, fun hdue hchan => ?_⟩
    · obtain ⟨t, p, ht, hpass, hfrom, hstamped, hstart, hactive, hframe⟩ := State.passBegun_spec hin
      refine ⟨t, p, ?_, hpass, hfrom, hstamped, hstart, hactive, hframe.2.2, hframe.1⟩
      simp only [exec, execPassStart, State.ifT, hruns, if_true, hdo hdue, ht]
    · have hask : s.askNow g = s := by
        rw [State.askNow, if_neg]
        rintro ⟨hopen, hrun⟩
        rcases hchan with h | h
        · exact Bool.noConfusion (h.symm.trans hopen)
        · exact Bool.noConfusion (hrun.symm.trans h)
      simp only [exec, execPassStart, State.ifT, hruns, if_true, hdont hdue, hask]
  case abort =>
    intro g s hreach
    refine ⟨_, rfl, ?_⟩
    simp only [State.ifReach, hreach, if_true]
    exact ⟨by simp, by simp, by simp, (State.OnlyTuss.refl s g []).upd _⟩
  case boundary =>
    intro g s i hon hst hdue hi
    have habort : ∃ t, exec i s = .next t ∧ s.Aborted t g := by
      rcases hi with ⟨rfl, hopen⟩ | ⟨w, rfl, hfresh⟩
      · exact ⟨_, by simp only [exec, execMarkerLate, State.ifPowered, hon, if_true], State.markerLate_aborts hdue hopen⟩
      · exact ⟨_, by simp only [exec, execSwathMarker, State.ifPowered, hon, if_true], State.marker_aborts hdue hst hfresh⟩
    obtain ⟨t, ht, ha⟩ := habort
    exact ⟨t, ht, ha.abortDue, ha.window, ha.pass, ha.ask, ha.passActive, ha.overdue, ha.wait,
      fun hw => ⟨ha.abandoned hw, ha.count hw⟩, ha.outcome⟩
  case back =>
    intro g s hruns hin
    obtain ⟨hstates, hframe⟩ := State.returnValid_spec (g := g) _ hin s
    refine ⟨_, rfl, ?_⟩
    simp only [State.ifT, hruns, if_true]
    exact ⟨by simp, hstates, hframe.upd _⟩

end Sys2Proof.Machine

namespace Sys2Proof.Machine
open Sys2Proof

/-! ### Identity tables and exchanges with the reserve -/

theorem Memory.read_fill (m : List Host.Cell) (lo hi a : Nat) : Memory.read (Memory.fill m lo hi) a =
    if lo ≤ canon a ∧ canon a < hi then memDefault (canon a) else Memory.read m a :=
  Tab.get_clear memDefault m lo hi (canon a)

theorem roleFld_ne {g j k : Nat} (hj : j < 16) (hk : k < 16) (h : j ≠ k) : (roleFld g j).key ≠ (roleFld g k).key := by
  simp only [roleFld, ne_eq, Fld.key_iff]
  omega

/-- An exchange of a slot's array with the reserve. -/
theorem State.swapSlot_spec (s : State) (g : Nat) {k : Nat} (hk : k < 16) (hdst : s.reserveOf g < 32) (hfrom : s.arrOf g k < 32) :
    (s.swapSlot g k).arrOf g k = s.reserveOf g ∧ (∀ j, j < 16 → j ≠ k → (s.swapSlot g k).arrOf g j = s.arrOf g j) ∧
    (s.swapSlot g k).reserveOf g = s.arrOf g k ∧ (s.swapSlot g k).get (F.TSK_SWAP_LAST_SLOT g) = k ∧
    (s.swapSlot g k).get (F.TSK_SWAP_LAST_FROM g) = s.arrOf g k ∧ (s.swapSlot g k).get (F.TSK_SWAP_LAST_TO g) = s.reserveOf g ∧
    (s.swapSlot g k).get (F.TSK_SWAP_SWAP_CNT g) = (s.get (F.TSK_SWAP_SWAP_CNT g) + 1) % 2 ^ (F.TSK_SWAP_SWAP_CNT g).w := by
  obtain ⟨dst, hd⟩ : ∃ dst, s.reserveOf g = dst := ⟨_, rfl⟩
  obtain ⟨from_, hf⟩ : ∃ from_, s.arrOf g k = from_ := ⟨_, rfl⟩
  rw [hd] at hdst ⊢
  rw [hf] at hfrom ⊢
  obtain ⟨u, hu⟩ : ∃ u, (s.set (roleFld g k) dst).set (F.TSK_ARRAY_ROLE_RESERVE_PHYS g) from_ = u := ⟨_, rfl⟩
  obtain ⟨v, hv⟩ : ∃ v, ((u.set (F.TSK_ARR_STATE_ROLE g dst) 0).set (F.TSK_ARR_STATE_ROLE g from_) 1).set (F.TSK_ARR_STATE_PASS_THROUGH g dst) 0 = v :=
    ⟨_, rfl⟩
  obtain ⟨w, hw⟩ : ∃ w, (((v.set (F.TSK_SWAP_LAST_SLOT g) k).set (F.TSK_SWAP_LAST_FROM g) from_).set (F.TSK_SWAP_LAST_TO g) dst).incMod
      (F.TSK_SWAP_SWAP_CNT g) = w := ⟨_, rfl⟩
  have hswap : s.swapSlot g k = ((w.rebaseArr g dst).brkInPlace g).brkCurrent g := by
    rw [← hw, ← hv, ← hu, ← hd, ← hf]
    rfl
  have huv : u.Only {.reg .TSK_ARR_STATE} v := by
    rw [← hv]
    simp [F.TSK_ARR_STATE_ROLE, F.TSK_ARR_STATE_PASS_THROUGH]
  have hvw : v.Only {.reg .TSK_SWAP} w := by
    rw [← hw]
    simp [F.TSK_SWAP_LAST_SLOT, F.TSK_SWAP_LAST_FROM, F.TSK_SWAP_LAST_TO, F.TSK_SWAP_SWAP_CNT]
  have hend : w.Only {.tuss g, .reg .BRK_STATUS, .reg .BRK_ARR_CAL} (s.swapSlot g k) := by
    rw [hswap]
    simp
  have hmap (f : Fld) (hr : f.r = .TSK_ROLE_MAP ∨ f.r = .TSK_ARRAY_ROLE) : (s.swapSlot g k).get f = u.get f := by
    rw [hend.get (by rcases hr with hr | hr <;> simp [hr]), hvw.get (by rcases hr with hr | hr <;> simp [hr]),
      huv.get (by rcases hr with hr | hr <;> simp [hr])]
  have hlast (f : Fld) (hr : f.r = .TSK_SWAP) : (s.swapSlot g k).get f = w.get f := hend.get (by simp [hr])
  have hrole (j : Nat) : (F.TSK_ARRAY_ROLE_RESERVE_PHYS g).key ≠ (roleFld g j).key :=
    Fld.key_ne_of_reg (by simp [F.TSK_ARRAY_ROLE_RESERVE_PHYS, roleFld])
  have hcnt : v.get (F.TSK_SWAP_SWAP_CNT g) = s.get (F.TSK_SWAP_SWAP_CNT g) := by
    rw [huv.get (by simp [F.TSK_SWAP_SWAP_CNT]), ← hu,
      State.get_set_ne _ _ (Fld.key_ne_of_reg (by simp [F.TSK_ARRAY_ROLE_RESERVE_PHYS, F.TSK_SWAP_SWAP_CNT])),
      State.get_set_ne _ _ (Fld.key_ne_of_reg (by simp [roleFld, F.TSK_SWAP_SWAP_CNT]))]
  have hsf : (F.TSK_SWAP_LAST_FROM g).key ≠ (F.TSK_SWAP_LAST_SLOT g).key :=
    Fld.key_ne_of_lo (by simp [F.TSK_SWAP_LAST_FROM, F.TSK_SWAP_LAST_SLOT])
  have hst : (F.TSK_SWAP_LAST_TO g).key ≠ (F.TSK_SWAP_LAST_SLOT g).key := Fld.key_ne_of_lo (by simp [F.TSK_SWAP_LAST_TO, F.TSK_SWAP_LAST_SLOT])
  have hft : (F.TSK_SWAP_LAST_TO g).key ≠ (F.TSK_SWAP_LAST_FROM g).key := Fld.key_ne_of_lo (by simp [F.TSK_SWAP_LAST_TO, F.TSK_SWAP_LAST_FROM])
  have hc (f : Fld) (hlo : f.lo % 64 ≠ 24) : (F.TSK_SWAP_SWAP_CNT g).key ≠ f.key :=
    Fld.key_ne_of_lo (by simpa [F.TSK_SWAP_SWAP_CNT] using Ne.symm hlo)
  refine ⟨?_, fun j hj hjk => ?_, ?_, ?_, ?_, ?_, ?_⟩
  · rw [State.arrOf, hmap _ (.inl rfl), ← hu, State.get_set_ne _ _ (hrole k), State.get_set_same]
    exact Nat.mod_eq_of_lt hdst
  · rw [State.arrOf, hmap _ (.inl rfl), ← hu, State.get_set_ne _ _ (hrole j), State.get_set_ne _ _ (roleFld_ne hk hj (Ne.symm hjk)), State.arrOf]
  · rw [State.reserveOf, hmap _ (.inr rfl), ← hu, State.get_set_same]
    exact Nat.mod_eq_of_lt hfrom
  · rw [hlast _ rfl, ← hw, State.get_incMod_ne _ (hc _ (by simp [F.TSK_SWAP_LAST_SLOT])), State.get_set_ne _ _ hst, State.get_set_ne _ _ hsf,
      State.get_set_same]
    exact Nat.mod_eq_of_lt hk
  · rw [hlast _ rfl, ← hw, State.get_incMod_ne _ (hc _ (by simp [F.TSK_SWAP_LAST_FROM])), State.get_set_ne _ _ hft, State.get_set_same]
    exact Nat.mod_eq_of_lt hfrom
  · rw [hlast _ rfl, ← hw, State.get_incMod_ne _ (hc _ (by simp [F.TSK_SWAP_LAST_TO])), State.get_set_same]
    exact Nat.mod_eq_of_lt hdst
  · rw [hlast _ rfl, ← hw, State.incMod, State.get_set_same, State.get_set_ne _ _ (Ne.symm (hc _ (by simp [F.TSK_SWAP_LAST_TO]))),
      State.get_set_ne _ _ (Ne.symm (hc _ (by simp [F.TSK_SWAP_LAST_FROM]))),
      State.get_set_ne _ _ (Ne.symm (hc _ (by simp [F.TSK_SWAP_LAST_SLOT]))), hcnt]

theorem State.tuss_setTrim (s : State) (g a i v : Nat) : ∃ ts, (s.setTrim g a i v).tuss g = { s.tuss g with trims := ts } := by
  refine ⟨((s.setTrim g a i v).tuss g).trims, ?_⟩
  unfold State.setTrim
  split
  · split <;> rfl
  · simp

theorem State.tuss_foldl_setTrim (l : List (Nat × Nat)) (s : State) (g a : Nat) :
    ∃ ts, (l.foldl (fun s p => s.setTrim g a p.1 p.2) s).tuss g = { s.tuss g with trims := ts } := by
  induction l generalizing s with
  | nil => exact ⟨(s.tuss g).trims, rfl⟩
  | cons p l ih =>
    obtain ⟨ts, h⟩ := s.tuss_setTrim g a p.1 p.2
    obtain ⟨us, h'⟩ := ih (s.setTrim g a p.1 p.2)
    exact ⟨us, by rw [List.foldl_cons, h', h]⟩

/-- Putting a window's tables back writes trims, and nothing else of the Tussock. -/
theorem State.tuss_putBackAll (s : State) (g : Nat) (w : Window) : ∃ ts, (s.putBackAll g w).tuss g = { s.tuss g with trims := ts } := by
  obtain ⟨u, hu⟩ : ∃ u, (if w.oldTable.isEmpty then s
    else { s with mem := Memory.writeN s.mem (tableBase g + w.arr * 0x2080) w.oldTable }) = u := ⟨_, rfl⟩
  have htuss : u.tuss g = s.tuss g := by
    rw [← hu]
    split <;> rfl
  obtain ⟨ts, hts⟩ := State.tuss_foldl_setTrim w.oldTrims u g w.arr
  obtain ⟨us, hus⟩ := State.tuss_foldl_setTrim w.oldSpares (s.putBack g w) g w.arr
  have hput : s.putBack g w = w.oldTrims.foldl (fun s p => s.setTrim g w.arr p.1 p.2) u := by rw [← hu]; rfl
  refine ⟨us, ?_⟩
  rw [State.putBackAll, State.countSpares, State.tuss_set, hus, hput, hts, htuss]

theorem State.abandonWindow_exchange {s : State} {g : Nat} (h : (s.tuss g).exchange = none) : ((s.abandonWindow g).tuss g).exchange = none := by
  unfold State.abandonWindow
  split
  · exact h
  · rename_i w _
    dsimp only
    obtain ⟨u, hu⟩ : ∃ u, ((s.inc (F.BRK_CAL_CNT_ABANDON_CNT g)).set (F.BRK_STATUS_ABANDONED g) 1).brkStage g 0x1F 0 = u := ⟨_, rfl⟩
    rw [hu]
    have hsu : s.Only {.reg .BRK_CAL_CNT, .reg .BRK_STATUS} u := by
      rw [← hu]
      simp [F.BRK_CAL_CNT_ABANDON_CNT, F.BRK_STATUS_ABANDONED]
    have hput : ((if w.released then u.putBackAll g w else u).tuss g).exchange = none := by
      split
      · obtain ⟨ts, hts⟩ := u.tuss_putBackAll g w
        rw [hts, hsu.tuss (by simp)]
        exact h
      · rw [hsu.tuss (by simp)]
        exact h
    obtain ⟨v, hv⟩ : ∃ v, (if w.released then u.putBackAll g w else u) = v := ⟨_, rfl⟩
    rw [hv] at hput ⊢
    have hstate : ((if (!w.released) = true ∧ v.arrState g (v.reserveOf g) = aWRITING then v.setArrState g (v.reserveOf g) aEMPTY else v).tuss g).exchange =
        none := by
      split
      · obtain ⟨as, has⟩ := v.tuss_setArrState g (v.reserveOf g) aEMPTY
        rw [has]
        exact hput
      · exact hput
    rw [State.shrinkBit, State.tuss_set, State.tuss_updTuss, hstate]
    rfl

theorem State.afterSwap_exchange (s : State) (g k : Nat) (bracken : Bool) : ((s.afterSwap g k bracken).tuss g).exchange = (s.tuss g).exchange := by
  unfold State.afterSwap
  dsimp only
  split
  · split
    · rfl
    · split
      · simp [State.brkStage, State.shrinkBit]
      · obtain ⟨as, has⟩ := s.tuss_setArrState g (s.reserveOf g) aCAL
        simp [State.brkStage, has]
  · simp

theorem State.replan_exchange (s : State) (g : Nat) : ((s.replan g).tuss g).exchange = (s.tuss g).exchange := by
  unfold State.replan
  dsimp only
  split
  · split
    · split
      · rfl
      · simp
    · rfl
  · rfl

theorem State.passEnd17_exchange (s : State) (g : Nat) : ((s.passEnd17 g).tuss g).exchange = (s.tuss g).exchange := by
  obtain ⟨u, hu⟩ : ∃ u, (((s.inc (F.BRK_CAL_CNT_PASS_CNT g)).set (F.BRK_CAL_TIME_TIME g) (s.swath * 8192)).set (F.BRK_STATUS_PASS_DONE g) 1) = u :=
    ⟨_, rfl⟩
  have hsu : s.Only {.reg .BRK_CAL_CNT, .reg .BRK_CAL_TIME, .reg .BRK_STATUS} u := by
    rw [← hu]
    simp [F.BRK_CAL_CNT_PASS_CNT, F.BRK_CAL_TIME_TIME, F.BRK_STATUS_PASS_DONE]
  have hirq : u.Only Part.event (if u.on (F.BRK_CFG_IRQ_PASS g) then u.signal 29 else u) := by split <;> simp
  unfold State.passEnd17
  dsimp only
  rw [hu, State.tuss_updTuss, State.tuss_set, hirq.tuss (by simp), hsu.tuss (by simp)]

theorem State.askNow_exchange (s : State) (g : Nat) : ((s.askNow g).tuss g).exchange = (s.tuss g).exchange := by
  unfold State.askNow
  split
  · rcases s.planWindow_cases g with h | h | ⟨r, h⟩ | ⟨p, -, h⟩ <;> rw [h]
    · exact s.replan_exchange g
    · simp
    · unfold State.askStep
      split
      · simp
      · split
        · exact s.passEnd17_exchange g
        · rfl
  · rfl

theorem State.placeWindow_exchange (s : State) (g w : Nat) : ((s.placeWindow g w false).tuss g).exchange = (s.tuss g).exchange := by
  unfold State.placeWindow
  split <;> simp

theorem State.askOn_exchange (s : State) (g : Nat) : ((s.askOn g).tuss g).exchange = (s.tuss g).exchange := by
  unfold State.askOn
  dsimp only
  split
  · exact s.askNow_exchange g
  · split
    · exact (State.placeWindow_exchange _ g _).trans (s.askNow_exchange g)
    · exact s.askNow_exchange g

/-! #### The outcomes of an exchange -/

section
variable {s : State} {g r from_ : Nat} {x : Exchange} (hx : (s.tuss g).exchange = some x) (hdue : (s.tuss g).quarDue = false)
  (hr : r = s.reserveOf g) (hf : from_ = s.arrOf g x.slot)
include hx hdue hr hf

theorem State.tryExchange_refused (href : s.arrState g r ≠ aVALID ∨
    s.get (F.TSK_ARR_STATE_CONTEXT g r) ≠ s.get (F.TSK_ARR_STATE_CONTEXT g from_) ∨ s.gangsStay g x.slot r = false) :
    s.tryExchange g = ((s.set (F.TSK_SWAP_SWAP_REFUSED g) 1).updTuss g fun t => { t with exchange := none }).swapRefused g x.bracken := by
  subst hr hf
  unfold State.tryExchange
  dsimp only
  rw [hx]
  dsimp only
  rw [hdue, if_neg Bool.false_ne_true, if_pos href]

variable (href : ¬(s.arrState g r ≠ aVALID ∨
    s.get (F.TSK_ARR_STATE_CONTEXT g r) ≠ s.get (F.TSK_ARR_STATE_CONTEXT g from_) ∨ s.gangsStay g x.slot r = false))
include href

theorem State.tryExchange_between (hphase : (s.tuss g).phaseOpen x.slot = true) : s.tryExchange g = if x.deferred then s
    else (s.inc (F.TSK_SWAP_DEFER_CNT g)).updTuss g fun t => { t with exchange := some { x with deferred := true } } := by
  subst hr hf
  unfold State.tryExchange
  dsimp only
  rw [hx]
  dsimp only
  rw [hdue, if_neg Bool.false_ne_true, if_neg href, if_pos hphase]

theorem State.tryExchange_done (hphase : ¬(s.tuss g).phaseOpen x.slot = true) : s.tryExchange g =
    ((s.swapSlot g x.slot).updTuss g fun t => { t with exchange := none }).afterSwap g x.slot x.bracken := by
  subst hr hf
  unfold State.tryExchange
  dsimp only
  rw [hx]
  dsimp only
  rw [hdue, if_neg Bool.false_ne_true, if_neg href, if_neg hphase]

end

/-- An exchange that leaves the reserve where it is ends with the attempt. -/
theorem State.slotExchange_of_reserve {s : State} {g : Nat} (h : (s.tryExchange g).reserveOf g = s.reserveOf g) :
    s.slotExchange g = s.tryExchange g := by
  unfold State.slotExchange
  simp [h]

/-- A refused exchange: no slot moves, and none is left to try. -/
theorem State.refused_spec (s : State) (g : Nat) (bracken : Bool) {t : State}
    (ht : t = ((s.set (F.TSK_SWAP_SWAP_REFUSED g) 1).updTuss g fun t => { t with exchange := none }).swapRefused g bracken) :
    t.get (F.TSK_SWAP_SWAP_REFUSED g) = 1 ∧ (t.tuss g).exchange = none ∧ (∀ k, t.arrOf g k = s.arrOf g k) ∧ t.reserveOf g = s.reserveOf g := by
  obtain ⟨u, hu⟩ : ∃ u, (s.set (F.TSK_SWAP_SWAP_REFUSED g) 1).updTuss g (fun t => { t with exchange := none }) = u := ⟨_, rfl⟩
  have hexch : (u.tuss g).exchange = none := by rw [← hu]; simp
  have hsu : s.Only {.tuss g, .reg .TSK_SWAP} u := by
    rw [← hu]
    simp [F.TSK_SWAP_SWAP_REFUSED]
  have hut : u.Only {.genSets, .mem, .tuss g, .reg .BRK_STATUS, .reg .BRK_CAL_CNT, .reg .BRK_ARR_CAL, .reg .TSK_ARR_STATE, .reg .CHN_ADM_BUDGET} t := by
    rw [ht, hu]
    unfold State.swapRefused
    dsimp only
    split
    · split <;> simp
    · simp
  refine ⟨?_, ?_, fun k => ?_, ?_⟩
  · rw [hut.get (by simp [F.TSK_SWAP_SWAP_REFUSED]), ← hu, State.get_updTuss, State.get_set_same]
    rfl
  · rw [ht, hu]
    unfold State.swapRefused
    dsimp only
    split
    · split
      · rw [State.tuss_updTuss]
        split
        · exact State.abandonWindow_exchange hexch
        · exact State.abandonWindow_exchange hexch
      · exact State.abandonWindow_exchange hexch
    · rw [State.tuss_updTuss]
      exact hexch
  · exact (hut.get (by simp [roleFld])).trans (hsu.get (by simp [roleFld]))
  · exact (hut.get (by simp [F.TSK_ARRAY_ROLE_RESERVE_PHYS])).trans (hsu.get (by simp [F.TSK_ARRAY_ROLE_RESERVE_PHYS]))

/-- What follows an exchange that has been performed: the requester goes on, and Bracken may ask for its next window. -/
theorem State.slotExchange_follow (s : State) (g : Nat) : ((s.slotExchange g).tuss g).exchange = ((s.tryExchange g).tuss g).exchange ∧
    (s.tryExchange g).Only ({.tuss g, .reg .BRK_STATUS, .reg .BRK_CAL_TIME, .reg .BRK_CAL_CNT, .reg .BRK_DEFER} ∪ Part.event) (s.slotExchange g) := by
  unfold State.slotExchange
  dsimp only
  split
  · exact ⟨State.askOn_exchange _ _, by simp⟩
  · exact ⟨rfl, .refl _ _⟩

/-- Settles O15: identity tables fill the table SRAM, and an exchange is refused, deferred once, or performed. -/
theorem tablesAndExchange : Obligations.TablesAndExchange := by
  unfold Obligations.TablesAndExchange
  refine ⟨?tables, ?exchange⟩
  case tables =>
    intro g s hruns hdue
    have hcond : ((s.tuss g).tableInit || !s.on (F.TSK_CONV_STATUS_TABLE_INIT_DONE g)) = true := by
      rcases hdue with h | h
      · simp [h]
      · simp [State.on, h]
    refine ⟨_, rfl, ?_⟩
    simp only [State.ifT, hruns, if_true, hcond]
    refine ⟨?_, by simp, fun a => Memory.read_fill _ _ _ a, ((State.OnlyTuss.refl (s.identityTables g) g _).upd _).set _ (by simp)⟩
    rw [State.get_set_same]
    rfl
  case exchange =>
    intro g s x r from_ hruns hx hdue hr hf hslot refused between
    have hexec : exec (.slotExchange g) s = .next (s.slotExchange g) := by
      simp only [exec, execSlotExchange, State.ifT, hruns, if_true]
    rw [hexec]
    refine ⟨fun href => ?_, fun href hbr => ?_, fun href hphase => ?_, fun href hphase hr17 hf17 => ?_⟩
    · obtain ⟨href', hnone, hmap, hres⟩ := State.refused_spec s g x.bracken (State.tryExchange_refused hx hdue hr hf href)
      rw [State.slotExchange_of_reserve hres]
      exact ⟨_, rfl, href', hnone, fun k _ => hmap k, hres.trans hr.symm⟩
    · obtain ⟨-, -, -, hres⟩ := State.refused_spec s g x.bracken (State.tryExchange_refused hx hdue hr hf href)
      rw [State.slotExchange_of_reserve hres, State.tryExchange_refused hx hdue hr hf href, hbr]
      simp only [State.swapRefused, Bool.false_eq_true, if_false]
      exact ⟨_, rfl, by simp, (((State.OnlyTuss.refl s g _).set _ (by simp)).upd _).upd _⟩
    · have htry := State.tryExchange_between hx hdue hr hf href hphase
      have hres : (s.tryExchange g).reserveOf g = s.reserveOf g := by
        rw [htry]
        split
        · rfl
        · exact State.get_inc_ne s (Fld.key_ne_of_reg (by simp [F.TSK_SWAP_DEFER_CNT, F.TSK_ARRAY_ROLE_RESERVE_PHYS]))
      rw [State.slotExchange_of_reserve hres, htry]
      cases hdef : x.deferred with
      | true =>
        have hself : x = { x with deferred := true } := by rw [← hdef]
        exact ⟨s, rfl, by rw [hx, ← hself], rfl, .refl s g _⟩
      | false =>
        simp only [Bool.false_eq_true, if_false]
        refine ⟨_, rfl, ?_, ?_, ((State.OnlyTuss.refl s g _).inc (by simp)).upd _⟩
        · simp
        · exact State.get_inc_same s _
    · obtain ⟨hmap, hmaps, hres, hls, hlf, hlt, hcnt⟩ := s.swapSlot_spec g hslot (by omega) (by omega)
      obtain ⟨u, hu⟩ : ∃ u, (s.swapSlot g x.slot).updTuss g (fun t => { t with exchange := none }) = u := ⟨_, rfl⟩
      have htry : s.tryExchange g = u.afterSwap g x.slot x.bracken := by rw [← hu]; exact State.tryExchange_done hx hdue hr hf href hphase
      obtain ⟨hexch, hfollow⟩ := s.slotExchange_follow g
      have hafter : u.Only {.tuss g, .reg .BRK_STATUS, .reg .CHN_ADM_BUDGET, .reg .TSK_ARR_STATE} (s.tryExchange g) := by
        rw [htry]
        simp
      have hget (f : Fld) (hfr : f.r = .TSK_ROLE_MAP ∨ f.r = .TSK_ARRAY_ROLE ∨ f.r = .TSK_SWAP) :
          (s.slotExchange g).get f = (s.swapSlot g x.slot).get f := by
        rw [hfollow.get (by rcases hfr with h | h | h <;> simp [h]), hafter.get (by rcases hfr with h | h | h <;> simp [h]), ← hu, State.get_updTuss]
      have hsu : s.Only ({.tuss g} ∪ Part.regs) u := by
        rw [← hu]
        simp
      have hframe : s.Only ({.tuss g, .irq} ∪ Part.regs) (s.slotExchange g) :=
        ((hsu.mono (by simp)).trans (hafter.mono (by simp))).trans (hfollow.mono (by simp))
      refine ⟨_, rfl, ?_, (hget _ (.inl rfl)).trans (hmap.trans hr.symm), fun k hk hne => (hget _ (.inl rfl)).trans (hmaps k hk hne),
        (hget _ (.inr (.inl rfl))).trans (hres.trans hf.symm), (hget _ (.inr (.inr rfl))).trans hls,
        (hget _ (.inr (.inr rfl))).trans (hlf.trans hf.symm), (hget _ (.inr (.inr rfl))).trans (hlt.trans hr.symm),
        (hget _ (.inr (.inr rfl))).trans hcnt, fun h hh => hframe.tuss (by simpa using hh), hframe.eq_mix.trans (by simp [State.mix])⟩
      rw [hexch, htry, State.afterSwap_exchange, ← hu, State.tuss_updTuss]

end Sys2Proof.Machine

namespace Sys2Proof.Machine
open Sys2Proof

/-! ### Arbitrations -/

theorem State.arbStatus_spec (s : State) (g : Nat) : (s.arbStatus g).get (F.GRS_LANE_STATUS_ARB_ACTIVE g) = natOf (s.tuss g).arb.isSome ∧
    (s.arbStatus g).get (F.GRS_LANE_STATUS_ARB_QUEUED g) = min (s.tuss g).arbQueue.length 4 ∧
    s.OnlyTuss (s.arbStatus g) g [F.GRS_LANE_STATUS_ARB_ACTIVE g, F.GRS_LANE_STATUS_ARB_QUEUED g] := by
  unfold State.arbStatus
  refine ⟨?_, ?_, ((State.OnlyTuss.refl s g _).set _ (by simp)).set _ (by simp)⟩
  · rw [State.get_set_ne _ _ (Fld.key_ne_of_lo (by simp [F.GRS_LANE_STATUS_ARB_QUEUED, F.GRS_LANE_STATUS_ARB_ACTIVE])), State.get_set_same]
    exact Nat.mod_eq_of_lt (natOf_lt_two _)
  · rw [State.get_set_same]
    exact Nat.mod_eq_of_lt (show min _ 4 < 2 ^ 3 by omega)

/-- What follows once an arbitration's outcome has been acted upon. -/
def State.arbClose (s : State) (g : Nat) (tr : Trigger) (o : Nat) : State :=
  let s := (s.inc (F.GRS_LANE_CNT_ARB_CNT g)).arbLast g tr o
  let s := s.updLane g tr.slot fun l => if tr.vecs.any (fun e => l.sample == some e) then { l with decided := true } else l
  let s := if tr.row = 1 then s.updLane g tr.slot fun l => { l with win := [] } else s
  (s.updTuss g fun t => { t with arb := none }).arbStatus g

/-- The registers that show an arbitration's end. -/
def arbFlds (g : Nat) : List Fld :=
  [F.GRS_LANE_CNT_ARB_CNT g, F.GRS_ARB_LAST_ARRAY g, F.GRS_ARB_LAST_COLUMN g, F.GRS_ARB_LAST_PARITY g, F.GRS_ARB_LAST_TRIGGER g,
    F.GRS_ARB_LAST_OUTCOME g, F.GRS_ARB_LAST_VALID g, F.GRS_LANE_STATUS_ARB_ACTIVE g, F.GRS_LANE_STATUS_ARB_QUEUED g]

theorem not_mem_arbFlds {g : Nat} {f : Fld} (hlast : f.r ≠ .GRS_ARB_LAST) (hcnt : f.r = .GRS_LANE_CNT → f.lo % 64 ≠ 24)
    (hstatus : f.r = .GRS_LANE_STATUS → f.lo % 64 ≠ 8 ∧ f.lo % 64 ≠ 9) : f.key ∉ (arbFlds g).map Fld.key := by
  intro hin
  obtain ⟨f', hf', hkey⟩ := List.mem_map.1 hin
  obtain ⟨hr, -, -, hlo⟩ := (Fld.key_iff f f').1 hkey.symm
  simp only [arbFlds, List.mem_cons, List.not_mem_nil, or_false] at hf'
  rcases hf' with rfl | rfl | rfl | rfl | rfl | rfl | rfl | rfl | rfl
  · exact hcnt hr hlo
  · exact hlast hr
  · exact hlast hr
  · exact hlast hr
  · exact hlast hr
  · exact hlast hr
  · exact hlast hr
  · exact (hstatus hr).1 hlo
  · exact (hstatus hr).2 hlo

theorem State.arbLast_spec (s : State) (g : Nat) (tr : Trigger) {o : Nat} (ho : o < 8) : (s.arbLast g tr o).get (F.GRS_ARB_LAST_VALID g) = 1 ∧
    (s.arbLast g tr o).get (F.GRS_ARB_LAST_ARRAY g) = tr.arr % 2 ^ (F.GRS_ARB_LAST_ARRAY g).w ∧
    (s.arbLast g tr o).get (F.GRS_ARB_LAST_TRIGGER g) = tr.row % 2 ^ (F.GRS_ARB_LAST_TRIGGER g).w ∧
    (s.arbLast g tr o).get (F.GRS_ARB_LAST_OUTCOME g) = o ∧ s.OnlyTuss (s.arbLast g tr o) g (arbFlds g) := by
  have hne {f f' : Fld} (h : f.lo % 64 ≠ f'.lo % 64) : f.key ≠ f'.key := Fld.key_ne_of_lo h
  unfold State.arbLast
  refine ⟨?_, ?_, ?_, ?_, ?_⟩
  · rw [State.get_set_same]
    rfl
  · rw [State.get_set_ne _ _ (hne (by simp [F.GRS_ARB_LAST_VALID, F.GRS_ARB_LAST_ARRAY])),
      State.get_set_ne _ _ (hne (by simp [F.GRS_ARB_LAST_OUTCOME, F.GRS_ARB_LAST_ARRAY])),
      State.get_set_ne _ _ (hne (by simp [F.GRS_ARB_LAST_TRIGGER, F.GRS_ARB_LAST_ARRAY])),
      State.get_set_ne _ _ (hne (by simp [F.GRS_ARB_LAST_PARITY, F.GRS_ARB_LAST_ARRAY])),
      State.get_set_ne _ _ (hne (by simp [F.GRS_ARB_LAST_COLUMN, F.GRS_ARB_LAST_ARRAY])), State.get_set_same]
  · rw [State.get_set_ne _ _ (hne (by simp [F.GRS_ARB_LAST_VALID, F.GRS_ARB_LAST_TRIGGER])),
      State.get_set_ne _ _ (hne (by simp [F.GRS_ARB_LAST_OUTCOME, F.GRS_ARB_LAST_TRIGGER])), State.get_set_same]
  · rw [State.get_set_ne _ _ (hne (by simp [F.GRS_ARB_LAST_VALID, F.GRS_ARB_LAST_OUTCOME])), State.get_set_same]
    exact Nat.mod_eq_of_lt ho
  · exact ((((((State.OnlyTuss.refl s g _).set _ (by simp [arbFlds])).set _ (by simp [arbFlds])).set _ (by simp [arbFlds])).set _
      (by simp [arbFlds])).set _ (by simp [arbFlds])).set _ (by simp [arbFlds])

theorem State.arbClose_spec (s : State) (g : Nat) (tr : Trigger) {o : Nat} (ho : o < 8) : ((s.arbClose g tr o).tuss g).arb = none ∧
    (s.arbClose g tr o).get (F.GRS_ARB_LAST_VALID g) = 1 ∧
    (s.arbClose g tr o).get (F.GRS_ARB_LAST_ARRAY g) = tr.arr % 2 ^ (F.GRS_ARB_LAST_ARRAY g).w ∧
    (s.arbClose g tr o).get (F.GRS_ARB_LAST_TRIGGER g) = tr.row % 2 ^ (F.GRS_ARB_LAST_TRIGGER g).w ∧
    (s.arbClose g tr o).get (F.GRS_ARB_LAST_OUTCOME g) = o ∧ ((s.arbClose g tr o).tuss g).arrs = (s.tuss g).arrs ∧
    s.OnlyTuss (s.arbClose g tr o) g (arbFlds g) := by
  obtain ⟨u, hu⟩ : ∃ u, s.inc (F.GRS_LANE_CNT_ARB_CNT g) = u := ⟨_, rfl⟩
  have hsu : s.OnlyTuss u g (arbFlds g) := by
    rw [← hu]
    exact (State.OnlyTuss.refl s g _).inc (by simp [arbFlds])
  have harrs : (u.tuss g).arrs = (s.tuss g).arrs := by rw [← hu, State.inc_eq, State.tuss_set]
  obtain ⟨hvalid, harray, htrig, hout, huv⟩ := u.arbLast_spec g tr ho
  obtain ⟨v, hv⟩ : ∃ v, u.arbLast g tr o = v := ⟨_, rfl⟩
  rw [hv] at hvalid harray htrig hout huv
  have hvarrs : (v.tuss g).arrs = (s.tuss g).arrs := by rw [← harrs, ← hv]; rfl
  obtain ⟨w, hw⟩ : ∃ w, (if tr.row = 1 then (v.updLane g tr.slot fun l => if tr.vecs.any (fun e => l.sample == some e) then { l with decided := true }
      else l).updLane g tr.slot fun l => { l with win := [] }
    else v.updLane g tr.slot fun l => if tr.vecs.any (fun e => l.sample == some e) then { l with decided := true } else l) = w := ⟨_, rfl⟩
  have hvw : v.OnlyTuss w g [] ∧ (w.tuss g).arrs = (s.tuss g).arrs := by
    rw [← hw]
    split
    · exact ⟨((State.OnlyTuss.refl v g _).upd _).upd _, by simp [State.updLane, hvarrs]⟩
    · exact ⟨(State.OnlyTuss.refl v g _).upd _, by simp [State.updLane, hvarrs]⟩
  have hclose : s.arbClose g tr o = (w.updTuss g fun t => { t with arb := none }).arbStatus g := by
    rw [← hw, ← hv, ← hu]
    rfl
  obtain ⟨-, -, hend⟩ := State.arbStatus_spec (w.updTuss g fun t => { t with arb := none }) g
  have hget (f : Fld) (hf : f.r ≠ .GRS_LANE_STATUS) : (s.arbClose g tr o).get f = v.get f := by
    rw [hclose, hend.2.1 f, State.get_updTuss, hvw.1.2.1 f (by simp)]
    simp only [List.map_cons, List.map_nil, List.mem_cons, List.not_mem_nil, or_false, not_or]
    exact ⟨Fld.key_ne_of_reg hf, Fld.key_ne_of_reg hf⟩
  have hgone : (s.arbClose g tr o).tuss g = { w.tuss g with arb := none } := by
    rw [hclose, State.arbStatus, State.tuss_set, State.tuss_set, State.tuss_updTuss]
  refine ⟨by rw [hgone], (hget _ (by simp [F.GRS_ARB_LAST_VALID])).trans hvalid, (hget _ (by simp [F.GRS_ARB_LAST_ARRAY])).trans harray,
    (hget _ (by simp [F.GRS_ARB_LAST_TRIGGER])).trans htrig, (hget _ (by simp [F.GRS_ARB_LAST_OUTCOME])).trans hout, by rw [hgone]; exact hvw.2, ?_⟩
  have hmono {a b : State} {fs : List Fld} (h : a.OnlyTuss b g fs) (hs : ∀ f ∈ fs, f ∈ arbFlds g) : a.OnlyTuss b g (arbFlds g) :=
    ⟨h.1, h.2.1.mono hs, h.2.2⟩
  rw [hclose]
  exact ((hsu.trans huv).trans (hmono hvw.1 (by simp))).trans
    (((State.OnlyTuss.refl w g _).upd _).trans (hmono hend (by simp [arbFlds])))

/-- A decision that has its vectors: the weights are read, the outcome acted upon, and the arbitration closed. -/
theorem State.arbDecide_eq {s u : State} {g : Nat} {x : Arb} {ws : List (Nat × List RowJob)} (hx : (s.tuss g).arb = some x)
    (hvecs : x.trig.want ≤ x.trig.vecs.length) (hws : s.weightsOf g (x.trig.vecs.flatMap Evl.members).dedup = (u, ws)) :
    s.arbDecide g = (u.settle g x.trig (u.outcome g ws x)).1.arbClose g x.trig (u.settle g x.trig (u.outcome g ws x)).2 := by
  unfold State.arbDecide
  rw [hx]
  dsimp only
  rw [if_neg (Nat.not_lt.2 hvecs), hws]
  rfl

theorem State.settle_lt (s : State) (g : Nat) (tr : Trigger) (o : Nat) : (s.settle g tr o).2 < 8 := by
  unfold State.settle
  split
  · simp
  · simp
  · dsimp only
    split <;> simp
  · simp
  · simp
  · simp

theorem State.settle_transient (s : State) (g : Nat) (tr : Trigger) : s.settle g tr 2 = if (s.transient g tr).2 then
    ((s.transient g tr).1.wrongArray g tr.arr tr.slot tr.cols tr.vecs, 3) else ((s.transient g tr).1, 2) := rfl

/-- What a retraction for an array or a Tussock may touch: what a token may, and the record of late detections. -/
def Part.retraction : Set Part := {.reg .GRS_SUSPECT_INFO, .reg .GRS_SUSPECT_TIME} ∪ Part.token

theorem State.retractTussock_only (s : State) (g since : Nat) : s.Only Part.retraction (s.retractTussock g since) := by
  unfold State.retractTussock Part.retraction
  simp

theorem State.retractArray_only (s : State) (g a since : Nat) : s.Only Part.retraction (s.retractArray g a since) := by
  unfold State.retractArray Part.retraction
  simp

/-- A wrong array is QUARANTINED, and only PERSIST_CNT of the outcome counters counts it. -/
theorem State.wrongArray_spec (s : State) (g a k : Nat) (cols : List Nat) (vecs : List Evl) :
    (s.wrongArray g a k cols vecs).arrState g a = aQUAR ∧
    (s.wrongArray g a k cols vecs).get F.GRS_ARB_CNT_TRANSIENT_CNT = s.get F.GRS_ARB_CNT_TRANSIENT_CNT := by
  obtain ⟨u, hu⟩ : ∃ u, s.inc F.GRS_ARB_CNT_PERSIST_CNT = u := ⟨_, rfl⟩
  obtain ⟨v, hv⟩ : ∃ v, u.retractArray g a (u.suspectStart g a k cols) = v := ⟨_, rfl⟩
  have huv : u.Only Part.retraction v := hv ▸ State.retractArray_only ..
  have hstate : (v.setArrState g a aQUAR).arrState g a = aQUAR := by
    have hquar : v.setArrState g a aQUAR =
        ((v.set (F.TSK_ARR_STATE_STATE g a) aQUAR).brkInPlace g).updArr g a fun r => { r with out := true } := rfl
    rw [hquar, State.arrState, State.updArr, State.get_updTuss, State.brkInPlace,
      State.get_set_ne _ _ (Fld.key_ne_of_reg (by simp [F.BRK_STATUS_IN_PLACE, F.TSK_ARR_STATE_STATE])), State.get_set_same]
    rfl
  unfold State.wrongArray
  dsimp only
  rw [hu, hv]
  refine ⟨hstate, ?_⟩
  rw [State.get_updTuss, State.get_setArrState_ne _ _ _ _ (by simp [emptyFlds, Fld.key_iff, F.GRS_ARB_CNT_TRANSIENT_CNT, F.BRK_STATUS_IN_PLACE,
    F.TSK_ARR_STATE_STATE, F.TSK_ARR_STATE_CONTEXT]), huv.get (by simp [Part.retraction, F.GRS_ARB_CNT_TRANSIENT_CNT]), ← hu,
    State.get_inc_ne _ (by decide)]

theorem State.transient_cnt (s : State) (g : Nat) (tr : Trigger) : (s.transient g tr).1.get F.GRS_ARB_CNT_TRANSIENT_CNT =
    min (s.get F.GRS_ARB_CNT_TRANSIENT_CNT + 1) (2 ^ F.GRS_ARB_CNT_TRANSIENT_CNT.w - 1) := by
  have hretract : (s.inc F.GRS_ARB_CNT_TRANSIENT_CNT).Only Part.token
      ((s.inc F.GRS_ARB_CNT_TRANSIENT_CNT).retractJobs (tr.vecs.filterMap Evl.job).dedup) := by simp
  exact (hretract.get (by simp [F.GRS_ARB_CNT_TRANSIENT_CNT])).trans (State.get_inc_same s _)

theorem State.digError_sets (s : State) (g : Nat) : (s.digError g).get (F.GRS_LANE_STATUS_DIG_ERR g) = 1 := by
  obtain ⟨u, hu⟩ : ∃ u, (s.incBy (F.GRS_LANE_CNT_DIG_CNT g) 1).set (F.GRS_LANE_STATUS_DIG_ERR g) 1 = u := ⟨_, rfl⟩
  have hset : u.get (F.GRS_LANE_STATUS_DIG_ERR g) = 1 := by
    rw [← hu, State.get_set_same]
    rfl
  obtain ⟨v, hv⟩ : ∃ v, (u.updTuss g fun t => { t with digFail := some u.swath }) = v := ⟨_, rfl⟩
  have hvset : v.get (F.GRS_LANE_STATUS_DIG_ERR g) = 1 := by rw [← hv, State.get_updTuss, hset]
  have hend (again : Bool) : (if again then v.gorseQuarantine g else v).get (F.GRS_LANE_STATUS_DIG_ERR g) = 1 := by
    cases again with
    | false => exact hvset
    | true =>
      have hquar : v.Only ({.tuss g, .reg .GRS_ARB_CNT, .reg .GRS_STATUS, .reg .TSK_QUAR_CAUSE} ∪ Part.event) (v.gorseQuarantine g) := by simp
      exact (hquar.get (by simp [F.GRS_LANE_STATUS_DIG_ERR])).trans hvset
  unfold State.digError State.digErrors
  simp only [Nat.one_ne_zero, if_false, hu, hv]
  exact hend _

/-- The cause GORSE arises. -/
theorem State.gorseQuarantine_cause (s : State) (g : Nat) : bitOf ((s.gorseQuarantine g).get (F.TSK_QUAR_CAUSE_CAUSE g)) 1 = true := by
  obtain ⟨u, hu⟩ : ∃ u, s.raiseCause g 1 = u := ⟨_, rfl⟩
  have hcause : bitOf (u.get (F.TSK_QUAR_CAUSE_CAUSE g)) 1 = true := by
    have hbit := s.bit_setBit (F.TSK_QUAR_CAUSE_CAUSE g) 1 1 (show 1 < (F.TSK_QUAR_CAUSE_CAUSE g).w by simp [F.TSK_QUAR_CAUSE_CAUSE])
    rw [← hu, State.raiseCause]
    split
    · simpa using hbit
    · simpa using hbit
  have hrest : u.Only ({.reg .GRS_ARB_CNT, .reg .GRS_STATUS} ∪ Part.event) (s.gorseQuarantine g) := by
    rw [← hu]
    unfold State.gorseQuarantine
    simp [F.GRS_STATUS_QUARANTINE, F.GRS_ARB_CNT_QUAR_CNT]
  rw [hrest.get (by simp [F.TSK_QUAR_CAUSE_CAUSE])]
  exact hcause

/-- Settles O27: the oldest queued trigger is arbitrated, and its outcome is recorded and acted upon. -/
theorem arbitrationsStartAndDecide : Obligations.ArbitrationsStartAndDecide := by
  unfold Obligations.ArbitrationsStartAndDecide
  refine ⟨?start, ?idle, ?wait, ?decide⟩
  case start =>
    intro g s tr rest hon hgorse hnone hqueue
    have hstart : s.arbStart g = (s.updTuss g fun t => { t with arb := some { trig := tr }, arbQueue := rest }).arbStatus g := by
      unfold State.arbStart
      dsimp only
      rw [hnone, hqueue]
    obtain ⟨hactive, hqueued, hframe⟩ := State.arbStatus_spec (s.updTuss g fun t => { t with arb := some { trig := tr }, arbQueue := rest }) g
    refine ⟨_, rfl, ?_⟩
    simp only [State.ifGorse, hon, hgorse, Bool.not_false, Bool.and_true, if_true, hstart]
    exact ⟨by simp [State.arbStatus], by simp [State.arbStatus], by rw [hactive]; simp [natOf], by rw [hqueued]; simp,
      ((State.OnlyTuss.refl s g _).upd _).trans hframe⟩
  case idle =>
    intro g s hidle
    have hstay : s.arbStart g = s := by
      unfold State.arbStart
      dsimp only
      split
      · rename_i tr rest hnone hqueue
        rcases hidle with h | h
        · exact absurd hnone h
        · rw [h] at hqueue
          exact List.noConfusion rfl (heq_of_eq hqueue)
      · rfl
    simp only [exec, execArbitrationStart, State.ifGorse, hstay, ite_self]
  case wait =>
    intro g s hwant
    have hstay : s.arbDecide g = s := by
      unfold State.arbDecide
      split
      · rfl
      · rename_i x hx
        exact if_pos (hwant x hx)
    simp only [exec, execArbitrationDecide, State.ifGorse, hstay, ite_self]
  case decide =>
    intro g s u x ws hon hgorse hx hvecs hws
    obtain ⟨v, hv⟩ : ∃ v, (u.settle g x.trig (u.outcome g ws x)).1 = v := ⟨_, rfl⟩
    obtain ⟨o, ho⟩ : ∃ o, (u.settle g x.trig (u.outcome g ws x)).2 = o := ⟨_, rfl⟩
    have hexec : exec (.arbitrationDecide g) s = .next (v.arbClose g x.trig o) := by
      simp only [exec, execArbitrationDecide, State.ifGorse, hon, hgorse, Bool.not_false, Bool.and_true, if_true,
        State.arbDecide_eq hx hvecs hws, hv, ho]
    have hlt : o < 8 := ho ▸ State.settle_lt ..
    obtain ⟨hgone, hvalid, harray, htrig, hout, harrs, hframe⟩ := v.arbClose_spec g x.trig hlt
    refine ⟨_, hexec, hgone, hvalid, harray, htrig, fun hcase => ?_, fun hcase => ?_, fun hcase => ?_, fun hcase => ?_, fun hcase => ?_,
      fun hcase => ?_⟩
    all_goals rw [hcase] at hv ho
    · have hv0 : v = u.inc F.GRS_EVT_CNT_FALSE_CNT := hv.symm
      refine ⟨hout.trans ho.symm, ?_, ?_⟩
      · rw [hframe.2.1 _ (not_mem_arbFlds (by simp [F.GRS_EVT_CNT_FALSE_CNT]) (by simp [F.GRS_EVT_CNT_FALSE_CNT]) (by simp [F.GRS_EVT_CNT_FALSE_CNT])), hv0, State.get_inc_same]
      · have huv : u.OnlyTuss v g (F.GRS_EVT_CNT_FALSE_CNT :: arbFlds g) := by
          rw [hv0]
          exact (State.OnlyTuss.refl u g _).inc (by simp)
        exact huv.trans ⟨hframe.1, hframe.2.1.mono (fun f hf => List.mem_cons_of_mem _ hf), hframe.2.2⟩
    · have hv1 : v = ((u.inc F.GRS_ARB_CNT_CSUM_CNT).set (F.GRS_LANE_STATUS_CSUM_REFRESH g) 1).updArr g x.trig.arr fun r =>
        { r with refresh := 513 } := hv.symm
      refine ⟨hout.trans ho.symm, ?_, ?_⟩
      · rw [hframe.2.1 _ (not_mem_arbFlds (by simp [F.GRS_LANE_STATUS_CSUM_REFRESH]) (by simp [F.GRS_LANE_STATUS_CSUM_REFRESH]) (by simp [F.GRS_LANE_STATUS_CSUM_REFRESH])), hv1, State.updArr, State.get_updTuss, State.get_set_same]
        rfl
      · rw [State.arr, harrs, hv1]
        simp [State.updArr]
    · refine ⟨?_, ?_⟩
      · rw [hout, ← ho]
        rw [State.settle_transient]
        split
        · exact .inr rfl
        · exact .inl rfl
      · rw [hframe.2.1 _ (not_mem_arbFlds (by simp [F.GRS_ARB_CNT_TRANSIENT_CNT]) (by simp [F.GRS_ARB_CNT_TRANSIENT_CNT]) (by simp [F.GRS_ARB_CNT_TRANSIENT_CNT])), ← hv]
        rw [State.settle_transient]
        split
        · exact (State.wrongArray_spec ..).2.trans (u.transient_cnt g x.trig)
        · exact u.transient_cnt g x.trig
    · refine ⟨hout.trans ho.symm, ?_⟩
      have hquar : v.arrState g x.trig.arr = aQUAR := hv ▸ (State.wrongArray_spec ..).1
      exact (hframe.2.1 _ (not_mem_arbFlds (by simp [F.TSK_ARR_STATE_STATE]) (by simp [F.TSK_ARR_STATE_STATE]) (by simp [F.TSK_ARR_STATE_STATE]))).trans hquar
    · refine ⟨hout.trans ho.symm, ?_⟩
      have hdig : v.get (F.GRS_LANE_STATUS_DIG_ERR g) = 1 := hv ▸ u.digError_sets g
      exact (hframe.2.1 _ (not_mem_arbFlds (by simp [F.GRS_LANE_STATUS_DIG_ERR]) (by simp [F.GRS_LANE_STATUS_DIG_ERR]) (by simp [F.GRS_LANE_STATUS_DIG_ERR]))).trans hdig
    · refine ⟨hout.trans ho.symm, ?_⟩
      have hretract : (u.gorseQuarantine g).Only Part.retraction v := hv ▸ State.retractTussock_only ..
      have hcause := u.gorseQuarantine_cause g
      rw [hframe.2.1 _ (not_mem_arbFlds (by simp [F.TSK_QUAR_CAUSE_CAUSE]) (by simp [F.TSK_QUAR_CAUSE_CAUSE]) (by simp [F.TSK_QUAR_CAUSE_CAUSE])), hretract.get (by simp [Part.retraction, F.TSK_QUAR_CAUSE_CAUSE])]
      exact hcause

end Sys2Proof.Machine

namespace Sys2Proof.Machine
open Sys2Proof

/-! ### Events that stand -/

/-- Every event that stands in `s` stands in `t`. -/
def State.EventsKept (s t : State) : Prop := ∀ b, b < 47 → s.event b = true → t.event b = true

theorem State.EventsKept.refl (s : State) : s.EventsKept s := fun _ _ h => h

theorem State.EventsKept.trans {s t u : State} (h : s.EventsKept t) (k : t.EventsKept u) : s.EventsKept u :=
  fun b hb he => k b hb (h b hb he)

theorem State.Only.eventsKept {s t : State} {ps : Set Part} (h : s.Only ps t) (hlo : .reg .GLB_IRQ_EVENT_LO ∉ ps)
    (hhi : .reg .GLB_IRQ_EVENT_HI ∉ ps) : s.EventsKept t := fun b _ he => (State.event_of_only h hlo hhi b).trans he

theorem State.eventsKept_signal (s : State) (v : Nat) : s.EventsKept (s.signal v) := fun b hb he => by
  rw [State.event_signal hb, he, Bool.true_or]

theorem State.eventsKept_addressFault (s : State) (who : Accessor) (wr : Bool) (a : Nat) (u : Bool) : s.EventsKept (s.addressFault who wr a u) := by
  unfold State.addressFault
  dsimp only
  refine State.EventsKept.trans (State.Only.eventsKept (ps := {.reg .GLB_RGN_FAULT_INFO, .reg .GLB_RGN_FAULT_ADDR}) ?_ (by simp) (by simp))
    (State.eventsKept_signal _ 46)
  split <;> simp [F.GLB_RGN_FAULT_INFO_FAULT_CNT, F.GLB_RGN_FAULT_ADDR_ADDR, F.GLB_RGN_FAULT_INFO_VALID, F.GLB_RGN_FAULT_INFO_WRITE,
    F.GLB_RGN_FAULT_INFO_AGENT, F.GLB_RGN_FAULT_INFO_CHANNEL, F.GLB_RGN_FAULT_INFO_UNMAPPED]

theorem State.eventsKept_engWrite (s : State) (n a : Nat) (bytes : List Byte) : s.EventsKept (s.engWrite n a bytes) := by
  unfold State.engWrite
  split
  · exact s.eventsKept_addressFault _ _ _ _
  · have h : s.Only Part.merge (s.mergeWrite a bytes) := by simp
    exact h.eventsKept (by simp) (by simp)

theorem State.eventsKept_writeRecord (s : State) (j : Job) (state tToken : Nat) : s.EventsKept (s.writeRecord j state tToken) := by
  have hseen : s.Only {.boot} (s.recordSeen j state) := by simp
  have hkept := hseen.eventsKept (by simp) (by simp)
  unfold State.writeRecord
  dsimp only
  split
  · exact .refl s
  · split
    · exact hkept.trans (State.eventsKept_engWrite _ _ _ _)
    · exact hkept.trans (State.eventsKept_engWrite _ _ _ _)

/-- A token lets every event stand, and sets of GRS_STATUS COMMIT_RETRACT alone. -/
theorem State.token_keeps (s : State) (id : Nat) (confirm : Bool) : s.EventsKept (s.token id confirm) ∧
    ∀ f : Fld, f.r = .GRS_STATUS → f.key ≠ F.GRS_STATUS_COMMIT_RETRACT.key → (s.token id confirm).get f = s.get f := by
  unfold State.token
  split
  · exact ⟨.refl s, fun _ _ _ => rfl⟩
  · rename_i j _
    split
    · exact ⟨.refl s, fun _ _ _ => rfl⟩
    · dsimp only
      obtain ⟨u, hu⟩ : ∃ u, s.writeRecord j (if confirm then 2 else 3) s.time = u := ⟨_, rfl⟩
      obtain ⟨v, hv⟩ : ∃ v, j.leaNodes.foldl (fun s d => s.msgSend (if confirm then 1 else 2) d j.ref []) (u.slotWait j false) = v := ⟨_, rfl⟩
      obtain ⟨w, hw⟩ : ∃ w, (if (confirm || v.cplLost j.ek) = true then v else v.signal (16 + j.chan)) = w := ⟨_, rfl⟩
      obtain ⟨x, hx⟩ : ∃ x, (if (!confirm && (j.committed || j.legacy)) = true then w.commitRetract else w) = x := ⟨_, rfl⟩
      rw [hu, hv, hw, hx]
      have hsu : s.Only ({.boot} ∪ Part.gwrite) u := by
        rw [← hu]
        simp
      have huv : u.Only {.engines, .leas, .reg .LEA_STATUS, .reg .LEA_CTRL_STAT} v := by
        rw [← hv]
        simp (disch := simp (disch := simp))
      have hvw : v.EventsKept w ∧ ∀ f : Fld, f.r = .GRS_STATUS → w.get f = v.get f := by
        rw [← hw]
        split
        · exact ⟨.refl v, fun _ _ => rfl⟩
        · exact ⟨v.eventsKept_signal _, fun f hf => State.get_signal _ _ (by simp [hf]) (by simp [hf])⟩
      have hwx : w.EventsKept x ∧ ∀ f : Fld, f.r = .GRS_STATUS → f.key ≠ F.GRS_STATUS_COMMIT_RETRACT.key → x.get f = w.get f := by
        rw [← hx]
        split
        · obtain ⟨hkept, hregs⟩ := w.commitRetract_spec
          refine ⟨hkept, fun f hf hne => hregs f ?_⟩
          have h1 : f.key ≠ F.GRS_EVT_CNT_COMMIT_RETRACT_CNT.key := Fld.key_ne_of_reg (by simp [hf, F.GRS_EVT_CNT_COMMIT_RETRACT_CNT])
          have h2 (f' : Fld) (hf' : f' ∈ eventFlds) : f.key ≠ f'.key := by
            refine Fld.key_ne_of_reg ?_
            rcases (by simpa [eventFlds] using hf' : f' = _ ∨ f' = _) with rfl | rfl <;> simp [hf, F.GLB_IRQ_EVENT_LO_EVENT, F.GLB_IRQ_EVENT_HI_EVENT]
          simp only [List.map_cons, List.mem_cons, not_or]
          refine ⟨h1, hne, fun hin => ?_⟩
          obtain ⟨f', hf', hkey⟩ := List.mem_map.1 hin
          exact h2 f' hf' hkey.symm
        · exact ⟨.refl w, fun _ _ _ => rfl⟩
      have hend : x.Only ({.areas, .commits, .jobs, .prods, .provs, .leas, .reg .GRS_PROV, .reg .LEA_STATUS, .reg .LEA_CTRL_STAT, .reg .CHN_TAGS,
          .reg .CHN_ENG_STATUS} ∪ Part.tusss) ((x.resolveProvs (fun p => p.job == id && p.origin.isNone) (!confirm)).dropJob id confirm) := by
        simp
      refine ⟨(hu ▸ s.eventsKept_writeRecord j _ _).trans ((huv.eventsKept (by simp) (by simp)).trans (hvw.1.trans (hwx.1.trans
        (hend.eventsKept (by simp) (by simp))))), fun f hf hne => ?_⟩
      rw [hend.get (by simp [hf]), hwx.2 f hf hne, hvw.2 f hf, huv.get (by simp [hf]), hsu.get (by simp [hf])]

theorem State.retractJobs_keeps (ids : List Nat) (s : State) : s.EventsKept (s.retractJobs ids) ∧
    ∀ f : Fld, f.r = .GRS_STATUS → f.key ≠ F.GRS_STATUS_COMMIT_RETRACT.key → (s.retractJobs ids).get f = s.get f := by
  have hone (u : State) (id : Nat) : u.EventsKept (u.retractJob id) ∧
      ∀ f : Fld, f.r = .GRS_STATUS → f.key ≠ F.GRS_STATUS_COMMIT_RETRACT.key → (u.retractJob id).get f = u.get f := by
    unfold State.retractJob
    split
    · exact ⟨.refl u, fun _ _ _ => rfl⟩
    · split
      · exact u.token_keeps id false
      · exact ⟨fun _ _ h => h, fun _ _ _ => rfl⟩
  unfold State.retractJobs
  induction ids generalizing s with
  | nil => exact ⟨.refl s, fun _ _ _ => rfl⟩
  | cons id ids ih =>
    obtain ⟨hev, hget⟩ := ih (s.retractJob id)
    exact ⟨(hone s id).1.trans hev, fun f hf hne => (hget f hf hne).trans ((hone s id).2 f hf hne)⟩

/-! ### Replica groups -/

theorem State.ctx_updCtx (s : State) (c : Nat) (f : Ctx64 → Ctx64) : (s.updCtx c f).ctx c = f (s.ctx c) ∧
    ∀ d, d ≠ c → (s.updCtx c f).ctx d = s.ctx d :=
  ⟨by simp [State.ctx, State.updCtx], fun d hd => by simp [State.ctx, State.updCtx, Tab.get_set_ne _ _ _ (Ne.symm hd)]⟩

theorem State.Only.ctx_eq {s t : State} {ps : Set Part} (h : s.Only ps t) (hp : .ctxs ∉ ps) (c : Nat) : t.ctx c = s.ctx c := by
  rw [State.ctx, h.same .ctxs hp, ← State.ctx]

/-- The digest of a context with an image names the period that runs. -/
theorem State.periodOf_digestBytes {s : State} {c : Nat} (himg : (s.image (s.get (F.GLB_CTX_PTR_PTR c))).isSome = true) (hlt : s.swath < 2 ^ 64)
    (hper : s.swath % s.repPeriod = 0) : periodOf (s.digestBytes c) = s.swath := by
  obtain ⟨i, hi⟩ := Option.isSome_iff_exists.1 himg
  have hboundary : s.swath / s.repPeriod * s.repPeriod = s.swath := by
    rw [Nat.mul_comm]
    exact Nat.mul_div_cancel' (Nat.dvd_of_mod_eq_zero hper)
  simp only [periodOf, State.digestBytes, hi, hboundary, List.append_assoc]
  rw [← List.append_assoc, ← List.append_assoc, List.drop_left' (by simp [length_leBytes]), List.take_left' (by simp [length_leBytes]),
    leNat_leBytes (by simpa using hlt)]

theorem State.digestSend_idle {s : State} {c : Nat} (h : s.repCompared c = false ∨ s.get (F.GLB_CTX_STATE_STATE c) ≠ 1 ∨ s.swath % s.repPeriod ≠ 0 ∨
    ∃ p ∈ (s.ctx c).digests, p.1 = s.swath * 8 + s.get F.GRS_REP_CFG_SELF) : s.digestSend c = s := by
  unfold State.digestSend
  rw [if_pos]
  rcases h with h | h | h | ⟨p, hp, h⟩
  · simp [h]
  · simp [h]
  · simp [h]
  · have hany : (s.ctx c).digests.any (fun p => p.1 == s.swath * 8 + s.get F.GRS_REP_CFG_SELF) = true :=
      List.any_eq_true.2 ⟨p, hp, by simp [h]⟩
    simp [hany]

section
variable {s : State} {c : Nat} (hcmp : s.repCompared c = true) (hready : s.get (F.GLB_CTX_STATE_STATE c) = 1) (hper : s.swath % s.repPeriod = 0)
  (hnew : ∀ p ∈ (s.ctx c).digests, p.1 ≠ s.swath * 8 + s.get F.GRS_REP_CFG_SELF)
include hcmp hready hper hnew

theorem State.digestSend_due : ∃ ms : List Nat, s.digestSend c = if !s.repSelf then s.set F.LEA_STATUS_NODE_MISMATCH 1
    else ms.foldl (fun u m => u.msgSend 4 m 0 (s.digestBytes c)) (s.report c (s.get F.GRS_REP_CFG_SELF) (s.digestBytes c)) := by
  have hany : (s.ctx c).digests.any (fun p => p.1 == s.swath * 8 + s.get F.GRS_REP_CFG_SELF) = false := by
    simpa using hnew
  have hcond : (!s.repCompared c || s.get (F.GLB_CTX_STATE_STATE c) != 1 || s.swath % s.repPeriod != 0 ||
      (s.ctx c).digests.any (fun p => p.1 == s.swath * 8 + s.get F.GRS_REP_CFG_SELF)) = false := by
    simp [hcmp, hready, hper, hany]
  unfold State.digestSend
  rw [hcond, if_neg Bool.false_ne_true]
  exact ⟨_, rfl⟩

theorem State.digestSend_reports (hself : s.repSelf = true) (himg : (s.image (s.get (F.GLB_CTX_PTR_PTR c))).isSome = true) (hlt : s.swath < 2 ^ 64) :
    Tab.get (fun _ => (0, 0)) ((s.digestSend c).ctx c).digests (s.swath * 8 + s.get F.GRS_REP_CFG_SELF) = reportOf (s.digestBytes c) ∧
    (s.digestSend c).tusss = s.tusss ∧ (s.digestSend c).mem = s.mem ∧ ∀ d, d ≠ c → (s.digestSend c).ctx d = s.ctx d := by
  obtain ⟨u, hu⟩ : ∃ u, s.report c (s.get F.GRS_REP_CFG_SELF) (s.digestBytes c) = u := ⟨_, rfl⟩
  obtain ⟨ms, hsend⟩ := State.digestSend_due hcmp hready hper hnew
  rw [hself, Bool.not_true, if_neg Bool.false_ne_true, hu] at hsend
  have hreport := hu
  rw [State.report, State.periodOf_digestBytes himg hlt hper, if_neg (by omega)] at hreport
  obtain ⟨hctx, hctxs⟩ := s.ctx_updCtx c fun x =>
    { x with digests := Tab.set (fun _ => (0, 0)) x.digests (s.swath * 8 + s.get F.GRS_REP_CFG_SELF) (reportOf (s.digestBytes c)) }
  rw [hreport] at hctx hctxs
  have hsu : s.Only {.ctxs} u := by
    rw [← hu]
    simp
  have hmsgs : u.Only {.leas, .reg .LEA_STATUS, .reg .LEA_CTRL_STAT} (s.digestSend c) := by
    rw [hsend]
    simp (disch := simp (disch := simp))
  refine ⟨?_, (hmsgs.tusss (by simp)).trans (hsu.tusss (by simp)), (hmsgs.mem_eq (by simp)).trans (hsu.mem_eq (by simp)), fun d hd => ?_⟩
  · rw [hmsgs.ctx_eq (by simp), hctx]
    exact Tab.get_set_same _ _ _ _
  · rw [hmsgs.ctx_eq (by simp), hctxs d hd]

end

/-- A context that is expelled: EXPELLED, the status and its event. -/
theorem State.expel_spec (s : State) {c : Nat} (hc : c < 64) : bitOf ((s.expel c).get F.GRS_REP_EXPELLED_EXPELLED) c = true ∧
    (s.expel c).get F.GRS_STATUS_EXPEL = 1 ∧ (s.expel c).event 28 = true ∧
    (s.expel c).get F.GRS_REP_STATUS_EXPEL_CNT = min (s.get F.GRS_REP_STATUS_EXPEL_CNT + 1) (2 ^ F.GRS_REP_STATUS_EXPEL_CNT.w - 1) := by
  obtain ⟨a, ha⟩ : ∃ a, s.setBit F.GRS_REP_EXPELLED_EXPELLED c = a := ⟨_, rfl⟩
  obtain ⟨u, hu⟩ : ∃ u, (a.set F.GRS_STATUS_EXPEL 1).inc F.GRS_REP_STATUS_EXPEL_CNT = u := ⟨_, rfl⟩
  obtain ⟨v, hv⟩ : ∃ v, (if (s.ctx c).probation then u.inc F.GRS_REP_STATUS_PROBATION_FAIL_CNT else u) = v := ⟨_, rfl⟩
  obtain ⟨w, hw⟩ : ∃ w, (v.updCtx c fun x => { x with probation := false }).signal 28 = w := ⟨_, rfl⟩
  have hexpel : s.expel c = w.retractJobs ((w.jobs.filter fun j => bitOf (j.hdr.getD 3 0) 6 && tfld j.hdr 3 0 6 == c).map Job.id) := by
    rw [← hw, ← hv, ← hu, ← ha]
    rfl
  obtain ⟨hkept, hstatus⟩ := w.retractJobs_keeps ((w.jobs.filter fun j => bitOf (j.hdr.getD 3 0) 6 && tfld j.hdr 3 0 6 == c).map Job.id)
  have hretract : w.Only Part.token (s.expel c) := by
    rw [hexpel]
    simp
  have hvw : v.Only ({.ctxs} ∪ Part.event) w := by
    rw [← hw]
    simp
  have hmid (f : Fld) (hne : f.key ≠ F.GRS_REP_STATUS_PROBATION_FAIL_CNT.key) (hr : .reg f.r ∉ ({.ctxs} ∪ Part.event : Set Part)) :
      w.get f = u.get f := by
    rw [hvw.get hr, ← hv]
    split
    · exact State.get_inc_ne _ (Ne.symm hne)
    · rfl
  refine ⟨?_, ?_, ?_, ?_⟩
  · rw [hretract.get (by simp [F.GRS_REP_EXPELLED_EXPELLED]), hmid _ (by decide) (by simp [F.GRS_REP_EXPELLED_EXPELLED]), ← hu,
      State.get_inc_ne _ (by decide), State.get_set_ne _ _ (by decide), ← ha, State.bit_setBit _ _ _ _ hc]
    simp
  · rw [hexpel, hstatus _ rfl (by decide), hmid _ (by decide) (by simp [F.GRS_STATUS_EXPEL]), ← hu, State.get_inc_ne _ (by decide), State.get_set_same]
    rfl
  · rw [hexpel]
    refine hkept 28 (by decide) ?_
    rw [← hw, State.event_signal (by decide)]
    simp
  · rw [hretract.get (by simp [F.GRS_REP_STATUS_EXPEL_CNT]), hmid _ (by decide) (by simp [F.GRS_REP_STATUS_EXPEL_CNT]), ← hu,
      State.get_inc_same, State.get_set_ne _ _ (by decide), ← ha, State.get_setBit_ne _ _ (by decide)]

/-- The reports of a period that count in its decision: those of the current image, from members (R327). -/
def State.countedReports (s : State) (c w : Nat) : List (Nat × Nat) :=
  ((s.ctx c).digests.filter fun p => p.1 / 8 == w && p.2.1 == s.get (F.GLB_CTX_TID_CUR_TID c) &&
    bitOf (s.get F.GRS_REP_CFG_MEMBERS) (p.1 % 8)).map (fun p => (p.1 % 8, p.2.2))

/-- The state in which the reports of a period and of earlier ones are used up. -/
def State.periodOver (s : State) (c w : Nat) : State :=
  s.updCtx c fun x => { x with digests := x.digests.filter (fun p => decide (w < p.1 / 8)), decided := w + 1 }

/-- What a decision does with the reports that count, this member's own among them (R328). -/
def State.verdict (s : State) (c : Nat) (counted : List (Nat × Nat)) (mine : Option Nat) : State :=
  match mine with
  | none => s.inc F.GRS_REP_STATUS_FEW_CNT
  | some v =>
    if counted.length < 3 then s.inc F.GRS_REP_STATUS_FEW_CNT
    else
      match counted.find? fun p => decide (counted.length < 2 * (counted.filter fun q => q.2 == p.2).length) with
      | none => s.inc F.GRS_REP_STATUS_NO_MAJ_CNT
      | some p => if p.2 = v then s.updCtx c fun x => { x with probation := false } else s.expel c

theorem State.replicaDecision_due {s : State} {c w : Nat} (hcmp : s.repCompared c = true) (hself : s.repSelf = true)
    (hw : s.swath = w + 16) (hper : w % s.repPeriod = 0) (hnew : (s.ctx c).decided ≠ w + 1) :
    s.replicaDecision c = (s.periodOver c w).verdict c (s.countedReports c w)
      (((s.countedReports c w).find? fun p => p.1 == s.get F.GRS_REP_CFG_SELF).map Prod.snd) := by
  have hback : s.swath - 16 = w := by omega
  have hcond : (!s.repCompared c || !s.repSelf || decide (s.swath < 16) || w % s.repPeriod != 0 || (s.ctx c).decided == w + 1) = false := by
    simp [hcmp, hself, hper, hnew, hw]
  unfold State.replicaDecision
  dsimp only
  rw [hback, hcond, if_neg Bool.false_ne_true]
  rfl

theorem State.verdict_few {s : State} {c : Nat} {counted : List (Nat × Nat)} {mine : Option Nat} (h : mine = none ∨ counted.length < 3) :
    s.verdict c counted mine = s.inc F.GRS_REP_STATUS_FEW_CNT := by
  unfold State.verdict
  split
  · rfl
  · rcases h with h | h
    · exact Option.noConfusion rfl (heq_of_eq h)
    · rw [if_pos h]

theorem State.verdict_of_three {s : State} {c v : Nat} {counted : List (Nat × Nat)} (h : 3 ≤ counted.length) :
    (counted.find? (fun p => decide (counted.length < 2 * (counted.filter fun q => q.2 == p.2).length)) = none →
      s.verdict c counted (some v) = s.inc F.GRS_REP_STATUS_NO_MAJ_CNT) ∧
    ∀ p, counted.find? (fun p => decide (counted.length < 2 * (counted.filter fun q => q.2 == p.2).length)) = some p →
      s.verdict c counted (some v) = if p.2 = v then s.updCtx c fun x => { x with probation := false } else s.expel c := by
  unfold State.verdict
  dsimp only
  rw [if_neg (Nat.not_lt.2 h)]
  refine ⟨fun hnone => ?_, fun p hp => ?_⟩
  · rw [hnone]
  · rw [hp]

/-- Settles O30: a member reports at its periods' boundaries, is judged by the majority, and is readmitted by a write. -/
theorem replicasReportDecideAndReadmit : Obligations.ReplicasReportDecideAndReadmit := by
  unfold Obligations.ReplicasReportDecideAndReadmit
  refine ⟨?report, ?silent, ?decide, ?readmit⟩
  case report =>
    intro c s hcmp hready hper hnew
    refine ⟨fun hself => ?_, fun hself himg hlt => ⟨_, rfl, State.digestSend_reports hcmp hready hper hnew hself himg hlt⟩⟩
    obtain ⟨ms, hsend⟩ := State.digestSend_due hcmp hready hper hnew
    rw [hself, Bool.not_false, if_pos rfl] at hsend
    refine ⟨_, congrArg Host.Outcome.next hsend, ?_, (State.OnlyRegs.refl s _).set _ (by simp)⟩
    rw [State.get_set_same]
    rfl
  case silent =>
    intro c s h
    exact congrArg Host.Outcome.next (State.digestSend_idle h)
  case decide =>
    intro c s w counted left hcmp hself hw hper hnew hcounted hleft mine major
    have hdue := State.replicaDecision_due hcmp hself hw hper hnew
    have hcount : s.countedReports c w = counted := hcounted.symm
    rw [hcount] at hdue
    obtain ⟨u, hu⟩ : ∃ u, s.periodOver c w = u := ⟨_, rfl⟩
    rw [hu] at hdue
    have hsu : s.Only {.ctxs} u := by
      rw [← hu]
      unfold State.periodOver
      simp
    have hctx : u.ctx c = { s.ctx c with digests := left, decided := w + 1 } := by
      rw [← hu, hleft]
      exact (s.ctx_updCtx c _).1
    have hcounter (f : Fld) (hexec : s.replicaDecision c = u.inc f) :
        (s.replicaDecision c).get f = min (s.get f + 1) (2 ^ f.w - 1) ∧ s.replicaDecision c =
          { s with regs := (s.replicaDecision c).regs, ctxs := (s.replicaDecision c).ctxs } ∧ s.RegsBut (s.replicaDecision c) [f] ∧
        ((s.replicaDecision c).ctx c).digests = left := by
      have hinc : u.Only {.reg f.r} (u.inc f) := by simp
      have hframe : s.Only {.ctxs, .reg f.r} (u.inc f) := (hsu.mono (by simp)).trans (hinc.mono (by simp))
      rw [hexec]
      refine ⟨?_, hframe.eq_mix.trans (by simp [State.mix]), fun f' hf' => ?_, ?_⟩
      · rw [State.get_inc_same, hsu.get (by simp)]
      · rw [State.get_inc_ne _ (Ne.symm (by simpa using hf')), hsu.get (by simp)]
      · rw [hinc.ctx_eq (by simp), hctx]
    refine ⟨fun hfew => ?_, fun hmine hthree hmajor => ?_, fun v p hmine hthree hmajor hv => ?_, fun v p hmine hthree hmajor hv => ?_⟩
    · obtain ⟨hget, hstate, hregs, hdig⟩ := hcounter F.GRS_REP_STATUS_FEW_CNT (hdue.trans (State.verdict_few hfew))
      exact ⟨_, rfl, hdig, hget, hstate, hregs⟩
    · obtain ⟨v, hv⟩ := Option.ne_none_iff_exists'.1 hmine
      have hverdict := (State.verdict_of_three (s := u) (c := c) (v := v) hthree).1 hmajor
      obtain ⟨hget, hstate, hregs, -⟩ := hcounter F.GRS_REP_STATUS_NO_MAJ_CNT (hdue.trans ((congrArg _ hv).trans hverdict))
      exact ⟨_, rfl, hget, hstate, hregs⟩
    · have hverdict := (State.verdict_of_three (s := u) (c := c) (v := v) hthree).2 p hmajor
      rw [if_pos hv] at hverdict
      have hexec := hdue.trans ((congrArg _ hmine).trans hverdict)
      refine ⟨_, congrArg Host.Outcome.next hexec, ?_, ?_, ?_, ?_⟩
      · rw [(u.ctx_updCtx c _).1]
      · rw [(u.ctx_updCtx c _).1, hctx]
      · rw [(u.ctx_updCtx c _).1, hctx]
      · rw [← hu]
        rfl
    · have hverdict := (State.verdict_of_three (s := u) (c := c) (v := v) hthree).2 p hmajor
      rw [if_neg hv] at hverdict
      obtain ⟨hbit, hset, hevent, hcnt⟩ := u.expel_spec c.isLt
      refine ⟨_, congrArg Host.Outcome.next (hdue.trans ((congrArg _ hmine).trans hverdict)), hbit, hset, hevent, ?_⟩
      rw [hcnt, hsu.get (by simp)]
  case readmit =>
    intro c s hreach
    refine ⟨fun hbit => ?_, fun hbit => ?_⟩
    · obtain ⟨hctx, hctxs⟩ := (s.clrBit F.GRS_REP_EXPELLED_EXPELLED c).ctx_updCtx c fun x => { x with probation := true, readmitAt := some s.swath }
      have hexec : exec (.readmit c) s = .next ((s.clrBit F.GRS_REP_EXPELLED_EXPELLED c).updCtx c fun x =>
          { x with probation := true, readmitAt := some s.swath }) := by
        simp only [exec, execReadmit, State.ifReach, hreach, if_true, State.readmit, hbit]
      have hclr : s.clrBit F.GRS_REP_EXPELLED_EXPELLED c =
          s.set F.GRS_REP_EXPELLED_EXPELLED (clrMask (s.get F.GRS_REP_EXPELLED_EXPELLED) c) := by
        rw [State.clrBit, if_pos hbit, clrMask, if_pos hbit]
      have hframe : s.Only {.ctxs, .reg .GRS_REP_EXPELLED} ((s.clrBit F.GRS_REP_EXPELLED_EXPELLED c).updCtx c fun x =>
          { x with probation := true, readmitAt := some s.swath }) := by simp [F.GRS_REP_EXPELLED_EXPELLED]
      refine ⟨_, hexec, fun k hk => ?_, by rw [hctx], by rw [hctx], hframe.eq_mix.trans (by simp [State.mix]), fun f hf => ?_, fun d hd => ?_⟩
      · rw [hclr]
        exact (congrArg (bitOf · k) (State.get_set_same s _ _)).trans ((bitOf_mod hk).trans (bitOf_clrMask _ _ _))
      · rw [hclr]
        exact State.get_set_ne s _ (Ne.symm (by simpa using hf))
      · rw [hctxs d hd, hclr]
        rfl
    · simp only [exec, execReadmit, State.ifReach, hreach, if_true, State.readmit, hbit, Bool.false_eq_true, if_false]

end Sys2Proof.Machine

namespace Sys2Proof.Machine
open Sys2Proof

/-! ### Accumulators in a bank -/

theorem Tab.getElem?_getList {α : Type} (d : Nat → α) (t : List (Nat × α)) (a n i : Nat) (hi : i < n) :
    (Tab.getList d t a n)[i]? = some (Tab.get d t (a + i)) := by
  induction n generalizing a i with
  | zero => omega
  | succ n ih =>
    cases i with
    | zero => rfl
    | succ i =>
      rw [Tab.getList, List.getElem?_cons_succ, ih (a + 1) i (by omega)]
      congr 2
      omega

theorem Tab.length_getList {α : Type} (d : Nat → α) (t : List (Nat × α)) (a n : Nat) : (Tab.getList d t a n).length = n := by
  induction n generalizing a with
  | zero => rfl
  | succ n ih => rw [Tab.getList, List.length_cons, ih]

theorem Tab.getElem?_setList_in {α : Type} [DecidableEq α] (d : Nat → α) (t : List (Nat × α)) (a : Nat) (xs : List α) {i : Nat} (hi : i < xs.length) :
    xs[i]? = some (Tab.get d (Tab.setList d t a xs) (a + i)) := by
  rw [← Tab.getElem?_getList d (Tab.setList d t a xs) a xs.length i hi, Tab.getList_setList]

theorem regionOf_bankAddr {g b : Nat} (hg : g < 256) (hb : b < 4096) : regionOf (bankAddr g b) = .bank g (b * 256) := by
  have hcanon : canon (bankAddr g b) = bankAddr g b := canon_of_not_alias (by unfold bankAddr tskBase bankBase aliasBase; omega)
  have hstack : ¬bankAddr g b < stackEnd := by unfold bankAddr tskBase bankBase stackEnd stackSize; omega
  have hbank : bankBase ≤ bankAddr g b ∧ bankAddr g b < bankEnd := by unfold bankAddr tskBase bankBase bankEnd; omega
  have hdiv : (bankAddr g b - bankBase) / 0x400000 = g := by unfold bankAddr tskBase; omega
  have hmod : (bankAddr g b - bankBase) % 0x400000 = b * 256 := by unfold bankAddr tskBase; omega
  unfold regionOf
  simp only [hcanon, if_neg hstack, if_pos hbank, hdiv, hmod]
  rw [if_pos (by omega)]

theorem canon_bank {g x : Nat} (hlo : tskBase g ≤ x) : canon x = x :=
  canon_of_not_alias (by unfold tskBase bankBase at hlo; unfold aliasBase; omega)

theorem State.data_block (s : State) (a : Nat) : (s.block a).data = Tab.getList memDefault s.mem (canon a) 256 := rfl

/-- The accumulator of an element lies in its group's block. -/
theorem Area.elemAddr_eq (a : Area) (e : Nat) :
    a.elemAddr e = bankAddr a.g (a.accBlock + a.group e) + (e - a.head.e0) % 32 * 8 := by
  unfold Area.elemAddr Area.group bankAddr
  omega

/-- Part of a block's payload replaced: each byte is the new one in its range, and the old one elsewhere. -/
theorem getElem?_overlay {old new : List Byte} {o i : Nat} (h : o + new.length ≤ old.length) :
    (overlay old o new)[i]? = if o ≤ i ∧ i < o + new.length then new[i - o]? else old[i]? := by
  have htake : (old.take o).length = o := by rw [List.length_take]; omega
  unfold overlay
  rw [List.append_assoc]
  by_cases hlo : i < o
  · rw [List.getElem?_append_left (by omega), List.getElem?_take_of_lt hlo, if_neg (by omega)]
  · rw [List.getElem?_append_right (by omega), htake]
    by_cases hin : i < o + new.length
    · rw [List.getElem?_append_left (by omega), if_pos ⟨by omega, hin⟩]
    · rw [List.getElem?_append_right (by omega), List.getElem?_drop, if_neg (by omega)]
      congr 1
      omega

theorem length_overlay {old new : List Byte} {o : Nat} (h : o + new.length ≤ old.length) : (overlay old o new).length = old.length := by
  simp only [overlay, List.length_append, List.length_take, List.length_drop]
  omega

/-- A bank block written whole, with part of its payload replaced: below the tags of the bank, only that part changes. -/
theorem Memory.get_putBlock_overlay {m : List Host.Cell} {g off base o tid seq x : Nat} {new : List Byte} (hregion : regionOf base = .bank g off)
    (hlo : tskBase g ≤ base) (hhi : base + 256 ≤ tskBase g + 0x100000) (ho : o + new.length ≤ 256) (hx : x < tskBase g + 0x100000) :
    Tab.get memDefault (Memory.putBlock m base (Block.fresh (overlay (Memory.readN m base 256) o new) tid seq)) x =
      Tab.get memDefault (Memory.writeN m (base + o) new) x := by
  have hcanon : canon base = base := canon_bank hlo
  have hslot : canon (base + o) = base + o := canon_bank (g := g) (by omega)
  have htag : tskBase g + 0x100000 ≤ tagAddr base := by
    unfold tagAddr
    rw [hregion]
    exact Nat.le_add_right _ _
  have htagcanon : canon (tagAddr base) = tagAddr base := canon_bank (g := g) (by omega)
  have holdlen : (Memory.readN m base 256).length = 256 := by rw [Memory.readN, Tab.length_getList]
  obtain ⟨data, hdata⟩ : ∃ data, overlay (Memory.readN m base 256) o new = data := ⟨_, rfl⟩
  have hlen : data.length = 256 := by rw [← hdata, length_overlay (by rw [holdlen]; exact ho), holdlen]
  obtain ⟨b, hb⟩ : ∃ b, Block.fresh data tid seq = b := ⟨_, rfl⟩
  have hbdata : b.data = data := by rw [← hb, Block.fresh]
  rw [hdata, hb, Memory.putBlock, Memory.writeN, htagcanon, Tab.get_setList_out _ _ _ _ _ (.inl (by omega)), hbdata, Memory.writeN, Memory.writeN,
    hcanon, hslot]
  by_cases hin : base ≤ x ∧ x < base + 256
  · obtain ⟨i, rfl⟩ : ∃ i, x = base + i := ⟨x - base, by omega⟩
    have hdat := Tab.getElem?_setList_in memDefault m base data (i := i) (by omega)
    have hold : (Memory.readN m base 256)[i]? = some (Tab.get memDefault m (base + i)) := by
      rw [Memory.readN, hcanon, Tab.getElem?_getList _ _ _ _ _ (by omega)]
    rw [← hdata, getElem?_overlay (by rw [holdlen]; exact ho), hdata] at hdat
    apply Option.some.inj
    rw [← hdat]
    by_cases hmine : o ≤ i ∧ i < o + new.length
    · rw [if_pos hmine, Tab.getElem?_setList_in memDefault m (base + o) new (i := i - o) (by omega)]
      congr 2
      omega
    · rw [if_neg hmine, hold, Tab.get_setList_out _ _ _ _ _ (by omega)]
  · rw [Tab.get_setList_out _ _ _ _ _ (by omega), Tab.get_setList_out _ _ _ _ _ (by omega)]

section
variable {s : State} {a : Area} {e : Nat} (hg : a.g < 256) (hb : a.accBlock + a.group e < 4096)
include hg hb

theorem Area.tagged_group : tagged (bankAddr a.g (a.accBlock + a.group e)) = true :=
  tagged_of_region (.inr ⟨_, _, regionOf_bankAddr hg hb⟩)

theorem State.only_putAcc_bank (w : Nat) : s.Only {.mem, .latent} (s.putAcc a e w) := by
  unfold State.putAcc State.tuftWrite
  exact State.only_putBlock_tagged (Area.tagged_group hg hb) (by simp) (.refl s _)

theorem State.mem_putAcc (w : Nat) : ∃ tid seq, (s.putAcc a e w).mem = Memory.putBlock s.mem (bankAddr a.g (a.accBlock + a.group e))
    (Block.fresh (overlay (Memory.readN s.mem (bankAddr a.g (a.accBlock + a.group e)) 256) ((e - a.head.e0) % 32 * 8) (leBytes 8 w)) tid seq) := by
  refine ⟨(s.block (bankAddr a.g (a.accBlock + a.group e))).tid, (s.block (bankAddr a.g (a.accBlock + a.group e))).seq, ?_⟩
  rw [State.putAcc, State.tuftWrite, State.putBlock_of_tagged (Area.tagged_group hg hb), State.scrubbed, State.data_block, Memory.readN]

/-- An accumulator word written: below the tags of the bank, only its own eight bytes change. -/
theorem State.get_putAcc (w : Nat) {x : Nat} (hx : x < tskBase a.g + 0x100000) :
    Tab.get memDefault (s.putAcc a e w).mem x = Tab.get memDefault (Memory.writeN s.mem (a.elemAddr e) (leBytes 8 w)) x := by
  have hregion := regionOf_bankAddr hg hb
  obtain ⟨tid, seq, hmem⟩ := State.mem_putAcc (s := s) hg hb w
  have hrange : tskBase a.g ≤ bankAddr a.g (a.accBlock + a.group e) ∧
      bankAddr a.g (a.accBlock + a.group e) + 256 ≤ tskBase a.g + 0x100000 := by unfold bankAddr; omega
  rw [hmem, Area.elemAddr_eq]
  exact Memory.get_putBlock_overlay (g := a.g) (off := (a.accBlock + a.group e) * 256) hregion hrange.1 hrange.2 (by rw [length_leBytes]; omega) hx

end

/-- The accumulator words of a begun area: what one holds after a word is written. -/
theorem State.accWord_putAcc {s : State} {a : Area} {e e' : Nat} (hg : a.g < 256) (hb : a.accBlock + a.group e < 4096)
    (hb' : a.accBlock + a.group e' < 4096) (hbegun : a.begun.contains (a.group e') = true) (hge : a.head.e0 ≤ e) (hge' : a.head.e0 ≤ e') {w : Nat}
    (hw : w < 2 ^ 64) : (s.putAcc a e w).accWord a e' = if e' = e then w else s.accWord a e' := by
  have hlow : a.elemAddr e' + 8 ≤ tskBase a.g + 0x100000 ∧ tskBase a.g ≤ a.elemAddr e' := by
    rw [Area.elemAddr_eq]
    unfold bankAddr
    omega
  have hlow' : tskBase a.g ≤ a.elemAddr e := by
    rw [Area.elemAddr_eq]
    unfold bankAddr
    omega
  have hcanon' : canon (a.elemAddr e') = a.elemAddr e' := canon_bank (g := a.g) (by omega)
  have hcanon : canon (a.elemAddr e) = a.elemAddr e := canon_bank (g := a.g) hlow'
  have hread : Memory.readN (s.putAcc a e w).mem (a.elemAddr e') 8 = Memory.readN (Memory.writeN s.mem (a.elemAddr e) (leBytes 8 w)) (a.elemAddr e') 8 :=
    Tab.getList_congr fun x hx hx' => State.get_putAcc hg hb w (by omega)
  unfold State.accWord
  rw [if_pos hbegun, hread]
  by_cases he : e' = e
  · subst he
    rw [if_pos rfl]
    have h := Memory.readN_writeN_same (m := s.mem) (a := a.elemAddr e') (bs := leBytes 8 w)
    rw [length_leBytes] at h
    rw [h, leNat_leBytes (by simpa using hw)]
  · rw [if_neg he, if_pos hbegun, Memory.readN_writeN_out]
    rw [hcanon, hcanon', length_leBytes]
    unfold Area.elemAddr
    omega

/-! ### The parts of an accumulator word -/

theorem unsgn_lt (x : Int) : unsgn 40 x < 2 ^ 40 := by
  unfold unsgn
  have h := Int.emod_lt_of_pos x (show (0 : Int) < (2 ^ 40 : Nat) by decide)
  omega

section
variable (x : Int) (sat poison : Bool) {n : Nat}

theorem accOf_lt (hn : n < 2 ^ 13) : accOf x sat poison n < 2 ^ 64 := by
  have hx := unsgn_lt x
  have hs := natOf_lt_two sat
  have hp := natOf_lt_two poison
  unfold accOf
  omega

theorem accCount_accOf (hn : n < 2 ^ 13) : accCount (accOf x sat poison n) = n := by
  have hx := unsgn_lt x
  have hs := natOf_lt_two sat
  have hp := natOf_lt_two poison
  unfold accCount bitsOf accOf
  omega

theorem accSum_accOf : accSum (accOf x sat poison n) = sgn 40 (unsgn 40 x) := by
  have hx := unsgn_lt x
  have hmod : accOf x sat poison n % 2 ^ 40 = unsgn 40 x % 2 ^ 40 := by
    unfold accOf
    omega
  unfold accSum sgn
  rw [hmod]

theorem accSat_accOf : accSat (accOf x sat poison n) = sat := by
  have hx := unsgn_lt x
  have hbit : accOf x sat poison n / 2 ^ 40 % 2 = natOf sat := by
    have hs := natOf_lt_two sat
    unfold accOf
    omega
  unfold accSat bitOf
  rw [hbit]
  cases sat <;> rfl

theorem accPoison_accOf : accPoison (accOf x sat poison n) = poison := by
  have hx := unsgn_lt x
  have hbit : accOf x sat poison n / 2 ^ 41 % 2 = natOf poison := by
    have hs := natOf_lt_two sat
    have hp := natOf_lt_two poison
    unfold accOf
    omega
  unfold accPoison bitOf
  rw [hbit]
  cases poison <;> rfl

end

/-! ### A delivery -/

/-- One element of a delivery added to its accumulator (R148). -/
def State.addElem (a : Area) (s : State) (d : Nat × Int × Bool × Bool) : State :=
  s.putAcc a d.1 (accOf (accSum (s.accWord a d.1) + d.2.1) (accSat (s.accWord a d.1) || d.2.2.1) (accPoison (s.accWord a d.1) || d.2.2.2)
    (accCount (s.accWord a d.1) + 1))

/-- An element of an open group of the area, its block in the bank. -/
def Area.holds (a : Area) (e : Nat) : Prop := a.begun.contains (a.group e) = true ∧ a.head.e0 ≤ e ∧ a.accBlock + a.group e < 4096

theorem accCount_lt (w : Nat) : accCount w < 2 ^ 13 := by
  unfold accCount bitsOf
  exact Nat.mod_lt _ (by decide)

/-- The elements of a delivery are added one by one: each is added once, and no other element changes. -/
theorem State.accWord_addElems {a : Area} (hg : a.g < 256) (ds : List (Nat × Int × Bool × Bool)) (hnd : (ds.map Prod.fst).Nodup)
    (hin : ∀ d ∈ ds, a.holds d.1) (s : State) (hcount : ∀ d ∈ ds, accCount (s.accWord a d.1) + 1 < 2 ^ 13) :
    s.Only {.mem, .latent} (ds.foldl (State.addElem a) s) ∧
    (∀ e, a.holds e → e ∉ ds.map Prod.fst → (ds.foldl (State.addElem a) s).accWord a e = s.accWord a e) ∧
    ∀ d ∈ ds, (ds.foldl (State.addElem a) s).accWord a d.1 = accOf (accSum (s.accWord a d.1) + d.2.1) (accSat (s.accWord a d.1) || d.2.2.1)
      (accPoison (s.accWord a d.1) || d.2.2.2) (accCount (s.accWord a d.1) + 1) := by
  induction ds generalizing s with
  | nil => exact ⟨.refl s _, fun _ _ _ => rfl, by simp⟩
  | cons d ds ih =>
    obtain ⟨hbegun, hge, hblock⟩ := hin d (List.mem_cons_self ..)
    have hlt : accCount (s.accWord a d.1) + 1 < 2 ^ 13 := hcount d (List.mem_cons_self ..)
    obtain ⟨u, hu⟩ : ∃ u, State.addElem a s d = u := ⟨_, rfl⟩
    have hsu : s.Only {.mem, .latent} u := hu ▸ State.only_putAcc_bank hg hblock _
    have hword (e : Nat) (he : a.holds e) : u.accWord a e = if e = d.1 then accOf (accSum (s.accWord a d.1) + d.2.1) (accSat (s.accWord a d.1) || d.2.2.1)
        (accPoison (s.accWord a d.1) || d.2.2.2) (accCount (s.accWord a d.1) + 1) else s.accWord a e := by
      rw [← hu]
      exact State.accWord_putAcc hg hblock he.2.2 he.1 hge he.2.1 (accOf_lt _ _ _ hlt)
    simp only [List.map_cons, List.nodup_cons] at hnd
    have hrest (e : Nat) (he : a.holds e) (hne : e ≠ d.1) : u.accWord a e = s.accWord a e := by rw [hword e he, if_neg hne]
    have hother (d' : Nat × Int × Bool × Bool) (hd' : d' ∈ ds) : d'.1 ≠ d.1 := fun h =>
      hnd.1 (h ▸ List.mem_map.2 ⟨d', hd', rfl⟩)
    obtain ⟨hframe, hout, hthem⟩ := ih hnd.2 (fun d' hd' => hin d' (List.mem_cons_of_mem _ hd')) u fun d' hd' => by
      rw [hrest d'.1 (hin d' (List.mem_cons_of_mem _ hd')) (hother d' hd')]
      exact hcount d' (List.mem_cons_of_mem _ hd')
    rw [List.foldl_cons, hu]
    refine ⟨hsu.trans hframe, fun e he hne => ?_, fun d' hd' => ?_⟩
    · simp only [List.map_cons, List.mem_cons, not_or] at hne
      rw [hout e he hne.2, hrest e he hne.1]
    · rcases List.mem_cons.1 hd' with rfl | hd'
      · rw [hout d'.1 (hin d' (List.mem_cons_self ..)) hnd.1, hword d'.1 (hin d' (List.mem_cons_self ..)), if_pos rfl]
      · rw [hthem d' hd', hrest d'.1 (hin d' (List.mem_cons_of_mem _ hd')) (hother d' hd')]

theorem State.area_keys {s : State} {id g rq : Nat} {a : Area} (h : s.area id g rq = some a) : a.job = id ∧ a.g = g ∧ a.rq = rq := by
  have hp := List.find?_some h
  simp only [Bool.and_eq_true, beq_iff_eq] at hp
  exact ⟨hp.1.1, hp.1.2, hp.2⟩

/-- An area that takes the place of the job's area there is found from then on. -/
theorem State.area_updArea {s : State} {id g rq : Nat} {a0 a : Area} (h : s.area id g rq = some a0) (hjob : a.job = id) (hg : a.g = g)
    (hrq : a.rq = rq) : (s.updArea a).area id g rq = some a := by
  obtain ⟨h1, h2, h3⟩ := State.area_keys h
  unfold State.area State.updArea
  rw [List.find?_map]
  have hpred : ((fun x : Area => x.job == id && x.g == g && x.rq == rq) ∘ fun x => if x.job = a.job ∧ x.g = a.g ∧ x.rq = a.rq then a else x) =
      fun x => x.job == id && x.g == g && x.rq == rq := by
    funext x
    simp only [Function.comp_apply]
    split
    · rename_i hx
      simp [hx.1, hx.2.1, hx.2.2]
    · rfl
  rw [hpred]
  change (Option.map _ (s.area id g rq)) = some a
  rw [h]
  simp [h1, h2, h3, hjob, hg, hrq]

/-- The groups of a delivery begun: the area with its groups open is the job's, and only the bank changes. -/
theorem State.beginGroups_spec {a : Area} {id g rq : Nat} (hg : a.g < 256) (ks : List Nat) (hks : ∀ k ∈ ks, a.accBlock + k < 4096) (s : State)
    (harea : s.area id g rq = some a) : ∃ t bs, ks.foldl (fun (x : State × Area) k => x.1.beginGroup x.2 k) (s, a) = (t, { a with begun := bs }) ∧
      t.area id g rq = some { a with begun := bs } ∧ (∀ k, k ∈ ks ∨ k ∈ a.begun → k ∈ bs) ∧ s.Only {.mem, .latent, .areas} t := by
  induction ks generalizing s a with
  | nil => exact ⟨s, a.begun, rfl, harea, fun k hk => hk.resolve_left (by simp), .refl s _⟩
  | cons k ks ih =>
    obtain ⟨h1, h2, h3⟩ := State.area_keys harea
    have hone : ∃ t bs, s.beginGroup a k = (t, { a with begun := bs }) ∧ t.area id g rq = some { a with begun := bs } ∧
        (∀ k', k' = k ∨ k' ∈ a.begun → k' ∈ bs) ∧ s.Only {.mem, .latent, .areas} t := by
      unfold State.beginGroup
      split
      · rename_i hin
        refine ⟨s, a.begun, rfl, harea, fun k' hk' => ?_, .refl s _⟩
        rcases hk' with rfl | hk'
        · simpa using hin
        · exact hk'
      · have htag : tagged (bankAddr a.g (a.accBlock + k)) = true :=
          tagged_of_region (.inr ⟨_, _, regionOf_bankAddr hg (hks k (List.mem_cons_self ..))⟩)
        have hwrite (data : List Byte) : s.Only {.mem, .latent} (s.tuftWrite (bankAddr a.g (a.accBlock + k)) data) := by
          unfold State.tuftWrite
          exact State.only_putBlock_tagged htag (by simp) (.refl s _)
        refine ⟨_, a.begun ++ [k], rfl, State.area_updArea (a0 := a) ?_ h1 h2 h3, fun k' hk' => ?_, ?_⟩
        · unfold State.area at harea ⊢
          rw [(hwrite _).same .areas (by simp), harea]
        · rcases hk' with rfl | hk'
          · simp
          · simp [hk']
        · exact (State.only_updArea (by simp)).2 ((hwrite _).mono (by simp))
    obtain ⟨t, bs, hbegin, htarea, hbs, hframe⟩ := hone
    obtain ⟨u, cs, hrest, huarea, hcs, hframe'⟩ := ih (a := { a with begun := bs }) hg (fun k' hk' => hks k' (List.mem_cons_of_mem _ hk')) t htarea
    refine ⟨u, cs, ?_, huarea, fun k' hk' => ?_, hframe.trans hframe'⟩
    · rw [List.foldl_cons]
      change ks.foldl _ (s.beginGroup a k) = _
      rw [hbegin, hrest]
    · rcases hk' with hk' | hk'
      · rcases List.mem_cons.1 hk' with rfl | hk'
        · exact hcs _ (.inr (hbs _ (.inl rfl)))
        · exact hcs _ (.inl hk')
      · exact hcs _ (.inr (hbs _ (.inr hk')))

/-- A group with an accumulator still short of its sources is not requantised. -/
theorem State.requantGroup_waits {s : State} {job cmd g rq k e : Nat} {a : Area} (harea : s.area job g rq = some a) (he : e ∈ a.groupElems k)
    (hcount : accCount (s.accWord a e) ≠ a.head.nsrc) : s.requantGroup job cmd g rq k = s := by
  have hnot : (a.groupElems k).all (fun e => accCount (s.accWord a e) == a.head.nsrc) = false := by
    rw [Bool.eq_false_iff]
    intro hall
    have := List.all_eq_true.1 hall e he
    exact hcount (by simpa using this)
  unfold State.requantGroup
  rw [harea]
  dsimp only
  rw [if_pos (by simp [hnot])]

theorem Area.mem_groupElems {a : Area} {e : Nat} (hlo : a.head.e0 ≤ e) (hhi : e < a.head.e0 + a.head.nelem) : e ∈ a.groupElems (a.group e) := by
  unfold Area.groupElems Area.group
  refine List.mem_filter.2 ⟨List.mem_map.2 ⟨(e - a.head.e0) % 32, List.mem_range.2 (by omega), by omega⟩, by simpa using hhi⟩

theorem State.deliveries_nodup (s : State) (a : Area) (es : List Evl) : ((s.deliveries a es).map Prod.fst).Nodup := by
  unfold State.deliveries
  split
  · simp
  · dsimp only
    rw [List.map_map]
    refine List.Nodup.map ?_ (List.nodup_range)
    intro x y h
    simpa using h

/-- A delivery in order: its elements lie in the area, and their accumulators in the bank. -/
theorem State.elem_of_not_badDelivery {s : State} {a : Area} {task : List Nat} {ds : List (Nat × Int × Bool × Bool)} (h : s.badDelivery a task ds = false)
    {d : Nat × Int × Bool × Bool} (hd : d ∈ ds) : a.head.e0 ≤ d.1 ∧ d.1 < a.head.e0 + a.head.nelem ∧ a.accBlock + a.group d.1 < 4096 := by
  unfold State.badDelivery at h
  simp only [Bool.or_eq_false_iff, List.any_eq_false, Bool.or_eq_true, decide_eq_true_eq, not_or] at h
  obtain ⟨⟨hin, hblock⟩, -⟩ := h.2 d hd
  omega

theorem State.addOpened_eq (s : State) (job cmd : Nat) (a : Area) (ks : List Nat) (ds : List (Nat × Int × Bool × Bool)) {s4 : State} {a4 : Area}
    (h : ks.foldl (fun (x : State × Area) k => x.1.beginGroup x.2 k) (s, a) = (s4, a4)) : s.addOpened job cmd a ks ds false =
      ks.foldl (fun s k => s.requantGroup job cmd a4.g a4.rq k) (ds.foldl (State.addElem a4) s4) := by
  unfold State.addOpened
  rw [h]
  rfl

/-- Groups that each have an accumulator still short of its sources are not requantised. -/
theorem State.requantGroups_wait {s : State} {job cmd g rq : Nat} {a : Area} (harea : s.area job g rq = some a) (ks : List Nat)
    (h : ∀ k ∈ ks, ∃ e ∈ a.groupElems k, accCount (s.accWord a e) ≠ a.head.nsrc) :
    ks.foldl (fun s k => s.requantGroup job cmd g rq k) s = s := by
  induction ks with
  | nil => rfl
  | cons k ks ih =>
    obtain ⟨e, he, hcount⟩ := h k (List.mem_cons_self ..)
    rw [List.foldl_cons, State.requantGroup_waits harea he hcount]
    exact ih fun k' hk' => h k' (List.mem_cons_of_mem _ hk')

/-- A delivery with its groups open, that completes no accumulator (R148): each element is added once. -/
theorem State.addOpened_adds {s : State} {id cmd g rq : Nat} {a : Area} {ks : List Nat} {ds : List (Nat × Int × Bool × Bool)} {s4 : State} {a4 : Area}
    (hg : a.g < 256) (harea : s.area id g rq = some a) (hks : ks = (ds.map fun d => a.group d.1).dedup) (hnd : (ds.map Prod.fst).Nodup)
    (hin : ∀ d ∈ ds, a.head.e0 ≤ d.1 ∧ d.1 < a.head.e0 + a.head.nelem ∧ a.accBlock + a.group d.1 < 4096) (hn : a.head.nsrc ≤ 4096)
    (hfold : ks.foldl (fun (x : State × Area) k => x.1.beginGroup x.2 k) (s, a) = (s4, a4))
    (hcount : ∀ d ∈ ds, accCount (s4.accWord a4 d.1) + 1 < a.head.nsrc) :
    (s.addOpened id cmd a ks ds false).area id g rq = some a4 ∧ s.Only {.mem, .latent, .areas} (s.addOpened id cmd a ks ds false) ∧
    ∀ d ∈ ds, (s.addOpened id cmd a ks ds false).accWord a4 d.1 = accOf (accSum (s4.accWord a4 d.1) + d.2.1) (accSat (s4.accWord a4 d.1) || d.2.2.1)
      (accPoison (s4.accWord a4 d.1) || d.2.2.2) (accCount (s4.accWord a4 d.1) + 1) := by
  have hmem (k : Nat) : k ∈ ks ↔ ∃ d ∈ ds, a.group d.1 = k := by rw [hks, List.mem_dedup, List.mem_map]
  obtain ⟨-, hag, harq⟩ := State.area_keys harea
  obtain ⟨t, bs, hbegin, hbarea, hbs, hbegun⟩ := State.beginGroups_spec hg ks (fun k hk => by
    obtain ⟨d, hd, rfl⟩ := (hmem k).1 hk
    exact (hin d hd).2.2) s harea
  rw [hfold] at hbegin
  obtain ⟨rfl, rfl⟩ : s4 = t ∧ a4 = { a with begun := bs } := Prod.mk.inj hbegin
  obtain ⟨a4, ha4⟩ : ∃ a4, { a with begun := bs } = a4 := ⟨_, rfl⟩
  have hhead : a4.head = a.head := by rw [← ha4]
  have hgroup (e : Nat) : a4.group e = a.group e := by rw [← ha4, Area.group, Area.group]
  have hblock : a4.accBlock = a.accBlock := by rw [← ha4]
  have hkeys : a4.g = g ∧ a4.rq = rq := by rw [← ha4]; exact ⟨hag, harq⟩
  have hbegun4 : a4.begun = bs := by rw [← ha4]
  rw [ha4] at hbarea hfold hcount ⊢
  have hholds (d : Nat × Int × Bool × Bool) (hd : d ∈ ds) : a4.holds d.1 := by
    refine ⟨?_, hhead ▸ (hin d hd).1, by rw [hblock, hgroup]; exact (hin d hd).2.2⟩
    rw [hbegun4, hgroup]
    exact List.contains_iff_mem.2 (hbs _ (.inl ((hmem _).2 ⟨d, hd, rfl⟩)))
  obtain ⟨hframe, -, hwords⟩ := State.accWord_addElems (hkeys.1 ▸ hag ▸ hg) ds hnd hholds s4 fun d hd => by
    have := hcount d hd
    omega
  have hadded : (ds.foldl (State.addElem a4) s4).area id g rq = some a4 := by
    unfold State.area at hbarea ⊢
    rw [hframe.same .areas (by simp), hbarea]
  have hwait : s.addOpened id cmd a ks ds false = ds.foldl (State.addElem a4) s4 := by
    rw [State.addOpened_eq s id cmd a ks ds hfold, hkeys.1, hkeys.2]
    refine State.requantGroups_wait hadded ks fun k hk => ?_
    obtain ⟨d, hd, rfl⟩ := (hmem k).1 hk
    refine ⟨d.1, hgroup d.1 ▸ Area.mem_groupElems (hhead ▸ (hin d hd).1) (hhead ▸ (hin d hd).2.1), ?_⟩
    have hlt := hcount d hd
    rw [hwords d hd, accCount_accOf _ _ _ (by omega), hhead]
    omega
  rw [hwait]
  exact ⟨hadded, hbegun.trans (hframe.mono (by simp)), hwords⟩

section
variable {g : Tsk} {dig : Bool} {s : State} {p : Partial} {e : Evl} {more : List Evl} {id : Nat} (hruns : s.runsT g = true)
  (hfind : (s.tuss g).sums.find? Partial.complete = some p)
include hruns hfind

theorem exec_partialSumDelivery : exec (.partialSumDelivery g dig) s =
    .next ((s.updTuss g fun t => { t with sums := t.sums.erase p }).deliver g p dig) := by
  change Host.Outcome.next (s.ifT g _) = _
  rw [State.ifT, if_pos hruns, hfind]

end

/-! What a delivery comes to, by what has become of its job and of the combining Tussock. -/

section
variable {s : State} {src : Nat} {p : Partial} {dig : Bool} {e : Evl} {more : List Evl} {id : Nat} (hevals : p.evals = e :: more) (hjob : e.job = some id)
include hevals hjob

theorem State.deliver_gone (hgone : ∀ j, s.job id = some j → j.err ≠ none) : s.Only {.jobs} (s.deliver src p dig) := by
  unfold State.deliver
  rw [hevals]
  dsimp only
  rw [hjob, Option.getD_some]
  cases hj : s.job id with
  | none => exact .refl s _
  | some j =>
    dsimp only
    rw [if_pos (Option.isSome_iff_ne_none.2 (hgone j hj))]
    simp

theorem State.deliver_off {j : Job} (hj : s.job id = some j) (herr : j.err = none)
    (hoff : s.tskState (tfld e.task 4 0 8) ≠ tSERVICE ∨ s.onT (tfld e.task 4 0 8) = false) : s.deliver src p dig = s := by
  unfold State.deliver
  rw [hevals]
  dsimp only
  rw [hjob, Option.getD_some, hj]
  dsimp only
  rw [herr, Option.isSome_none, if_neg Bool.false_ne_true, if_pos (by simpa using hoff)]

theorem State.deliver_opens {j : Job} {a0 a : Area} {s2 s3 : State} {g rq cmd : Nat} {ks : List Nat} {ds : List (Nat × Int × Bool × Bool)}
    (hj : s.job id = some j) (herr : j.err = none) (hg : g = tfld e.task 4 0 8) (hrq : rq = tfld e.task 4 20 12)
    (hstate : s.tskState g = tSERVICE) (hon : s.onT g = true) (hcmd : cmd = j.tasksCmd src e.swath)
    (harea : (s.taskDone e.job).area id g rq = some a0) (ha : a = { a0 with accBlock := tfld e.task 4 8 12 })
    (hds : ds = (s.taskDone e.job).deliveries a p.evals) (hbad : (s.taskDone e.job).badDelivery a e.task ds = false)
    (hread : (s.taskDone e.job).rqRead cmd a (sumBlocks e.task) = (s2, true)) (hks : ks = (ds.map fun d => a.group d.1).dedup)
    (hopen : (s2.updArea a).openGroups cmd a ks = (s3, true)) :
    s.deliver src p dig = s3.addOpened id cmd a ks ds dig := by
  unfold State.deliver
  rw [hds, hevals] at hbad
  rw [hds, hevals] at hks
  rw [hevals]
  dsimp only
  rw [hjob] at harea hbad hread hks ⊢
  rw [Option.getD_some, hj]
  dsimp only
  rw [herr, Option.isSome_none, if_neg Bool.false_ne_true, ← hg, ← hrq, ← hcmd, if_neg (by simp [hstate, hon]), harea]
  dsimp only
  rw [← ha, hbad, if_neg Bool.false_ne_true, hread]
  dsimp only
  unfold State.addDelivery
  dsimp only
  rw [← hks, hopen, hds, hevals, hjob]

end

/-- Settles O23: the groups begun, an element's word takes in the delivery's (the folds over groups and elements, each with its invariant); no
group is full, so none is requantised. A job gone or ended, or a combining Tussock off or not in SERVICE, ends the delivery before any area. -/
theorem partialSumsAccumulate : Obligations.PartialSumsAccumulate := by
  unfold Obligations.PartialSumsAccumulate
  refine ⟨?_, fun g dig s p e more id hruns hfind hevals hid => ⟨fun hgone => ?_, fun j hj herr hoff => ?_⟩⟩
  · intro g s s0 s1 s2 s3 s4 p e more id tg rq cmd j a0 a a4 ds ks hruns hfind hevals hid htg hrq hj herr hstate hon hs0 hs1 hcmd harea ha hds hks hbad
      hread hopen hfold hn hcount
    have htgs : tg < 256 := htg ▸ Nat.mod_lt _ (by decide)
    have hexec : exec (.partialSumDelivery g false) s = .next (s0.deliver g p false) := hs0 ▸ exec_partialSumDelivery hruns hfind
    obtain ⟨h1, h2, h3⟩ := State.area_keys harea
    have hkeys : a.job = id ∧ a.g = tg ∧ a.rq = rq := by rw [ha]; exact ⟨h1, h2, h3⟩
    have hs2 : s1.Only ({.jobs} ∪ Part.read) s2 := by
      have h : s1.Only ({.jobs} ∪ Part.read) (s1.rqRead cmd a (sumBlocks e.task)).1 := by simp
      rwa [hread] at h
    have harea2 : s2.area id tg rq = some a0 := by
      unfold State.area at harea ⊢
      rw [hs2.same .areas (by simp), harea]
    have hs3 : (s2.updArea a).Only ({.jobs} ∪ Part.read) s3 := by
      have h : (s2.updArea a).Only ({.jobs} ∪ Part.read) ((s2.updArea a).openGroups cmd a ks).1 := by simp
      rwa [hopen] at h
    have harea3 : s3.area id tg rq = some a := by
      have h := State.area_updArea harea2 hkeys.1 hkeys.2.1 hkeys.2.2
      unfold State.area at h ⊢
      rw [hs3.same .areas (by simp), h]
    obtain ⟨hareat, hadd, hwords⟩ := State.addOpened_adds (cmd := cmd) (hkeys.2.1 ▸ htgs) harea3 hks (hds ▸ State.deliveries_nodup ..)
      (fun d hd => State.elem_of_not_badDelivery hbad hd) hn hfold.symm hcount
    have hsums : (s0.tuss g).sums = (s.tuss g).sums.erase p := by rw [hs0, State.tuss_updTuss]
    have hframe : s0.Only ({.jobs, .areas} ∪ Part.read ∪ {.mem, .latent}) (s3.addOpened id cmd a ks ds false) := by
      have htask : s0.Only {.jobs} s1 := by rw [hs1]; simp
      have hupd : s2.Only {.areas} (s2.updArea a) := by simp
      exact ((htask.mono (by simp)).trans (hs2.mono (by simp))).trans
        (((hupd.mono (by simp)).trans (hs3.mono (by simp))).trans (hadd.mono (by simp)))
    have heq : s0.deliver g p false = s3.addOpened id cmd a ks ds false := by
      rw [hs1] at harea hds hbad hread
      exact State.deliver_opens hevals hid (by rw [hs0]; exact hj) herr htg hrq (by rw [hs0]; exact hstate) (by rw [hs0]; exact hon) hcmd harea ha hds hbad
        hread hks hopen
    rw [heq] at hexec
    refine ⟨_, a4, hexec, hareat, by rw [hframe.tuss (by simp), hsums], fun d hd => ?_⟩
    have hlt := hcount d hd
    rw [hwords d hd]
    exact ⟨accSum_accOf .., accCount_accOf _ _ _ (by omega), accSat_accOf .., accPoison_accOf ..⟩
  · obtain ⟨s0, hs0⟩ : ∃ s0, s.updTuss g (fun t => { t with sums := t.sums.erase p }) = s0 := ⟨_, rfl⟩
    have honly : s.OnlyTuss s0 g [] := hs0 ▸ (State.OnlyTuss.refl s g []).upd _
    have hframe : s0.Only {.jobs} (s0.deliver g p dig) := State.deliver_gone hevals hid (by rw [← hs0]; exact hgone)
    refine ⟨_, exec_partialSumDelivery hruns hfind, ?_, ?_, fun h hh => ?_⟩
    · rw [hs0, hframe.tuss (by simp), ← hs0, State.tuss_updTuss]
    · have hsums : s.Only Part.tusss s0 := by rw [← hs0]; simp
      have hwhole : s.Only (Part.tusss ∪ {.jobs}) (s0.deliver g p dig) := (hsums.mono (by simp)).trans (hframe.mono (by simp))
      rw [hs0]
      exact hwhole.eq_mix.trans (by simp [State.mix, hwhole.regs (by simp)])
    · rw [hs0, hframe.tuss (by simp)]
      exact honly.2.2 h hh
  · obtain ⟨s0, hs0⟩ : ∃ s0, s.updTuss g (fun t => { t with sums := t.sums.erase p }) = s0 := ⟨_, rfl⟩
    have hstay : s0.deliver g p dig = s0 := State.deliver_off hevals hid (j := j) (by rw [← hs0]; exact hj) herr (by rw [← hs0]; exact hoff)
    refine ⟨s0, ?_, by rw [← hs0, State.tuss_updTuss], hs0 ▸ (State.OnlyTuss.refl s g []).upd _⟩
    rw [exec_partialSumDelivery hruns hfind, hs0, hstay]

end Sys2Proof.Machine

namespace Sys2Proof.Machine
open Sys2Proof

/-! ### Conversions and lookups -/

theorem State.lane_updLane (s : State) (g k : Nat) (u : SlotLane → SlotLane) (k' : Nat) :
    (s.updLane g k u).lane g k' = if k' = k then u (s.lane g k) else s.lane g k' := by
  unfold State.lane State.updLane
  rw [State.tuss_updTuss]
  dsimp only
  split
  · next h => rw [h, Tab.get_set_same]
  · next h => rw [Tab.get_set_ne _ _ _ (Ne.symm h)]

/-- What the tests on an evaluation leave as it is in a Tussock: its arrays, its partial sums, and each slot's latest evaluations and check. -/
structure State.KeepsWork (s t : State) (g : Nat) : Prop where
  arrs : (t.tuss g).arrs = (s.tuss g).arrs
  sums : (t.tuss g).sums = (s.tuss g).sums
  recent : ∀ k, (t.lane g k).recent = (s.lane g k).recent
  check : ∀ k, (t.lane g k).check = (s.lane g k).check

namespace State.KeepsWork
variable {s t u : State} {g : Nat}

theorem refl (s : State) (g : Nat) : s.KeepsWork s g := ⟨rfl, rfl, fun _ => rfl, fun _ => rfl⟩

theorem trans (h : s.KeepsWork t g) (k : t.KeepsWork u g) : s.KeepsWork u g :=
  ⟨k.arrs.trans h.arrs, k.sums.trans h.sums, fun i => (k.recent i).trans (h.recent i), fun i => (k.check i).trans (h.check i)⟩

theorem of_eq (h : t.tuss g = s.tuss g) : s.KeepsWork t g := by
  refine ⟨by rw [h], by rw [h], fun k => ?_, fun k => ?_⟩ <;> rw [State.lane, State.lane, h]

/-- An update of a Tussock's record that touches neither its arrays, its sums nor its lanes. -/
theorem updTuss (s : State) (g : Nat) {u : Tuss → Tuss} (harrs : (u (s.tuss g)).arrs = (s.tuss g).arrs) (hsums : (u (s.tuss g)).sums = (s.tuss g).sums)
    (hlanes : (u (s.tuss g)).lanes = (s.tuss g).lanes) : s.KeepsWork (s.updTuss g u) g := by
  refine ⟨by rw [State.tuss_updTuss, harrs], by rw [State.tuss_updTuss, hsums], fun k => ?_, fun k => ?_⟩ <;>
    rw [State.lane, State.lane, State.tuss_updTuss, hlanes]

theorem updLane (s : State) (g k : Nat) {u : SlotLane → SlotLane} (hrecent : (u (s.lane g k)).recent = (s.lane g k).recent)
    (hcheck : (u (s.lane g k)).check = (s.lane g k).check) : s.KeepsWork (s.updLane g k u) g := by
  refine ⟨by rw [State.updLane, State.tuss_updTuss], by rw [State.updLane, State.tuss_updTuss], fun i => ?_, fun i => ?_⟩ <;>
    rw [State.lane_updLane] <;> split
  · next h => rw [hrecent, h]
  · rfl
  · next h => rw [hcheck, h]
  · rfl

end State.KeepsWork

theorem State.gorseQuarantine_keepsWork (s : State) (g : Nat) : s.KeepsWork (s.gorseQuarantine g) g := by
  have hcause : s.KeepsWork (s.raiseCause g 1) g := by
    unfold State.raiseCause
    dsimp only
    have hset : s.KeepsWork (s.setBit (F.TSK_QUAR_CAUSE_CAUSE g) 1) g := .of_eq (by simp)
    split
    · exact hset
    · exact hset.trans (.updTuss _ g rfl rfl rfl)
  unfold State.gorseQuarantine
  have hrest : (s.raiseCause g 1).Only ({.reg .GRS_STATUS, .reg .GRS_ARB_CNT} ∪ Part.event)
      ((((s.raiseCause g 1).set F.GRS_STATUS_QUARANTINE 1).inc F.GRS_ARB_CNT_QUAR_CNT).signal 28) := by
    simp [F.GRS_STATUS_QUARANTINE, F.GRS_ARB_CNT_QUAR_CNT]
  exact hcause.trans (.of_eq (hrest.tuss (by simp)))

theorem State.trigger_keepsWork (s : State) (g : Nat) (tr : Trigger) : s.KeepsWork (s.trigger g tr) g := by
  unfold State.trigger
  dsimp only
  split
  · exact s.gorseQuarantine_keepsWork g
  · exact (State.KeepsWork.updTuss s g (u := fun t => { t with arbQueue := t.arbQueue ++ [tr] }) rfl rfl rfl).trans (.of_eq (by unfold State.arbStatus; simp))

theorem State.evalTest_keepsWork (s : State) (g : Nat) (e : Evl) : s.KeepsWork (s.evalTest g e) g := by
  unfold State.evalTest
  dsimp only
  split
  · exact (State.KeepsWork.of_eq (by simp)).trans (State.trigger_keepsWork ..)
  · exact .refl s g

theorem State.stuckTest_keepsWork (s : State) (g : Nat) (e : Evl) : s.KeepsWork (s.stuckTest g e) g := by
  unfold State.stuckTest
  dsimp only
  split
  · exact .refl s g
  · split
    · exact (State.KeepsWork.of_eq (by simp)).trans (State.trigger_keepsWork ..)
    · exact .updLane s g _ rfl rfl

theorem State.driftTest_keepsWork (s : State) (g : Nat) (e : Evl) : s.KeepsWork (s.driftTest g e) g := by
  unfold State.driftTest
  dsimp only
  split
  · exact .refl s g
  · split
    · have hset : s.KeepsWork (s.set (F.GRS_LANE_STATUS_DRIFT g) 1) g := .of_eq (by simp)
      split
      · refine hset.trans (.updTuss _ g ?_ ?_ ?_) <;> split <;> rfl
      · exact hset
    · exact .refl s g

theorem State.residualTests_keepsWork (s : State) (g : Nat) (e : Evl) : s.KeepsWork (s.residualTests g e) g := by
  unfold State.residualTests
  dsimp only
  split
  · exact .refl s g
  · have htake (l : SlotLane) : (l.take e).recent = l.recent ∧ (l.take e).check = l.check := by
      unfold SlotLane.take
      dsimp only
      split <;> exact ⟨rfl, rfl⟩
    have hlane (u : State) : u.KeepsWork (u.updLane g e.slot fun l => l.take e) g := .updLane u g e.slot (htake _).1 (htake _).2
    exact (((s.evalTest_keepsWork g e).trans (hlane _)).trans (State.stuckTest_keepsWork ..)).trans (State.driftTest_keepsWork ..)

theorem State.gatherVector_keepsWork (s : State) (g : Nat) (e : Evl) : s.KeepsWork (s.gatherVector g e) g := by
  unfold State.gatherVector
  exact .updTuss s g rfl rfl rfl

theorem State.mateVectors_keepsWork (s : State) (g : Nat) (p q : Evl) : s.KeepsWork (s.mateVectors g p q) g := by
  unfold State.mateVectors
  exact .updTuss s g rfl rfl rfl

theorem State.pairUp_keepsWork (s : State) (g : Nat) (e : Evl) : s.KeepsWork (s.pairUp g e) g := by
  unfold State.pairUp
  split
  · exact .updTuss s g rfl rfl rfl
  · next x _ =>
    dsimp only
    have hmate (p q : Evl) : s.KeepsWork ((s.updTuss g fun t => { t with pairs := t.pairs.erase x }).mateVectors g p q) g :=
      (State.KeepsWork.updTuss s g (u := fun t => { t with pairs := t.pairs.erase x }) rfl rfl rfl).trans (State.mateVectors_keepsWork ..)
    have hend (u : State) (hu : s.KeepsWork u g) (b : Bool) (tr : Trigger) :
        s.KeepsWork (if b then u else (u.set (F.GRS_LANE_STATUS_DUP_FAIL g) 1).trigger g tr) g := by
      split
      · exact hu
      · exact (hu.trans (.of_eq (by simp))).trans (State.trigger_keepsWork ..)
    exact hend _ (hmate _ _) _ _

/-! What a lookup comes to (R74, R97, R98). -/

section
variable {g : Tsk} {a : Arr} {s : State} {e x : Evl} {rest : List Evl}

theorem exec_lookup {ecc : List (BitVec 16 × Ecc)} (hruns : s.runsT g = true) :
    exec (.lookup g a ecc) s = .next (s.lookupStep g a (ecc.map fun p => (p.1.toNat, p.2))) := by
  change Host.Outcome.next (s.ifT g _) = _
  rw [State.ifT, if_pos hruns]

/-- A lookup without an ECC finding: the oldest codes leave, and their values go where the evaluation's kind sends them. -/
theorem State.lookupStep_clean (hcoded : (s.arr g a).coded = e :: rest) (hx : x = { e with vals := s.valuesOf g e, poison := [] }) :
    s.lookupStep g a [] = (s.updArr g a fun r => { r with coded := rest }).deliverValues g x := by
  unfold State.lookupStep
  rw [hcoded, hx]
  rfl

/-- The values of an EVAL task of one phase join the partial sums, and are the latest of its slot. -/
theorem State.deliverValues_work (hkind : x.kind = .work) (hphase : x.phase ≠ 2) :
    ((s.deliverValues g x).tuss g).arrs = (s.tuss g).arrs ∧ ((s.deliverValues g x).tuss g).sums = (s.tuss g).sums ++ [⟨[x]⟩] ∧
      ((s.deliverValues g x).lane g x.slot).recent.head? = some x := by
  obtain ⟨u, hu⟩ : ∃ u, ((s.addPartial g x).gatherVector g x).residualTests g x = u := ⟨_, rfl⟩
  obtain ⟨v, hv⟩ : ∃ v, u.updLane g x.slot (fun l => { l with recent := (x :: l.recent).take 4 }) = v := ⟨_, rfl⟩
  have hadd : ((s.addPartial g x).tuss g).arrs = (s.tuss g).arrs ∧ ((s.addPartial g x).tuss g).sums = (s.tuss g).sums ++ [⟨[x]⟩] := by
    unfold State.addPartial
    rw [State.tuss_updTuss, if_neg hphase]
    exact ⟨rfl, rfl⟩
  have hkeep : (s.addPartial g x).KeepsWork u g := hu ▸ (State.gatherVector_keepsWork ..).trans (State.residualTests_keepsWork ..)
  have hlane : (v.tuss g).arrs = (u.tuss g).arrs ∧ (v.tuss g).sums = (u.tuss g).sums ∧ (v.lane g x.slot).recent.head? = some x := by
    refine ⟨?_, ?_, ?_⟩
    · rw [← hv, State.updLane, State.tuss_updTuss]
    · rw [← hv, State.updLane, State.tuss_updTuss]
    · rw [← hv, State.lane_updLane, if_pos rfl]
      rfl
  have hpair : v.KeepsWork (s.deliverValues g x) g := by
    unfold State.deliverValues
    rw [hkind]
    dsimp only
    rw [hu, hv]
    split
    · exact v.pairUp_keepsWork g x
    · exact .refl v g
  exact ⟨hpair.arrs.trans (hlane.1.trans (hkeep.arrs.trans hadd.1)), hpair.sums.trans (hlane.2.1.trans (hkeep.sums.trans hadd.2)),
    by rw [hpair.recent, hlane.2.2]⟩

/-- The values of a check's re-run go to the check of its slot. -/
theorem State.deliverValues_rerun (hkind : x.kind = .rerun) : ((s.deliverValues g x).tuss g).arrs = (s.tuss g).arrs ∧
    ((s.deliverValues g x).lane g x.slot).check = (s.lane g x.slot).check.map fun c => { c with rerun := some x } := by
  have hkeep : s.KeepsWork (s.residualTests g x) g := State.residualTests_keepsWork ..
  unfold State.deliverValues
  rw [hkind]
  dsimp only
  refine ⟨by rw [State.updLane, State.tuss_updTuss, hkeep.arrs], ?_⟩
  rw [State.lane_updLane, if_pos rfl, hkeep.check]

theorem State.deliverValues_only (hkind : x.kind = .work ∨ x.kind = .rerun) :
    s.Only ({.tuss g, .reg .GRS_ARB_CNT, .reg .GRS_STATUS, .reg .TSK_QUAR_CAUSE, .reg .GRS_LANE_STATUS} ∪ Part.event) (s.deliverValues g x) := by
  unfold State.deliverValues
  rcases hkind with h | h <;> rw [h] <;> simp

end

/-! ### TABLE_UE through writes of memory

The write of a record can reach table SRAM, and is then dropped with TABLE_WR_REJECT in the same register: TABLE_UE stays. -/

/-- TABLE_UE of every Tussock reads in `t` as in `s`. -/
def State.TableUeKept (s t : State) : Prop := ∀ g, t.get (F.TSK_CONV_STATUS_TABLE_UE g) = s.get (F.TSK_CONV_STATUS_TABLE_UE g)

namespace State.TableUeKept
variable {s t u : State}

theorem refl (s : State) : s.TableUeKept s := fun _ => rfl

theorem trans (h : s.TableUeKept t) (k : t.TableUeKept u) : s.TableUeKept u := fun g => (k g).trans (h g)

theorem of_only {ps : Set Part} (h : s.Only ps t) (hp : .reg .TSK_CONV_STATUS ∉ ps) : s.TableUeKept t :=
  fun g => h.get (by simpa [F.TSK_CONV_STATUS_TABLE_UE] using hp)

theorem wrReject (s : State) (g : Nat) : s.TableUeKept (s.set (F.TSK_CONV_STATUS_TABLE_WR_REJECT g) 1) := fun g' =>
  State.get_set_ne _ _ (Fld.key_ne_of_lo (by simp [F.TSK_CONV_STATUS_TABLE_UE, F.TSK_CONV_STATUS_TABLE_WR_REJECT]))

end State.TableUeKept

theorem State.writeTableWords_ue (s : State) (g off : Nat) (bytes : List Byte) : s.TableUeKept (s.writeTableWords g off bytes) := by
  fun_induction State.writeTableWords s g off bytes with
  | case1 s off b0 b1 b2 b3 rest u ih =>
    refine .trans ?_ ih
    unfold u
    split
    · exact .refl s
    · split
      · exact .wrReject s g
      · dsimp only
        split
        · exact .of_only (ps := {.mem, .tuss g}) (by simp) (by simp)
        · exact .of_only (ps := {.mem}) (by simp) (by simp)
  | case2 => exact .refl _

theorem State.putRaw_ue (s : State) (a : Nat) (bytes : List Byte) : s.TableUeKept (s.putRaw a bytes) := by
  unfold State.putRaw
  split
  · exact .of_only (ps := {.mem}) (by simp) (by simp)
  · exact .of_only (ps := {.mem}) (by simp) (by simp)
  · next g off _ =>
    unfold State.writeTable
    split
    · exact .wrReject s g
    · exact s.writeTableWords_ue g off bytes
  · exact .of_only (ps := {.out}) (by simp) (by simp)
  · exact .refl s

theorem State.putBlock_ue (s : State) (a : Nat) (b : Block) : s.TableUeKept (s.putBlock a b) := by
  cases ht : tagged a with
  | true => exact .of_only (ps := {.mem, .latent}) (State.only_putBlock_tagged ht (by simp) (.refl s _)) (by simp)
  | false =>
    unfold State.putBlock
    rw [ht, if_neg Bool.false_ne_true]
    exact s.putRaw_ue a b.data

theorem State.mergePart_ue (s : State) (a : Nat) (bytes : List Byte) : s.TableUeKept (s.mergePart a bytes) := by
  have hcross (b : Block) (xs : List Nat) : s.TableUeKept (s.crossing b xs).1 := by
    have h : s.Only {.flits, .reg .CHN_HDG_ERR} (s.crossing b xs).1 := by simp
    exact .of_only h (by simp)
  have hcount (u : State) (e : Ecc) (bad : Bool) : u.TableUeKept (u.mergeCount (a / 256 * 256) e bad) := by
    have h : u.Only {.chans, .reg .CHN_STK_ERR, .reg .TSK_BANK_ECC, .reg .CHN_HDG_ERR} (u.mergeCount (a / 256 * 256) e bad) := by simp
    exact .of_only h (by simp)
  unfold State.mergePart
  dsimp only
  split
  · exact s.putRaw_ue a bytes
  · split
    · exact (hcross _ _).trans (State.putBlock_ue _ _ _)
    · exact ((hcross _ _).trans (hcount _ _ _)).trans (State.putBlock_ue _ _ _)

theorem State.mergeParts_ue (fuel : Nat) (s : State) (a : Nat) (bytes : List Byte) : s.TableUeKept (s.mergeParts a bytes fuel) := by
  induction fuel generalizing s a bytes with
  | zero => exact .refl s
  | succ fuel ih =>
    unfold State.mergeParts
    dsimp only
    split
    · exact s.mergePart_ue a _
    · exact (s.mergePart_ue a _).trans (ih _ _ _)

theorem State.engWrite_ue (s : State) (n a : Nat) (bytes : List Byte) : s.TableUeKept (s.engWrite n a bytes) := by
  unfold State.engWrite
  split
  · have h : s.Only ({.reg .GLB_RGN_FAULT_ADDR, .reg .GLB_RGN_FAULT_INFO} ∪ Part.event) (s.addressFault (.eng n) true a (by assumption)) := by simp
    exact .of_only h (by simp)
  · exact s.mergeParts_ue _ a bytes

theorem State.writeRecord_ue (s : State) (j : Job) (state tToken : Nat) : s.TableUeKept (s.writeRecord j state tToken) := by
  have hseen : s.Only {.boot} (s.recordSeen j state) := by simp
  unfold State.writeRecord
  dsimp only
  split
  · exact .refl s
  · split
    · exact (State.TableUeKept.of_only hseen (by simp)).trans (State.engWrite_ue _ _ _ _)
    · exact (State.TableUeKept.of_only hseen (by simp)).trans (State.engWrite_ue _ _ _ _)

/-- What a token may touch beside the memory that its record is written to. -/
def Part.tokenTail : Set Part := {.areas, .commits, .engines, .jobs, .leas, .prods, .provs, .reg .CHN_ENG_STATUS, .reg .CHN_TAGS, .reg .GRS_EVT_CNT,
  .reg .GRS_PROV, .reg .GRS_STATUS, .reg .LEA_CTRL_STAT, .reg .LEA_STATUS} ∪ Part.event ∪ Part.tusss

theorem State.retractJob_ue (s : State) (id : Nat) : s.TableUeKept (s.retractJob id) := by
  unfold State.retractJob
  split
  · exact .refl s
  · next j hj =>
    split
    · unfold State.token
      rw [hj]
      dsimp only
      split
      · exact .refl s
      · obtain ⟨u, hu⟩ : ∃ u, s.writeRecord j (if false = true then 2 else 3) s.time = u := ⟨_, rfl⟩
        rw [hu]
        refine (hu ▸ s.writeRecord_ue j _ _).trans (.of_only (ps := Part.tokenTail) ?_ (by simp [Part.tokenTail]))
        unfold Part.tokenTail
        simp (disch := simp (disch := simp))
    · exact .of_only (ps := {.jobs}) (by simp) (by simp)

theorem State.retractArray_ue (s : State) (g a since : Nat) : s.TableUeKept (s.retractArray g a since) := by
  have hjobs (ids : List Nat) (u : State) : u.TableUeKept (u.retractJobs ids) := by
    unfold State.retractJobs
    induction ids generalizing u with
    | nil => exact .refl u
    | cons id ids ih => exact (u.retractJob_ue id).trans (ih _)
  have hlate (u : State) (os : List Owner) : u.TableUeKept (u.lateFor g a since os) := by
    have h : u.Only ({.reg .GRS_EVT_CNT, .reg .GRS_SUSPECT_INFO, .reg .GRS_SUSPECT_TIME, .reg .GRS_STATUS} ∪ Part.event) (u.lateFor g a since os) := by simp
    exact .of_only h (by simp)
  unfold State.retractArray
  exact (hjobs _ s).trans (hlate _ _)

theorem State.wrongArray_ue (s : State) (g a k : Nat) (cols : List Nat) (vecs : List Evl) : s.TableUeKept (s.wrongArray g a k cols vecs) := by
  unfold State.wrongArray
  dsimp only
  have hcnt : s.TableUeKept (s.inc F.GRS_ARB_CNT_PERSIST_CNT) := .of_only (ps := {.reg .GRS_ARB_CNT}) (by simp [F.GRS_ARB_CNT_PERSIST_CNT]) (by simp)
  obtain ⟨u, hu⟩ : ∃ u, s.inc F.GRS_ARB_CNT_PERSIST_CNT = u := ⟨_, rfl⟩
  obtain ⟨v, hv⟩ : ∃ v, u.retractArray g a (u.suspectStart g a k cols) = v := ⟨_, rfl⟩
  rw [hu] at hcnt ⊢
  rw [hv]
  refine (hcnt.trans (hv ▸ u.retractArray_ue g a _)).trans (.of_only (ps := {.tuss g, .reg .TSK_ARR_STATE, .reg .BRK_STATUS}) ?_ (by simp))
  simp

/-- The findings of a lookup: TABLE_UE is set once a word of them is uncorrectable. -/
theorem State.get_tableEccs (g a : Nat) (ecc : List (Nat × Ecc)) (s : State) : (ecc.foldl (fun s p => s.tableEcc g a p.1 p.2) s).get
    (F.TSK_CONV_STATUS_TABLE_UE g) = if ecc.any (fun p => p.2 == .ue) then 1 else s.get (F.TSK_CONV_STATUS_TABLE_UE g) := by
  induction ecc generalizing s with
  | nil => rfl
  | cons p ecc ih =>
    have hone : (s.tableEcc g a p.1 p.2).get (F.TSK_CONV_STATUS_TABLE_UE g) = if p.2 == .ue then 1 else s.get (F.TSK_CONV_STATUS_TABLE_UE g) := by
      unfold State.tableEcc
      cases p.2 with
      | ok => rfl
      | ce =>
        rw [State.get_updTuss, State.get_set_ne _ _ (Fld.key_ne_of_lo (by simp [F.TSK_CONV_STATUS_TABLE_UE, F.TSK_CONV_STATUS_TABLE_CE])),
          State.get_inc_ne _ (Fld.key_ne_of_reg (by simp [F.TSK_CONV_STATUS_TABLE_UE, F.TSK_TABLE_ECC_CE_CNT]))]
        rfl
      | ue =>
        dsimp only
        rw [State.get_set_ne _ _ (Fld.key_ne_of_lo (by simp [F.TSK_CONV_STATUS_TABLE_UE, F.TSK_CONV_STATUS_UE_ARRAY])), State.get_set_same]
        rfl
    rw [List.foldl_cons, ih, hone, List.any_cons]
    cases p.2 == Ecc.ue <;> cases ecc.any (fun p => p.2 == .ue) <;> rfl

/-- Settles O19: a conversion and a lookup move the head of the array's list on; the tests on the values touch neither arrays, sums nor the
slot's latest evaluations, and no write of a retracted job's record reaches TABLE_UE. -/
theorem conversionAndLookupPassResultsOn : Obligations.ConversionAndLookupPassResultsOn := by
  unfold Obligations.ConversionAndLookupPassResultsOn
  refine ⟨?_, ?_, ?_, ?_, ?_⟩
  · intro g a dev s e x rest hruns hsampled ha hx
    obtain ⟨u, hu⟩ : ∃ u, s.updArr g a (fun r => { r with sampled := rest, coded := r.coded ++ [x] }) = u := ⟨_, rfl⟩
    have hexec : exec (.conversion g a dev) s = .next (u.countSat g x) := by
      change Host.Outcome.next (s.ifT g _) = _
      rw [State.ifT, if_pos hruns, State.convert, hsampled]
      dsimp only
      rw [← hx, hu]
    have hxa : x.arr = a := by rw [hx]; exact ha
    have hsat : (u.countSat g x) = (u.incBy (F.TSK_CONV_SAT_SAT_CNT g a) (x.sat.filter (· < 256)).length).incBy (F.TSK_CONV_SAT_AUX_SAT_CNT g a)
        (x.sat.filter (256 ≤ ·)).length := by rw [State.countSat, hxa]
    have hne : (F.TSK_CONV_SAT_SAT_CNT g a).key ≠ (F.TSK_CONV_SAT_AUX_SAT_CNT g a).key :=
      Fld.key_ne_of_lo (by simp [F.TSK_CONV_SAT_SAT_CNT, F.TSK_CONV_SAT_AUX_SAT_CNT])
    have harr : (u.countSat g x).arr g a = u.arr g a := by
      have h : u.Only {.reg .TSK_CONV_SAT} (u.countSat g x) := by simp
      rw [State.arr, h.tuss (by simp), ← State.arr]
    have hget (f : Fld) : u.get f = s.get f := by rw [← hu]; rfl
    refine ⟨_, hexec, ?_, ?_, ?_, ?_, ?_, ?_, ?_⟩
    · rw [harr, ← hu, State.arr_updArr]
    · rw [harr, ← hu, State.arr_updArr]
    · rw [hx, State.coded]
    · rw [hx, State.coded]
      simp
    · rw [hsat, State.get_incBy_ne _ (Ne.symm hne), State.get_incBy_same, hget]
    · rw [hsat, State.get_incBy_same, State.get_incBy_ne _ hne, hget]
    · rw [hsat, State.incBy_eq, State.incBy_eq]
      exact (((hu ▸ (State.OnlyTuss.refl s g _).upd _ : s.OnlyTuss u g _)).set _ (by simp)).set _ (by simp)
  · intro g a dev s hnone
    change Host.Outcome.next (s.ifT g _) = _
    rw [State.ifT, State.convert, hnone]
    dsimp only
    rw [ite_self]
  · intro g a s e x rest hruns hcoded hx
    obtain ⟨u, hu⟩ : ∃ u, s.updArr g a (fun r => { r with coded := rest }) = u := ⟨_, rfl⟩
    have hexec : exec (.lookup g a []) s = .next (u.deliverValues g x) := by
      rw [exec_lookup hruns, List.map_nil, State.lookupStep_clean hcoded hx, hu]
    have hslot : x.slot = e.slot := by rw [hx]
    have hframe (hkind : x.kind = .work ∨ x.kind = .rerun) : s.Only ({.tuss g, .reg .GRS_ARB_CNT, .reg .GRS_STATUS, .reg .TSK_QUAR_CAUSE,
        .reg .GRS_LANE_STATUS} ∪ Part.event) (u.deliverValues g x) := by
      have hsu : s.Only {.tuss g} u := by rw [← hu]; simp
      exact (hsu.mono (by simp)).trans (State.deliverValues_only hkind)
    have hcodes (h : ((u.deliverValues g x).tuss g).arrs = (u.tuss g).arrs) : ((u.deliverValues g x).arr g a).coded = rest := by
      rw [State.arr, h, ← State.arr, ← hu, State.arr_updArr]
    have hsums : (u.tuss g).sums = (s.tuss g).sums := by rw [← hu, State.updArr, State.tuss_updTuss]
    have hlane : u.lane g e.slot = s.lane g e.slot := by rw [← hu, State.lane, State.updArr, State.tuss_updTuss, State.lane]
    refine ⟨fun hkind hphase => ?_, fun hkind => ?_⟩
    · have hkind' : x.kind = .work := by rw [hx]; exact hkind
      obtain ⟨harrs, hadd, hrecent⟩ := u.deliverValues_work (g := g) hkind' (by rw [hx]; exact hphase)
      have honly := hframe (.inl hkind')
      exact ⟨_, hexec, hcodes harrs, by rw [hadd, hsums], hslot ▸ hrecent, fun h hh => honly.tuss (by simpa using hh),
        honly.eq_mix.trans (by simp [State.mix])⟩
    · have hkind' : x.kind = .rerun := by rw [hx]; exact hkind
      obtain ⟨harrs, hcheck⟩ := u.deliverValues_rerun (g := g) hkind'
      have honly := hframe (.inr hkind')
      exact ⟨_, hexec, hcodes harrs, by rw [← hlane, ← hslot, hcheck], fun h hh => honly.tuss (by simpa using hh),
        honly.eq_mix.trans (by simp [State.mix])⟩
  · intro g a ecc s hruns hcoded hue
    obtain ⟨e, rest, hcoded⟩ := List.exists_cons_of_ne_nil hcoded
    obtain ⟨fs, hfs⟩ : ∃ fs, ecc.map (fun p => (p.1.toNat, p.2)) = fs := ⟨_, rfl⟩
    have hany : fs.any (fun p => p.2 == .ue) = true := by
      rw [← hfs, List.any_map]
      exact hue
    have hbad : ((fs.filter fun p => p.2 == .ue).map fun p => p.1 % 0x2080 / 0x20).isEmpty = false := by
      obtain ⟨p, hp, hpue⟩ := List.any_eq_true.1 hany
      rw [List.isEmpty_eq_false_iff_exists_mem]
      exact ⟨_, List.mem_map.2 ⟨p, List.mem_filter.2 ⟨hp, hpue⟩, rfl⟩⟩
    rw [exec_lookup hruns, hfs]
    unfold State.lookupStep
    rw [hcoded]
    dsimp only
    rw [hbad, if_neg Bool.false_ne_true]
    obtain ⟨u, hu⟩ : ∃ u, fs.foldl (fun s p => s.tableEcc g a p.1 p.2) (s.updArr g a fun r => { r with coded := rest }) = u := ⟨_, rfl⟩
    have huue : u.get (F.TSK_CONV_STATUS_TABLE_UE g) = 1 := by rw [← hu, State.get_tableEccs, hany, if_pos rfl]
    rw [hu]
    refine ⟨_, rfl, ?_, (State.wrongArray_spec ..).1⟩
    rw [State.wrongArray_ue, ← huue]
    have hdeliver (x : Evl) : u.Only ({.jobs, .tuss g, .reg .GRS_ARB_CNT, .reg .GRS_STATUS, .reg .TSK_QUAR_CAUSE, .reg .GRS_LANE_STATUS} ∪ Part.event)
        (u.deliverValues g x) := by simp
    exact (hdeliver _).get (by simp [F.TSK_CONV_STATUS_TABLE_UE])
  · intro g s hruns
    refine ⟨_, rfl, ?_, ?_⟩
    · rw [State.ifT, if_pos hruns, State.tuss_updTuss]
    · rw [State.ifT, if_pos hruns]
      exact (State.OnlyTuss.refl s g []).upd _

end Sys2Proof.Machine

namespace Sys2Proof.Machine
open Sys2Proof

/-! ### What the end of a window comes to -/

theorem State.get_brkCurrent_temp (s : State) (g a : Nat) :
    (s.brkCurrent g).get (F.BRK_ARR_CAL_TEMP g a) = s.get (F.BRK_ARR_CAL_TEMP g a) := by
  unfold State.brkCurrent
  exact (State.get_set_ne _ _ (Fld.key_ne_of_reg (by simp [F.BRK_STATUS_CURRENT, F.BRK_ARR_CAL_TEMP]))).trans
    (State.get_foldl (fun u x => State.get_set_ne _ _ (Fld.key_ne_of_lo (by simp [F.BRK_ARR_CAL_STALE, F.BRK_ARR_CAL_TEMP]))) s)

theorem State.get_stamp (s : State) (g a temp : Nat) (count : Bool) :
    (s.stamp g a temp count).get (F.BRK_ARR_CAL_TEMP g a) = temp % 2 ^ 8 ∧
    (s.stamp g a temp count).get (F.BRK_ARR_TIME_TIME g a) = s.swath * 8192 % 2 ^ (F.BRK_ARR_TIME_TIME g a).w := by
  have hswath : (if count then s.inc (F.BRK_ARR_CAL_COUNT g a) else s).swath = s.swath := by
    split
    · unfold State.inc
      split <;> rfl
    · rfl
  unfold State.stamp
  dsimp only
  rw [hswath]
  refine ⟨?_, State.get_set_same ..⟩
  rw [State.get_set_ne _ _ (Fld.key_ne_of_reg (by simp [F.BRK_ARR_TIME_TIME, F.BRK_ARR_CAL_TEMP])), State.get_set_same]
  rfl

/-- A stage shown: BRK_STATUS names the array and the stage. -/
theorem State.get_brkStage (s : State) (g arr stage : Nat) : (s.brkStage g arr stage).get (F.BRK_STATUS_STAGE g) = stage % 8 ∧
    (s.brkStage g arr stage).get (F.BRK_STATUS_STEP_ARRAY g) = arr % 32 := by
  unfold State.brkStage
  refine ⟨State.get_set_same .., ?_⟩
  rw [State.get_set_ne _ _ (Fld.key_ne_of_lo (by simp [F.BRK_STATUS_STAGE, F.BRK_STATUS_STEP_ARRAY])), State.get_set_same]
  rfl

/-- In a channel whose admission is closed nothing is asked for. -/
theorem State.askOn_closed {s : State} {g : Nat} (h : (s.chan (chanOf g)).opened = false) : s.askOn g = s := by
  have hask : s.askNow g = s := by
    unfold State.askNow
    rw [if_neg (by simp [h])]
  unfold State.askOn
  rw [hask]
  dsimp only
  split
  · rfl
  · rw [if_neg (by simp [h])]

theorem State.Only.genSet_eq {s t : State} {ps : Set Part} (h : s.Only ps t) (hp : .genSets ∉ ps) (g p : Nat) : t.genSet g p = s.genSet g p := by
  unfold State.genSet State.trim
  simp only [if_true]
  rw [h.same .genSets hp]

/-- The codes that an update of the reference generator applies rest on the temperature, the generator's sets and the codes before. -/
theorem State.refCodes_updateGen {s t : State} {g : Nat} (htemp : t.get (F.TSK_RESTORE_TEMP_TEMP g) = s.get (F.TSK_RESTORE_TEMP_TEMP g))
    (hsets : t.genSets = s.genSets) (hcodes : (t.tuss g).refCodes = (s.tuss g).refCodes) (d : Nat × Nat × Nat) :
    ((t.updateGen g d).tuss g).refCodes = ((s.updateGen g d).tuss g).refCodes := by
  have hset (p : Nat) : t.genSet g p = s.genSet g p := by
    unfold State.genSet State.trim
    simp only [if_true]
    rw [hsets]
  have htrim (u v : State) (i x : Nat) (h : u.genSets = v.genSets) : (u.setTrim g 17 i x).genSets = (v.setTrim g 17 i x).genSets := by
    unfold State.setTrim
    simp only [if_true]
    split
    · simp only [h]
    · exact h
  have hgen (u v : State) (temp : Nat) (h : u.genSets = v.genSets) : u.genCodes g temp = v.genCodes g temp := by
    unfold State.genCodes State.genSet State.trim
    simp only [if_true]
    rw [h]
  unfold State.updateGen
  dsimp only
  rw [htemp]
  split
  · exact hcodes
  · rw [hset, State.tuss_updTuss, State.tuss_updTuss]
    exact hgen _ _ _ (htrim _ _ _ _ (htrim _ _ _ _ hsets))

/-- The end of a window for the pass leaves the state of an array that was verified, and every Tussock's codes. -/
theorem State.passNote_spec (s : State) (g : Nat) (w : Window) : ((s.passNote g w).tuss g).refCodes = (s.tuss g).refCodes ∧
    (w.verified = true → s.Only {.tuss g} (s.passNote g w)) := by
  unfold State.passNote
  cases hv : w.verified with
  | true =>
    rw [if_pos rfl, State.tuss_updTuss]
    exact ⟨rfl, fun _ => by simp⟩
  | false =>
    refine ⟨?_, fun h => absurd h (by simp)⟩
    rw [if_neg Bool.false_ne_true]
    split
    · rfl
    · split
      · obtain ⟨u, hu⟩ : ∃ u, s.setArrState g w.arr aQUAR = u := ⟨_, rfl⟩
        obtain ⟨as, has⟩ := s.tuss_setArrState g w.arr aQUAR
        have hrest : u.Only ({.reg .BRK_STATUS, .reg .BRK_CAL_CNT} ∪ Part.event)
            ((u.inc (F.BRK_CAL_CNT_FAULT_CNT g)).brkFault g (F.BRK_STATUS_ARRAY_FAULT g)) := by
          simp [F.BRK_CAL_CNT_FAULT_CNT, F.BRK_STATUS_ARRAY_FAULT]
        unfold State.handToGorse
        dsimp only
        rw [State.tuss_updTuss, hu, hrest.tuss (by simp), ← hu, has]
      · rw [State.tuss_updTuss]

theorem State.setArrState_tuss_eq (s : State) (g a v : Nat) : ((s.setArrState g a v).tuss g).refCodes = (s.tuss g).refCodes ∧
    ((s.setArrState g a v).tuss g).bringup = (s.tuss g).bringup ∧ ((s.setArrState g a v).tuss g).window = (s.tuss g).window := by
  obtain ⟨as, has⟩ := s.tuss_setArrState g a v
  rw [has]
  exact ⟨rfl, rfl, rfl⟩

/-- The end of a window for a repair: an array with a failed column is QUARANTINED, another keeps its state. -/
theorem State.repairNote_spec (s : State) (g : Nat) {w : Window} (ha : w.arr < 17) :
    ((s.repairNote g w).tuss g).refCodes = (s.tuss g).refCodes ∧
    (w.failed = [] → s.Only {.tuss g} (s.repairNote g w)) ∧ (w.failed ≠ [] → (s.repairNote g w).arrState g w.arr = aQUAR) := by
  have hquar := s.arrState_setArrState g (a := w.arr) (b := w.arr) (v := aQUAR) ha ha (by decide)
  rw [if_pos rfl] at hquar
  unfold State.repairNote
  cases hf : w.failed with
  | nil =>
    simp only [List.isEmpty_nil, Bool.not_true, if_true, Bool.false_eq_true, if_false]
    refine ⟨?_, fun _ => ?_, fun h => absurd rfl h⟩
    · split
      · split <;> rw [State.tuss_updTuss]
      · rfl
    · split
      · split <;> simp
      · exact .refl s _
  | cons c cs =>
    simp only [List.isEmpty_cons, Bool.not_false, if_true, Bool.false_eq_true, if_false]
    refine ⟨?_, fun h => absurd h (by simp), fun _ => ?_⟩
    · split
      · rw [State.tuss_updTuss]
        exact (s.setArrState_tuss_eq g w.arr aQUAR).1
      · unfold State.repairColumn
        dsimp only
        rw [State.tuss_updTuss]
        split <;> exact (s.setArrState_tuss_eq g w.arr aQUAR).1
    · split
      · exact hquar
      · exact hquar

/-- A window that is over: no window is left, and BRK_STATUS shows none. -/
def State.windowOff (s : State) (g : Nat) : State :=
  (((s.updTuss g fun t => { t with window := none }).shrinkBit (chanOf g)).brkStage g 0x1F 0).brkCurrent g

/-- The calibration that a window has verified: the array is stamped, and the generator follows it. -/
def State.windowStamp (s : State) (g : Nat) (w : Window) : State :=
  if w.verified then ((s.stamp g w.arr (s.get (F.TSK_RESTORE_TEMP_TEMP g)) true).updateGen g w.gen).rebaseArr g w.arr else s

theorem State.windowEnd_eq {s : State} {g : Nat} {w : Window} (hw : (s.tuss g).window = some w) (hstage : w.stage = 6)
    (hoff : 158 ≤ w.offset s.swath) : s.windowEnd g =
      (((((s.setArrState g w.arr (if w.back = aWFAULT then aWFAULT else aVALID)).windowStamp g w).passNote g w).repairNote g w).windowOff g) := by
  unfold State.windowEnd
  rw [hw]
  dsimp only
  rw [if_neg (by omega)]
  rfl

theorem State.windowOff_spec (s : State) (g : Nat) : (s.windowOff g).tuss g = { s.tuss g with window := none } ∧
    (s.windowOff g).get (F.BRK_STATUS_STAGE g) = 0 ∧ (∀ a, (s.windowOff g).arrState g a = s.arrState g a ∧
      (s.windowOff g).get (F.BRK_ARR_CAL_TEMP g a) = s.get (F.BRK_ARR_CAL_TEMP g a) ∧
      (s.windowOff g).get (F.BRK_ARR_TIME_TIME g a) = s.get (F.BRK_ARR_TIME_TIME g a)) := by
  obtain ⟨u, hu⟩ : ∃ u, (s.updTuss g fun t => { t with window := none }).shrinkBit (chanOf g) = u := ⟨_, rfl⟩
  have hsu : s.Only {.tuss g, .reg .CHN_ADM_BUDGET} u := by rw [← hu]; simp
  have huw : u.tuss g = { s.tuss g with window := none } := by
    have h : (s.updTuss g fun t => { t with window := none }).Only {.reg .CHN_ADM_BUDGET} u := by rw [← hu]; simp
    rw [h.tuss (by simp), State.tuss_updTuss]
  have hend : u.Only {.reg .BRK_STATUS, .reg .BRK_ARR_CAL} ((u.brkStage g 0x1F 0).brkCurrent g) := by simp
  have hstage : u.Only {.reg .BRK_STATUS} (u.brkStage g 0x1F 0) := by simp
  have heq : s.windowOff g = (u.brkStage g 0x1F 0).brkCurrent g := by rw [← hu, State.windowOff]
  rw [heq]
  refine ⟨(hend.tuss (by simp)).trans huw, ?_, fun a => ⟨?_, ?_, ?_⟩⟩
  · rw [State.get_brkCurrent _ _ (by simp [F.BRK_STATUS_STAGE]) (by simp [F.BRK_STATUS_STAGE]), (u.get_brkStage g 0x1F 0).1]
  · unfold State.arrState
    rw [hend.get (by simp [F.TSK_ARR_STATE_STATE]), hsu.get (by simp [F.TSK_ARR_STATE_STATE])]
  · rw [State.get_brkCurrent_temp, hstage.get (by simp [F.BRK_ARR_CAL_TEMP]), hsu.get (by simp [F.BRK_ARR_CAL_TEMP])]
  · rw [hend.get (by simp [F.BRK_ARR_TIME_TIME]), hsu.get (by simp [F.BRK_ARR_TIME_TIME])]

/-- The stamp of a verified window: the array's temperature and time, and the codes that its means ask for. -/
theorem State.windowStamp_spec (s : State) (g : Nat) {w : Window} (hv : w.verified = true) :
    ((s.windowStamp g w).tuss g).refCodes = ((s.updateGen g w.gen).tuss g).refCodes ∧
    (s.windowStamp g w).get (F.BRK_ARR_CAL_TEMP g w.arr) = s.get (F.TSK_RESTORE_TEMP_TEMP g) % 2 ^ 8 ∧
    (s.windowStamp g w).get (F.BRK_ARR_TIME_TIME g w.arr) = s.swath * 8192 % 2 ^ (F.BRK_ARR_TIME_TIME g w.arr).w := by
  obtain ⟨u, hu⟩ : ∃ u, s.stamp g w.arr (s.get (F.TSK_RESTORE_TEMP_TEMP g)) true = u := ⟨_, rfl⟩
  have hsu : s.Only {.reg .BRK_ARR_CAL, .reg .BRK_ARR_TIME} u := by rw [← hu]; simp
  have heq : s.windowStamp g w = (u.updateGen g w.gen).rebaseArr g w.arr := by rw [State.windowStamp, hv, if_pos rfl, hu]
  have hend : u.Only {.genSets, .tuss g} (s.windowStamp g w) := by rw [heq]; simp
  have hrebase (v : State) : ((v.rebaseArr g w.arr).tuss g).refCodes = (v.tuss g).refCodes := by
    unfold State.rebaseArr
    split
    · rfl
    · rw [State.updLane, State.tuss_updTuss]
  have hstamp := s.get_stamp g w.arr (s.get (F.TSK_RESTORE_TEMP_TEMP g)) true
  rw [hu] at hstamp
  refine ⟨?_, ?_, ?_⟩
  · rw [heq, hrebase]
    exact State.refCodes_updateGen (hsu.get (by simp [F.TSK_RESTORE_TEMP_TEMP])) (hsu.same .genSets (by simp)) (by rw [hsu.tuss (by simp)]) _
  · rw [hend.get (by simp [F.BRK_ARR_CAL_TEMP]), hstamp.1]
  · rw [hend.get (by simp [F.BRK_ARR_TIME_TIME]), hstamp.2]

theorem State.windowStamp_only (s : State) (g : Nat) (w : Window) :
    s.Only {.genSets, .tuss g, .reg .BRK_ARR_CAL, .reg .BRK_ARR_TIME} (s.windowStamp g w) := by
  unfold State.windowStamp
  split
  · simp
  · exact .refl s _

/-- A window at its commit ends (R282, step 8, R286, R294). -/
theorem State.windowEnd_spec {s : State} {g : Nat} {w : Window} (hw : (s.tuss g).window = some w) (hstage : w.stage = 6)
    (hoff : 158 ≤ w.offset s.swath) (ha : w.arr < 17) : ((s.windowEnd g).tuss g).window = none ∧ (s.windowEnd g).get (F.BRK_STATUS_STAGE g) = 0 ∧
      (w.verified = true → ((s.windowEnd g).tuss g).refCodes = ((s.updateGen g w.gen).tuss g).refCodes) ∧
      (w.failed = [] → w.verified = true → (s.windowEnd g).arrState g w.arr = (if w.back = aWFAULT then aWFAULT else aVALID) ∧
        (s.windowEnd g).get (F.BRK_ARR_CAL_TEMP g w.arr) = s.get (F.TSK_RESTORE_TEMP_TEMP g) % 2 ^ 8 ∧
        (s.windowEnd g).get (F.BRK_ARR_TIME_TIME g w.arr) = s.swath * 8192 % 2 ^ (F.BRK_ARR_TIME_TIME g w.arr).w) ∧
      (w.failed ≠ [] → (s.windowEnd g).arrState g w.arr = aQUAR) := by
  obtain ⟨u, hu⟩ : ∃ u, s.setArrState g w.arr (if w.back = aWFAULT then aWFAULT else aVALID) = u := ⟨_, rfl⟩
  obtain ⟨v, hv⟩ : ∃ v, u.windowStamp g w = v := ⟨_, rfl⟩
  obtain ⟨x, hx⟩ : ∃ x, v.passNote g w = x := ⟨_, rfl⟩
  obtain ⟨y, hy⟩ : ∃ y, x.repairNote g w = y := ⟨_, rfl⟩
  have heq : s.windowEnd g = y.windowOff g := by rw [State.windowEnd_eq hw hstage hoff, hu, hv, hx, hy]
  obtain ⟨hoffTuss, hoffStage, hoffArr⟩ := y.windowOff_spec g
  have hsu : s.Only {.tuss g, .reg .BRK_STATUS, .reg .TSK_ARR_STATE} u := by rw [← hu]; simp
  have huv : u.Only {.genSets, .tuss g, .reg .BRK_ARR_CAL, .reg .BRK_ARR_TIME} v := hv ▸ u.windowStamp_only g w
  have hpass := hx ▸ v.passNote_spec g w
  have hrepair := hy ▸ x.repairNote_spec g ha
  rw [heq]
  refine ⟨by rw [hoffTuss], hoffStage, fun hver => ?_, fun hfail hver => ?_, fun hfail => ?_⟩
  · rw [hoffTuss]
    refine hrepair.1.trans (hpass.1.trans ?_)
    rw [← hv, (u.windowStamp_spec g hver).1]
    exact State.refCodes_updateGen (hsu.get (by simp [F.TSK_RESTORE_TEMP_TEMP])) (hsu.same .genSets (by simp))
      (hu ▸ (s.setArrState_tuss_eq g w.arr _).1) _
  · have hvy : v.Only {.tuss g} y := (hpass.2 hver).trans (hrepair.2.1 hfail)
    have hstamp := u.windowStamp_spec g hver
    have hswath : u.swath = s.swath := by rw [State.swath, hsu.time_eq (by simp), ← State.swath]
    rw [hv, hsu.get (by simp [F.TSK_RESTORE_TEMP_TEMP]), hswath] at hstamp
    obtain ⟨harr, htemp, htime⟩ := hoffArr w.arr
    refine ⟨harr.trans ?_, htemp.trans ?_, htime.trans ?_⟩
    · unfold State.arrState
      rw [hvy.get (by simp [F.TSK_ARR_STATE_STATE]), huv.get (by simp [F.TSK_ARR_STATE_STATE]), ← State.arrState, ← hu,
        State.arrState_setArrState _ _ ha ha (by split <;> decide), if_pos rfl]
    · rw [hvy.get (by simp [F.BRK_ARR_CAL_TEMP]), hstamp.2.1]
    · rw [hvy.get (by simp [F.BRK_ARR_TIME_TIME]), hstamp.2.2]
  · exact (hoffArr w.arr).1.trans (hrepair.2.2 hfail)

/-! ### What calibration keeps of its Tussock -/

/-- Between `s` and `t` the Tussock's window and its bring-up stay, and so does each array's state, but that an array may be QUARANTINED. -/
structure State.CalKeeps (s t : State) (g : Nat) : Prop where
  bringup : (t.tuss g).bringup = (s.tuss g).bringup
  window : (t.tuss g).window = (s.tuss g).window
  states : ∀ a, a < 17 → t.arrState g a = s.arrState g a ∨ t.arrState g a = aQUAR

namespace State.CalKeeps
variable {s t u : State} {g : Nat}

theorem refl (s : State) (g : Nat) : s.CalKeeps s g := ⟨rfl, rfl, fun _ _ => .inl rfl⟩

theorem trans (h : s.CalKeeps t g) (k : t.CalKeeps u g) : s.CalKeeps u g :=
  ⟨k.bringup.trans h.bringup, k.window.trans h.window, fun a ha => (k.states a ha).elim (fun e => e ▸ h.states a ha) .inr⟩

theorem of_only {ps : Set Part} (h : s.Only ps t) (htuss : .tuss g ∉ ps) (hreg : .reg .TSK_ARR_STATE ∉ ps) : s.CalKeeps t g :=
  ⟨by rw [h.tuss htuss], by rw [h.tuss htuss], fun a _ => .inl (h.get (by simpa [F.TSK_ARR_STATE_STATE] using hreg))⟩

/-- An update of the Tussock's record that leaves its window and its bring-up. -/
theorem updTuss (s : State) (g : Nat) {f : Tuss → Tuss} (hb : (f (s.tuss g)).bringup = (s.tuss g).bringup)
    (hw : (f (s.tuss g)).window = (s.tuss g).window) : s.CalKeeps (s.updTuss g f) g :=
  ⟨by rw [State.tuss_updTuss, hb], by rw [State.tuss_updTuss, hw], fun _ _ => .inl rfl⟩

theorem quarantine (s : State) (g : Nat) {a : Nat} (ha : a < 17) : s.CalKeeps (s.setArrState g a aQUAR) g := by
  obtain ⟨-, hb, hw⟩ := s.setArrState_tuss_eq g a aQUAR
  refine ⟨hb, hw, fun b hb => ?_⟩
  rw [State.arrState_setArrState s g ha hb (by decide)]
  split
  · exact .inr rfl
  · exact .inl rfl

theorem setTrim (s : State) (g a i v : Nat) : s.CalKeeps (s.setTrim g a i v) g := by
  unfold State.setTrim
  split
  · split
    · exact .of_only (ps := {.genSets}) (by simp) (by simp) (by simp)
    · exact .refl s g
  · exact .updTuss s g (f := fun t => { t with trims := Tab.set trimReset t.trims (a * 256 + i) v }) rfl rfl

theorem foldl {α : Type} (xs : List α) (f : State → α → State) (h : ∀ (u : State), ∀ x ∈ xs, u.CalKeeps (f u x) g) (s : State) :
    s.CalKeeps (xs.foldl f s) g := by
  induction xs generalizing s with
  | nil => exact .refl s g
  | cons x xs ih =>
    exact (h s x (List.mem_cons_self ..)).trans (ih (fun u y hy => h u y (List.mem_cons_of_mem _ hy)) (f s x))

/-- A fold that carries a value beside the state. -/
theorem foldl_fst {α β : Type} (xs : List α) (f : State × β → α → State × β) (h : ∀ (p : State × β) (x : α), p.1.CalKeeps (f p x).1 g)
    (p : State × β) : p.1.CalKeeps (xs.foldl f p).1 g := by
  induction xs generalizing p with
  | nil => exact .refl p.1 g
  | cons x xs ih => exact (h p x).trans (ih (f p x))

end State.CalKeeps

section
variable (s : State) (g a : Nat)

theorem State.calVector_keeps (c : CalRun) : s.CalKeeps (s.calVector g a c).1 g := by
  unfold State.calVector
  dsimp only
  split
  · exact .updTuss s g (f := fun t => { t with fresh := false }) rfl rfl
  · split
    · exact .refl s g
    · exact .of_only (ps := {.free}) (by simp) (by simp) (by simp)

theorem State.countSat_keeps (e : Evl) : s.CalKeeps (s.countSat g e) g := .of_only (ps := {.reg .TSK_CONV_SAT}) (by simp) (by simp) (by simp)

theorem State.calZero_keeps (c : CalRun) (ops : List (List (Nat × Int))) : s.CalKeeps (s.calZero g a c ops).1 g :=
  .of_only (ps := {.reg .TSK_CONV_SAT}) (by simp) (by simp) (by simp)

theorem State.calRound_keeps (k most : Nat) (c : CalRun) (ops : List (List (Nat × Int))) : s.CalKeeps (s.calRound g a k most c ops).1 g := by
  unfold State.calRound
  exact .foldl_fst ops _ (fun p _ => (p.1.calVector_keeps g a p.2).trans (State.countSat_keeps _ g _)) (s, c)

theorem State.calVerify_keeps (c : CalRun) (ops : List (List (Nat × Int))) : s.CalKeeps (s.calVerify g a c ops).1 g := by
  unfold State.calVerify
  exact .foldl_fst ops _ (fun p _ => (p.1.calVector_keeps g a p.2).trans (State.countSat_keeps _ g _)) (s, c)

theorem State.useSpare_keeps (row : Nat) : s.CalKeeps (s.useSpare g a row).1 g := by
  unfold State.useSpare
  split
  · exact .refl s g
  · have hcount (u : State) : u.CalKeeps (u.countSpares g a) g := .of_only (ps := {.reg .BRK_ARR_CAL}) (by simp) (by simp) (by simp)
    exact (State.CalKeeps.setTrim s g a _ _).trans (hcount _)

theorem State.rowTests_keeps (xs : List (Nat × Int × Int)) : s.CalKeeps (s.rowTests g a xs).1 g := by
  induction xs generalizing s with
  | nil => exact .refl s g
  | cons x xs ih =>
    unfold State.rowTests
    split
    · have hspare := s.useSpare_keeps g a x.1
      split
      · next u h => exact (h ▸ hspare).trans (ih u)
      · next u h => exact h ▸ hspare
    · exact ih s

theorem State.readBack_keeps (k : Nat) (c : CalRun) (sensed : List (Nat × Nat × Nat × Nat)) : s.CalKeeps (s.readBack g a k c sensed).1 g :=
  .of_only (ps := {.chans, .reg .TSK_ARR_STATUS}) (by simp) (by simp) (by simp)

theorem State.colFails_keeps (cols : List Nat) : s.CalKeeps (s.colFails g a cols) g :=
  .of_only (ps := {.reg .BRK_LAST_FAIL, .reg .BRK_STATUS} ∪ Part.event) (by simp) (by simp) (by simp)

theorem State.loadCandidate_keeps (x : Candidate) : s.CalKeeps (s.loadCandidate g a x) g := by
  unfold State.loadCandidate
  dsimp only
  refine ((State.CalKeeps.foldl _ _ (fun u p _ => ?_) s).trans (.foldl _ _ (fun u p _ => ?_) _)).trans (.foldl _ _ (fun u p _ => ?_) _)
  · exact .setTrim u g a _ _
  · exact .setTrim u g a _ _
  · exact .of_only (ps := {.mem}) (by simp) (by simp) (by simp)

theorem State.putBack_keeps (w : Window) : s.CalKeeps (s.putBack g w) g := by
  unfold State.putBack
  dsimp only
  refine State.CalKeeps.trans ?_ (.foldl _ _ (fun u p _ => .setTrim u g w.arr _ _) _)
  split
  · exact .refl s g
  · exact .of_only (ps := {.mem}) (by simp) (by simp) (by simp)

theorem State.updateGen_keeps (d : Nat × Nat × Nat) : s.CalKeeps (s.updateGen g d) g := by
  unfold State.updateGen
  dsimp only
  split
  · exact .refl s g
  · exact ((State.CalKeeps.setTrim s g 17 _ _).trans (.setTrim _ g 17 _ _)).trans (.updTuss _ g rfl rfl)

theorem State.repairColumn_keeps (ha : a < 17) (slot : Nat) : s.CalKeeps (s.repairColumn g a slot) g := by
  unfold State.repairColumn
  dsimp only
  refine (State.CalKeeps.quarantine s g ha).trans (.updTuss _ g ?_ ?_) <;> split <;> rfl

theorem State.handToGorse_keeps (ha : a < 17) : s.CalKeeps (s.handToGorse g a) g := by
  have hfault (u : State) : u.CalKeeps ((u.inc (F.BRK_CAL_CNT_FAULT_CNT g)).brkFault g (F.BRK_STATUS_ARRAY_FAULT g)) g :=
    .of_only (ps := {.reg .BRK_CAL_CNT, .reg .BRK_STATUS} ∪ Part.event) (by simp [F.BRK_CAL_CNT_FAULT_CNT, F.BRK_STATUS_ARRAY_FAULT]) (by simp) (by simp)
  obtain ⟨u, hu⟩ : ∃ u, ((s.setArrState g a aQUAR).inc (F.BRK_CAL_CNT_FAULT_CNT g)).brkFault g (F.BRK_STATUS_ARRAY_FAULT g) = u := ⟨_, rfl⟩
  have hsu : s.CalKeeps u g := hu ▸ (State.CalKeeps.quarantine s g ha).trans (hfault _)
  unfold State.handToGorse
  dsimp only
  rw [hu]
  exact hsu.trans (.updTuss u g (f := fun t => { t with pass := t.pass.map fun p => { p with handed := p.handed ++ [a] } }) rfl rfl)

end

/-! ### Bring-up calibration (R295, R296) -/

/-- A calibration on stimulus vectors moves no array but to QUARANTINED, and keeps the bring-up. -/
theorem State.calWhole_keeps (s : State) (g : Nat) {a : Nat} (ha : a < 17) (fs : List CalFinding) : s.CalKeeps (s.calWhole g a fs).1 g := by
  have hnote (u : State) (failed : List Nat) : u.CalKeeps (State.calWhole.failNote g a u failed) g := by
    unfold State.calWhole.failNote
    split
    · exact .refl u g
    · exact u.repairColumn_keeps g a ha _
  have hstamp (u : State) (t : Nat) : u.CalKeeps (u.stamp g a t true) g :=
    .of_only (ps := {.reg .BRK_ARR_CAL, .reg .BRK_ARR_TIME}) (by simp) (by simp) (by simp)
  have hfault (u : State) : u.CalKeeps ((u.inc (F.BRK_CAL_CNT_FAULT_CNT g)).brkFault g (F.BRK_STATUS_VERIFY_FAIL g)) g :=
    .of_only (ps := {.reg .BRK_CAL_CNT, .reg .BRK_STATUS} ∪ Part.event) (by simp [F.BRK_CAL_CNT_FAULT_CNT, F.BRK_STATUS_VERIFY_FAIL]) (by simp) (by simp)
  unfold State.calWhole
  extract_lets f ops p
  have hp : s.CalKeeps p.1 g := s.calZero_keeps g a {} (ops 0)
  clear_value p
  generalize hx : p.1.rowTests g a _ = x
  have hrows : p.1.CalKeeps x.1 g := hx ▸ p.1.rowTests_keeps g a _
  clear hx
  rcases x with ⟨u, _ | _⟩
  · exact hp.trans hrows
  dsimp -zeta only
  extract_lets q v x old r w
  have hq : u.CalKeeps q.1 g := .foldl_fst [1, 2, 3, 4] _ (fun z k => (z.1.readBack_keeps g a k z.2 _).trans (State.calRound_keeps _ g a _ _ _ _)) (u, p.2)
  have hr : v.CalKeeps r.1 g := ((v.colFails_keeps g a x.failed).trans (State.loadCandidate_keeps _ g a x)).trans (State.calVerify_keeps _ g a q.2 (ops 6))
  have hw : s.CalKeeps w g := (hp.trans hrows).trans (hq.trans hr)
  clear_value w
  split
  · exact hw.trans (((hstamp w _).trans (State.updateGen_keeps _ g _)).trans (hnote _ _))
  · exact hw.trans (((w.putBack_keeps g old).trans (hfault _)).trans (hnote _ _))

theorem State.bringupArray_keeps (s : State) (g : Nat) {a : Nat} (ha : a < 17) (fs : List CalFinding) : s.CalKeeps (s.bringupArray g a fs) g := by
  have hwhole (u : State) (l : List CalFinding) {p : State × Option Bool} (h : u.calWhole g a l = p) : u.CalKeeps p.1 g := h ▸ u.calWhole_keeps g ha l
  unfold State.bringupArray
  split
  · next u h => exact hwhole s fs h
  · next u h => exact (hwhole s fs h).trans (u.handToGorse_keeps g a ha)
  · next u h =>
    split
    · exact hwhole s fs h
    · split
      · next v h' => exact (hwhole s fs h).trans (hwhole u _ h')
      · next v _ _ h' => exact ((hwhole s fs h).trans (hwhole u _ h')).trans (v.handToGorse_keeps g a ha)

/-- Arrays in one state taken to another, one by one. -/
theorem State.turnArrays_spec {g p q : Nat} (hq : q < 8) (hne : q ≠ p) (l : List Nat) (hl : ∀ a ∈ l, a < 17) (s : State) :
    (∀ a, a < 17 → (l.foldl (fun (s : State) a => if s.arrState g a = p then s.setArrState g a q else s) s).arrState g a =
      if a ∈ l ∧ s.arrState g a = p then q else s.arrState g a) ∧
    ((l.foldl (fun (s : State) a => if s.arrState g a = p then s.setArrState g a q else s) s).tuss g).bringup = (s.tuss g).bringup := by
  induction l generalizing s with
  | nil => exact ⟨fun a _ => by simp, rfl⟩
  | cons b l ih =>
    have hb := hl b (List.mem_cons_self ..)
    obtain ⟨u, hu⟩ : ∃ u, (if s.arrState g b = p then s.setArrState g b q else s) = u := ⟨_, rfl⟩
    have hstate (a : Nat) (ha : a < 17) : u.arrState g a = if a = b ∧ s.arrState g a = p then q else s.arrState g a := by
      rw [← hu]
      by_cases hp : s.arrState g b = p
      · rw [if_pos hp, State.arrState_setArrState s g hb ha hq]
        by_cases hab : a = b
        · simp [hab, hp]
        · simp [hab]
      · rw [if_neg hp, if_neg]
        rintro ⟨rfl, h⟩
        exact hp h
    have hbring : (u.tuss g).bringup = (s.tuss g).bringup := by
      rw [← hu]
      split
      · exact (s.setArrState_tuss_eq g b q).2.1
      · rfl
    obtain ⟨hrest, hrestb⟩ := ih (fun a ha => hl a (List.mem_cons_of_mem _ ha)) u
    rw [List.foldl_cons, hu]
    refine ⟨fun a ha => ?_, hrestb.trans hbring⟩
    rw [hrest a ha, hstate a ha]
    by_cases hp : s.arrState g a = p
    · by_cases hab : a = b
      · simp [hab, hab ▸ hp, hne]
      · simp [hab, hp]
    · simp [hp]

theorem bringupGroup_lt {k a : Nat} (h : a ∈ bringupGroup k) : a < 17 := by
  unfold bringupGroup at h
  split at h
  · simp only [List.mem_range] at h
    omega
  · simp only [List.mem_map, List.mem_range] at h
    obtain ⟨i, hi, rfl⟩ := h
    omega

/-- A group of the bring-up begins: its VALID arrays are CALIBRATING. -/
theorem State.bringupBegin_spec (s : State) (g : Nat) : ((s.bringupBegin g).tuss g).bringup = (s.tuss g).bringup ∧
    ((s.bringupBegin g).tuss g).bringAt = some s.swath ∧ (s.bringupBegin g).get (F.BRK_STATUS_STAGE g) = 2 ∧
    (s.bringupBegin g).get (F.BRK_STATUS_SAVED_ACCEPTED g) = s.get (F.BRK_STATUS_SAVED_ACCEPTED g) ∧
    (∀ a, a < 17 → (s.bringupBegin g).arrState g a =
      if a ∈ bringupGroup (s.tuss g).bringup ∧ s.arrState g a = aVALID then aCAL else s.arrState g a) := by
  obtain ⟨as, has⟩ : ∃ as, bringupGroup (s.tuss g).bringup = as := ⟨_, rfl⟩
  obtain ⟨u, hu⟩ : ∃ u, as.foldl (fun (s : State) a => if s.arrState g a = aVALID then s.setArrState g a aCAL else s) s = u := ⟨_, rfl⟩
  obtain ⟨hstates, hbring⟩ := State.turnArrays_spec (g := g) (p := aVALID) (q := aCAL) (by decide) (by decide) as
    (fun a ha => bringupGroup_lt (k := (s.tuss g).bringup) (has ▸ ha)) s
  rw [hu] at hstates hbring
  have hsu : s.Only {.tuss g, .reg .TSK_ARR_STATE, .reg .BRK_STATUS} u := by
    rw [← hu]
    simp (disch := simp (disch := simp))
  have hswath : u.swath = s.swath := by rw [State.swath, hsu.time_eq (by simp), ← State.swath]
  have heq : s.bringupBegin g = (u.updTuss g fun t => { t with bringAt := some u.swath, captured := [], fresh := false }).brkStage g (as.headD 0) 2 := by
    rw [State.bringupBegin, has, hu]
  have hstage (v : State) : v.Only {.reg .BRK_STATUS} (v.brkStage g (as.headD 0) 2) := by simp
  rw [heq]
  have hsaved : u.get (F.BRK_STATUS_SAVED_ACCEPTED g) = s.get (F.BRK_STATUS_SAVED_ACCEPTED g) := by
    rw [← hu]
    refine State.get_foldl (fun v b => ?_) s
    split
    · exact State.get_setArrState_ne _ _ _ _ (by simp [emptyFlds, Fld.key_iff, F.BRK_STATUS_SAVED_ACCEPTED, F.BRK_STATUS_IN_PLACE,
        F.TSK_ARR_STATE_STATE, F.TSK_ARR_STATE_CONTEXT])
    · rfl
  refine ⟨?_, ?_, (State.get_brkStage ..).1, ?_, fun a ha => ?_⟩
  · rw [(hstage _).tuss (by simp), State.tuss_updTuss, hbring]
  · rw [(hstage _).tuss (by simp), State.tuss_updTuss, hswath]
  · unfold State.brkStage
    rw [State.get_set_ne _ _ (Fld.key_ne_of_lo (by simp [F.BRK_STATUS_STAGE, F.BRK_STATUS_SAVED_ACCEPTED])),
      State.get_set_ne _ _ (Fld.key_ne_of_lo (by simp [F.BRK_STATUS_STEP_ARRAY, F.BRK_STATUS_SAVED_ACCEPTED])), State.get_updTuss, hsaved]
  · unfold State.arrState
    rw [(hstage _).get (by simp [F.TSK_ARR_STATE_STATE]), State.get_updTuss, has]
    exact hstates a ha

theorem State.passEnd17_spec (s : State) (g : Nat) : ((s.passEnd17 g).tuss g).bringup = (s.tuss g).bringup ∧
    ∀ a, (s.passEnd17 g).arrState g a = s.arrState g a := by
  have hframe : s.Only ({.tuss g, .reg .BRK_STATUS, .reg .BRK_CAL_TIME, .reg .BRK_CAL_CNT} ∪ Part.event) (s.passEnd17 g) := by simp
  refine ⟨?_, fun a => hframe.get (by simp [F.TSK_ARR_STATE_STATE])⟩
  obtain ⟨u, hu⟩ : ∃ u, ((s.inc (F.BRK_CAL_CNT_PASS_CNT g)).set (F.BRK_CAL_TIME_TIME g) (s.swath * 8192)).set (F.BRK_STATUS_PASS_DONE g) 1 = u := ⟨_, rfl⟩
  have hsu : s.Only {.reg .BRK_CAL_CNT, .reg .BRK_CAL_TIME, .reg .BRK_STATUS} u := by
    rw [← hu]
    simp [F.BRK_CAL_CNT_PASS_CNT, F.BRK_CAL_TIME_TIME, F.BRK_STATUS_PASS_DONE]
  have hirq : u.Only Part.event (if u.on (F.BRK_CFG_IRQ_PASS g) then u.signal 29 else u) := by simp
  unfold State.passEnd17
  rw [hu]
  dsimp only
  rw [State.tuss_updTuss, State.tuss_set, hirq.tuss (by simp), hsu.tuss (by simp)]

/-- A group of the bring-up ends: none of its arrays is CALIBRATING, and one group more is done. -/
theorem State.bringupEnd_spec {s : State} {g : Nat} (hk : (s.tuss g).bringup < 2) (fs : List (Nat × List CalFinding)) :
    ((s.bringupEnd g fs).tuss g).bringup = (s.tuss g).bringup + 1 ∧
    ∀ a ∈ bringupGroup (s.tuss g).bringup, (s.bringupEnd g fs).arrState g a ≠ aCAL := by
  obtain ⟨k, hkeq⟩ : ∃ k, (s.tuss g).bringup = k := ⟨_, rfl⟩
  obtain ⟨as, has⟩ : ∃ as, ((bringupGroup k).filter fun a => s.arrState g a != aQUAR && s.arrState g a != aWFAULT) = as := ⟨_, rfl⟩
  have hin (a : Nat) (ha : a ∈ as) : a < 17 := bringupGroup_lt (k := k) (List.mem_filter.1 (has ▸ ha)).1
  obtain ⟨u, hu⟩ : ∃ u, as.foldl (fun s a => s.bringupArray g a (((fs.find? fun p => p.1 == a).map fun p => p.2).getD [])) s = u := ⟨_, rfl⟩
  obtain ⟨v, hv⟩ : ∃ v, as.foldl (fun (s : State) a => if s.arrState g a = aCAL then s.setArrState g a aVALID else s) u = v := ⟨_, rfl⟩
  obtain ⟨x, hx⟩ : ∃ x, (v.updTuss g fun t => { t with bringup := t.bringup + 1, bringAt := none }).brkCurrent g = x := ⟨_, rfl⟩
  have hkeep : s.CalKeeps u g := hu ▸ .foldl as _ (fun w a ha => w.bringupArray_keeps g (hin a ha) _) s
  obtain ⟨hturn, hturnb⟩ := State.turnArrays_spec (g := g) (p := aCAL) (q := aVALID) (by decide) (by decide) as hin u
  rw [hv] at hturn hturnb
  have hvk : (v.tuss g).bringup = k := hturnb.trans (hkeep.bringup.trans hkeq)
  have hcur (w : State) : w.Only {.reg .BRK_ARR_CAL, .reg .BRK_STATUS} (w.brkCurrent g) := by simp
  have hxk : (x.tuss g).bringup = k + 1 := by rw [← hx, (hcur _).tuss (by simp), State.tuss_updTuss, hvk]
  have hstates (a : Nat) : x.arrState g a = v.arrState g a := by
    rw [← hx, State.arrState, (hcur _).get (by simp [F.TSK_ARR_STATE_STATE]), State.get_updTuss, ← State.arrState]
  have hnotcal (a : Nat) (ha : a ∈ bringupGroup k) : x.arrState g a ≠ aCAL := by
    rw [hstates, hturn a (bringupGroup_lt ha)]
    by_cases hmem : a ∈ as
    · by_cases hcal : u.arrState g a = aCAL
      · rw [if_pos ⟨hmem, hcal⟩]
        decide
      · rwa [if_neg fun h => hcal h.2]
    · rw [if_neg fun h => hmem h.1]
      have hout : s.arrState g a = aQUAR ∨ s.arrState g a = aWFAULT := by
        by_contra h
        rw [not_or] at h
        exact hmem (has ▸ List.mem_filter.2 ⟨ha, by simpa using h⟩)
      rcases hkeep.states a (bringupGroup_lt ha) with h | h <;> rw [h]
      · rcases hout with h | h <;> rw [h] <;> decide
      · decide
  have heq : s.bringupEnd g fs = if k = 1 then (x.brkStage g 0x1F 0).passEnd17 g else x.bringupBegin g := by
    unfold State.bringupEnd
    dsimp only
    rw [hkeq, has, hu, hv, hx, hvk]
  rw [hkeq] at hk ⊢
  rw [heq]
  have hstage : x.Only {.reg .BRK_STATUS} (x.brkStage g 0x1F 0) := by simp
  obtain ⟨hpassb, hpass⟩ := (x.brkStage g 0x1F 0).passEnd17_spec g
  obtain ⟨hbegb, -, -, -, hbeg⟩ := x.bringupBegin_spec g
  by_cases h1 : k = 1
  · rw [if_pos h1]
    refine ⟨by rw [hpassb, hstage.tuss (by simp), hxk], fun a ha => ?_⟩
    rw [hpass, State.arrState, hstage.get (by simp [F.TSK_ARR_STATE_STATE]), ← State.arrState]
    exact hnotcal a ha
  · rw [if_neg h1]
    refine ⟨hbegb.trans hxk, fun a ha => ?_⟩
    have hother : a ∉ bringupGroup (k + 1) := by
      obtain rfl : k = 0 := by omega
      simp only [bringupGroup, if_true, List.mem_range] at ha
      simp only [bringupGroup, Nat.zero_add, Nat.one_ne_zero, if_false, List.mem_map, List.mem_range, not_exists, not_and]
      omega
    rw [hbeg a (bringupGroup_lt ha), hxk, if_neg fun h => hother h.1]
    exact hnotcal a ha

/-- Saved corrections that are accepted stamp each array with the saved temperature (R296). -/
theorem State.get_stampSaved {g : Nat} (l : List Nat) (hl : ∀ a ∈ l, a < 17) (s : State) : ∀ a, a < 17 →
    (l.foldl (fun s a => s.stamp g a (s.get (F.BRK_SAVED_TEMP_TEMP g)) false) s).get (F.BRK_ARR_CAL_TEMP g a) =
      if a ∈ l then s.get (F.BRK_SAVED_TEMP_TEMP g) % 2 ^ 8 else s.get (F.BRK_ARR_CAL_TEMP g a) := by
  induction l generalizing s with
  | nil => exact fun a _ => by simp
  | cons b l ih =>
    intro a ha
    obtain ⟨u, hu⟩ : ∃ u, s.stamp g b (s.get (F.BRK_SAVED_TEMP_TEMP g)) false = u := ⟨_, rfl⟩
    have hb := hl b (List.mem_cons_self ..)
    have hsu : s.Only {.reg .BRK_ARR_CAL, .reg .BRK_ARR_TIME} u := by rw [← hu]; simp
    have htemp : u.get (F.BRK_ARR_CAL_TEMP g a) = if a = b then s.get (F.BRK_SAVED_TEMP_TEMP g) % 2 ^ 8 else s.get (F.BRK_ARR_CAL_TEMP g a) := by
      by_cases hab : a = b
      · rw [if_pos hab, hab, ← hu, (s.get_stamp g b _ false).1]
      · rw [if_neg hab, ← hu, State.stamp]
        rw [State.get_set_ne _ _ (Fld.key_ne_of_reg (by simp [F.BRK_ARR_TIME_TIME, F.BRK_ARR_CAL_TEMP])),
          State.get_set_ne _ _ (by simp [Fld.key_iff, F.BRK_ARR_CAL_TEMP]; omega)]
        rfl
    rw [List.foldl_cons, hu, ih (fun c hc => hl c (List.mem_cons_of_mem _ hc)) u a ha, hsu.get (by simp [F.BRK_SAVED_TEMP_TEMP]), htemp]
    by_cases hal : a ∈ l
    · simp [hal]
    · simp [hal]

/-- Settles O33: a window's end is followed step by step (stamp, generator, pass, repair), and no step of a bring-up group's calibration moves an
array's state but to QUARANTINED. -/
theorem windowsEndAndArraysReturn : Obligations.WindowsEndAndArraysReturn := by
  unfold Obligations.WindowsEndAndArraysReturn
  refine ⟨?_, ?_, ?_⟩
  · intro g s w hruns hw hstage hoff ha hclosed
    obtain ⟨hnone, hshown, hcodes, hvalid, hquar⟩ := State.windowEnd_spec hw hstage hoff ha
    have hend : s.Only ({.genSets, .tuss g, .reg .BRK_STATUS, .reg .TSK_ARR_STATE, .reg .BRK_ARR_CAL, .reg .BRK_ARR_TIME, .reg .BRK_CAL_CNT,
        .reg .CHN_ADM_BUDGET} ∪ Part.event) (s.windowEnd g) := by simp
    have hstill : ((s.windowEnd g).chan (chanOf g)).opened = false := by
      rw [State.chan, hend.same .chans (by simp), ← State.chan]
      exact hclosed
    have hexec : exec (.windowEnd g) s = .next (s.windowEnd g) := by
      change Host.Outcome.next (s.ifT g _) = _
      rw [State.ifT, if_pos hruns, hw, Option.isSome_some, if_pos rfl, State.askOn_closed hstill]
    exact ⟨_, hexec, hnone, hshown, hcodes, hvalid, hquar, fun h hh => hend.tuss (by simpa using hh)⟩
  · intro g s hruns
    have hexec : exec (.refgenApply g) s = .next (if (s.tuss g).refDue then
        s.updTuss g fun t => { t with refCodes := s.genCodes g (s.get (F.TSK_RESTORE_TEMP_TEMP g)), refDue := false } else s) := by
      change Host.Outcome.next (s.ifT g _) = _
      rw [State.ifT, if_pos hruns]
    refine ⟨fun hdue => ⟨_, hexec, ?_⟩, fun hdue => by rw [hexec, hdue, if_neg Bool.false_ne_true]⟩
    rw [hdue, if_pos rfl, State.tuss_updTuss]
    exact ⟨rfl, rfl, (State.OnlyTuss.refl s g []).upd _⟩
  · intro g fs s group hruns hstate haligned hbring hgroup
    obtain ⟨fl, hfl⟩ : ∃ fl, fs.map (fun (p : Arr × List CalFinding) => (p.1.val, p.2)) = fl := ⟨_, rfl⟩
    have hexec : exec (.bringupCalibration g fs) s = .next (s.bringup g fl) := by
      change Host.Outcome.next (s.ifT g _) = _
      rw [State.ifT, if_pos hruns, hfl]
    have hgo : ¬(s.tskState g ≠ tREEN ∨ (s.tuss g).aligned = false ∨ 2 ≤ (s.tuss g).bringup) := by
      rw [hstate, haligned]
      simpa using hbring
    dsimp only
    refine ⟨fun hnone haccept => ⟨_, hexec, ?_⟩, fun hnone hreject => ⟨_, hexec, ?_⟩, fun w hat hearly => ⟨_, hexec, ?_⟩, fun w hat hlate => ⟨_, hexec, ?_⟩⟩
    · obtain ⟨u, hu⟩ : ∃ u, (List.range 17).foldl (fun s a => s.stamp g a (s.get (F.BRK_SAVED_TEMP_TEMP g)) false) s = u := ⟨_, rfl⟩
      obtain ⟨v, hv⟩ : ∃ v, (u.set (F.BRK_STATUS_SAVED_ACCEPTED g) 1).updTuss g (fun t => { t with bringup := 2 }) = v := ⟨_, rfl⟩
      have hsu : s.Only {.reg .BRK_ARR_CAL, .reg .BRK_ARR_TIME} u := by rw [← hu]; simp (disch := simp (disch := simp))
      have huv : u.Only {.reg .BRK_STATUS, .tuss g} v := by rw [← hv]; simp [F.BRK_STATUS_SAVED_ACCEPTED]
      have hcur : v.Only {.reg .BRK_ARR_CAL, .reg .BRK_STATUS} (v.brkCurrent g) := by simp
      have heq : s.bringup g fl = v.brkCurrent g := by
        unfold State.bringup
        dsimp only
        rw [if_neg hgo, hnone]
        dsimp only
        rw [if_pos haccept, hu, hv]
      have hframe : s.Only {.reg .BRK_ARR_CAL, .reg .BRK_ARR_TIME, .reg .BRK_STATUS, .tuss g} (v.brkCurrent g) :=
        ((hsu.mono (by simp)).trans (huv.mono (by simp))).trans (hcur.mono (by simp))
      rw [heq]
      refine ⟨by rw [hcur.tuss (by simp), ← hv, State.tuss_updTuss], ?_, fun a ha => ?_, fun h hh => hframe.tuss (by simpa using hh),
        hframe.eq_mix.trans (by simp [State.mix])⟩
      · rw [State.get_brkCurrent _ _ (by simp [F.BRK_STATUS_SAVED_ACCEPTED]) (by simp [F.BRK_STATUS_SAVED_ACCEPTED]), ← hv, State.get_updTuss, State.get_set_same]
        rfl
      · rw [State.get_brkCurrent_temp, huv.get (by simp [F.BRK_ARR_CAL_TEMP]), ← hu,
          State.get_stampSaved (List.range 17) (fun a ha => List.mem_range.1 ha) s a ha, if_pos (List.mem_range.2 ha)]
    · obtain ⟨u, hu⟩ : ∃ u, s.set (F.BRK_STATUS_SAVED_ACCEPTED g) 0 = u := ⟨_, rfl⟩
      have hsu : s.Only {.reg .BRK_STATUS} u := by rw [← hu]; simp [F.BRK_STATUS_SAVED_ACCEPTED]
      have heq : s.bringup g fl = u.bringupBegin g := by
        unfold State.bringup
        dsimp only
        rw [if_neg hgo, hnone]
        dsimp only
        rw [if_neg hreject, hu]
      obtain ⟨hb, hat, hstage, hsaved, hstates⟩ := u.bringupBegin_spec g
      have hbegin : u.Only {.tuss g, .reg .BRK_STATUS, .reg .TSK_ARR_STATE} (u.bringupBegin g) := by simp
      have hframe : s.Only {.tuss g, .reg .BRK_STATUS, .reg .TSK_ARR_STATE} (u.bringupBegin g) := (hsu.mono (by simp)).trans hbegin
      have htuss : u.tuss g = s.tuss g := hsu.tuss (by simp)
      have harr (a : Nat) : u.arrState g a = s.arrState g a := hsu.get (by simp [F.TSK_ARR_STATE_STATE])
      rw [heq]
      refine ⟨by rw [hb, htuss], ?_, ?_, hstage, fun a ha => ?_, fun h hh => hframe.tuss (by simpa using hh), hframe.eq_mix.trans (by simp [State.mix])⟩
      · rw [hat, State.swath, hsu.time_eq (by simp), ← State.swath]
      · rw [hsaved, ← hu, State.get_set_same]
        rfl
      · rw [hstates a ha, htuss, ← hgroup, harr]
    · have heq : s.bringup g fl = s.brkStage g (group.headD 0) (stageAt (s.swath - w + 11)) := by
        unfold State.bringup
        dsimp only
        rw [if_neg hgo, hat]
        dsimp only
        rw [if_pos hearly, ← hgroup]
      obtain ⟨hshown, harr⟩ := s.get_brkStage g (group.headD 0) (stageAt (s.swath - w + 11))
      have hlt : stageAt (s.swath - w + 11) < 8 := by
        unfold stageAt
        repeat' split
        all_goals decide
      have hhead : group.headD 0 < 32 := by
        rw [hgroup, bringupGroup]
        split <;> decide
      rw [heq]
      exact ⟨hshown.trans (Nat.mod_eq_of_lt hlt), harr.trans (Nat.mod_eq_of_lt hhead),
        ((State.OnlyRegs.refl s _).set _ (by simp)).set _ (by simp)⟩
    · have heq : s.bringup g fl = s.bringupEnd g fl := by
        unfold State.bringup
        dsimp only
        rw [if_neg hgo, hat]
        dsimp only
        rw [if_neg (by omega)]
      have hframe : s.Only ({.genSets, .chans, .free, .mem, .tuss g, .reg .TSK_CONV_SAT, .reg .BRK_ARR_CAL, .reg .TSK_ARR_STATUS, .reg .BRK_LAST_FAIL,
          .reg .BRK_STATUS, .reg .BRK_ARR_TIME, .reg .BRK_CAL_CNT, .reg .TSK_ARR_STATE, .reg .BRK_CAL_TIME} ∪ Part.event) (s.bringupEnd g fl) := by simp
      obtain ⟨hb, hstates⟩ := State.bringupEnd_spec hbring fl
      rw [heq]
      exact ⟨hb, hgroup ▸ hstates, fun h hh => hframe.tuss (by simpa using hh)⟩

end Sys2Proof.Machine

namespace Sys2Proof.Machine
open Sys2Proof

/-! ### A reserve beyond the Tussock's arrays

Register tables of `State` hold any number in a field, also one that its bits cannot hold. RESERVE_PHYS as 4,096 puts the mask of "the reserve"
beyond the Tussock's table SRAM, and the mask that a write of the reserve copies then lands there. -/

/-- Tussock 0 at work with a rotation about to begin, array 0 with a mask of its own, and 4,096 as the number of the reserve. -/
def wildReserve : State :=
  { regs := Tab.set (fun _ => 0) (Tab.set (fun _ => 0) [] F.PWR_DOMAIN_QUARTER.key 1) (F.TSK_ARRAY_ROLE_RESERVE_PHYS 0).key 4096
    mem := [(tableBase 0 + 0x22880, 1)]
    tusss := [(0, { window := some { kind := .rotation, slot := 0, arr := 0, start := 0 } })] }

/-- The first byte of the mask of array 4,096, if there were one. -/
def wildMask : Nat := tableBase 0 + 0x22880 + 4096 * 0x40

theorem wildMask_outside : ¬(tableBase 0 ≤ canon wildMask ∧ canon wildMask < tableBase 0 + 0x24000) := by decide

/-- Refutes O32: in the state `wildReserve` the first stage of the rotation changes a byte outside the Tussock's table SRAM. -/
theorem not_windowStagesFollow : ¬Obligations.WindowStagesFollow := by
  unfold Obligations.WindowStagesFollow
  intro h
  obtain ⟨hwrite, -⟩ := h.2 0 ⟨[], [], []⟩ wildReserve wildReserve { kind := .rotation, slot := 0, arr := 0, start := 0 } 0 [] (by decide) rfl
    (by decide) rfl rfl
  obtain ⟨t, hexec, -, -, -, hmem, -⟩ := hwrite _ _ rfl rfl (.inl rfl) rfl
  have ht : t = wildReserve.windowStage 0 ⟨[], [], []⟩ := by
    have hruns : wildReserve.runsT 0 = true := by decide
    have hstep : exec (.windowStage 0 ⟨[], [], []⟩) wildReserve = .next (wildReserve.windowStage 0 ⟨[], [], []⟩) := by
      change Host.Outcome.next (wildReserve.ifT 0 _) = _
      rw [State.ifT, if_pos hruns]
      rfl
    rw [hstep] at hexec
    exact (Host.Outcome.next.inj hexec).symm
  have hafter : Memory.read (wildReserve.windowStage 0 ⟨[], [], []⟩).mem wildMask = 1 := by decide
  have hbefore : Memory.read wildReserve.mem wildMask = 0 := by decide
  have hsame := hmem wildMask wildMask_outside
  rw [ht, hafter] at hsame
  exact absurd (hsame.trans hbefore) (by decide)

/-- The same with the first step of a repair of array 0. -/
def wildRepair : State := { wildReserve with tusss := [(0, { repair := some { arr := 0, slot := 0, step := 1 } })] }

/-- Refutes O28: in the state `wildRepair` the write of the reserve changes a byte outside the Tussock's table SRAM. -/
theorem not_repairsGoThroughTheirSteps : ¬Obligations.RepairsGoThroughTheirSteps := by
  unfold Obligations.RepairsGoThroughTheirSteps
  rintro ⟨-, -, hplace, -⟩
  obtain ⟨hwrite, -⟩ := hplace 0 wildRepair { arr := 0, slot := 0, step := 1 } (by decide) (by decide) rfl rfl rfl
  obtain ⟨t, hexec, -, -, -, -, -, -, -, hmem, -⟩ := hwrite _ _ (by decide) rfl
  have ht : t = wildRepair.repairPlace 0 := by
    have hon : (wildRepair.onT 0 && !wildRepair.stopped (0x30 + chanOf 0)) = true := by decide
    have hstep : exec (.repairWritesPlace 0) wildRepair = .next (wildRepair.repairPlace 0) := by
      change Host.Outcome.next (wildRepair.ifGorse 0 _) = _
      rw [State.ifGorse, if_pos hon]
      rfl
    rw [hstep] at hexec
    exact (Host.Outcome.next.inj hexec).symm
  have hafter : Memory.read (wildRepair.repairPlace 0).mem wildMask = 1 := by decide
  have hbefore : Memory.read wildRepair.mem wildMask = 0 := by decide
  have hsame := hmem wildMask wildMask_outside
  rw [ht, hafter] at hsame
  exact absurd (hsame.trans hbefore) (by decide)

end Sys2Proof.Machine

namespace Sys2Proof.Machine
open Sys2Proof

theorem State.arrState_setArrState_same (s : State) (g a : Nat) {v : Nat} (hv : v < 8) : (s.setArrState g a v).arrState g a = v := by
  have hcore (u : State) (hu : u.regs = ((s.set (F.TSK_ARR_STATE_STATE g a) v).brkInPlace g).regs) : u.get (F.TSK_ARR_STATE_STATE g a) = v := by
    rw [State.get_congr hu, State.brkInPlace, State.get_set_ne _ _ (Fld.key_ne_of_reg (by simp [F.BRK_STATUS_IN_PLACE, F.TSK_ARR_STATE_STATE])),
      State.get_set_same]
    exact Nat.mod_eq_of_lt hv
  unfold State.arrState State.setArrState
  dsimp only
  split
  · rw [State.updArr, State.get_updTuss, State.get_set_ne _ _ (Fld.key_ne_of_lo (by simp [F.TSK_ARR_STATE_CONTEXT, F.TSK_ARR_STATE_STATE]))]
    split
    · exact hcore _ rfl
    · split <;> exact hcore _ rfl
  · split
    · exact hcore _ rfl
    · split <;> exact hcore _ rfl

/-! ### Changes of a context's image -/

section
variable {s : State} {c : Nat}

theorem State.on_eq_false_iff (s : State) (f : Fld) : s.on f = false ↔ s.get f = 0 := by
  unfold State.on
  simp

theorem State.effectNow_none (hpend : s.get (F.GLB_CTX_STATE_PENDING c) ≠ 0) (hbatch : s.get (F.GLB_CTX_STATE_BATCH_OPEN c) = 0)
    (hst : s.get (F.GLB_CTX_STATE_STATE c) < 2)
    (himg : s.image (if (s.ctx c).pendUnload then s.get (F.GLB_CTX_PTR_PTR c) else s.get (F.GLB_CTX_PEND_PEND c)) = none) :
    s.effectNow c = s.set (F.GLB_CTX_STATE_PENDING c) 0 := by
  unfold State.effectNow
  dsimp only
  rw [if_neg (by simp [State.on, hpend, hbatch, hst]), himg]

/-- A change with its image: the fields that it writes, one after the other, and what it leaves to do. -/
def State.effectRegs (s : State) (c : Nat) (i : Image) : State :=
  let old := s.get (F.GLB_CTX_PTR_PTR c)
  let unload := (s.ctx c).pendUnload
  let u := ((s.set (F.GLB_CTX_STATE_PENDING c) 0).set (F.GLB_CTX_STATE_STATE c) (if unload then 3 else 2)).incMod (F.GLB_CTX_STATE_VERSION c)
  let v := if old = 0 then u else (u.set (F.GLB_CTX_STATE_OLD_BUSY c) 1).set (F.GLB_CTX_TID_OLD_TID c) (u.get (F.GLB_CTX_TID_CUR_TID c))
  (v.set (F.GLB_CTX_PTR_PTR c) (if unload then 0 else s.get (F.GLB_CTX_PEND_PEND c))).set (F.GLB_CTX_TID_CUR_TID c) (if unload then 0 else i.tid)

theorem State.effectNow_some {i : Image} (hpend : s.get (F.GLB_CTX_STATE_PENDING c) ≠ 0) (hbatch : s.get (F.GLB_CTX_STATE_BATCH_OPEN c) = 0)
    (hst : s.get (F.GLB_CTX_STATE_STATE c) < 2)
    (himg : s.image (if (s.ctx c).pendUnload then s.get (F.GLB_CTX_PTR_PTR c) else s.get (F.GLB_CTX_PEND_PEND c)) = some i) :
    s.effectNow c = (s.effectRegs c i).updCtx c fun x => { x with
      wave := s.waveItems c i (s.ctx c).pendUnload (s.boundTo c (s.get (F.GLB_CTX_PTR_PTR c)))
      effect := (s.effectRegs c i).swath, pendUnload := false
      rqDue := if (s.ctx c).pendUnload then [] else s.rqItems c i (s.boundTo c (s.get (F.GLB_CTX_PTR_PTR c)))
      olds := if s.get (F.GLB_CTX_PTR_PTR c) = 0 then x.olds else x.olds ++ [(s.get (F.GLB_CTX_PTR_PTR c), (s.boundTo c (s.get (F.GLB_CTX_PTR_PTR c))).map Job.id)] } := by
  unfold State.effectNow
  dsimp only
  rw [if_neg (by simp [State.on, hpend, hbatch, hst]), himg]
  rfl

/-- The fields of a context that a change writes. -/
def changeFlds (c : Nat) : List Fld := [F.GLB_CTX_STATE_PENDING c, F.GLB_CTX_STATE_STATE c, F.GLB_CTX_STATE_VERSION c, F.GLB_CTX_PTR_PTR c,
  F.GLB_CTX_TID_CUR_TID c, F.GLB_CTX_STATE_OLD_BUSY c, F.GLB_CTX_TID_OLD_TID c]

theorem State.effectRegs_only (s : State) (c : Nat) (i : Image) : s.OnlyRegs (s.effectRegs c i) (changeFlds c) := by
  have hu : s.OnlyRegs (((s.set (F.GLB_CTX_STATE_PENDING c) 0).set (F.GLB_CTX_STATE_STATE c) (if (s.ctx c).pendUnload then 3 else 2)).incMod
      (F.GLB_CTX_STATE_VERSION c)) (changeFlds c) :=
    (((State.OnlyRegs.refl s _).set _ (by simp [changeFlds])).set _ (by simp [changeFlds])).set _ (by simp [changeFlds])
  unfold State.effectRegs
  dsimp only
  split
  · exact (hu.set _ (by simp [changeFlds])).set _ (by simp [changeFlds])
  · exact (((hu.set _ (by simp [changeFlds])).set _ (by simp [changeFlds])).set _ (by simp [changeFlds])).set _ (by simp [changeFlds])

theorem State.get_effectRegs (s : State) (c : Nat) (i : Image) : (s.effectRegs c i).get (F.GLB_CTX_STATE_PENDING c) = 0 ∧
    (s.effectRegs c i).get (F.GLB_CTX_STATE_STATE c) = (if (s.ctx c).pendUnload then 3 else 2) ∧
    (s.effectRegs c i).get (F.GLB_CTX_STATE_VERSION c) = (s.get (F.GLB_CTX_STATE_VERSION c) + 1) % 2 ^ 16 ∧
    (s.effectRegs c i).get (F.GLB_CTX_PTR_PTR c) = (if (s.ctx c).pendUnload then 0 else s.get (F.GLB_CTX_PEND_PEND c) % 2 ^ 48) ∧
    (s.effectRegs c i).get (F.GLB_CTX_TID_CUR_TID c) = (if (s.ctx c).pendUnload then 0 else i.tid % 2 ^ 16) ∧
    (s.get (F.GLB_CTX_PTR_PTR c) ≠ 0 → (s.effectRegs c i).get (F.GLB_CTX_STATE_OLD_BUSY c) = 1 ∧
      (s.effectRegs c i).get (F.GLB_CTX_TID_OLD_TID c) = s.get (F.GLB_CTX_TID_CUR_TID c) % 2 ^ 16) := by
  unfold State.effectRegs State.incMod
  dsimp only
  by_cases hold : s.get (F.GLB_CTX_PTR_PTR c) = 0
  · rw [if_pos hold]
    simp only [F.GLB_CTX_STATE_PENDING, F.GLB_CTX_STATE_STATE, F.GLB_CTX_STATE_VERSION, F.GLB_CTX_PTR_PTR, F.GLB_CTX_TID_CUR_TID] at hold ⊢
    cases (s.ctx c).pendUnload <;> simp [State.get_set_ne, Fld.key_iff, hold]
  · rw [if_neg hold]
    simp only [F.GLB_CTX_STATE_PENDING, F.GLB_CTX_STATE_STATE, F.GLB_CTX_STATE_VERSION, F.GLB_CTX_PTR_PTR, F.GLB_CTX_TID_CUR_TID,
      F.GLB_CTX_STATE_OLD_BUSY, F.GLB_CTX_TID_OLD_TID] at hold ⊢
    cases (s.ctx c).pendUnload <;> simp [State.get_set_ne, Fld.key_iff, hold]

/-! ### What ends of a change -/

theorem State.oldBusyClear_spec (s : State) (c : Nat) (left : List (Nat × List Nat)) (hleft : left = ((s.ctx c).olds.zipIdx.filter fun x =>
      (x.1.2.any fun id => (s.job id).isSome) || (decide (2 ≤ s.get (F.GLB_CTX_STATE_STATE c)) && x.2 + 1 == (s.ctx c).olds.length)).map Prod.fst) :
    s.oldBusyClear c = if left.isEmpty then (s.updCtx c fun x => { x with olds := left }).set (F.GLB_CTX_STATE_OLD_BUSY c) 0
      else s.updCtx c fun x => { x with olds := left } := by
  have hgone (x : (Nat × List Nat) × Nat) : (!x.1.2.all fun id => (s.job id).isNone) = x.1.2.any fun id => (s.job id).isSome := by
    rw [List.not_all_eq_any_not]
    simp
  unfold State.oldBusyClear
  dsimp only
  simp only [hgone]
  rw [hleft, List.isEmpty_map]

/-- The arrays of an unload whose times have come, emptied one by one. -/
def State.emptyItem (c : Nat) (s : State) (x : WaveItem) : State :=
  if x.done || decide (s.swath < x.from_) then s
  else if s.get (F.TSK_ARR_STATE_CONTEXT x.g (s.arrOf x.g x.slot)) = c then s.setArrState x.g (s.arrOf x.g x.slot) aEMPTY else s

theorem State.get_of_key (s : State) {f f' : Fld} (hkey : f.key = f'.key) (hrst : f.rst = f'.rst) : s.get f = s.get f' := by
  unfold State.get
  rw [hkey, hrst]

/-- An array emptied: any array's state and context stay, or it is EMPTY. -/
theorem State.setArrState_empty_or (s : State) (g a g' a' : Nat) :
    ((s.setArrState g a aEMPTY).arrState g' a' = s.arrState g' a' ∧
      (s.setArrState g a aEMPTY).get (F.TSK_ARR_STATE_CONTEXT g' a') = s.get (F.TSK_ARR_STATE_CONTEXT g' a')) ∨
    (s.setArrState g a aEMPTY).arrState g' a' = aEMPTY := by
  by_cases hkey : (F.TSK_ARR_STATE_STATE g' a').key = (F.TSK_ARR_STATE_STATE g a).key
  · right
    have hrst : (F.TSK_ARR_STATE_STATE g' a').rst = (F.TSK_ARR_STATE_STATE g a).rst := rfl
    rw [State.arrState, State.get_of_key _ hkey hrst]
    exact State.arrState_setArrState_same s g a (by decide)
  · left
    simp only [Fld.key_iff, F.TSK_ARR_STATE_STATE, true_and, and_true] at hkey
    refine ⟨State.get_setArrState_ne _ _ _ _ ?_, State.get_setArrState_ne _ _ _ _ ?_⟩
    · simp [emptyFlds, Fld.key_iff, F.BRK_STATUS_IN_PLACE, F.TSK_ARR_STATE_STATE, F.TSK_ARR_STATE_CONTEXT] at hkey ⊢
      exact hkey
    · simp [emptyFlds, Fld.key_iff, F.BRK_STATUS_IN_PLACE, F.TSK_ARR_STATE_STATE, F.TSK_ARR_STATE_CONTEXT] at hkey ⊢
      exact hkey

/-- Arrays emptied item by item: any array keeps its state and context, or is EMPTY; one that an item names with the context is. -/
theorem State.emptyItems_spec {c : Nat} (xs : List WaveItem) (s : State) (hdue : ∀ x ∈ xs, x.done = true ∨ x.from_ ≤ s.swath) :
    (∀ g a, ((xs.foldl (State.emptyItem c) s).arrState g a = s.arrState g a ∧
      (xs.foldl (State.emptyItem c) s).get (F.TSK_ARR_STATE_CONTEXT g a) = s.get (F.TSK_ARR_STATE_CONTEXT g a)) ∨
      (xs.foldl (State.emptyItem c) s).arrState g a = aEMPTY) ∧
    (∀ x ∈ xs, x.done = false → s.get (F.TSK_ARR_STATE_CONTEXT x.g (s.arrOf x.g x.slot)) = c →
      (xs.foldl (State.emptyItem c) s).arrState x.g (s.arrOf x.g x.slot) = aEMPTY) := by
  induction xs generalizing s with
  | nil => exact ⟨fun _ _ => .inl ⟨rfl, rfl⟩, by simp⟩
  | cons x xs ih =>
    obtain ⟨u, hu⟩ : ∃ u, State.emptyItem c s x = u := ⟨_, rfl⟩
    have hsu : s.Only ({.reg .BRK_STATUS, .reg .TSK_ARR_STATE} ∪ Part.tusss) u := by
      rw [← hu]
      unfold State.emptyItem
      split
      · exact .refl s _
      · split
        · simp
        · exact .refl s _
    have hswath : u.swath = s.swath := by rw [State.swath, hsu.time_eq (by simp), ← State.swath]
    have harr (y : WaveItem) : u.arrOf y.g y.slot = s.arrOf y.g y.slot := hsu.get (by simp [roleFld])
    have hone (g a : Nat) : (u.arrState g a = s.arrState g a ∧ u.get (F.TSK_ARR_STATE_CONTEXT g a) = s.get (F.TSK_ARR_STATE_CONTEXT g a)) ∨
        u.arrState g a = aEMPTY := by
      rw [← hu]
      unfold State.emptyItem
      split
      · exact .inl ⟨rfl, rfl⟩
      · split
        · exact s.setArrState_empty_or ..
        · exact .inl ⟨rfl, rfl⟩
    obtain ⟨hrest, hnamed⟩ := ih u fun y hy => hswath ▸ hdue y (List.mem_cons_of_mem _ hy)
    rw [List.foldl_cons, hu]
    have hstay (g a : Nat) (h : u.arrState g a = aEMPTY) : (xs.foldl (State.emptyItem c) u).arrState g a = aEMPTY :=
      (hrest g a).elim (fun k => k.1.trans h) id
    refine ⟨fun g a => ?_, fun y hy hdone hctx => ?_⟩
    · rcases hone g a with h | h
      · exact (hrest g a).imp_left fun k => ⟨k.1.trans h.1, k.2.trans h.2⟩
      · exact .inr (hstay g a h)
    · rcases List.mem_cons.1 hy with rfl | hy
      · refine hstay _ _ ?_
        have hlate : ¬s.swath < y.from_ := by
          have := (hdue y (List.mem_cons_self ..)).resolve_left (by simp [hdone])
          omega
        rw [← hu, State.emptyItem, if_neg (by simp [hdone, hlate]), if_pos hctx]
        exact State.arrState_setArrState_same _ _ _ (by decide)
      · rcases hone y.g (s.arrOf y.g y.slot) with h | h
        · have := hnamed y hy hdone
          rw [harr] at this
          exact this (h.2.trans hctx)
        · exact hstay _ _ h

end

@[simp] theorem State.get_updCtx (s : State) (c : Nat) (u : Ctx64 → Ctx64) (f : Fld) : (s.updCtx c u).get f = s.get f := rfl
@[simp] theorem State.ctx_set (s : State) (f : Fld) (v d : Nat) : (s.set f v).ctx d = s.ctx d := rfl

/-- An unload whose times have all come: the arrays are emptied, and the context is EMPTY. -/
theorem State.unloadEmpty_eq {s : State} {c : Nat} (hst : s.get (F.GLB_CTX_STATE_STATE c) = 3)
    (hall : ∀ x ∈ (s.ctx c).wave, x.done = true ∨ x.from_ ≤ s.swath) : s.unloadEmpty c =
      ((((s.ctx c).wave.foldl (State.emptyItem c) s).updCtx c fun y =>
        { y with wave := y.wave.map fun x => if x.from_ ≤ s.swath then { x with done := true } else x }).set (F.GLB_CTX_STATE_STATE c) 0).updCtx c
        fun y => { y with wave := [] } := by
  obtain ⟨u, hu⟩ : ∃ u, (s.ctx c).wave.foldl (State.emptyItem c) s = u := ⟨_, rfl⟩
  have hsu : s.Only ({.reg .BRK_STATUS, .reg .TSK_ARR_STATE} ∪ Part.tusss) u := by
    rw [← hu]
    unfold State.emptyItem
    simp (disch := simp (disch := simp [F.TSK_ARR_STATE_CONTEXT]))
  have hswath : u.swath = s.swath := by rw [State.swath, hsu.time_eq (by simp), ← State.swath]
  have hwave : (u.ctx c).wave = (s.ctx c).wave := by rw [hsu.ctx_eq (by simp)]
  have hdone : ((u.updCtx c fun y => { y with wave := y.wave.map fun x => if x.from_ ≤ s.swath then { x with done := true } else x }).ctx c).wave.all
      WaveItem.done = true := by
    rw [(u.ctx_updCtx c _).1]
    dsimp only
    rw [hwave, List.all_map, List.all_eq_true]
    intro x hx
    rcases hall x hx with h | h
    · simp only [Function.comp_apply]
      split <;> simp [h]
    · simp [h]
  have heq : s.unloadEmpty c = (if ((u.updCtx c fun y => { y with wave := y.wave.map fun x => if x.from_ ≤ u.swath then { x with done := true } else x }).ctx
      c).wave.all WaveItem.done then ((u.updCtx c fun y =>
        { y with wave := y.wave.map fun x => if x.from_ ≤ u.swath then { x with done := true } else x }).set (F.GLB_CTX_STATE_STATE c) 0).updCtx c
        fun y => { y with wave := [] }
      else u.updCtx c fun y => { y with wave := y.wave.map fun x => if x.from_ ≤ u.swath then { x with done := true } else x }) := by
    unfold State.unloadEmpty
    rw [if_neg (by simp [hst]), ← hu]
    rfl
  rw [heq, hswath, if_pos hdone, hu]

/-- Settles O49: a change's fields are written once each, and an unload empties the arrays item by item. -/
theorem contextChangesTakeEffect : Obligations.ContextChangesTakeEffect := by
  unfold Obligations.ContextChangesTakeEffect
  rintro c s st rfl
  have hctx (u : State) (f : Ctx64 → Ctx64) (hu : u.ctxs = s.ctxs) (d : Nat) (hd : d ≠ c.val) : (u.updCtx c f).ctx d = s.ctx d := by
    rw [(u.ctx_updCtx c f).2 d hd, State.ctx, hu, ← State.ctx]
  refine ⟨fun hnot => ?_, fun ⟨hfresh, hpend, hbatch, hst, hpost, hstop⟩ himg => ?_, fun i ⟨hfresh, hpend, hbatch, hst, hpost, hstop⟩ himg => ?_,
    ⟨fun hdone => ?_, fun hnot => ?_⟩, ?_, fun hnot => ?_, fun hst hall => ?_⟩
  · change Host.Outcome.next (if s.fresh then s.changeEffect c else s) = _
    congr 1
    by_cases hfresh : s.fresh = true
    · rw [if_pos hfresh, State.changeEffect]
      split
      · next h =>
        unfold State.effectNow
        dsimp only
        rw [if_pos]
        by_contra hgo
        simp only [State.on, bne_eq_false_iff_eq, bne_iff_ne, not_or, not_not, not_le] at hgo
        exact hnot ⟨hfresh, hgo.1, hgo.2.1, hgo.2.2, h.1, h.2⟩
      · rfl
    · rw [if_neg hfresh]
  · refine ⟨s.set (F.GLB_CTX_STATE_PENDING c) 0, ?_, by rw [State.get_set_same]; rfl, (State.OnlyRegs.refl s _).set _ (by simp)⟩
    change Host.Outcome.next (if s.fresh then s.changeEffect c else s) = _
    rw [if_pos hfresh, State.changeEffect, if_pos ⟨hpost, hstop⟩, State.effectNow_none hpend hbatch hst himg]
  · have hexec : exec (.contextChangeEffect c) s = .next (s.effectNow c) := by
      change Host.Outcome.next (if s.fresh then s.changeEffect c else s) = _
      rw [if_pos hfresh, State.changeEffect, if_pos ⟨hpost, hstop⟩]
    obtain ⟨u, hu⟩ : ∃ u, s.effectRegs c i = u := ⟨_, rfl⟩
    have heff := State.effectNow_some hpend hbatch hst himg
    have honly := s.effectRegs_only c i
    obtain ⟨h1, h2, h3, h4, h5, h6⟩ := s.get_effectRegs c i
    rw [hu] at heff honly h1 h2 h3 h4 h5 h6
    have hctxs : u.ctxs = s.ctxs := by rw [honly.1]
    have hswath : u.swath = s.swath := by rw [State.swath, honly.1, State.swath]
    have hmine := (u.ctx_updCtx c (fun x => { x with
      wave := s.waveItems c i (s.ctx c).pendUnload (s.boundTo c (s.get (F.GLB_CTX_PTR_PTR c)))
      effect := u.swath, pendUnload := false
      rqDue := if (s.ctx c).pendUnload then [] else s.rqItems c i (s.boundTo c (s.get (F.GLB_CTX_PTR_PTR c)))
      olds := if s.get (F.GLB_CTX_PTR_PTR c) = 0 then x.olds else x.olds ++ [(s.get (F.GLB_CTX_PTR_PTR c), (s.boundTo c (s.get (F.GLB_CTX_PTR_PTR c))).map Job.id)] })).1
    have huctx : u.ctx c = s.ctx c := by rw [State.ctx, hctxs, ← State.ctx]
    rw [← heff, huctx] at hmine
    refine ⟨_, hexec, ?_, ?_, ?_, ?_, ?_, fun hold => ?_, ?_, ?_, ?_, ?_, ?_, ?_, ?_⟩
    · rw [heff, State.get_updCtx]; exact h1
    · rw [heff, State.get_updCtx]; exact h2
    · rw [heff, State.get_updCtx]; exact h3
    · rw [heff, State.get_updCtx]; exact h4
    · rw [heff, State.get_updCtx]; exact h5
    · rw [heff, State.get_updCtx, State.get_updCtx]; exact h6 hold
    · rw [hmine]
    · rw [hmine]; exact hswath
    · rw [hmine]
    · rw [hmine]
      dsimp only
      split
      · rw [List.append_nil]
      · rfl
    · rw [heff, State.updCtx, honly.1]
    · exact fun d hd => heff ▸ hctx u _ hctxs d hd
    · rw [heff]; exact honly.2
  · obtain ⟨hst, hrq, hwave⟩ := hdone
    refine ⟨(s.set (F.GLB_CTX_STATE_STATE c) 1).updCtx c fun x => { x with wave := [] }, ?_, ?_, ?_, ?_, fun d hd => hctx (s.set (F.GLB_CTX_STATE_STATE c) 1) _ rfl d hd, ?_⟩
    · change Host.Outcome.next (s.replacingEnd c) = _
      rw [State.replacingEnd, if_pos]
      refine ⟨hst, by rw [hrq]; rfl, List.all_eq_true.2 fun x hx => ?_⟩
      obtain ⟨hlast, hdone⟩ := hwave x hx
      simpa [hlast] using hdone
    · rw [State.get_updCtx, State.get_set_same]
      rfl
    · exact (State.ctx_updCtx _ c _).1
    · rfl
    · exact ((State.OnlyRegs.refl s [F.GLB_CTX_STATE_STATE c]).set (f := F.GLB_CTX_STATE_STATE c) 1 (by simp)).2
  · change Host.Outcome.next (s.replacingEnd c) = _
    rw [State.replacingEnd, if_neg]
    rintro ⟨hst, hrq, hwave⟩
    refine hnot ⟨hst, List.isEmpty_iff.1 hrq, fun x hx => ?_⟩
    simpa using List.all_eq_true.1 hwave x hx
  · obtain ⟨left, hleft⟩ : ∃ left, left = ((s.ctx c).olds.zipIdx.filter fun x =>
      (x.1.2.any fun id => (s.job id).isSome) || (decide (2 ≤ s.get (F.GLB_CTX_STATE_STATE c)) && x.2 + 1 == (s.ctx c).olds.length)).map Prod.fst := ⟨_, rfl⟩
    have hspec := s.oldBusyClear_spec c left hleft
    have hmine := (s.ctx_updCtx c fun x => { x with olds := left }).1
    have hexec : exec (.oldBusyClear c) s = .next (s.oldBusyClear c) := rfl
    rw [← hleft]
    by_cases hempty : left = []
    · rw [if_pos (by rw [hempty]; rfl)] at hspec
      refine ⟨_, hexec, by rw [hspec]; rfl, fun d hd => by rw [hspec, State.ctx_set]; exact hctx s _ rfl d hd, by rw [hspec]; exact hmine, fun _ => ⟨?_, ?_⟩, fun h => absurd ?_ h⟩
      · rw [hspec, State.get_set_same]
        rfl
      · rw [hspec]
        exact ((State.OnlyRegs.refl s [F.GLB_CTX_STATE_OLD_BUSY c]).set (f := F.GLB_CTX_STATE_OLD_BUSY c) 0 (by simp)).2
      · rw [hspec, State.ctx_set, hmine]
        exact hempty
    · rw [if_neg (by simpa using hempty)] at hspec
      refine ⟨_, hexec, by rw [hspec]; rfl, fun d hd => by rw [hspec]; exact hctx s _ rfl d hd, by rw [hspec]; exact hmine, fun h => absurd ?_ hempty,
        fun _ => by rw [hspec]; rfl⟩
      rw [hspec, hmine] at h
      exact h
  · change Host.Outcome.next (s.unloadEmpty c) = _
    rw [State.unloadEmpty, if_pos hnot]
  · obtain ⟨u, hu⟩ : ∃ u, (s.ctx c).wave.foldl (State.emptyItem c) s = u := ⟨_, rfl⟩
    obtain ⟨-, hnamed⟩ := State.emptyItems_spec (c := c) (s.ctx c).wave s hall
    have hspec := State.unloadEmpty_eq hst hall
    rw [hu] at hnamed hspec
    obtain ⟨v, hv⟩ : ∃ v, (u.updCtx c fun y => { y with wave := y.wave.map fun x => if x.from_ ≤ s.swath then { x with done := true } else x }).set
      (F.GLB_CTX_STATE_STATE c) 0 = v := ⟨_, rfl⟩
    rw [hv] at hspec
    have hframe : s.Only ({.ctxs, .reg .BRK_STATUS, .reg .TSK_ARR_STATE, .reg .GLB_CTX_STATE} ∪ Part.tusss) (s.unloadEmpty c) := by simp
    have huv : u.Only {.ctxs, .reg .GLB_CTX_STATE} v := by
      rw [← hv]
      simp [F.GLB_CTX_STATE_STATE]
    have hsu : s.Only ({.reg .BRK_STATUS, .reg .TSK_ARR_STATE} ∪ Part.tusss) u := by
      rw [← hu]
      unfold State.emptyItem
      simp (disch := simp (disch := simp [F.TSK_ARR_STATE_CONTEXT]))
    refine ⟨s.unloadEmpty c, rfl, ?_, ?_, fun d hd => ?_, fun x hx hdone hx' => ?_, hframe.eq_mix.trans (by simp [State.mix])⟩
    · rw [hspec, State.get_updCtx, ← hv, State.get_set_same]
      rfl
    · rw [hspec, (v.ctx_updCtx c _).1]
    · rw [hspec, (v.ctx_updCtx c _).2 d hd, ← hv, State.ctx_set, (u.ctx_updCtx c _).2 d hd, hsu.ctx_eq (by simp)]
    · rw [hspec, State.arrState, State.get_updCtx, huv.get (by simp [F.TSK_ARR_STATE_STATE])]
      exact hnamed x hx hdone hx'

end Sys2Proof.Machine

namespace Sys2Proof.Machine
open Sys2Proof

/-! ### What a check's re-run reads -/

/-- `t` differs from `s` in nothing that a re-run on Tussock `g` reads: its arrays and their cycles, its window, and every register but the
counters of the Gorse lane. -/
structure State.SameFloor (s t : State) (g : Nat) : Prop where
  arrs : (t.tuss g).arrs = (s.tuss g).arrs
  used : (t.tuss g).used = (s.tuss g).used
  passed : (t.tuss g).passed = (s.tuss g).passed
  window : (t.tuss g).window = (s.tuss g).window
  regs : ∀ f : Fld, f.r ≠ .GRS_LANE_CNT → t.get f = s.get f
  time : t.time = s.time
  jobs : t.jobs = s.jobs
  chans : t.chans = s.chans
  fractionOld : t.fractionOld = s.fractionOld
  fractionAt : t.fractionAt = s.fractionAt

namespace State.SameFloor
variable {s t : State} {g : Nat} (h : s.SameFloor t g)
include h

theorem arr_eq (a : Nat) : t.arr g a = s.arr g a := by rw [State.arr, h.arrs, ← State.arr]

theorem gangMembers_eq (slot n : Nat) : t.gangMembers g slot n = s.gangMembers g slot n := by
  unfold State.gangMembers State.arrOf
  simp only [h.regs _ (show (roleFld g _).r ≠ .GRS_LANE_CNT by simp [roleFld])]

theorem swath_eq : t.swath = s.swath := by rw [State.swath, h.time, ← State.swath]

theorem job_eq (j : Nat) : t.job j = s.job j := by rw [State.job, h.jobs, ← State.job]

theorem reserveOf_eq : t.reserveOf g = s.reserveOf g := h.regs _ (by simp [F.TSK_ARRAY_ROLE_RESERVE_PHYS])

theorem again_eq (e : Evl) (kind : EvalKind) (c : Nat) : t.again g e kind c = s.again g e kind c := by
  have hr (a : Nat) : t.get (F.TSK_CONV_CFG_RANGE g a) = s.get (F.TSK_CONV_CFG_RANGE g a) := h.regs _ (by simp [F.TSK_CONV_CFG_RANGE])
  have hfun : t.arr g = s.arr g := funext h.arr_eq
  unfold State.again State.sampled State.driven
  simp only [h.gangMembers_eq, h.swath_eq, hr, hfun]

theorem writeSkips_eq (a x : Nat) : t.writeSkips g a x = s.writeSkips g a x := by
  have hfr : t.fractionNow = s.fractionNow := by
    unfold State.fractionNow
    rw [h.regs _ (by simp [F.GRS_CFG_FRACTION]), h.fractionOld]
  have hnext : t.fractionNext = s.fractionNext := by
    unfold State.fractionNext
    rw [h.regs _ (by simp [F.GRS_CFG_FRACTION]), h.fractionAt, h.swath_eq, hfr]
  unfold State.writeSkips State.isCheckSlot
  rw [h.reserveOf_eq, hfr, hnext]

theorem placedRepairs_eq (a : Nat) : t.placedRepairs g a = s.placedRepairs g a := by
  unfold State.placedRepairs
  rw [h.swath_eq, State.chan, h.chans, ← State.chan]

theorem writeHolds_eq (a x : Nat) : t.writeHolds g a x = s.writeHolds g a x := by
  have hrows : t.get (F.TSK_ARR_WRITE_ROWS_DONE g a) = s.get (F.TSK_ARR_WRITE_ROWS_DONE g a) := h.regs _ (by simp [F.TSK_ARR_WRITE_ROWS_DONE])
  unfold State.writeHolds
  rw [h.placedRepairs_eq, h.arr_eq]
  simp only [hrows, h.job_eq, h.writeSkips_eq]

theorem rowUnder_eq (a x : Nat) : t.rowUnder g a x = s.rowUnder g a x := by
  have hrows : t.get (F.TSK_ARR_WRITE_ROWS_DONE g a) = s.get (F.TSK_ARR_WRITE_ROWS_DONE g a) := h.regs _ (by simp [F.TSK_ARR_WRITE_ROWS_DONE])
  unfold State.rowUnder State.rowTurns State.writeTurn State.awriteCycles
  simp only [h.placedRepairs_eq, h.arr_eq, hrows, h.job_eq, h.writeSkips_eq, h.used, h.passed]

theorem canRerun_eq (c : Nat) (e : Evl) : t.canRerun g c e = s.canRerun g c e := by
  have hstate (a : Nat) : t.arrState g a = s.arrState g a := h.regs _ (by simp [F.TSK_ARR_STATE_STATE])
  unfold State.canRerun State.gangValid State.oneLayer State.arraysBusy
  simp only [h.gangMembers_eq, h.swath_eq, hstate, h.rowUnder_eq, h.arr_eq, h.reserveOf_eq, h.writeHolds_eq, h.used, h.passed, h.window]

theorem exactShadow_eq (e : Evl) : t.exactShadow g e = s.exactShadow g e := by
  unfold State.exactShadow State.shadowSetOf
  simp only [h.arr_eq]

omit h in
theorem trans {u : State} (h : s.SameFloor t g) (k : t.SameFloor u g) : s.SameFloor u g :=
  ⟨k.arrs.trans h.arrs, k.used.trans h.used, k.passed.trans h.passed, k.window.trans h.window, fun f hf => (k.regs f hf).trans (h.regs f hf),
    k.time.trans h.time, k.jobs.trans h.jobs, k.chans.trans h.chans, k.fractionOld.trans h.fractionOld, k.fractionAt.trans h.fractionAt⟩

omit h in
/-- An update of the Tussock's record beside what a re-run reads. -/
theorem updTuss (s : State) (g : Nat) {f : Tuss → Tuss} (harrs : (f (s.tuss g)).arrs = (s.tuss g).arrs) (hused : (f (s.tuss g)).used = (s.tuss g).used)
    (hpassed : (f (s.tuss g)).passed = (s.tuss g).passed) (hwindow : (f (s.tuss g)).window = (s.tuss g).window) : s.SameFloor (s.updTuss g f) g :=
  ⟨by rw [State.tuss_updTuss, harrs], by rw [State.tuss_updTuss, hused], by rw [State.tuss_updTuss, hpassed], by rw [State.tuss_updTuss, hwindow],
    fun _ _ => rfl, rfl, rfl, rfl, rfl, rfl⟩

omit h in
theorem updLane (s : State) (g k : Nat) (f : SlotLane → SlotLane) : s.SameFloor (s.updLane g k f) g := by
  unfold State.updLane
  exact .updTuss s g rfl rfl rfl rfl

omit h in
theorem checks (s : State) (g : Nat) : s.SameFloor (s.incMod (F.GRS_LANE_CNT_CHECKS g)) g :=
  ⟨rfl, rfl, rfl, rfl, fun _ hf => State.get_incMod_ne _ (Fld.key_ne_of_reg (by simpa [F.GRS_LANE_CNT_CHECKS] using Ne.symm hf)), rfl, rfl, rfl, rfl, rfl⟩

end State.SameFloor

/-- Inputs latched again: the evaluation joins the samples of its array; the lanes and the arbitration stay. -/
theorem State.latch_spec (s : State) (g : Nat) (e : Evl) (gang : Nat) : ((s.latch g e gang).arr g e.arr).sampled = (s.arr g e.arr).sampled ++ [e] ∧
    ((s.latch g e gang).tuss g).lanes = (s.tuss g).lanes ∧ ((s.latch g e gang).tuss g).arb = (s.tuss g).arb := by
  obtain ⟨u, hu⟩ : ∃ u, s.updArr g e.arr (fun r => { r with sampled := r.sampled ++ [e] }) = u := ⟨_, rfl⟩
  obtain ⟨v, hv⟩ : ∃ v, (spanOthers e.members).foldl (fun s a => s.set (F.TSK_ARR_STATE_PASS_THROUGH g a) 1)
    (e.members.foldl (fun s a => s.set (F.TSK_ARR_STATE_GANG g a) gang) u) = v := ⟨_, rfl⟩
  have huv : u.Only {.reg .TSK_ARR_STATE} v := by
    rw [← hv]
    simp (disch := simp (disch := simp [F.TSK_ARR_STATE_PASS_THROUGH, F.TSK_ARR_STATE_GANG]))
  have heq : s.latch g e gang = v.updTuss g fun t => { t with
      used := t.used ++ e.members.map fun a => (a, e.swath * 256 + e.cycle)
      passed := t.passed ++ (spanOthers e.members).map fun a => (a, e.swath * 256 + e.cycle) } := by
    rw [← hv, ← hu, State.latch]
  have htuss : u.tuss g = { s.tuss g with arrs := (u.tuss g).arrs } := by rw [← hu, State.updArr, State.tuss_updTuss]
  rw [heq, State.tuss_updTuss, huv.tuss (by simp)]
  refine ⟨?_, ?_, ?_⟩
  · rw [State.arr, State.tuss_updTuss, huv.tuss (by simp), ← State.arr, ← hu, State.arr_updArr]
  · rw [htuss]
  · rw [htuss]

/-! ### A check slot -/

/-- The cycle of a check: counted, and kept as the Tussock's latest. -/
def State.checkCycle (s : State) (g c : Nat) : State :=
  (s.updTuss g fun t => { t with checkAt := some (s.swath * 256 + c) }).incMod (F.GRS_LANE_CNT_CHECKS g)

theorem State.checkCycle_spec (s : State) (g c : Nat) : s.SameFloor (s.checkCycle g c) g ∧ ((s.checkCycle g c).tuss g).lanes = (s.tuss g).lanes ∧
    ((s.checkCycle g c).tuss g).arb = (s.tuss g).arb ∧
    (s.checkCycle g c).get (F.GRS_LANE_CNT_CHECKS g) = (s.get (F.GRS_LANE_CNT_CHECKS g) + 1) % 2 ^ (F.GRS_LANE_CNT_CHECKS g).w := by
  have htuss (u : State) : (u.incMod (F.GRS_LANE_CNT_CHECKS g)).tuss g = u.tuss g := rfl
  unfold State.checkCycle
  refine ⟨?_, ?_, ?_, ?_⟩
  · exact (State.SameFloor.updTuss s g (f := fun t => { t with checkAt := some (s.swath * 256 + c) }) rfl rfl rfl rfl).trans (.checks _ g)
  · rw [htuss, State.tuss_updTuss]
  · rw [htuss, State.tuss_updTuss]
  · rw [State.incMod, State.get_set_same, State.get_updTuss]

section
variable {s : State} {g k c : Nat} {e : Evl} (hs : ((s.lane g k).choose (s.swath * 8192 + c * 32)).sample = some e)
  (hd : ((s.lane g k).choose (s.swath * 8192 + c * 32)).decided = false)
include hs hd

/-- Routine sampling of a sample that is not decided: its check stands, and its inputs latch again where they can. -/
theorem State.sampleSlot_eq : ∃ u, s.SameFloor u g ∧ s.Only {.tuss g, .reg .GRS_LANE_CNT} u ∧
    u.get (F.GRS_LANE_CNT_CHECKS g) = (s.get (F.GRS_LANE_CNT_CHECKS g) + 1) % 2 ^ (F.GRS_LANE_CNT_CHECKS g).w ∧
    (u.lane g k).check = some { sample := e, skipRerun := !s.canRerun g c e, exact := s.exactShadow g e } ∧
    s.sampleSlot g k c = if s.canRerun g c e then u.latch g (s.again g e .rerun c) (tfld e.task 0 4 2) else u := by
  obtain ⟨u, hu⟩ : ∃ u, s.updLane g k (fun l => l.choose (s.swath * 8192 + c * 32)) = u := ⟨_, rfl⟩
  obtain ⟨v, hv⟩ : ∃ v, u.checkCycle g c = v := ⟨_, rfl⟩
  obtain ⟨w, hw⟩ : ∃ w, v.updLane g k (fun l => { l with check := some { sample := e, skipRerun := !u.canRerun g c e, exact := v.exactShadow g e } }) = w :=
    ⟨_, rfl⟩
  have hsu : s.SameFloor u g := hu ▸ .updLane s g k _
  obtain ⟨huv, -, -, hcnt⟩ := hv ▸ u.checkCycle_spec g c
  have hvw : v.SameFloor w g := hw ▸ .updLane v g k _
  have hlane : u.lane g k = (s.lane g k).choose (s.swath * 8192 + c * 32) := by rw [← hu, State.lane_updLane, if_pos rfl]
  have hframe : s.Only {.tuss g, .reg .GRS_LANE_CNT} w := by
    rw [← hw, ← hv, ← hu]
    unfold State.checkCycle
    simp [F.GRS_LANE_CNT_CHECKS]
  refine ⟨w, (hsu.trans huv).trans hvw, hframe, ?_, ?_, ?_⟩
  · rw [← hw, State.updLane, State.get_updTuss, hcnt, ← hu, State.updLane, State.get_updTuss]
  · rw [← hw, State.lane_updLane, if_pos rfl, hsu.canRerun_eq, (hsu.trans huv).exactShadow_eq]
  · unfold State.sampleSlot
    dsimp only
    rw [hu, hlane, hs]
    dsimp only
    rw [hd, if_neg Bool.false_ne_true]
    rw [← State.checkCycle, hv, hw, hsu.canRerun_eq, ((hsu.trans huv).trans hvw).again_eq]
    cases s.canRerun g c e <;> rfl

/-- A check slot in force with a sample to check. -/
theorem State.sampleSlot_spec : (s.sampleSlot g k c).get (F.GRS_LANE_CNT_CHECKS g) = (s.get (F.GRS_LANE_CNT_CHECKS g) + 1) % 2 ^ (F.GRS_LANE_CNT_CHECKS g).w ∧
    ((s.sampleSlot g k c).lane g k).check = some { sample := e, skipRerun := !s.canRerun g c e, exact := s.exactShadow g e } ∧
    (s.canRerun g c e = true → ((s.sampleSlot g k c).arr g (s.again g e .rerun c).arr).sampled =
      (s.arr g (s.again g e .rerun c).arr).sampled ++ [s.again g e .rerun c]) ∧
    s.Only {.tuss g, .reg .GRS_LANE_CNT, .reg .TSK_ARR_STATE} (s.sampleSlot g k c) := by
  obtain ⟨u, hfloor, hframe, hcnt, hcheck, heq⟩ := State.sampleSlot_eq hs hd
  rw [heq]
  split
  · next hcan =>
    obtain ⟨hsampled, hlanes, -⟩ := u.latch_spec g (s.again g e .rerun c) (tfld e.task 0 4 2)
    have hlatch : u.Only {.tuss g, .reg .TSK_ARR_STATE} (u.latch g (s.again g e .rerun c) (tfld e.task 0 4 2)) := by simp
    refine ⟨?_, ?_, fun _ => ?_, (hframe.mono (by simp)).trans (hlatch.mono (by simp))⟩
    · rw [hlatch.get (by simp [F.GRS_LANE_CNT_CHECKS]), hcnt]
    · rw [State.lane, hlanes, ← State.lane, hcheck]
    · rw [hsampled, hfloor.arr_eq]
  · next hcan => exact ⟨hcnt, hcheck, fun h => absurd h hcan, hframe.mono (by simp)⟩

end

/-- A check slot that runs the next vector of an arbitration again. -/
theorem State.arbSlot_spec {s : State} {g c : Nat} {x : Arb} {e : Evl} (harb : (s.tuss g).arb = some x) (he : x.trig.vecs[x.started]? = some e)
    (hcan : s.canRerun g c e = true) : ((s.arbSlot g c x).tuss g).arb = some { x with started := x.started + 1 } ∧
    ((s.arbSlot g c x).arr g (s.again g e (.arb x.started) c).arr).sampled =
      (s.arr g (s.again g e (.arb x.started) c).arr).sampled ++ [s.again g e (.arb x.started) c] ∧
    s.Only {.tuss g, .reg .GRS_LANE_CNT, .reg .TSK_ARR_STATE} (s.arbSlot g c x) := by
  obtain ⟨u, hu⟩ : ∃ u, s.checkCycle g c = u := ⟨_, rfl⟩
  obtain ⟨hfloor, -, hsarb, -⟩ := hu ▸ s.checkCycle_spec g c
  obtain ⟨v, hv⟩ : ∃ v, u.latch g (s.again g e (.arb x.started) c) (tfld e.task 0 4 2) = v := ⟨_, rfl⟩
  obtain ⟨hsampled, -, hvarb⟩ := hv ▸ u.latch_spec g (s.again g e (.arb x.started) c) (tfld e.task 0 4 2)
  have heq : s.arbSlot g c x = v.updTuss g fun t => { t with arb := t.arb.map fun x => { x with started := x.started + 1 } } := by
    unfold State.arbSlot
    rw [he]
    dsimp only
    rw [hcan, Bool.not_true, if_neg Bool.false_ne_true, ← State.checkCycle, hu, hfloor.again_eq, hv]
  have hsu : s.Only {.tuss g, .reg .GRS_LANE_CNT} u := by
    rw [← hu]
    unfold State.checkCycle
    simp [F.GRS_LANE_CNT_CHECKS]
  have huv : u.Only {.tuss g, .reg .TSK_ARR_STATE} v := by
    rw [← hv]
    simp
  rw [heq]
  refine ⟨?_, ?_, ?_⟩
  · rw [State.tuss_updTuss, hvarb, hsarb, harb]
    rfl
  · rw [State.arr, State.tuss_updTuss, ← State.arr, hsampled, hfloor.arr_eq]
  · simpa using (hsu.mono (by simp)).trans (huv.mono (by simp))

/-! ### A check's comparison -/

/-- The findings of a comparison shown: the failures that it has, and the shadow set in use. -/
def State.checkFound (s : State) (g : Nat) (e : Evl) (far off : List Nat) : State :=
  ((s.setIf (!far.isEmpty) (F.GRS_LANE_STATUS_RERUN_FAIL g) 1).setIf (!off.isEmpty) (F.GRS_LANE_STATUS_SHADOW_FAIL g) 1).set
    (F.GRS_LANE_STATUS_SHADOW_SET g) (((s.setIf (!far.isEmpty) (F.GRS_LANE_STATUS_RERUN_FAIL g) 1).setIf (!off.isEmpty)
      (F.GRS_LANE_STATUS_SHADOW_FAIL g) 1).get ⟨.GRS_SHADOW_MAP, g, e.arr / 4, e.arr % 4 * 8, 6⟩)

/-- A check over: its lane has none, and columns that the shadow passed are noted with their arrays. -/
def State.checkOver (s : State) (g k : Nat) (r : CheckRun) (off : List Nat) : State :=
  let u := s.updLane g k fun l => { l with check := none }
  if off.isEmpty && !r.exact.isEmpty then
    r.sample.members.foldl (fun (s : State) a => s.updArr g a fun x =>
      { x with passed := Tab.set (fun _ => 0) x.passed ((r.exact.headD (0, 0)).1 / 4) r.sample.time }) u
  else u

/-- The columns whose re-run lies too far from the sample. -/
def State.farOf (s : State) (r : CheckRun) : List Nat :=
  match r.rerun with
  | some x => farColumns (s.tolAgree + 64) r.sample.vals x.vals
  | none => []

/-- The columns whose exact value the sample misses. -/
def State.offOf (s : State) (r : CheckRun) : List Nat :=
  (r.exact.filter fun p => offExact r.sample.range (r.sample.vals.getD p.1 0) p.2 s.tolAgree).map Prod.fst

theorem State.checkCompare_eq {s : State} {g k : Nat} {r : CheckRun} (hr : (s.lane g k).check = some r) (hready : r.rerun.isSome = true ∨ r.skipRerun = true) :
    s.checkCompare g k =
      let u := (s.checkFound g r.sample (s.farOf r) (s.offOf r)).checkOver g k r (s.offOf r)
      let cols := s.farOf r ++ (s.offOf r).filter fun j => !(s.farOf r).contains j
      if cols.isEmpty then u else u.trigger g ⟨2, r.sample.slot, r.sample.arr, cols, none, [r.sample], 1, []⟩ := by
  have hgo : (r.rerun.isNone && !r.skipRerun) = false := by
    rcases hready with h | h
    · simp [Option.isNone_eq_false_iff.2 h]
    · simp [h]
  unfold State.checkCompare
  rw [hr]
  dsimp only
  rw [hgo, if_neg Bool.false_ne_true]
  rfl

theorem State.updArrs_spec {g : Nat} (f : Arr17 → Arr17) (as : List Nat) (s : State) :
    s.OnlyTuss (as.foldl (fun s a => s.updArr g a f) s) g [] ∧
    ∃ rs, (as.foldl (fun s a => s.updArr g a f) s).tuss g = { s.tuss g with arrs := rs } := by
  induction as generalizing s with
  | nil => exact ⟨.refl s g [], (s.tuss g).arrs, rfl⟩
  | cons a as ih =>
    obtain ⟨hframe, rs, hrs⟩ := ih (s.updArr g a f)
    refine ⟨((State.OnlyTuss.refl s g []).upd _).trans hframe, rs, hrs.trans ?_⟩
    rw [State.updArr, State.tuss_updTuss]

theorem State.checkOver_spec (s : State) (g k : Nat) (r : CheckRun) (off : List Nat) : ((s.checkOver g k r off).lane g k).check = none ∧
    ((s.checkOver g k r off).tuss g).arbQueue = (s.tuss g).arbQueue ∧ ((s.checkOver g k r off).tuss g).arb = (s.tuss g).arb ∧
    s.OnlyTuss (s.checkOver g k r off) g [] := by
  obtain ⟨u, hu⟩ : ∃ u, s.updLane g k (fun l => { l with check := none }) = u := ⟨_, rfl⟩
  have hcheck : (u.lane g k).check = none := by rw [← hu, State.lane_updLane, if_pos rfl]
  have hsu : s.OnlyTuss u g [] := hu ▸ (State.OnlyTuss.refl s g []).upd _
  have htuss : (u.tuss g).arbQueue = (s.tuss g).arbQueue ∧ (u.tuss g).arb = (s.tuss g).arb := by
    rw [← hu, State.updLane, State.tuss_updTuss]
    exact ⟨rfl, rfl⟩
  unfold State.checkOver
  dsimp only
  rw [hu]
  split
  · obtain ⟨hframe, rs, hrs⟩ := State.updArrs_spec (g := g)
      (fun x => { x with passed := Tab.set (fun _ => 0) x.passed ((r.exact.headD (0, 0)).1 / 4) r.sample.time }) r.sample.members u
    refine ⟨?_, ?_, ?_, hsu.trans hframe⟩
    · rw [State.lane, hrs]
      exact hcheck
    · rw [hrs]
      exact htuss.1
    · rw [hrs]
      exact htuss.2
  · exact ⟨hcheck, htuss.1, htuss.2, hsu⟩

theorem State.checkFound_tuss (s : State) (g : Nat) (e : Evl) (far off : List Nat) : (s.checkFound g e far off).tuss g = s.tuss g := by
  have h : s.Only {.reg .GRS_LANE_STATUS} (s.checkFound g e far off) := by
    unfold State.checkFound
    simp [F.GRS_LANE_STATUS_RERUN_FAIL, F.GRS_LANE_STATUS_SHADOW_FAIL, F.GRS_LANE_STATUS_SHADOW_SET]
  exact h.tuss (by simp)

theorem State.get_checkFound (s : State) (g : Nat) (e : Evl) (far off : List Nat) :
    (far ≠ [] → (s.checkFound g e far off).get (F.GRS_LANE_STATUS_RERUN_FAIL g) = 1) ∧
    (off ≠ [] → (s.checkFound g e far off).get (F.GRS_LANE_STATUS_SHADOW_FAIL g) = 1) := by
  unfold State.checkFound
  refine ⟨fun hfar => ?_, fun hoff => ?_⟩
  · rw [State.get_set_ne _ _ (Fld.key_ne_of_lo (by simp [F.GRS_LANE_STATUS_RERUN_FAIL, F.GRS_LANE_STATUS_SHADOW_SET])),
      State.get_setIf_ne _ (Fld.key_ne_of_lo (by simp [F.GRS_LANE_STATUS_RERUN_FAIL, F.GRS_LANE_STATUS_SHADOW_FAIL])), State.setIf, if_pos (by simpa using hfar),
      State.get_set_same]
    rfl
  · rw [State.get_set_ne _ _ (Fld.key_ne_of_lo (by simp [F.GRS_LANE_STATUS_SHADOW_FAIL, F.GRS_LANE_STATUS_SHADOW_SET])),
      State.setIf, if_pos (by simpa using hoff), State.get_set_same]
    rfl

/-- A trigger finds room in the queue of arbitrations (R312). -/
theorem State.trigger_room {s : State} {g : Nat} {tr : Trigger} (h : (s.tuss g).arbQueue.length + natOf (s.tuss g).arb.isSome < 5) :
    ((s.trigger g tr).tuss g).arbQueue = (s.tuss g).arbQueue ++ [tr] ∧ ((s.trigger g tr).tuss g).lanes = (s.tuss g).lanes ∧
    s.OnlyTuss (s.trigger g tr) g [F.GRS_LANE_STATUS_ARB_ACTIVE g, F.GRS_LANE_STATUS_ARB_QUEUED g] := by
  obtain ⟨u, hu⟩ : ∃ u, s.updTuss g (fun t => { t with arbQueue := t.arbQueue ++ [tr] }) = u := ⟨_, rfl⟩
  have heq : s.trigger g tr = u.arbStatus g := by
    unfold State.trigger
    dsimp only
    rw [if_neg (by omega), hu]
  have htuss : (u.arbStatus g).tuss g = u.tuss g := rfl
  rw [heq, htuss, ← hu, State.tuss_updTuss]
  exact ⟨rfl, rfl, (((State.OnlyTuss.refl s g _).upd _).set _ (by simp)).set _ (by simp)⟩

/-- Settles O26: a check slot's sample, exact values and re-run read nothing that the choice of the sample and the count change, and a
comparison's findings, its end and its trigger follow one another. -/
theorem checkSlotsSampleAndCompare : Obligations.CheckSlotsSampleAndCompare := by
  unfold Obligations.CheckSlotsSampleAndCompare
  refine ⟨fun g k c s hruns hgorse => ?_, fun g k s r far off hon hgorse hr hready hfar hoff => ?_⟩
  · have hon : s.onT g = true := by
      unfold State.runsT at hruns
      exact (Bool.and_eq_true _ _ ▸ hruns).1
    have hexec : exec (.checkSlot g k c) s = .next (if (s.tuss g).open_ = some s.swath then s.checkSlot g k c.toNat else s) := by
      change Host.Outcome.next (s.ifCycle g _) = _
      rw [State.ifCycle, State.ifT, if_pos hruns, State.ifGorse, hon, hgorse, Bool.not_false, Bool.and_self, if_pos rfl]
    dsimp only
    refine ⟨fun hopen hstate ⟨hquiet, hlive⟩ harb hforce e hs hd => ?_, fun hnot => ?_, fun x e hopen hstate ⟨hquiet, hlive⟩ harb hslot he hwhen hcan => ?_⟩
    · have heq : s.checkSlot g k c.toNat = s.sampleSlot g k c.toNat := by
        unfold State.checkSlot
        rw [if_neg (by simp [hstate, hquiet, hlive]), harb]
        dsimp only
        rw [if_pos hforce]
      obtain ⟨hcnt, hcheck, hrerun, hframe⟩ := State.sampleSlot_spec hs hd
      rw [hexec, if_pos hopen, heq]
      exact ⟨_, rfl, hcnt, hcheck, hrerun, fun h hh => hframe.tuss (by simpa using hh), hframe.eq_mix.trans (by simp [State.mix])⟩
    · rw [hexec]
      congr 1
      split
      · next hopen =>
        unfold State.checkSlot
        rcases hnot with h | h | h | ⟨harb, hforce⟩
        · exact absurd hopen h
        · rw [if_pos (.inl h)]
        · rw [if_pos]
          by_contra hgo
          simp only [not_or, Bool.not_eq_true] at hgo
          exact h hgo.2
        · rw [harb]
          dsimp only
          rw [hforce, if_neg Bool.false_ne_true, ite_self]
      · rfl
    · have heq : s.checkSlot g k c.toNat = s.arbSlot g c.toNat x := by
        unfold State.checkSlot
        rw [if_neg (by simp [hstate, hquiet, hlive]), harb]
        dsimp only
        rw [he, if_pos]
        refine ⟨hslot, ?_⟩
        rcases hwhen with h | ⟨h1, h2, h3⟩
        · simp [h]
        · simp [h1, h2, h3]
      obtain ⟨hstarted, hsampled, hframe⟩ := State.arbSlot_spec harb he hcan
      rw [hexec, if_pos hopen, heq]
      exact ⟨_, rfl, hstarted, hsampled, fun h hh => hframe.tuss (by simpa using hh), hframe.eq_mix.trans (by simp [State.mix])⟩
  · have hexec : exec (.checkComparison g k) s = .next (s.checkCompare g k) := by
      change Host.Outcome.next (s.ifGorse g _) = _
      rw [State.ifGorse, hon, hgorse, Bool.not_false, Bool.and_self, if_pos rfl]
    have hfar : far = s.farOf r := hfar
    have hoff : off = s.offOf r := hoff
    have heq := State.checkCompare_eq hr hready
    dsimp only at heq
    rw [← hfar, ← hoff] at heq
    obtain ⟨u, hu⟩ : ∃ u, s.checkFound g r.sample far off = u := ⟨_, rfl⟩
    obtain ⟨v, hv⟩ : ∃ v, u.checkOver g k r off = v := ⟨_, rfl⟩
    obtain ⟨hcheck, hqueue, harb, huv⟩ := hv ▸ u.checkOver_spec g k r off
    have htuss : u.tuss g = s.tuss g := hu ▸ s.checkFound_tuss g r.sample far off
    rw [hu, hv] at heq
    rw [htuss] at hqueue harb
    refine ⟨fun hf ho => ?_, fun hcols hroom => ?_⟩
    · rw [hexec, heq, hf, ho, List.filter_nil, List.nil_append, List.isEmpty_nil, if_pos rfl]
      refine ⟨v, rfl, hcheck, hqueue, ?_⟩
      have hsu : s.OnlyTuss u g [F.GRS_LANE_STATUS_SHADOW_SET g] := by
        rw [← hu, hf, ho]
        exact (State.OnlyTuss.refl s g _).set _ (by simp)
      exact hsu.trans (huv.mono (by simp))
    · have hne : (far ++ off.filter fun j => !far.contains j).isEmpty = false := by
        rw [List.isEmpty_eq_false_iff]
        intro h
        obtain ⟨h1, h2⟩ := List.append_eq_nil_iff.1 h
        rw [h1] at h2 hcols
        rcases hcols with h | h
        · exact h rfl
        · exact h (by simpa using h2)
      rw [hne, if_neg Bool.false_ne_true] at heq
      rw [hexec, heq]
      rw [← hqueue, ← harb] at hroom
      obtain ⟨hadd, hlanes, hframe⟩ := State.trigger_room
        (tr := ⟨2, r.sample.slot, r.sample.arr, far ++ off.filter fun j => !far.contains j, none, [r.sample], 1, []⟩) hroom
      obtain ⟨hrerun, hshadow⟩ := hu ▸ s.get_checkFound g r.sample far off
      have hsu : s.OnlyTuss u g [F.GRS_LANE_STATUS_RERUN_FAIL g, F.GRS_LANE_STATUS_SHADOW_FAIL g, F.GRS_LANE_STATUS_SHADOW_SET g] := by
        rw [← hu]
        exact ((((State.OnlyRegs.refl s _).setIf _ _ (by simp)).setIf _ _ (by simp)).set _ (by simp)).onlyTuss g
      have hend := (hsu.mono (gs := [F.GRS_LANE_STATUS_RERUN_FAIL g, F.GRS_LANE_STATUS_SHADOW_FAIL g, F.GRS_LANE_STATUS_SHADOW_SET g,
        F.GRS_LANE_STATUS_ARB_ACTIVE g, F.GRS_LANE_STATUS_ARB_QUEUED g]) (by simp)).trans ((huv.mono (by simp)).trans (hframe.mono (by simp)))
      have hkeep (f : Fld) (hf : f.key ∉ [F.GRS_LANE_STATUS_ARB_ACTIVE g, F.GRS_LANE_STATUS_ARB_QUEUED g].map Fld.key) :
          (v.trigger g ⟨2, r.sample.slot, r.sample.arr, far ++ off.filter fun j => !far.contains j, none, [r.sample], 1, []⟩).get f = u.get f :=
        (hframe.2.1 f hf).trans (huv.2.1 f (by simp))
      refine ⟨_, _, rfl, ?_, fun h => ?_, fun h => ?_, hadd.trans (by rw [hqueue]), rfl, rfl, rfl, hend.2.2, hend.1⟩
      · rw [State.lane, hlanes, ← State.lane, hcheck]
      · rw [hkeep _ (by simp [Fld.key_iff, F.GRS_LANE_STATUS_RERUN_FAIL, F.GRS_LANE_STATUS_ARB_ACTIVE, F.GRS_LANE_STATUS_ARB_QUEUED]), hrerun h]
      · rw [hkeep _ (by simp [Fld.key_iff, F.GRS_LANE_STATUS_SHADOW_FAIL, F.GRS_LANE_STATUS_ARB_ACTIVE, F.GRS_LANE_STATUS_ARB_QUEUED]), hshadow h]

end Sys2Proof.Machine

namespace Sys2Proof.Machine
open Sys2Proof

/-! ### A tagging mode beyond the three

TAG_MODE is two bits wide; a register table of `State` can hold 4 there. Such a guard grants writes, and no case of the statement then says
which tag a block gets. -/

/-- The PCIe interface and stack 0 on, and guard 0 granting inbound writes with 4 as its tagging mode. -/
def wildGuard : State :=
  { regs := [F.PWR_DOMAIN_PCIE, F.PWR_DOMAIN_STACK, F.GLB_RGN_ATTR_EN 0, F.GLB_RGN_ATTR_PCI_WR 0, F.GLB_RGN_LIMIT_LIMIT 0].foldl
      (fun r f => Tab.set (fun _ => 0) r f.key 1) (Tab.set (fun _ => 0) [] (F.GLB_RGN_ATTR_TAG_MODE 0).key 4) }

/-- A block of 256 bytes with the value `v`. -/
def evenBlock (v : Byte) : Block := { data := List.replicate 256 v, crc := 0, tid := 0, seq := 0 }

/-- Refutes O41: with a tagging mode of 4 the statement has the store of one block leave two different ones. -/
theorem not_hostTrafficThroughBar2 : ¬Obligations.HostTrafficThroughBar2 := by
  unfold Obligations.HostTrafficThroughBar2
  rintro ⟨hwrite, -⟩
  have hstore (b : Block) := hwrite 0 (List.replicate 256 0) [] wildGuard 0 0 0 (by decide) (by decide) rfl (List.length_replicate ..)
    (by decide) (by decide) (by decide) (by decide) b (fun h => absurd h (by decide)) (fun h => absurd h (by decide))
    (fun h => absurd h (by decide))
  have hread (v : Byte) : ∃ t, exec (.pcieInboundWrite 0 (List.replicate 256 0) []) wildGuard = .next t ∧
      Memory.block t.mem 0 = evenBlock v := by
    obtain ⟨⟨t, hexec, hmem, -⟩, hplain⟩ := hstore (evenBlock v)
    rw [hplain (fun _ h => absurd h List.not_mem_nil)] at hmem
    obtain ⟨hback, -⟩ := storedBlockReadsBack wildGuard.mem 0 (evenBlock v) rfl (List.length_replicate ..) (by decide : 0 < _)
      (by decide : 0 < _) (by decide : 0 < _) (.inl ⟨0, by decide⟩)
    exact ⟨t, hexec, by rw [hmem]; exact hback⟩
  obtain ⟨t, ht, hzero⟩ := hread 0
  obtain ⟨t', ht', hone⟩ := hread 1
  obtain rfl : t = t' := Host.Outcome.next.inj (ht.symm.trans ht')
  have hdata : List.replicate 256 (0 : Byte) = List.replicate 256 1 := congrArg Block.data (hzero.symm.trans hone)
  exact absurd (List.replicate_right_injective (by decide) hdata) (by decide)

end Sys2Proof.Machine

namespace Sys2Proof.Machine
open Sys2Proof

/-! ### One row of an array's write (R54, R55, R61) -/

/-- What a written row counts. -/
def State.rowCounted (s : State) (g a : Nat) (bad : Bool) : State :=
  let s := s.incMod (F.TSK_ARR_RESTORE_CNT_COUNT g a)
  let s := (s.set (F.TSK_ARR_WRITE_ROWS_DONE g a) (s.get (F.TSK_ARR_WRITE_ROWS_DONE g a) + 1)).rowFailed g a bad
  if !bad then s else s.set (F.TSK_ARR_WRITE_FAIL_ROWS g a) (s.get (F.TSK_ARR_WRITE_FAIL_ROWS g a) + 1)

/-- The fields that a written row counts in, a bad one in two more. -/
def rowFlds (g a : Nat) (bad : Bool) : List Fld :=
  [F.TSK_ARR_WRITE_ROWS_DONE g a, F.TSK_ARR_WRITE_FAIL_ROWS g a, F.TSK_ARR_RESTORE_CNT_COUNT g a] ++
    if bad then [F.TSK_ARR_STATUS_VERIFY_FAIL g a, F.TSK_ARR_EVENTS_VERIFY_FAIL_CNT g a] else []

section
variable (s : State) (g a : Nat)

theorem State.rowFailed_onlyRegs (bad : Bool) : s.OnlyRegs (s.rowFailed g a bad) (rowFlds g a bad) := by
  unfold State.rowFailed
  split
  · rename_i hbad
    subst hbad
    exact ((State.OnlyRegs.refl s _).inc (by simp [rowFlds])).set _ (by simp [rowFlds])
  · exact .refl s _

theorem State.rowCounted_onlyRegs (bad : Bool) : s.OnlyRegs (s.rowCounted g a bad) (rowFlds g a bad) := by
  have hdone (u : State) (h : s.OnlyRegs u (rowFlds g a bad)) : s.OnlyRegs (u.rowFailed g a bad) (rowFlds g a bad) :=
    have hfail := u.rowFailed_onlyRegs g a bad
    ⟨by rw [hfail.1, h.1], h.2.trans hfail.2⟩
  have hrow (x y : Nat) := hdone _ (((State.OnlyRegs.refl s (rowFlds g a bad)).set (f := F.TSK_ARR_RESTORE_CNT_COUNT g a) x (by simp [rowFlds])).set
    (f := F.TSK_ARR_WRITE_ROWS_DONE g a) y (by simp [rowFlds]))
  unfold State.rowCounted
  dsimp only
  split
  · exact hrow _ _
  · exact (hrow _ _).set _ (by simp [rowFlds])

theorem State.rowCounted_spec (bad : Bool) :
    (s.rowCounted g a bad).get (F.TSK_ARR_WRITE_ROWS_DONE g a) =
      (s.get (F.TSK_ARR_WRITE_ROWS_DONE g a) + 1) % 2 ^ (F.TSK_ARR_WRITE_ROWS_DONE g a).w ∧
    (s.rowCounted g a bad).get (F.TSK_ARR_RESTORE_CNT_COUNT g a) =
      (s.get (F.TSK_ARR_RESTORE_CNT_COUNT g a) + 1) % 2 ^ (F.TSK_ARR_RESTORE_CNT_COUNT g a).w ∧
    (s.rowCounted g a bad).get (F.TSK_ARR_WRITE_FAIL_ROWS g a) = (if bad then
      (s.get (F.TSK_ARR_WRITE_FAIL_ROWS g a) + 1) % 2 ^ (F.TSK_ARR_WRITE_FAIL_ROWS g a).w else s.get (F.TSK_ARR_WRITE_FAIL_ROWS g a)) ∧
    (bad = true → (s.rowCounted g a bad).get (F.TSK_ARR_STATUS_VERIFY_FAIL g a) = 1 ∧
      (s.rowCounted g a bad).get (F.TSK_ARR_EVENTS_VERIFY_FAIL_CNT g a) =
        min (s.get (F.TSK_ARR_EVENTS_VERIFY_FAIL_CNT g a) + 1) (2 ^ (F.TSK_ARR_EVENTS_VERIFY_FAIL_CNT g a).w - 1)) := by
  unfold State.rowCounted State.rowFailed
  simp only [State.incMod, State.inc_eq, F.TSK_ARR_WRITE_ROWS_DONE, F.TSK_ARR_RESTORE_CNT_COUNT, F.TSK_ARR_WRITE_FAIL_ROWS,
    F.TSK_ARR_STATUS_VERIFY_FAIL, F.TSK_ARR_EVENTS_VERIFY_FAIL_CNT]
  cases bad <;> simp [State.get_set_ne, Fld.key_iff]

/-- The next row written and counted, with the write's end where it was the last. -/
theorem State.writeNext_eq (x : Nat) (w : ArrWrite) (row : RowJob) (rest : List RowJob) (fails : List (Nat × Nat × Nat)) :
    s.writeNext g a x w row rest fails =
      (let u := (s.updArr g a fun r => { r.wrote row fails with write := some { w with rows := rest, from_ := x + 1 } }).rowCounted g a
        (row.lost || !fails.isEmpty)
      if rest.isEmpty then u.writeComplete g a w.for_ else u) := rfl

/-! ### The write's end -/

/-- What an array keeps of its cells on the way into a state that is not EMPTY, and whether it is still written. -/
theorem State.arr_setArrState_cells {v : Nat} (hv : v ≠ 0) :
    ((s.setArrState g a v).arr g a).cells = (s.arr g a).cells ∧ ((s.setArrState g a v).arr g a).write = (s.arr g a).write := by
  have hbrk (u : State) : u.Only {.reg .BRK_STATUS} (u.brkInPlace g) := by simp
  have harr : ((s.set (F.TSK_ARR_STATE_STATE g a) v).brkInPlace g).arr g a = s.arr g a := by
    rw [State.arr, (hbrk _).tuss (by simp)]
    rfl
  unfold State.setArrState
  dsimp only
  rw [if_neg hv]
  split
  · rw [State.arr_updArr, harr]
    exact ⟨rfl, rfl⟩
  · split
    · rw [State.arr_updArr, harr]
      exact ⟨rfl, rfl⟩
    · rw [harr]
      exact ⟨rfl, rfl⟩

theorem State.arr_rebaseArr (b : Nat) : (s.rebaseArr g a).arr g b = s.arr g b := by
  unfold State.rebaseArr State.updLane
  split
  · rfl
  · rw [State.arr, State.tuss_updTuss]
    rfl

theorem State.get_rebaseArr (f : Fld) : (s.rebaseArr g a).get f = s.get f := by
  unfold State.rebaseArr
  split <;> rfl

/-- The write of an array ends that firmware or a calibration window asked for. -/
theorem State.writeComplete_spec {k : WriteFor} (hk : k = .firmware ∨ k = .window) :
    ((s.writeComplete g a k).arr g a).cells = (s.arr g a).cells ∧ ((s.writeComplete g a k).arr g a).write = none ∧
    (s.writeComplete g a k).arrState g a = (if s.get (F.TSK_ARR_WRITE_FAIL_ROWS g a) = 0 then aVALID else aWFAULT) ∧
    s.Only {.tuss g, .reg .BRK_STATUS, .reg .TSK_ARR_STATE} (s.writeComplete g a k) := by
  obtain ⟨v, hv⟩ : ∃ v, (if s.on (F.TSK_ARR_WRITE_FAIL_ROWS g a) then aWFAULT else aVALID) = v := ⟨_, rfl⟩
  have hstate : v = if s.get (F.TSK_ARR_WRITE_FAIL_ROWS g a) = 0 then aVALID else aWFAULT := by
    rw [← hv, State.on]
    by_cases h : s.get (F.TSK_ARR_WRITE_FAIL_ROWS g a) = 0 <;> simp [h]
  have hne : v ≠ 0 ∧ v < 8 := by
    rw [hstate]
    split <;> decide
  have heq : s.writeComplete g a k = ((s.updArr g a fun r => { r with write := none }).setArrState g a v).rebaseArr g a := by
    unfold State.writeComplete
    rcases hk with rfl | rfl <;> dsimp only <;> rw [hv]
  obtain ⟨hcells, hwrite⟩ := (s.updArr g a fun r => { r with write := none }).arr_setArrState_cells g a hne.1
  rw [heq, State.arr_rebaseArr, hcells, hwrite, State.arr_updArr, State.arrState, State.get_rebaseArr, ← State.arrState,
    State.arrState_setArrState_same _ _ _ hne.2, hstate]
  exact ⟨rfl, rfl, rfl, by simp⟩

end

/-! ### A repair of one row (R63) -/

theorem State.Only.chan_eq {s t : State} {ps : Set Part} (h : s.Only ps t) (hp : .chans ∉ ps) (n : Nat) : t.chan n = s.chan n := by
  rw [State.chan, State.chan, show t.chans = s.chans from h.same .chans hp]

@[simp] theorem State.chan_setChan (s : State) (n : Nat) (c : Chan) : (s.setChan n c).chan n = c := by
  simp [State.chan, State.setChan]

/-- What the repair of a row leaves in the array, its queue and the counts of array writes. -/
theorem State.repairRow_spec {s u : State} {g a : Nat} {r : Repair} {row : RowJob} (fails : List (Nat × Nat × Nat))
    (hread : s.readRow g a r.holds r.row = (u, row)) :
    ((s.repairRow g a r fails).arr g a).cells = ((u.arr g a).wrote row fails).cells ∧
    ((s.repairRow g a r fails).arr g a).csum = ((u.arr g a).wrote row fails).csum ∧
    ((s.repairRow g a r fails).chan (chanOf g)).repairs = (u.chan (chanOf g)).repairs.erase r ∧
    u.Only {.tuss g, .chans, .reg .TSK_ARR_STATUS, .reg .TSK_ARR_EVENTS, .reg .TSK_ARR_RESTORE_CNT, .reg .CHN_ADM_BUDGET}
      (s.repairRow g a r fails) := by
  obtain ⟨v, hv⟩ : ∃ v, ((u.updArr g a fun x =>
    let x := x.wrote row fails
    { x with filling := x.filling.map fun c => c.fill x row.row }).rowFailed g a (row.lost || !fails.isEmpty)).incMod
      (F.TSK_ARR_RESTORE_CNT_COUNT g a) = v := ⟨_, rfl⟩
  have huv : (u.updArr g a fun x =>
      let x := x.wrote row fails
      { x with filling := x.filling.map fun c => c.fill x row.row }).Only {.reg .TSK_ARR_STATUS, .reg .TSK_ARR_EVENTS, .reg .TSK_ARR_RESTORE_CNT} v := by
    rw [← hv]
    simp [F.TSK_ARR_RESTORE_CNT_COUNT]
  have hu : u.Only {.tuss g} (u.updArr g a fun x =>
      let x := x.wrote row fails
      { x with filling := x.filling.map fun c => c.fill x row.row }) := by simp
  obtain ⟨c, hc⟩ : ∃ c, ({ v.chan (chanOf g) with repairs := (v.chan (chanOf g)).repairs.erase r } : Chan) = c := ⟨_, rfl⟩
  obtain ⟨b, heq⟩ : ∃ b, s.repairRow g a r fails = ((v.setChan (chanOf g) c).shrinkBit (chanOf g)).setIf b (F.TSK_ARR_STATUS_REPAIR_PENDING g a) 0 := by
    unfold State.repairRow
    dsimp only
    rw [hread]
    dsimp only
    rw [hv]
    refine ⟨!(((v.chan (chanOf g)).repairs.erase r).any fun x => x.g == g && x.a == a), ?_⟩
    rw [← hc]
    by_cases h : (((v.chan (chanOf g)).repairs.erase r).any fun x => x.g == g && x.a == a) = true
    · rw [if_pos h, h]
      rfl
    · rw [if_neg h, Bool.eq_false_of_not_eq_true h]
      rfl
  have hend : (v.setChan (chanOf g) c).Only {.reg .CHN_ADM_BUDGET, .reg .TSK_ARR_STATUS} (s.repairRow g a r fails) := by
    rw [heq]
    simp [F.TSK_ARR_STATUS_REPAIR_PENDING]
  have hset : v.Only {.chans} (v.setChan (chanOf g) c) := by simp
  have harr : (s.repairRow g a r fails).arr g a = { (u.arr g a).wrote row fails with
      filling := ((u.arr g a).wrote row fails).filling.map fun c => c.fill ((u.arr g a).wrote row fails) row.row } := by
    rw [State.arr, hend.tuss (by simp), hset.tuss (by simp), huv.tuss (by simp), ← State.arr, State.arr_updArr]
  rw [harr, hend.chan_eq (by simp), State.chan_setChan, ← hc]
  refine ⟨rfl, rfl, ?_, ((hu.mono (by simp)).trans (huv.mono (by simp))).trans ((hset.mono (by simp)).trans (hend.mono (by simp)))⟩
  change (v.chan (chanOf g)).repairs.erase r = _
  rw [huv.chan_eq (by simp), hu.chan_eq (by simp)]

/-! ### Which row a cycle writes -/

section
variable {s : State} {g : Tsk} {a : Arr} {c : BitVec 8} {fails : List (Fin 260 × Fin 16 × Fin 16)} {x : Nat}
variable (hruns : s.runsT g = true) (hopen : (s.tuss g).open_ = some s.swath) (hx : x = s.swath * 256 + c.toNat)
include hruns hopen hx

theorem exec_rowWrite : exec (.rowWrite g a c fails) s = .next (s.rowWrite g a x (cellList fails)) := by
  change Host.Outcome.next (s.ifCycle g _) = _
  rw [State.ifCycle, State.ifT, if_pos hruns, if_pos hopen, hx]

theorem exec_rowWrite_next {w : ArrWrite} {r : RowJob} {rest : List RowJob} {v : RowTurn} (hrep : s.repairAt g a x = none)
    (hw : (s.arr g a).write = some w) (hrows : w.rows = r :: rest) (hv : s.writeTurn g a = some v) :
    exec (.rowWrite g a c fails) s = .next (if s.rowMayEnd g a x v && decide (r.due ≤ s.swath) then
      (s.spend g a v.cycles).writeNext g a x w r rest (cellList fails) else s) := by
  rw [exec_rowWrite hruns hopen hx, State.rowWrite, hrep]
  dsimp only
  rw [State.waveBegin, hw, Option.isSome_some, if_pos rfl, hv, hw]
  dsimp only
  rw [hrows]

theorem exec_rowWrite_repair {p : Repair} (hrep : s.repairAt g a x = some p) :
    exec (.rowWrite g a c fails) s = .next (if s.rowMayEnd g a x p.turn then
      (s.spend g a p.turn.cycles).repairRow g a p (cellList fails) else s) := by
  rw [exec_rowWrite hruns hopen hx, State.rowWrite, hrep]

end

/-- Settles O20, by whether a repair ends in the cycle and whether the row was the write's last. -/
theorem rowWriteWritesOneRow : Obligations.RowWriteWritesOneRow := by
  intro g a c fails s x hruns hopen hx
  refine ⟨fun w r rest n v bad hrep hw hrows hv hbad hn => ?_, fun p hrep => ?_⟩
  · have hexec := exec_rowWrite_next (fails := fails) hruns hopen hx hrep hw hrows hv
    obtain ⟨u, hu⟩ : ∃ u, ((s.spend g a v.cycles).updArr g a fun q =>
      { q.wrote r (cellList fails) with write := some { w with rows := rest, from_ := x + 1 } }) = u := ⟨_, rfl⟩
    have hframe : s.OnlyTuss u g (rowFlds g a bad) := hu ▸ ((State.OnlyTuss.refl s g _).upd _).upd _
    have hget (f : Fld) : u.get f = s.get f := hu ▸ rfl
    have harr : u.arr g a = { (s.arr g a).wrote r (cellList fails) with write := some { w with rows := rest, from_ := x + 1 } } := by
      rw [← hu, State.arr_updArr, State.arr_spend]
    have hused : (u.tuss g).used = (s.tuss g).used ++ v.cycles.map fun y => (a.val, y) := by
      rw [← hu, State.updArr, State.tuss_updTuss, State.spend, State.tuss_updTuss]
    have hcount := u.rowCounted_onlyRegs g a bad
    have htuss (h : Nat) : (u.rowCounted g a bad).tuss h = u.tuss h := by
      rw [hcount.1]
      rfl
    have hcarr : (u.rowCounted g a bad).arr g a = u.arr g a := by rw [State.arr, htuss, ← State.arr]
    obtain ⟨hdone, hcnt, hfail, hver⟩ := u.rowCounted_spec g a bad
    simp only [hget] at hdone hcnt hfail hver
    rw [← hn] at hfail
    refine ⟨fun hno => ?_, fun hmay hdue hmore => ?_, fun hmay hdue hlast hfor => ?_⟩
    · rw [hexec]
      rcases hno with h | h
      · rw [h]
        rfl
      · rw [decide_eq_false (by omega), Bool.and_false]
        rfl
    · rw [hmay, decide_eq_true hdue, Bool.and_self, if_pos rfl, State.writeNext_eq, hu, ← hbad] at hexec
      dsimp only at hexec
      rw [List.isEmpty_eq_false_iff.mpr hmore] at hexec
      refine ⟨_, hexec, ?_⟩
      rw [if_neg Bool.false_ne_true, hcarr, htuss, harr]
      exact ⟨rfl, rfl, rfl, hused, hdone, hcnt, hfail, hver, hframe.trans (hcount.onlyTuss g)⟩
    · rw [hmay, decide_eq_true hdue, Bool.and_self, if_pos rfl, State.writeNext_eq, hu, ← hbad, hlast] at hexec
      obtain ⟨hcells, hwrite, hstate, hend⟩ := (u.rowCounted g a bad).writeComplete_spec g a hfor
      rw [hfail] at hstate
      refine ⟨_, hexec, ?_⟩
      dsimp only
      rw [List.isEmpty_nil, if_pos rfl, hcells, hcarr, harr, hend.get (by simp [F.TSK_ARR_WRITE_FAIL_ROWS])]
      have hwhole : s.Only ({.tuss g} ∪ Part.regs) ((u.rowCounted g a bad).writeComplete g a w.for_) := by
        have hregs : u.Only Part.regs (u.rowCounted g a bad) := by
          unfold State.rowCounted
          dsimp only
          split <;> simp [Part.regs]
        have hu' : s.Only {.tuss g} u := by rw [← hu]; simp
        exact ((hu'.mono (by simp)).trans (hregs.mono (by simp))).trans (hend.mono (by simp))
      exact ⟨rfl, hwrite, hfail, hstate, fun h hh => hwhole.tuss (by simp [hh]), hwhole.eq_mix.trans (by simp [State.mix])⟩
  · have hexec := exec_rowWrite_repair (fails := fails) hruns hopen hx hrep
    refine ⟨fun hno => ?_, fun u r hmay hread => ?_⟩
    · rw [hexec, hno]
      rfl
    · rw [hmay, if_pos rfl] at hexec
      obtain ⟨hcells, hcsum, hqueue, hframe⟩ := State.repairRow_spec (cellList fails) hread
      refine ⟨_, hexec, hcells, hcsum, hqueue, hframe.get (by simp [F.TSK_ARR_WRITE_FAIL_ROWS]), hframe.get (by simp [F.TSK_ARR_WRITE_ROWS_DONE]),
        hframe.get (by simp [F.TSK_ARR_STATE_STATE]), fun h hh => hframe.tuss (by simp [hh]), ?_⟩
      exact hframe.eq_mix.trans (by simp [State.mix])

end Sys2Proof.Machine

namespace Sys2Proof.Machine
open Sys2Proof

/-! ### A task's place in the queue and what its evaluation leaves (R44, R140) -/

theorem State.tuss_raise (s : State) (f : Fld) (v g : Nat) : (s.raise f v).tuss g = s.tuss g := by
  unfold State.raise
  split <;> rfl

theorem State.tuss_setQueue (s : State) (g : Nat) (q : List Task) : (s.setQueue g q).tuss g = { s.tuss g with queue := q } := by
  rw [State.setQueue, State.tuss_raise, State.tuss_set, State.tuss_updTuss]

theorem State.setQueue_onlyTuss (s : State) (g : Nat) (q : List Task) :
    s.OnlyTuss (s.setQueue g q) g [F.TSK_SEQ_STATUS_OCCUPANCY g, F.TSK_SEQ_STATUS_PEAK g] :=
  (((State.OnlyTuss.refl s g _).upd _).set _ (by simp)).raise _ (by simp)

theorem State.arr_updArr_of (s : State) (g a b : Nat) (f : Arr17 → Arr17) : (s.updArr g a f).arr g b = if b = a then f (s.arr g a) else s.arr g b := by
  rw [State.arr, State.updArr, State.tuss_updTuss]
  dsimp only
  split
  · next h => rw [h, Tab.get_set_same, ← State.arr]
  · next h => rw [Tab.get_set_ne _ _ _ (Ne.symm h), ← State.arr]

/-- `t` differs from `s` in no sample, no spent cycle and no task of Tussock `g`. -/
structure State.KeepsRun (s t : State) (g : Nat) : Prop where
  sampled : ∀ a, (t.arr g a).sampled = (s.arr g a).sampled
  used : (t.tuss g).used = (s.tuss g).used
  queue : (t.tuss g).queue = (s.tuss g).queue

namespace State.KeepsRun
variable {s t u : State} {g : Nat}

theorem refl (s : State) (g : Nat) : s.KeepsRun s g := ⟨fun _ => rfl, rfl, rfl⟩

theorem trans (h : s.KeepsRun t g) (k : t.KeepsRun u g) : s.KeepsRun u g :=
  ⟨fun a => (k.sampled a).trans (h.sampled a), k.used.trans h.used, k.queue.trans h.queue⟩

theorem updTuss (s : State) (g : Nat) {f : Tuss → Tuss} (harrs : (f (s.tuss g)).arrs = (s.tuss g).arrs) (hused : (f (s.tuss g)).used = (s.tuss g).used)
    (hqueue : (f (s.tuss g)).queue = (s.tuss g).queue) : s.KeepsRun (s.updTuss g f) g :=
  ⟨fun a => by rw [State.arr, State.tuss_updTuss, harrs, ← State.arr], by rw [State.tuss_updTuss, hused], by rw [State.tuss_updTuss, hqueue]⟩

theorem updArr (s : State) (g a : Nat) {f : Arr17 → Arr17} (h : (f (s.arr g a)).sampled = (s.arr g a).sampled) : s.KeepsRun (s.updArr g a f) g := by
  refine ⟨fun b => ?_, by rw [State.updArr, State.tuss_updTuss], by rw [State.updArr, State.tuss_updTuss]⟩
  rw [State.arr_updArr_of]
  split
  · next hb => rw [h, hb]
  · rfl

theorem set (s : State) (f : Fld) (v g : Nat) : s.KeepsRun (s.set f v) g := ⟨fun _ => rfl, rfl, rfl⟩

theorem noteOwner (s : State) (g a job time : Nat) : s.KeepsRun (s.noteOwner g a job time) g := by
  unfold State.noteOwner
  dsimp only
  split
  · exact .updArr s g a rfl
  · split
    · exact (set s (F.GRS_LANE_STATUS_OWNER_OVF g) 1 g).trans (.updTuss _ g rfl rfl rfl)
    · exact .updArr s g a rfl

theorem noteOwners (job time : Nat) (as : List Nat) (s : State) (g : Nat) : s.KeepsRun (as.foldl (fun s a => s.noteOwner g a job time) s) g := by
  induction as generalizing s with
  | nil => exact .refl s g
  | cons a as ih => exact (noteOwner s g a job time).trans (ih _)

theorem capture (s : State) (g slot : Nat) (xs : List Nat) : s.KeepsRun (s.capture g slot xs) g := by
  unfold State.capture
  dsimp only
  split
  · exact .refl s g
  · split
    · exact .updTuss s g rfl rfl rfl
    · exact .refl s g

end State.KeepsRun

/-- What latching leaves of the tasks, and the cycles that it spends. -/
theorem State.latch_used (s : State) (g : Nat) (e : Evl) (gang : Nat) : ((s.latch g e gang).tuss g).queue = (s.tuss g).queue ∧
    ((s.latch g e gang).tuss g).used = (s.tuss g).used ++ e.members.map fun a => (a, e.swath * 256 + e.cycle) := by
  obtain ⟨u, hu⟩ : ∃ u, s.updArr g e.arr (fun r => { r with sampled := r.sampled ++ [e] }) = u := ⟨_, rfl⟩
  obtain ⟨v, hv⟩ : ∃ v, (spanOthers e.members).foldl (fun s a => s.set (F.TSK_ARR_STATE_PASS_THROUGH g a) 1)
    (e.members.foldl (fun s a => s.set (F.TSK_ARR_STATE_GANG g a) gang) u) = v := ⟨_, rfl⟩
  have huv : u.Only {.reg .TSK_ARR_STATE} v := by
    rw [← hv]
    simp (disch := simp (disch := simp [F.TSK_ARR_STATE_PASS_THROUGH, F.TSK_ARR_STATE_GANG]))
  have htuss : v.tuss g = { s.tuss g with arrs := (u.tuss g).arrs } := by rw [huv.tuss (by simp), ← hu, State.updArr, State.tuss_updTuss]
  have heq : s.latch g e gang = v.updTuss g fun t => { t with
      used := t.used ++ e.members.map fun a => (a, e.swath * 256 + e.cycle)
      passed := t.passed ++ (spanOthers e.members).map fun a => (a, e.swath * 256 + e.cycle) } := by
    rw [← hv, ← hu, State.latch]
  rw [heq, State.tuss_updTuss, htuss]
  exact ⟨rfl, rfl⟩

/-- An evaluation noted with the owners of its arrays, where a job has it (R321). -/
def State.noteEval (s : State) (g : Nat) (e : Evl) (job : Option Nat) : State :=
  match job with
  | some id => e.members.foldl (fun (s : State) a => s.noteOwner g a id e.time) s
  | none => s

theorem State.runPhase_read {s s' : State} {g c ph : Nat} {k : Task} {ecc : List Ecc} {xs : List Nat} (hin : s.inputsOf g k ph ecc = (s', some xs)) :
    s.runPhase g k ph c ecc =
      (let e := s'.evalOf g k ph c xs
      let v := ((s'.latch g e (k.fld 0 4 2)).noteEval g e k.job).capture g e.slot xs
      if ph = 1 then v.setQueue g ((v.tuss g).queue.map fun q => if q = k then { q with phaseA := true } else q) else v.dequeue g k) := by
  unfold State.runPhase
  rw [hin]
  rfl

/-- A phase whose inputs were read: its evaluation joins the samples, its cycles are spent, and the task leaves the queue or stays for phase B. -/
theorem State.runPhase_spec {s s' : State} {g c ph : Nat} {k : Task} {ecc : List Ecc} {xs : List Nat} {e : Evl}
    (hin : s.inputsOf g k ph ecc = (s', some xs)) (he : e = s'.evalOf g k ph c xs) :
    ((s.runPhase g k ph c ecc).arr g e.arr).sampled = (s'.arr g e.arr).sampled ++ [e] ∧
    (∀ m ∈ e.members, (m, s'.swath * 256 + c) ∈ ((s.runPhase g k ph c ecc).tuss g).used) ∧
    ((s.runPhase g k ph c ecc).tuss g).queue = (if ph = 1 then (s'.tuss g).queue.map (fun q => if q = k then { q with phaseA := true } else q)
      else (s'.tuss g).queue.erase k) ∧
    s'.Only {.tuss g, .reg .TSK_SEQ_STATUS, .reg .TSK_ARR_STATE, .reg .GRS_LANE_STATUS} (s.runPhase g k ph c ecc) := by
  obtain ⟨u, hu⟩ : ∃ u, s'.latch g e (k.fld 0 4 2) = u := ⟨_, rfl⟩
  obtain ⟨v, hv⟩ : ∃ v, (u.noteEval g e k.job).capture g e.slot xs = v := ⟨_, rfl⟩
  obtain ⟨huv, hframe⟩ : u.KeepsRun v g ∧ u.Only {.tuss g, .reg .GRS_LANE_STATUS} v := by
    rw [← hv]
    unfold State.noteEval
    cases k.job with
    | none => exact ⟨.capture u g _ _, by simp⟩
    | some id => exact ⟨(State.KeepsRun.noteOwners id e.time e.members u g).trans (.capture ..), by simp (disch := simp (disch := simp))⟩
  obtain ⟨hsampled, -, -⟩ := s'.latch_spec g e (k.fld 0 4 2)
  obtain ⟨hqueue, hused⟩ := s'.latch_used g e (k.fld 0 4 2)
  have hlatch : s'.Only {.tuss g, .reg .TSK_ARR_STATE} (s'.latch g e (k.fld 0 4 2)) := by simp
  rw [hu] at hsampled hqueue hused hlatch
  have hcycle : e.swath * 256 + e.cycle = s'.swath * 256 + c := by rw [he]; rfl
  obtain ⟨q, hq, heq⟩ : ∃ q, q = (if ph = 1 then (s'.tuss g).queue.map (fun q => if q = k then { q with phaseA := true } else q)
      else (s'.tuss g).queue.erase k) ∧ s.runPhase g k ph c ecc = v.setQueue g q := by
    refine ⟨_, rfl, ?_⟩
    rw [State.runPhase_read hin, ← he]
    dsimp only
    rw [hu, hv, State.dequeue, huv.queue, hqueue]
    split <;> rfl
  have hset : v.Only {.tuss g, .reg .TSK_SEQ_STATUS} (v.setQueue g q) := by simp
  rw [heq, State.arr, State.tuss_setQueue]
  refine ⟨(huv.sampled e.arr).trans hsampled, fun m hm => ?_, hq, ((hlatch.mono (by simp)).trans (hframe.mono (by simp))).trans (hset.mono (by simp))⟩
  change _ ∈ (v.tuss g).used
  rw [huv.used, hused, hcycle]
  exact List.mem_append_right _ (List.mem_map.2 ⟨m, hm, rfl⟩)

/-! ### A task retired (R140, R143) -/

/-- A task that no job owns is retired: it leaves the queue and counts by its status. -/
theorem State.retireTask_conflict {s : State} {g : Nat} {k : Task} (hjob : k.job = none) :
    s.retireTask g k 0x09 = (s.dequeue g k).inc (F.TSK_SEQ_ERR_CONFLICT_CNT g) := by
  rw [State.retireTask, hjob]
  rfl

theorem State.retireTask_unavail {s : State} {g : Nat} {k : Task} (hjob : k.job = none) : s.retireTask g k 0x06 = s.dequeue g k := by
  rw [State.retireTask, hjob]
  rfl

/-- An array of its gang is not there for the task: it leaves the queue. -/
theorem State.retireUnavail_spec {s : State} {g : Nat} {k : Task} (ms : List Nat) (hjob : k.job = none) :
    (s.retireUnavail g k ms).tuss g = { s.tuss g with queue := (s.tuss g).queue.erase k } ∧
    s.Only {.tuss g, .reg .TSK_ARR_STATUS, .reg .TSK_SEQ_STATUS} (s.retireUnavail g k ms) := by
  obtain ⟨u, hu⟩ : ∃ u, ms.foldl (fun (s : State) a => if s.arrState g a ≠ aVALID then s.set (F.TSK_ARR_STATUS_UNAVAIL_TASK g a) 1 else s) s = u :=
    ⟨_, rfl⟩
  have hsu : s.Only {.reg .TSK_ARR_STATUS} u := by
    rw [← hu]
    simp (disch := simp (disch := simp [F.TSK_ARR_STATUS_UNAVAIL_TASK]))
  have heq : s.retireUnavail g k ms = u.dequeue g k := by
    rw [← State.retireTask_unavail hjob, ← hu]
    rfl
  have hend : u.Only {.tuss g, .reg .TSK_SEQ_STATUS} (u.dequeue g k) := by
    unfold State.dequeue
    simp
  rw [heq]
  refine ⟨?_, (hsu.mono (by simp)).trans (hend.mono (by simp))⟩
  rw [State.dequeue, State.tuss_setQueue, hsu.tuss (by simp)]

/-! ### A task of a layer in exact mode (R132) -/

/-- The evaluation of one phase of an exact task, from the image that the state holds. -/
def State.exactEval (s : State) (g : Nat) (t : Task) (ms : List Nat) (c phase : Nat) (xs : List Nat) : Evl :=
  { task := t.words, job := t.job, kind := (if t.fld 0 7 1 = 1 then .dup else .work), phase := phase, slot := t.fld 0 8 4
    arr := ms.headD 0, members := ms, swath := s.swath, cycle := c, range := 0, inputs := xs, vals := s.imageValues g t xs
    exact := true }

/-- The evaluations of an exact task, one for each of its phases. -/
def State.exactEvals (s : State) (g : Nat) (t : Task) (ms : List Nat) (c : Nat) (bs : List Byte) : List Evl :=
  if t.fld 0 6 1 = 1 then [s.exactEval g t ms c 1 (levels8 (t.fld 0 18 1 == 1) false bs), s.exactEval g t ms c 2 (levels8 (t.fld 0 18 1 == 1) true bs)]
  else [s.exactEval g t ms c 0 (levels4 (t.fld 0 18 1 == 1) bs)]

theorem State.exactRun_read {s s1 s2 : State} {g c : Nat} {k : Task} {ms : List Nat} {ecc : List Ecc} {bs : List Byte}
    (hblocks : s.inputBlocks g k (gangOf (k.fld 0 4 2) * (1 + k.fld 0 6 1)) ecc = (s1, some bs))
    (himage : s1.imageRead g k ((List.range (gangOf (k.fld 0 4 2))).flatMap fun i =>
      (s1.imageHolds (s1.taskImage k) g (k.fld 0 8 4 + i)).srcs) = (s2, true)) :
    s.exactRun g k ms c ecc = (s2.exactEvals g k ms c bs).foldl (fun s e => s.deliverExact g e) (s2.dequeue g k) := by
  unfold State.exactRun
  dsimp only
  rw [hblocks]
  dsimp only
  rw [himage]
  rfl

/-- Without CHECK and without full duplication an exact evaluation joins the partial sums and does nothing else. -/
theorem State.deliverExact_work {s : State} {g : Nat} {e : Evl} (hkind : e.kind = .work) (hfrac : s.get F.GRS_CFG_FRACTION ≠ 5) :
    s.deliverExact g e = s.addPartial g e := by
  have hget : (s.addPartial g e).get F.GRS_CFG_FRACTION = s.get F.GRS_CFG_FRACTION := rfl
  unfold State.deliverExact
  rw [hkind, if_neg (by decide)]
  dsimp only
  rw [hget, if_neg hfrac]

/-- The partial sums after the evaluation of a first or only phase. -/
theorem State.tuss_addPartial_first {s : State} {g : Nat} {e : Evl} (h : e.phase ≠ 2) :
    (s.addPartial g e).tuss g = { s.tuss g with sums := (s.tuss g).sums ++ [⟨[e]⟩] } := by
  rw [State.addPartial, State.tuss_updTuss, if_neg h]

/-- The evaluation of phase B joins a partial sum that holds its phase A alone. -/
def Partial.join (e : Evl) (p : Partial) : Partial :=
  match p.evals with
  | [x] => if x.phase = 1 ∧ x.task = e.task ∧ x.job = e.job then ⟨[x, e]⟩ else p
  | _ => p

theorem State.tuss_addPartial_join {s : State} {g : Nat} {e : Evl} (h : e.phase = 2) :
    (s.addPartial g e).tuss g = { s.tuss g with sums := (s.tuss g).sums.map (Partial.join e) } := by
  rw [State.addPartial, State.tuss_updTuss, if_pos h]
  rfl

theorem Partial.join_other {e : Evl} {p : Partial} (h : ∀ y ∈ p.evals, y.task ≠ e.task) : p.join e = p := by
  unfold Partial.join
  split
  · next y hy => exact if_neg fun hj => h y (by rw [hy]; exact List.mem_singleton_self y) hj.2.1
  · rfl

/-- The evaluation of phase B joins that of its phase A, and no other. -/
theorem State.tuss_addPartial_second {s : State} {g : Nat} {x e : Evl} {ps : List Partial} (hsums : (s.tuss g).sums = ps ++ [⟨[x]⟩])
    (hother : ∀ q ∈ ps, ∀ y ∈ q.evals, y.task ≠ e.task) (he : e.phase = 2) (hx : x.phase = 1) (htask : x.task = e.task) (hjob : x.job = e.job) :
    (s.addPartial g e).tuss g = { s.tuss g with sums := ps ++ [⟨[x, e]⟩] } := by
  have hps : ps.map (Partial.join e) = ps := (List.map_congr_left fun p hp => Partial.join_other (hother p hp)).trans (List.map_id ps)
  have hlast : Partial.join e ⟨[x]⟩ = ⟨[x, e]⟩ := if_pos ⟨hx, htask, hjob⟩
  rw [State.tuss_addPartial_join he, hsums, List.map_append, hps, List.map_singleton, hlast]

theorem State.gorseQuarantine_queue (s : State) (g : Nat) : ((s.gorseQuarantine g).tuss g).queue = (s.tuss g).queue := by
  have hcause : ((s.raiseCause g 1).tuss g).queue = (s.tuss g).queue := by
    have hset : (s.setBit (F.TSK_QUAR_CAUSE_CAUSE g) 1).tuss g = s.tuss g := by simp
    unfold State.raiseCause
    dsimp only
    split
    · rw [hset]
    · rw [State.tuss_updTuss, hset]
  have hrest : (s.raiseCause g 1).Only ({.reg .GRS_STATUS, .reg .GRS_ARB_CNT} ∪ Part.event) (s.gorseQuarantine g) := by
    unfold State.gorseQuarantine
    simp [F.GRS_STATUS_QUARANTINE, F.GRS_ARB_CNT_QUAR_CNT]
  rw [hrest.tuss (by simp), hcause]

theorem State.trigger_queue (s : State) (g : Nat) (tr : Trigger) : ((s.trigger g tr).tuss g).queue = (s.tuss g).queue := by
  have hstatus (u : State) : (u.arbStatus g).tuss g = u.tuss g := rfl
  unfold State.trigger
  dsimp only
  split
  · exact s.gorseQuarantine_queue g
  · rw [hstatus, State.tuss_updTuss]

theorem State.pairUp_queue (s : State) (g : Nat) (e : Evl) : ((s.pairUp g e).tuss g).queue = (s.tuss g).queue := by
  unfold State.pairUp
  split
  · rw [State.tuss_updTuss]
  · next x _ =>
    have hmate (p q : Evl) : (((s.updTuss g fun t => { t with pairs := t.pairs.erase x }).mateVectors g p q).tuss g).queue = (s.tuss g).queue := by
      rw [State.mateVectors, State.tuss_updTuss, State.tuss_updTuss]
    have hset (u : State) : (u.set (F.GRS_LANE_STATUS_DUP_FAIL g) 1).tuss g = u.tuss g := rfl
    have hend (u : State) (hu : (u.tuss g).queue = (s.tuss g).queue) (b : Bool) (tr : Trigger) :
        ((if b then u else (u.set (F.GRS_LANE_STATUS_DUP_FAIL g) 1).trigger g tr).tuss g).queue = (s.tuss g).queue := by
      split
      · exact hu
      · rw [State.trigger_queue, hset, hu]
    exact hend _ (hmate _ _) _ _

/-- With CHECK an exact evaluation meets its partner: the partial sums, the arrays, the queue and memory stay. -/
theorem State.deliverExact_dup {s : State} {g : Nat} {e : Evl} (hkind : e.kind = .dup) :
    ((s.deliverExact g e).tuss g).sums = (s.tuss g).sums ∧ ((s.deliverExact g e).tuss g).arrs = (s.tuss g).arrs ∧
    ((s.deliverExact g e).tuss g).queue = (s.tuss g).queue ∧ (s.deliverExact g e).mem = s.mem := by
  have hpair : s.Only ({.tuss g, .reg .GRS_ARB_CNT, .reg .GRS_STATUS, .reg .TSK_QUAR_CAUSE, .reg .GRS_LANE_STATUS} ∪ Part.event) (s.pairUp g e) := by simp
  have hend : (s.pairUp g e).Only {.jobs} (s.deliverExact g e) := by
    unfold State.deliverExact
    rw [hkind, if_pos rfl]
    dsimp only
    split <;> simp
  have hkeep := s.pairUp_keepsWork g e
  rw [hend.tuss (by simp), hend.mem_eq (by simp), hpair.mem_eq (by simp)]
  exact ⟨hkeep.sums, hkeep.arrs, s.pairUp_queue g e, rfl⟩

theorem State.deliverExact_dups {g : Nat} (es : List Evl) (hkind : ∀ e ∈ es, e.kind = .dup) (s : State) :
    ((es.foldl (fun s e => s.deliverExact g e) s).tuss g).sums = (s.tuss g).sums ∧
    ((es.foldl (fun s e => s.deliverExact g e) s).tuss g).arrs = (s.tuss g).arrs ∧
    ((es.foldl (fun s e => s.deliverExact g e) s).tuss g).queue = (s.tuss g).queue ∧ (es.foldl (fun s e => s.deliverExact g e) s).mem = s.mem := by
  induction es generalizing s with
  | nil => exact ⟨rfl, rfl, rfl, rfl⟩
  | cons e es ih =>
    obtain ⟨hsums, harrs, hqueue, hmem⟩ := State.deliverExact_dup (s := s) (g := g) (hkind e (by simp))
    obtain ⟨hsums', harrs', hqueue', hmem'⟩ := ih (fun x hx => hkind x (by simp [hx])) (s.deliverExact g e)
    exact ⟨hsums'.trans hsums, harrs'.trans harrs, hqueue'.trans hqueue, hmem'.trans hmem⟩

/-- The values of an exact task without CHECK join the partial sums. -/
theorem State.deliverExact_works {s s2 : State} {g c : Nat} {k : Task} {ms : List Nat} {bs : List Byte} (hcheck : k.fld 0 7 1 = 0)
    (hfrac : s.get F.GRS_CFG_FRACTION ≠ 5) (hother : ∀ q ∈ (s.tuss g).sums, ∀ x ∈ q.evals, x.task ≠ k.words) :
    ((s2.exactEvals g k ms c bs).foldl (fun s e => s.deliverExact g e) s).tuss g =
      { s.tuss g with sums := (s.tuss g).sums ++ [⟨s2.exactEvals g k ms c bs⟩] } ∧
    s.Only {.tuss g} ((s2.exactEvals g k ms c bs).foldl (fun s e => s.deliverExact g e) s) := by
  have hkind (ph : Nat) (xs : List Nat) : (s2.exactEval g k ms c ph xs).kind = .work := by
    unfold State.exactEval
    dsimp only
    rw [hcheck, if_neg (by decide)]
  unfold State.exactEvals
  split
  · obtain ⟨a, ha⟩ : ∃ a, s2.exactEval g k ms c 1 (levels8 (k.fld 0 18 1 == 1) false bs) = a := ⟨_, rfl⟩
    obtain ⟨b, hb⟩ : ∃ b, s2.exactEval g k ms c 2 (levels8 (k.fld 0 18 1 == 1) true bs) = b := ⟨_, rfl⟩
    have hka : a.kind = .work := ha ▸ hkind _ _
    have hkb : b.kind = .work := hb ▸ hkind _ _
    have hget : (s.addPartial g a).get F.GRS_CFG_FRACTION = s.get F.GRS_CFG_FRACTION := rfl
    rw [ha, hb, List.foldl_cons, List.foldl_cons, List.foldl_nil, State.deliverExact_work hka hfrac, State.deliverExact_work hkb (hget ▸ hfrac)]
    have hfirst : (s.addPartial g a).tuss g = { s.tuss g with sums := (s.tuss g).sums ++ [⟨[a]⟩] } :=
      State.tuss_addPartial_first (by rw [← ha]; exact (by decide : (1 : Nat) ≠ 2))
    refine ⟨?_, by simp⟩
    rw [State.tuss_addPartial_second (s := s.addPartial g a) (x := a) (ps := (s.tuss g).sums) (by rw [hfirst])
      (by rw [← hb]; exact hother) (by rw [← hb]; rfl) (by rw [← ha]; rfl) (by rw [← ha, ← hb]; rfl) (by rw [← ha, ← hb]; rfl), hfirst]
  · rw [List.foldl_cons, List.foldl_nil, State.deliverExact_work (hkind _ _) hfrac]
    exact ⟨State.tuss_addPartial_first (by decide : (0 : Nat) ≠ 2), by simp⟩

/-! ### EVAL and PHASE_B -/

section
variable {g : Tsk} {c : BitVec 8} {ecc : List Ecc} {s : State} {k : Task} {ms : List Nat}
variable (hruns : s.runsT g = true) (hopen : (s.tuss g).open_ = some s.swath)
include hruns hopen

theorem exec_eval (hk : (s.tuss g).queue.find? (fun t =>
      t.fld 0 0 4 == 0 && t.swath == s.swath && t.fld 2 0 8 == c.toNat && !t.phaseA && !s.taskWaits g t) = some k) :
    exec (.eval g c ecc) s = .next (s.evalTask g k c.toNat ecc) := by
  change Host.Outcome.next (s.ifCycle g _) = _
  rw [State.ifCycle, State.ifT, if_pos hruns, if_pos hopen, hk]

theorem exec_phaseB (hk : (s.tuss g).queue.find? (fun t =>
      t.phaseA && s.phaseBCycle g (t.swath * 256 + t.fld 2 0 8) == s.swath * 256 + c.toNat) = some k) :
    exec (.phaseB g c ecc) s = .next (s.phaseBTask g k c.toNat ecc) := by
  change Host.Outcome.next (s.ifCycle g _) = _
  rw [State.ifCycle, State.ifT, if_pos hruns, if_pos hopen, hk]

end

section
variable {g c : Nat} {ecc : List Ecc} {s : State} {k : Task}

/-- A task of a pair that is there, whose gang is sound: what it does depends on its mode and on what else its cycle holds. -/
theorem State.evalTask_sound (hpair : s.get F.GRS_CFG_FRACTION = 5 → s.hasPartner g k = true)
    (hbad : s.badMembers g k (s.gangMembers g (k.fld 0 8 4) (gangOf (k.fld 0 4 2))) = [])
    (hgang : s.gangValid g (s.gangMembers g (k.fld 0 8 4) (gangOf (k.fld 0 4 2))) = true) :
    s.evalTask g k c ecc = if s.exactTask k then (if s.slotTaken g k c then s.retireTask g k 0x09
        else s.exactRun g k (s.gangMembers g (k.fld 0 8 4) (gangOf (k.fld 0 4 2))) c ecc)
      else if s.slotConflict g k (s.gangMembers g (k.fld 0 8 4) (gangOf (k.fld 0 4 2))) c then s.retireTask g k 0x09
      else s.runPhase g k (if k.fld 0 6 1 = 1 then 1 else 0) c ecc := by
  unfold State.evalTask
  dsimp only
  rw [if_neg (fun h => by rw [hpair h.1] at h; exact absurd h.2 (by decide)), hbad, hgang]
  rfl

theorem State.evalTask_unsound (hpair : s.get F.GRS_CFG_FRACTION = 5 → s.hasPartner g k = true)
    (hno : ¬(s.badMembers g k (s.gangMembers g (k.fld 0 8 4) (gangOf (k.fld 0 4 2))) = [] ∧
      s.gangValid g (s.gangMembers g (k.fld 0 8 4) (gangOf (k.fld 0 4 2))) = true)) :
    s.evalTask g k c ecc = s.retireUnavail g k (s.gangMembers g (k.fld 0 8 4) (gangOf (k.fld 0 4 2))) := by
  have hgone : (!(s.badMembers g k (s.gangMembers g (k.fld 0 8 4) (gangOf (k.fld 0 4 2)))).isEmpty ||
      !s.gangValid g (s.gangMembers g (k.fld 0 8 4) (gangOf (k.fld 0 4 2)))) = true := by
    rw [Bool.or_eq_true, Bool.not_eq_true', Bool.not_eq_true', ← Bool.not_eq_true, ← Bool.not_eq_true, List.isEmpty_iff]
    exact Classical.not_and_iff_not_or_not.1 hno
  unfold State.evalTask
  dsimp only
  rw [if_neg (fun h => by rw [hpair h.1] at h; exact absurd h.2 (by decide)), if_pos hgone]

theorem State.phaseBTask_sound (hbad : s.badMembers g k (s.gangMembers g (k.fld 0 8 4) (gangOf (k.fld 0 4 2))) = [])
    (hgang : s.gangValid g (s.gangMembers g (k.fld 0 8 4) (gangOf (k.fld 0 4 2))) = true)
    (hbusy : s.arraysBusy g (s.gangMembers g (k.fld 0 8 4) (gangOf (k.fld 0 4 2))) (s.swath * 256 + c) = false)
    (hbeaten : s.beaten g k (s.gangMembers g (k.fld 0 8 4) (gangOf (k.fld 0 4 2))) (s.swath * 256 + c) = false) :
    s.phaseBTask g k c ecc = s.runPhase g k 2 c ecc := by
  unfold State.phaseBTask
  dsimp only
  rw [hbad, hgang, hbusy, hbeaten]
  rfl

/-- A task of no job that conflicts leaves the queue and counts. -/
theorem State.retireTask_conflict_spec (hjob : k.job = none) : ((s.retireTask g k 0x09).tuss g).queue = (s.tuss g).queue.erase k ∧
    ((s.retireTask g k 0x09).tuss g).arrs = (s.tuss g).arrs ∧
    (s.retireTask g k 0x09).get (F.TSK_SEQ_ERR_CONFLICT_CNT g) =
      min (s.get (F.TSK_SEQ_ERR_CONFLICT_CNT g) + 1) (2 ^ (F.TSK_SEQ_ERR_CONFLICT_CNT g).w - 1) ∧
    s.OnlyTuss (s.retireTask g k 0x09) g [F.TSK_SEQ_ERR_CONFLICT_CNT g, F.TSK_SEQ_STATUS_OCCUPANCY g, F.TSK_SEQ_STATUS_PEAK g] := by
  obtain ⟨u, hu⟩ : ∃ u, s.dequeue g k = u := ⟨_, rfl⟩
  have htuss : u.tuss g = { s.tuss g with queue := (s.tuss g).queue.erase k } := by rw [← hu, State.dequeue, State.tuss_setQueue]
  have hset : s.OnlyTuss u g [F.TSK_SEQ_STATUS_OCCUPANCY g, F.TSK_SEQ_STATUS_PEAK g] := hu ▸ s.setQueue_onlyTuss g _
  have hinc : (u.inc (F.TSK_SEQ_ERR_CONFLICT_CNT g)).tuss g = u.tuss g := by rw [State.inc_eq]; rfl
  rw [State.retireTask_conflict hjob, hu, hinc, htuss, State.get_inc_same,
    hset.2.1 _ (by simp [Fld.key_iff, F.TSK_SEQ_ERR_CONFLICT_CNT, F.TSK_SEQ_STATUS_OCCUPANCY, F.TSK_SEQ_STATUS_PEAK])]
  refine ⟨rfl, rfl, rfl, State.OnlyTuss.inc ⟨hset.1, hset.2.1.mono fun f hf => List.mem_cons_of_mem _ hf, hset.2.2⟩ (by simp)⟩

end

/-- Settles O18: a sound gang runs its phase or its image's exact values, another retires the task. -/
theorem evaluationLatchesOnItsGang : Obligations.EvaluationLatchesOnItsGang := by
  intro g c ecc s k ms hruns hopen hms
  refine ⟨fun ph s' xs e hk hmode hpair hsound hfree hph hin he => ?_, fun hk hpair hunsound hjob => ?_, fun hk hpair hsound hmeets hjob => ?_,
    fun s' xs e hk hsound hbusy hbeaten hin he => ?_, fun s1 s2 bs hk hmode hpair hsound hfree hblocks himage => ?_⟩
  · have hexec := exec_eval (ecc := ecc) hruns hopen hk
    rw [State.evalTask_sound hpair (hms ▸ hsound.1) (hms ▸ hsound.2), if_neg hmode, ← hms, hfree, if_neg Bool.false_ne_true, ← hph] at hexec
    obtain ⟨hsampled, hused, hqueue, hframe⟩ := State.runPhase_spec hin he
    exact ⟨_, hexec, hsampled, hused, hqueue, fun h hh => hframe.tuss (by simp [hh]), hframe.eq_mix.trans (by simp [State.mix])⟩
  · have hexec := exec_eval (ecc := ecc) hruns hopen hk
    rw [State.evalTask_unsound hpair (hms ▸ hunsound), ← hms] at hexec
    obtain ⟨htuss, hframe⟩ := State.retireUnavail_spec (s := s) (g := g) ms hjob
    refine ⟨_, hexec, ?_⟩
    rw [htuss]
    exact ⟨rfl, rfl, fun h hh => hframe.tuss (by simp [hh]), hframe.eq_mix.trans (by simp [State.mix])⟩
  · have hexec := exec_eval (ecc := ecc) hruns hopen hk
    have hretire : s.evalTask g k c.toNat ecc = s.retireTask g k 0x09 := by
      rw [State.evalTask_sound hpair (hms ▸ hsound.1) (hms ▸ hsound.2), ← hms]
      split at hmeets
      · rw [if_pos ‹_›, if_pos hmeets]
      · rw [if_neg ‹_›, if_pos hmeets]
    rw [hretire] at hexec
    exact ⟨_, hexec, State.retireTask_conflict_spec hjob⟩
  · have hexec := exec_phaseB (ecc := ecc) hruns hopen hk
    rw [State.phaseBTask_sound (hms ▸ hsound.1) (hms ▸ hsound.2) (hms ▸ hbusy) (hms ▸ hbeaten)] at hexec
    obtain ⟨hsampled, hused, hqueue, hframe⟩ := State.runPhase_spec hin he
    rw [if_neg (by decide)] at hqueue
    exact ⟨_, hexec, hsampled, hused, hqueue, fun h hh => hframe.tuss (by simp [hh]), hframe.eq_mix.trans (by simp [State.mix])⟩
  · have hexec := exec_eval (ecc := ecc) hruns hopen hk
    rw [State.evalTask_sound hpair (hms ▸ hsound.1) (hms ▸ hsound.2), if_pos hmode, hfree, if_neg Bool.false_ne_true, ← hms,
      State.exactRun_read hblocks himage] at hexec
    obtain ⟨u, hu⟩ : ∃ u, s2.dequeue g k = u := ⟨_, rfl⟩
    have htuss : u.tuss g = { s2.tuss g with queue := (s2.tuss g).queue.erase k } := by rw [← hu, State.dequeue, State.tuss_setQueue]
    have hset : s2.Only {.tuss g, .reg .TSK_SEQ_STATUS} u := by
      rw [← hu, State.dequeue]
      simp
    rw [hu] at hexec
    refine ⟨fun hcheck hfrac hother => ?_, fun hcheck => ?_⟩
    · obtain ⟨hafter, hframe⟩ := State.deliverExact_works (s := u) (s2 := s2) (g := g) (c := c.toNat) (ms := ms) (bs := bs) hcheck
        (by rwa [hset.get (by simp [F.GRS_CFG_FRACTION])]) (by rwa [htuss])
      have hwhole := (hset.mono (by simp)).trans (hframe.mono (by simp) : u.Only {.tuss g, .reg .TSK_SEQ_STATUS} _)
      refine ⟨_, ⟨s2.exactEvals g k ms c.toNat bs⟩, hexec, ?_⟩
      rw [hafter, htuss]
      refine ⟨rfl, ?_, fun x hx => ?_, rfl, rfl, fun h hh => hwhole.tuss (by simp [hh]), hwhole.eq_mix.trans (by simp [State.mix])⟩
      · unfold State.exactEvals
        split <;> rfl
      · unfold State.exactEvals at hx
        split at hx <;> simp only [List.mem_cons, List.not_mem_nil, or_false] at hx
        · rcases hx with rfl | rfl <;> exact ⟨rfl, rfl⟩
        · subst hx
          exact ⟨rfl, rfl⟩
    · obtain ⟨hsums, harrs, hqueue, hmem⟩ := State.deliverExact_dups (g := g) (s2.exactEvals g k ms c.toNat bs) (by
        have hkind (ph : Nat) (xs : List Nat) : (s2.exactEval g k ms c.toNat ph xs).kind = .dup := if_pos hcheck
        unfold State.exactEvals
        split <;> simp [hkind]) u
      refine ⟨_, hexec, ?_⟩
      rw [hsums, harrs, hqueue, hmem, htuss, hset.mem_eq (by simp)]
      exact ⟨rfl, rfl, rfl, rfl⟩

end Sys2Proof.Machine

namespace Sys2Proof.Machine
open Sys2Proof

/-! ### A matrix product larger than its bank

Nothing in the statement bounds the result of a MATMUL by the bank of its Tussock: 25,600 blocks from block 0 on pass the bank, the rest of the
Tussock's window and the next Tussock's bank, and reach that Tussock's table SRAM, where a column mask written by the host is noted in its record. -/

/-- The task: m = n = 1,280 and an empty inner dimension, so that it reads no operand block. -/
def wildProduct : Task := { words := [2, 0, 0, 0, 20560], swath := 0, job := none }

/-- Tussock 0 at work with that task queued, and Tussock 1 with its identity tables written. -/
def wildMatmul : State :=
  { regs := Tab.set (fun _ => 0) (Tab.set (fun _ => 0) [] F.PWR_DOMAIN_QUARTER.key 1) (F.TSK_CONV_STATUS_TABLE_INIT_DONE 1).key 1
    tusss := [(0, { queue := [wildProduct] })] }

/-- `t` comes from `s` by writes of memory: what guards them and what a write of the first mask of Tussock 1 depends on are as before, and the note
of such a write of this moment stays. -/
structure State.MaskKept (s t : State) : Prop where
  time : t.time = s.time
  load : (t.arr 1 0).maskLoad = (s.arr 1 0).maskLoad
  regs : ∀ f : Fld, (∀ g, f.key ≠ (F.TSK_CONV_STATUS_TABLE_WR_REJECT g).key) → t.get f = s.get f
  host : (s.arr 1 0).maskHost = some s.time → (t.arr 1 0).maskHost = some s.time

namespace State.MaskKept
variable {s t u : State}

theorem refl (s : State) : s.MaskKept s := ⟨rfl, rfl, fun _ _ => rfl, id⟩

theorem trans (h : s.MaskKept t) (k : t.MaskKept u) : s.MaskKept u :=
  ⟨k.time.trans h.time, k.load.trans h.load, fun f hf => (k.regs f hf).trans (h.regs f hf),
    fun hs => by rw [k.host (by rw [h.time]; exact h.host hs), h.time]⟩

theorem of_eq (htime : t.time = s.time) (htusss : t.tusss = s.tusss) (hregs : t.regs = s.regs) : s.MaskKept t := by
  have harr : t.arr 1 0 = s.arr 1 0 := by rw [State.arr, State.tuss, htusss]; rfl
  exact ⟨htime, by rw [harr], fun f _ => State.get_congr hregs f, fun h => by rw [harr, h]⟩

theorem reject (s : State) (g v : Nat) : s.MaskKept (s.set (F.TSK_CONV_STATUS_TABLE_WR_REJECT g) v) :=
  ⟨rfl, rfl, fun _ hf => State.get_set_ne _ _ (Ne.symm (hf g)), id⟩

/-- The host's write of a mask is noted in its array. -/
theorem note (s : State) (g a : Nat) : s.MaskKept (s.updArr g a fun r => { r with maskHost := some s.time }) := by
  have harr : (s.updArr g a fun r => { r with maskHost := some s.time }).arr 1 0 =
      if g = 1 ∧ a = 0 then { s.arr 1 0 with maskHost := some s.time } else s.arr 1 0 := by
    by_cases hg : g = 1
    · subst hg
      rw [State.arr_updArr_of]
      by_cases ha : a = 0
      · rw [if_pos ha.symm, if_pos ⟨rfl, ha⟩, ha]
      · rw [if_neg (Ne.symm ha), if_neg (fun h => ha h.2)]
    · rw [if_neg (fun h => hg h.1), State.arr, State.updArr, State.tuss_updTuss_ne _ _ (Ne.symm hg), ← State.arr]
  refine ⟨rfl, by rw [harr]; split <;> rfl, fun _ _ => rfl, fun h => ?_⟩
  rw [harr]
  split
  · rfl
  · exact h

/-- One word of a table. -/
theorem tableWord (s : State) (g off : Nat) (b0 b1 b2 b3 : Byte) (rest : List Byte) : ∃ u, s.MaskKept u ∧
    s.writeTableWords g off (b0 :: b1 :: b2 :: b3 :: rest) = u.writeTableWords g (off + 4) rest ∧
    (g = 1 → off = 0x22880 → (s.arr 1 0).maskLoad = none → s.tableOpen 1 0 = true → (u.arr 1 0).maskHost = some s.time) := by
  rw [State.writeTableWords]
  cases htable : tableArray off with
  | none =>
    refine ⟨s, .refl s, rfl, fun _ hoff => ?_⟩
    rw [hoff] at htable
    exact absurd htable (by decide)
  | some a =>
    dsimp only
    split
    · next hshut =>
      refine ⟨_, .reject s g 1, rfl, fun hg hoff hload hopen => ?_⟩
      subst hg hoff
      obtain rfl : 0 = a := by simpa [tableArray] using htable
      rw [hload, hopen] at hshut
      exact absurd hshut (by simp)
    · have hmem : s.MaskKept { s with mem := Memory.writeN s.mem (tableBase g + off) [b0, b1, b2, b3] } := .of_eq rfl rfl rfl
      split
      · refine ⟨_, hmem.trans (.note _ g a), rfl, fun hg hoff _ _ => ?_⟩
        subst hg hoff
        obtain rfl : 0 = a := by simpa [tableArray] using htable
        rw [State.arr_updArr]
      · next hlow => exact ⟨_, hmem, rfl, fun _ hoff => absurd (by omega) hlow⟩

theorem tableWords (g : Nat) : ∀ (bs : List Byte) (s : State) (off : Nat), s.MaskKept (s.writeTableWords g off bs)
  | b0 :: b1 :: b2 :: b3 :: rest, s, off => by
    obtain ⟨u, hu, heq, -⟩ := tableWord s g off b0 b1 b2 b3 rest
    rw [heq]
    exact hu.trans (tableWords g rest u (off + 4))
  | [], s, _ | [_], s, _ | [_, _], s, _ | [_, _, _], s, _ => .refl s

theorem tableOpen (h : s.MaskKept t) : t.tableOpen 1 0 = s.tableOpen 1 0 := by
  unfold State.tableOpen
  rw [h.regs _ fun g => Fld.key_ne_of_reg (by simp [F.TSK_ARR_STATE_STATE, F.TSK_CONV_STATUS_TABLE_WR_REJECT])]

/-- A run of words that takes in the first word of the mask. -/
theorem tableWords_mask : ∀ (bs : List Byte) (s : State) (off : Nat), off ≤ 0x22880 → 0x22880 + 4 ≤ off + bs.length → off % 4 = 0 →
    (s.arr 1 0).maskLoad = none → s.tableOpen 1 0 = true → ((s.writeTableWords 1 off bs).arr 1 0).maskHost = some s.time
  | b0 :: b1 :: b2 :: b3 :: rest, s, off => fun hlo hhi hal hload hopen => by
    obtain ⟨u, hu, heq, hmask⟩ := tableWord s 1 off b0 b1 b2 b3 rest
    rw [heq, ← hu.time]
    rcases Nat.lt_or_eq_of_le hlo with hlt | hoff
    · simp only [List.length_cons] at hhi
      exact tableWords_mask rest u (off + 4) (by omega) (by omega) (by omega) (hu.load.trans hload) (hu.tableOpen.trans hopen)
    · have hrest := (tableWords 1 rest u (off + 4)).host
      exact hrest (by rw [hu.time]; exact hmask rfl hoff hload hopen)
  | [], _, _ | [_], _, _ | [_, _], _, _ | [_, _, _], _, _ => fun hlo hhi => by
    simp only [List.length_nil, List.length_cons] at hhi
    omega

theorem writeTable (s : State) (g off : Nat) (bs : List Byte) : s.MaskKept (s.writeTable g off bs) := by
  unfold State.writeTable
  split
  · exact .reject s g 1
  · exact tableWords g bs s off

theorem putBlock (s : State) (a : Nat) (b : Block) : s.MaskKept (s.putBlock a b) := by
  unfold State.putBlock
  split
  · exact .of_eq rfl rfl rfl
  · unfold State.putRaw
    split
    · exact .of_eq rfl rfl rfl
    · exact .of_eq rfl rfl rfl
    · exact writeTable s ..
    · exact .of_eq rfl rfl rfl
    · exact .refl s

end State.MaskKept

/-! ### The stores of the product -/

/-- An address of the Tussocks' windows is none of a stack, of the tag view or of the host aperture. -/
theorem regionOf_window {a : Nat} (hlo : bankBase ≤ a) (hhi : a < bankEnd) :
    ∃ g, (∃ o, regionOf a = .bank g o) ∨ (∃ o, regionOf a = .bankTag g o) ∨ (∃ o, regionOf a = .table g o) ∨ regionOf a = .reserved g := by
  have hcanon : canon a = a := canon_of_not_alias (by unfold bankBase at hlo; unfold aliasBase; omega)
  have hstack : ¬a < stackEnd := by unfold bankBase at hlo; unfold stackEnd stackSize; omega
  refine ⟨(a - bankBase) / 0x400000, ?_⟩
  unfold regionOf
  simp only [hcanon, if_neg hstack, if_pos (And.intro hlo hhi)]
  split
  · exact .inl ⟨_, rfl⟩
  · split
    · exact .inr (.inl ⟨_, rfl⟩)
    · split
      · exact .inr (.inr (.inl ⟨_, rfl⟩))
      · exact .inr (.inr (.inr rfl))

/-- Guard 0 as it is at reset lets channel 0 write anywhere in the Tussocks' windows. -/
theorem wildMatmul_granted {u : State} (hu : wildMatmul.MaskKept u) {a : Nat} (hlo : bankBase ≤ a) (hhi : a + 256 ≤ bankEnd) :
    u.accessFault (.eng 0) true a 256 = none := by
  have hget (f : Fld) (hf : f.r ≠ .TSK_CONV_STATUS) : u.get f = wildMatmul.get f :=
    hu.regs f fun g => Fld.key_ne_of_reg (by simpa [F.TSK_CONV_STATUS_TABLE_WR_REJECT] using hf)
  have hcover : u.guardCovers 0 a 256 = true := by
    have hen : u.get (F.GLB_RGN_ATTR_EN 0) = 1 := (hget _ (by decide)).trans (by decide)
    have hbase : u.get (F.GLB_RGN_BASE_BASE 0) = 0 := (hget _ (by decide)).trans (by decide)
    have hlimit : u.get (F.GLB_RGN_LIMIT_LIMIT 0) = 4295229439 := (hget _ (by decide)).trans (by decide)
    unfold bankEnd at hhi
    simp only [State.guardCovers, State.on, hen, hbase, hlimit, Bool.and_eq_true, decide_eq_true_eq]
    exact ⟨⟨rfl, by omega⟩, by omega⟩
  have hgrant : u.guardGrants 0 (.eng 0) true = true := by
    have hwr : u.get (F.GLB_RGN_ATTR_ENG_WR 0) = 15 := (hget _ (by decide)).trans (by decide)
    simp only [State.guardGrants, if_pos, hwr]
    decide
  have hmem : 0 ∈ u.guardsFor (.eng 0) true a 256 :=
    List.mem_filter.2 ⟨List.mem_range.2 (by decide), by rw [hcover, hgrant]; rfl⟩
  have hsome : (u.guardsFor (.eng 0) true a 256).isEmpty = false := by
    cases h : u.guardsFor (.eng 0) true a 256 with
    | nil => exact absurd (h ▸ hmem) List.not_mem_nil
    | cons _ _ => rfl
  obtain ⟨g, hreg⟩ := regionOf_window hlo (by omega)
  obtain ⟨g', hreg'⟩ := regionOf_window (a := a + 256 - 1) (by omega) (by omega)
  have hmapped (x g : Nat) (h : (∃ o, regionOf x = .bank g o) ∨ (∃ o, regionOf x = .bankTag g o) ∨ (∃ o, regionOf x = .table g o) ∨
      regionOf x = .reserved g) : u.unmapped x = false := by
    rcases h with ⟨o, h⟩ | ⟨o, h⟩ | ⟨o, h⟩ | h <;> simp [State.unmapped, h]
  have hsame : sameRegion a (a + 256 - 1) = true := by
    unfold sameRegion
    rcases hreg with ⟨o, h⟩ | ⟨o, h⟩ | ⟨o, h⟩ | h <;> rcases hreg' with ⟨o', h'⟩ | ⟨o', h'⟩ | ⟨o', h'⟩ | h' <;> rw [h, h']
  have hguarded : guarded true a 256 = (a, 256) := by
    unfold guarded
    rcases hreg with ⟨o, h⟩ | ⟨o, h⟩ | ⟨o, h⟩ | h <;> rw [h]
  unfold State.accessFault
  rw [hmapped a g hreg, hmapped _ g' hreg', hsame, hguarded, hsome]
  rfl

/-- Block 25,128 holds the first mask of Tussock 1. -/
theorem regionOf_maskBlock : regionOf (bankAddr 0 25128) = .table 1 0x22800 := by decide

/-- A block that the guards allow is stored, and the rest after it. -/
theorem State.tuftStoreBy_granted {may : State → ℕ → ℕ → ℕ → ℕ → Bool → ℕ → ℕ → State × Bool} {get : State → ℕ → Block}
    {put : State → ℕ → Block → State} {g block cmd n : ℕ} {t : Task} {bytes : List Byte} {u : State} (hjob : t.job = none)
    (hgo : may u (chanOf g) (t.job.getD 0) cmd g true (bankAddr g block) 256 = (u, true)) :
    u.tuftStoreBy may get put g block t cmd bytes false (n + 1) =
      (put u (bankAddr g block) (Block.fresh (overlay (List.replicate 256 0) 0 (bytes.take 256)) (get u (bankAddr g block)).tid
        (get u (bankAddr g block)).seq)).tuftStoreBy may get put g (block + 1) t cmd (bytes.drop 256) false n := by
  rw [State.tuftStoreBy]
  dsimp only
  rw [hgo]
  dsimp only
  rw [hjob]
  rfl

theorem State.tuftStore_granted {g block cmd n : ℕ} {t : Task} {bytes : List Byte} {u : State} (hjob : t.job = none)
    (hgo : u.mayAccess (chanOf g) (t.job.getD 0) cmd g true (bankAddr g block) 256 = (u, true)) :
    ∃ b : Block, b.data.length = 256 ∧ u.tuftStore g block t cmd bytes false (n + 1) =
      (u.putBlock (bankAddr g block) b).tuftStore g (block + 1) t cmd (bytes.drop 256) false n := by
  rw [State.tuftStore_eq]
  exact ⟨_, (length_overlay (by rw [List.length_replicate, List.length_take]; omega)).trans (List.length_replicate ..), State.tuftStoreBy_granted hjob hgo⟩

/-- Stores that pass block 25,128 note a mask written by the host in Tussock 1. -/
theorem tuftStore_masks (cmd : Nat) (n : Nat) : ∀ (block : Nat) (bytes : List Byte) (u : State), wildMatmul.MaskKept u → block + n ≤ 25600 →
    25128 < block + n → (25128 < block → (u.arr 1 0).maskHost = some u.time) →
    ((u.tuftStore 0 block wildProduct cmd bytes false n).arr 1 0).maskHost = some 0 := by
  induction n with
  | zero =>
    intro block bytes u hu hend hpast hdone
    exact (hdone (by omega)).trans (congrArg some hu.time)
  | succ n ih =>
    intro block bytes u hu hend hpast hdone
    have hgo : u.mayAccess (chanOf 0) (wildProduct.job.getD 0) cmd 0 true (bankAddr 0 block) 256 = (u, true) := by
      unfold State.mayAccess
      rw [show chanOf 0 = 0 from rfl, wildMatmul_granted hu (by unfold bankAddr tskBase; omega) (by unfold bankAddr tskBase bankEnd bankBase; omega)]
    obtain ⟨b, hlen, heq⟩ := State.tuftStore_granted (bytes := bytes) (n := n) rfl hgo
    have hput := State.MaskKept.putBlock u (bankAddr 0 block) b
    rw [heq]
    refine ih (block + 1) _ _ (hu.trans hput) (by omega) (by omega) fun hlate => ?_
    rw [hput.time]
    rcases Nat.lt_or_eq_of_le (Nat.le_of_lt_succ hlate) with hbefore | hhere
    · exact hput.host (hdone hbefore)
    · subst hhere
      have hinit : u.on (F.TSK_CONV_STATUS_TABLE_INIT_DONE 1) = true := by
        rw [State.on, hu.regs _ fun g => Fld.key_ne_of_lo (by simp [F.TSK_CONV_STATUS_TABLE_INIT_DONE, F.TSK_CONV_STATUS_TABLE_WR_REJECT])]
        decide
      have hwrite : u.putBlock (bankAddr 0 25128) b = u.writeTableWords 1 0x22800 b.data := by
        unfold State.putBlock State.putRaw State.writeTable tagged
        rw [regionOf_maskBlock]
        dsimp only
        rw [if_neg (by decide), if_neg]
        rw [hinit, hlen]
        decide
      rw [hwrite]
      exact State.MaskKept.tableWords_mask b.data u 0x22800 (by decide) (by rw [hlen]; decide) (by decide)
        (hu.load.trans (by decide)) (hu.tableOpen.trans (by decide))

/-- A matrix product without a cache and with its operands read. -/
theorem State.matmulTask_read {s : State} {g b m n l na nb nc : Nat} {k : Task} (hb : (if k.fld 3 24 2 = 0 then 1 else 2) = b)
    (hm : 16 * k.fld 4 0 8 = m) (hn : 16 * k.fld 4 8 8 = n) (hl : 16 * k.fld 4 16 12 = l) (hacc : (k.fld 3 26 1 == 1) = false)
    (hna : blocksOf (m * l * b) = na) (hnb : blocksOf (l * n * b) = nb) (hnc : blocksOf (m * n * 4) = nc)
    (has : s.operands g k (k.fld 2 8 12) na [] = (s, some [])) (hbs : s.operands g k (k.fld 3 0 12) nb [] = (s, some []))
    (hcs : s.operands g k (k.fld 3 12 12) 0 [] = (s, some [])) : s.matmulTask g k [] none false =
      (s.tuftStore g (k.fld 3 12 12) k (s.taskCmd g k) (matResult b m n l [] [] [] false) false nc).tuftDone g k := by
  unfold State.matmulTask State.readCache
  dsimp only
  rw [hb, hm, hn, hl, hacc, hna, hnb, hnc, has]
  dsimp only
  rw [List.drop_nil, hbs]
  dsimp only
  rw [List.drop_nil, if_neg Bool.false_ne_true, hcs]
  rfl

/-- Refutes O22: the task's stores note a mask write in Tussock 1, which the statement has left as it was. -/
theorem not_tuftTasksRunAndLeaveTheQueue : ¬Obligations.TuftTasksRunAndLeaveTheQueue := by
  unfold Obligations.TuftTasksRunAndLeaveTheQueue
  rintro ⟨-, hmatmul, -⟩
  have hruns : wildMatmul.runsT 0 = true := by decide
  have htask : wildMatmul.tuftTask 0 2 = some wildProduct := by decide
  obtain ⟨t, hexec, -, -, -, -, hothers⟩ := hmatmul 0 [] false wildMatmul wildMatmul wildMatmul wildMatmul wildProduct [] [] [] 1 1280 1280 0 false
    hruns htask (by decide) (by decide) (by decide) (by decide) (by decide) (by decide) (by decide) (by decide)
  obtain ⟨v, hv⟩ : ∃ v, wildMatmul.tuftStore 0 0 wildProduct (wildMatmul.taskCmd 0 wildProduct) (matResult 1 1280 1280 0 [] [] [] false) false 25600 = v :=
    ⟨_, rfl⟩
  have hrun : exec (.matmul 0 [] none false) wildMatmul = .next (v.tuftDone 0 wildProduct) := by
    change Host.Outcome.next (wildMatmul.ifT 0 _) = _
    rw [State.ifT, if_pos hruns, show ((0 : Tsk) : Nat) = 0 from rfl, htask]
    dsimp only
    rw [State.matmulTask_read (b := 1) (m := 1280) (n := 1280) (l := 0) (na := 0) (nb := 0) (nc := 25600) (by decide) (by decide) (by decide) (by decide)
      (by decide) (by decide) (by decide) (by decide) rfl rfl rfl, ← hv]
    rfl
  have hmasked : (v.arr 1 0).maskHost = some 0 := by
    rw [← hv]
    exact tuftStore_masks _ 25600 0 _ wildMatmul (.refl _) (by decide) (by decide) (fun h => absurd h (by decide))
  have hdone : (v.tuftDone 0 wildProduct).tuss 1 = v.tuss 1 := by
    have hframe : v.Only {.tuss 0, .jobs, .reg .TSK_SEQ_STATUS} (v.tuftDone 0 wildProduct) := by simp
    exact hframe.tuss (by simp)
  have hsame := hothers 1 (by decide)
  rw [← Host.Outcome.next.inj (hrun.symm.trans hexec), hdone] at hsame
  rw [State.arr, hsame] at hmasked
  exact absurd hmasked (by decide)

end Sys2Proof.Machine

namespace Sys2Proof.Machine
open Sys2Proof

/-! ### A bank that is read through its alias

A bank's bytes have a second address, in the alias of the banks. The statement has every address outside the quarter's own window keep its byte
when the quarter goes off, and the alias lies outside that window. -/

/-- Quarter 0 about to go off, with a byte in the bank of Tussock 0. -/
def aliasedBank : State :=
  { regs := Tab.set (fun _ => 0) [] F.PWR_DOMAIN_QUARTER.key 1, mem := [(bankBase, 1)], quarters := [(0, false)] }

/-- Refutes O57: the switch of quarter 0 changes the byte that the alias address reads. -/
theorem not_powerStatesAreEnteredAndLeft : ¬Obligations.PowerStatesAreEnteredAndLeft := by
  unfold Obligations.PowerStatesAreEnteredAndLeft
  rintro ⟨-, -, -, -, -, -, hswitch, -⟩
  obtain ⟨-, hdone⟩ := hswitch 0 aliasedBank
  obtain ⟨t, hexec, -, -, -, -, -, -, -, hmem⟩ := hdone 0 false (by decide)
  obtain rfl : aliasedBank.quarterDone 0 = t := Host.Outcome.next.inj hexec
  have hsame := hmem aliasBase (by decide)
  have hbefore : Memory.readN aliasedBank.mem aliasBase 1 = [1] := by decide
  have hafter : Memory.readN (aliasedBank.quarterDone 0).mem aliasBase 1 = [0] := by decide
  rw [hbefore, hafter] at hsame
  exact absurd hsame (by decide)

end Sys2Proof.Machine

namespace Sys2Proof.Machine
open Sys2Proof

/-! ### A trigger queue beyond the eight

QSEL is three bits wide; a register table of `State` can hold 100 there. The overflow of "queue 100" has no bit of its own among the event
registers' 47. -/

/-- Field input 0 selecting both edges for queue 100, which is on and full. -/
def wildQueue : State :=
  { regs := [(F.PWR_DOMAIN_STILE, 1), (F.STL_FIN_CFG_EN 0, 1), (F.STL_FIN_CFG_EDGE 0, 3), (F.STL_FIN_CFG_QSEL 0, 100), (F.STL_TQ_CFG_EN 100, 1),
      (F.STL_TQ_STAT_OCC 100, 64)].foldl (fun r f => Tab.set (fun _ => 0) r f.1.key f.2) [] }

/-- Refutes O52: the edge overflows "queue 100", and no event shows it. -/
theorem not_fieldEdgesAndEncodersAct : ¬Obligations.FieldEdgesAndEncodersAct := by
  unfold Obligations.FieldEdgesAndEncodersAct
  rintro ⟨hedge, -⟩
  obtain ⟨-, -, -, -, hevent⟩ := hedge 0 true 1000 wildQueue true 0 0 100 0 64 (by decide) (by decide) (by decide) (by decide) (by decide) (by decide) (by decide)
  obtain ⟨t, ⟨hexec, -, -⟩, -, -, hqueue⟩ := hevent (by decide) (by decide) (by decide) (by decide)
  obtain ⟨-, -, -, hfull⟩ := hqueue (by decide)
  obtain ⟨-, -, -, hsignal⟩ := hfull (by decide) (by decide)
  have hstep : exec (.finEdge 0 true 1000) wildQueue = .next (wildQueue.finEdge 0 true 1000) := by
    have hon : wildQueue.powered .stile = true := by decide
    change Host.Outcome.next (wildQueue.ifStile _) = _
    rw [State.ifStile, if_pos hon]
    rfl
  rw [hstep] at hexec
  obtain rfl := Host.Outcome.next.inj hexec
  exact absurd hsignal (by decide)

end Sys2Proof.Machine

namespace Sys2Proof.Machine
open Sys2Proof

/-! ### Writes of configuration registers -/

theorem bitsOf_mod_width (v lo w : Nat) : bitsOf v lo w % 2 ^ w = bitsOf v lo w := Nat.mod_mod ..

/-- A new position (R368): the encoder's lines stay, and no other encoder is touched. -/
theorem State.posWrite_spec (s : State) (e : Nat) {v : Nat} (hv : v < 2 ^ 32) : ∃ t, s.posWrite e v = t ∧
    t.get (F.STL_ENC_POS_POS e) = v ∧ (t.enc e).a = (s.enc e).a ∧ (t.enc e).b = (s.enc e).b ∧
    (∀ d, d ≠ e → t.enc d = s.enc d) ∧ s.RegsBut t [F.STL_ENC_POS_POS e] ∧
    t = { s with regs := t.regs, stile := { s.stile with encs := t.stile.encs } } := by
  refine ⟨_, rfl, (State.get_set_same ..).trans (Nat.mod_eq_of_lt hv), ?_, ?_, fun d hd => ?_, ?_, rfl⟩
  · simp [State.posWrite, State.enc, State.setEnc, State.setPos, State.set]
  · simp [State.posWrite, State.enc, State.setEnc, State.setPos, State.set]
  · simp [State.posWrite, State.enc, State.setEnc, State.setPos, State.set, Tab.get_set_ne _ _ _ (Ne.symm hd)]
  · exact (State.RegsBut.refl s _).set v (List.mem_singleton_self _)

/-- The hysteresis of HOLD (R374). -/
theorem State.tqHold_spec (s : State) (q : Nat) :
    (s.get (F.STL_TQ_CFG_HIGH q) ≤ s.get (F.STL_TQ_STAT_OCC q) → (s.tqHold q).get (F.STL_TQ_STAT_HOLD q) = 1) ∧
    (s.get (F.STL_TQ_STAT_OCC q) < s.get (F.STL_TQ_CFG_HIGH q) → s.get (F.STL_TQ_STAT_OCC q) ≤ s.get (F.STL_TQ_CFG_LOW q) →
      (s.tqHold q).get (F.STL_TQ_STAT_HOLD q) = 0) ∧
    (s.get (F.STL_TQ_STAT_OCC q) < s.get (F.STL_TQ_CFG_HIGH q) → s.get (F.STL_TQ_CFG_LOW q) < s.get (F.STL_TQ_STAT_OCC q) →
      s.tqHold q = s) := by
  refine ⟨fun hhigh => ?_, fun hhigh hlow => ?_, fun hhigh hlow => ?_⟩
  · rw [State.tqHold]
    rw [if_pos hhigh]
    exact State.get_set_same ..
  · rw [State.tqHold]
    rw [if_neg (by omega), if_pos hlow]
    exact State.get_set_same ..
  · rw [State.tqHold]
    rw [if_neg (by omega), if_neg (by omega)]

theorem State.tqWatermarks_set {s : State} {q high low : Nat} (hok : 1 ≤ high ∧ high ≤ 64 ∧ low < high) :
    ∃ t, s.tqWatermarks q high low = t ∧ t.get (F.STL_TQ_CFG_HIGH q) = high ∧ t.get (F.STL_TQ_CFG_LOW q) = low ∧
      (high ≤ s.get (F.STL_TQ_STAT_OCC q) → t.get (F.STL_TQ_STAT_HOLD q) = 1) ∧
      (s.get (F.STL_TQ_STAT_OCC q) ≤ low → t.get (F.STL_TQ_STAT_HOLD q) = 0) ∧
      (low < s.get (F.STL_TQ_STAT_OCC q) → s.get (F.STL_TQ_STAT_OCC q) < high →
        t.get (F.STL_TQ_STAT_HOLD q) = s.get (F.STL_TQ_STAT_HOLD q)) ∧
      s.OnlyRegs t [F.STL_TQ_CFG_HIGH q, F.STL_TQ_CFG_LOW q, F.STL_TQ_STAT_HOLD q] := by
  obtain ⟨h1, h2, h3⟩ := hok
  obtain ⟨u, hu⟩ : ∃ u, (s.set (F.STL_TQ_CFG_HIGH q) high).set (F.STL_TQ_CFG_LOW q) low = u := ⟨_, rfl⟩
  have honly : s.OnlyRegs u [F.STL_TQ_CFG_HIGH q, F.STL_TQ_CFG_LOW q, F.STL_TQ_STAT_HOLD q] :=
    hu ▸ ((State.OnlyRegs.refl s _).set high (by simp)).set low (by simp)
  have hhigh : u.get (F.STL_TQ_CFG_HIGH q) = high := by
    rw [← hu, State.get_set_ne _ _ (by simp [Fld.key_iff, F.STL_TQ_CFG_HIGH, F.STL_TQ_CFG_LOW]), State.get_set_same]
    exact Nat.mod_eq_of_lt (by simpa [F.STL_TQ_CFG_HIGH] using Nat.lt_of_le_of_lt h2 (by decide))
  have hlow : u.get (F.STL_TQ_CFG_LOW q) = low := by
    rw [← hu, State.get_set_same]
    exact Nat.mod_eq_of_lt (by simpa [F.STL_TQ_CFG_LOW] using Nat.lt_trans h3 (Nat.lt_of_le_of_lt h2 (by decide)))
  have hocc : u.get (F.STL_TQ_STAT_OCC q) = s.get (F.STL_TQ_STAT_OCC q) :=
    honly.2 _ (by simp [Fld.key_iff, F.STL_TQ_CFG_HIGH, F.STL_TQ_CFG_LOW, F.STL_TQ_STAT_HOLD, F.STL_TQ_STAT_OCC])
  have hold : u.get (F.STL_TQ_STAT_HOLD q) = s.get (F.STL_TQ_STAT_HOLD q) := by
    rw [← hu, State.get_set_ne _ _ (by simp [Fld.key_iff, F.STL_TQ_STAT_HOLD, F.STL_TQ_CFG_LOW]),
      State.get_set_ne _ _ (by simp [Fld.key_iff, F.STL_TQ_STAT_HOLD, F.STL_TQ_CFG_HIGH])]
  have hrest := u.tqHold_onlyRegs q
  obtain ⟨hone, hzero, hstay⟩ := u.tqHold_spec q
  rw [hhigh, hocc] at hone hzero hstay
  rw [hlow] at hzero hstay
  refine ⟨u.tqHold q, ?_, ?_, ?_, hone, fun h => hzero (by omega) h, fun h h' => ?_, honly.trans (hrest.mono (by simp))⟩
  · rw [State.tqWatermarks, if_pos ⟨h1, h2, h3⟩, hu]
  · exact (hrest.2 _ (by simp [Fld.key_iff, F.STL_TQ_CFG_HIGH, F.STL_TQ_STAT_HOLD])).trans hhigh
  · exact (hrest.2 _ (by simp [Fld.key_iff, F.STL_TQ_CFG_LOW, F.STL_TQ_STAT_HOLD])).trans hlow
  · rw [hstay h' h, hold]

/-! ### Registers of an engine (R232) -/

theorem State.engErr_spec (s : State) {k : Nat} {f : Fld} (hw : 0 < f.w) (hlo : f.r ≠ .GLB_IRQ_EVENT_LO) (hhi : f.r ≠ .GLB_IRQ_EVENT_HI) :
    ∃ t, s.engErr k f = t ∧ t.get f = 1 ∧ s.Raised t (20 + k / 4) ∧ t = { s with regs := t.regs, irq := t.irq } ∧
      s.RegsBut t (f :: eventFlds) := by
  have hevent (b : Nat) : (s.set f 1).event b = s.event b := by
    unfold State.event
    rw [State.get_set_ne s 1 (Fld.key_ne_of_reg hlo), State.get_set_ne s 1 (Fld.key_ne_of_reg hhi)]
  obtain ⟨hirq, hraised⟩ := (s.set f 1).signal_raised (20 + k / 4)
  refine ⟨_, rfl, ?_, ⟨hirq, fun b hb => ?_⟩, ?_, ?_⟩
  · exact ((s.set f 1).get_signal _ hlo hhi).trans ((State.get_set_same ..).trans (Nat.mod_eq_of_lt (Nat.one_lt_two_pow hw.ne')))
  · rw [← hevent]
    exact hraised b hb
  · rw [State.engErr, State.signal_parts]
    rfl
  · exact ((State.RegsBut.refl s _).set 1 (by simp)).signal _ fun f hf => List.mem_cons_of_mem _ hf

/-- A field of an engine, its width wide enough, written while the engine does not run. -/
theorem State.engField_idle {s : State} {k : Nat} {f : Fld} {v : Nat} (hidle : s.on (F.CHN_ENG_STATUS_RUNNING k) = false) :
    s.engField k f v = s.set f v := by rw [State.engField, if_neg (by simp [hidle])]

/-- The three base registers of an engine. -/
theorem State.engField_spec {s : State} {k v : Nat} {f : Fld} (hf : f = F.CHN_ENG_RING_BASE_BASE k ∨ f = F.CHN_ENG_CTRL_ADDR_ADDR k ∨
      f = F.CHN_ENG_CPL_BASE_BASE k) :
    (s.on (F.CHN_ENG_STATUS_RUNNING k) = false → ∃ t, s.engField k f (bitsOf v 12 36) = t ∧ t.get f = bitsOf v 12 36 ∧ s.OnlyRegs t [f]) ∧
    (s.on (F.CHN_ENG_STATUS_RUNNING k) = true → s.get f = bitsOf v 12 36 → s.engField k f (bitsOf v 12 36) = s) ∧
    (s.on (F.CHN_ENG_STATUS_RUNNING k) = true → s.get f ≠ bitsOf v 12 36 →
      s.engField k f (bitsOf v 12 36) = s.engErr k (F.CHN_ENG_STATUS_CFG_ERR k)) := by
  have hw : f.w = 36 := by obtain rfl | rfl | rfl := hf <;> rfl
  refine ⟨fun hidle => ⟨_, rfl, ?_, ?_⟩, fun hrun hsame => ?_, fun hrun hdiff => ?_⟩
  · rw [State.engField_idle hidle, State.get_set_same, hw, bitsOf_mod_width]
  · exact State.engField_idle hidle ▸ (State.OnlyRegs.refl s _).set _ (by simp)
  · rw [State.engField, if_pos hrun, hw, bitsOf_mod_width, if_pos hsame]
  · rw [State.engField, if_pos hrun, hw, bitsOf_mod_width, if_neg hdiff]

theorem State.ringsOk_congr {s t : State} {k : Nat} (h : ∀ r ∈ [RegName.CHN_ENG_RING_BASE, .CHN_ENG_CTRL_ADDR, .CHN_ENG_CPL_BASE], ∀ f : Fld,
      f.r = r → t.get f = s.get f)
    (hring : t.get (F.CHN_ENG_CFG_RING_LOG2 k) = s.get (F.CHN_ENG_CFG_RING_LOG2 k))
    (hcpl : t.get (F.CHN_ENG_CFG_CPL_LOG2 k) = s.get (F.CHN_ENG_CFG_CPL_LOG2 k))
    (hfmt : t.get (F.CHN_ENG_CFG_FMT k) = s.get (F.CHN_ENG_CFG_FMT k)) : t.ringsOk k = s.ringsOk k := by
  simp only [State.ringsOk, State.on, hring, hcpl, hfmt, h .CHN_ENG_RING_BASE (by simp) (F.CHN_ENG_RING_BASE_BASE k) rfl,
    h .CHN_ENG_CTRL_ADDR (by simp) (F.CHN_ENG_CTRL_ADDR_ADDR k) rfl, h .CHN_ENG_CPL_BASE (by simp) (F.CHN_ENG_CPL_BASE_BASE k) rfl]
  rfl

/-- The fields of CHN_ENG_CFG. -/
def engCfgFlds (k : Nat) : List Fld := [F.CHN_ENG_CFG_RING_LOG2 k, F.CHN_ENG_CFG_CPL_LOG2 k, F.CHN_ENG_CFG_FMT k, F.CHN_ENG_CFG_EN k]

/-- CHN_ENG_CFG written while the engine does not run: the sizes and the format first, then EN by what the rings are then. -/
theorem State.engCfg_idle {s : State} {k : Nat} (v : Nat) (hidle : s.on (F.CHN_ENG_STATUS_RUNNING k) = false) :
    ∃ u, s.engCfg k v = (if bitOf v 12 && !u.ringsOk k then (u.set (F.CHN_ENG_CFG_EN k) 0).engErr k (F.CHN_ENG_STATUS_CFG_ERR k)
        else u.set (F.CHN_ENG_CFG_EN k) (bitsOf v 12 1)) ∧
      u.get (F.CHN_ENG_CFG_RING_LOG2 k) = bitsOf v 0 5 ∧ u.get (F.CHN_ENG_CFG_CPL_LOG2 k) = bitsOf v 5 5 ∧
      u.get (F.CHN_ENG_CFG_FMT k) = bitsOf v 10 1 ∧ s.OnlyRegs u (engCfgFlds k) := by
  have hset1 : (s.set (F.CHN_ENG_CFG_RING_LOG2 k) (bitsOf v 0 5)).on (F.CHN_ENG_STATUS_RUNNING k) = false := by
    rw [State.on, State.get_set_ne _ _ (by simp [Fld.key_iff, F.CHN_ENG_CFG_RING_LOG2, F.CHN_ENG_STATUS_RUNNING])]
    exact hidle
  have hset2 : ((s.set (F.CHN_ENG_CFG_RING_LOG2 k) (bitsOf v 0 5)).set (F.CHN_ENG_CFG_CPL_LOG2 k) (bitsOf v 5 5)).on
      (F.CHN_ENG_STATUS_RUNNING k) = false := by
    rw [State.on, State.get_set_ne _ _ (by simp [Fld.key_iff, F.CHN_ENG_CFG_CPL_LOG2, F.CHN_ENG_STATUS_RUNNING])]
    exact hset1
  refine ⟨((s.set (F.CHN_ENG_CFG_RING_LOG2 k) (bitsOf v 0 5)).set (F.CHN_ENG_CFG_CPL_LOG2 k) (bitsOf v 5 5)).set (F.CHN_ENG_CFG_FMT k)
    (bitsOf v 10 1), ?_, ?_, ?_, ?_, ?_⟩
  · rw [State.engCfg, State.engField_idle hidle, State.engField_idle hset1, State.engField_idle hset2]
  · simp [State.get_set_ne, Fld.key_iff, F.CHN_ENG_CFG_RING_LOG2, F.CHN_ENG_CFG_CPL_LOG2, F.CHN_ENG_CFG_FMT, bitsOf]
  · simp [State.get_set_ne, Fld.key_iff, F.CHN_ENG_CFG_CPL_LOG2, F.CHN_ENG_CFG_FMT, bitsOf]
  · simp [F.CHN_ENG_CFG_FMT, bitsOf]
  · exact (((State.OnlyRegs.refl s _).set _ (by simp [engCfgFlds])).set _ (by simp [engCfgFlds])).set _ (by simp [engCfgFlds])

theorem State.OnlyRegs.ringsOk_eq {s t : State} {k : Nat} {fs : List Fld} (h : s.OnlyRegs t fs) (hfs : ∀ f ∈ fs, f = F.CHN_ENG_CFG_EN k) :
    t.ringsOk k = s.ringsOk k := by
  have hother {f : Fld} (hne : f.key ≠ (F.CHN_ENG_CFG_EN k).key) : t.get f = s.get f :=
    h.2 f fun hm => have ⟨g, hg, e⟩ := List.mem_map.1 hm; hne (e.symm.trans (congrArg Fld.key (hfs g hg)))
  exact State.ringsOk_congr (fun r hr f hf => hother (Fld.key_ne_of_reg fun e => by simp [← hf, e, F.CHN_ENG_CFG_EN] at hr))
    (hother (by simp [Fld.key_iff, F.CHN_ENG_CFG_EN, F.CHN_ENG_CFG_RING_LOG2]))
    (hother (by simp [Fld.key_iff, F.CHN_ENG_CFG_EN, F.CHN_ENG_CFG_CPL_LOG2]))
    (hother (by simp [Fld.key_iff, F.CHN_ENG_CFG_EN, F.CHN_ENG_CFG_FMT]))

theorem State.engErr_ringsOk (s : State) (k : Nat) : (s.engErr k (F.CHN_ENG_STATUS_CFG_ERR k)).ringsOk k = s.ringsOk k := by
  have hframe : s.Only ({.reg .CHN_ENG_STATUS} ∪ Part.event) (s.engErr k (F.CHN_ENG_STATUS_CFG_ERR k)) := by simp [F.CHN_ENG_STATUS_CFG_ERR]
  refine State.ringsOk_congr (fun r hr f hf => hframe.get ?_) (hframe.get (by simp [F.CHN_ENG_CFG_RING_LOG2]))
    (hframe.get (by simp [F.CHN_ENG_CFG_CPL_LOG2])) (hframe.get (by simp [F.CHN_ENG_CFG_FMT]))
  simp only [List.mem_cons, List.not_mem_nil, or_false] at hr
  obtain rfl | rfl | rfl := hr
  all_goals simp [hf]

/-- What a write of CHN_ENG_CFG sets while the engine does not run. -/
theorem State.engCfg_spec {s : State} {k : Nat} (v : Nat) (hidle : s.on (F.CHN_ENG_STATUS_RUNNING k) = false) :
    ∃ t, s.engCfg k v = t ∧ t.get (F.CHN_ENG_CFG_RING_LOG2 k) = bitsOf v 0 5 ∧ t.get (F.CHN_ENG_CFG_CPL_LOG2 k) = bitsOf v 5 5 ∧
      t.get (F.CHN_ENG_CFG_FMT k) = bitsOf v 10 1 ∧
      (bitOf v 12 = false ∨ t.ringsOk k = true → t.get (F.CHN_ENG_CFG_EN k) = bitsOf v 12 1 ∧ s.OnlyRegs t (engCfgFlds k)) ∧
      (bitOf v 12 = true → t.ringsOk k = false → t.get (F.CHN_ENG_CFG_EN k) = 0 ∧ t.get (F.CHN_ENG_STATUS_CFG_ERR k) = 1 ∧
        s.Raised t (20 + k / 4) ∧ t = { s with regs := t.regs, irq := t.irq } ∧
        s.RegsBut t (engCfgFlds k ++ F.CHN_ENG_STATUS_CFG_ERR k :: eventFlds)) := by
  obtain ⟨u, hu, hring, hcpl, hfmt, honly⟩ := State.engCfg_idle v hidle
  have hen (x : Nat) : u.OnlyRegs (u.set (F.CHN_ENG_CFG_EN k) x) [F.CHN_ENG_CFG_EN k] := (State.OnlyRegs.refl u _).set x (by simp)
  have hstay {t : State} (x : Nat) (ht : (u.set (F.CHN_ENG_CFG_EN k) x).RegsBut t (F.CHN_ENG_STATUS_CFG_ERR k :: eventFlds)) (f : Fld)
      (hr : f.r = .CHN_ENG_CFG) (hlo : f.lo < 12) : t.get f = u.get f := by
    refine (ht f ?_).trans ((hen x).2 f ?_)
    · simp only [List.map_cons, eventFlds, List.map_nil, List.mem_cons, List.not_mem_nil, or_false]
      rintro (h | h | h)
      all_goals exact Fld.key_ne_of_reg (by simp [hr, F.CHN_ENG_STATUS_CFG_ERR, F.GLB_IRQ_EVENT_LO_EVENT, F.GLB_IRQ_EVENT_HI_EVENT]) h
    · simp only [List.map_cons, List.map_nil, List.mem_singleton]
      exact Fld.key_ne_of_lo (by simp only [F.CHN_ENG_CFG_EN]; omega)
  have hrings (x : Nat) := (hen x).ringsOk_eq (k := k) (by simp)
  by_cases hbad : (bitOf v 12 && !u.ringsOk k) = true
  · rw [if_pos hbad] at hu
    obtain ⟨hbit, hno⟩ := Bool.and_eq_true_iff.1 hbad
    obtain ⟨t, ht, hone, hraised, hstate, hregs⟩ := (u.set (F.CHN_ENG_CFG_EN k) 0).engErr_spec (k := k) (f := F.CHN_ENG_STATUS_CFG_ERR k)
      Nat.one_pos nofun nofun
    have hok : t.ringsOk k = false := by rw [← ht, State.engErr_ringsOk, hrings]; simpa using hno
    have hall : s.OnlyRegs (u.set (F.CHN_ENG_CFG_EN k) 0) (engCfgFlds k) := honly.trans ((hen 0).mono (by simp [engCfgFlds]))
    refine ⟨t, hu.trans ht, (hstay 0 hregs _ rfl (Nat.zero_lt_succ 11)).trans hring,
      (hstay 0 hregs _ rfl (by simp [F.CHN_ENG_CFG_CPL_LOG2])).trans hcpl,
      (hstay 0 hregs _ rfl (by simp [F.CHN_ENG_CFG_FMT])).trans hfmt, fun h => ?_, fun _ _ => ⟨?_, hone, ?_, ?_, ?_⟩⟩
    · simp [hbit, hok] at h
    · refine (hregs _ ?_).trans (State.get_set_same ..)
      simp [eventFlds, Fld.key_iff, F.CHN_ENG_CFG_EN, F.CHN_ENG_STATUS_CFG_ERR, F.GLB_IRQ_EVENT_LO_EVENT, F.GLB_IRQ_EVENT_HI_EVENT]
    · refine hraised.congr_left (by rw [hall.1]) fun f hf => hall.2 f ?_
      simp only [eventFlds, List.mem_cons, List.not_mem_nil, or_false] at hf
      obtain rfl | rfl := hf
      all_goals simp [engCfgFlds, Fld.key_iff, F.CHN_ENG_CFG_EN, F.CHN_ENG_CFG_RING_LOG2, F.CHN_ENG_CFG_CPL_LOG2, F.CHN_ENG_CFG_FMT,
        F.GLB_IRQ_EVENT_LO_EVENT, F.GLB_IRQ_EVENT_HI_EVENT]
    · rw [hstate, hall.1]
    · exact (hall.2.mono fun f hf => List.mem_append_left _ hf).trans (hregs.mono fun f hf => List.mem_append_right _ hf)
  · rw [if_neg hbad] at hu
    have hrefl := State.RegsBut.refl (u.set (F.CHN_ENG_CFG_EN k) (bitsOf v 12 1)) (F.CHN_ENG_STATUS_CFG_ERR k :: eventFlds)
    refine ⟨_, hu, (hstay _ hrefl _ rfl (by simp [F.CHN_ENG_CFG_RING_LOG2])).trans hring,
      (hstay _ hrefl _ rfl (by simp [F.CHN_ENG_CFG_CPL_LOG2])).trans hcpl,
      (hstay _ hrefl _ rfl (by simp [F.CHN_ENG_CFG_FMT])).trans hfmt, fun _ => ⟨?_, ?_⟩, fun hbit hno => ?_⟩
    · exact (State.get_set_same ..).trans (bitsOf_mod_width ..)
    · exact honly.trans ((hen _).mono (by simp [engCfgFlds]))
    · rw [hrings] at hno
      simp [hbit, hno] at hbad

/-! ### Pin functions (R503) -/

theorem State.pinWrite_fin {s : State} {i v : Nat} (h : bitsOf v 0 2 ≠ 3) :
    s.pinWrite .STL_PIN_FIN i v = s.set (F.STL_PIN_FIN_PULL i) (bitsOf v 0 2) := by
  rw [State.pinWrite, if_neg (by simp [pinReserved, h])]
  rfl

theorem State.pinWrite_enc {s : State} {e v : Nat} (ha : bitsOf v 0 2 ≠ 3) (hb : bitsOf v 2 2 ≠ 3) :
    s.pinWrite .STL_PIN_ENC e v = (s.set (F.STL_PIN_ENC_PULL_A e) (bitsOf v 0 2)).set (F.STL_PIN_ENC_PULL_B e) (bitsOf v 2 2) := by
  rw [State.pinWrite, if_neg (by simp [pinReserved, ha, hb])]
  rfl

theorem State.pinWrite_out {s : State} {k v : Nat} (h : bitsOf v 0 2 ≠ 3) :
    s.pinWrite .STL_PIN_OUT k v = ((s.set (F.STL_PIN_OUT_DRIVE k) (bitsOf v 0 2)).set (F.STL_PIN_OUT_SLOW k) (bitsOf v 2 1)).set
      (F.STL_PIN_OUT_OD k) (bitsOf v 3 1) := by
  rw [State.pinWrite, if_neg (by simp [pinReserved, h])]
  rfl

theorem pinReserved_iff (p : PinReg) (v : Nat) :
    pinReserved (pinSpot p).1 v = true ↔ bitsOf v 0 2 = 3 ∨ (∃ e, p = .enc e) ∧ bitsOf v 2 2 = 3 := by
  cases p <;> simp [pinReserved, pinSpot]


/-- Settles O35, register by register. -/
theorem configurationWritesLand : Obligations.ConfigurationWritesLand := by
  unfold Obligations.ConfigurationWritesLand
  refine ⟨fun v s hreach => ?bar2, fun e v s hreach => ?pos, fun q high low s hreach => ?marks, fun g a r m s hreach => ?conv,
    fun n e r v s k f hk hreach hf => ?eng, fun n e v s k hk hreach hidle => ?cfg, fun p v s hreach => ?pin⟩
  case bar2 =>
    refine ⟨s.set F.PCI_BAR2_BASE_BASE (v.toNat / 2 ^ 30), congrArg Host.Outcome.next (if_pos hreach), State.get_set_same .., ?_⟩
    exact (State.OnlyRegs.refl s _).set _ (by simp)
  case pos =>
    obtain ⟨t, ht, hpost⟩ := s.posWrite_spec e v.isLt
    exact ⟨t, (congrArg Host.Outcome.next (if_pos hreach)).trans (congrArg _ ht), hpost⟩
  case marks =>
    have hexec : exec (.tqWatermarkWrite q high low) s = .next (s.tqWatermarks q high.toNat low.toNat) :=
      congrArg Host.Outcome.next (if_pos hreach)
    refine ⟨fun hok => ?_, fun hbad => ⟨s.set (F.STL_TQ_STAT_CFG_REJECT q) 1, ?_, State.get_set_same .., ?_⟩⟩
    · obtain ⟨t, ht, hpost⟩ := s.tqWatermarks_set (q := q) hok
      exact ⟨t, hexec.trans (congrArg _ ht), hpost⟩
    · rw [hexec, State.tqWatermarks, if_neg hbad]
    · exact (State.OnlyRegs.refl s _).set _ (by simp)
  case conv =>
    have hexec : exec (.convCfgWrite g a r m) s = .next (s.convCfgWrite g a r.toNat (natOf m)) := congrArg Host.Outcome.next (if_pos hreach)
    have hreject : (s.set (F.TSK_CONV_STATUS_CFG_WR_REJECT g) 1).get (F.TSK_CONV_STATUS_CFG_WR_REJECT g) = 1 := State.get_set_same ..
    have honly : s.OnlyRegs (s.set (F.TSK_CONV_STATUS_CFG_WR_REJECT g) 1) [F.TSK_CONV_STATUS_CFG_WR_REJECT g] :=
      (State.OnlyRegs.refl s _).set _ (by simp)
    refine ⟨fun hbeaten => ⟨_, ?_, hreject, honly⟩, fun hfree hopen => ?_, fun hfree hshut hsame => ?_,
      fun hfree hshut hdiff => ⟨_, ?_, hreject, honly⟩⟩
    · rw [hexec, State.convCfgWrite, if_pos hbeaten]
    · refine ⟨_, by rw [hexec, State.convCfgWrite, if_neg hfree, if_pos hopen], ?_, ?_, ?_⟩
      · refine (State.get_set_ne _ _ (by simp [Fld.key_iff, F.TSK_CONV_CFG_RANGE, F.TSK_CONV_CFG_MASK_EN])).trans ?_
        exact (State.get_set_same ..).trans (Nat.mod_eq_of_lt r.isLt)
      · exact (State.get_set_same ..).trans (Nat.mod_eq_of_lt (natOf_lt_two m))
      · exact (((State.OnlyTuss.refl s g _).set _ (by simp)).set _ (by simp)).upd _
    · rw [hexec, State.convCfgWrite, if_neg hfree, if_neg (by simp [hshut]), if_pos hsame]
    · rw [hexec, State.convCfgWrite, if_neg hfree, if_neg (by simp [hshut]), if_neg hdiff]
  case eng =>
    subst hk
    have hexec : exec (.engCfgWrite n e r v) s = .next (s.engField (4 * n.val + e.val) f (bitsOf v.toNat 12 36)) := by
      refine (congrArg Host.Outcome.next (if_pos hreach)).trans ?_
      obtain ⟨rfl, rfl⟩ | ⟨rfl, rfl⟩ | ⟨rfl, rfl⟩ := hf <;> rfl
    obtain ⟨hidle, hsame, hdiff⟩ := State.engField_spec (s := s) (v := v.toNat) (hf.imp And.right (Or.imp And.right And.right))
    refine ⟨fun h => ?_, fun h h' => hexec.trans (congrArg _ (hsame h h')), fun h h' => ?_⟩
    · obtain ⟨t, ht, hpost⟩ := hidle h
      exact ⟨t, hexec.trans (congrArg _ ht), hpost⟩
    · obtain ⟨t, ht, hone, hraised, hpost⟩ := s.engErr_spec (k := 4 * n.val + e.val) (f := F.CHN_ENG_STATUS_CFG_ERR (4 * n.val + e.val))
        Nat.one_pos nofun nofun
      rw [show (4 * n.val + e.val) / 4 = n.val by omega] at hraised
      exact ⟨t, hexec.trans (congrArg _ ((hdiff h h').trans ht)), hone, hraised, hpost⟩
  case cfg =>
    subst hk
    obtain ⟨t, ht, hring, hcpl, hfmt, hgood, hbad⟩ := State.engCfg_spec v.toNat hidle
    refine ⟨t, (congrArg Host.Outcome.next (if_pos hreach)).trans (congrArg _ ht), hring, hcpl, hfmt, hgood, fun hbit hno => ?_⟩
    obtain ⟨hen, hone, hraised, hstate, hregs⟩ := hbad hbit hno
    rw [show (4 * n.val + e.val) / 4 = n.val by omega] at hraised
    exact ⟨hen, hone, hraised, hstate, hregs.mono (by simp [engCfgFlds])⟩
  case pin =>
    have hexec : exec (.pinFunctionWrite p v) s = .next (s.pinWrite (pinSpot p).1 (pinSpot p).2 v.toNat) :=
      congrArg Host.Outcome.next (if_pos hreach)
    refine ⟨fun hres => ⟨s.set F.STL_PIN_STATUS_CFG_REJECT 1, ?_, State.get_set_same .., ?_⟩, fun hfree => ⟨_, hexec, ?_, ?_, ?_⟩⟩
    · rw [hexec, State.pinWrite, if_pos ((pinReserved_iff p v.toNat).2 hres)]
    · exact (State.OnlyRegs.refl s _).set _ (by simp)
    · rintro i rfl
      simp only [pinSpot]
      rw [State.pinWrite_fin fun h => hfree (.inl h)]
      exact ⟨(State.get_set_same ..).trans (bitsOf_mod_width ..), (State.OnlyRegs.refl s _).set _ (by simp)⟩
    · rintro e rfl
      simp only [pinSpot]
      rw [State.pinWrite_enc (fun h => hfree (.inl h)) fun h => hfree (.inr ⟨⟨e, rfl⟩, h⟩)]
      refine ⟨?_, (State.get_set_same ..).trans (bitsOf_mod_width ..),
        ((State.OnlyRegs.refl s _).set _ (by simp)).set _ (by simp)⟩
      refine (State.get_set_ne _ _ (by simp [Fld.key_iff, F.STL_PIN_ENC_PULL_A, F.STL_PIN_ENC_PULL_B])).trans ?_
      exact (State.get_set_same ..).trans (bitsOf_mod_width ..)
    · rintro k rfl
      simp only [pinSpot]
      rw [State.pinWrite_out fun h => hfree (.inl h)]
      refine ⟨?_, ?_, (State.get_set_same ..).trans (bitsOf_mod_width ..),
        (((State.OnlyRegs.refl s _).set _ (by simp)).set _ (by simp)).set _ (by simp)⟩
      · refine (State.get_set_ne _ _ (by simp [Fld.key_iff, F.STL_PIN_OUT_DRIVE, F.STL_PIN_OUT_OD])).trans ?_
        refine (State.get_set_ne _ _ (by simp [Fld.key_iff, F.STL_PIN_OUT_DRIVE, F.STL_PIN_OUT_SLOW])).trans ?_
        exact (State.get_set_same ..).trans (bitsOf_mod_width ..)
      · refine (State.get_set_ne _ _ (by simp [Fld.key_iff, F.STL_PIN_OUT_SLOW, F.STL_PIN_OUT_OD])).trans ?_
        exact (State.get_set_same ..).trans (bitsOf_mod_width ..)

end Sys2Proof.Machine

namespace Sys2Proof.Machine
open Sys2Proof

/-! ### Mailbox buffers and the flash -/

theorem leNat_lt (bs : List Byte) : leNat bs < 256 ^ bs.length := by
  induction bs with
  | nil => exact Nat.one_pos
  | cons b bs ih =>
    rw [leNat, List.length_cons, pow_succ]
    have := b.isLt
    omega

theorem getElem?_words32 {bs : List Byte} {i : Nat} (h : 4 * i + 4 ≤ bs.length) :
    (words32 bs)[i]? = some (leNat ((bs.drop (4 * i)).take 4)) := by
  have hi : i < bs.length / 4 := by omega
  simp [words32, cutEvery, hi, Nat.mul_comm]

/-- The words laid over a buffer of 32-bit registers, from the `k`-th on. -/
theorem State.putWords_spec {f : Nat → Fld} (hf : ∀ i j, i < 4096 → j < 4096 → i ≠ j → (f i).key ≠ (f j).key) (ws : List Nat) (k : Nat)
    (hk : k + ws.length ≤ 4096) (s : State) :
    (∀ i w, ws[i]? = some w →
      ((ws.zipIdx k).foldl (fun (s : State) x => s.set (f x.2) x.1) s).get (f (k + i)) = w % 2 ^ (f (k + i)).w) ∧
    s.OnlyRegs ((ws.zipIdx k).foldl (fun (s : State) x => s.set (f x.2) x.1) s) ((List.range' k ws.length).map f) := by
  induction ws generalizing k s with
  | nil => exact ⟨nofun, .refl s _⟩
  | cons w ws ih =>
    rw [List.length_cons] at hk
    obtain ⟨hget, honly⟩ := ih (k + 1) (by omega) (s.set (f k) w)
    rw [List.zipIdx_cons, List.foldl_cons]
    constructor
    · rintro (_ | i) v hv
      · obtain rfl := Option.some.inj hv
        refine (honly.2 (f k) ?_).trans (State.get_set_same ..)
        simp only [List.map_map, List.mem_map, List.mem_range'_1, Function.comp_apply, not_exists, not_and]
        exact fun j hj => hf j k (by omega) (by omega) (by omega)
      · have := hget i v hv
        rwa [show k + 1 + i = k + (i + 1) by omega] at this
    · rw [List.length_cons, List.range'_succ, List.map_cons]
      exact ((State.OnlyRegs.refl s _).set w (by simp)).trans (honly.mono fun x hx => List.mem_cons_of_mem _ hx)

/-- A buffer laid over with bytes: word by word, and nothing else. -/
theorem State.bufPut_spec {f : Nat → Fld} (hf : ∀ i j, i < 4096 → j < 4096 → i ≠ j → (f i).key ≠ (f j).key) (hw : ∀ i, (f i).w = 32)
    (s : State) {bs : List Byte} (hlen : bs.length ≤ 8192) :
    (∀ i, 4 * i + 4 ≤ bs.length → (s.bufPut f bs).get (f i) = leNat ((bs.drop (4 * i)).take 4)) ∧
    s.OnlyRegs (s.bufPut f bs) ((List.range ((bs.length + 3) / 4)).map f) := by
  obtain ⟨cs, hcs⟩ : ∃ cs, bs ++ List.replicate ((4 - bs.length % 4) % 4) 0 = cs := ⟨_, rfl⟩
  have hcslen : cs.length = bs.length + (4 - bs.length % 4) % 4 := by rw [← hcs, List.length_append, List.length_replicate]
  have hwords : (words32 cs).length = (bs.length + 3) / 4 := by
    simp only [words32, cutEvery, List.length_map, List.length_range, hcslen]
    omega
  obtain ⟨hget, honly⟩ := State.putWords_spec hf (words32 cs) 0 (by omega) s
  rw [State.bufPut, hcs]
  refine ⟨fun i hi => ?_, ?_⟩
  · have hword := hget i _ (getElem?_words32 (bs := cs) (i := i) (by omega))
    rw [Nat.zero_add, hw, Nat.mod_eq_of_lt] at hword
    · rw [hword, ← hcs, List.drop_append_of_le_length (by omega), List.take_append_of_le_length (by rw [List.length_drop]; omega)]
    · exact (leNat_lt _).trans_le (Nat.pow_le_pow_right (n := 256) (by decide) (List.length_take_le ..))
  · rwa [hwords, ← List.range_eq_range'] at honly

theorem bootBuf_key (i j : Nat) (hi : i < 4096) (hj : j < 4096) (h : i ≠ j) : (F.BOOT_MBOX_BUF_DATA i).key ≠ (F.BOOT_MBOX_BUF_DATA j).key := by
  simp only [ne_eq, Fld.key_iff, F.BOOT_MBOX_BUF_DATA]
  omega

theorem secBuf_key (i j : Nat) (hi : i < 4096) (hj : j < 4096) (h : i ≠ j) : (F.SEC_MBOX_BUF_DATA i).key ≠ (F.SEC_MBOX_BUF_DATA j).key := by
  simp only [ne_eq, Fld.key_iff, F.SEC_MBOX_BUF_DATA]
  omega

theorem State.flashBytes_flashPut_in (s : State) (a k n : Nat) {bs : List Byte} (h : k + n ≤ bs.length) :
    (s.flashPut a bs).flashBytes (a + k) n = (bs.drop k).take n := by
  refine List.ext_getElem? fun i => ?_
  by_cases hi : i < n
  · rw [State.flashBytes, Tab.getElem?_getList _ _ _ _ _ hi, List.getElem?_take_of_lt hi, List.getElem?_drop, Nat.add_assoc]
    exact (Tab.getElem?_setList_in _ _ _ _ (by omega)).symm
  · rw [List.getElem?_eq_none (by rw [State.flashBytes, Tab.length_getList]; omega), List.getElem?_eq_none (by rw [List.length_take]; omega)]

theorem State.flashBytes_flashPut_out (s : State) {a y : Nat} {bs : List Byte} (h : ¬(a ≤ y ∧ y < a + bs.length)) :
    (s.flashPut a bs).flashBytes y 1 = s.flashBytes y 1 := by
  simp only [State.flashBytes, Tab.getList, State.flashPut]
  rw [Tab.get_setList_out _ _ _ _ _ (by omega)]

theorem State.bufGet_succ (s : State) (f : Nat → Fld) (n : Nat) : s.bufGet f (n + 1) = s.bufGet f n ++ leBytes 4 (s.get (f n)) := by
  simp [State.bufGet, List.range_succ]

theorem State.length_bufGet (s : State) (f : Nat → Fld) (n : Nat) : (s.bufGet f n).length = 4 * n := by
  induction n with
  | zero => rfl
  | succ n ih => rw [State.bufGet_succ, List.length_append, ih, length_leBytes, Nat.mul_succ]

/-- The words of a buffer, each as four bytes. -/
theorem State.bufGet_word (s : State) (f : Nat → Fld) {n i : Nat} (h : i < n) :
    ((s.bufGet f n).drop (4 * i)).take 4 = leBytes 4 (s.get (f i)) := by
  induction n with
  | zero => omega
  | succ n ih =>
    have hlen := s.length_bufGet f n
    rw [State.bufGet_succ]
    by_cases hi : i < n
    · rw [List.drop_append_of_le_length (by omega), List.take_append_of_le_length (by rw [List.length_drop]; omega), ih hi]
    · obtain rfl : i = n := by omega
      rw [List.drop_left' hlen, List.take_of_length_le (by rw [length_leBytes])]

/-! ### The recovery mailbox -/

/-- What every recovery command passes: it is dropped outside Run and Idle, refused while BUSY is 1, and else carried out. -/
def State.mboxGate (s t : State) : State :=
  if !s.mboxWorks then s else if s.on F.BOOT_MBOX_STATUS_BUSY then s.set F.BOOT_MBOX_STATUS_REJECT 1 else t

/-- A recovery command carried out: `act` is done, BUSY is 1 and the result known. -/
def State.mboxBegun (s : State) (cmd result : Nat) (act : State → State) : State :=
  { (act s).set F.BOOT_MBOX_STATUS_BUSY 1 with boot := { (act s).boot with mbox := some ⟨cmd, result, (act s).time⟩ } }

theorem State.mboxBegin_eq (s : State) (cmd result : Nat) (act : State → State) :
    s.mboxBegin cmd result act = s.mboxGate (s.mboxBegun cmd result act) := rfl

section
variable {s : State} (t : State)

theorem State.mboxGate_asleep (h : 1 < s.get F.PWR_STATUS_STATE) : s.mboxGate t = s := by
  rw [State.mboxGate, if_pos (by simpa [State.mboxWorks] using h)]

theorem State.mboxGate_busy (h : s.get F.PWR_STATUS_STATE ≤ 1) (hb : s.get F.BOOT_MBOX_STATUS_BUSY ≠ 0) :
    s.mboxGate t = s.set F.BOOT_MBOX_STATUS_REJECT 1 := by
  rw [State.mboxGate, if_neg (by simpa [State.mboxWorks] using h), if_pos (by simpa [State.on] using hb)]

theorem State.mboxGate_idle (h : s.get F.PWR_STATUS_STATE ≤ 1) (hb : s.get F.BOOT_MBOX_STATUS_BUSY = 0) : s.mboxGate t = t := by
  rw [State.mboxGate, if_neg (by simpa [State.mboxWorks] using h), if_neg (by simp [State.on, hb])]

end

/-- What a change of `n` bytes of the flash begins. -/
def State.flashBegun (s : State) (cmd a n : Nat) (ok : Bool) (bs : List Byte) : State :=
  if s.flashRefused a n then s.mboxBegun cmd 1 id
  else if flashEnd < a + n then s.mboxBegun cmd 2 id
  else if ok then s.mboxBegun cmd 0 fun s => s.flashPut a bs
  else s.mboxBegun cmd 2 fun s => (s.flashPut a (leBytes n (s.freeVal (8 * n)))).draw

theorem State.flashChange_eq (s : State) (cmd a n : Nat) (ok : Bool) (bs : List Byte) :
    s.flashChange cmd a n ok bs = s.mboxGate (s.flashBegun cmd a n ok bs) := by
  unfold State.flashChange State.flashBegun
  split
  · rfl
  · split
    · rfl
    · cases ok <;> rfl

/-- What READ begins. -/
def State.readBegun (s : State) (ok : Bool) : State :=
  if ok && decide (s.mboxAddr + 4096 ≤ flashEnd) then
    s.mboxBegun 1 0 fun u => u.bufPut (fun i => F.BOOT_MBOX_BUF_DATA i) (u.flashBytes s.mboxAddr 4096)
  else s.mboxBegun 1 2 id

theorem State.mboxRead_eq (s : State) (ok : Bool) : s.mboxRead ok = s.mboxGate (s.readBegun ok) := by
  unfold State.mboxRead State.readBegun
  dsimp only
  by_cases h : (ok && decide (s.mboxAddr + 4096 ≤ flashEnd)) = true
  · rw [if_pos h, if_pos h, State.mboxBegin_eq]
  · rw [if_neg h, if_neg h, State.mboxBegin_eq]

/-- What PROGRAM begins. -/
def State.programBegun (s : State) (ok : Bool) : State :=
  if s.mboxAddr % 4096 ≠ 0 then s.mboxBegun 3 1 id
  else s.flashBegun 3 s.mboxAddr 4096 ok (s.bufGet (fun i => F.BOOT_MBOX_BUF_DATA i) 1024)

theorem State.mboxProgram_eq (s : State) (ok : Bool) : s.mboxProgram ok = s.mboxGate (s.programBegun ok) := by
  unfold State.mboxProgram State.programBegun
  split
  · rfl
  · exact s.flashChange_eq ..

/-- What each recovery command does once it has passed the gate. -/
def State.mboxBegins (s : State) : Instr → State
  | .mboxRead ok => s.readBegun ok
  | .erase ok => s.flashBegun 2 (s.mboxAddr / 65536 * 65536) 65536 ok (List.replicate 65536 0xFF)
  | .program ok => s.programBegun ok
  | .verifySlot ok => s.mboxBegun 4 (verifyResult ok (s.slotInfo s.mboxFlag).isSome) id
  | .verifyBank ok => s.mboxBegun 5 (verifyResult ok (s.bank s.mboxFlag).isSome) id
  | .reboot => if s.mboxFlag = 1 then ({ s with heather := { s.heather with count := 0, fallow := 0 } }).chipReset 3 .release
      else s.chipReset 3 .release
  | .mboxFallow => s.hostFallow
  | .mboxReserved cmd => s.mboxBegun cmd.toNat 4 id
  | _ => s

/-- Every recovery command passes the gate, and then begins. -/
theorem exec_recovery {s : State} (ok : Bool) (cmd : BitVec 8) (hreach : s.reach .BOOT_MBOX_CMD 0 = true) {c : Instr}
    (hc : c ∈ [Instr.mboxRead ok, .erase ok, .program ok, .verifySlot ok, .verifyBank ok, .reboot, .mboxFallow, .mboxReserved cmd]) :
    exec c s = .next (s.mboxGate (s.mboxBegins c)) := by
  simp only [List.mem_cons, List.not_mem_nil, or_false] at hc
  obtain rfl | rfl | rfl | rfl | rfl | rfl | rfl | rfl := hc <;> refine congrArg Host.Outcome.next ((if_pos hreach).trans ?_)
  case inl => exact s.mboxRead_eq ok
  case inr.inl => exact s.flashChange_eq ..
  case inr.inr.inl => exact s.mboxProgram_eq ok
  all_goals rfl

/-- A recovery command has begun: BUSY is 1, the result that it will have is kept, and else the listed fields, the flash and the draw of free
values alone may differ. -/
def State.MboxRuns (s t : State) (cmd result : Nat) (fs : List Fld) : Prop :=
  t.get F.BOOT_MBOX_STATUS_BUSY = 1 ∧ s.RegsBut t (F.BOOT_MBOX_STATUS_BUSY :: fs) ∧
    t = { s with regs := t.regs, flash := t.flash, free := t.free, boot := { s.boot with mbox := some ⟨cmd, result, s.time⟩ } }

theorem State.mboxBegun_runs (s : State) (cmd result : Nat) {act : State → State} {fs : List Fld}
    (hact : act s = { s with regs := (act s).regs, flash := (act s).flash, free := (act s).free }) (hregs : s.RegsBut (act s) fs) :
    s.MboxRuns (s.mboxBegun cmd result act) cmd result fs := by
  refine ⟨(act s).get_set_same F.BOOT_MBOX_STATUS_BUSY 1, ?_, ?_⟩
  · exact (hregs.mono fun f hf => List.mem_cons_of_mem _ hf).set 1 (List.mem_cons_self ..)
  · unfold State.mboxBegun
    rw [hact]
    rfl

theorem State.mboxBegun_plain (s : State) (cmd result : Nat) : s.MboxRuns (s.mboxBegun cmd result id) cmd result [] :=
  s.mboxBegun_runs cmd result rfl (.refl s _)

theorem meets_iff (a n b m : Nat) : meets a n b m = true ↔ a < b + m ∧ b < a + n := decide_eq_true_iff

theorem State.flashRefused_iff (s : State) (x n : Nat) : s.flashRefused x n = true ↔ (x < 0x2400000 + 0x40000 ∧ 0x2400000 < x + n) ∨
    (s.get F.GLB_FALLOW_REASON_FALLOW = 0 ∧
      ((x < 0x400000 + s.get F.BOOT_STATUS_SLOT * 0x1000000 + 0x1000000 ∧ 0x400000 + s.get F.BOOT_STATUS_SLOT * 0x1000000 < x + n) ∨
        (x < s.get F.BOOT_STATUS_BANK * 0x200000 + 0x200000 ∧ s.get F.BOOT_STATUS_BANK * 0x200000 < x + n))) := by
  simp only [State.flashRefused, Bool.or_eq_true, Bool.and_eq_true, meets_iff, State.on, Bool.not_eq_true', bne_eq_false_iff_eq,
    journalBase, journalSlots, slotAt, bankAt, bankRoom, Nat.reduceMul]

/-- The bytes of the flash outside the range of a change stay. -/
def State.FlashOutside (s t : State) (x n : Nat) : Prop := ∀ y, ¬(x ≤ y ∧ y < x + n) → t.flashBytes y 1 = s.flashBytes y 1

/-- A change of the flash: refused in the journal and, outside Fallow mode, in the running slot and the bank in use; failed beyond the end; else done,
or failed within its range. -/
theorem State.flashBegun_spec (s : State) (cmd x n : Nat) (ok : Bool) {bs : List Byte} (hlen : bs.length = n) :
    (s.flashRefused x n = true → s.flashBegun cmd x n ok bs = s.mboxBegun cmd 1 id) ∧
    (¬s.flashRefused x n = true → flashEnd < x + n → s.flashBegun cmd x n ok bs = s.mboxBegun cmd 2 id) ∧
    (¬s.flashRefused x n = true → x + n ≤ flashEnd → s.MboxRuns (s.flashBegun cmd x n ok bs) cmd (if ok then 0 else 2) [] ∧
      (ok = true → (s.flashBegun cmd x n ok bs).flash = (s.flashPut x bs).flash ∧ (s.flashBegun cmd x n ok bs).free = s.free) ∧
      s.FlashOutside (s.flashBegun cmd x n ok bs) x n) := by
  refine ⟨fun href => if_pos href, fun hfree hend => (if_neg hfree).trans (if_pos hend), fun hfree hin => ?_⟩
  have hbegun : s.flashBegun cmd x n ok bs = if ok then s.mboxBegun cmd 0 fun s => s.flashPut x bs
      else s.mboxBegun cmd 2 fun s => (s.flashPut x (leBytes n (s.freeVal (8 * n)))).draw := (if_neg hfree).trans (if_neg (by omega))
  cases ok
  · rw [hbegun, if_neg (by decide), if_neg (by decide)]
    refine ⟨s.mboxBegun_runs cmd 2 (act := fun s => (s.flashPut x (leBytes n (s.freeVal (8 * n)))).draw) rfl (.congr _ rfl), nofun,
      fun y hy => ?_⟩
    exact s.flashBytes_flashPut_out (by rwa [length_leBytes])
  · rw [hbegun, if_pos rfl, if_pos rfl]
    refine ⟨s.mboxBegun_runs cmd 0 (act := fun s => s.flashPut x bs) rfl (.congr _ rfl), fun _ => ⟨rfl, rfl⟩, fun y hy => ?_⟩
    exact s.flashBytes_flashPut_out (by rwa [hlen])

theorem State.mboxBegun_congr (s : State) (cmd result : Nat) {act act' : State → State} (h : act s = act' s) :
    s.mboxBegun cmd result act = s.mboxBegun cmd result act' := by
  unfold State.mboxBegun
  rw [h]

/-- The recovery buffer laid over with 4 KiB. -/
theorem State.bufBegun_spec (s : State) {bs : List Byte} (hlen : bs.length = 4096) :
    ∃ t, (s.mboxBegun 1 0 fun u => u.bufPut F.BOOT_MBOX_BUF_DATA bs) = t ∧
      s.MboxRuns t 1 0 ((List.range 1024).map F.BOOT_MBOX_BUF_DATA) ∧ t.flash = s.flash ∧ t.free = s.free ∧
      ∀ i, i < 1024 → t.get (F.BOOT_MBOX_BUF_DATA i) = leNat ((bs.drop (4 * i)).take 4) := by
  obtain ⟨hget, honly⟩ := s.bufPut_spec bootBuf_key (fun _ => rfl) (bs := bs) (by omega)
  rw [hlen] at hget honly
  have hact : s.bufPut F.BOOT_MBOX_BUF_DATA bs = { s with
      regs := (s.bufPut F.BOOT_MBOX_BUF_DATA bs).regs, flash := (s.bufPut F.BOOT_MBOX_BUF_DATA bs).flash,
      free := (s.bufPut F.BOOT_MBOX_BUF_DATA bs).free } := by
    conv_lhs => rw [honly.1]
    rw [honly.1]
  refine ⟨_, rfl, s.mboxBegun_runs 1 0 hact honly.2, (congrArg State.flash honly.1 :), (congrArg State.free honly.1 :), fun i hi => ?_⟩
  refine Eq.trans ?_ (hget i (by omega))
  exact (s.bufPut F.BOOT_MBOX_BUF_DATA bs).get_set_ne (f := F.BOOT_MBOX_STATUS_BUSY) (g := F.BOOT_MBOX_BUF_DATA i) 1
    (Fld.key_ne_of_reg (by simp [F.BOOT_MBOX_BUF_DATA, F.BOOT_MBOX_STATUS_BUSY]))

theorem State.flashBytes_part (s : State) (a : Nat) {n k m : Nat} (h : k + m ≤ n) :
    ((s.flashBytes a n).drop k).take m = s.flashBytes (a + k) m := by
  refine List.ext_getElem? fun i => ?_
  by_cases hi : i < m
  · rw [List.getElem?_take_of_lt hi, List.getElem?_drop, State.flashBytes, State.flashBytes, Tab.getElem?_getList _ _ _ _ _ (by omega),
      Tab.getElem?_getList _ _ _ _ _ hi, Nat.add_assoc]
  · rw [List.getElem?_eq_none (by rw [List.length_take]; omega), List.getElem?_eq_none (by rw [State.flashBytes, Tab.length_getList]; omega)]

/-- READ: the buffer holds the flash from ADDR on. -/
theorem State.readBegun_done (s : State) (hin : s.mboxAddr + 4096 ≤ flashEnd) : ∃ t, s.readBegun true = t ∧
    s.MboxRuns t 1 0 ((List.range 1024).map F.BOOT_MBOX_BUF_DATA) ∧ t.flash = s.flash ∧ t.free = s.free ∧
      ∀ i, i < 1024 → t.get (F.BOOT_MBOX_BUF_DATA i) = leNat (s.flashBytes (s.mboxAddr + 4 * i) 4) := by
  obtain ⟨t, ht, hruns, hflash, hfree, hget⟩ := s.bufBegun_spec (bs := s.flashBytes s.mboxAddr 4096) (Tab.length_getList ..)
  refine ⟨t, ?_, hruns, hflash, hfree, fun i hi => (hget i hi).trans (by rw [s.flashBytes_part _ (by omega)])⟩
  rw [State.readBegun, if_pos (by simp [hin]), ← ht]
  exact s.mboxBegun_congr 1 0 rfl

/-- Register writes that leave the event words, a change of what the firmware keeps, and an event. -/
theorem State.OnlyRegs.bootSignal {s u : State} {fs : List Fld} (h : s.OnlyRegs u fs)
    (hfs : ∀ f ∈ fs, f.r ≠ .GLB_IRQ_EVENT_LO ∧ f.r ≠ .GLB_IRQ_EVENT_HI) (v : Nat) (b : Boot) :
    ∃ t, ({ u with boot := b }).signal v = t ∧
      (∀ f : Fld, f.r ≠ .GLB_IRQ_EVENT_LO → f.r ≠ .GLB_IRQ_EVENT_HI → t.get f = u.get f) ∧ s.Raised t v ∧
      s.RegsBut t (fs ++ eventFlds) ∧ t = { s with regs := t.regs, irq := t.irq, boot := b } := by
  have hevent : ∀ f ∈ eventFlds, u.get f = s.get f := fun f hf => h.2.get_of_reg_ne fun x hx => by
    obtain ⟨hlo, hhi⟩ := hfs x hx
    simp only [eventFlds, List.mem_cons, List.not_mem_nil, or_false] at hf
    obtain rfl | rfl := hf
    exacts [hlo, hhi]
  refine ⟨_, rfl, fun f hlo hhi => State.get_signal _ v hlo hhi, ?_, ?_, ?_⟩
  · exact (State.signal_raised _ v).congr_left (congrArg State.irq h.1 :) hevent
  · exact (State.RegsBut.trans (t := { u with boot := b }) (h.2.mono fun f hf => List.mem_append_left _ hf) (.congr _ rfl)).signal v
      fun f hf => List.mem_append_right _ hf
  · have hu : ({ u with boot := b } : State) = { s with regs := u.regs, boot := b } := by rw [h.1]
    rw [hu, State.signal_parts]

theorem State.mboxDone_spec {s : State} {x : MboxRun} (hx : s.boot.mbox = some x) : ∃ t, s.mboxDone = t ∧
    t.get F.BOOT_MBOX_STATUS_BUSY = 0 ∧ t.get F.BOOT_MBOX_STATUS_DONE = 1 ∧ t.get F.BOOT_MBOX_STATUS_RESULT = x.result % 8 ∧ s.Raised t 44 ∧
    s.RegsBut t ([F.BOOT_MBOX_STATUS_BUSY, F.BOOT_MBOX_STATUS_DONE, F.BOOT_MBOX_STATUS_RESULT] ++ eventFlds) ∧
    t = { s with regs := t.regs, irq := t.irq, boot := { s.boot with mbox := none } } := by
  have honly : s.OnlyRegs (((s.set F.BOOT_MBOX_STATUS_BUSY 0).set F.BOOT_MBOX_STATUS_DONE 1).set F.BOOT_MBOX_STATUS_RESULT x.result)
      [F.BOOT_MBOX_STATUS_BUSY, F.BOOT_MBOX_STATUS_DONE, F.BOOT_MBOX_STATUS_RESULT] :=
    (((State.OnlyRegs.refl s _).set _ (by simp)).set _ (by simp)).set _ (by simp)
  obtain ⟨t, ht, hget, hraised, hregs, hstate⟩ := honly.bootSignal (by
    simp [F.BOOT_MBOX_STATUS_BUSY, F.BOOT_MBOX_STATUS_DONE, F.BOOT_MBOX_STATUS_RESULT]) 44 { s.boot with mbox := none }
  refine ⟨t, ?_, (hget F.BOOT_MBOX_STATUS_BUSY (by decide) (by decide)).trans ?_,
    (hget F.BOOT_MBOX_STATUS_DONE (by decide) (by decide)).trans ?_,
    (hget F.BOOT_MBOX_STATUS_RESULT (by decide) (by decide)).trans ?_, hraised, hregs, hstate⟩
  · rw [State.mboxDone, hx, ← ht]
    rfl
  all_goals simp [State.get_set_ne, Fld.key_iff, F.BOOT_MBOX_STATUS_BUSY, F.BOOT_MBOX_STATUS_DONE, F.BOOT_MBOX_STATUS_RESULT]

/-! ### The security mailbox -/

/-- What every security command passes: it is refused while BUSY is 1 and once the engine has agreed to stop. -/
def State.secGate (s t : State) : State :=
  if s.on F.SEC_MBOX_STATUS_BUSY || s.stopped 0x51 then s.set F.SEC_MBOX_STATUS_REJECT 1 else t

/-- A security command carried out. -/
def State.secBegun (s : State) (cmd result : Nat) (act : State → State) : State :=
  { (act s).set F.SEC_MBOX_STATUS_BUSY 1 with boot := { (act s).boot with sec := some ⟨cmd, result, (act s).time⟩ } }

theorem State.secBegin_eq (s : State) (cmd result : Nat) (act : State → State) :
    s.secBegin cmd result act = s.secGate (s.secBegun cmd result act) := rfl

/-- The engine takes no command. -/
def State.secClosed (s : State) : Prop := s.get F.SEC_MBOX_STATUS_BUSY ≠ 0 ∨ s.stopped 0x51 = true

theorem State.secGate_closed {s : State} (t : State) (h : s.secClosed) : s.secGate t = s.set F.SEC_MBOX_STATUS_REJECT 1 :=
  if_pos (by simpa [State.secClosed, State.on] using h)

theorem State.secGate_open {s : State} (t : State) (h : ¬s.secClosed) : s.secGate t = t :=
  if_neg (by simpa [State.secClosed, State.on] using h)

theorem State.getId_known {s : State} {key : List Byte} (h : s.boot.ident = some key) :
    s.getId = s.secGate (s.secBegun 1 0 fun s => s.secPut (deviceId key ++ key)) := by
  rw [State.getId, h]
  rfl

theorem State.getId_unknown {s : State} (h : s.boot.ident = none) : s.getId = s.secGate (s.secBegun 1 2 id) := by
  rw [State.getId, h]
  rfl

/-- The nonce of an ATTEST, kept from the buffer. -/
def State.nonceTaken (s : State) : State :=
  { s with boot := { s.boot with nonce := s.bufGet (fun i => F.SEC_MBOX_BUF_DATA i) 8, snapped := false } }

theorem State.attest_known {s : State} {key : List Byte} (h : s.boot.ident = some key) :
    s.attest = s.secGate (s.secBegun 2 0 State.nonceTaken) := by
  rw [State.attest, h]
  rfl

theorem State.attest_unknown {s : State} (h : s.boot.ident = none) : s.attest = s.secGate (s.secBegun 2 2 id) := by
  rw [State.attest, h]
  rfl

theorem State.getCert_found {s : State} {c : Nat × List Byte} (h : s.boot.certs.find? (fun c => c.1 == s.get F.SEC_MBOX_ARG_INDEX) = some c) :
    s.getCert = s.secGate (s.secBegun 3 0 fun s => s.secPut c.2) := by
  rw [State.getCert, h]
  rfl

theorem State.getCert_missing {s : State} (h : s.boot.certs.find? (fun c => c.1 == s.get F.SEC_MBOX_ARG_INDEX) = none) :
    s.getCert = s.secGate (s.secBegun 3 1 id) := by
  rw [State.getCert, h]
  rfl

theorem State.enroll_open {s : State} {helper : List Byte}
    (h : s.get F.GLB_FALLOW_REASON_FALLOW ≠ 0 ∧ s.get F.GLB_FALLOW_REASON_REASON = 3) :
    s.enroll helper = s.secGate (s.secBegun 4 0 fun s => s.flashPut 0x2440000 (helper.take 65536)) := by
  rw [State.enroll, if_pos (by simpa [State.on] using h)]
  rfl

theorem State.enroll_shut {s : State} {helper : List Byte}
    (h : ¬(s.get F.GLB_FALLOW_REASON_FALLOW ≠ 0 ∧ s.get F.GLB_FALLOW_REASON_REASON = 3)) :
    s.enroll helper = s.secGate (s.secBegun 4 1 id) := by
  rw [State.enroll, if_neg (by simpa [State.on] using h)]
  rfl

/-- Every security command passes the gate. -/
theorem exec_security {s : State} (helper : List Byte) (cmd : BitVec 8) (hreach : s.reach .SEC_MBOX_CMD 0 = true) {c : Instr}
    (hc : c ∈ [Instr.getId, .attest, .getCert, .enroll helper, .secReserved cmd]) : ∃ t, exec c s = .next (s.secGate t) := by
  simp only [List.mem_cons, List.not_mem_nil, or_false] at hc
  obtain rfl | rfl | rfl | rfl | rfl := hc
  case inl =>
    cases h : s.boot.ident with
    | none => exact ⟨_, congrArg Host.Outcome.next ((if_pos hreach).trans (State.getId_unknown h))⟩
    | some key => exact ⟨_, congrArg Host.Outcome.next ((if_pos hreach).trans (State.getId_known h))⟩
  case inr.inl =>
    cases h : s.boot.ident with
    | none => exact ⟨_, congrArg Host.Outcome.next ((if_pos hreach).trans (State.attest_unknown h))⟩
    | some key => exact ⟨_, congrArg Host.Outcome.next ((if_pos hreach).trans (State.attest_known h))⟩
  case inr.inr.inl =>
    cases h : s.boot.certs.find? (fun c => c.1 == s.get F.SEC_MBOX_ARG_INDEX) with
    | none => exact ⟨_, congrArg Host.Outcome.next ((if_pos hreach).trans (State.getCert_missing h))⟩
    | some c => exact ⟨_, congrArg Host.Outcome.next ((if_pos hreach).trans (State.getCert_found h))⟩
  case inr.inr.inr.inl =>
    by_cases h : s.get F.GLB_FALLOW_REASON_FALLOW ≠ 0 ∧ s.get F.GLB_FALLOW_REASON_REASON = 3
    · exact ⟨_, congrArg Host.Outcome.next ((if_pos hreach).trans (State.enroll_open h))⟩
    · exact ⟨_, congrArg Host.Outcome.next ((if_pos hreach).trans (State.enroll_shut h))⟩
  case inr.inr.inr.inr => exact ⟨_, congrArg Host.Outcome.next (if_pos hreach)⟩

/-- A security command has begun. -/
def State.SecRuns (s t : State) (c result : Nat) : Prop :=
  t.get F.SEC_MBOX_STATUS_BUSY = 1 ∧ t.boot.sec = some ⟨c, result, s.time⟩ ∧
    t = { s with regs := t.regs, flash := t.flash, boot := { s.boot with sec := t.boot.sec, nonce := t.boot.nonce, snapped := t.boot.snapped } }

theorem State.secBegun_runs (s : State) (c result : Nat) {act : State → State} (hact : act s = { s with
      regs := (act s).regs, flash := (act s).flash, boot := { s.boot with nonce := (act s).boot.nonce, snapped := (act s).boot.snapped } }) :
    s.SecRuns (s.secBegun c result act) c result := by
  refine ⟨(act s).get_set_same F.SEC_MBOX_STATUS_BUSY 1, ?_, ?_⟩
  · exact congrArg (fun n => some (MboxRun.mk c result n)) (congrArg State.time hact :)
  · unfold State.secBegun
    rw [hact]
    rfl

/-- One that has left only its mark in the registers. -/
def State.SecPlain (s t : State) (c result : Nat) : Prop :=
  s.SecRuns t c result ∧ t.flash = s.flash ∧ s.RegsBut t [F.SEC_MBOX_STATUS_BUSY]

theorem State.secBegun_plain (s : State) (c result : Nat) : s.SecPlain (s.secBegun c result id) c result :=
  ⟨s.secBegun_runs c result rfl, rfl, ((State.RegsBut.refl s [F.SEC_MBOX_STATUS_BUSY]).set (f := F.SEC_MBOX_STATUS_BUSY) 1 (by simp) :)⟩

/-- A buffer that holds bytes from its first register on. -/
def State.Holds (t : State) (f : Nat → Fld) (bs : List Byte) : Prop :=
  bs.length ≤ 8192 → ∀ i, 4 * i + 4 ≤ bs.length → t.get (f i) = leNat ((bs.drop (4 * i)).take 4)

theorem State.secPut_holds (s : State) (bs : List Byte) : (s.secPut bs).Holds F.SEC_MBOX_BUF_DATA bs :=
  fun hlen => (s.bufPut_spec secBuf_key (fun _ => rfl) hlen).1

theorem State.Holds.of_sec {t u : State} {bs : List Byte} (h : u.Holds F.SEC_MBOX_BUF_DATA bs)
    (hregs : ∀ f : Fld, f.r = .SEC_MBOX_BUF → t.get f = u.get f) : t.Holds F.SEC_MBOX_BUF_DATA bs :=
  fun hlen i hi => (hregs _ rfl).trans (h hlen i hi)

theorem State.secPut_state (s : State) (bs : List Byte) : s.secPut bs = { s with regs := (s.secPut bs).regs } := by
  have hframe : s.Only Part.regs (s.secPut bs) := by simp
  exact hframe.eq_mix.trans (by simp [State.mix])

theorem State.secBegun_put (s : State) (c : Nat) (bs : List Byte) :
    s.SecRuns (s.secBegun c 0 fun s => s.secPut bs) c 0 ∧ (s.secBegun c 0 fun s => s.secPut bs).Holds F.SEC_MBOX_BUF_DATA bs := by
  constructor
  · refine s.secBegun_runs c 0 ?_
    rw [s.secPut_state bs]
  · refine (s.secPut_holds bs).of_sec fun f hf => ?_
    exact (s.secPut bs).get_set_ne (f := F.SEC_MBOX_STATUS_BUSY) 1 (Fld.key_ne_of_reg (by rw [hf]; simp [F.SEC_MBOX_STATUS_BUSY]))

theorem State.secDone_spec {s : State} {x : MboxRun} (hx : s.boot.sec = some x) (hwait : ¬(x.cmd = 2 ∧ x.result = 0 ∧ s.boot.snapped = false)) :
    ∃ t, s.secDone = t ∧ t.get F.SEC_MBOX_STATUS_BUSY = 0 ∧ t.get F.SEC_MBOX_STATUS_DONE = 1 ∧
    t.get F.SEC_MBOX_STATUS_RESULT = x.result % 8 ∧ s.Raised t 43 ∧
    s.RegsBut t ([F.SEC_MBOX_STATUS_BUSY, F.SEC_MBOX_STATUS_DONE, F.SEC_MBOX_STATUS_RESULT] ++ eventFlds) ∧
    t = { s with regs := t.regs, irq := t.irq, boot := { s.boot with sec := none } } := by
  have honly : s.OnlyRegs (((s.set F.SEC_MBOX_STATUS_BUSY 0).set F.SEC_MBOX_STATUS_DONE 1).set F.SEC_MBOX_STATUS_RESULT x.result)
      [F.SEC_MBOX_STATUS_BUSY, F.SEC_MBOX_STATUS_DONE, F.SEC_MBOX_STATUS_RESULT] :=
    (((State.OnlyRegs.refl s _).set _ (by simp)).set _ (by simp)).set _ (by simp)
  obtain ⟨t, ht, hget, hraised, hregs, hstate⟩ := honly.bootSignal (by
    simp [F.SEC_MBOX_STATUS_BUSY, F.SEC_MBOX_STATUS_DONE, F.SEC_MBOX_STATUS_RESULT]) 43 { s.boot with sec := none }
  refine ⟨t, ?_, (hget F.SEC_MBOX_STATUS_BUSY (by decide) (by decide)).trans ?_,
    (hget F.SEC_MBOX_STATUS_DONE (by decide) (by decide)).trans ?_,
    (hget F.SEC_MBOX_STATUS_RESULT (by decide) (by decide)).trans ?_, hraised, hregs, hstate⟩
  · rw [State.secDone, hx, ← ht]
    exact if_neg hwait
  all_goals simp [State.get_set_ne, Fld.key_iff, F.SEC_MBOX_STATUS_BUSY, F.SEC_MBOX_STATUS_DONE, F.SEC_MBOX_STATUS_RESULT]

theorem State.attestSnapshot_eq {s : State} {x : MboxRun} {key : List Byte} (hx : s.boot.sec = some x) (hkey : s.boot.ident = some key) :
    s.attestSnapshot = if x.cmd = 2 ∧ x.result = 0 ∧ s.boot.snapped = false ∧ x.since < s.swath * 8192 then
      let u := s.secPut (s.attestReport key ++ (List.range 2420).map (Config.identitySign key (sha3 (s.attestReport key))))
      { u with free := u.free + 64, boot := { u.boot with snapped := true } } else s := by
  rw [State.attestSnapshot, hx, hkey]

/-- The snapshot: the report and its signature stand in the buffer. -/
theorem State.attestSnapshot_taken {s : State} {x : MboxRun} {key : List Byte} (hx : s.boot.sec = some x) (hkey : s.boot.ident = some key)
    (hdue : x.cmd = 2 ∧ x.result = 0 ∧ s.boot.snapped = false) (hsince : x.since < s.swath * 8192) : ∃ t, s.attestSnapshot = t ∧
    t.Holds F.SEC_MBOX_BUF_DATA (s.attestReport key ++ (List.range 2420).map (Config.identitySign key (sha3 (s.attestReport key)))) ∧
    t.boot.snapped = true ∧ t.flash = s.flash ∧ t.jobs = s.jobs ∧ t.mem = s.mem ∧ t.irq = s.irq := by
  obtain ⟨h2, h0, hsnap⟩ := hdue
  rw [State.attestSnapshot_eq hx hkey, if_pos ⟨h2, h0, hsnap, hsince⟩]
  generalize s.attestReport key ++ (List.range 2420).map (Config.identitySign key (sha3 (s.attestReport key))) = bs
  have hstate := s.secPut_state bs
  exact ⟨_, rfl, (s.secPut_holds bs).of_sec fun _ _ => rfl, rfl, (congrArg State.flash hstate :), (congrArg State.jobs hstate :),
    (congrArg State.mem hstate :), (congrArg State.irq hstate :)⟩

theorem State.attestReport_begins (s : State) (key : List Byte) : ∃ rest, s.attestReport key = leBytes 4 0x54414C4F ++ leBytes 2 1 ++
    leBytes 1 ((List.range 64).filter fun c => s.get (F.GLB_CTX_STATE_STATE c) != 0).length ++
    leBytes 1 (s.get F.GLB_FALLOW_REASON_FALLOW + 2 * s.get F.GLB_FALLOW_REASON_REASON) ++ (sha3 key).take 16 ++ s.boot.nonce ++
    leBytes 8 (s.swath * 8192) ++ leBytes 2 0xA1 ++ leBytes 2 s.boot.version ++ leBytes 4 s.boot.seq ++ rest := by
  refine ⟨leBytes 1 (s.get F.BOOT_STATUS_SLOT + 2 * s.get F.BOOT_STATUS_BANK + 4 * s.get F.GLB_LEVEL_LEVEL) ++ (List.replicate 7 0 ++
    ((List.range 32).map Config.romByte ++ (measure s.boot.mFw ++ (measure s.boot.mBank ++ (measure s.boot.mInteg ++
    ((List.range 64).filter fun c => s.on (F.GLB_CTX_STATE_STATE c)).flatMap s.reportEntry))))), ?_⟩
  unfold State.attestReport
  simp only [List.append_assoc]
  rfl

/-! ### Firmware switch-over -/

theorem State.switchEnd_spec (s : State) : ∃ u, s.switchEnd = u ∧ u.get F.BOOT_STATUS_SWITCH_BUSY = 0 ∧ u.get F.BOOT_SP_STATUS_PAUSED = 0 ∧
    u.boot = { s.boot with switch := none } ∧ s.RegsBut u [F.BOOT_STATUS_SWITCH_BUSY, F.BOOT_SP_STATUS_PAUSED] ∧
    u = { s with regs := u.regs, boot := { s.boot with switch := none } } := by
  refine ⟨_, rfl, ?_, ?_, rfl, ?_, rfl⟩
  · exact ((s.set F.BOOT_STATUS_SWITCH_BUSY 0).get_set_ne (f := F.BOOT_SP_STATUS_PAUSED) 0 (by decide)).trans (State.get_set_same ..)
  · exact (s.set F.BOOT_STATUS_SWITCH_BUSY 0).get_set_same F.BOOT_SP_STATUS_PAUSED 0
  · exact ((State.RegsBut.refl s [F.BOOT_STATUS_SWITCH_BUSY, F.BOOT_SP_STATUS_PAUSED]).set (f := F.BOOT_STATUS_SWITCH_BUSY) 0 (by simp)).set
      (f := F.BOOT_SP_STATUS_PAUSED) 0 (by simp)

/-- A switch-over that ends in time: the new slot is in force, and vector 44 has an event. -/
theorem State.switchDone_spec {s : State} {t0 i : Nat} {x : SlotInfo} (hsw : s.boot.switch = some (t0, i)) (hslot : s.slotInfo i = some x)
    (htime : s.time ≤ t0 + 1000000000) : ∃ t, s.switchDone = t ∧
    (t.get F.BOOT_STATUS_SWITCH_BUSY = 0 ∧ t.get F.BOOT_SP_STATUS_PAUSED = 0 ∧ t.boot.switch = none) ∧
    t.get F.BOOT_STATUS_SLOT = i % 2 ∧ t.get F.BOOT_STATUS_SWITCH_DONE = 1 ∧ s.Raised t 44 ∧ t.boot.mFw = x.digest ∧
    t.boot.version = x.version ∧ t.boot.binds = s.boot.binds ∧ t.jobs = s.jobs ∧ t.tusss = s.tusss := by
  obtain ⟨u, hu, hbusy, hpaused, hboot, hregs, hstate⟩ := s.switchEnd_spec
  obtain ⟨v, hv⟩ : ∃ v, (u.runSlot i x).set F.BOOT_STATUS_SWITCH_DONE 1 = v := ⟨_, rfl⟩
  have hfinal : s.switchDone = v.signal 44 := by
    rw [State.switchDone, hsw]
    dsimp only
    rw [hslot]
    dsimp only
    rw [if_pos htime, hu, hv]
  have hvregs : u.RegsBut v [F.BOOT_STATUS_SLOT, F.SEC_STATUS_TP_KEY, F.BOOT_STATUS_SWITCH_DONE] := by
    rw [← hv]
    exact (((State.RegsBut.refl u _).set (f := F.BOOT_STATUS_SLOT) i (by simp)).set (f := F.SEC_STATUS_TP_KEY) 1 (by simp)).set
      (f := F.BOOT_STATUS_SWITCH_DONE) 1 (by simp)
  have hvirq : v.irq = s.irq := by rw [← hv, hstate]; rfl
  have hsig {f : Fld} (hlo : f.r ≠ .GLB_IRQ_EVENT_LO) (hhi : f.r ≠ .GLB_IRQ_EVENT_HI) : (v.signal 44).get f = v.get f := v.get_signal 44 hlo hhi
  have hparts := v.signal_parts 44
  refine ⟨_, hfinal, ⟨?_, ?_, ?_⟩, ?_, ?_, ?_, ?_, ?_, ?_, ?_, ?_⟩
  · exact (hsig (by decide) (by decide)).trans ((hvregs _ (by decide)).trans hbusy)
  · exact (hsig (by decide) (by decide)).trans ((hvregs _ (by decide)).trans hpaused)
  · rw [hparts, ← hv]
    exact (congrArg Boot.switch hboot :)
  · refine (hsig (by decide) (by decide)).trans ?_
    rw [← hv]
    refine (State.get_set_ne _ 1 (by decide)).trans ?_
    refine ((u.set F.BOOT_STATUS_SLOT i).get_set_ne (f := F.SEC_STATUS_TP_KEY) 1 (by decide)).trans ?_
    exact u.get_set_same F.BOOT_STATUS_SLOT i
  · refine (hsig (by decide) (by decide)).trans ?_
    rw [← hv]
    exact State.get_set_same ..
  · refine (v.signal_raised 44).congr_left hvirq fun f hf => ?_
    have hf : f = F.GLB_IRQ_EVENT_LO_EVENT ∨ f = F.GLB_IRQ_EVENT_HI_EVENT := by simpa [eventFlds] using hf
    obtain rfl | rfl := hf
    · exact (hvregs _ (by decide)).trans (hregs _ (by decide))
    · exact (hvregs _ (by decide)).trans (hregs _ (by decide))
  · rw [hparts, ← hv]
    rfl
  · rw [hparts, ← hv]
    rfl
  · rw [hparts, ← hv]
    exact (congrArg Boot.binds hboot :)
  · rw [hparts, ← hv]
    exact (congrArg State.jobs hstate :)
  · rw [hparts, ← hv]
    exact (congrArg State.tusss hstate :)

theorem State.fwSwitch_spec (s : State) : ∃ t, s.fwSwitch = t ∧
    (¬(s.get F.BOOT_STATUS_READY ≠ 0 ∧ s.boot.switch = none ∧ (s.slotInfo (1 - s.get F.BOOT_STATUS_SLOT)).isSome = true) → t = s) ∧
    (s.get F.BOOT_STATUS_READY ≠ 0 ∧ s.boot.switch = none ∧ (s.slotInfo (1 - s.get F.BOOT_STATUS_SLOT)).isSome = true →
      t.get F.BOOT_STATUS_SWITCH_BUSY = 1 ∧ t.get F.BOOT_SP_STATUS_PAUSED = 1 ∧
      s.RegsBut t [F.BOOT_STATUS_SWITCH_BUSY, F.BOOT_SP_STATUS_PAUSED] ∧
      t = { s with regs := t.regs, boot := { s.boot with switch := some (s.time, 1 - s.get F.BOOT_STATUS_SLOT) } }) := by
  have hcond : (s.on F.BOOT_STATUS_READY && s.boot.switch.isNone && (s.slotInfo (1 - s.get F.BOOT_STATUS_SLOT)).isSome) = true ↔
      s.get F.BOOT_STATUS_READY ≠ 0 ∧ s.boot.switch = none ∧ (s.slotInfo (1 - s.get F.BOOT_STATUS_SLOT)).isSome = true := by
    simp [State.on, and_assoc]
  refine ⟨_, rfl, fun hno => if_neg (hcond.not.2 hno), fun hok => ?_⟩
  have heq : s.fwSwitch = { (s.set F.BOOT_STATUS_SWITCH_BUSY 1).set F.BOOT_SP_STATUS_PAUSED 1 with
      boot := { s.boot with switch := some (s.time, 1 - s.get F.BOOT_STATUS_SLOT) } } := if_pos (hcond.2 hok)
  rw [heq]
  refine ⟨?_, ?_, ?_, rfl⟩
  · exact ((s.set F.BOOT_STATUS_SWITCH_BUSY 1).get_set_ne (f := F.BOOT_SP_STATUS_PAUSED) 1 (by decide)).trans (State.get_set_same ..)
  · exact (s.set F.BOOT_STATUS_SWITCH_BUSY 1).get_set_same F.BOOT_SP_STATUS_PAUSED 1
  · exact ((State.RegsBut.refl s [F.BOOT_STATUS_SWITCH_BUSY, F.BOOT_SP_STATUS_PAUSED]).set (f := F.BOOT_STATUS_SWITCH_BUSY) 1 (by simp)).set
      (f := F.BOOT_SP_STATUS_PAUSED) 1 (by simp)

/-- A switch-over of more than 1 s that the old slot survives. -/
theorem State.switchLate_old {s : State} {t0 i : Nat} (hsw : s.boot.switch = some (t0, i)) (hlate : t0 + 1000000000 < s.time) :
    ∃ t, s.switchLate true = t ∧ (t.get F.BOOT_STATUS_SWITCH_BUSY = 0 ∧ t.get F.BOOT_SP_STATUS_PAUSED = 0 ∧ t.boot.switch = none) ∧
      t.get F.BOOT_STATUS_SWITCH_FAIL = 1 ∧ s.RegsBut t [F.BOOT_STATUS_SWITCH_BUSY, F.BOOT_SP_STATUS_PAUSED, F.BOOT_STATUS_SWITCH_FAIL] ∧
      t = { s with regs := t.regs, boot := { s.boot with switch := none } } := by
  obtain ⟨u, hu, hbusy, hpaused, hboot, hregs, hstate⟩ := s.switchEnd_spec
  have heq : s.switchLate true = u.set F.BOOT_STATUS_SWITCH_FAIL 1 := by
    rw [State.switchLate, hsw]
    dsimp only
    rw [if_pos hlate, if_pos rfl, hu]
  refine ⟨_, heq, ⟨?_, ?_, (congrArg Boot.switch hboot :)⟩, State.get_set_same .., ?_, ?_⟩
  · exact (State.get_set_ne _ 1 (by decide)).trans hbusy
  · exact (State.get_set_ne _ 1 (by decide)).trans hpaused
  · exact (hregs.mono (by simp)).set 1 (by simp)
  · conv_lhs => rw [hstate]
    rfl

/-- The three outcomes of a command that changes the flash. -/
theorem State.flashBegun_outcomes {s : State} {c : Instr} {code x n : Nat} {ok : Bool} {bs : List Byte} (hlen : bs.length = n)
    (hexec : exec c s = .next (s.flashBegun code x n ok bs)) {refused : Prop} (href : s.flashRefused x n = true ↔ refused)
    {now : State → Prop} (hnow : ∀ t : State, t.flash = (s.flashPut x bs).flash → now t) :
    (refused → ∃ t, exec c s = .next t ∧ s.MboxRuns t code 1 [] ∧ t.flash = s.flash ∧ t.free = s.free) ∧
    (¬refused → flashEnd < x + n → ∃ t, exec c s = .next t ∧ s.MboxRuns t code 2 [] ∧ t.flash = s.flash ∧ t.free = s.free) ∧
    (¬refused → x + n ≤ flashEnd → ∃ t, exec c s = .next t ∧ s.MboxRuns t code (if ok then 0 else 2) [] ∧
      (ok = true → now t ∧ t.free = s.free) ∧ s.FlashOutside t x n) := by
  obtain ⟨hrefused, hbeyond, hin⟩ := s.flashBegun_spec code x n ok hlen
  refine ⟨fun h => ⟨_, hexec, ?_⟩, fun h h' => ⟨_, hexec, ?_⟩, fun h h' => ⟨_, hexec, ?_⟩⟩
  · rw [hrefused (href.2 h)]
    exact ⟨s.mboxBegun_plain code 1, rfl, rfl⟩
  · rw [hbeyond (href.not.2 h) h']
    exact ⟨s.mboxBegun_plain code 2, rfl, rfl⟩
  · obtain ⟨hruns, hok, hout⟩ := hin (href.not.2 h) h'
    exact ⟨hruns, fun h => ⟨hnow _ (hok h).1, (hok h).2⟩, hout⟩

/-- Settles O59: firmware, the recovery mailbox and the security mailbox in turn. -/
theorem mailboxesSwitchFirmwareAndAttest : Obligations.MailboxesSwitchFirmwareAndAttest := by
  unfold Obligations.MailboxesSwitchFirmwareAndAttest
  intro reset toFallow busy holds
  refine ⟨fun s hreach => ⟨congrArg Host.Outcome.next (if_pos hreach), ?switch⟩, fun s oldOk hnone => ⟨?idle, ?idleLate⟩,
    fun s t0 i hsw => ⟨fun hlate => ⟨?lateDone, ?lateReset, ?lateOld⟩, fun htime => ⟨fun oldOk => ?early, ?done⟩⟩,
    fun s ok cmd hreach => ?recovery, fun s => ⟨fun hnone => ?noMbox, fun x hx => ?mboxDone⟩,
    fun s helper cmd hreach => ?security, fun s => ⟨fun hnone => ⟨?noSec, ?noSnap⟩, fun x hx => ⟨?wait, ?secDone, ?soon, ?snap⟩⟩⟩
  case switch =>
    obtain ⟨t, ht, hpost⟩ := s.fwSwitch_spec
    exact ⟨t, congrArg Host.Outcome.next ((if_pos hreach).trans ht), hpost⟩
  case idle => exact congrArg Host.Outcome.next (show s.switchDone = s by rw [State.switchDone, hnone])
  case idleLate => exact congrArg Host.Outcome.next (show s.switchLate oldOk = s by rw [State.switchLate, hnone])
  case lateDone =>
    refine congrArg Host.Outcome.next (show s.switchDone = s from ?_)
    rw [State.switchDone, hsw]
    dsimp only
    split
    · exact if_neg (by omega)
    · rfl
  case lateReset =>
    refine congrArg Host.Outcome.next (show s.switchLate false = _ from ?_)
    rw [State.switchLate, hsw]
    dsimp only
    rw [if_pos hlate, if_neg (by decide)]
    rfl
  case lateOld =>
    obtain ⟨t, ht, hpost⟩ := State.switchLate_old hsw hlate
    exact ⟨t, congrArg Host.Outcome.next ht, hpost⟩
  case early =>
    refine congrArg Host.Outcome.next (show s.switchLate oldOk = s from ?_)
    rw [State.switchLate, hsw]
    exact if_neg (by omega)
  case done =>
    refine ⟨s.switchDone, rfl, fun hslot => ?_, fun x hslot => ?_⟩
    · rw [State.switchDone, hsw]
      dsimp only
      rw [hslot]
    · obtain ⟨t, ht, hpost⟩ := State.switchDone_spec hsw hslot htime
      rw [ht]
      exact hpost
  case recovery =>
    intro all a flag meet refused changes
    have hgate (c : Instr) (hc : c ∈ all) : exec c s = .next (s.mboxGate (s.mboxBegins c)) := exec_recovery ok cmd hreach hc
    refine ⟨fun hasleep c hc => ?_, fun hrun hbusy c hc => ⟨s.set F.BOOT_MBOX_STATUS_REJECT 1, ?_, State.get_set_same .., ?_⟩,
      fun hrun hidle => ?_⟩
    · rw [hgate c hc, State.mboxGate_asleep _ hasleep]
    · rw [hgate c hc, State.mboxGate_busy _ hrun hbusy]
    · exact (State.OnlyRegs.refl s _).set 1 (by simp)
    have hbegins (c : Instr) (hc : c ∈ all) : exec c s = .next (s.mboxBegins c) := by rw [hgate c hc, State.mboxGate_idle _ hrun hidle]
    refine ⟨?read, ?readFails, ?erase, ?unaligned, ?program, ?slot, ?bank, ?reserved, ?fallow, ?reboot⟩
    case read =>
      rintro ⟨rfl, hin⟩
      obtain ⟨t, ht, hruns, hflash, hfree, hget⟩ := s.readBegun_done hin
      exact ⟨t, (hbegins _ (by simp [all])).trans (congrArg _ ht), hflash, hfree, hruns, hget⟩
    case readFails =>
      intro hno
      have hfails : s.readBegun ok = s.mboxBegun 1 2 id :=
        if_neg (by rw [Bool.and_eq_true, decide_eq_true_eq]; exact hno)
      exact ⟨_, (hbegins _ (by simp [all])).trans (congrArg _ hfails), s.mboxBegun_plain 1 2, rfl, rfl⟩
    case erase =>
      refine State.flashBegun_outcomes (List.length_replicate ..) (hbegins _ (by simp [all])) (s.flashRefused_iff _ _) fun t ht i hi => ?_
      have hpart := s.flashBytes_flashPut_in (a / 65536 * 65536) i 1 (bs := List.replicate 65536 0xFF) (by rw [List.length_replicate]; omega)
      rw [List.drop_replicate, List.take_replicate, Nat.min_eq_left (by omega)] at hpart
      have hflash : t.flashBytes (a / 65536 * 65536 + i) 1 = (s.flashPut (a / 65536 * 65536) (List.replicate 65536 0xFF)).flashBytes
          (a / 65536 * 65536 + i) 1 := by
        rw [State.flashBytes, ht]
        rfl
      exact hflash.trans hpart
    case unaligned =>
      intro hodd
      have hfails : s.programBegun ok = s.mboxBegun 3 1 id := if_pos hodd
      exact ⟨_, (hbegins _ (by simp [all])).trans (congrArg _ hfails), s.mboxBegun_plain 3 1, rfl, rfl⟩
    case program =>
      intro heven
      have hprogram : s.programBegun ok = s.flashBegun 3 s.mboxAddr 4096 ok (s.bufGet F.BOOT_MBOX_BUF_DATA 1024) := if_neg (not_not.2 heven)
      refine State.flashBegun_outcomes (s.length_bufGet F.BOOT_MBOX_BUF_DATA 1024) ((hbegins (.program ok) (by simp [all])).trans
        (congrArg Host.Outcome.next hprogram)) (s.flashRefused_iff _ _) fun t ht i hi => ?_
      have hpart := s.flashBytes_flashPut_in a (4 * i) 4 (bs := s.bufGet F.BOOT_MBOX_BUF_DATA 1024) (by rw [State.length_bufGet]; omega)
      rw [State.bufGet_word s _ hi] at hpart
      have hflash : t.flashBytes (a + 4 * i) 4 = (s.flashPut a (s.bufGet F.BOOT_MBOX_BUF_DATA 1024)).flashBytes (a + 4 * i) 4 := by
        rw [State.flashBytes, ht]
        rfl
      exact hflash.trans hpart
    case slot =>
      refine ⟨_, hbegins _ (by simp [all]), rfl, rfl, ?_⟩
      have := s.mboxBegun_plain 4 (verifyResult ok (s.slotInfo flag).isSome)
      cases ok <;> exact this
    case bank =>
      refine ⟨_, hbegins _ (by simp [all]), rfl, rfl, ?_⟩
      have := s.mboxBegun_plain 5 (verifyResult ok (s.bank flag).isSome)
      cases ok <;> exact this
    case reserved => exact ⟨_, hbegins _ (by simp [all]), s.mboxBegun_plain cmd.toNat 4, rfl, rfl⟩
    case fallow => exact hbegins _ (by simp [all])
    case reboot =>
      refine (hbegins _ (by simp [all])).trans (congrArg Host.Outcome.next ?_)
      by_cases hflag : s.mboxFlag = 1
      · exact (if_pos hflag).trans (by rw [show flag = 1 from hflag, if_pos rfl]; rfl)
      · exact (if_neg hflag).trans (by rw [if_neg (show ¬flag = 1 from hflag)]; rfl)
  case noMbox => exact congrArg Host.Outcome.next (show s.mboxDone = s by rw [State.mboxDone, hnone])
  case mboxDone =>
    obtain ⟨t, ht, hpost⟩ := State.mboxDone_spec hx
    exact ⟨t, congrArg Host.Outcome.next ht, hpost⟩
  case security =>
    intro all closed begun plain
    refine ⟨fun hclosed c hc => ?_, fun hopen => ⟨fun hnone => ⟨?_, ?_⟩, fun key hkey => ⟨?_, ?_⟩, fun found hfound => ?_, fun hfallow => ?_,
      fun hshut => ?_, ?_⟩⟩
    · obtain ⟨t, ht⟩ := exec_security helper cmd hreach hc
      rw [State.secGate_closed t hclosed] at ht
      exact ⟨_, ht, State.get_set_same .., (State.OnlyRegs.refl s _).set 1 (by simp)⟩
    · have hstep : s.getId = _ := (State.getId_unknown hnone).trans (State.secGate_open _ hopen)
      exact ⟨_, congrArg Host.Outcome.next ((if_pos hreach).trans hstep), s.secBegun_plain 1 2⟩
    · have hstep : s.attest = _ := (State.attest_unknown hnone).trans (State.secGate_open _ hopen)
      exact ⟨_, congrArg Host.Outcome.next ((if_pos hreach).trans hstep), s.secBegun_plain 2 2⟩
    · have hstep : s.getId = _ := (State.getId_known hkey).trans (State.secGate_open _ hopen)
      exact ⟨_, congrArg Host.Outcome.next ((if_pos hreach).trans hstep), s.secBegun_put 1 _⟩
    · have hstep : s.attest = _ := (State.attest_known hkey).trans (State.secGate_open _ hopen)
      exact ⟨_, congrArg Host.Outcome.next ((if_pos hreach).trans hstep), ⟨s.secBegun_runs 2 0 rfl, rfl,
        ((State.RegsBut.refl s [F.SEC_MBOX_STATUS_BUSY]).set (f := F.SEC_MBOX_STATUS_BUSY) 1 (by simp) :)⟩, rfl, rfl⟩
    · cases found with
      | none =>
        have hstep : s.getCert = _ := (State.getCert_missing hfound).trans (State.secGate_open _ hopen)
        exact ⟨_, congrArg Host.Outcome.next ((if_pos hreach).trans hstep), s.secBegun_plain 3 1⟩
      | some c =>
        have hstep : s.getCert = _ := (State.getCert_found hfound).trans (State.secGate_open _ hopen)
        exact ⟨_, congrArg Host.Outcome.next ((if_pos hreach).trans hstep), s.secBegun_put 3 c.2⟩
    · have hstep : s.enroll helper = _ := (State.enroll_open hfallow).trans (State.secGate_open _ hopen)
      exact ⟨_, congrArg Host.Outcome.next ((if_pos hreach).trans hstep), s.secBegun_runs 4 0 rfl, rfl⟩
    · have hstep : s.enroll helper = _ := (State.enroll_shut hshut).trans (State.secGate_open _ hopen)
      exact ⟨_, congrArg Host.Outcome.next ((if_pos hreach).trans hstep), s.secBegun_plain 4 1⟩
    · exact ⟨_, congrArg Host.Outcome.next ((if_pos hreach).trans (State.secGate_open _ hopen)), s.secBegun_plain cmd.toNat 3⟩
  case noSec => exact congrArg Host.Outcome.next (show s.secDone = s by rw [State.secDone, hnone])
  case noSnap => exact congrArg Host.Outcome.next (show s.attestSnapshot = s by rw [State.attestSnapshot, hnone])
  case wait =>
    intro hwaits
    refine congrArg Host.Outcome.next (show s.secDone = s from ?_)
    rw [State.secDone, hx]
    exact if_pos hwaits
  case secDone =>
    intro hfree
    refine ⟨congrArg Host.Outcome.next (show s.attestSnapshot = s from ?_), ?_⟩
    · cases hkey : s.boot.ident with
      | none => rw [State.attestSnapshot, hx, hkey]
      | some key =>
        rw [State.attestSnapshot_eq hx hkey]
        exact if_neg fun ⟨h2, h0, hsnap, _⟩ => hfree ⟨h2, h0, hsnap⟩
    · obtain ⟨t, ht, hpost⟩ := State.secDone_spec hx hfree
      exact ⟨t, congrArg Host.Outcome.next ht, hpost⟩
  case soon =>
    intro key hwaits hkey hsoon
    refine congrArg Host.Outcome.next (show s.attestSnapshot = s from ?_)
    rw [State.attestSnapshot_eq hx hkey]
    exact if_neg fun ⟨_, _, _, h⟩ => by omega
  case snap =>
    intro key hwaits hkey hsince
    obtain ⟨t, ht, hpost⟩ := State.attestSnapshot_taken hx hkey hwaits hsince
    obtain ⟨rest, hrest⟩ := s.attestReport_begins key
    exact ⟨t, rest, congrArg Host.Outcome.next ht, hrest, hpost⟩

end Sys2Proof.Machine
